-- ==== Sys2Proof/Word.lean ====
section
/-!
DEFINITION. The words of the HXI-9620's registers and frames, and the three independent copies (lanes) of everything
that decides (00_scope.md R5, R6; 01_architecture.md R10).
-/

namespace Sys2Proof

/-- A register, and the unit of every host access (R532). -/
abbrev Word := BitVec 32

/-- A byte of a frame, a mailbox message or a record. -/
abbrev Byte := BitVec 8

/-- An element state word, a CRC-64, a gallery entry, a word of the decision vector (R68, R346, R198). -/
abbrev DWord := BitVec 64

/-- A tick number: 32 bits, wrapping (R3). -/
abbrev Tick := BitVec 32

/-- The three independent computing channels (00_scope.md, Fixed terms). -/
inductive Lane where
  | a | b | c
deriving DecidableEq, Repr

/-- One value for each lane. -/
structure PerLane (α : Type) where
  a : α
  b : α
  c : α
deriving DecidableEq, Repr

/-- The same value in every lane. -/
def PerLane.all {α : Type} (x : α) : PerLane α := ⟨x, x, x⟩

/-- The two switches of an output channel (R244). -/
inductive Side where
  | high | low
deriving DecidableEq, Repr

/-- A field channel: index `k - 1` of CHk, 48 of them (R278). -/
abbrev Chan := Fin 48

/-- A bank FB1 to FB3: index `n - 1` (R278). -/
abbrev Bank := Fin 3

/-- A Kazsan link port LNK0 to LNK3 (R301). -/
abbrev Port := Fin 4

end Sys2Proof
end

