-- ==== Sys2Proof/Syntax.lean ====
section
/-!
DEFINITION. The commands: one constructor of `Instr` for each row of spec/opcode_table.json, with the operands that the
rule of the row names. Operands are what comes to the block from outside it (a host access, a pin, a field condition, a
received frame, an instant) and the outcome of physics the manual does not compute (what a comparator saw).
-/

namespace Sys2Proof

/-! ### Operands of the lanes and of the tick -/

/-- Class of a land as Echo reports it (R254, R294). -/
inductive PinClass where
  | low | mid | high
deriving DecidableEq, Repr

/-- Class of the load current (R295). -/
inductive CurClass where
  | opn | normal | over | trip
deriving DecidableEq, Repr

/-- Class of a bank's field supply (R279). -/
inductive SupplyClass where
  | uv | ok | ov
deriving DecidableEq, Repr

/-- What one lane's comparator set shows of one output channel (R254, R295). -/
structure EchoItem where
  h : PinClass
  l : PinClass
  gdH : Bool
  gdL : Bool
  cur : CurClass
deriving DecidableEq, Repr

/-- A two-bit sample code (R180). -/
inductive Sample where
  | inactive | active | fault | missing
deriving DecidableEq, Repr

/-- The SRAM of a lane in which an ECC error lies: MEM of DGN_ECCADDR (R243). -/
inductive LaneMem where
  | processor | ruleTable | stateSram
deriving DecidableEq, Repr

/-- Bytes of a lane's memories (R234). -/
def LaneMem.size : LaneMem → Nat
  | .processor => 12582912
  | .ruleTable => 4194304
  | .stateSram => 262144

/-- One read of a 64-bit word of lane memory with its 8 check bits (R234): memory, byte address asked for, byte address of the
word that came, and the bits of word and check that are wrong. -/
structure EccRead where
  mem : LaneMem
  addr : BitVec 24
  came : BitVec 24
  wrong : BitVec 72
deriving DecidableEq, Repr

/-- A block of the Glefel exchange as its reader finds it (R20, R393): the lane in whose place it stands, its bytes. -/
structure ExMsg where
  place : Lane
  bytes : List Byte
deriving DecidableEq, Repr

/-- A lane's own copy of a frame of the frozen buffer where it differs: index, the bytes of the first reading and of the reading
again (R188). -/
structure FrameCopy where
  idx : Nat
  first : List Byte
  again : List Byte
deriving DecidableEq, Repr

/-- A lane's own copy of a mailbox message where it differs (R189): secure window, channel, its 64 bytes. -/
structure MsgCopy where
  secure : Bool
  ch : Fin 8
  bytes : List Byte
deriving DecidableEq, Repr

/-- What a link packet brings to its receiver (R429): the sample block or digest message of a lane, a frame of the frozen buffer, a message
of the snapshot, the samples of a field die, or data of another kind. -/
inductive PacketData where
  | samples (m : Lane) | digest (m : Lane) | frame (idx : Nat) | message (secure : Bool) (ch : Fin 8) | field (b : Bank) | other
deriving DecidableEq, Repr

/-- A packet of a Glefel link whose first copy fails its check value, as both copies arrive, check value included (R429). -/
structure LinkPacket where
  first : List Byte
  again : List Byte
  brings : PacketData
deriving DecidableEq, Repr

/-- What a known-answer test of the automatic engines computes (R430): over the test packet, over the test frame. -/
structure KatRead where
  link : BitVec 32
  frame : BitVec 32
deriving DecidableEq, Repr

/-- A difference between the processor vector and the Casman result region (R200, R243): part code, word, words that differ. -/
structure XcMiss where
  part : BitVec 4
  word : BitVec 17
  count : Nat
deriving DecidableEq, Repr

/-- A flipped word of one lane's decision vector: part code (R198), word index, mask. -/
structure VecFlip where
  part : BitVec 4
  word : Nat
  mask : DWord
deriving DecidableEq, Repr

/-- A resync request as it reaches the donor (R206): the lane that posted it, and its bytes where they are other than sealed. -/
structure CopyReq where
  lane : Lane
  bytes : Option (List Byte)
deriving DecidableEq, Repr

/-- A copy segment as the recipient finds it where it is other than sealed: its place in the order of the copy, its bytes. -/
structure SegObs where
  place : Nat
  bytes : List Byte
deriving DecidableEq, Repr

/-- What a copy met (R207, R209): a word that differs afterwards, and the segments that arrived otherwise than sealed. -/
structure CopyObs where
  flip : Option VecFlip
  segs : List SegObs
deriving DecidableEq, Repr

/-- One value for each retained store that carries a format version (R462): the fault log, the retained request counters, the ageing
history. -/
structure PerStore (α : Type) where
  log : α
  counters : α
  ageing : α
deriving DecidableEq, Repr

/-- What BOOT meets beside the banks: UPD_LOCK_N reads low (R455), which stores that migrate could be converted (R462), and the loss of
power before it cut the last write of the bank record (R442). -/
structure BootObs where
  lockLow : Bool
  converted : PerStore Bool
  torn : Bool
deriving DecidableEq, Repr

/-- What one lane meets in one tick that the manual leaves to the world outside the logic it describes. -/
structure LaneObs where
  /-- the lane's clock runs, so that it publishes something in the tick (R217) -/
  clockRuns : Bool
  /-- measured deviation of the tick interval from T, in ppm (R15) -/
  intervalDevPpm : Int
  /-- P4 completion time t4 in µs from the edge (R37) -/
  t4Us : Nat
  /-- difference between processor and Casman vectors in P3, if any (R200) -/
  xcMiss : Option XcMiss
  /-- corruption that both technologies of the lane share (R203) -/
  vecFlip : Option VecFlip
  /-- reads of lane memory that meet an error (R234, R235) -/
  reads : List EccRead
  /-- reads of the scrubber that meet an error in this pass (R236, R237) -/
  scrubbed : List EccRead
  /-- lanes whose sample block did not reach this lane (R184) -/
  noBlockFrom : List Lane
  /-- lanes whose digest message did not reach this lane (R202) -/
  noDigestFrom : List Lane
  /-- sample blocks that reach this lane otherwise than sealed (R20, R184) -/
  blocks : List ExMsg
  /-- digest messages that reach this lane otherwise than sealed (R20, R202) -/
  digests : List ExMsg
  /-- frames of the frozen buffer of which this lane has another copy (R188) -/
  frames : List FrameCopy
  /-- mailbox messages of which this lane has another copy (R189) -/
  msgs : List MsgCopy
  /-- banks whose field die delivers nothing to this lane (R292) -/
  noData : List Bank
  /-- class of VFn (R279), one for each bank -/
  vf : Vector SupplyClass 3
  /-- VFn in units of 50 mV, one for each bank (R300) -/
  vfVal : Vector (BitVec 10) 3
  /-- sum current of each bank in units of 50 mA (R297, R300) -/
  iBank : Vector (BitVec 8) 3
  /-- sum current of the bank above 6.5 A (R297) -/
  bankOver : Vector Bool 3
  /-- Echo items that differ from what the switches alone imply (R254) -/
  echo : List (Chan × EchoItem)
  /-- UPD_LOCK_N sampled low (R455) -/
  updLockLow : Bool
  /-- values that the known-answer test of the automatic engines reads, where one is due (R430) -/
  kat : KatRead
  /-- packets of its Glefel link, in either direction, that were sent again (R429) -/
  packets : List LinkPacket
deriving DecidableEq, Repr

/-- The surroundings of one tick. -/
structure TickObs where
  lanes : PerLane LaneObs
  /-- majority element outputs that moved while fewer than two interface outputs were high (R251) -/
  voterTrans : List (Chan × Side)
  /-- a channel of each field die that accepted a token whose CHK did not verify, as the lane interface self-check found (R271) -/
  badTokens : List Chan
  /-- VFn feeds the field-side half of its bank (R12), one for each bank -/
  vfOn : Vector Bool 3
  /-- VHOLD in units of 10 mV (R468, AON_VHOLD) -/
  vhold : BitVec 12
  /-- work of a lane is left in P5 (R35) -/
  p5Left : PerLane Bool
  /-- NVM1 takes the appends of the tick (R473, R487) -/
  flashOk : Bool
deriving DecidableEq, Repr

/-- First difference that a comparator recorded: pair, group, bit, low 16 bits of the cycle (R243). -/
structure CmpDiff where
  pair : Bool
  group : BitVec 4
  bit : BitVec 8
  cycle : BitVec 16
deriving DecidableEq, Repr

/-- A delay register that goes wrong (R221, R228): it keeps its entries, or it loses one. -/
inductive DelayFault where
  | freeze | skip
deriving DecidableEq, Repr

/-- What one core pair and its delay registers do in one lane-processor cycle (R219-R221): groups G0 to G6 that the leading and
the trailing core present, the leading core's read data, read response and interrupts, bits disturbed in the entries that leave
the delay registers, a register that goes wrong, a cycle counter that stands still, the alive bits of the leading (bit 0) and the
trailing core. -/
structure PairCycle where
  lead : BitVec 346
  trail : BitVec 346
  input : BitVec 148
  outFlip : BitVec 348
  inFlip : BitVec 150
  outReg : Option DelayFault
  inReg : Option DelayFault
  leadStuck : Bool
  trailStuck : Bool
  alive : BitVec 2
deriving DecidableEq, Repr

/-- The same of both pairs of a lane. -/
structure LaneCycle where
  pair0 : PairCycle
  pair1 : PairCycle
deriving DecidableEq, Repr

/-- Condition of one comparator (R222, R228): a two-rail code at which it is stuck, and the bits of G0 to G8 to which it is blind. -/
structure Comparator where
  stuck : Option (BitVec 2)
  blind : BitVec 349
deriving DecidableEq, Repr

/-- Condition of the checking hardware of a lane (R221, R222, R228): comparators X and Y of each pair, parity groups of each
pair whose check is dead, a code at which a node of the checker tree is stuck, a commit gate stuck open. -/
structure Checker where
  x0 : Comparator
  y0 : Comparator
  x1 : Comparator
  y1 : Comparator
  dead0 : BitVec 16
  dead1 : BitVec 16
  node : Option (BitVec 2)
  gateOpen : Bool
deriving DecidableEq, Repr

/-- Cycles of a lane's core pairs, and the checking hardware that compares them (R218-R222). -/
structure CheckRun where
  cycles : List LaneCycle
  hw : Checker
deriving DecidableEq, Repr

/-- A comparator and checking hardware without a fault. -/
def Comparator.sound : Comparator := ⟨none, 0⟩

def Checker.sound : Checker := ⟨.sound, .sound, .sound, .sound, 0, 0, none, false⟩

/-- Outcome of the proof of one lane (R489): the first failing test, or none. -/
abbrev ProofResult := Option (Fin 5)

/-- One lane in PROVE: first run, run after the LANE reset of R50, the checking hardware that its difference injection meets,
known-answer test (R230, R430, R489-R491). -/
structure ProveObs where
  first : ProofResult
  second : ProofResult
  hw : Checker
  kat : KatRead
deriving DecidableEq, Repr

/-- What Echo shows of a channel in a step of the majority element proof (R263) where it is not what a sound element gives: side and
lanes that drive, whether gate drive of that side was present at any time and 150 µs after the start, class of that side's land, classes of both lands before the step. -/
structure MajRead where
  ch : Chan
  side : Side
  drivers : BitVec 3
  gdEver : Bool
  gdSoon : Bool
  land : PinClass
  beforeH : PinClass
  beforeL : PinClass
deriving DecidableEq, Repr

/-- The reset sources of R470 for WARM. -/
inductive WarmSrc where
  /-- the hub cleared the lockout latch (R56) -/
  | lockoutCleared
  /-- two lanes of the agreement set request it in one tick -/
  | laneRequest (l m : Lane)
deriving DecidableEq, Repr

/-- Reset request origin (R52): an RSTREQ pulse, or a two-step command for the module or for one channel (R272). -/
inductive ResetOrigin where
  | rstreq
  | twoStep (target : Option Chan)
deriving DecidableEq, Repr

/-- Pulse kinds (R258, R260). -/
inductive PulseKind where
  | darkHigh | darkLow | lowSide
deriving DecidableEq, Repr

/-- What one lane sampled of Echo every 10 µs over the window of a test pulse (R261): in the first 60 µs, from there to the end of
d, and in the 200 µs after it. `ran` is false where the lane's interface executed nothing (R259). -/
structure PulseObs where
  ran : Bool
  start : List EchoItem
  hold : List EchoItem
  after : List EchoItem
deriving DecidableEq, Repr

/-- What one lane saw in a gap of a test source (R289, R290), and whether its own test-source waveform fails to gap (R291). -/
structure GapObs where
  highBefore : Bool
  lowInGap : Bool
  /-- tested inputs of the source that read active in the last 50 µs of the gap -/
  activeIn : List Chan
  noGap : Bool
deriving DecidableEq, Repr

/-- Level of an input as a replica classifies it (R285, R286); `band` is the 1.70-2.20 mA band of a wire-break input. -/
inductive RawLevel where
  | inactive | active | wireBreak | band
deriving DecidableEq, Repr

/-- When a replica reads a level, in µs after the edge, and the instants of the readings that show another one (R285, R288). -/
structure FilterRun where
  nowUs : Nat
  other : List Int
deriving DecidableEq, Repr

/-! ### Requests, sessions and the host -/

/-- Where a request comes from (R141). -/
inductive Source where
  | secure (ch : Fin 8)
  | nonsecure (ch : Fin 8)
  | frame (node : BitVec 12)
deriving DecidableEq, Repr

/-- The request record of R142 without its REQ_CODE, with the sequence number of the message or frame that carries it. -/
structure Request where
  src : Source
  kind : Byte
  tag : BitVec 16
  target : BitVec 16
  arg : BitVec 16
  validFrom : Tick
  validTo : Tick
  armSeq : Word
  /-- bytes 20-31 are zero -/
  reservedZero : Bool
  /-- SEQ of the message (R413) or of the safety block (R340) -/
  seq : Word
deriving DecidableEq, Repr

/-- The masters of the hub's shared resources (R391). -/
inductive Master where
  | laneA | laneB | laneC | net | hostSecure | hostNonsecure | updateMover | hubMovers
deriving DecidableEq, Repr

/-- Byte strobes of a 32-bit write. -/
structure Strobes where
  b0 : Bool
  b1 : Bool
  b2 : Bool
  b3 : Bool
deriving DecidableEq, Repr

/-- A read of the result of a check-value channel: any master may read any channel (R423). -/
structure CrcRead where
  m : Master
  ch : Fin 16
deriving DecidableEq, Repr

/-- The two host windows (R531). -/
inductive Bar where
  | bar0 | bar2
deriving DecidableEq, Repr

/-- PCI Express configuration requests (R530, R533, R535): a write that changes the power state, a write of Bus Master Enable, a read
of the word at an offset of configuration space. -/
inductive CfgReq where
  | enterD3hot | returnD0 | busMaster (enable : Bool) | read (ofs : BitVec 12)
deriving DecidableEq, Repr

/-- Ways in which the host self-test engine or the test port is reached (R448). -/
inductive TestAccess where
  | bist | jtag
deriving DecidableEq, Repr

/-! ### The Kazsan link -/

/-- A received frame at a port: the gallery entry that plans it, the arrival of its first block in ns after the edge by the
node's own counter, the ns from there to the first block of a forwarded copy, and its bytes, FCS included (R308, R322, R335). -/
structure RxFrame where
  port : Port
  slot : Nat
  ofsNs : Int
  resNs : Nat
  bytes : List Byte
deriving DecidableEq, Repr

/-- A received timing frame: port, arrival instant by the own counter in ns, bytes. -/
structure RxTiming where
  port : Port
  rxNs : Nat
  bytes : List Byte
deriving DecidableEq, Repr

/-- A received cycle-start frame, with its measured residence time in ns where it goes on (R308, R313). -/
structure RxCycle where
  rx : RxTiming
  resNs : Nat
deriving DecidableEq, Repr

/-- A received delay response, with the ns that pass from its arrival to the follow-up (R310). -/
structure RxDelay where
  rx : RxTiming
  turnNs : Nat
deriving DecidableEq, Repr

/-- The start of a slot: its deviation in ns from the entry's offset, and whether the neighbour at the port is joining (R311). -/
structure SlotStart where
  devNs : Int
  joining : Bool
deriving DecidableEq, Repr

/-- The start of a bridge slot: the entry's index, and the deviation in ns from its offset. -/
structure BridgeStart where
  slot : Nat
  devNs : Int
deriving DecidableEq, Repr

/-- Causes of full silence (R324). -/
inductive SilenceCause where
  | refclk | ownEngine | forwarding | hubDie
deriving DecidableEq, Repr

/-- Causes of a promotion (R382). -/
inductive PromoteCause where
  | peerMissing | peerOut | peerYielding
deriving DecidableEq, Repr

/-- A position report record (R152), from a gateway node. -/
structure PosReport where
  gateway : BitVec 12
  vehId : BitVec 16
  flags : Byte
  byte3 : Byte
  frontElem : BitVec 16
  rearElem : BitVec 16
  frontOfs : Word
  rearOfs : Word
  conf : BitVec 16
  speed : BitVec 16
  measTick : Tick
deriving DecidableEq, Repr

/-- A COMMANDS item as a worker reads it: unit, STANDBY flag, safety block TICK, VALID, item (R339, R363). -/
structure CmdItem where
  unit : BitVec 12
  standby : Bool
  tick : Tick
  valid : Nat
  mask : BitVec 48
  node : BitVec 12
deriving DecidableEq, Repr

/-- A boundary item as received (R369), at the receiver's slot. -/
structure BndItem where
  slot : BitVec 11
  word : DWord
  reqVal : BitVec 4
  reason : Byte
  route : BitVec 16
deriving DecidableEq, Repr

/-- A PAIR STATUS item (R378). -/
structure PairStat where
  claim : BitVec 2
  sync : BitVec 2
  overflow : Bool
  ahMatch : Bool
  activeSince : Tick
  view : Nat
  shadowCnt : Nat
  copyTick : Tick
  digE : DWord
  digR : DWord
  digA : DWord
  digH : DWord
  lanesVoting : BitVec 3
deriving DecidableEq, Repr

/-- A COPY item of a pair copy (R378, R380): part, first word index, its words. -/
structure CopyItem where
  part : BitVec 4
  first : Nat
  words : List DWord
deriving DecidableEq, Repr

/-! ### Records and updates -/

/-- Record classes (R511). -/
inductive RecClass where
  | alarm | event | trace
deriving DecidableEq, Repr

/-- Record forms (R512). -/
inductive RecForm where
  | original | summary | last
deriving DecidableEq, Repr

/-- A log record (R512). -/
structure Record where
  cls : RecClass
  form : RecForm
  lane : BitVec 2
  single : Bool
  code : Byte
  srcNode : BitVec 12
  objKind : BitVec 4
  obj : BitVec 16
  tick : Tick
  tickLast : Tick
  count : Nat
  detail : List Byte
  lseq : Word
deriving DecidableEq, Repr

/-- An UPDATE item (R451), and the host address from which a host DMA fetched it; none where a BULK frame brought it (R452). -/
structure UpdItem where
  chunk : Word
  imgTag : Word
  data : List Byte
  host : Option (BitVec 64)
deriving DecidableEq, Repr

/-- A release record (R454): its 160 bytes. -/
structure Release where
  bytes : List Byte
deriving DecidableEq, Repr

/-- The dies that carry a temperature sensor (R543). -/
inductive HotDie where
  | lane (l : Lane)
  | hub
deriving DecidableEq, Repr

/-- A lane die's monitors at the end of a window (R500): ring oscillator frequencies, the slacks of the path-delay monitors in whole
percent, the sensors' highest temperatures of the window. -/
structure LaneMon where
  ro : Vector Nat 24
  pdm : Vector Nat 16
  temp : Vector (BitVec 8) 4
deriving DecidableEq, Repr

/-- A field die's monitors (R500). -/
structure FieldMon where
  ro : Vector Nat 8
  pdm : Vector Nat 4
deriving DecidableEq, Repr

/-- On-resistance of one output switch, normalized to 25 °C, in mΩ (R500). -/
structure SwitchMon where
  ch : Chan
  side : Side
  mohm : BitVec 16
deriving DecidableEq, Repr

/-- Every monitor at the end of a window of 1,024 ticks (R500). The switches are those that carried 100 mA or more. -/
structure AgeObs where
  lanes : PerLane LaneMon
  hubRo : Vector Nat 16
  hubPdm : Vector Nat 8
  hubTemp : BitVec 8
  fields : Vector FieldMon 3
  eyeWidth : Vector (BitVec 8) 4
  eyeHeightMv : Vector Nat 4
  switches : List SwitchMon
deriving DecidableEq, Repr

/-! ### The commands -/

/-- One command for each row of spec/opcode_table.json, in the table's order. -/
inductive Instr where
  | por
  | pin (lowUs : Nat)
  | warm (src : WarmSrc)
  | lane (l : Lane)
  | hostr
  | bootComplete (loaded0 loaded1 : PerLane Bool) (obs : BootObs) (ms : Nat)
  | proveComplete (obs : PerLane ProveObs) (maj : List MajRead) (echo : List (Chan × EchoItem))
  | tickEdge (obs : TickObs)
  | commitDeadline (l : Lane)
  | p1WaitLimit (missing : List (Lane × Lane))
  | p3WaitLimit (missing : List (Lane × Lane))
  | p5Suspension (l : Lane)
  | elementTimerExpiry (e : BitVec 15)
  | routeTimerExpiry (r : BitVec 14)
  | boundaryGrantWaitExpiry (r : BitVec 14)
  | run2LimitExpiry
  | hubNoAgreeingDigests
  | dissentRunExclusion (l : Lane) (ch : Chan)
  | reflexTimeout (entry : Fin 64)
  | echoSplitMismatch (ch : Chan)
  | feedbackMismatchWindow (ch : Chan)
  | overloadTimeout (ch : Chan)
  | bankOverload (b : Bank)
  | tripLatchSet (ch : Chan)
  | tripLatchClear (ch : Chan)
  | testPulseDue (ch : Chan) (kind : PulseKind)
  | testPulseOverdue (ch : Chan) (kind : PulseKind)
  | testPulse (ch : Chan) (kind : PulseKind) (obs : PerLane PulseObs)
  | testSourceGap (src : Chan) (obs : PerLane GapObs)
  | lanternToken (l : Lane) (b : Bank) (token : DWord)
  | proofWord (l : Lane) (b : Bank) (side : Side) (mask : BitVec 16)
  | tokenExpiry (l : Lane) (b : Bank)
  | gateDriveLost (ch : Chan) (side : Side) (dropoutUs : Nat)
  | phaseMark (arrived : PerLane Bool)
  | replicaFilterChange (l : Lane) (ch : Chan) (level : RawLevel) (run : FilterRun)
  | laneCheckFault (l : Lane) (run : CheckRun) (read : Option EccRead)
  | commitGateRelease (l : Lane)
  | aliveCheck (l : Lane) (hw : Checker)
  | watchdogWindowEnd (l : Lane) (byTimeout : Bool)
  | copyRequestTimeout (l : Lane)
  | laneProofDone (l : Lane) (result : ProofResult) (hw : Checker)
  | resyncCopyStart (q : CopyReq)
  | resyncCopyDone (l : Lane) (inTime : Bool) (copy : CopyObs)
  | rollingProofDue (l : Lane)
  | rollingProofWithdrawal (l : Lane)
  | rollingProofOverdue (l : Lane)
  | dissentStep (side : Side) (obs : PerLane (List (Chan × EchoItem)))
  | rstreqRising
  | rstreqFalling (highUs : PerLane Nat) (hubUs : Nat)
  | rstreqStuck
  | rstreqStuckClear
  | qualifiedResetRequest (origin : ResetOrigin) (begun : Tick)
  | zoneAckPulse (ch : Chan) (highUs : PerLane Nat)
  | throw (q : Request)
  | supervisedThrow (q : Request)
  | move (q : Request)
  | setStop (q : Request)
  | setGate (q : Request)
  | block (q : Request)
  | unblock (q : Request)
  | sectionReset (q : Request)
  | zoneReset (q : Request)
  | zoneAccess (q : Request)
  | signalRestore (q : Request)
  | setFlag (q : Request)
  | setRoute (q : Request)
  | cancelRoute (q : Request)
  | emergencyRelease (q : Request)
  | boundaryRelease (q : Request)
  | vehicleRemove (q : Request)
  | moduleReset (q : Request)
  | channelReset (q : Request)
  | gallerySwitch (q : Request)
  | updateLock (q : Request)
  | openSession (ch : Fin 8) (hnonce : BitVec 128)
  | closeSession (ch : Fin 8)
  | mailboxSnapshot (l : Lane)
  | outboundMoverWrite (secure : Bool) (ch : Fin 8)
  | mbxInBufWrite (secure : Bool) (ch : Fin 8) (word : Fin 16) (val : Word)
  | mbxOutBufRead (secure : Bool) (ch : Fin 8) (word : Fin 16)
  | mbxInStatAbortedClear (secure : Bool) (ch : Fin 8) (val : Word)
  | mbxDbM2hClear (secure : Bool) (ch : Fin 8) (val : Word)
  | mbxDbmaskWrite (secure : Bool) (ch : Fin 8) (val : Word)
  | lckRead (m : Master) (i : Fin 64) (rivals : List Master)
  | lckWrite (m : Master) (i : Fin 64) (val : Word) (rivals : List Master)
  | lckOrphanClear (hi : Bool) (val : Word)
  | arbFreezeRequest (l : Lane) (res : Fin 6) (mask : Byte) (freeze : Bool)
  | arbFreezeExpiry (res : Fin 6)
  | crcStart (m : Master) (ch : Fin 16) (cfg : Word) (seed : Option DWord)
  | crcDataWrite (m : Master) (ch : Fin 16) (strb : Strobes) (val : Word) (rivals : List Master)
  | crcResLoRead (r : CrcRead)
  | timNowLoRead
  | timTbaseLoRead
  | rcRead (bar : Bar) (ofs : BitVec 24)
  | mirrorRead (ofs : BitVec 24) (words : Fin 17)
  | hostRegisterWrite (bar : Bar) (ofs : BitVec 24) (val : Word)
  | updDmaGo
  | updDmaAbort
  | updDmaEnd (err : Bool)
  | bistGo
  | bistDone (pass : Bool) (durUs : Nat)
  | testPortAccess (via : TestAccess)
  | cycleStart (f : RxCycle)
  | coldstart (f : RxTiming)
  | dlyReq (f : RxTiming) (turnNs : Nat)
  | dlyRsp (f : RxDelay)
  | dlyFup (f : RxTiming)
  | linkDelayMeasurement (p : Port) (r0 r1 r2 : Option Int)
  | safe (f : RxFrame)
  | chamber (f : RxFrame)
  | bulk (f : RxFrame)
  | transmitSlot (p : Port) (slot : Nat) (start : SlotStart)
  | bridgeSlot (p : Port) (start : BridgeStart)
  | linkLoss (p : Port)
  | linkUp (p : Port)
  | fullSilence (cause : SilenceCause)
  | hubDieFault
  | listenTimeout
  | contentionWindowEnd
  | fullValidCycle
  | syncLock
  | cycleStartMissing
  | referenceTakeover
  | silentTimeout
  | areaSeparation
  | joinTimeout
  | ppsIn (atNs : Nat)
  | ppsMissing
  | nodeIdStrapChange (id : BitVec 12)
  | galleryAnnounce (g : Fin 8) (n a : Tick) (unit : BitVec 12)
  | gallerySwitchDecision
  | gallerySwitchEdge
  | galleryPreviousUnlock
  | galleryEntryWrite (m : Master) (g : Fin 8) (p : Port) (idx : Fin 4096) (entry : DWord)
  | galleryCommitWrite (m : Master) (g : Fin 8) (digest : DWord)
  | positionReport (r : PosReport)
  | commands (i : CmdItem)
  | commandHoldExpiry
  | boundaryLockItem (i : BndItem)
  | boundaryGrantedItem (i : BndItem)
  | boundaryRefusedItem (i : BndItem)
  | boundaryReleaseItem (i : BndItem) (op : BitVec 4)
  | boundaryPeerLost (area : Fin 16)
  | pairStatus (p : PairStat)
  | pairCopy (items : List CopyItem)
  | activeClaim
  | standbyPromotion (cause : PromoteCause)
  | yield (cause : Fin 7)
  | log (src : BitVec 12) (recs : List Record)
  | logRecordArrival (copies : List (Lane × Record))
  | logExport
  | hostRingFullAlarm
  | update (i : UpdItem)
  | stagingEraseDone
  | stagingVerifyDone (accept : PerLane Bool)
  | releaseRecord (r : Release)
  | bankCopyStart
  | bankCopyDone (digestOk : PerLane Bool)
  | rollingUpdateWithdrawal (l : Lane)
  | rollingCountComplete (l : Lane)
  | fullTrialConfirmation
  | deferralAlarm
  | vinFail
  | fullCommit (ms : Nat)
  | commitEnd
  | vholdQualified (l : Lane)
  | vholdDisqualified (l : Lane)
  | fullCommitAbort (store : Fin 4)
  | lowPowerEntry (l : Lane) (gapUs : Nat)
  | lowPowerWake (l : Lane) (sleptUs : Nat) (late : Bool)
  | overtemperature (die : HotDie) (celsius : Nat)
  | thermalRecovery (l : Lane)
  | budgetWindowEnd
  | ageingWindow (obs : AgeObs)
  | dailyRecord
  | porRelease
  | perstNRelease
  | configurationRequest (r : CfgReq)
  | keyEncryptionKeyWrite (key : BitVec 256)
  | gateDriveReached (ch : Chan) (side : Side)
  | inrushWindowEnd (ch : Chan)
deriving DecidableEq, Repr

end Sys2Proof
end

