-- ==== Sys2Proof/Decode.lean ====
section
/-!
DEFINITION. The decoder over the rows of the opcode table that give bits. No row of this table gives any ("fields" is empty
in every row of spec/opcode_table.json), so no word spells a command; the byte formats that the manual does give (mailbox
messages, frames, tokens, registers) are decoded in Machine/Operands.lean.
-/

namespace Sys2Proof

/-- The command that `nbits` bits `w` spell by the table's bits: none, for the table gives no row bits. -/
def decodeTableWord (_nbits _w : Nat) : Option Instr :=
  none

end Sys2Proof
end

