-- ==== Sys2Proof/Machine/Image.lean ====
section
/-!
DEFINITION. The configuration image (R433-R437) as data: its header, its signature block, and what its sections say of
the area and of each node. The manual gives the sections' meaning and leaves their byte layout to Poriq; here each
section is the data the rules take from it.
-/

namespace Sys2Proof.Machine

/-- A sparse table: keys strictly rising. -/
abbrev AMap (α : Type) := List (Nat × α)

/-! ### Elements -/

/-- A field of a safety-coded frame (R74): the sender's area, record class, item and bit of the item's bytes. The manual gives
a bound field no layout of its own; one bit, 1 for active, is the model's choice (log 86). -/
structure FrameBit where
  area : Word
  cls : Byte
  item : Nat
  bit : Nat
deriving DecidableEq, Repr

/-- The two sources of an input role (R74). -/
inductive RoleSrc where
  | channel (ch : Chan)
  | frame (f : FrameBit)
deriving DecidableEq, Repr

/-- An input role's source (R74) at its named node, and whether the active value is the permissive one (R186). -/
structure RoleIn where
  node : BitVec 12
  src : RoleSrc
  permActive : Bool
deriving DecidableEq, Repr

/-- A command channel (R92): channel of a node, DRIVE or HOLD. -/
structure OutRef where
  node : BitVec 12
  ch : Chan
  drive : Bool
deriving DecidableEq, Repr

/-- A lamp of an aspect (R90): its channel, and its feedback input if it is proved by one. -/
structure LampRef where
  out : OutRef
  fb : Option RoleIn
deriving DecidableEq, Repr

/-- Recovery kinds of a SECTION (R82). -/
inductive Recovery where
  | detect | direct | sweep
deriving DecidableEq, Repr

/-- A source of a SECTION (R75): an occupancy input, or a DETECTOR element. -/
inductive SecSrc where
  | input (r : RoleIn)
  | detector (id : Nat)
deriving DecidableEq, Repr

/-- A counting head (R84): sensors a and b, and whether passage from a to b enters the section. -/
structure HeadCfg where
  a : RoleIn
  b : RoleIn
  abEnters : Bool
deriving DecidableEq, Repr

/-- A rule that computes a virtual flag (R98): what it reads of the tick's inputs and of the element words. -/
inductive RuleExpr where
  | const (v : Bool)
  | input (r : RoleIn)
  | statusIs (elem : Nat) (code : BitVec 4)
  | detectedIs (elem : Nat) (val : BitVec 4)
  | commandedIs (elem : Nat) (val : BitVec 4)
  | not (e : RuleExpr)
  | and (e f : RuleExpr)
  | or (e f : RuleExpr)
deriving DecidableEq, Repr

/-- What the image says of an element, by class (R66, R74-R98). Times are in milliseconds (R79). -/
inductive ClassCfg where
  | trackSection (srcs : List SecSrc) (clearDelay : Nat) (recovery : Recovery)
  | point (normal reverse : List RoleIn) (outN outR : List OutRef) (throwMs : Nat) (sections : List Nat)
  | signal (aspects : List (BitVec 4 × List LampRef)) (lampTicks : Nat)
  | stop (active released : List RoleIn) (outActive outReleased : List OutRef) (operateMs : Nat) (sections : List Nat)
  | gate (closed opened : List RoleIn) (lock : Option RoleIn) (outSecure outOpen : List OutRef) (operateMs : Nat)
  | movable (positions : List RoleIn) (bolt : Option RoleIn) (out : List OutRef) (moveMs : Nat) (deck guards : List Nat)
  | zone (estop access presence : List RoleIn) (ack : Option RoleIn) (out : List OutRef) (settleMs : Nat)
      (cond : Option Nat) (sections : List Nat)
  | boundary (proxied : BitVec 4) (slot : BitVec 11)
  | block (restrictive : Bool) (settable : Bool) (rule : Option RuleExpr)
  | detLevel (ins : List RoleIn)
  | detCount (heads : List HeadCfg)
deriving DecidableEq, Repr

/-! ### Routes and boundaries -/

/-- A route as the image declares it (R107). In `flank`, assignment 0 is the overlap. -/
structure RouteCfg where
  entry : Option (Nat × BitVec 4)
  approach : List Nat
  path : List Nat
  pelems : List (Nat × BitVec 4 × Nat)
  overlap : List (Nat × BitVec 4)
  flank : List (Nat × BitVec 4 × Nat)
  flags : List (Nat × Bool)
  zones : List Nat
  waitMs : Nat
  setMs : Nat
  ovlMs : Nat
  apprMs : Nat
  emergMs : Nat
  follow : Bool
deriving DecidableEq, Repr

/-- Kind of a boundary slot (R368) with its local element. -/
inductive SlotKind where
  | lent (elem : Nat)
  | proxy (elem : Nat)
deriving DecidableEq, Repr

/-- A boundary slot (R368): neighbouring area as index in the image, its slot, its kind. -/
structure SlotCfg where
  area : Fin 16
  peerSlot : BitVec 11
  kind : SlotKind
deriving DecidableEq, Repr

/-! ### Track and authorities -/

/-- An end of a section: it ends the track, joins an end, or joins ends through a POINT or MOVABLE (R148). A joined end is
a section and whether it is that section's end A. -/
inductive TrackEnd where
  | dead
  | plain (sec : Nat) (endA : Bool)
  | via (elem : Nat) (branches : List (BitVec 4 × Nat × Bool))
deriving DecidableEq, Repr

/-- A section's length in mm and its two ends (R148). -/
structure TrackSec where
  len : Nat
  endA : TrackEnd
  endB : TrackEnd
deriving DecidableEq, Repr

/-- Kinds of marks (R149). -/
inductive MarkKind where
  | stopMark | clearance | zoneMark
deriving DecidableEq, Repr

/-- A mark on the track graph (R149): kind, element, section, offset from end A, direction in which it applies, and the
distance in mm at which it stands before its element or boundary: the clearance distance or the zone margin. -/
structure Mark where
  kind : MarkKind
  elem : Nat
  sec : Nat
  ofs : Nat
  dir : Bool
  before : Nat
deriving DecidableEq, Repr

/-- The authority parameters of the area (R156), in ticks, mm and mm/s. -/
structure AuthCfg where
  maxAge : Nat
  validity : Nat
  separation : Nat
  rollback : Nat
  lmax : Nat
  vmax : Nat
  horizon : Nat
  vn : Nat
deriving DecidableEq, Repr

/-- Sources that a request code is permitted from (R141). -/
structure PermMask where
  secure : Bool
  nonsecure : Bool
  frame : Bool
deriving DecidableEq, Repr

/-! ### Channels and reflexes -/

/-- Channel modes (R282). -/
inductive ChMode where
  | off | input | inputWb | inputTested | testSource | output | outputFb
deriving DecidableEq, Repr

/-- Motion marks of a command channel (R455); a HOLD channel has a motion window in ticks. -/
inductive MotionKind where
  | none | drive | hold (window : Nat)
deriving DecidableEq, Repr

/-- A place of a test pulse (R259): tick phase and start offset in µs. -/
structure PulsePlace where
  phase : Nat
  ofsUs : Nat
deriving DecidableEq, Repr

/-- A channel in the I/O map (R186, R256, R258, R259, R269, R282-R286, R298). -/
structure ChanCfg where
  mode : ChMode
  filt : BitVec 8
  type3 : Bool
  link : Option Chan
  fbFollow : Bool
  restrActive : Bool
  windowMs : Nat
  soffMs : Nat
  testS : Nat
  pulse10us : Nat
  placeDH : PulsePlace
  placeDL : PulsePlace
  placeLS : PulsePlace
  motion : MotionKind
  ackInput : Bool
deriving DecidableEq, Repr

/-- Kinds of reflex entries (R213). -/
inductive ReflexKind where
  | input | endPos | timeout
deriving DecidableEq, Repr

/-- A local reflex entry (R213). -/
structure ReflexEntry where
  kind : ReflexKind
  hold : Bool
  outMask : BitVec 48
  inMask : BitVec 48
  level : BitVec 48
  limit : Nat
deriving DecidableEq, Repr

/-! ### Topology and galleries -/

/-- Port roles (R303). -/
inductive PortRole where
  | unused | ring0 | ring1 | chainUp | chainDown
deriving DecidableEq, Repr

/-- A port in the topology table (R303, R308, R310, R360, R365): role, neighbour, the neighbour's area for a passage,
planned delay, tolerance and asymmetry in ns. -/
structure PortCfg where
  role : PortRole
  nbr : BitVec 12
  passage : Option Word
  delayNs : Nat
  tolNs : Nat
  asymNs : Int
deriving DecidableEq, Repr

/-- A node's role in the topology table (R360). -/
inductive NodeRole where
  | worker | pairUnit | single
deriving DecidableEq, Repr

/-- A topology entry (R314, R326, R360). -/
structure TopoEntry where
  role : NodeRole
  rank : Option (Fin 4)
  retryIdx : Fin 4
  syncPort : Port
  hops : Nat
  ports : Vector PortCfg 4
deriving DecidableEq, Repr

/-- A gallery of a node's image part (R346, R349): version, G in units of 8 ns, port tables. -/
structure GalleryCfg where
  version : BitVec 16
  guard : Nat
  tables : Vector (List DWord) 4
deriving DecidableEq, Repr

/-- Stream kinds of a sender (R339); of a BULK stream, its items per tick (R452). -/
inductive StreamKind where
  | status | header (nodes : List (BitVec 12)) | pair | command (nodes : List (BitVec 12)) | node (dst : BitVec 12) | boundary (area : Fin 16)
  | bulk (dst : BitVec 12) (items : Nat)
deriving DecidableEq, Repr

/-- A stream that the node seals (R339, R342): kind, number, VALID. -/
structure StreamCfg where
  kind : StreamKind
  stream : BitVec 12
  valid : Nat
deriving DecidableEq, Repr

/-- A word of 16 nibbles in the Casman input and timer spaces, whose layout Poriq fixes for the image (R195). Of the agreed input
vector: active, faulty and split inputs of a node, what its frame says of its outputs and its acknowledge input, a bound frame
bit, the valid manager command, an Echo item, the supply classes, a boundary item, a word of a request or a position report, a
committed word of part K, what the members exchanged of a channel, the source checks, the bank-sum overloads, a channel's pulse
results, the sequence number last accepted of a stream, the result for RSTREQ, the module's own conditions, the tick. Of the timer unit (R197): the decremented timer of an element
or a route with its expiry flag above it, and constants. -/
inductive NibbleSrc where
  | active (node : BitVec 12)
  | faults (node : BitVec 12)
  | splits (node : BitVec 12)
  | applied (node : BitVec 12)
  | openLoad (node : BitVec 12)
  | acks (node : BitVec 12)
  | role (r : RoleIn)
  | command
  | echo (ch : Chan)
  | supply
  | bndWord (slot : Nat)
  | bndInfo (slot : Nat)
  | request (i w : Nat)
  | report (i w : Nat)
  | laneWord (i : Nat)
  | members (ch : Chan)
  | sources
  | overload
  | pulses (ch : Chan)
  | seq (stream : Nat)
  | rstreq
  | conditions
  | tick
  | timer (elem : Nat)
  | routeTimer (route : Nat)
  | const (w : DWord)
deriving DecidableEq, Repr

/-- A node's own part of the image (R433, R435). `tol` is the arrival tolerance A(k) in ns of the entry `idx` of
port `p` in gallery `g`, at key 16,384 × g + 4,096 × p + idx: the entries of R346 have no field for it. `reflex` holds the 24 bytes of each entry (R213), `sources` the
streams whose expected sequence numbers part K holds, in its order (R198). -/
structure NodePart where
  chans : Vector ChanCfg 48
  reflex : List (List Byte)
  galleries : AMap GalleryCfg
  tol : AMap Nat
  streams : List StreamCfg
  terms : List DWord
  inputSpace : List NibbleSrc
  timerSpace : List NibbleSrc
  t4maxUs : Nat
  pulseCycle : Vector Nat 3
  nk : Nat
  sources : List Nat
  keys : List (Fin 8 × BitVec 320)
deriving DecidableEq, Repr

/-- Area parameters (R48, R92, R107, R352, R371, R378, R380, R381, R383, R456, R493, R507). -/
structure AreaParams where
  run2LimitH : Nat
  lsw : Nat
  grantWait : Nat
  lloss : Nat
  yieldMargin : Nat
  shadowCap : Nat
  copyRate : Nat
  deferH : Nat
  proofH : Nat
  lifeYears : Nat
deriving DecidableEq, Repr

/-- What the image's sections say of the area (R435). -/
structure AreaCfg where
  elems : AMap ClassCfg
  routes : AMap RouteCfg
  slots : AMap SlotCfg
  areas : List Word
  track : AMap TrackSec
  marks : List Mark
  auth : AuthCfg
  perms : AMap PermMask
  topo : AMap TopoEntry
  gateways : List (BitVec 12)
  requestNodes : List (BitVec 12)
  params : AreaParams
  expDigest : List (BitVec 12 × Fin 8 × DWord)
deriving DecidableEq, Repr

/-- Life-cycle states (R446, IMG_LC). -/
inductive LifeCycle where
  | manufacture | commission | service | field | retired
deriving DecidableEq, Repr

/-- The image header and signature block (R434, R436); the digest is the SHA-384 of the image bytes (R436), the hash that
of the signer's public key (R438). `magicOk` says that MAGIC, FMT_VER and HDR_LEN are those of the manual, `layoutOk` that SECT_CNT,
SEC_VER and every byte given as 0 are, `sectionsOk` that the directory names the eight sections and none overruns or fails its CRC
(R435), `sigForm` that the signature block has the layout of R436. -/
structure ImageHdr where
  magicOk : Bool
  layoutOk : Bool
  imgVer : Word
  areaId : Word
  imgLen : Nat
  vmapId : Word
  tUs : Word
  retFmt : BitVec 16
  secVer : Nat
  lcReq : LifeCycle
  keySlot : Byte
  sigKeySlot : Byte
  revoke : BitVec 4
  decCompat : Bool
  compatBase : BitVec 384
  sectionsOk : Bool
  sigForm : Bool
  digest : BitVec 384
  keyHash : BitVec 384
  pubKey : BitVec 768
  sigR : BitVec 384
  sigS : BitVec 384
deriving DecidableEq, Repr

/-- A configuration image. -/
structure Image where
  hdr : ImageHdr
  area : AreaCfg
  parts : AMap NodePart
deriving DecidableEq, Repr

end Sys2Proof.Machine
end

