-- ==== Sys2Proof/Machine/State.lean ====
section
/-!
DEFINITION. The machine's state as plain data, the reasons a step can stop, and the machine right after reset.
Counters and timers that the manual bounds are natural numbers; fields software sees whole are bit vectors.
-/

namespace Sys2Proof.Machine

/-! ### Part E: element state words (R68-R72) -/

/-- STATUS (R69). -/
inductive Status where
  | none | proved | unproved | disturbed | failed | blocked
deriving DecidableEq, Repr

/-- LOCK (R70). -/
inductive LockKind where
  | none | route | overlap | boundary | maintenance
deriving DecidableEq, Repr

/-- An element state word (R68) without its class, which the image fixes (R66). `phase2` is [47:44] of a COUNT detector. -/
structure Elem where
  status : Status
  det : BitVec 4
  cmd : BitVec 4
  lock : LockKind
  flank : Bool
  owner : BitVec 14
  flankOwner : BitVec 14
  timer : Nat
  phase2 : BitVec 4
deriving DecidableEq, Repr

/-! ### Part R: route records (R114, R116) -/

/-- Route states (R116). -/
inductive RState where
  | idle | requested | checking | locked | proved | cleared | entered | releasing | cancelling | rejected
deriving DecidableEq, Repr

/-- The request that set a route (R143): source, REQ_TAG, SEQ. -/
structure SetBy where
  src : Source
  tag : BitVec 16
  seq : Word
deriving DecidableEq, Repr

/-- A route record (R114), with the request that set the route (R143), which is lane state. -/
structure RouteRec where
  state : RState
  reason : Byte
  wasCleared : Bool
  clearPending : Bool
  emerg : Bool
  ovlReleased : Bool
  released : Nat
  source : BitVec 2
  timer : Nat
  bndGranted : BitVec 8
  stateTick : Tick
  occSeen : BitVec 32
  setBy : Option SetBy
deriving DecidableEq, Repr

/-! ### Parts A and H: authorities and issued limits (R157, R166, R198) -/

/-- STATE of an authority record (R166). -/
inductive AState where
  | none | fresh | frozen
deriving DecidableEq, Repr

/-- A stretch of a walk along the track (R161): section, offset at its start, direction, distance at its start. -/
abbrev Seg := Nat × Nat × Bool × Nat

/-- A limit issued in one tick: a word of part H (R198), with its tick, its distance from the front of that tick, and the walk
that found it. -/
structure Limit where
  elem : BitVec 16
  ofs : Nat
  dir : Bool
  valid : Bool
  tick : Tick
  dist : Nat
  segs : List Seg
deriving DecidableEq, Repr

/-- The authority record of a known vehicle (R166), with what its claim needs of the accepted report (R152, R157). -/
structure AuthRec where
  state : AState
  term : BitVec 4
  limitDir : Bool
  rejLast : Bool
  standstill : Bool
  age : Nat
  limitElem : BitVec 16
  frontElem : BitVec 16
  limitOfs : Nat
  frontOfs : Nat
  dist : Nat
  conf : Nat
  route : BitVec 16
  issueTick : Tick
  measTick : Tick
  dir : Bool
  rearElem : BitVec 16
  rearOfs : Nat
  gateway : BitVec 12
deriving DecidableEq, Repr

/-! ### Part K: lane state (R198) -/

/-- A pending arm (R55, R102, R145): where it came from, what it names, its SEQ, the tick in whose P5 it was read. -/
structure Arm where
  src : Source
  code : Byte
  target : BitVec 16
  arg : BitVec 16
  seq : Word
  readTick : Tick
deriving DecidableEq, Repr

/-- The last accepted frame of a stream (R343). -/
structure StreamRec where
  runId : BitVec 16
  seq : Word
  tick : Tick
deriving DecidableEq, Repr

/-- An open secure session (R414, R416). -/
structure Session where
  key : BitVec 256
  inSeq : Word
  outSeq : Word
  authFails : Nat
deriving DecidableEq, Repr

/-- A held command of a manager unit (R363). -/
structure HeldCmd where
  tick : Tick
  valid : Nat
  mask : BitVec 48
  unit : BitVec 12
deriving DecidableEq, Repr

/-- A channel lockout (R268): recorded cause, tick in which it arose (R57). -/
structure ChLock where
  cause : BitVec 4
  tick : Tick
deriving DecidableEq, Repr

/-- Runs of a pulse kind (R258): the tick from which it is counted, whether it is due, whether it is overdue; `moved` is a due pulse
that a dissent step put off at its last place (R496); `atOnce` is a
retest's pulse, which waits for no tick phase (R270). -/
structure PulseRun where
  since : Option Tick
  due : Bool
  overdue : Bool
  atOnce : Bool
  moved : Bool
deriving DecidableEq, Repr

/-- A running pulse whose Echo window awaits its result (R261): kind, tick, each lane's result. -/
structure PulsePend where
  kind : PulseKind
  tick : Tick
  res : PerLane (Option Bool)
deriving DecidableEq, Repr

/-- Lane state of an output channel (R255-R258, R261, R269, R296, R297). -/
structure OutK where
  lock : Option ChLock
  onRun : Nat
  offRun : Nat
  onTick : Tick
  echoSplit : Nat
  overRun : Nat
  openRun : Nat
  openLoad : Bool
  fbRun : Nat
  fbMis : Bool
  dh : PulseRun
  dl : PulseRun
  ls : PulseRun
  pend : List PulsePend
  echoSplits : Nat
  retest : Bool
  noDissent : PerLane Nat
  splitAt : Option Tick
  vflt : Nat
deriving DecidableEq, Repr

/-- Lane state of an input channel (R187, R289): dissent runs and exclusions by lane, source checks still to pass. -/
structure InK where
  dissent : PerLane Nat
  excl : PerLane Bool
  srcFault : Nat
deriving DecidableEq, Repr

/-- Lane state of an element that its word does not hold: the tick in which a zone stop began (R95), the first tick of the
unbroken run of "pressed" on its acknowledge input (R95), the count fault of R86, the sweep of R82 and its rise, a MOVABLE's
first indication (R99), how many positions it shows and its bolt (R75), and the lasting conditions whose record was raised
(R515). -/
structure ElemAux where
  stopTick : Option Tick
  pressRun : Option Tick
  countFault : Bool
  sweep : Bool
  risen : Bool
  indicated : Bool
  shown : Nat
  bolt : Bool
  cond : List Byte
deriving DecidableEq, Repr

/-- A boundary neighbour as the manager sees it (R375): tick of the last valid frame, PEER_LOST. -/
structure PeerK where
  lastFrame : Option Tick
  missing : Nat
  lost : Bool
deriving DecidableEq, Repr

/-- The last BOUNDARY item read of a slot (R369, R371): OP, WORD, REQ_VAL, ROUTE, and the tick it was read in. -/
structure SlotItem where
  op : BitVec 4
  word : DWord
  reqVal : BitVec 4
  route : BitVec 16
  tick : Tick
deriving DecidableEq, Repr

/-- The position reports read in a tick (R154), with the records, the vehicles with a rejected report and those with contradictory ones as they
stood before it. -/
structure TickReports where
  reports : List PosReport
  auths : AMap AuthRec
  rej : List Nat
  contra : List Nat
deriving DecidableEq, Repr

/-- Lane state (part K). `sent` are limits of the last ticks that a later one of the same tick replaced after their message had left
(R168), `resOut` the results sealed in the present tick, `track` what part K shows of a reset request (R198). `cmdRun` counts, for each channel, the ticks in a row in which a valid manager command had it on: the
TIMEOUT counts of R214. `granted` holds the REQ_VAL of each GRANTED slot (R372), `refused` the code of a refusal with the tick whose frame
seals it (R371), `heldBase` the command held before the frames of the tick. -/
structure LaneK where
  elemArms : List Arm
  routeArms : List Arm
  resetArm : Option Arm
  lockArm : Option Arm
  streams : AMap StreamRec
  ins : Vector InK 48
  outs : Vector OutK 48
  aux : AMap ElemAux
  reflexLatch : Vector Bool 64
  cmdRun : Vector Nat 48
  sessions : Vector (Option Session) 8
  held : Option HeldCmd
  heldBase : Option HeldCmd
  heldChange : Vector (Option Tick) 48
  ovl : Vector Nat 3
  peers : Vector PeerK 16
  slotIn : AMap SlotItem
  refused : AMap (Byte × Tick)
  granted : AMap (BitVec 4)
  codeRun : AMap (PerLane Nat)
  ackPend : List Chan
  ovlVeh : List (Nat × Nat)
  contraVeh : List Nat
  rejVeh : List Nat
  tickBase : TickReports
  sent : AMap (List Limit)
  results : List (BitVec 12 × List Byte)
  resOut : List (BitVec 12 × List Byte)
  firstTick : Option Tick
  logSeq : AMap Word
  partO : Vector (BitVec 48) 4
  track : DWord
deriving DecidableEq, Repr

/-- The carried state of one lane (R31, R191): its committed region. -/
structure Carried where
  elems : AMap Elem
  routes : AMap RouteRec
  auths : AMap AuthRec
  limits : AMap (List Limit)
  k : LaneK
deriving DecidableEq, Repr

/-! ### A lane (R205, R217, R243) -/

/-- Service states (R205). -/
inductive Svc where
  | inService | out | resync | withdrawn | reset | disabled
deriving DecidableEq, Repr

/-- Low-power states (R474). -/
inductive LpState where
  | l0 | l1 | l2 | l3
deriving DecidableEq, Repr

/-! ### Lockstep (R218-R222) -/

/-- An entry of the output delay register (R221): groups G0 to G7 and a parity bit for each 32 bits. -/
structure OutEntry where
  val : BitVec 348
  par : BitVec 11
deriving DecidableEq, Repr

/-- An entry of the input delay register (R221): read data, read response, interrupts, stamp, and its parity bits. -/
structure InEntry where
  val : BitVec 150
  par : BitVec 5
deriving DecidableEq, Repr

/-- A core pair (R218-R221): register files of the leading and the trailing core (unlisted registers hold 0), their cycle
counters, the delay registers with the older entry first, and the cycles since the leading core was released, up to 2. -/
structure CorePair where
  leadRegs : AMap DWord
  trailRegs : AMap DWord
  leadCnt : BitVec 2
  trailCnt : BitVec 2
  outDelay : Vector OutEntry 2
  inDelay : Vector InEntry 2
  age : Nat
deriving DecidableEq, Repr

/-- The lane-check registers (R243): DGN_CMPSTAT to DGN_ECCADDR, DGN_XCSTAT to DGN_XCTICK; `capture` is the injection capture
(R229), the sources that a deviation in injection mode raised. -/
structure LaneCheck where
  injLock : Bool
  injMode : Bool
  fltSrc : BitVec 4
  gateClosed : Bool
  discard : Nat
  aliveOk : Bool
  first : Option CmpDiff
  injDone : BitVec 16
  injMiss : BitVec 16
  ceCnt : Nat
  scrubPos : Nat
  passCnt : Nat
  eccMem : BitVec 4
  eccUe : Bool
  eccAddr : BitVec 24
  xcDone : Bool
  xcMismatch : Bool
  xcWords : Nat
  xcPart : BitVec 4
  xcWord : BitVec 17
  xcTick : Tick
  capture : List (BitVec 4)
deriving DecidableEq, Repr

/-- One lane's copy of a frame as it sealed it (R39, R341): header, payload, safety block bytes 0-11, lane code. -/
structure Sealed where
  head : List Byte
  payload : List Byte
  block : List Byte
  code : Word
deriving DecidableEq, Repr

/-- Writes that pass the commit gate (R225): the token refresh of one field die, the SOUND mark, and the release of a Glefel
transmit descriptor with the frame that it releases: stream, tick, the lane's copy. -/
inductive GateWrite where
  | token (b : Bank)
  | service
  | descriptor (stream : BitVec 12) (tick : Tick) (copy : Sealed)
deriving DecidableEq, Repr

/-- The lane watchdog and DGN_WDOG (R239, R240, R243). `served` is the state of the present window. -/
structure Wdog where
  resetCnt : Nat
  lcbCnt : Nat
  timeout : Bool
  armed : Bool
  fails : Nat
  served : Bool
deriving DecidableEq, Repr

/-- MOD_BUDGET of a lane (R37) and the window that runs. -/
structure Budget where
  failedTick : Bool
  belowPlan : Bool
  reserveMin : Nat
  t4Max : Nat
  winFailed : Bool
  winBelow : Bool
  winReserve : Option Nat
  winT4 : Nat
  low : Bool
deriving DecidableEq, Repr

/-- The margin plan of a lane or of the hub die (R502-R505): trim steps v / 5 mV, clock steps k, the run of high windows;
`gain` is the measured gain of one trim step in 0.1 % (R507), `stepped` the margin before the last step and whether it rose. -/
structure Plan where
  trim : Nat
  clk : Nat
  high : Nat
  margin : Nat
  exhausted : Bool
  t4w : List Nat
  pdm : BitVec 4
  roShift : BitVec 16
  temp : BitVec 8
  gain : Int
  stepped : Option (Nat × Bool)
deriving DecidableEq, Repr

/-- A mailbox message as one lane read it (R182, R408): secure window, channel, its 64 bytes, COLLISION. -/
structure ReadMsg where
  secure : Bool
  ch : Fin 8
  bytes : List Byte
  collided : Bool
deriving DecidableEq, Repr

/-- One lane. `sram` is the state SRAM of its Casman engine, `cas` the Casman result region by vector word (R193; unlisted
entries 0); `cycle` the leading cores' cycle count, `clockOk` that its clock has not stopped. -/
structure LaneSt where
  svc : Svc
  lastCause : BitVec 4
  exitCnt : Nat
  resyncCnt : Nat
  badExits : List Nat
  lcbResets : List Nat
  region : Carried
  regionOk : Bool
  failedTick : Bool
  voted : Bool
  proofFails : Nat
  copyFails : Nat
  hot : Bool
  loaded : Bool
  runsNew : Bool
  trialCnt : Nat
  copyReq : Bool
  donor : Option Lane
  check : LaneCheck
  held : List GateWrite
  wdog : Wdog
  budget : Budget
  lp : LpState
  lpLast : LpState
  sleepUs : Nat
  lateCnt : Nat
  plan : Plan
  msgs : List ReadMsg
  ceWin : Nat
  scrubPrev : List (BitVec 24)
  katDue : Bool
  sram : AMap (BitVec 4)
  cas : AMap DWord
  pairs : Vector CorePair 2
  cycle : BitVec 16
  clockOk : Bool
  exSeq : Vector Word 6
deriving DecidableEq, Repr

/-! ### Field dies (R245-R253, R279-R298) -/

/-- A valid token at a lane interface (R246). -/
structure Token where
  tick : Tick
  mask : BitVec 16
deriving DecidableEq, Repr

/-- A lane interface of a field die: the token it holds, the TICK last accepted since its reset (R246), a proof word
that it executes (R263), the token that the lane issued last over the field link (R245). -/
structure Iface where
  token : Option Token
  lastTick : Option Tick
  proof : Option (Side × BitVec 16)
  issued : Option DWord
  discarded : Nat
deriving DecidableEq, Repr

/-- Level of a replica's filter output (R285, R286). -/
inductive Level where
  | inactive | active | wireBreak
deriving DecidableEq, Repr

/-- A lane's replica of an input channel: filter output, whether it has settled since its bank was switched on (R285), the class
of its last reading, `band` while the current has not left the band since then (R286), the area time in ns from which it takes readings,
own-gap checks still to pass (R290), result of the last source gap check (R289). -/
structure Replica where
  out : Level
  settled : Bool
  raw : Option RawLevel
  since : Nat
  ownGap : Nat
  srcOk : Bool
deriving DecidableEq, Repr

/-- The output stage of a channel (R244, R253, R293, R295): gates, trip latch, inrush window. -/
structure Stage where
  gateH : Bool
  gateL : Bool
  trip : Bool
  inrush : Bool
deriving DecidableEq, Repr

/-- The registers of VOT and FIO that voting lanes write after P4 of every tick (R277, R300), for one channel. -/
structure ChReg where
  lockCnt : Nat
  h : BitVec 2
  l : BitVec 2
  gdH : Bool
  gdL : Bool
  cmdOn : Bool
  forced : Bool
  pulseFail : Bool
  faultCnt : Nat
  tripped : Bool
  cur : BitVec 2
  fkind : BitVec 3
  split : Bool
  fault : Bool
  value : Bool
  cause : BitVec 4
  locked : Bool
  fbMis : Bool
  openLoad : Bool
deriving DecidableEq, Repr

/-- FIO_BANK registers (R300). -/
structure BankReg where
  ovl : Bool
  supplyFlt : Bool
  iBank : BitVec 8
  vfClass : BitVec 2
  vf : BitVec 10
deriving DecidableEq, Repr

/-- The field side. `srcWave` is each lane's test-source waveform on the couplers (R281, R291), `srcGap` the source whose gap of the
present tick has still to run (R287), `echoH` each lane's Echo items of the last edge, none where its bank gave none (R292), and
`echoFrom` the members of the agreement set of that tick; `cfg` is FIO_CHCFG as the end of BOOT loaded it (R300). -/
structure Field where
  ifaces : PerLane (Vector Iface 3)
  reps : PerLane (Vector Replica 48)
  stages : Vector Stage 48
  regs : Vector ChReg 48
  cfg : Vector Word 48
  banks : Vector BankReg 3
  echoH : PerLane (Vector (Option EchoItem) 48)
  srcWave : PerLane (Vector Bool 48)
  srcGap : Option Chan
  echoFrom : BitVec 3
deriving DecidableEq, Repr

/-- VOT_STAT, VOT_CODESTAT, VOT_PULSE (R277), and the phase marks (R250): `phaseRun` counts the ticks in a row in which they
arrived at every lane, up to 1,024. -/
structure Vot where
  majProofOk : Bool
  phaseRun : Nat
  markSeen : PerLane Bool
  markMiss : PerLane Bool
  markLost : PerLane Bool
  lantLanes : BitVec 3
  vfltCh : Nat
  vfltKind : BitVec 4
  dissentA : Nat
  dissentB : Nat
  dissentC : Nat
  codeRej : Nat
  pulseCnt : Nat
  overdueCnt : Nat
  noResult : Nat
deriving DecidableEq, Repr

/-! ### Mode, lockout and the reset request (R41-R57, R64, R65, R217) -/

/-- The six modes (R41). -/
inductive Mode where
  | boot | prove | join | run | run2 | lockout
deriving DecidableEq, Repr

/-- ROLE of MOD_MODE (R65). -/
inductive Role where
  | worker | active | standby | unassigned
deriving DecidableEq, Repr

/-- Mode and tick (R41-R48) with MOD_DISSENT, MOD_SPLIT (R217) and the identity of R359-R361, R390. `run2Since` is the area time in
ns of the entry into RUN-2 (R48). -/
structure ModeSt where
  mode : Mode
  tick : Tick
  role : Role
  voting : BitVec 3
  outHold : Bool
  holdTick : Tick
  bootFail : Bool
  joinIdWait : Bool
  tUs : BitVec 17
  hubNoAgree : Nat
  dissentA : Nat
  dissentB : Nat
  dissentC : Nat
  reread : Nat
  inputSplit : Nat
  frameSplit : Nat
  reqSplit : Nat
  joinAlarm : Bool
  porHeld : Bool
  accepted : Bool
  p5Left : PerLane Bool
  run2Since : Option Nat
deriving DecidableEq, Repr

/-- MOD_RRQ and the RSTREQ measurement (R53-R57). `fellRise` is the tick of the rising edge of the pulse that `laneFell` reports. -/
structure Rrq where
  ignored : Nat
  accept : Nat
  short : Nat
  stuck : Bool
  high : Bool
  riseTick : Tick
  laneFell : PerLane Bool
  fellRise : Option Tick
  clearNext : List (ResetOrigin × Tick × Option (Byte × Request))
  ignoredNext : List (Byte × Request)
deriving DecidableEq, Repr

/-- A shadow of a tick as a standby holds it (R378, R380): changed words of parts E and R, removed vehicles, the STATUS item. -/
structure Shadow where
  tick : Tick
  items : List CopyItem
  removed : List Nat
  stat : PairStat
deriving DecidableEq, Repr

/-- The words of MOD_NODE, MOD_PAIR, MOD_ACTSINCE and MOD_BND as the voting lanes wrote them last (R390). -/
structure PairRegs where
  node : Word
  pair : Word
  actSince : Word
  bnd : Word
deriving DecidableEq, Repr

def PairRegs.reset : PairRegs := ⟨0x0003_FF00, 0, 0, 0⟩

/-- MOD_NODE, MOD_PAIR, MOD_ACTSINCE, MOD_BND (R390) with what the pair rules count (R379-R383): `served` is the committed state
that an active unit copies to its peer, `servedPos` and `servedNext` the COPY items that went before this tick's and that have gone with them,
`prevER` the unit's parts E and R before its evaluation of the present tick, `sealedER` those of its last pair frame and
`shadowER` those of the frame before, `removed` vehicles removed since the last pair frame and `removedOut` those that it names, `unitsNow` the manager units
whose data without STANDBY were read in the tick (R384), `regs` the words of the registers. -/
structure PairSt where
  strapId : BitVec 12
  pins : BitVec 12
  strapChanged : Bool
  idOk : Bool
  portMatch : Vector (BitVec 2) 4
  duplicate : Bool
  claim : BitVec 2
  peerClaim : BitVec 2
  sync : BitVec 2
  peerValid : Bool
  ahMatch : Bool
  ahRun : Nat
  promoteCnt : Nat
  yieldCnt : Nat
  yieldCause : BitVec 4
  actSince : Tick
  refusedCnt : Nat
  grantCnt : Nat
  view : Nat
  peerView : Nat
  peerSync : BitVec 2
  peerVoting : BitVec 3
  peerMiss : Nat
  ownTicks : Nat
  viewLow : Nat
  viewUnder : Nat
  run2Run : Nat
  yieldWait : Nat
  seenActive : Bool
  served : Option (Tick × AMap Elem × AMap RouteRec)
  servedPos : Nat
  servedNext : Nat
  copyTick : Option Tick
  copyGot : List CopyItem
  shadows : List Shadow
  prevER : Option (AMap Elem × AMap RouteRec)
  sealedER : Option (AMap Elem × AMap RouteRec)
  shadowER : Option (AMap Elem × AMap RouteRec)
  removed : List Nat
  removedOut : List Nat
  dualSeen : Option Tick
  unitsNow : List (BitVec 12)
  regs : PairRegs
deriving DecidableEq, Repr

/-! ### Always-on logic and power (R465-R488) -/

/-- The 64-byte fault record (R275). -/
structure FaultRec where
  src : Byte
  code : Byte
  lane : Byte
  mode : Byte
  time : DWord
  tick : Tick
  detail : Vector Word 8
deriving DecidableEq, Repr

/-- A latch record as NVM1 holds it (R482). -/
structure LatchRec where
  magic : Word
  seq : Word
  stateByte : Byte
  cause : Byte
  tick : Tick
  check : Word
deriving DecidableEq, Repr

/-- A retained record as NVM1 holds it (R484). -/
structure RetRec where
  magic : Word
  seq : Word
  restart : Word
  counters : Vector Word 9
  fmt : BitVec 16
  ploss : Bool
  vholdAtLoss : Bool
  essDone : Bool
  fullDone : Bool
  plossCnt : Nat
  commitMs : Nat
  check : Word
deriving DecidableEq, Repr

/-- Two sectors of appended records (R482, R484): newest first, 1,024 slots each. -/
structure Sectors (α : Type) where
  first : List α
  second : List α
  inSecond : Bool
deriving DecidableEq, Repr

/-- Always-on logic (R465, R471) and the registers in the AON domain (R488). -/
structure Aon where
  timeNs : DWord
  timeLatch : Word
  latch : Bool
  latchCause : Byte
  latchTick : Tick
  faultRec : Option FaultRec
  restart : Word
  counters : Vector Word 9
  sessBits : BitVec 8
  laneSeen : BitVec 3
  hostrCnt : Nat
  kind : BitVec 4
  warmSrc : BitVec 4
  ploss : Bool
  vholdAtLoss : Bool
  essDone : Bool
  fullDone : Bool
  commitMs : Nat
  plossCnt : Nat
  latrecPend : Bool
  retrecPend : Bool
  vqual : PerLane Bool
  disqCnt : Nat
  vhold : BitVec 12
  planStore : PerLane (Nat × Nat)
  hubTrim : Nat
deriving DecidableEq, Repr

/-- Phases of the power-loss sequence (R479-R481). -/
inductive PowerPhase where
  | normal | essential | full | aborted
deriving DecidableEq, Repr

/-- Domain switches (R465, R488), the field supplies VFn (R12), and the power-loss sequence. -/
structure Power where
  dom : BitVec 13
  phase : PowerPhase
  vinOk : Bool
  vf : Vector Bool 3
  perstLow : Bool
  d3hot : Bool
  busMaster : Bool
  linkUp : Bool
deriving DecidableEq, Repr

/-! ### The hub's shared resources (R391-R432) -/

/-- A lock register (R402, R405): its holder's identifier, 0 if free, and the orphan-pending flag. -/
structure Lck where
  owner : BitVec 4
  orphanPend : Bool
deriving DecidableEq, Repr

/-- A write to a check-value channel (R425, R426). -/
inductive CrcWrite where
  | cfg (v : Word) | seedLo (v : Word) | seedHi (v : Word) | data (t : Strobes) (v : Word)
deriving DecidableEq, Repr

/-- An access to the hub register bus, to the feed port of the check-value unit or to the GAL write port (R396). -/
inductive HubAccess where
  | inBuf (secure : Bool) (ch : Fin 8) (word : Fin 16) (val : Word)
  | outBuf (secure : Bool) (ch : Fin 8) (word : Fin 16)
  | inStat (secure : Bool) (ch : Fin 8) (val : Word)
  | bell (secure : Bool) (ch : Fin 8) (val : Word)
  | dbMask (secure : Bool) (ch : Fin 8) (val : Word)
  | lckRead (i : Fin 64)
  | lckWrite (i : Fin 64) (val : Word)
  | orphan (hi : Bool) (val : Word)
  | crc (ch : Fin 16) (w : CrcWrite)
  | crcRes (ch : Fin 16)
  | read (bar : Bar) (ofs : Nat)
  | galEntry (g : Fin 8) (p : Port) (idx : Fin 4096) (entry : DWord)
  | galCommit (g : Fin 8) (digest : DWord)
deriving DecidableEq, Repr

/-- An access that waits at the arbiter of a resource. -/
structure HubWait where
  res : Fin 6
  m : Master
  what : HubAccess
deriving DecidableEq, Repr

/-- Locks and arbiters (R396-R405, R418). `waiting` are the accesses that a freeze holds off, and feed writes that lost a round (R401, R425), in
their order. `lost` is the rounds that a requester has lost in a row, by 16 × resource + master
(R399), `freezeReq` the freeze request blocks that each lane has written in the present tick (R401). -/
structure Shared where
  lost : AMap Nat
  locks : Vector Lck 64
  orphan : DWord
  lastOwner : BitVec 4
  lastLock : BitVec 6
  orphanCnt : Nat
  ignMaster : BitVec 4
  ignCnt : Nat
  denyCnt : Nat
  denyMaster : BitVec 4
  denyOfs : BitVec 12
  freeze : BitVec 6
  mask : Byte
  expireCnt : Nat
  freezeReq : PerLane (List (List Byte))
  grants : Vector (BitVec 4) 6
  maxLost : Vector Nat 6
  frozenCnt : Vector Nat 6
  waiting : List HubWait
deriving DecidableEq, Repr

/-- A check-value channel (R419-R428): SEL, SEED_EN, seed, the settings in force since START, register, count. -/
structure Crc where
  sel : BitVec 2
  seedEn : Bool
  seed : DWord
  runSel : BitVec 2
  reg : DWord
  cnt : Nat
  feedErr : Nat
  resHi : Word
deriving DecidableEq, Repr

/-- The check-value block (R423, R430, R432). -/
structure CrcBlock where
  chans : Vector Crc 16
  katFail : BitVec 3
  linkFail : Nat
  denyCnt : Nat
  denyMaster : BitVec 4
deriving DecidableEq, Repr

/-- An entry of an outbound queue: the 64-byte copies of the lanes that posted it (R409). -/
structure OutMsg where
  copies : PerLane (Option (List Byte))
deriving DecidableEq, Repr

/-- A mailbox channel (R406-R418). -/
structure Mbx where
  inBuf : Vector Word 16
  inFull : Bool
  inColl : Bool
  inAborted : Bool
  outBuf : Vector Word 16
  outFull : Bool
  outAborted : Bool
  queue : List OutMsg
  h2m : Word
  m2h : Word
  mask : Word
  h2mMask : Word
  authFail : Nat
  seqFail : Nat
  collCnt : Nat
  qdrop : Nat
  closeCause : BitVec 4
  sessCnt : BitVec 16
  inSeq : Word
  outSeq : Word
deriving DecidableEq, Repr

/-- Mailboxes (R406-R417): the snapshot of the tick, messages agreed and awaiting evaluation; `outWait` are outbound messages, by
window and channel, that wait for the inbound reads of a tick's P5 (R35). -/
structure Mail where
  sec : Vector Mbx 8
  non : Vector Mbx 8
  snapDone : Bool
  toRead : List ReadMsg
  seenElem : List Nat
  seenRoute : List Nat
  seenVeh : List Nat
  seenSlot : List Nat
  seenSwitch : Bool
  movedRoute : List Nat
  later : List (Byte × Request)
  hostrPend : Bool
  outWait : List (Bool × Fin 8 × PerLane (Option (List Byte)))
deriving DecidableEq, Repr

/-! ### The Kazsan link (R301-R358) -/

/-- Network states (R325). -/
inductive NetState where
  | off | listen | coldstart | integrate | sync | silent | fullSilence
deriving DecidableEq, Repr

/-- A port (R334): neighbour, counters, delay, the run of R322, and the delay exchange (R310, R311): the transmit instant of a
DLY_REQ not yet answered, the results gained and the last median, both in units of 0.125 ns, and whether a median has come
into use since the link came up. -/
structure PortSt where
  nbr : BitVec 12
  nbrValid : Bool
  loss : Nat
  dlyOut : Bool
  freqFlt : Bool
  nbrOk : Bool
  blockLock : Bool
  linkUp : Bool
  delayValid : Bool
  delayChanged : Bool
  delay : BitVec 24
  edgeCnt : Nat
  badCnt : Nat
  edgeRun : Nat
  edgeTick : Bool
  t1 : Option Nat
  results : List Int
  median : Int
  fresh : Bool
deriving DecidableEq, Repr

/-- A received SAFE frame (R38): its bytes without FCS. -/
structure StoredFrame where
  bytes : List Byte
deriving DecidableEq, Repr

/-- A frame in the transmit buffer (R39, R395): stream, tick, each lane's copy, and whether it has left at a port. -/
structure TxFrame where
  stream : BitVec 12
  tick : Tick
  copies : PerLane (Option Sealed)
  gone : Bool
deriving DecidableEq, Repr

/-- A cycle-start frame as last seen while listening (R330, R366): what it carries, its arrival by the own counter, the time
it implies, and whether it completes a full valid cycle. -/
structure SeenCycle where
  ref : BitVec 12
  gal : BitVec 3
  base : DWord
  tick : Tick
  at_ : Nat
  implied : Nat
  rank : BitVec 2
  full : Bool
deriving DecidableEq, Repr

/-- Link engine, time and guardian (R301-R334). Of a tick's cycle-start frames: whether one was sampled, whether a valid one
came, and a copy of the other port with its arrival and deviation, held while that of the sync port may still come (R314). `seen` and
`seenParent` are of the own and of the parent area; `blockedTick` and `fwdLate` count a tick's blocked own frames and cut-off forwarded ones
(R324); `listenFrom` is the counter in ns at which the listen time began (R327). -/
structure Net where
  state : NetState
  refNode : BitVec 12
  refRank : BitVec 2
  refValid : Bool
  isRef : Bool
  won : Bool
  syncPort : Port
  ports : Vector PortSt 4
  devs : List Int
  silent : Bool
  fullSilent : Bool
  fullCause : BitVec 3
  silenceCnt : Nat
  attempts : Nat
  retreats : Nat
  takeovers : Nat
  csIgnored : Nat
  retreatRun : Nat
  late : Nat
  mismatch : Nat
  missEdges : Nat
  lockRun : Nat
  seen : Option SeenCycle
  seenParent : Option SeenCycle
  cycleThisTick : Bool
  cycleHeard : Bool
  heldCopy : Option (Port × Nat × List Byte)
  blockedTick : Nat
  fwdLate : Nat
  sepRun : Nat
  separated : Bool
  servo : Bool
  listenUs : Nat
  listenFrom : Nat
  sent : List (Port × List Byte)
deriving DecidableEq, Repr

/-- TIM registers and PPS (R319, R334). -/
structure Tim where
  tbase : DWord
  tbaseLatch : Word
  hops : BitVec 16
  ppsUsed : Bool
  ppsQual : Bool
  ppsRun : Nat
  ppsLast : Option Nat
  pulseCnt : Nat
  phase : BitVec 24
  holdover : Bool
  locked : Bool
  role : BitVec 2
  theta : BitVec 32
  rate : BitVec 32
deriving DecidableEq, Repr

/-- Gallery states (R349). -/
inductive GalState where
  | empty | loading | valid
deriving DecidableEq, Repr

/-- A gallery (R345-R349): port tables by entry index, unlisted entries 0. -/
structure Gallery where
  version : BitVec 16
  guard : Nat
  state : GalState
  digest : DWord
  tables : Vector (AMap DWord) 4
deriving DecidableEq, Repr

/-- A gallery switch in progress (R353-R355): target, N, announcement tick, announcer, this node's answer, decision. -/
structure Switch where
  g : Fin 8
  n : Tick
  a : Tick
  unit : BitVec 12
  own : Bool
  src : Option Request
  acks : List (BitVec 12 × DWord)
  nacks : List (BitVec 12 × BitVec 4)
  ack : BitVec 2
  reason : BitVec 4
  digest : DWord
  decision : BitVec 2
deriving DecidableEq, Repr

/-- Galleries and GAL registers (R349-R358). `nackOut` is a refused announcement to seal in the next STATUS: gallery, N,
reason (R353), `nackSealed` that the present tick's STATUS carries it. -/
structure Gal where
  gals : Vector Gallery 8
  active : Fin 8
  pending : Option (Fin 8)
  previous : Option (Fin 8)
  prevTick : Tick
  sw : Option Switch
  swTick : Tick
  silent : Bool
  doneCnt : Nat
  cancelCnt : Nat
  lastGal : Fin 8
  lastResult : BitVec 2
  missCnt : Nat
  nackOut : Option (Fin 8 × Tick × BitVec 4)
  nackSealed : Bool
  nackReason : BitVec 4
  firstMiss : BitVec 12
  wdrop : Nat
  wdropGal : Fin 8
  wdropMaster : BitVec 4
  viewGal : BitVec 3
  viewPort : BitVec 2
  silentEdges : Nat
deriving DecidableEq, Repr

/-- Network buffers (R38, R39, R345): receive buffers, transmit buffer, bridge queue, sequence numbers of own streams. -/
structure Buf where
  rxCur : List StoredFrame
  rxFrozen : List StoredFrame
  rxSeen : List (Nat × Tick)
  tx : List TxFrame
  txSeq : AMap Word
  bridge : List (Nat × List Byte)
deriving DecidableEq, Repr

/-! ### The log (R511-R528) -/

/-- The log and LOG registers. `recs` is in order of arrival; `ring` is the host ring in host memory; `late` collects what is
raised in a tick until its P5 stores it (R515), `fullEdge` is the ring full at the last edge (R528), and `restored` counts the
records at the front of `recs` that an archive restored (R526). -/
structure Log where
  recs : List Record
  occA : Nat
  occE : Nat
  occT : Nat
  tdrop : Nat
  lostA : Nat
  lostE : Nat
  newLostA : Nat
  newLostE : Nat
  gapCnt : Nat
  gapNode : BitVec 12
  expSeq : Word
  filter : Bool
  rate : Nat
  ringAddr : DWord
  log2 : Nat
  irqEn : Bool
  en : Bool
  head : Nat
  tail : Nat
  fullEdge : Bool
  fullRun : Nat
  ring : AMap Record
  restored : Nat
  sealed : List Record
  traceTick : Nat
  late : Option (List Record)
deriving DecidableEq, Repr

/-! ### Image, boot and update (R433-R464) -/

/-- Bank states (R442). -/
inductive BankState where
  | stable | rollingTrial | fullPending | fullTrial
deriving DecidableEq, Repr

/-- A copy of the bank record as the flash holds it (R442). -/
structure BankRec where
  magic : Word
  seq : Word
  active : Bool
  state : BankState
  ownerLock : Bool
  failed : BitVec 384
  check : Word
deriving DecidableEq, Repr

/-- Fuses (R437-R440, R447). -/
structure Fuses where
  slots : Vector (Option (BitVec 384)) 4
  revoked : BitVec 4
  secFloor : Nat
  manufactured : Bool
  commissioned : Bool
  retired : Bool
  kek : Option (BitVec 256)
deriving DecidableEq, Repr

/-- STAGE of UPD_STAT (R464). -/
inductive Stg where
  | idle | erasing | receiving | verifying | staged | rejected
deriving DecidableEq, Repr

/-- APPLY of UPD_STAT (R464). -/
inductive Apply where
  | none | deferred | copying | rolling | fullPending | fullTrial | fallback
deriving DecidableEq, Repr

/-- A daily ageing record (R506), for each die: the lowest slack, the plan with its measured gain, the highest temperature of the lane
dies and the hub die, the worst ring oscillator shift of the lane dies, the hub die and the field dies; the eye figures of each port,
the worst on-resistance. -/
structure DailyRec where
  low : PerLane Nat
  plan : PerLane (Nat × Nat)
  gain : PerLane Int
  hubLow : Nat
  hubTrim : Nat
  hubGain : Int
  fieldLow : Vector Nat 3
  temp : Vector (BitVec 8) 4
  roShift : Vector (BitVec 16) 7
  eye : Vector (BitVec 8) 4
  eyeHeight : Vector Nat 4
  ron : BitVec 16
deriving DecidableEq, Repr

/-- The stores that a migration has converted, beside the originals (R462), and the format version they have. -/
structure Converted where
  fmt : BitVec 16
  log : Option (Option Log)
  counters : Option (Sectors RetRec)
  ageing : Option (List DailyRec)
deriving DecidableEq, Repr

/-- The two flashes (R441, R483) as the stores the rules name. `logArea` is the area of the event log archive written last, `roBase` the
ring oscillators' baseline (R500) by 32 × die + monitor, `ready` that NVM1 takes appends, `appendFailed` that ALARM 0xF8 was raised
for those that wait (R487). -/
structure Nvm where
  bank0 : Option Image
  bank1 : Option Image
  rec0 : BankRec
  rec1 : BankRec
  staging : AMap (List Byte)
  stageTag : Option Word
  release : Option Release
  relChunks : AMap (List Byte)
  latchLog : Sectors LatchRec
  retLog : Sectors RetRec
  frec : Option (List Byte)
  logArch : Option Log
  logHist : List (List Record)
  aonArch : Option (PerLane (Nat × Nat) × Nat)
  dayArch : Option DailyRec
  badStore : Option (Fin 4)
  ageing : List DailyRec
  fmt : PerStore (BitVec 16)
  conv : Option Converted
  logArea : Bool
  roBase : AMap Nat
  ready : Bool
  appendFailed : Bool
deriving DecidableEq, Repr

/-- UPD and IMG (R464) and the update in progress. `taken` is the lane that a rolling update withdrew, with the tick (R458); `dmaAt` and
`dmaLeft` are the address of the next item that a host DMA fetches and the items left (R452). `keys`, `lcBits` and `fmt` are IMG_KEYS, bits [3:0] of IMG_LC and IMG_RETFMT as the
end of BOOT loaded them. -/
structure Upd where
  stage : Stg
  apply : Apply
  moving : Bool
  battLow : Bool
  lockPin : Bool
  reason : BitVec 4
  trialCause : BitVec 4
  total : Nat
  confirm : Nat
  confirmUs : Nat
  deferTicks : Nat
  deferAlarm : Bool
  taken : Option (Lane × Tick)
  accepted : Option Byte
  copying : Bool
  fallback : List Lane
  dmaAddr : DWord
  dmaCnt : Nat
  dmaAt : DWord
  dmaLeft : Nat
  dmaErr : Bool
  dmaBusy : Bool
  image : Option Image
  img : Option Image
  bank : Bool
  bootFallback : Bool
  b0 : BitVec 4
  b1 : BitVec 4
  lanesLoaded : BitVec 3
  bootMs : Nat
  ignCnt : Nat
  galQueue : List (Fin 8)
  keys : Word
  lcBits : BitVec 4
  fmt : Word
deriving DecidableEq, Repr

/-! ### Proof, ageing and self-test (R489-R510) -/

/-- PHASE of DGN_RPSTAT (R510). -/
inductive RpPhase where
  | idle | dissent | tests | copy
deriving DecidableEq, Repr

/-- Rolling proof of one lane (R493, R510): tick in which it is due, in ns of area time; OVERDUE; counters. -/
structure RpLane where
  dueNs : Option Nat
  due : Bool
  overdue : Bool
  pass : Nat
  fail : Nat
  durMs : Nat
deriving DecidableEq, Repr

/-- Proof, ageing and host self-test. `startNs` and `startTick` are the area time and the tick of the withdrawal for rolling proof,
`dayNs` the area time of the last daily record. -/
structure Proof where
  rpLane : BitVec 2
  phase : RpPhase
  lastFail : BitVec 4
  noResult : Nat
  deferTicks : Nat
  deferCnt : Nat
  lanes : PerLane RpLane
  stepDone : Nat
  startNs : Nat
  startTick : Tick
  hub : Plan
  fieldMargin : Nat
  eye : Vector (BitVec 8) 4
  eyeLow : Vector Nat 4
  ronCh : BitVec 6
  ronSide : Bool
  ron : BitVec 16
  day : Option DailyRec
  dayNs : Nat
  alarmed : List Byte
  life : BitVec 16
  limitDie : BitVec 4
  forecast : Bool
  foreDays : Nat
  bistBlock : BitVec 4
  bistBusy : Bool
  bistDone : Bool
  bistPass : Bool
  bistRefused : Bool
  bistLast : BitVec 4
  bistUs : Nat
  hotDies : BitVec 4
deriving DecidableEq, Repr

/-- Host interface (R529-R539): mirrors, MSI-X, MOD_IRQCTL, and what the last access returned. -/
structure HostIf where
  valid : Bool
  voted : Bool
  mlane : BitVec 2
  gen : BitVec 16
  mirTick : Tick
  tickDiv : BitVec 8
  msixMask : BitVec 32
  msix : AMap Word
  pendingVec : BitVec 32
  aborted : Bool
  raised : List Nat
  rdata : List Word
deriving DecidableEq, Repr

/-! ### Why a step stops -/

/-- Faults. No meaning raises one: R541 puts a module stressed beyond its ratings outside the manual, and no command of
the table carries such a stress; the constructor names that case. Safe: the machine would stop where nothing is claimed. -/
inductive Fault where
  /-- R541: stress beyond the absolute maximum ratings. Raised by no command. Safe. -/
  | outsideRatings
deriving DecidableEq, Repr

/-- Refusals. -/
inductive Refusal where
  /-- Raised by an arm of `exec` whose command has no meaning yet. Safe: the machine stops where the hardware goes on. -/
  | notModelled (mnemonic : String)
deriving DecidableEq, Repr

/-- The machine. -/
structure State where
  ms : ModeSt
  rrq : Rrq
  lanes : PerLane LaneSt
  fld : Field
  vot : Vot
  pair : PairSt
  aon : Aon
  pwr : Power
  sh : Shared
  crc : CrcBlock
  mail : Mail
  net : Net
  tim : Tim
  gal : Gal
  buf : Buf
  log : Log
  fuses : Fuses
  nvm : Nvm
  upd : Upd
  prf : Proof
  host : HostIf
  /-- MODEL: index of the next free value (`Config.freeGate`); no rule of the manual reads it. -/
  free : Nat
  /-- MODEL: commands waiting, first in first out. -/
  pending : List Instr
deriving DecidableEq, Repr

/-! ### Reset values -/

/-- The restart value of one element word before the class table of R99 is applied. -/
def Elem.zero : Elem := ⟨.none, 0, 0, .none, false, 0, 0, 0, 0⟩

def PulseRun.reset : PulseRun := ⟨none, false, false, false, false⟩

def OutK.reset : OutK :=
  ⟨none, 0, 0, 0, 0, 0, 0, false, 0, false, .reset, .reset, .reset, [], 0, false, .all 0, none, 0⟩

def InK.reset : InK := ⟨.all 0, .all false, 0⟩

def LaneK.reset : LaneK where
  elemArms := []
  routeArms := []
  resetArm := none
  lockArm := none
  streams := []
  ins := .replicate 48 .reset
  outs := .replicate 48 .reset
  aux := []
  reflexLatch := .replicate 64 false
  cmdRun := .replicate 48 0
  sessions := .replicate 8 none
  held := none
  heldBase := none
  heldChange := .replicate 48 none
  ovl := .replicate 3 0
  peers := .replicate 16 ⟨none, 0, false⟩
  slotIn := []
  refused := []
  granted := []
  codeRun := []
  ackPend := []
  ovlVeh := []
  contraVeh := []
  rejVeh := []
  tickBase := ⟨[], [], [], []⟩
  sent := []
  results := []
  resOut := []
  firstTick := none
  logSeq := []
  partO := .replicate 4 0
  track := 0

/-- What an element starts with beside its word. -/
def ElemAux.reset : ElemAux := ⟨none, none, false, false, false, false, 0, false, []⟩

def Carried.reset : Carried := ⟨[], [], [], [], .reset⟩

/-- DGN lane-check registers after a LANE reset (R243). -/
def LaneCheck.reset : LaneCheck :=
  ⟨false, false, 0, false, 0, false, none, 0, 0, 0, 0, 0, 0, false, 0, false, false, 0, 0, 0, 0, []⟩

/-- A core pair after a reset: register files and delay registers cleared (R219). -/
def CorePair.reset : CorePair := ⟨[], [], 0, 0, .replicate 2 ⟨0, 0⟩, .replicate 2 ⟨0, 0⟩, 0⟩

def Wdog.reset : Wdog := ⟨0, 0, false, false, 0, false⟩

def Budget.reset : Budget := ⟨false, false, 0, 0, false, false, none, 0, false⟩

def Plan.reset : Plan := ⟨0, 0, 0, 0, false, [], 0, 0, 0, 8, none⟩

def LaneSt.reset : LaneSt where
  svc := .reset
  lastCause := 0
  exitCnt := 0
  resyncCnt := 0
  badExits := []
  lcbResets := []
  region := .reset
  regionOk := false
  failedTick := false
  voted := false
  proofFails := 0
  copyFails := 0
  hot := false
  loaded := false
  runsNew := false
  trialCnt := 0
  copyReq := false
  donor := none
  check := .reset
  held := []
  wdog := .reset
  budget := .reset
  lp := .l0
  lpLast := .l0
  sleepUs := 0
  lateCnt := 0
  plan := .reset
  msgs := []
  ceWin := 0
  scrubPrev := []
  katDue := false
  sram := []
  cas := []
  pairs := .replicate 2 .reset
  cycle := 0
  clockOk := true
  exSeq := .replicate 6 0

def Iface.reset : Iface := ⟨none, none, none, none, 0⟩

def Replica.reset : Replica := ⟨.inactive, false, none, 0, 0, true⟩

def EchoItem.rest : EchoItem := ⟨.mid, .mid, false, false, .opn⟩

def ChReg.reset : ChReg :=
  ⟨0, 1, 1, false, false, false, false, false, 0, false, 0, 0, false, false, false, 0, false, false, false⟩

def Field.reset : Field where
  ifaces := .all (.replicate 3 .reset)
  reps := .all (.replicate 48 .reset)
  stages := .replicate 48 ⟨false, false, false, false⟩
  regs := .replicate 48 .reset
  cfg := .replicate 48 0
  banks := .replicate 3 ⟨false, false, 0, 0, 0⟩
  echoH := .all (.replicate 48 (some EchoItem.rest))
  srcWave := .all (.replicate 48 false)
  srcGap := none
  echoFrom := 0

def Vot.reset : Vot := ⟨false, 0, .all false, .all false, .all false, 0, 0, 0, 0, 0, 0, 0, 0, 0, 0⟩

def ModeSt.reset : ModeSt where
  mode := .boot
  tick := 0
  role := .unassigned
  voting := 0
  outHold := true
  holdTick := 0
  bootFail := false
  joinIdWait := false
  tUs := 0
  hubNoAgree := 0
  dissentA := 0
  dissentB := 0
  dissentC := 0
  reread := 0
  inputSplit := 0
  frameSplit := 0
  reqSplit := 0
  joinAlarm := false
  porHeld := true
  accepted := false
  p5Left := .all false
  run2Since := none

def Rrq.reset : Rrq := ⟨0, 0, 0, false, false, 0, .all false, none, [], []⟩

def PairSt.reset : PairSt where
  strapId := 0
  pins := 0
  strapChanged := false
  idOk := false
  portMatch := .replicate 4 3
  duplicate := false
  claim := 0
  peerClaim := 0
  sync := 0
  peerValid := false
  ahMatch := false
  ahRun := 0
  promoteCnt := 0
  yieldCnt := 0
  yieldCause := 0
  actSince := 0
  refusedCnt := 0
  grantCnt := 0
  view := 0
  peerView := 0
  peerSync := 0
  peerVoting := 0
  peerMiss := 0
  ownTicks := 0
  viewLow := 0
  viewUnder := 0
  run2Run := 0
  yieldWait := 0
  seenActive := false
  served := none
  servedPos := 0
  servedNext := 0
  copyTick := none
  copyGot := []
  shadows := []
  prevER := none
  sealedER := none
  shadowER := none
  removed := []
  removedOut := []
  dualSeen := none
  unitsNow := []
  regs := .reset

def Aon.reset : Aon where
  timeNs := 0
  timeLatch := 0
  latch := false
  latchCause := 0
  latchTick := 0
  faultRec := none
  restart := 1
  counters := .replicate 9 0
  sessBits := 0
  laneSeen := 0
  hostrCnt := 0
  kind := 1
  warmSrc := 0
  ploss := false
  vholdAtLoss := false
  essDone := false
  fullDone := false
  commitMs := 0
  plossCnt := 0
  latrecPend := false
  retrecPend := false
  vqual := .all false
  disqCnt := 0
  vhold := 0
  planStore := .all (0, 0)
  hubTrim := 0

def Power.reset : Power := ⟨0x03FB, .normal, true, .replicate 3 true, true, false, false, false⟩

def Shared.reset : Shared where
  lost := []
  locks := .replicate 64 ⟨0, false⟩
  orphan := 0
  lastOwner := 0
  lastLock := 0
  orphanCnt := 0
  ignMaster := 0
  ignCnt := 0
  denyCnt := 0
  denyMaster := 0
  denyOfs := 0
  freeze := 0
  mask := 0
  expireCnt := 0
  freezeReq := .all []
  grants := .replicate 6 0
  maxLost := .replicate 6 0
  frozenCnt := .replicate 6 0
  waiting := []

/-- A check-value channel initialized as by START with SEL 0b00 (R428). -/
def Crc.reset : Crc := ⟨0, false, 0, 0, 0xFFFF_FFFF, 0, 0, 0⟩

def CrcBlock.reset : CrcBlock := ⟨.replicate 16 .reset, 0, 0, 0, 0⟩

def Mbx.reset : Mbx where
  inBuf := .replicate 16 0
  inFull := false
  inColl := false
  inAborted := false
  outBuf := .replicate 16 0
  outFull := false
  outAborted := false
  queue := []
  h2m := 0
  m2h := 0
  mask := 0xFFFF_FFFF
  h2mMask := 0
  authFail := 0
  seqFail := 0
  collCnt := 0
  qdrop := 0
  closeCause := 0
  sessCnt := 0
  inSeq := 0
  outSeq := 0

def Mail.reset : Mail := ⟨.replicate 8 .reset, .replicate 8 .reset, false, [], [], [], [], [], false, [], [], false, []⟩

def PortSt.reset : PortSt :=
  ⟨0, false, 0, false, false, false, false, false, false, false, 0, 0, 0, 0, false, none, [], 0, false⟩

def Net.reset : Net where
  state := .off
  refNode := 0
  refRank := 0
  refValid := false
  isRef := false
  won := false
  syncPort := 0
  ports := .replicate 4 .reset
  devs := []
  silent := false
  fullSilent := false
  fullCause := 0
  silenceCnt := 0
  attempts := 0
  retreats := 0
  takeovers := 0
  csIgnored := 0
  retreatRun := 0
  late := 0
  mismatch := 0
  missEdges := 0
  lockRun := 0
  seen := none
  seenParent := none
  cycleThisTick := false
  cycleHeard := false
  heldCopy := none
  blockedTick := 0
  fwdLate := 0
  sepRun := 0
  separated := false
  servo := false
  listenUs := 0
  listenFrom := 0
  sent := []

def Tim.reset : Tim := ⟨0, 0, 0, false, false, 0, none, 0, 0, false, false, 0, 0, 0⟩

def Gallery.reset : Gallery := ⟨0, 0, .empty, 0, .replicate 4 []⟩

def Gal.reset : Gal where
  gals := .replicate 8 .reset
  active := 0
  pending := none
  previous := none
  prevTick := 0
  sw := none
  swTick := 0
  silent := false
  doneCnt := 0
  cancelCnt := 0
  lastGal := 0
  lastResult := 0
  missCnt := 0
  nackOut := none
  nackSealed := false
  nackReason := 0
  firstMiss := 0
  wdrop := 0
  wdropGal := 0
  wdropMaster := 0
  viewGal := 0
  viewPort := 0
  silentEdges := 0

def Buf.reset : Buf := ⟨[], [], [], [], [], []⟩

def Log.reset : Log where
  recs := []
  occA := 0
  occE := 0
  occT := 0
  tdrop := 0
  lostA := 0
  lostE := 0
  newLostA := 0
  newLostE := 0
  gapCnt := 0
  gapNode := 0
  expSeq := 0
  filter := false
  rate := 0x10
  ringAddr := 0
  log2 := 10
  irqEn := false
  en := false
  head := 0
  tail := 0
  fullEdge := false
  fullRun := 0
  ring := []
  restored := 0
  sealed := []
  traceTick := 0
  late := none

/-- A copy that nothing has written: its MAGIC and CHECK do not hold. -/
def BankRec.blank : BankRec := ⟨0, 0, false, .stable, false, 0, 0⟩

def Fuses.reset : Fuses := ⟨.replicate 4 (some 0), 0, 0, true, false, false, none⟩

def Nvm.reset : Nvm where
  bank0 := none
  bank1 := none
  rec0 := .blank
  rec1 := .blank
  staging := []
  stageTag := none
  release := none
  relChunks := []
  latchLog := ⟨[], [], false⟩
  retLog := ⟨[⟨0x54455258, 0, 1, .replicate 9 0, 0, false, false, false, false, 0, 0, 0x9095A8DF⟩], [], false⟩
  frec := none
  logArch := none
  logHist := []
  aonArch := none
  dayArch := none
  badStore := none
  ageing := []
  fmt := ⟨0, 0, 0⟩
  conv := none
  logArea := false
  roBase := []
  ready := true
  appendFailed := false

def Upd.reset : Upd where
  stage := .idle
  apply := .none
  moving := false
  battLow := false
  lockPin := false
  reason := 0
  trialCause := 0
  total := 0
  confirm := 0
  confirmUs := 0
  deferTicks := 0
  deferAlarm := false
  taken := none
  accepted := none
  copying := false
  fallback := []
  dmaAddr := 0
  dmaCnt := 1
  dmaAt := 0
  dmaLeft := 0
  dmaErr := false
  dmaBusy := false
  image := none
  img := none
  bank := false
  bootFallback := false
  b0 := 0xF
  b1 := 0xF
  lanesLoaded := 0
  bootMs := 0
  ignCnt := 0
  galQueue := []
  keys := 0
  lcBits := 1
  fmt := 0

def Proof.reset : Proof where
  rpLane := 0
  phase := .idle
  lastFail := 0
  noResult := 0
  deferTicks := 0
  deferCnt := 0
  lanes := .all ⟨none, false, false, 0, 0, 0⟩
  stepDone := 0
  startNs := 0
  startTick := 0
  hub := .reset
  fieldMargin := 0
  eye := .replicate 4 0
  eyeLow := .replicate 4 0
  ronCh := 0
  ronSide := false
  ron := 0
  day := none
  dayNs := 0
  alarmed := []
  life := 0xFFFF
  limitDie := 0
  forecast := false
  foreDays := 0
  bistBlock := 1
  bistBusy := false
  bistDone := false
  bistPass := false
  bistRefused := false
  bistLast := 0
  bistUs := 0
  hotDies := 0

def HostIf.reset : HostIf := ⟨false, false, 0, 0, 0, 1, 0xFFFF_FFFF, [], 0, false, [], []⟩

/-- The machine right after a power-on reset with blank flashes: BOOT, output hold set (R51), every register at its Reset
value, POR not yet released (R466). -/
def State.reset : State where
  ms := .reset
  rrq := .reset
  lanes := .all .reset
  fld := .reset
  vot := .reset
  pair := .reset
  aon := .reset
  pwr := .reset
  sh := .reset
  crc := .reset
  mail := .reset
  net := .reset
  tim := .reset
  gal := .reset
  buf := .reset
  log := .reset
  fuses := .reset
  nvm := .reset
  upd := .reset
  prf := .reset
  host := .reset
  free := 0
  pending := []

end Sys2Proof.Machine
end

