-- ==== Sys2Proof/Machine/Util.lean ====
section
/-!
DEFINITION. Arithmetic and containers: saturating counters, tick numbers, sparse tables, the three lanes, bytes
(little-endian in every register, message and frame of the manual, R2).
-/

namespace Sys2Proof

/-! ### The lanes -/

def lanesList : List Lane := [.a, .b, .c]

def PerLane.get {α : Type} (p : PerLane α) : Lane → α
  | .a => p.a
  | .b => p.b
  | .c => p.c

def PerLane.set {α : Type} (p : PerLane α) (l : Lane) (x : α) : PerLane α :=
  match l with
  | .a => { p with a := x }
  | .b => { p with b := x }
  | .c => { p with c := x }

def PerLane.map {α β : Type} (f : α → β) (p : PerLane α) : PerLane β := ⟨f p.a, f p.b, f p.c⟩

def PerLane.mapL {α β : Type} (f : Lane → α → β) (p : PerLane α) : PerLane β := ⟨f .a p.a, f .b p.b, f .c p.c⟩

def PerLane.modify {α : Type} (p : PerLane α) (l : Lane) (f : α → α) : PerLane α := p.set l (f (p.get l))

def PerLane.ofFn {α : Type} (f : Lane → α) : PerLane α := ⟨f .a, f .b, f .c⟩

def PerLane.toList {α : Type} (p : PerLane α) : List α := [p.a, p.b, p.c]

/-- A lane's place in a three-bit mask, lane A in bit 0. -/
def Lane.idx : Lane → Nat
  | .a => 0
  | .b => 1
  | .c => 2

def Lane.ofIdx : Nat → Option Lane
  | 0 => some .a
  | 1 => some .b
  | 2 => some .c
  | _ => none

/-- Bit of a lane in a mask. -/
def Lane.inMask (m : BitVec 3) (l : Lane) : Bool := m.getLsbD l.idx

/-- Mask of the lanes that meet `f`. -/
def maskOf (f : Lane → Bool) : BitVec 3 :=
  (if f .a then 1 else 0) ||| (if f .b then 2 else 0) ||| (if f .c then 4 else 0)

def lanesOf (m : BitVec 3) : List Lane := lanesList.filter (fun l => l.inMask m)

def countMask (m : BitVec 3) : Nat := (lanesOf m).length

/-- The value that at least two of the three share, if there is one. -/
def majority {α : Type} [DecidableEq α] (p : PerLane α) : Option α :=
  if p.a = p.b then some p.a else if p.a = p.c then some p.a else if p.b = p.c then some p.b else none

end Sys2Proof

namespace Sys2Proof.Machine

/-! ### Counters and tick numbers -/

/-- One more, up to `m`: a counter that saturates. -/
def satInc (m n : Nat) : Nat := if n < m then n + 1 else m

/-- `k` more, up to `m`. -/
def satAdd (m n k : Nat) : Nat := min m (n + k)

/-- Ticks from `b` to `a` by the signed wrapping difference of two tick numbers (R3). -/
def tickDiff (a b : Tick) : Int := (a - b).toInt

/-- `a` is `b` or later (R3). -/
def tickGe (a b : Tick) : Bool := decide (0 ≤ tickDiff a b)

/-- `a` is later than `b` (R3). -/
def tickGt (a b : Tick) : Bool := decide (0 < tickDiff a b)

/-- `ms` milliseconds in ticks, rounded up (R79). -/
def msTicks (tUs : BitVec 17) (ms : Nat) : Nat :=
  if tUs.toNat = 0 then 0 else (ms * 1000 + tUs.toNat - 1) / tUs.toNat

/-! ### Sparse tables -/

def AMap.get? {α : Type} (m : AMap α) (k : Nat) : Option α :=
  match m with
  | [] => none
  | (j, v) :: r => if j = k then some v else AMap.get? r k

/-- `v` at `k`, keeping the keys strictly rising. -/
def AMap.set {α : Type} (m : AMap α) (k : Nat) (v : α) : AMap α :=
  match m with
  | [] => [(k, v)]
  | (j, w) :: r => if k < j then (k, v) :: (j, w) :: r else if k = j then (k, v) :: r else (j, w) :: AMap.set r k v

def AMap.del {α : Type} (m : AMap α) (k : Nat) : AMap α := m.filter (fun p => p.1 != k)

def AMap.getD {α : Type} (m : AMap α) (k : Nat) (d : α) : α := (m.get? k).getD d

def AMap.has {α : Type} (m : AMap α) (k : Nat) : Bool := (m.get? k).isSome

/-- `f` at `k`, where `k` has a value. -/
def AMap.modify {α : Type} (m : AMap α) (k : Nat) (f : α → α) : AMap α :=
  m.map (fun p => if p.1 = k then (p.1, f p.2) else p)

def AMap.mapV {α β : Type} (m : AMap α) (f : Nat → α → β) : AMap β := m.map (fun p => (p.1, f p.1 p.2))

/-- Keys strictly rising: the canonical form of a sparse table. -/
def AMap.wf {α : Type} (m : AMap α) : Bool :=
  match m with
  | [] => true
  | (k, _) :: r =>
    (match r with
     | [] => true
     | (j, _) :: _ => decide (k < j)) && AMap.wf r

/-- At least two of the three. -/
def two (p : PerLane Bool) : Bool := (p.a && p.b) || (p.a && p.c) || (p.b && p.c)

/-! ### Fixed files -/

/-- Value at a natural index, `d` beyond the end. -/
def vget {α : Type} {n : Nat} (v : Vector α n) (i : Nat) (d : α) : α := (v[i]?).getD d

/-- `f` at index `i`. -/
def vmod {α : Type} {n : Nat} (v : Vector α n) (i : Fin n) (f : α → α) : Vector α n := v.set i (f v[i])

/-- Each entry by its index. -/
def vmapIdx {α β : Type} {n : Nat} (v : Vector α n) (f : Fin n → α → β) : Vector β n :=
  Vector.ofFn (fun i => f i v[i])

def allFin (n : Nat) : List (Fin n) := List.finRange n

/-! ### Bytes -/

/-- The `n` bytes of a number, least significant first. -/
def leBytes (n v : Nat) : List Byte :=
  match n with
  | 0 => []
  | k + 1 => BitVec.ofNat 8 v :: leBytes k (v / 256)

/-- The number of bytes, least significant first. -/
def leNat (bs : List Byte) : Nat :=
  match bs with
  | [] => 0
  | b :: r => b.toNat + 256 * leNat r

/-- `n` bytes from `ofs`, zeros where there are none. -/
def bytesAt (bs : List Byte) (ofs n : Nat) : List Byte :=
  let r := (bs.drop ofs).take n
  r ++ List.replicate (n - r.length) 0

def natAt (bs : List Byte) (ofs n : Nat) : Nat := leNat (bytesAt bs ofs n)

/-- Exactly `n` bytes of `bs`, padded with zeros. -/
def padTo (n : Nat) (bs : List Byte) : List Byte := bytesAt bs 0 n

/-- The 64 bytes of a mailbox window from its 16 words. -/
def wordsBytes (ws : List Word) : List Byte := ws.flatMap (fun w => leBytes 4 w.toNat)

/-- The words of bytes. -/
def bytesWords (n : Nat) (bs : List Byte) : List Word :=
  (List.range n).map (fun i => BitVec.ofNat 32 (natAt bs (4 * i) 4))

/-- Bits of booleans, bit 0 first. -/
def bitsNat (bs : List Bool) : Nat :=
  match bs with
  | [] => 0
  | b :: r => (if b then 1 else 0) + 2 * bitsNat r

def b2n (b : Bool) : Nat := if b then 1 else 0

/-- A word from its fields: the lowest bit and the value of each. -/
def fields32 (fs : List (Nat × Nat)) : Word :=
  BitVec.ofNat 32 (fs.foldl (fun acc p => acc + p.2 * 2 ^ p.1) 0)

def fields64 (fs : List (Nat × Nat)) : DWord :=
  BitVec.ofNat 64 (fs.foldl (fun acc p => acc + p.2 * 2 ^ p.1) 0)

/-- First that a list's elements yield. -/
def firstSome {α β : Type} (l : List α) (f : α → Option β) : Option β :=
  match l with
  | [] => none
  | a :: r =>
    match f a with
    | some b => some b
    | none => firstSome r f

/-- Insertion by a strict order. -/
def insertBy {α : Type} (lt : α → α → Bool) (a : α) (l : List α) : List α :=
  match l with
  | [] => [a]
  | b :: r => if lt a b then a :: b :: r else b :: insertBy lt a r

def sortBy {α : Type} (lt : α → α → Bool) (l : List α) : List α := l.foldl (fun acc a => insertBy lt a acc) []

/-- A list in groups of `n`. -/
def groups {α : Type} (fuel n : Nat) (l : List α) : List (List α) :=
  match fuel with
  | 0 => []
  | k + 1 => if l.isEmpty then [] else l.take n :: groups k n (l.drop n)

end Sys2Proof.Machine
end

