-- ==== Sys2Proof/Machine/Crc.lean ====
section
/-!
DEFINITION. The four CRC algorithms of R419 and R420 on natural numbers, with the preset of R421.
-/

namespace Sys2Proof.Machine

/-- `n` shifts of a reflected register towards its least significant bit. -/
def crcShiftR (poly n r : Nat) : Nat :=
  match n with
  | 0 => r
  | k + 1 => crcShiftR poly k (if r % 2 = 1 then (r / 2) ^^^ poly else r / 2)

/-- A byte into a reflected register, least significant bit first (R420). -/
def crcByteR (poly : Nat) (r : Nat) (b : Byte) : Nat := crcShiftR poly 8 (r ^^^ b.toNat)

/-- `n` shifts of the CRC-16 register towards its most significant bit. -/
def crcShift16 (n r : Nat) : Nat :=
  match n with
  | 0 => r
  | k + 1 => crcShift16 k (if r / 32768 = 1 then (r * 2 % 65536) ^^^ 0x1021 else r * 2)

/-- A byte into the CRC-16 register, most significant bit first (R420). -/
def crcByte16 (r : Nat) (b : Byte) : Nat := crcShift16 8 (r ^^^ (b.toNat * 256))

def polyCrc32 : Nat := 0xEDB88320
def polyCrc32c : Nat := 0x82F63B78
def polyCrc64 : Nat := 0xC96C5795D7870F42
def ones32 : Nat := 0xFFFFFFFF
def ones64 : Nat := 0xFFFFFFFFFFFFFFFF

/-- CRC-32 (R419). -/
def crc32 (bs : List Byte) : Word := BitVec.ofNat 32 (bs.foldl (crcByteR polyCrc32) ones32 ^^^ ones32)

/-- CRC-32C with the register preset to `seed` (R421). -/
def crc32cSeed (seed : Nat) (bs : List Byte) : Word :=
  BitVec.ofNat 32 (bs.foldl (crcByteR polyCrc32c) seed ^^^ ones32)

/-- CRC-32C (R419). -/
def crc32c (bs : List Byte) : Word := crc32cSeed ones32 bs

/-- CRC-64 (R419). -/
def crc64 (bs : List Byte) : DWord := BitVec.ofNat 64 (bs.foldl (crcByteR polyCrc64) ones64 ^^^ ones64)

/-- CRC-16 (R419). -/
def crc16 (bs : List Byte) : BitVec 16 := BitVec.ofNat 16 (bs.foldl crcByte16 0xFFFF)

/-- INIT of an algorithm by its SEL (R419). -/
def crcInit (sel : BitVec 2) : Nat :=
  if sel = 3 then ones64 else if sel = 2 then 0xFFFF else ones32

/-- Low bits of a seed that the algorithm's width keeps (R432). -/
def crcMask (sel : BitVec 2) (v : Nat) : Nat :=
  if sel = 3 then v else if sel = 2 then v % 65536 else v % 4294967296

/-- A byte into the register of an algorithm. -/
def crcFeed (sel : BitVec 2) (r : Nat) (b : Byte) : Nat :=
  if sel = 0 then crcByteR polyCrc32 r b
  else if sel = 1 then crcByteR polyCrc32c r b
  else if sel = 2 then crcByte16 r b
  else crcByteR polyCrc64 r b

/-- The result of a register: after the XOR with XOROUT (R420). -/
def crcOut (sel : BitVec 2) (r : Nat) : Nat :=
  if sel = 3 then r ^^^ ones64 else if sel = 2 then r else r ^^^ ones32

end Sys2Proof.Machine
end

