-- ==== Sys2Proof/Config.lean ====
section
/-!
DEFINITION. What an implementation fixes and the manual leaves open: constants without a body, so that no proof can see a
value of them.
-/

namespace Sys2Proof

/-- R253: gate drive after a majority dropout of 20 to 40 µs, which the manual leaves open; a fresh value for each case. -/
opaque Config.freeGate : Nat → Bool

/-- R85: the phase a counting head is left in by a sequence error, of the two phases that show the new sensor combination;
by element, head and tick. The manual states none (assumption 12). -/
opaque Config.errPhase : Nat → Nat → Tick → Bool

/-- R539: die revision, REV of MOD_ID. -/
opaque Config.dieRev : Byte

/-- R433, R435: what the eight sections of an image say, given in the order of their types; the manual leaves their byte layout to
Poriq. None: nothing that a lane can read. -/
opaque Config.sectionsOf : List (List Byte) → Option (Machine.AreaCfg × Machine.AMap Machine.NodePart)

/-- R435: a node's part of a node-indexed section; the manual leaves the layout of the table of ranges and offsets to Poriq. -/
opaque Config.nodeSlice : List Byte → BitVec 12 → List Byte

/-- R480: duration of an essential commit in ms, of which the manual says only that it ends within 2 ms; a fresh value for each. -/
opaque Config.essentialMs : Nat → Nat

/-- R314, R332: the servo's rate adjustment after an offset sample, in units of 0.001 ppm, from the rate before and θ in ns;
the manual bounds it and states no law. -/
opaque Config.servoRate : Int → Int → Int

/-- R507: a remaining life in whole months, from days (none: the fit never reaches the end of life). The manual states neither the
length of a month nor the rounding. -/
opaque Config.lifeMonths : Option Rat → BitVec 16

/-- R234, R235: whether three and more wrong bits of a word show as an uncorrectable error; the manual states the outcome of one
and of two (assumption 105). -/
opaque Config.eccBeyond : EccRead → Bool

/-- R529-R531: what a read of configuration space gives where the manual names no value (assumption 111); a fresh value for each. -/
opaque Config.cfgSpace : Nat → BitVec 12 → BitVec 32

/-- R430: the fixed test packet and the test frame of the known-answer test; the manual states their bytes nowhere. -/
opaque Config.katPacket : List Byte
opaque Config.katFrame : List Byte

end Sys2Proof
end

