-- ==== Sys2Proof/Machine/Operands.lean ====
section
/-!
DEFINITION. Layouts: element state words, route records, authority records and limits, request, result and session records,
log records, and the codes that stand in them.
-/

namespace Sys2Proof

/-- Lane number in records and registers: 1 A, 2 B, 3 C (R512). -/
def Lane.num (l : Lane) : Nat := l.idx + 1

/-- CLASS of a record (R511). -/
def RecClass.code : RecClass → Nat
  | .alarm => 1
  | .event => 2
  | .trace => 3

/-- FORM of a record (R512). -/
def RecForm.code : RecForm → Nat
  | .original => 0
  | .summary => 1
  | .last => 2

end Sys2Proof

namespace Sys2Proof.Machine

/-! ### Codes -/

/-- Class code (R66). -/
def ClassCfg.code : ClassCfg → BitVec 4
  | .trackSection _ _ _ => 0x1
  | .point _ _ _ _ _ _ => 0x2
  | .signal _ _ => 0x3
  | .stop _ _ _ _ _ _ => 0x4
  | .gate _ _ _ _ _ _ => 0x5
  | .movable _ _ _ _ _ _ => 0x6
  | .zone _ _ _ _ _ _ _ _ => 0x7
  | .boundary _ _ => 0x8
  | .block _ _ _ => 0x9
  | .detLevel _ => 0xA
  | .detCount _ => 0xA

/-- STATUS code (R69). -/
def Status.code : Status → BitVec 4
  | .none => 0x0
  | .proved => 0x1
  | .unproved => 0x2
  | .disturbed => 0x3
  | .failed => 0x4
  | .blocked => 0x5

/-- STATUS of a code; reserved codes read as not confirmed (R69). -/
def Status.ofCode (c : BitVec 4) : Status :=
  if c = 0 then .none else if c = 1 then .proved else if c = 3 then .disturbed
  else if c = 4 then .failed else if c = 5 then .blocked else .unproved

/-- LOCK code (R70). -/
def LockKind.code : LockKind → Nat
  | .none => 0
  | .route => 1
  | .overlap => 2
  | .boundary => 3
  | .maintenance => 4

/-- LOCK of a code (R70). -/
def LockKind.ofCode (c : Nat) : LockKind :=
  if c = 1 then .route else if c = 2 then .overlap else if c = 3 then .boundary
  else if c = 4 then .maintenance else .none

/-- Route state code (R116). -/
def RState.code : RState → BitVec 4
  | .idle => 0
  | .requested => 1
  | .checking => 2
  | .locked => 3
  | .proved => 4
  | .cleared => 5
  | .entered => 6
  | .releasing => 7
  | .cancelling => 8
  | .rejected => 9

/-- Route state of a code (R116). -/
def RState.ofCode (c : Nat) : RState :=
  match c with
  | 1 => .requested
  | 2 => .checking
  | 3 => .locked
  | 4 => .proved
  | 5 => .cleared
  | 6 => .entered
  | 7 => .releasing
  | 8 => .cancelling
  | 9 => .rejected
  | _ => .idle

/-- STATE of an authority record (R166). -/
def AState.code : AState → Nat
  | .none => 0
  | .fresh => 1
  | .frozen => 2

/-- Mode code (R41). -/
def Mode.code : Mode → BitVec 4
  | .boot => 0
  | .prove => 1
  | .join => 2
  | .run => 3
  | .run2 => 4
  | .lockout => 5

/-- ROLE of MOD_MODE (R65). -/
def Role.code : Role → BitVec 2
  | .worker => 0
  | .active => 1
  | .standby => 2
  | .unassigned => 3

/-- Service state code (R205). -/
def Svc.code : Svc → BitVec 4
  | .inService => 0
  | .out => 1
  | .resync => 2
  | .withdrawn => 3
  | .reset => 4
  | .disabled => 5

/-! ### Part E (R68) -/

/-- The element state word of an element of class `cls` (R68). A COUNT detector's word has its second head's phase at
[47:44] and nothing at [43:16] (R72). -/
def Elem.word (cfg : ClassCfg) (e : Elem) : DWord :=
  match cfg with
  | .detCount _ =>
    fields64 [(60, 0xA), (56, e.status.code.toNat), (52, e.det.toNat), (48, e.cmd.toNat), (44, e.phase2.toNat),
      (0, e.timer)]
  | _ =>
    fields64 [(60, cfg.code.toNat), (56, e.status.code.toNat), (52, e.det.toNat), (48, e.cmd.toNat),
      (45, e.lock.code), (44, b2n e.flank), (30, e.owner.toNat), (16, e.flankOwner.toNat), (0, e.timer)]

/-- An element of a state word (R68). -/
def Elem.ofWord (cfg : ClassCfg) (w : DWord) : Elem :=
  match cfg with
  | .detCount _ =>
    ⟨.ofCode (w.extractLsb' 56 4), w.extractLsb' 52 4, w.extractLsb' 48 4, .none, false, 0, 0,
      (w.extractLsb' 0 16).toNat, w.extractLsb' 44 4⟩
  | _ =>
    ⟨.ofCode (w.extractLsb' 56 4), w.extractLsb' 52 4, w.extractLsb' 48 4, .ofCode (w.extractLsb' 45 3).toNat,
      w.getLsbD 44, w.extractLsb' 30 14, w.extractLsb' 16 14, (w.extractLsb' 0 16).toNat, 0⟩

/-! ### Part R (R114) -/

/-- Bits [63:0] and [127:64] of a route record (R114). -/
def RouteRec.words (r : RouteRec) : DWord × DWord :=
  (fields64 [(32, r.stateTick.toNat), (0, r.occSeen.toNat)],
   fields64 [(60, r.state.code.toNat), (52, r.reason.toNat), (51, b2n r.wasCleared), (50, b2n r.clearPending),
     (49, b2n r.emerg), (48, b2n r.ovlReleased), (42, r.released), (40, r.source.toNat), (16, r.timer),
     (8, r.bndGranted.toNat)])

/-- A route record of its two words (R114); the request that set it is lane state and not in them. -/
def RouteRec.ofWords (lo hi : DWord) : RouteRec where
  state := .ofCode (hi.extractLsb' 60 4).toNat
  reason := hi.extractLsb' 52 8
  wasCleared := hi.getLsbD 51
  clearPending := hi.getLsbD 50
  emerg := hi.getLsbD 49
  ovlReleased := hi.getLsbD 48
  released := (hi.extractLsb' 42 6).toNat
  source := hi.extractLsb' 40 2
  timer := (hi.extractLsb' 16 24).toNat
  bndGranted := hi.extractLsb' 8 8
  stateTick := lo.extractLsb' 32 32
  occSeen := lo.extractLsb' 0 32
  setBy := none

/-- A route record after a restart (R147). DESIGN CHOICE (log 142): STATE_TICK, which R147 excepts from zero, is 0. -/
def RouteRec.idle : RouteRec := ⟨.idle, 0, false, false, false, false, 0, 3, 0, 0, 0, 0, none⟩

/-! ### Parts A and H (R166, R198) -/

/-- The 32 bytes of an authority record (R166). -/
def AuthRec.bytes (a : AuthRec) : List Byte :=
  [BitVec.ofNat 8 a.state.code, a.term.setWidth 8,
   BitVec.ofNat 8 (bitsNat [a.limitDir, a.rejLast, a.standstill]), BitVec.ofNat 8 (min 255 a.age)] ++
  leBytes 2 a.limitElem.toNat ++ leBytes 2 a.frontElem.toNat ++ leBytes 4 a.limitOfs ++ leBytes 4 a.frontOfs ++
  leBytes 4 a.dist ++ leBytes 2 a.conf ++ leBytes 2 a.route.toNat ++ leBytes 4 a.issueTick.toNat ++
  leBytes 4 a.measTick.toNat

/-- A word of part H (R198). -/
def Limit.word (l : Limit) : DWord :=
  fields64 [(0, l.elem.toNat), (16, l.ofs), (40, b2n l.dir), (41, b2n l.valid)]

/-- The 24-byte authority message of a vehicle (R167). -/
def AuthRec.message (va veh : Nat) (a : AuthRec) : List Byte :=
  leBytes 2 veh ++ [a.term.setWidth 8, BitVec.ofNat 8 (bitsNat [a.limitDir, a.state == .frozen])] ++
  leBytes 2 a.limitElem.toNat ++ [0, 0] ++ leBytes 4 a.limitOfs ++ leBytes 4 a.issueTick.toNat ++
  leBytes 4 (a.issueTick.toNat + va) ++ leBytes 4 a.measTick.toNat

/-- A position report of its 24 bytes (R152). -/
def posReportOf (gw : BitVec 12) (bs : List Byte) : PosReport where
  gateway := gw
  vehId := BitVec.ofNat 16 (natAt bs 0 2)
  flags := BitVec.ofNat 8 (natAt bs 2 1)
  byte3 := BitVec.ofNat 8 (natAt bs 3 1)
  frontElem := BitVec.ofNat 16 (natAt bs 4 2)
  rearElem := BitVec.ofNat 16 (natAt bs 6 2)
  frontOfs := BitVec.ofNat 32 (natAt bs 8 4)
  rearOfs := BitVec.ofNat 32 (natAt bs 12 4)
  conf := BitVec.ofNat 16 (natAt bs 16 2)
  speed := BitVec.ofNat 16 (natAt bs 18 2)
  measTick := BitVec.ofNat 32 (natAt bs 20 4)

/-- The 24 bytes of a position report (R152). -/
def posReportBytes (r : PosReport) : List Byte :=
  leBytes 2 r.vehId.toNat ++ [r.flags, r.byte3] ++ leBytes 2 r.frontElem.toNat ++ leBytes 2 r.rearElem.toNat ++
  leBytes 4 r.frontOfs.toNat ++ leBytes 4 r.rearOfs.toNat ++ leBytes 2 r.conf.toNat ++ leBytes 2 r.speed.toNat ++
  leBytes 4 r.measTick.toNat

/-! ### Reflex entries (R213) -/

def ReflexKind.code : ReflexKind → Byte
  | .input => 0x01
  | .endPos => 0x02
  | .timeout => 0x03

/-- The 24 bytes of a reflex entry. -/
def ReflexEntry.bytes (e : ReflexEntry) : List Byte :=
  [e.kind.code, BitVec.ofNat 8 (b2n e.hold)] ++ leBytes 6 e.outMask.toNat ++ leBytes 6 e.inMask.toNat ++
  leBytes 6 e.level.toNat ++ leBytes 2 e.limit ++ [0, 0]

/-- A reflex entry of its 24 bytes; none for another KIND, which names no entry. -/
def ReflexEntry.ofBytes (bs : List Byte) : Option ReflexEntry :=
  let kind : Option ReflexKind := match natAt bs 0 1 with
    | 1 => some .input
    | 2 => some .endPos
    | 3 => some .timeout
    | _ => none
  kind.map (fun k =>
    ⟨k, natAt bs 1 1 % 2 == 1, BitVec.ofNat 48 (natAt bs 2 6), BitVec.ofNat 48 (natAt bs 8 6), BitVec.ofNat 48 (natAt bs 14 6),
      natAt bs 20 2⟩)

/-- The reflex table of a node (R212): an entry for each place, none where its bytes name none. -/
def NodePart.reflexTable (p : NodePart) : List (Option ReflexEntry) := p.reflex.map ReflexEntry.ofBytes

/-! ### Requests and results (R142, R143) -/

/-- The request of a 32-byte request record (R142) with its source and the SEQ of what carried it; REQ_CODE beside it. -/
def requestOf (src : Source) (seq : Word) (bs : List Byte) : Byte × Request :=
  (BitVec.ofNat 8 (natAt bs 1 1),
   { src := src
     kind := BitVec.ofNat 8 (natAt bs 0 1)
     tag := BitVec.ofNat 16 (natAt bs 2 2)
     target := BitVec.ofNat 16 (natAt bs 4 2)
     arg := BitVec.ofNat 16 (natAt bs 6 2)
     validFrom := BitVec.ofNat 32 (natAt bs 8 4)
     validTo := BitVec.ofNat 32 (natAt bs 12 4)
     armSeq := BitVec.ofNat 32 (natAt bs 16 4)
     reservedZero := (bytesAt bs 20 12).all (fun b => b == 0)
     seq := seq })

/-- The 32 bytes of a request record (R142). -/
def requestBytes (code : Byte) (q : Request) : List Byte :=
  [q.kind, code] ++ leBytes 2 q.tag.toNat ++ leBytes 2 q.target.toNat ++ leBytes 2 q.arg.toNat ++ leBytes 4 q.validFrom.toNat ++
  leBytes 4 q.validTo.toNat ++ leBytes 4 q.armSeq.toNat ++ List.replicate 12 0

/-- A result record or route notice (R143): KIND, REQ_CODE, REQ_TAG, TARGET, RESULT, STATE, TICK, REQ_SEQ. -/
def resultBytes (kind code : Byte) (tag target : BitVec 16) (result state : Byte) (tick : Tick) (seq : Word) :
    List Byte :=
  [kind, code] ++ leBytes 2 tag.toNat ++ leBytes 2 target.toNat ++ [result, state] ++ leBytes 4 tick.toNat ++
  leBytes 4 seq.toNat ++ List.replicate 16 0

/-- A mailbox message: SEQ, a 32-byte record, 12 zero bytes, TAG (R413). -/
def messageBytes (seq : Word) (rec tag : List Byte) : List Byte :=
  leBytes 4 seq.toNat ++ padTo 32 rec ++ List.replicate 12 0 ++ padTo 16 tag

/-- Retained counter index of a request code (R485): 0 to 8, by ascending code; none for a code without one. -/
def retIndex (code : Byte) : Option (Fin 9) :=
  if code = 0x02 then some 0 else if code = 0x07 then some 1 else if code = 0x08 then some 2
  else if code = 0x09 then some 3 else if code = 0x0B then some 4 else if code = 0x0C then some 5
  else if code = 0x22 then some 6 else if code = 0x23 then some 7 else if code = 0x30 then some 8 else none

/-! ### Log records (R512) -/

/-- Object kinds of R512. -/
inductive ObjKind where
  | none | element | route | vehicle | channel | port | node | area | slot | die
deriving DecidableEq, Repr

def ObjKind.code : ObjKind → BitVec 4
  | .none => 0
  | .element => 1
  | .route => 2
  | .vehicle => 3
  | .channel => 4
  | .port => 5
  | .node => 6
  | .area => 7
  | .slot => 8
  | .die => 9

/-- The 32 bytes of a record (R512). -/
def recordBytes (r : Record) : List Byte :=
  [BitVec.ofNat 8 (r.cls.code + 4 * r.form.code + 16 * r.lane.toNat + 64 * b2n r.single), r.code] ++
  leBytes 2 r.srcNode.toNat ++ [r.objKind.setWidth 8, 0] ++ leBytes 2 r.obj.toNat ++ leBytes 4 r.tick.toNat ++
  leBytes 4 r.tickLast.toNat ++ leBytes 4 r.count ++ padTo 8 r.detail ++ leBytes 4 r.lseq.toNat

/-- A record of its 32 bytes (R512), if its CLASS and FORM are defined. -/
def recordOf (bs : List Byte) : Option Record :=
  let h := natAt bs 0 1
  let cls : Option RecClass :=
    if h % 4 = 1 then some .alarm else if h % 4 = 2 then some .event else if h % 4 = 3 then some .trace else none
  let form : Option RecForm :=
    if h / 4 % 4 = 0 then some .original else if h / 4 % 4 = 1 then some .summary
    else if h / 4 % 4 = 2 then some .last else none
  match cls, form with
  | some c, some f =>
    some { cls := c, form := f, lane := BitVec.ofNat 2 (h / 16), single := h / 64 % 2 == 1,
           code := BitVec.ofNat 8 (natAt bs 1 1), srcNode := BitVec.ofNat 12 (natAt bs 2 2),
           objKind := BitVec.ofNat 4 (natAt bs 4 1), obj := BitVec.ofNat 16 (natAt bs 6 2),
           tick := BitVec.ofNat 32 (natAt bs 8 4), tickLast := BitVec.ofNat 32 (natAt bs 12 4),
           count := natAt bs 16 4, detail := bytesAt bs 20 8, lseq := BitVec.ofNat 32 (natAt bs 28 4) }
  | _, _ => none

end Sys2Proof.Machine
end

