-- ==== Sys2Proof/Machine/Eval.lean ====
section
/-!
DEFINITION. What one lane's evaluation of a tick reads and what it produces: the agreed input vector of P1, the carried
state, and the effects that leave the lane (records, results, retained counters). One such evaluation runs for each lane.
-/

namespace Sys2Proof.Machine

/-- A record that a lane raises (R515); TICK and SRC_NODE are the tick's and the node's. -/
structure RecItem where
  cls : RecClass
  code : Byte
  kind : ObjKind
  obj : Nat
  detail : List Byte
  lane : BitVec 2
deriving DecidableEq, Repr

/-- A result record or notice with its addressee and the SEQ of the request it answers (R143). -/
structure Post where
  src : Source
  bytes : List Byte
  seq : Word
deriving DecidableEq, Repr

/-- What the upstream frame of a node says of its output channels (R90, R339). -/
structure OutView where
  applied : BitVec 48
  openLoad : BitVec 48
deriving DecidableEq, Repr

/-- An item of an accepted safety-coded frame, as a role may bind a bit of it (R74). -/
structure FrameItem where
  area : Word
  node : BitVec 12
  cls : Byte
  item : Nat
  bytes : List Byte
deriving DecidableEq, Repr

/-- The agreed input vector of a tick (R29, R73, R188): samples, frame items and output views by node, qualified acknowledge channels,
boundary items with the tick's valid frames, PAIR and STATUS items, position reports and requests in read order. -/
structure TickIn where
  inputs : AMap (Vector Sample 48)
  items : List FrameItem
  views : AMap OutView
  acks : List (BitVec 12 × Chan)
  bnd : List (Nat × BndItem × BitVec 4)
  bndAreas : List (Fin 16)
  cmds : List CmdItem
  reports : List PosReport
  routeReqs : List (Byte × Request)
  elemReqs : List (Byte × Request)
deriving DecidableEq, Repr

def TickIn.empty : TickIn := ⟨[], [], [], [], [], [], [], [], [], []⟩

/-- The evaluation of one lane: what it reads of the node and the tick, its carried state, and what it produces. `gone` says that
frames sealed in the tick have left; `late` counts confirms outside their window (R55); `resets`, `lockSet` and `galReq` are accepted requests whose effect lies outside
the carried state (R272, R455, R352). -/
structure Ev where
  area : AreaCfg
  node : BitVec 12
  tick : Tick
  tUs : BitVec 17
  active : Bool
  gone : Bool
  counters : Vector Word 9
  modes : Vector ChMode 48
  ownerLock : Bool
  galValid : Vector Bool 8
  galActive : Nat
  galBusy : Bool
  seenSwitch : Bool
  inp : TickIn
  c : Carried
  recs : List RecItem
  posts : List Post
  counts : List (Fin 9)
  expElem : List Nat
  expRoute : List Nat
  moved : List Nat
  bndRefused : List Nat
  seenElem : List Nat
  seenRoute : List Nat
  seenVeh : List Nat
  seenSlot : List Nat
  removed : List Nat
  granted : Nat
  refusedN : Nat
  late : Nat
  resets : List (Option Chan × Tick × Byte × Request)
  lockSet : Option Bool
  galReq : Option (Nat × Request)
deriving DecidableEq, Repr

/-! ### Effects -/

def Ev.raise (v : Ev) (cls : RecClass) (code : Byte) (kind : ObjKind) (obj : Nat) (detail : List Byte) : Ev :=
  { v with recs := v.recs ++ [⟨cls, code, kind, obj, detail, 0⟩] }

/-- An ALARM record of an element (R106). -/
def Ev.fault (v : Ev) (id : Nat) (code : Byte) : Ev := v.raise .alarm code .element id []

/-! ### Elements -/

def Ev.cfg? (v : Ev) (id : Nat) : Option ClassCfg := v.area.elems.get? id

/-- An element's state; an identifier that the image does not use reads zero (R67). -/
def Ev.elem (v : Ev) (id : Nat) : Elem := v.c.elems.getD id .zero

def Ev.setElem (v : Ev) (id : Nat) (e : Elem) : Ev := { v with c := { v.c with elems := v.c.elems.set id e } }

def Ev.modElem (v : Ev) (id : Nat) (f : Elem → Elem) : Ev := v.setElem id (f (v.elem id))

def Ev.aux (v : Ev) (id : Nat) : ElemAux := v.c.k.aux.getD id .reset

def Ev.setAux (v : Ev) (id : Nat) (a : ElemAux) : Ev :=
  { v with c := { v.c with k := { v.c.k with aux := v.c.k.aux.set id a } } }

def Ev.modAux (v : Ev) (id : Nat) (f : ElemAux → ElemAux) : Ev := v.setAux id (f (v.aux id))

/-- A lasting condition of an element: its record is raised at the onset (R515). -/
def Ev.lasting (v : Ev) (id : Nat) (code : Byte) (now : Bool) : Ev :=
  let a := v.aux id
  let was := a.cond.contains code
  let v1 := if now && !was then v.fault id code else v
  if now == was then v1
  else v1.setAux id { a with cond := if now then a.cond ++ [code] else a.cond.filter (fun c => c != code) }

/-- `ms` in ticks (R79). -/
def Ev.ticks (v : Ev) (ms : Nat) : Nat := msTicks v.tUs ms

/-! ### Routes -/

def Ev.route (v : Ev) (r : Nat) : RouteRec := v.c.routes.getD r .idle

def Ev.setRoute (v : Ev) (r : Nat) (x : RouteRec) : Ev := { v with c := { v.c with routes := v.c.routes.set r x } }

def Ev.modRoute (v : Ev) (r : Nat) (f : RouteRec → RouteRec) : Ev := v.setRoute r (f (v.route r))

/-- `f` for each of a list. -/
def Ev.each {α : Type} (v : Ev) (l : List α) (f : Ev → α → Ev) : Ev := l.foldl f v

/-! ### Roles (R74, R75, R186) -/

/-- The agreed sample of a channel of a node; without an accepted frame it is missing. -/
def Ev.sample (v : Ev) (node : BitVec 12) (ch : Chan) : Sample :=
  match v.inp.inputs.get? node.toNat with
  | some s => s[ch]
  | none => .missing

/-- The value of a frame item's bit; an item too short for the bit brings none. -/
def FrameItem.sample (it : FrameItem) (b : Nat) : Sample :=
  match it.bytes[b / 8]? with
  | some x => if x.getLsbD (b % 8) then .active else .inactive
  | none => .missing

/-- The agreed value of a role (R74): its channel's sample, or the bit of the latest accepted item it is bound to. Without an
accepted frame it is missing. -/
def Ev.roleSample (v : Ev) (r : RoleIn) : Sample :=
  match r.src with
  | .channel ch => v.sample r.node ch
  | .frame f =>
    match v.inp.items.find? (fun i => i.area == f.area && i.node == r.node && i.cls == f.cls && i.item == f.item) with
    | some i => i.sample f.bit
    | none => .missing

/-- The role's permissive condition holds: clear, closed, lit, no stop demanded, no presence, pressed (R186). A channel
fault, a missing frame or a split is restrictive (R74, R75). -/
def Ev.perm (v : Ev) (r : RoleIn) : Bool :=
  match v.roleSample r with
  | .active => r.permActive
  | .inactive => !r.permActive
  | .fault => false
  | .missing => false

/-- The role's value is a restrictive substitution for a missing frame or a split (R74). -/
def Ev.subst (v : Ev) (r : RoleIn) : Bool := v.roleSample r == .missing

/-- A channel fault is reported for the role's input (R75). -/
def Ev.chFault (v : Ev) (r : RoleIn) : Bool := v.roleSample r == .fault

end Sys2Proof.Machine
end

