-- ==== Sys2Proof/Machine/Elements.lean ====
section
/-!
DEFINITION. Elements (03_elements.md): steps 1 to 4 and 7 of R76, and the commanded changes that requests and routes make.
-/

namespace Sys2Proof.Machine

/-! ### Queries -/

/-- An element holds no lock of a kind that a request may not touch (R113, R77). -/
def Elem.locked (e : Elem) : Bool := (e.lock != .none && e.lock != .maintenance) || e.flank

/-- A main lock, boundary and maintenance locks included (R111). -/
def Elem.mainLocked (e : Elem) : Bool := e.lock != .none

/-- A section that counts as clear for routes and requests: PROVED and detected clear. -/
def Ev.secClear (v : Ev) (id : Nat) : Bool :=
  let e := v.elem id
  e.status == .proved && e.det == 0

/-- A section that counts as occupied: detected occupied, or DISTURBED (R82). -/
def Ev.secOcc (v : Ev) (id : Nat) : Bool :=
  let e := v.elem id
  e.det != 0 || e.status == .disturbed

/-- DETECTED of a class that corresponds to a COMMANDED value (R89-R92, R109). -/
def detFor (cfg : ClassCfg) (cmd : BitVec 4) : BitVec 4 :=
  match cfg with
  | .gate _ _ _ _ _ _ => if cmd = 0 then 0 else 2
  | _ => cmd

/-- Proved in a required state (R109). -/
def Ev.provedIn (v : Ev) (id : Nat) (req : BitVec 4) : Bool :=
  match v.cfg? id with
  | none => false
  | some cfg =>
    let e := v.elem id
    e.status == .proved && e.det == detFor cfg req

/-! ### Step 1: detectors (R83-R86) -/

/-- The phases that show a combination of a head's sensors a and b: by the a-to-b and by the b-to-a sequence (R84). -/
def headPhases (a b : Bool) : BitVec 4 × BitVec 4 :=
  match a, b with
  | false, false => (0, 0)
  | true, false => (1, 6)
  | true, true => (2, 5)
  | false, true => (3, 4)

/-- One tick of a counting head (R85): the next phase with the axle counted (+1 from a to b, -1 from b to a), or a
sequence error. -/
def headStep (ph : BitVec 4) (a b : Bool) : Option (BitVec 4 × Int) :=
  let now := headPhases a b
  if ph = 0 then
    match a, b with
    | false, false => some (0, 0)
    | true, false => some (1, 0)
    | false, true => some (4, 0)
    | true, true => none
  else if ph = now.1 || ph = now.2 then some (ph, 0)
  else if ph = 1 then if now.1 = 2 then some (2, 0) else if now.1 = 0 then some (0, 0) else none
  else if ph = 2 then if now.1 = 3 then some (3, 0) else if now.1 = 1 then some (1, 0) else none
  else if ph = 3 then if now.1 = 0 then some (0, 1) else if now.1 = 2 then some (2, 0) else none
  else if ph = 4 then if now.2 = 5 then some (5, 0) else if now.2 = 0 then some (0, 0) else none
  else if ph = 5 then if now.2 = 6 then some (6, 0) else if now.2 = 4 then some (4, 0) else none
  else if ph = 6 then if now.2 = 0 then some (0, -1) else if now.2 = 5 then some (5, 0) else none
  else none

/-- A DETECTOR of kind LEVEL (R83). -/
def Ev.detLevel (v : Ev) (id : Nat) (ins : List RoleIn) : Ev :=
  let occ := ins.any (fun r => !v.perm r)
  let bad := ins.any (fun r => v.chFault r)
  v.modElem id (fun e => { e with det := if occ || bad then 1 else 0, status := if bad then .failed else .proved })

/-- One head of a COUNT detector: its new phase, the signed count, and whether its sequence was broken. The wiring sense of
a sensor's role is the channel value that shows an axle (R186). -/
def Ev.headEval (v : Ev) (id n : Nat) (h : HeadCfg) (ph : BitVec 4) : BitVec 4 × Int × Bool :=
  let a := v.perm h.a
  let b := v.perm h.b
  match headStep ph a b with
  | some (p, k) => (p, if h.abEnters then k else -k, false)
  | none =>
    let two := headPhases a b
    (if Config.errPhase id n v.tick then two.1 else two.2, 0, true)

/-- A DETECTOR of kind COUNT (R84-R86). DESIGN CHOICE (log 87): the counts of both heads are summed before the test of R86;
DESIGN CHOICE (log 88): while a sensor's data is missing or faulty, phases and count stay, and evaluation goes on from them. -/
def Ev.detCount (v : Ev) (id : Nat) (heads : List HeadCfg) : Ev :=
  let e := v.elem id
  let missing := heads.any (fun h => v.subst h.a || v.subst h.b || v.chFault h.a || v.chFault h.b)
  let v1 := v.lasting id 0x8F missing
  if missing then
    v1.modElem id (fun e => { e with status := .disturbed, det := if e.timer > 0 || e.cmd != 0 || e.phase2 != 0 then 1 else 0 })
  else
    let h1 := match heads[0]? with
      | some h => v.headEval id 0 h e.cmd
      | none => (0, 0, false)
    let h2 := match heads[1]? with
      | some h => v.headEval id 1 h e.phase2
      | none => (0, 0, false)
    let bad := h1.2.2 || h2.2.2
    let a := v1.aux id
    let sum : Int := (e.timer : Int) + h1.2.1 + h2.2.1
    let outr := decide (sum < 0) || decide (65535 < sum)
    let cnt := if a.countFault || outr then e.timer else sum.toNat
    let idle := h1.1 == 0 && h2.1 == 0
    let risen := a.risen || decide (0 < cnt)
    let st :=
      if bad || (outr && !a.countFault) then Status.disturbed
      else if e.status == .unproved && risen && cnt == 0 && idle then .proved
      else e.status
    let v2 := if bad then v1.fault id 0x8E else v1
    let v3 := if outr && !a.countFault then v2.fault id 0x8D else v2
    let v4 := v3.modAux id (fun a => { a with countFault := a.countFault || outr, risen := risen && e.status == .unproved })
    v4.setElem id { e with status := st, cmd := h1.1, phase2 := h2.1, timer := cnt,
                           det := if 0 < cnt || !idle then 1 else 0 }

/-! ### Step 2: DETECTED (R74, R75) -/

/-- Two contact groups (R75): 1 first, 2 second, 3 both, 0 otherwise. -/
def Ev.groups (v : Ev) (g h : List RoleIn) : BitVec 4 :=
  let anyG := g.any v.perm
  let anyH := h.any v.perm
  if anyG && anyH then 3
  else if anyG && g.all v.perm then 1
  else if anyH && h.all v.perm then 2
  else 0

/-- A lamp proves lit (R90): an OUTPUT channel applied without open load, an OUTPUT-FB channel by its feedback. -/
def Ev.lit (v : Ev) (l : LampRef) : Bool :=
  match l.fb with
  | some r => v.perm r
  | none =>
    match v.inp.views.get? l.out.node.toNat with
    | some w => w.applied.getLsbD l.out.ch && !w.openLoad.getLsbD l.out.ch
    | none => false

/-- Lamps of an aspect (R90). -/
def lampsOf (aspects : List (BitVec 4 × List LampRef)) (a : BitVec 4) : List LampRef :=
  match aspects.find? (fun p => p.1 == a) with
  | some p => p.2
  | none => []

/-- The value of a rule expression: inputs at their permissive value, and the element words as they stand (R98). -/
def Ev.rule (v : Ev) : RuleExpr → Bool
  | .const b => b
  | .input r => v.perm r
  | .statusIs id c => (v.elem id).status.code == c
  | .detectedIs id x => (v.elem id).det == x
  | .commandedIs id x => (v.elem id).cmd == x
  | .not e => !v.rule e
  | .and e f => v.rule e && v.rule f
  | .or e f => v.rule e || v.rule f

/-- A source of a section shows occupied (R75). -/
def Ev.srcOcc (v : Ev) : SecSrc → Bool
  | .input r => !v.perm r
  | .detector d => (v.elem d).det != 0

/-- A source of a section is missing or invalid (R106, 0x90): its own input substituted or with a channel fault (R75, R279), or
an input of a LEVEL detector substituted (R83). -/
def Ev.srcSubst (v : Ev) : SecSrc → Bool
  | .input r => v.subst r || v.chFault r
  | .detector d =>
    match v.cfg? d with
    | some (.detLevel ins) => ins.any v.subst
    | _ => false

/-- DETECTED of one element (R75, R81, R90, R98). A SECTION's timer counts here (R81). -/
def Ev.detect (v : Ev) (id : Nat) (cfg : ClassCfg) : Ev :=
  match cfg with
  | .trackSection srcs clearDelay _ =>
    let v1 := v.lasting id 0x90 (srcs.any v.srcSubst)
    if srcs.any v.srcOcc then v1.modElem id (fun e => { e with det := 1, timer := clearDelay })
    else v1.modElem id (fun e =>
      if e.timer > 1 then { e with det := 1, timer := e.timer - 1 } else { e with det := 0, timer := 0 })
  | .point normal reverse _ _ _ _ => v.modElem id (fun e => { e with det := v.groups normal reverse })
  | .signal aspects _ =>
    v.modElem id (fun e => { e with det := if (lampsOf aspects e.cmd).all v.lit then e.cmd else 0xF })
  | .stop active released _ _ _ _ =>
    let g := v.groups active released
    v.modElem id (fun e => { e with det := if g = 1 then 0 else if g = 2 then 1 else if g = 3 then 3 else 2 })
  | .gate closed opened lock _ _ _ =>
    let g := v.groups closed opened
    let locked := match lock with
      | some r => v.perm r
      | none => true
    v.modElem id (fun e => { e with det := if g = 3 then 3 else if g = 1 then (if locked then 0 else 1) else 2 })
  | .movable positions bolt _ _ _ _ =>
    let shown := (List.range positions.length).filter (fun i => (positions[i]?.map v.perm).getD false)
    let boltOk := match bolt with
      | some r => v.perm r
      | none => true
    let a := v.aux id
    let v1 := v.setAux id { a with shown := shown.length, bolt := boltOk, indicated := a.indicated || shown.length == 1 }
    match shown with
    | [p] => v1.modElem id (fun e =>
        { e with det := BitVec.ofNat 4 p, cmd := if a.indicated then e.cmd else BitVec.ofNat 4 p })
    | _ => v1
  | .zone estop access presence _ _ _ _ _ =>
    let f (l : List RoleIn) : Bool := l.any (fun r => !v.perm r)
    v.modElem id (fun e => { e with det := BitVec.ofNat 4 (bitsNat [f estop, f access, f presence]), status := .proved })
  | .boundary _ _ => v
  | .block _ _ rule =>
    match rule with
    | some x => v.modElem id (fun e => { e with det := BitVec.ofNat 4 (b2n (v.rule x)), cmd := BitVec.ofNat 4 (b2n (v.rule x)) })
    | none => v.modElem id (fun e => { e with det := e.cmd })
  | .detLevel _ => v
  | .detCount _ => v

/-! ### Step 3: timers and STATUS -/

/-- The class holds a timer that R80 decrements in step 3; a SECTION's counts with its sources (R78, R81). -/
def ClassCfg.timed : ClassCfg → Bool
  | .point _ _ _ _ _ _ => true
  | .signal _ _ => true
  | .stop _ _ _ _ _ _ => true
  | .gate _ _ _ _ _ _ => true
  | .movable _ _ _ _ _ _ => true
  | .zone _ _ _ _ _ _ _ _ => true
  | _ => false

/-- STATUS of a SECTION (R82). DESIGN CHOICE (log 89): a SWEEP section becomes PROVED only after a SECTION RESET of its own,
also where a detector that it shares was swept by another section's reset. -/
def Ev.statusSection (v : Ev) (id : Nat) (srcs : List SecSrc) (rec : Recovery) : Ev :=
  let e := v.elem id
  let a := v.aux id
  let detStat (d : SecSrc) : Status := match d with
    | .input _ => .proved
    | .detector i => (v.elem i).status
  let disturbed := srcs.any (fun d => detStat d == .disturbed)
  let allProved := srcs.all (fun d => detStat d == .proved)
  if e.status == .blocked then v
  else if disturbed then (v.setElem id { e with status := .disturbed }).setAux id { a with sweep := false }
  else if e.status == .disturbed then
    match rec with
    | .detect => if e.det == 0 then v.setElem id { e with status := .proved } else v
    | .direct => v
    | .sweep =>
      if a.sweep && allProved && e.det == 0 then
        (v.setElem id { e with status := .proved }).setAux id { a with sweep := false }
      else v
  else v

/-- STATUS of a POINT (R89, R103); `x`: its timer expires in this tick. While BLOCKED no row of R89 is evaluated, so the
condition of 0x83 begins anew after an UNBLOCK. DESIGN CHOICE (log 133): where the timer expires in a tick with DETECTED 0x3, 0x83
alone is raised. -/
def Ev.statusPoint (v : Ev) (id : Nat) (x : Bool) : Ev :=
  let e := v.elem id
  let v1 := v.lasting id 0x83 (e.status != .blocked && e.det == 3)
  if e.status == .blocked then
    if e.det == e.cmd then v1.setElem id { e with timer := 0 }
    else if x then v1.fault id 0x80 else v1
  else
    if e.det == 3 then v1.setElem id { e with status := .failed }
    else if e.status == .unproved then
      if e.cmd != 0 && e.det == e.cmd then v1.setElem id { e with status := .proved, timer := 0 }
      else if e.cmd == 0 && (e.det == 1 || e.det == 2) then v1.setElem id { e with status := .proved, cmd := e.det }
      else if x then (v1.setElem id { e with status := .failed }).fault id 0x80
      else v1
    else if e.status == .proved then
      if e.det == 0 then (v1.setElem id { e with status := .unproved }).fault id 0x81
      else if e.det != e.cmd then (v1.setElem id { e with status := .failed }).fault id 0x82
      else v1
    else v1

/-- STATUS of a SIGNAL (R91). DESIGN CHOICE (log 134): a signal that becomes PROVED stops its lamp timer. -/
def Ev.statusSignal (v : Ev) (id lampTicks : Nat) (x : Bool) : Ev :=
  let e := v.elem id
  if e.status == .blocked || e.status == .failed then v
  else if e.det == e.cmd then
    if e.status == .proved then v else v.setElem id { e with status := .proved, timer := 0 }
  else if e.status == .proved then v.setElem id { e with status := .unproved, timer := lampTicks }
  else if x then
    if e.cmd == 0 then (v.setElem id { e with status := .failed }).fault id 0x85
    else (v.setElem id { e with status := .failed, cmd := 0 }).fault id 0x84
  else v

/-- STATUS of a STOP or a GATE (R92). A PROVED element whose detection no longer corresponds is UNPROVED (R69). DESIGN CHOICE
(log 133): where the timer expires in a tick with DETECTED 0x3, 0x87 alone is raised. -/
def Ev.statusStopGate (v : Ev) (id : Nat) (cfg : ClassCfg) (gate x : Bool) : Ev :=
  let e := v.elem id
  let want := detFor cfg e.cmd
  let v1 := v.lasting id 0x87 (e.status != .blocked && e.det == 3)
  if e.status == .blocked then v1
  else
    if e.det == 3 then v1.setElem id { e with status := .failed }
    else if e.status == .unproved then
      if e.det == want then v1.setElem id { e with status := .proved, timer := 0 }
      else if x then
        if gate then v1.fault id 0x88 else (v1.setElem id { e with status := .failed }).fault id 0x86
      else v1
    else if e.status == .proved && e.det != want then
      let v2 := v1.setElem id { e with status := .unproved }
      if gate && e.cmd == 0 then v2.fault id 0x89 else v2
    else v1

/-- STATUS of a MOVABLE (R94). DESIGN CHOICE (log 90): one wrong position together with an open bolt is fault 0x93 with FAILED,
not 0x92. DESIGN CHOICE (log 133): where the timer expires in a tick with several positions shown, 0x8B alone is raised. -/
def Ev.statusMovable (v : Ev) (id : Nat) (x : Bool) : Ev :=
  let e := v.elem id
  let a := v.aux id
  let many := decide (1 < a.shown)
  let v1 := v.lasting id 0x8B (e.status != .blocked && many)
  if e.status == .blocked then v1
  else
    let ok := a.shown == 1 && e.det == e.cmd && a.bolt
    if many then v1.setElem id { e with status := .failed }
    else if e.status == .unproved then
      if ok then v1.setElem id { e with status := .proved, timer := 0 }
      else if x then (v1.setElem id { e with status := .failed }).fault id 0x8A
      else v1
    else if e.status == .proved && !ok then
      if a.shown == 1 && e.det != e.cmd then (v1.setElem id { e with status := .failed }).fault id 0x93
      else (v1.setElem id { e with status := .unproved }).fault id 0x92
    else v1

/-- A ZONE enters STOP: the tick is kept and the timer measures the settle time (R95, R96). -/
def Ev.zoneStop (v : Ev) (id settleMs : Nat) : Ev :=
  (v.modElem id (fun e => { e with cmd := 0, timer := v.ticks settleMs })).modAux id
    (fun a => { a with stopTick := some v.tick })

/-- The access condition flag of a ZONE is set (R96). -/
def Ev.condSet (v : Ev) (cond : Option Nat) : Bool :=
  match cond with
  | some b => (v.elem b).det.getLsbD 0
  | none => false

/-- COMMANDED of a ZONE under its flags (R95, R96). -/
def Ev.statusZone (v : Ev) (id settleMs : Nat) (cond : Option Nat) : Ev :=
  let e := v.elem id
  if (e.cmd == 1 && e.det != 0) || (e.cmd == 2 && e.det.getLsbD 0) then (v.zoneStop id settleMs).fault id 0x8C
  else if e.cmd == 2 && !v.condSet cond then v.zoneStop id settleMs
  else v

/-- STATUS of one element; `x`: its timer expires in this tick (step 3 of R76). -/
def Ev.status (v : Ev) (id : Nat) (cfg : ClassCfg) (x : Bool) : Ev :=
  match cfg with
  | .trackSection srcs _ rec => v.statusSection id srcs rec
  | .point _ _ _ _ _ _ => v.statusPoint id x
  | .signal _ lampTicks => v.statusSignal id lampTicks x
  | .stop _ _ _ _ _ _ => v.statusStopGate id cfg false x
  | .gate _ _ _ _ _ _ => v.statusStopGate id cfg true x
  | .movable _ _ _ _ _ _ => v.statusMovable id x
  | .zone _ _ _ _ _ settleMs cond _ => v.statusZone id settleMs cond
  | .boundary _ _ => v
  | .block _ _ _ => v
  | .detLevel _ => v
  | .detCount _ => v

/-- One timer's decrement (R80): an element whose timer reaches 0 is noted as expiring. -/
def Ev.tickTimer (v : Ev) (id : Nat) (cfg : ClassCfg) : Ev :=
  let e := v.elem id
  if cfg.timed && decide (0 < e.timer) then
    let v1 := v.setElem id { e with timer := e.timer - 1 }
    if e.timer = 1 then { v1 with expElem := v1.expElem ++ [id] } else v1
  else v

/-! ### Step 4: boundary proxies (R97) -/

/-- Restrictive DETECTED of a proxied class (R72). A MOVABLE keeps its position. -/
def restrictiveDet (cls : BitVec 4) (old : BitVec 4) : BitVec 4 :=
  if cls = 1 then 1 else if cls = 2 then 0 else if cls = 3 then 0xF else if cls = 4 then 2
  else if cls = 5 then 2 else if cls = 7 then 7 else old

/-- The boundary item of a slot in this tick, if there is one (R97). -/
def Ev.bndItem (v : Ev) (slot : Nat) : Option (BndItem × BitVec 4) :=
  (v.inp.bnd.find? (fun p => p.1 == slot)).map (fun p => p.2)

/-- A BOUNDARY element takes its owner's values, or the restrictive ones without a valid frame (R97). -/
def Ev.proxy (v : Ev) (id : Nat) (cls : BitVec 4) (slot : BitVec 11) : Ev :=
  match v.bndItem slot.toNat with
  | some (it, _) =>
    (v.lasting id 0x91 false).modElem id (fun e =>
      { e with status := .ofCode (it.word.extractLsb' 56 4), det := it.word.extractLsb' 52 4,
               cmd := it.word.extractLsb' 48 4 })
  | none =>
    (v.lasting id 0x91 true).modElem id (fun e => { e with status := .unproved, det := restrictiveDet cls e.det })

/-! ### The steps -/

/-- Steps 1 to 4 of R76. -/
def Ev.elements (v : Ev) : Ev :=
  let v1 := v.each v.area.elems (fun v p => match p.2 with
    | .detLevel ins => v.detLevel p.1 ins
    | .detCount heads => v.detCount p.1 heads
    | _ => v)
  let v2 := v1.each v.area.elems (fun v p => match p.2 with
    | .block _ _ _ => v
    | c => v.detect p.1 c)
  let v3 := v2.each v.area.elems (fun v p => match p.2 with
    | .block s h r => v.detect p.1 (.block s h r)
    | _ => v)
  let v4 := v3.each v.area.elems (fun v p => v.tickTimer p.1 p.2)
  let v5 := v4.each v.area.elems (fun v p => v.status p.1 p.2 (v4.expElem.contains p.1))
  v5.each v.area.elems (fun v p => match p.2 with
    | .boundary cls slot => v.proxy p.1 cls slot
    | _ => v)

/-! ### Commanded changes (R87, R92, R94, R123) -/

/-- COMMANDED, STATUS and timer of an element as an accepted THROW, SET STOP, SET GATE or MOVE sets them. A BLOCKED point
keeps its STATUS (R103). -/
def Ev.command (v : Ev) (id : Nat) (val : BitVec 4) : Ev :=
  let put (t : Nat) : Ev := v.modElem id (fun e =>
    { e with cmd := val, timer := t, status := if e.status == .blocked then .blocked else .unproved })
  match v.cfg? id with
  | some (.point _ _ _ _ throwMs _) => put (v.ticks throwMs + 2)
  | some (.stop _ _ _ _ operateMs _) => put (v.ticks operateMs)
  | some (.gate _ _ _ _ _ operateMs) => put (v.ticks operateMs)
  | some (.movable _ _ _ moveMs _ _) => (put (v.ticks moveMs + 2)).modAux id (fun a => { a with indicated := true })
  | _ => v

/-- Track sections of a point in the state a throw needs (R87): PROVED and clear, or for a SUPERVISED THROW also DISTURBED
but detected clear. -/
def Ev.sectionsClear (v : Ev) (secs : List Nat) (supervised : Bool) : Bool :=
  secs.all (fun s => v.secClear s || (supervised && (v.elem s).status == .disturbed && (v.elem s).det == 0))

/-- Deck sections clear and guarding stops active (R94). -/
def Ev.movableReady (v : Ev) (deck guards : List Nat) : Bool :=
  deck.all v.secClear && guards.all (fun g => (v.elem g).status == .proved && (v.elem g).det == 0)

/-- The code of a failing precondition of a change of COMMANDED to `req`, for a route or a boundary lock (R120 tests 7 and
8, R372 tests 6 and 7): 0x58 for a POINT, 0x59 for a MOVABLE; STOP and GATE have none (R92). -/
def Ev.precondition (v : Ev) (id : Nat) (req : BitVec 4) : Byte :=
  if (v.elem id).cmd == req then 0
  else match v.cfg? id with
    | some (.point _ _ _ _ _ secs) => if v.sectionsClear secs false then 0 else 0x58
    | some (.movable positions _ _ _ deck guards) =>
      if req.toNat < positions.length && v.movableReady deck guards then 0 else 0x59
    | _ => 0

/-! ### Step 7: COMMANDED of signals and the output commands -/

/-- The aspect that the routes give a signal (R126). -/
def Ev.routeAspect (v : Ev) (sig : Nat) : BitVec 4 :=
  (firstSome v.area.routes (fun p => match p.2.entry with
    | some (s, a) => if s = sig && (v.route p.1).state == .cleared then some a else none
    | none => none)).getD 0

/-- COMMANDED of a signal (R91, R103, R113, R126). -/
def Ev.signalCmd (v : Ev) (id lampTicks : Nat) : Ev :=
  let e := v.elem id
  let a := if e.flank || e.status == .failed || e.status == .blocked then 0 else v.routeAspect id
  if a = e.cmd then v
  else if e.status == .failed || e.status == .blocked then v.setElem id { e with cmd := a }
  else v.setElem id { e with cmd := a, status := .unproved, timer := lampTicks }

/-- Step 7 for every signal. -/
def Ev.signals (v : Ev) : Ev :=
  v.each v.area.elems (fun v p => match p.2 with
    | .signal _ lampTicks => v.signalCmd p.1 lampTicks
    | _ => v)

/-- Command channels of one element that are on (R87, R90, R92, R103). DESIGN CHOICE (log 91): BLOCK of a POINT during an
ordinary throw does not end the drive, which goes on until the timer ends or DETECTED equals COMMANDED. DESIGN CHOICE (log 92):
a ZONE's channels are commanded on in RUN only. DESIGN CHOICE (log 135): every drive channel of a MOVABLE is on for each target. -/
def Ev.outsOn (v : Ev) (id : Nat) (cfg : ClassCfg) : List OutRef :=
  let e := v.elem id
  let run := decide (0 < e.timer)
  let dh (l : List OutRef) (perm : Bool) (want : BitVec 4) : List OutRef :=
    l.filter (fun o => if o.drive then run && e.status == .unproved && e.det != want else perm)
  match cfg with
  | .point _ _ outN outR _ _ =>
    if run && (e.status == .unproved || (e.status == .blocked && e.det != e.cmd)) then
      if e.cmd = 1 then outN else if e.cmd = 2 then outR else []
    else []
  | .signal aspects _ => (lampsOf aspects e.cmd).map (fun l => l.out)
  | .stop _ _ outActive outReleased _ _ =>
    if e.cmd = 1 then dh outReleased true 1 else dh outActive false 0
  | .gate _ _ _ outSecure outOpen _ =>
    if e.cmd = 1 then dh outOpen true 2 else dh outSecure false 0
  | .movable _ _ out _ _ _ => if run && e.status == .unproved && e.det != e.cmd then out else []
  | .zone _ _ _ _ out _ _ _ => if e.cmd = 1 then out else []
  | _ => []

/-- Output commands of the tick for the channels of a node (step 7 of R76): bit k - 1 for CHk. -/
def Ev.commandsFor (v : Ev) (node : BitVec 12) : BitVec 48 :=
  v.area.elems.foldl (fun m p =>
    (v.outsOn p.1 p.2).foldl (fun m o => if o.node = node then m ||| (1#48 <<< o.ch.val) else m) m) 0

/-- A controlled element is in motion (R89, R94, R103, R455). -/
def Ev.moving (v : Ev) (id : Nat) (cfg : ClassCfg) : Bool :=
  let e := v.elem id
  decide (0 < e.timer) &&
  match cfg with
  | .point _ _ _ _ _ _ => e.status == .unproved || e.status == .blocked
  | .stop _ _ _ _ _ _ => e.status == .unproved
  | .gate _ _ _ _ _ _ => e.status == .unproved
  | .movable _ _ _ _ _ _ => true
  | _ => false

/-! ### Restart (R99) -/

/-- The restart value of an element (R99). -/
def restartElem (tUs : BitVec 17) (cfg : ClassCfg) : Elem :=
  let z := Elem.zero
  match cfg with
  | .trackSection _ clearDelay _ => { z with status := .disturbed, timer := clearDelay }
  | .point _ _ _ _ _ _ => { z with status := .unproved }
  | .signal _ lampTicks => { z with status := .unproved, timer := lampTicks }
  | .stop _ _ _ _ operateMs _ => { z with status := .unproved, timer := msTicks tUs operateMs }
  | .gate _ _ _ _ _ operateMs => { z with status := .unproved, timer := msTicks tUs operateMs }
  | .movable _ _ _ _ _ _ => { z with status := .unproved }
  | .zone _ _ _ _ _ _ _ _ => { z with status := .proved }
  | .boundary cls _ => { z with status := .unproved, det := restrictiveDet cls 0 }
  | .block restrictive _ _ =>
    { z with status := .proved, det := BitVec.ofNat 4 (b2n restrictive), cmd := BitVec.ofNat 4 (b2n restrictive) }
  | .detLevel _ => { z with status := .proved }
  | .detCount _ => { z with status := .disturbed }

/-- Committed state of a lane after a restart (R99, R147, R175): parts E and R of a manager, nothing of a worker. -/
def restartRegion (i : Image) (node : BitVec 12) : Carried :=
  let manager := match i.area.topo.get? node.toNat with
    | some e => e.role != NodeRole.worker
    | none => false
  if manager then
    { Carried.reset with
      elems := i.area.elems.mapV (fun _ c => restartElem (i.hdr.tUs.setWidth 17) c)
      routes := i.area.routes.mapV (fun _ _ => RouteRec.idle) }
  else Carried.reset

end Sys2Proof.Machine
end

