-- ==== Sys2Proof/Machine/Routes.lean ====
section
/-!
DEFINITION. Routes, locking and release (04_routes_and_locking.md) and boundary slots (12_areas_boundaries_and_pairs.md
R368-R377): step 5 of R76.
-/

namespace Sys2Proof.Machine

/-! ### What a route declares (R107-R109) -/

/-- Required state of an element in a route (R109); none for a section. -/
def RouteCfg.reqOf (rc : RouteCfg) (id : Nat) : Option (BitVec 4) :=
  match rc.pelems.find? (fun p => p.1 == id) with
  | some p => some p.2.1
  | none =>
    match rc.overlap.find? (fun p => p.1 == id) with
    | some p => some p.2
    | none => (rc.flank.find? (fun p => p.1 == id)).map (fun p => p.2.1)

/-- Path, overlap and flank elements, path sections first. -/
def RouteCfg.elems (rc : RouteCfg) : List Nat :=
  rc.path ++ rc.pelems.map (fun p => p.1) ++ rc.overlap.map (fun p => p.1) ++ rc.flank.map (fun p => p.1)

/-- A route time as loaded (R115). -/
def Ev.routeTicks (v : Ev) (ms : Nat) : Nat := max 1 (v.ticks ms)

def Ev.isSection (v : Ev) (id : Nat) : Bool :=
  match v.cfg? id with
  | some (.trackSection _ _ _) => true
  | _ => false

/-- Class and slot of a BOUNDARY element. -/
def Ev.proxyOf (v : Ev) (id : Nat) : Option (BitVec 4 × BitVec 11) :=
  match v.cfg? id with
  | some (.boundary c s) => some (c, s)
  | _ => none

/-- BOUNDARY proxies of a route in list order (R114, BND_GRANTED). -/
def Ev.proxies (v : Ev) (rc : RouteCfg) : List Nat :=
  (rc.pelems.map (fun p => p.1) ++ rc.overlap.map (fun p => p.1) ++ rc.flank.map (fun p => p.1)).filter
    (fun id => (v.proxyOf id).isSome)

/-- Path and overlap sections. -/
def Ev.routeSecs (v : Ev) (rc : RouteCfg) : List Nat :=
  rc.path ++ (rc.overlap.map (fun p => p.1)).filter v.isSection

/-- Every BND_GRANTED bit of the route is 1. -/
def Ev.allGranted (v : Ev) (rc : RouteCfg) (x : RouteRec) : Bool :=
  (List.range (v.proxies rc).length).all (fun i => x.bndGranted.getLsbD i)

/-- Position of a proxy in the route's list. -/
def Ev.proxyIdx (v : Ev) (rc : RouteCfg) (id : Nat) : Nat := (v.proxies rc).idxOf id

/-! ### Locks (R110-R113) -/

/-- States in which a route holds locks (R112). -/
def RState.holds : RState → Bool
  | .idle => false
  | .requested => false
  | .rejected => false
  | _ => true

/-- The route holds the flank lock of an entry of its flank list (R112). -/
def RouteRec.flankHeld (x : RouteRec) (assigned : Nat) : Bool :=
  x.state.holds && (if assigned = 0 then !x.ovlReleased else decide (x.released < assigned))

/-- Routes that hold a flank lock on an element, with the state they require, ascending. -/
def Ev.flankHolders (v : Ev) (id : Nat) : List (Nat × BitVec 4) :=
  v.area.routes.flatMap (fun p =>
    (p.2.flank.filter (fun f => f.1 == id && (v.route p.1).flankHeld f.2.2)).map (fun f => (p.1, f.2.1)))

/-- FLANK and FLANK_OWNER of every element (R112). -/
def Ev.syncFlank (v : Ev) : Ev :=
  v.each v.area.elems (fun v p =>
    match v.flankHolders p.1 with
    | [] => if (v.elem p.1).flank then v.modElem p.1 (fun e => { e with flank := false, flankOwner := 0 }) else v
    | (r, _) :: _ => v.modElem p.1 (fun e => { e with flank := true, flankOwner := BitVec.ofNat 14 r }))

/-- The state that the holder of an element's main lock requires, from the holder's route or the REQ_VAL of the granted slot
(R111, R372); none where the slot is GRANTED since a restart and no item has named a REQ_VAL yet (R376), or is a RELEASING proxy. -/
def Ev.mainReq (v : Ev) (id : Nat) : Option (BitVec 4) :=
  let e := v.elem id
  match e.lock with
  | .route => (v.area.routes.get? e.owner.toNat).bind (fun rc => rc.reqOf id)
  | .overlap => (v.area.routes.get? e.owner.toNat).bind (fun rc => rc.reqOf id)
  | .boundary => v.c.k.granted.get? e.owner.toNat
  | _ => none

/-- The REQ_VAL of a granted slot. -/
def Ev.setGranted (v : Ev) (slot : Nat) (q : Option (BitVec 4)) : Ev :=
  let g := v.c.k.granted
  { v with c := { v.c with k := { v.c.k with granted := match q with
    | some x => g.set slot x
    | none => g.del slot } } }

/-- Locks on entry to CHECKING (R121). -/
def Ev.lockRoute (v : Ev) (r : Nat) (rc : RouteCfg) : Ev :=
  let o := BitVec.ofNat 14 r
  let v1 := v.each (rc.path ++ rc.pelems.map (fun p => p.1)) (fun v id =>
    v.modElem id (fun e => { e with lock := .route, owner := o }))
  v1.each (rc.overlap.map (fun p => p.1)) (fun v id => v.modElem id (fun e => { e with lock := .overlap, owner := o }))

/-- The main lock that route `r` holds on an element ends; a proxy's becomes its boundary lock (R122, R131, R374). -/
def Ev.unlock (v : Ev) (r : Nat) (id : Nat) : Ev :=
  let e := v.elem id
  if (e.lock == .route || e.lock == .overlap) && e.owner == BitVec.ofNat 14 r then
    match v.proxyOf id with
    | some (_, s) => v.setElem id { e with lock := .boundary, owner := s.setWidth 14 }
    | none => v.setElem id { e with lock := .none, owner := 0 }
  else v

/-- Every lock of the route ends; its flank locks end with its state (R112). A proxy among the flank elements takes its
boundary lock too (R374). -/
def Ev.unlockAll (v : Ev) (r : Nat) (rc : RouteCfg) : Ev :=
  let v1 := v.each (rc.path ++ rc.pelems.map (fun p => p.1) ++ rc.overlap.map (fun p => p.1)) (fun v id => v.unlock r id)
  v1.each rc.flank (fun v f =>
    match v.proxyOf f.1 with
    | some (_, s) =>
      if (v.elem f.1).lock == .none && (v.route r).flankHeld f.2.2 then
        v.modElem f.1 (fun e => { e with lock := .boundary, owner := s.setWidth 14 })
      else v
    | none => v)

/-! ### Tests -/

/-- The availability check: the first failing code, or 0 (R120). DESIGN CHOICE (log 100): where the state that the holder of a main
lock requires is not known, test 4 counts it as a different one. -/
def Ev.available (v : Ev) (rc : RouteCfg) : Byte :=
  let ids := rc.elems
  let sig := match rc.entry with
    | some (s, _) => [s]
    | none => []
  let flankIds := rc.flank.map (fun p => p.1)
  let conflict (id : Nat) : Bool := (v.flankHolders id).any (fun h => some h.2 != rc.reqOf id)
  let isK (id : Nat) : Bool := match v.cfg? id with
    | some (.point _ _ _ _ _ _) => true
    | some (.stop _ _ _ _ _ _) => true
    | some (.movable _ _ _ _ _ _) => true
    | _ => false
  let isPoint (id : Nat) : Bool := match v.cfg? id with
    | some (.point _ _ _ _ _ _) => true
    | _ => false
  let pre (id : Nat) : Byte := match rc.reqOf id with
    | some q => v.precondition id q
    | none => 0
  if (ids ++ sig).any (fun id => (v.elem id).status == .blocked) then 0x55
  else if (rc.path ++ rc.pelems.map (fun p => p.1)).any (fun id => (v.elem id).mainLocked) then 0x52
  else if (rc.overlap.map (fun p => p.1)).any (fun id => (v.elem id).mainLocked) then 0x53
  else if ids.any conflict ||
      flankIds.any (fun id => (v.elem id).mainLocked && v.mainReq id != rc.reqOf id) ||
      sig.any (fun id => !(v.flankHolders id).isEmpty) then 0x54
  else if (v.routeSecs rc).any (fun id => (v.elem id).status == .disturbed || (v.elem id).status == .failed) then 0x56
  else if ids.any (fun id => isK id && (v.elem id).status == .failed) then 0x59
  else if ids.any (fun id => isPoint id && pre id != 0) then 0x58
  else if ids.any (fun id => !isPoint id && pre id != 0) then 0x59
  else 0

/-- DETECTED corresponds to the required value for a proxied class (R72, R109). -/
def proxyDet (cls : BitVec 4) (req : BitVec 4) : BitVec 4 := if cls = 5 then (if req = 0 then 0 else 2) else req

/-- Every element of the row LOCKED to PROVED of R119 is proved and holds this route's lock. DESIGN CHOICE (log 139): a proxied SECTION
counts as proved when it is PROVED and detected as REQ_VAL says, and the section tests of R124 leave it out. -/
def Ev.allProved (v : Ev) (r : Nat) (rc : RouteCfg) : Bool :=
  let o := BitVec.ofNat 14 r
  let x := v.route r
  let holds (k : LockKind) (id : Nat) : Bool := (v.elem id).lock == k && (v.elem id).owner == o
  let ok (id : Nat) (q : BitVec 4) : Bool := match v.proxyOf id with
    | some (c, _) => (v.elem id).status == .proved && (v.elem id).det == proxyDet c q &&
        x.bndGranted.getLsbD (v.proxyIdx rc id)
    | none => v.provedIn id q
  rc.path.all (holds .route) &&
  rc.pelems.all (fun p => holds .route p.1 && ok p.1 p.2.1) &&
  rc.overlap.all (fun p => holds .overlap p.1 && (v.isSection p.1 || ok p.1 p.2)) &&
  rc.flank.all (fun p => x.flankHeld p.2.2 && ok p.1 p.2.1)

/-- The clearing conditions: the first failing code, or 0 (R124). -/
def Ev.clearing (v : Ev) (rc : RouteCfg) (x : RouteRec) : Byte :=
  let secs := v.routeSecs rc
  let sigIs (f : Nat → Bool) : Bool := match rc.entry with
    | some (s, _) => f s
    | none => false
  if !x.clearPending then 0x63
  else if secs.any (fun s => (v.elem s).status == .disturbed || (v.elem s).status == .failed) then 0x56
  else if secs.any (fun s => !v.secClear s) then 0x57
  else if rc.flags.any (fun f => (v.elem f.1).det.getLsbD 0 != f.2) then 0x5A
  else if rc.zones.any (fun z => (v.elem z).cmd != 1) then 0x5B
  else if sigIs (fun s => (v.elem s).status == .blocked) then 0x55
  else if sigIs (fun s => !(v.flankHolders s).isEmpty) then 0x54
  else if sigIs (fun s => (v.elem s).status == .failed) then 0x5F
  else 0

/-! ### Transitions -/

/-- A transition: state, STATE_TICK, and the mark that the route moved in this tick (R117, R118). -/
def Ev.go (v : Ev) (r : Nat) (st : RState) (f : RouteRec → RouteRec) : Ev :=
  let v1 := v.modRoute r (fun x => { f x with state := st, stateTick := v.tick })
  { v1 with moved := v1.moved ++ [r] }

/-- To IDLE: nothing of the request is left (R114, R119). DESIGN CHOICE (log 42): CLEAR_PENDING, EMERG and BND_GRANTED become 0. -/
def Ev.goIdle (v : Ev) (r : Nat) : Ev :=
  v.go r .idle (fun x => { x with reason := 0, source := 3, timer := 0, clearPending := false, emerg := false,
                                  bndGranted := 0, setBy := none })

/-- To REJECTED with the route notice of R143. Locks end where the route held any (R122). -/
def Ev.goRejected (v : Ev) (r : Nat) (rc : RouteCfg) (code : Byte) : Ev :=
  let x := v.route r
  let v1 := if x.state.holds then v.unlockAll r rc else v
  let v2 := v1.go r .rejected (fun x => { x with reason := code, timer := 0 })
  match x.setBy with
  | some b =>
    { v2 with posts := v2.posts ++
        [⟨b.src, resultBytes 0x82 0x20 b.tag (BitVec.ofNat 16 r) code 9 v.tick b.seq, b.seq⟩] }
  | none => v2

/-- EVENT 0x03 of a replacement (R125). -/
def Ev.replaced (v : Ev) (r : Nat) (code : Byte) : Ev := v.raise .event 0x03 .route r [code]

/-- OCC_SEEN bits of the tick (R129). -/
def Ev.occNow (v : Ev) (rc : RouteCfg) : BitVec 32 :=
  BitVec.ofNat 32 (bitsNat (rc.path.map v.secOcc))

/-- Release of path section `k` (1 to m): its lock, its path elements' and its flank locks end; a STOP required released is
commanded active (R131). -/
def Ev.releaseSec (v : Ev) (r : Nat) (rc : RouteCfg) (k : Nat) : Ev :=
  let v1 := v.each (rc.flank.filter (fun f => f.2.2 == k)) (fun v f =>
    match v.proxyOf f.1 with
    | some (_, s) => if (v.elem f.1).lock == .none then
        v.modElem f.1 (fun e => { e with lock := .boundary, owner := s.setWidth 14 }) else v
    | none => v)
  let v2 := match rc.path[k - 1]? with
    | some s => v1.unlock r s
    | none => v1
  let v3 := v2.each (rc.pelems.filter (fun p => p.2.2 == k)) (fun v p =>
    let u := v.unlock r p.1
    match v.cfg? p.1 with
    | some (.stop _ _ _ _ _ _) => if p.2.1 = 1 then u.command p.1 0 else u
    | _ => u)
  v3.modRoute r (fun x => { x with released := k })

/-- Release of the overlap (R132). -/
def Ev.releaseOvl (v : Ev) (r : Nat) (rc : RouteCfg) : Ev :=
  let v0 := v.each (rc.flank.filter (fun f => f.2.2 == 0)) (fun v f =>
    match v.proxyOf f.1 with
    | some (_, s) => if (v.elem f.1).lock == .none then
        v.modElem f.1 (fun e => { e with lock := .boundary, owner := s.setWidth 14 }) else v
    | none => v)
  let v1 := v0.each rc.overlap (fun v p => v.unlock r p.1)
  v1.modRoute r (fun x => { x with ovlReleased := true, timer := 0 })

/-- Section releases of one tick, in path order (R130). -/
def Ev.releases (v : Ev) (r : Nat) (rc : RouteCfg) (fuel : Nat) : Ev :=
  match fuel with
  | 0 => v
  | n + 1 =>
    let x := v.route r
    let k := x.released + 1
    match rc.path[x.released]? with
    | none => v
    | some s =>
      if x.occSeen.getLsbD (k - 1) && v.secClear s && (k == rc.path.length || x.occSeen.getLsbD k) then
        (v.releaseSec r rc k).releases r rc n
      else v

/-- One tick of a route in ENTERED or RELEASING: OCC_SEEN, overlap timer, releases (R129-R132). `x`: its timer expires. -/
def Ev.runEntered (v : Ev) (r : Nat) (rc : RouteCfg) (expired : Bool) : Ev :=
  let m := rc.path.length
  let before := (v.route r).occSeen
  let v1 := v.modRoute r (fun x => { x with occSeen := x.occSeen ||| v.occNow rc })
  let x1 := v1.route r
  let first := decide (0 < m) && x1.occSeen.getLsbD (m - 1) && !before.getLsbD (m - 1)
  let v2 := if first && !x1.ovlReleased && decide (0 < rc.ovlMs) then
      v1.modRoute r (fun x => { x with timer := v.routeTicks rc.ovlMs })
    else v1
  let v3 := v2.releases r rc m
  let x3 := v3.route r
  if !x3.ovlReleased && (expired || x3.released == m) then v3.releaseOvl r rc else v3

/-- A route enters (R119): from CLEARED, a replaced LOCKED or PROVED, or CANCELLING. -/
def Ev.enter (v : Ev) (r : Nat) (rc : RouteCfg) : Ev :=
  let v1 := v.go r .entered (fun x => { x with timer := 0, occSeen := x.occSeen ||| 1,
                                               ovlReleased := x.ovlReleased || rc.overlap.isEmpty })
  -- the tick of entry is a tick in ENTERED: its OCC_SEEN bits and the overlap timer of a one-section route (R129, R132)
  let v2 := v1.modRoute r (fun x => { x with occSeen := x.occSeen ||| v.occNow rc })
  let x2 := v2.route r
  if decide (0 < rc.path.length) && x2.occSeen.getLsbD (rc.path.length - 1) && !x2.ovlReleased && decide (0 < rc.ovlMs) then
    v2.modRoute r (fun x => { x with timer := v.routeTicks rc.ovlMs })
  else v2

/-- Required states commanded on entry to LOCKED (R123). -/
def Ev.commandRoute (v : Ev) (rc : RouteCfg) : Ev :=
  v.each (rc.pelems.map (fun p => (p.1, p.2.1)) ++ rc.overlap ++ rc.flank.map (fun p => (p.1, p.2.1))) (fun v p =>
    if (v.elem p.1).cmd == p.2 then v else v.command p.1 p.2)

/-- First path section detected occupied or DISTURBED. -/
def Ev.s1Occ (v : Ev) (rc : RouteCfg) : Bool :=
  match rc.path[0]? with
  | some s => v.secOcc s
  | none => false

/-- Automatic transitions and releases of one route (part 2 of R118, R119). `x`: its timer expires in this tick. -/
def Ev.autoRoute (v : Ev) (r : Nat) (rc : RouteCfg) (x : Bool) : Ev :=
  let q := v.route r
  match q.state with
  | .idle => v
  | .requested => v
  | .checking =>
    if v.bndRefused.contains r then v.goRejected r rc 0x5D
    else if v.allGranted rc q then (v.go r .locked (fun x => x)).commandRoute rc
    else if decide ((v.area.params.grantWait : Int) ≤ tickDiff v.tick q.stateTick) then v.goRejected r rc 0x5D
    else if x then v.goRejected r rc 0x5C
    else v
  | .locked =>
    if q.wasCleared && v.s1Occ rc then v.enter r rc
    else if v.allProved r rc then
      let v1 := v.go r .proved (fun x => { x with timer := 0 })
      v1.modRoute r (fun x => { x with reason := v1.clearing rc x })
    else if x && !q.wasCleared then v.goRejected r rc 0x5C
    else v
  | .proved =>
    if q.wasCleared && v.s1Occ rc then v.enter r rc
    else if !v.allProved r rc then v.go r .locked (fun x => { x with reason := 0x61 })
    else
      let code := v.clearing rc q
      if code = 0 then v.go r .cleared (fun x => { x with wasCleared := true, reason := 0 })
      else v.modRoute r (fun x => { x with reason := code })
  | .cleared =>
    if v.s1Occ rc then v.enter r rc
    else if !v.allProved r rc then
      (v.go r .locked (fun x => { x with reason := 0x61, clearPending := false })).replaced r 0x61
    else
      let code := v.clearing rc q
      if code = 0 then v
      else (v.go r .proved (fun x => { x with reason := code, clearPending := false })).replaced r code
  | .entered =>
    let v1 := v.runEntered r rc x
    if 0 < (v1.route r).released then v1.go r .releasing (fun x => x) else v1
  | .releasing =>
    if q.released == rc.path.length && q.ovlReleased then (v.unlockAll r rc).goIdle r
    else v.runEntered r rc x
  | .cancelling =>
    if !q.emerg && v.s1Occ rc then v.enter r rc
    else if x then (v.unlockAll r rc).goIdle r
    else v
  | .rejected => v.goIdle r

/-- A route in REQUESTED (part 3 of R118): the availability check, and REJECTED where the wait ends (R119). -/
def Ev.checkRoute (v : Ev) (r : Nat) (rc : RouteCfg) (x : Bool) : Ev :=
  let code := v.available rc
  if code = 0 then
    let v1 := v.go r .checking (fun y => { y with
      reason := 0, occSeen := 0, released := 0, ovlReleased := false, bndGranted := 0, timer := v.routeTicks rc.setMs })
    v1.lockRoute r rc
  else if x then v.goRejected r rc code
  else v.modRoute r (fun y => { y with reason := code })

/-! ### Boundary slots (R368-R376) -/

/-- OPs that the sender of an item may carry to a slot (R369). -/
def SlotKind.takes (k : SlotKind) (op : BitVec 4) : Bool :=
  match k with
  | .lent _ => decide (op.toNat ≤ 3)
  | .proxy _ => decide (8 ≤ op.toNat) && decide (op.toNat ≤ 10)

/-- Items of the tick at the PROXY slots, at the start of step 5 (R371, R374): OP is the item's. -/
def Ev.proxyItem (v : Ev) (slot : Nat) (elem : Nat) (it : BndItem) (op : BitVec 4) : Ev :=
  let e := v.elem elem
  let own := e.lock == .route || e.lock == .overlap
  let r := if own then e.owner.toNat else e.flankOwner.toNat
  let held := own || e.flank
  if e.lock == .boundary then
    if op = 0x8 then v.setElem elem { e with lock := .none, owner := 0 } else v
  else if !held then
    if op = 0x9 then v.setElem elem { e with lock := .boundary, owner := BitVec.ofNat 14 slot } else v
  else
    match v.area.routes.get? r with
    | none => v
    | some rc =>
      let i := v.proxyIdx rc elem
      let x := v.route r
      if op = 0x9 && it.route.toNat == r && some it.reqVal == rc.reqOf elem && i < 8 then
        v.setRoute r { x with bndGranted := x.bndGranted ||| (1#8 <<< i) }
      else if op = 0xA && it.route.toNat == r && x.state == .checking then { v with bndRefused := v.bndRefused ++ [r] }
      else if op = 0x8 && x.bndGranted.getLsbD i then
        v.setRoute r { x with bndGranted := x.bndGranted &&& ~~~(1#8 <<< i) }
      else v

/-- The element of a GRANTED slot is freed, with EVENT 0x08 (R374, R377, R514). -/
def Ev.freeSlot (v : Ev) (slot elem : Nat) : Ev :=
  (((v.modElem elem (fun e => { e with lock := .none, owner := 0 })).setGranted slot none).raise .event 0x08 .slot slot [0])

/-- An item at a LENT slot (R374): RELEASE and IDLE free a GRANTED slot (part 2 of R118). A HOLD item names the REQ_VAL of a
slot that is GRANTED since a restart (R376); DESIGN CHOICE (log 100). -/
def Ev.lentFree (v : Ev) (slot : Nat) (elem : Nat) (op : BitVec 4) (q : BitVec 4) : Ev :=
  let e := v.elem elem
  if e.lock == .boundary && e.owner.toNat == slot then
    if op = 0x3 || op = 0x0 then v.freeSlot slot elem
    else if op = 0x2 && !v.c.k.granted.has slot then v.setGranted slot (some q)
    else v
  else v

/-- The highest value of COMMANDED that R72 defines for a class of LENT slots (R368); a LOCK item may name no other (R372 test 1). -/
def topCommand : ClassCfg → Option Nat
  | .trackSection _ _ _ => some 0
  | .stop _ _ _ _ _ _ | .gate _ _ _ _ _ _ => some 1
  | .point _ _ _ _ _ _ => some 2
  | .signal _ _ => some 7
  | .movable _ _ _ _ _ _ => some 15
  | _ => none

/-- The owner's decision on a LOCK item (R372, R373): the code that refuses it, or none. -/
def Ev.lockCode (v : Ev) (slot : Nat) (elem : Nat) (q : BitVec 4) : Byte :=
  let e := v.elem elem
  let mine := e.lock == .boundary && e.owner.toNat == slot
  let okVal := ((v.cfg? elem).bind topCommand).any (fun m => decide (q.toNat ≤ m))
  let differs := match v.mainReq elem with
    | some x => x != q
    | none => false
  if !okVal || (mine && differs) then 0x48
  else if mine then 0
  else if e.status == .blocked then 0x55
  else if e.mainLocked then 0x52
  else if (v.flankHolders elem).any (fun h => h.2 != q) then 0x54
  else if e.status == .failed then 0x59
  else v.precondition elem q

/-- A LOCK item at a LENT slot (R371-R373). One that confirms a grant changes nothing but a REQ_VAL that no item had named
(R376). -/
def Ev.lentLock (v : Ev) (slot : Nat) (elem : Nat) (q : BitVec 4) : Ev :=
  let e := v.elem elem
  let code := v.lockCode slot elem q
  if code != 0 then
    { v with c := { v.c with k := { v.c.k with refused := v.c.k.refused.set slot (code, if v.gone then v.tick + 1 else v.tick) } }, refusedN := v.refusedN + 1 }
  else if e.lock == .boundary then v.setGranted slot (some q)
  else
    let v1 := (if e.cmd == q then v else v.command elem q).setGranted slot (some q)
    let v2 := v1.modElem elem (fun e => { e with lock := .boundary, owner := BitVec.ofNat 14 slot })
    { v2 with granted := v2.granted + 1 }

/-- Slots with their items of the tick. -/
def Ev.slotItems (v : Ev) : List (Nat × SlotCfg × BndItem × BitVec 4) :=
  v.area.slots.filterMap (fun p => (v.bndItem p.1).map (fun i => (p.1, p.2, i.1, i.2)))

/-- Part 2 and the start of step 5 for boundary items: proxies first, then freed LENT slots. A refusal is sealed in one tick (R370). -/
def Ev.bndStart (v : Ev) : Ev :=
  let v0 : Ev := { v with c := { v.c with k := { v.c.k with
    refused := v.c.k.refused.filter (fun p => tickGe p.2.2 v.tick)
    slotIn := v.inp.bnd.foldl (fun m p => m.set p.1 ⟨p.2.2, p.2.1.word, p.2.1.reqVal, p.2.1.route, v.tick⟩) v.c.k.slotIn } } }
  v0.each v0.slotItems (fun v s => match s.2.1.kind with
    | .proxy e => v.proxyItem s.1 e s.2.2.1 s.2.2.2
    | .lent _ => v)

/-- LOCK items after part 3, by area identifier and slot (R373). -/
def Ev.bndLocks (v : Ev) : Ev :=
  let key (s : Nat × SlotCfg × BndItem × BitVec 4) : Nat := ((v.area.areas[s.2.1.area.val]?).getD 0).toNat
  let items := sortBy (fun a b => decide (key a < key b) || (key a == key b && decide (a.1 < b.1))) v.slotItems
  v.each items (fun v s => match s.2.1.kind with
    | .lent e => if s.2.2.2 = 0x1 then v.lentLock s.1 e s.2.2.1.reqVal else v
    | .proxy _ => v)

/-- Neighbours heard in the tick, PEER_LOST and ALARM 0xE7 (R375). -/
def Ev.peers (v : Ev) : Ev :=
  v.each (allFin 16) (fun v i =>
    if i.val < v.area.areas.length then
      let p := v.c.k.peers[i]
      let put (q : PeerK) : Ev := { v with c := { v.c with k := { v.c.k with peers := v.c.k.peers.set i q } } }
      if v.inp.bndAreas.contains i then put ⟨some v.tick, 0, false⟩
      else
        let n := satInc 16 p.missing
        let v1 := put { p with missing := n, lost := p.lost || n == 16 }
        if n == 16 && !p.lost then v1.raise .alarm 0xE7 .area i.val [BitVec.ofNat 8 i.val] else v1
    else v)

/-- Slots in the first tick that a manager evaluates after a restart (R376): every PROXY slot RELEASING, every LENT slot
GRANTED, the lowest slot of an element that several slots lend. -/
def Ev.bndRestart (v : Ev) : Ev :=
  let v0 : Ev := { v with c := { v.c with k := { v.c.k with granted := [] } } }
  v0.each v.area.slots (fun v p => match p.2.kind with
    | .proxy e => v.modElem e (fun x => { x with lock := .boundary, owner := BitVec.ofNat 14 p.1 })
    | .lent e =>
      if (v.elem e).lock == .boundary then v
      else v.modElem e (fun x => { x with lock := .boundary, owner := BitVec.ofNat 14 p.1 }))

/-- OP, REQ_VAL, REASON and ROUTE that a slot seals (R369, R370), and its WORD. DESIGN CHOICE (log 138): a proxy that is flank-locked
alone serves the route of FLANK_OWNER, the lowest of those that share it. -/
def Ev.slotSeal (v : Ev) (slot : Nat) (s : SlotCfg) : BitVec 4 × BitVec 4 × Byte × BitVec 16 × DWord :=
  match s.kind with
  | .proxy id =>
    let e := v.elem id
    if e.lock == .boundary then (0x3, 0, 0, 0xFFFF, 0)
    else if e.lock == .route || e.lock == .overlap || e.flank then
      let r := if e.lock == .none then e.flankOwner.toNat else e.owner.toNat
      match v.area.routes.get? r with
      | some rc =>
        (if (v.route r).bndGranted.getLsbD (v.proxyIdx rc id) then 0x2 else 0x1,
         (rc.reqOf id).getD 0, 0, BitVec.ofNat 16 r, 0)
      | none => (0x0, 0, 0, 0xFFFF, 0)
    else (0x0, 0, 0, 0xFFFF, 0)
  | .lent id =>
    let e := v.elem id
    let w := match v.cfg? id with
      | some c => e.word c
      | none => 0
    let last := v.c.k.slotIn.get? slot
    let rt : BitVec 16 := (last.map (fun i => i.route)).getD 0xFFFF
    let q : BitVec 4 := (last.map (fun i => i.reqVal)).getD 0
    if e.lock == .boundary && e.owner.toNat == slot then (0x9, (v.mainReq id).getD q, 0, rt, w)
    else match v.c.k.refused.get? slot with
      | some x => (0xA, q, x.1, rt, w)
      | none => (0x8, 0, 0, 0xFFFF, w)

/-! ### Step 5 -/

/-- Route timers' decrement (R115). -/
def Ev.tickRoutes (v : Ev) : Ev :=
  v.each v.area.routes (fun v p =>
    let x := v.route p.1
    if 0 < x.timer then
      let v1 := v.setRoute p.1 { x with timer := x.timer - 1 }
      if x.timer = 1 then { v1 with expRoute := v1.expRoute ++ [p.1] } else v1
    else v)

/-- Part 2 of R118. -/
def Ev.autoRoutes (v : Ev) : Ev :=
  v.each v.area.routes (fun v p =>
    if v.moved.contains p.1 then v else v.autoRoute p.1 p.2 (v.expRoute.contains p.1))

/-- Part 3 of R118: oldest STATE_TICK first, then ascending identifier. -/
def Ev.checkRoutes (v : Ev) : Ev :=
  let wait := v.area.routes.filter (fun p => (v.route p.1).state == .requested && !v.moved.contains p.1)
  let older (a b : Nat × RouteCfg) : Bool :=
    tickGt (v.route b.1).stateTick (v.route a.1).stateTick ||
    ((v.route b.1).stateTick == (v.route a.1).stateTick && decide (a.1 < b.1))
  v.each (sortBy older wait) (fun v p => v.checkRoute p.1 p.2 (v.expRoute.contains p.1))

end Sys2Proof.Machine
end

