-- ==== Sys2Proof/Machine/Authority.lean ====
section
/-!
DEFINITION. Movement authority (05_movement_authority.md): position reports, claims, the walk and the limit; step 8 of R76.
-/

namespace Sys2Proof.Machine

/-- A stretch of a section: offsets from end A, lower first. -/
abbrev Stretch := Nat × Nat × Nat

def absDiff (a b : Nat) : Nat := (a - b) + (b - a)

/-- Offset `o` lies ahead of `ofs` (or at it) in direction `dir`, 1 being toward end A (R148). -/
def ahead (dir : Bool) (ofs o : Nat) : Bool := if dir then decide (o ≤ ofs) else decide (ofs ≤ o)

/-- Distance from `ofs` to the far end of a section in direction `dir`. -/
def toEnd (len : Nat) (dir : Bool) (ofs : Nat) : Nat := if dir then ofs else len - ofs

/-- The sections that an end leads to, each with whether its end A is the one met. Over a POINT or MOVABLE: every branch, or
only the detected one (R148, R160). -/
def Ev.leads (v : Ev) (e : TrackEnd) (detected : Bool) : List (Nat × Bool) :=
  match e with
  | .dead => []
  | .plain s a => [(s, a)]
  | .via id br =>
    (br.filter (fun b => !detected || (v.elem id).det == b.1)).map (fun b => (b.2.1, b.2.2))

def TrackSec.far (t : TrackSec) (dir : Bool) : TrackEnd := if dir then t.endA else t.endB

/-- Length of a section; 0 for none. -/
def Ev.secLen (v : Ev) (sec : Nat) : Nat := (v.area.track.get? sec).elim 0 (fun t => t.len)

/-- Every way from a place in a direction to a target within a distance, over any branch or over the detected ones alone: the
stretches, and the direction of travel at the target. -/
def Ev.pathsTo (v : Ev) (detected : Bool) (fuel sec ofs : Nat) (dir : Bool) (tsec tofs maxD : Nat) : List (List Stretch × Bool) :=
  match v.area.track.get? sec with
  | none => []
  | some t =>
    if tsec = sec && ahead dir ofs tofs then
      if absDiff ofs tofs ≤ maxD then [([(sec, min ofs tofs, max ofs tofs)], dir)] else []
    else
      let rem := toEnd t.len dir ofs
      match fuel with
      | 0 => []
      | n + 1 =>
        if maxD < rem then []
        else
          let here : Stretch := if dir then (sec, 0, ofs) else (sec, ofs, t.len)
          (v.leads (t.far dir) detected).flatMap (fun b =>
            let start := if b.2 then 0 else v.secLen b.1
            (v.pathsTo detected n b.1 start (!b.2) tsec tofs (maxD - rem)).map (fun r => (here :: r.1, r.2)))

/-- Section ends that a shortest path can pass: each section once in each direction. -/
def Ev.ends (v : Ev) : Nat := 2 * v.area.track.length + 2

/-- Length of all the track. -/
def Ev.trackLen (v : Ev) : Nat := v.area.track.foldl (fun n t => n + t.2.len) 0

/-- A way joins the two places within a distance. -/
def Ev.reaches (v : Ev) (sec ofs : Nat) (dir : Bool) (tsec tofs maxD : Nat) : Bool :=
  !(v.pathsTo false v.ends sec ofs dir tsec tofs maxD).isEmpty

/-- The walks of a length ahead of a place, over every branch, each section of them once. -/
def Ev.segsFrom (v : Ev) (fuel sec ofs : Nat) (dir : Bool) (d base : Nat) : List Seg :=
  match v.area.track.get? sec with
  | none => []
  | some t =>
    let far := base + toEnd t.len dir ofs
    let rest := match fuel with
      | 0 => []
      | n + 1 =>
        if d ≤ far then []
        else (v.leads (t.far dir) false).flatMap (fun b =>
          v.segsFrom n b.1 (if b.2 then 0 else v.secLen b.1) (!b.2) d far)
    (sec, ofs, dir, base) :: rest

/-- The part of a walk between two distances. -/
def Ev.along (v : Ev) (segs : List Seg) (lo hi : Nat) : List Stretch :=
  segs.filterMap (fun s =>
    let near := max lo s.2.2.2
    let far := min hi (s.2.2.2 + toEnd (v.secLen s.1) s.2.2.1 s.2.1)
    let a := near - s.2.2.2
    let b := far - s.2.2.2
    if far < near then none
    else some (if s.2.2.1 then (s.1, s.2.1 - b, s.2.1 - a) else (s.1, s.2.1 + a, s.2.1 + b)))

/-- The track within a distance ahead of a place, over every branch. -/
def Ev.reach (v : Ev) (sec ofs : Nat) (dir : Bool) (d : Nat) : List Stretch :=
  v.along (v.segsFrom v.ends sec ofs dir d 0) 0 d

/-- Length of a way. -/
def wayLen (l : List Stretch) : Nat := l.foldl (fun n s => n + (s.2.2 - s.2.1)) 0

/-- The shortest of several ways. -/
def shortest (l : List (List Stretch)) : Option (List Stretch) :=
  l.foldl (fun acc w => match acc with
    | none => some w
    | some b => if wayLen w < wayLen b then some w else some b) none

/-- The track that joins two places: the shortest way, over detected branches where they join them, otherwise over any. -/
def Ev.between (v : Ev) (sec ofs tsec tofs : Nat) : Option (List Stretch) :=
  let ways (detected : Bool) : List (List Stretch) :=
    [false, true].flatMap (fun d => (v.pathsTo detected v.ends sec ofs d tsec tofs v.trackLen).map (fun r => r.1))
  (shortest (ways true)).or (shortest (ways false))

/-- Distance of a place along a walk, if the walk meets it. -/
def distOf (segs : List Seg) (sec ofs : Nat) : Option Nat :=
  firstSome segs (fun s => if s.1 = sec && ahead s.2.2.1 s.2.1 ofs then some (s.2.2.2 + absDiff s.2.1 ofs) else none)

/-! ### Claims (R157) -/

/-- The track under a vehicle, from its front back to its rear, with the direction of going at the rear. DESIGN CHOICE (log 144): where
several ways join them, the detected one, and all of them where none is detected. -/
def Ev.body (v : Ev) (a : AuthRec) : List (List Stretch × Bool) :=
  let ways (detected : Bool) : List (List Stretch × Bool) :=
    v.pathsTo detected v.ends a.frontElem.toNat a.frontOfs (!a.dir) a.rearElem.toNat a.rearOfs (v.area.auth.lmax + 2 * a.conf)
  if (ways true).isEmpty then ways false else ways true

/-- Extent of a vehicle: from the rear minus c and B to the front plus c (R157). -/
def Ev.extent (v : Ev) (a : AuthRec) : List Stretch :=
  (v.body a).flatMap (fun w => w.1 ++ v.reach a.rearElem.toNat a.rearOfs w.2 (a.conf + v.area.auth.rollback)) ++
  v.reach a.frontElem.toNat a.frontOfs a.dir a.conf

/-- The track between a vehicle's front and a limit issued to it (R157): the rest of the walk that found the limit, or what the front has
gone beyond it. DESIGN CHOICE (log 97): a front off that walk, after a reversal or a correction, is joined to the nearer of its
start and the limit. -/
def Ev.trackTo (v : Ev) (a : AuthRec) (l : Limit) : List Stretch :=
  let sec := a.frontElem.toNat
  match distOf l.segs sec a.frontOfs with
  | some f => v.along l.segs (min f l.dist) (max f l.dist)
  | none =>
    let toLimit := v.between sec a.frontOfs l.elem.toNat l.ofs
    let toStart := l.segs.head?.bind (fun s => v.between sec a.frontOfs s.1 s.2.1)
    match toStart, toLimit with
    | some p, some q => if wayLen p ≤ wayLen q then p ++ v.along l.segs 0 l.dist else q
    | some p, none => p ++ v.along l.segs 0 l.dist
    | none, q => q.getD []

/-- Claim of a known vehicle: its extent and the track to every limit still usable (R157). -/
def Ev.claimOf (v : Ev) (a : AuthRec) (ls : List Limit) : List Stretch :=
  v.extent a ++ (ls.filter (fun l => l.valid)).flatMap (v.trackTo a)

/-- Limits that were replaced after their message had left, while the message is valid (R168). -/
def Ev.sentLimits (v : Ev) (veh : Nat) : List Limit :=
  (v.c.k.sent.getD veh []).filter (fun l => decide ((v.tick - l.tick).toNat ≤ v.area.auth.validity))

def Ev.claim (v : Ev) (veh : Nat) (a : AuthRec) : List Stretch := v.claimOf a (v.c.limits.getD veh [] ++ v.sentLimits veh)

/-- Limits issued before the present tick, latest first. -/
def Ev.before (v : Ev) (veh : Nat) : List Limit := (v.c.limits.getD veh []).filter (fun l => l.tick != v.tick)

/-- Claims of every known vehicle but one: of a lower one with its limit of this tick, of a higher one without (R158). -/
def Ev.otherClaims (v : Ev) (veh : Nat) : List Stretch :=
  v.c.auths.flatMap (fun p =>
    if p.1 = veh then [] else if p.1 < veh then v.claim p.1 p.2 else v.claimOf p.2 (v.before p.1 ++ v.sentLimits p.1))

/-- An authority depends on a route (R169). -/
def Ev.depends (v : Ev) (rc : RouteCfg) : Bool :=
  let cl := v.c.auths.flatMap (fun p => v.claim p.1 p.2)
  let onMark := match rc.entry with
    | some (s, _) => v.area.marks.any (fun m => m.kind == .stopMark && m.elem == s &&
        cl.any (fun c => c.1 == m.sec && decide (c.2.1 ≤ m.ofs) && decide (m.ofs ≤ c.2.2)))
    | none => false
  onMark || cl.any (fun c => rc.path.contains c.1)

/-- The approach of a route is free (R134). -/
def Ev.approachFree (v : Ev) (rc : RouteCfg) : Bool :=
  !rc.approach.isEmpty && rc.approach.all v.secClear && !v.depends rc

/-! ### Extension by routes (R159) -/

/-- Direction of travel of a route in its k-th path section (1 to m): toward the section after it, away from the one before it,
or as its entry signal's stop mark faces. A route of one section without an entry signal: away from its nearest approach
section or toward an overlap section; DESIGN CHOICE (log 98). -/
def Ev.routeDir (v : Ev) (rc : RouteCfg) (k : Nat) : Option Bool :=
  match rc.path[k - 1]? with
  | none => none
  | some s =>
    match v.area.track.get? s with
    | none => none
    | some t =>
      let leadsTo (e : TrackEnd) (n : Nat) : Bool := (v.leads e false).any (fun b => b.1 == n)
      let toward (n : Nat) : Option Bool :=
        if leadsTo t.endB n then some false else if leadsTo t.endA n then some true else none
      let away (n : Nat) : Option Bool := (toward n).map (fun d => !d)
      let mark : Option Mark := match rc.entry with
        | some (sig, _) => v.area.marks.find? (fun m => m.kind == .stopMark && m.elem == sig)
        | none => none
      match rc.path[k]? with
      | some n => toward n
      | none =>
        if 1 < k then (rc.path[k - 2]?).bind away
        else match mark with
          | some m => if m.sec = s then some m.dir else away m.sec
          | none => (firstSome rc.approach away).or (firstSome rc.overlap (fun p => toward p.1))

/-- A section is an unreleased path section of a route. -/
def Ev.unreleased (v : Ev) (r : Nat) (rc : RouteCfg) (s : Nat) : Bool :=
  (rc.path.drop (v.route r).released).contains s

/-- The route that extends a vehicle at its front (R159, first case). -/
def Ev.extendsFront (v : Ev) (sec : Nat) (dir : Bool) : Option Nat :=
  firstSome v.area.routes (fun p =>
    let x := v.route p.1
    if (x.state == .entered || x.state == .releasing) && v.unreleased p.1 p.2 sec &&
        v.routeDir p.2 (p.2.path.idxOf sec + 1) == some dir then some p.1 else none)

/-- The route of a signal that extends a vehicle at its stop mark (R159). -/
def Ev.extendsSignal (v : Ev) (sig : Nat) : Option Nat :=
  firstSome v.area.routes (fun p => match p.2.entry with
    | some (s, _) =>
      let x := v.route p.1
      if s = sig && (x.state == .cleared ||
          ((x.state == .entered || x.state == .releasing) && p.2.follow && x.released == 0)) then some p.1 else none
    | none => none)

/-- The walk passes the clearance mark of an element (R160). -/
def Ev.passes (v : Ev) (id : Nat) (walked : Option Nat) : Bool :=
  let e := v.elem id
  let inRoute : Bool := match walked with
    | some r => e.lock == .route && e.owner == BitVec.ofNat 14 r &&
        (match v.area.routes.get? r with
         | some rc => rc.reqOf id == some e.det
         | none => false)
    | none => false
  e.status == .proved &&
  match v.cfg? id with
  | some (.point _ _ _ _ _ _) => inRoute
  | some (.movable _ _ _ _ _ _) => inRoute
  | some (.stop _ _ _ _ _ _) => e.det == 1
  | some (.gate _ _ _ _ _ _) => e.det == 0
  | _ => false

/-! ### The walk (R161) -/

/-- A mark met by the walk: its distance from the front, and what it is. -/
inductive Met where
  | far | signal (s : Nat) | sectionEnd | claim | clearance (e : Nat) | zone (z : Nat) | zoneHere
deriving DecidableEq, Repr

/-- Order of marks at one position: by the term codes of R162. -/
def Met.order (walked : Option Nat) : Met → Nat
  | .far => if walked.isSome then 1 else 3
  | .signal _ => 2
  | .sectionEnd => 3
  | .claim => 4
  | .clearance _ => 5
  | .zone _ => 6
  | .zoneHere => 6

/-- Result of a walk: the limit's distance, TERM, the walked route, and the stretches walked: section, entry offset,
direction, distance at entry. -/
structure Walk where
  dist : Nat
  term : BitVec 4
  walked : Option Nat
  segs : List Seg
deriving DecidableEq, Repr

/-- Marks ahead in a section, with their distances from the walk's start (R149, R161). -/
def Ev.marksIn (v : Ev) (claims : List Stretch) (sec ofs : Nat) (dir : Bool) (base len : Nat) : List (Nat × Met) :=
  let ms := v.area.marks.filterMap (fun m =>
    if m.sec = sec && m.dir == dir && ahead dir ofs m.ofs then
      some (base + absDiff ofs m.ofs, match m.kind with
        | .stopMark => Met.signal m.elem
        | .clearance => Met.clearance m.elem
        | .zoneMark => Met.zone m.elem)
    else none)
  let cs := claims.filterMap (fun c =>
    if c.1 = sec then
      if dir then (if c.2.1 ≤ ofs then some (base + (ofs - c.2.2), Met.claim) else none)
      else (if ofs ≤ c.2.2 then some (base + (c.2.1 - ofs), Met.claim) else none)
    else none)
  (base + toEnd len dir ofs, Met.far) :: (ms ++ cs)

/-- The nearest of a list of marks. -/
def nearest (walked : Option Nat) (l : List (Nat × Met)) : Option (Nat × Met) :=
  l.foldl (fun acc m => match acc with
    | none => some m
    | some b => if m.1 < b.1 || (m.1 == b.1 && m.2.order walked < b.2.order walked) then some m else some b) none

/-- The marks of one section in turn: either a limit (distance, TERM), or the route walked beyond the
section's end, once every mark at that end has been taken too (R161). -/
def Ev.walkSec (v : Ev) (fuel : Nat) (s h : Nat) (next : Option Nat) (walked : Option Nat) (l : List (Nat × Met)) :
    (Option (Nat × BitVec 4)) × Option Nat :=
  match fuel with
  | 0 => (none, walked)
  | n + 1 =>
    match nearest walked l with
    | none => (none, walked)
    | some (d, m) =>
      let rest := l.erase (d, m)
      if h < d then (some (h, 7), walked)
      else match m with
        | .claim => (some (d - s, 4), walked)
        | .clearance e => if v.passes e walked then v.walkSec n s h next walked rest else (some (d, 5), walked)
        | .zone z => if (v.elem z).cmd = 1 then v.walkSec n s h next walked rest else (some (d, 6), walked)
        | .zoneHere => (some (d, 6), walked)
        | .sectionEnd => (some (d, 3), walked)
        | .signal g =>
          match v.extendsSignal g with
          | some r => v.walkSec n s h next (some r) rest
          | none => (some (d, 2), walked)
        | .far =>
          let goes := match walked, next with
            | some r, some x =>
              (match v.area.routes.get? r with
               | some rc => v.unreleased r rc x
               | none => false)
            | _, _ => false
          if goes then v.walkSec n s h next walked rest
          else (some (d, if walked.isSome then 1 else 3), walked)

/-- The walk from a place (R161): `fuel` section ends may still be passed. -/
def Ev.walk (v : Ev) (fuel : Nat) (claims : List Stretch) (first : List (Nat × Met)) (sec ofs : Nat) (dir : Bool)
    (base : Nat) (walked : Option Nat) (segs : List Seg) : Walk :=
  match v.area.track.get? sec with
  | none => ⟨base, 7, walked, segs⟩
  | some t =>
    let segs' := segs ++ [(sec, ofs, dir, base)]
    let nx := (v.leads (t.far dir) true)[0]?
    let marks := first ++ v.marksIn claims sec ofs dir base t.len
    match v.walkSec (marks.length + 1) v.area.auth.separation v.area.auth.horizon (nx.map (fun b => b.1)) walked marks with
    | (some (d, term), w) => ⟨d, term, w, segs'⟩
    | (none, w) =>
      let endD := base + toEnd t.len dir ofs
      match fuel, nx with
      | n + 1, some b =>
        if segs'.any (fun x => x.1 == b.1) then ⟨endD, 7, w, segs'⟩
        else
          let start := if b.2 then 0 else v.secLen b.1
          v.walk n claims [] b.1 start (!b.2) endD w segs'
      | _, _ => ⟨endD, 7, w, segs'⟩

/-- The place at a distance along a walk: section, offset, direction. -/
def placeAt (segs : List Seg) (d : Nat) : Option (Nat × Nat × Bool) :=
  (segs.filter (fun s => decide (s.2.2.2 ≤ d))).getLast?.map (fun s =>
    let k := d - s.2.2.2
    (s.1, if s.2.2.1 then s.2.1 - k else s.2.1 + k, s.2.2.1))

/-- Clearance and zone marks behind a front whose element or boundary is still ahead of it: their limit lies behind the front, so DIST is
0 (R163, R176). DEDUCED (log 143). -/
def Ev.marksBehind (v : Ev) (sec ofs : Nat) (dir : Bool) : List (Nat × Met) :=
  (v.segsFrom v.ends sec ofs (!dir) 10000 0).flatMap (fun s =>
    v.area.marks.filterMap (fun m =>
      let back := s.2.2.2 + absDiff s.2.1 m.ofs
      if m.sec = s.1 && m.dir != s.2.2.1 && ahead s.2.2.1 s.2.1 m.ofs && decide (0 < back) && decide (back ≤ m.before) then
        match m.kind with
        | .stopMark => none
        | .clearance => some (0, Met.clearance m.elem)
        | .zoneMark => some (0, Met.zone m.elem)
      else none))

/-! ### Reports (R152-R155) -/

/-- A report passes R153; `old` is the vehicle's record. -/
def Ev.reportOk (v : Ev) (r : PosReport) (old : Option AuthRec) : Bool :=
  let g := v.area.auth
  let c := r.conf.toNat
  let dir := r.flags.getLsbD 0
  let secOk (e : BitVec 16) (o : Word) : Bool := match v.area.track.get? e.toNat with
    | some t => v.isSection e.toNat && decide (o.toNat ≤ t.len)
    | none => false
  let fe := r.frontElem.toNat
  let fo := r.frontOfs.toNat
  decide (r.vehId.toNat < 4096) && decide (r.flags.toNat < 8) && r.flags.getLsbD 2 && r.byte3 == 0 &&
  decide (r.frontOfs.toNat < 16777216) && decide (r.rearOfs.toNat < 16777216) &&
  decide (r.vehId.toNat < g.vn) && secOk r.frontElem r.frontOfs && secOk r.rearElem r.rearOfs &&
  v.reaches fe fo (!dir) r.rearElem.toNat r.rearOfs.toNat (g.lmax + 2 * c) &&
  tickGe v.tick r.measTick &&
  (match old with
   | none => true
   | some a =>
     let reachD := g.vmax * (r.measTick - a.measTick).toNat * v.tUs.toNat / 1000000 + 2 * c
     tickGt r.measTick a.measTick &&
     (v.reaches a.frontElem.toNat a.frontOfs a.dir fe fo reachD || v.reaches a.frontElem.toNat a.frontOfs (!a.dir) fe fo reachD))

/-- An authority record that takes an accepted report (R150, R166). -/
def acceptReport (old : Option AuthRec) (r : PosReport) : AuthRec :=
  let b : AuthRec := old.getD ⟨.none, 0, false, false, false, 0, 0, 0, 0, 0, 0, 0, 0xFFFF, 0, 0, false, 0, 0, 0⟩
  { b with
    state := if b.state == .none then .fresh else b.state
    standstill := r.flags.getLsbD 1, frontElem := r.frontElem, frontOfs := r.frontOfs.toNat, conf := r.conf.toNat
    measTick := r.measTick, dir := r.flags.getLsbD 0, rearElem := r.rearElem, rearOfs := r.rearOfs.toNat
    gateway := r.gateway }

/-- Bytes 2 to 19 of two reports are identical (R154). -/
def sameReport (a b : PosReport) : Bool :=
  a.flags == b.flags && a.byte3 == b.byte3 && a.frontElem == b.frontElem && a.rearElem == b.rearElem &&
  a.frontOfs == b.frontOfs && a.rearOfs == b.rearOfs && a.conf == b.conf && a.speed == b.speed

/-- The vehicle that a report names: [11:0] of VEH_ID (R152). -/
def vehicleOf (r : PosReport) : Nat := r.vehId.toNat % 4096

/-- A condition's onset is kept in a list of vehicles (R515). -/
def withVeh (l : List Nat) (veh : Nat) (now : Bool) : List Nat :=
  if now then (if l.contains veh then l else l ++ [veh]) else l.filter (fun x => x != veh)

/-- The reports of one vehicle in one tick, all of them, against its record before the tick (R153, R154). -/
def Ev.report (v : Ev) (veh : Nat) (rs : List PosReport) : Ev :=
  let k := v.c.k
  let base := k.tickBase
  let old := base.auths.get? veh
  let good := rs.filter (fun r => v.reportOk r old)
  let rej := good.length != rs.length
  let v1 := if rej && !k.rejVeh.contains veh && !base.rej.contains veh then v.raise .alarm 0xA0 .vehicle veh [] else v
  let latest := good.filter (fun r => good.all (fun q => tickGe r.measTick q.measTick))
  let contra := latest.any (fun r => latest.any (fun q => !sameReport r q))
  let v2 := if contra && !k.contraVeh.contains veh && !base.contra.contains veh then v1.raise .alarm 0xA2 .vehicle veh [] else v1
  let v3 : Ev := { v2 with c := { v2.c with k := { v2.c.k with
    rejVeh := withVeh k.rejVeh veh rej, contraVeh := withVeh k.contraVeh veh contra } } }
  let new : Option AuthRec := if contra then old else
    (match latest with
     | r :: _ => some (acceptReport old r)
     | [] => old)
  match new with
  | some a => { v3 with c := { v3.c with auths := v3.c.auths.set veh { a with rejLast := rej } } }
  | none => { v3 with c := { v3.c with auths := v3.c.auths.del veh, limits := v3.c.limits.del veh } }

/-! ### Step 8 -/

/-- Distance along the walk of tick n of the limit of tick n - 1 (R164), 0 where it lies behind the front; none where the walk ends before
it. DESIGN CHOICE (log 99): off the walk that found it, a limit lies on the nearer side of the front, and a vehicle without a
limit of tick n - 1 has distance 0. -/
def Ev.oldLimit (v : Ev) (a : AuthRec) (hist : List Limit) (segs : List Seg) : Option Nat :=
  match hist.head? with
  | none => some 0
  | some l =>
    match distOf l.segs a.frontElem.toNat a.frontOfs with
    | some f => some (l.dist - f)
    | none =>
      let way (dir : Bool) : Option (List Stretch) :=
        shortest ((v.pathsTo false v.ends a.frontElem.toNat a.frontOfs dir l.elem.toNat l.ofs v.trackLen).map (fun r => r.1))
      match way a.dir, way (!a.dir) with
      | some f, some b => if wayLen b < wayLen f then some 0 else distOf segs l.elem.toNat l.ofs
      | some _, none => distOf segs l.elem.toNat l.ofs
      | none, _ => some 0

/-- A vehicle's record with its limit of the tick, which replaces an earlier one of the same tick; one whose message has left can still be
used (R168, R170). -/
def Ev.putLimit (v : Ev) (veh : Nat) (x : AuthRec) (l : Limit) : Ev :=
  let replaced := (v.c.limits.getD veh []).filter (fun y => y.tick == v.tick && y.valid)
  let k := if v.gone && !replaced.isEmpty then { v.c.k with sent := v.c.k.sent.set veh (replaced ++ v.sentLimits veh) } else v.c.k
  { v with c := { v.c with
    auths := v.c.auths.set veh x
    limits := v.c.limits.set veh ((l :: v.before veh).take (v.area.auth.validity + 1))
    k := k } }

/-- The limit of one vehicle (R161-R164), R175's first ticks included. -/
def Ev.limit (v : Ev) (veh : Nat) (a : AuthRec) : Ev :=
  let g := v.area.auth
  let age := (v.tick - a.measTick).toNat
  let early := match v.c.k.firstTick with
    | some f => !tickGe v.tick (f + 16)
    | none => true
  let sec := a.frontElem.toNat
  if early then
    v.putLimit veh { a with state := .fresh, term := 0, dist := 0, age := age, limitElem := a.frontElem, limitOfs := a.frontOfs,
                            limitDir := a.dir, route := 0xFFFF, issueTick := v.tick }
      ⟨0, 0, false, false, v.tick, 0, [(sec, a.frontOfs, a.dir, 0)]⟩
  else
    let walked := v.extendsFront sec a.dir
    let inStop := v.area.elems.any (fun p => match p.2 with
      | .zone _ _ _ _ _ _ _ secs => secs.contains sec && (v.elem p.1).cmd != 1
      | _ => false)
    let first : List (Nat × Met) :=
      (if walked.isNone && (v.elem sec).status != .proved then [(0, Met.sectionEnd)] else []) ++
      (if inStop then [(0, Met.zoneHere)] else []) ++ v.marksBehind sec a.frontOfs a.dir
    let w := v.walk 63 (v.otherClaims veh) first sec a.frontOfs a.dir 0 walked []
    let fresh := decide (age ≤ g.maxAge)
    let shorter : Option Nat := if fresh then none else
      (v.oldLimit a (v.before veh) w.segs).bind (fun d => if d < w.dist then some d else none)
    let dist := shorter.getD w.dist
    let pl := (placeAt w.segs dist).getD (sec, a.frontOfs, a.dir)
    let x : AuthRec := { a with
      state := if fresh then .fresh else .frozen
      term := if shorter.isSome then a.term else w.term
      age := age, limitElem := BitVec.ofNat 16 pl.1, limitOfs := pl.2.1, limitDir := pl.2.2, dist := dist
      route := match w.walked with
        | some r => BitVec.ofNat 16 r
        | none => 0xFFFF
      issueTick := v.tick }
    let v1 := v.putLimit veh x
      ⟨x.limitElem, x.limitOfs, x.limitDir, true, v.tick, dist, w.segs.filter (fun s => decide (s.2.2.2 ≤ dist))⟩
    if !fresh && a.state != .frozen then v1.raise .alarm 0xA1 .vehicle veh [] else v1

/-- Two stretches of track share a part. -/
def overlapping (p q : List Stretch) : Bool :=
  p.any (fun a => q.any (fun b => a.1 == b.1 && decide (a.2.1 ≤ b.2.2) && decide (b.2.1 ≤ a.2.2)))

/-- Pairs of known vehicles whose extents overlap (R165). -/
def Ev.extentPairs (v : Ev) : List (Nat × Nat) :=
  v.c.auths.flatMap (fun p => v.c.auths.filterMap (fun q =>
    if p.1 < q.1 && overlapping (v.extent p.2) (v.extent q.2) then some (p.1, q.1) else none))

/-- The limits of every known vehicle again, after a change within the tick (R170). -/
def Ev.relimit (v : Ev) : Ev := v.each v.c.auths (fun v p => v.limit p.1 ((v.c.auths.get? p.1).getD p.2))

/-- One more report of the present tick (R154): the reports of its vehicle in the tick are taken together, and the limits follow. -/
def Ev.oneReport (v : Ev) (r : PosReport) : Ev :=
  let b := v.c.k.tickBase
  let v1 : Ev := { v with c := { v.c with k := { v.c.k with tickBase := { b with reports := b.reports ++ [r] } } } }
  (v1.report (vehicleOf r) (v1.c.k.tickBase.reports.filter (fun q => vehicleOf q == vehicleOf r))).relimit

/-- Step 8 of R76: vehicles in ascending identifier, each with its reports of the tick (R158). -/
def Ev.authorities (v : Ev) : Ev :=
  let ids := ((v.inp.reports.map vehicleOf) ++ v.c.auths.map (fun p => p.1) ++ v.c.k.contraVeh ++ v.c.k.rejVeh).foldl
    (fun (m : AMap Unit) i => m.set i ()) []
  let v0 : Ev := { v with c := { v.c with k := { v.c.k with
    tickBase := ⟨v.inp.reports, v.c.auths, v.c.k.rejVeh, v.c.k.contraVeh⟩ } } }
  let v1 := v0.each ids (fun v p =>
    let v1 := v.report p.1 (v.inp.reports.filter (fun r => vehicleOf r == p.1))
    match v1.c.auths.get? p.1 with
    | some a => v1.limit p.1 a
    | none => v1)
  let pairs := v1.extentPairs
  let v2 := v1.each (pairs.filter (fun p => !v1.c.k.ovlVeh.contains p)) (fun v p =>
    v.raise .alarm 0xA3 .vehicle p.1 (leBytes 2 p.1 ++ leBytes 2 p.2))
  { v2 with c := { v2.c with k := { v2.c.k with ovlVeh := pairs } } }

end Sys2Proof.Machine
end

