-- ==== Sys2Proof/Machine/Requests.lean ====
section
/-!
DEFINITION. Requests in one lane's evaluation: validation (R144), arms and confirms (R55, R102, R145), and what each request
code does (R87-R104, R133-R140, R172, R272, R352, R377, R455). Every request row and TICK_EDGE call `Ev.request`.
-/

namespace Sys2Proof.Machine

/-! ### Request codes -/

def isElemCode (c : Byte) : Bool := decide (1 ≤ c.toNat) && decide (c.toNat ≤ 0x0C)
def isRouteCode (c : Byte) : Bool := c == 0x20 || c == 0x21 || c == 0x22
def isResetCode (c : Byte) : Bool := c == 0x38 || c == 0x39

/-- Every request code of the manual. -/
def isCode (c : Byte) : Bool :=
  isElemCode c || isRouteCode c || isResetCode c || c == 0x23 || c == 0x30 || c == 0x40 || c == 0x41

/-- Codes with a two-step form (R100, R139, R172, R272, R377, R455). -/
def hasTwoStep (c : Byte) : Bool :=
  c == 0x02 || c == 0x07 || c == 0x08 || c == 0x09 || c == 0x0B || c == 0x0C || c == 0x22 || c == 0x23 || c == 0x30 ||
  isResetCode c || c == 0x41

/-- The request is a two-step one: SET FLAG by its direction (R98), UPDATE LOCK by its argument (R455). -/
def Ev.twoStep (v : Ev) (c : Byte) (q : Request) : Bool :=
  if c == 0x0C then
    match v.cfg? q.target.toNat with
    | some (.block restrictive _ _) => q.arg.toNat == b2n (!restrictive)
    | _ => false
  else if c == 0x41 then q.arg == 0
  else hasTwoStep c

/-- ARG is among the values listed for the code (R100, R139, R172, R272, R352, R377, R455). DESIGN CHOICE (log 141): of a code for which
R100 lists none, 0 alone. -/
def Ev.argOk (v : Ev) (c : Byte) (q : Request) : Bool :=
  let a := q.arg.toNat
  if c == 0x01 || c == 0x02 then a == 1 || a == 2
  else if c == 0x03 then decide (a ≤ 15)
  else if c == 0x04 || c == 0x05 || c == 0x0A || c == 0x0C then decide (a ≤ 1)
  else if c == 0x40 then decide (a ≤ 7)
  else if c == 0x41 then decide (a ≤ 1) && q.target == 0
  else if c == 0x38 then a == 0 && q.target == 0
  else if c == 0x39 then
    a == 0 && decide (1 ≤ q.target.toNat) &&
    (match v.modes[q.target.toNat - 1]? with
     | some m => m == .output || m == .outputFb
     | none => false)
  else a == 0

/-- The class is listed for an element request code (R100). -/
def classOk (c : Byte) (cfg : ClassCfg) : Bool :=
  let k := cfg.code
  if c == 0x01 || c == 0x02 then k == 2
  else if c == 0x03 then k == 6
  else if c == 0x04 then k == 4
  else if c == 0x05 then k == 5
  else if c == 0x06 || c == 0x07 then k == 1 || k == 2 || k == 3 || k == 4 || k == 5 || k == 6
  else if c == 0x08 then k == 1
  else if c == 0x09 || c == 0x0A then k == 7
  else if c == 0x0B then k == 3
  else if c == 0x0C then k == 9
  else false

/-- The source is permitted by the image's mask (R141), or on secure channels alone (R272, R455). -/
def Ev.permitted (v : Ev) (c : Byte) (q : Request) : Bool :=
  if isResetCode c || c == 0x41 then
    match q.src with
    | .secure _ => true
    | _ => false
  else
    match v.area.perms.get? c.toNat with
    | none => false
    | some m =>
      match q.src with
      | .secure _ => m.secure
      | .nonsecure _ => m.nonsecure
      | .frame _ => m.frame

def isSecure : Source → Bool
  | .secure _ => true
  | _ => false

/-- Steps 1 to 5 of R144: the refusing code, or 0. Reset commands and UPDATE LOCK skip step 2 (R272, R455). -/
def Ev.common (v : Ev) (c : Byte) (q : Request) : Byte :=
  let span := (q.validTo - q.validFrom).toNat
  if !(q.kind == 1 || q.kind == 2) || !isCode c || !q.reservedZero || (q.kind == 1 && q.armSeq != 0) ||
      (q.kind == 2 && !hasTwoStep c) || !tickGe q.validTo q.validFrom || decide (65535 < span + 1) then 0x70
  else if !(isResetCode c || c == 0x41) && !v.active then 0x4C
  else if !(tickGe v.tick q.validFrom && tickGe q.validTo v.tick) then 0x4D
  else if !v.permitted c q || (v.twoStep c q && !isSecure q.src) then 0x71
  else if !v.argOk c q then 0x48
  else 0

/-! ### Arms (R55, R102, R145) -/

/-- Arms of one target: a route, a vehicle and a boundary slot with one number are different targets (R145, R172, R377). -/
def sameTarget (a : Arm) (c : Byte) (t : BitVec 16) : Bool :=
  a.target == t && ((a.code == 0x30) == (c == 0x30)) && ((a.code == 0x23) == (c == 0x23))

/-- The arm that a request would leave, read in P5 of the tick before (R101). -/
def Ev.armOf (v : Ev) (c : Byte) (q : Request) : Arm := ⟨q.src, c, q.target, q.arg, q.seq, v.tick - 1⟩

/-- A confirm matches an arm: same channel, code, target and argument, and the arm's SEQ (R55, R145). -/
def armMatches (a : Arm) (c : Byte) (q : Request) : Bool :=
  a.src == q.src && a.code == c && a.target == q.target && a.arg == q.arg && a.seq == q.armSeq

/-- The confirm's instant lies 2 to 30 s after the arm's (R55). -/
def Ev.inWindow (v : Ev) (a : Arm) : Bool :=
  let us := (v.tick - 1 - a.readTick).toNat * v.tUs.toNat
  decide (2000000 ≤ us) && decide (us ≤ 30000000)

/-- What steps 8 and 9 of R144 answer: the request acts (with the arm's tick for a confirm), or ends with a code. -/
inductive ReqStage where
  | act (armTick : Option Tick)
  | done (code : Byte)
deriving DecidableEq, Repr

/-- Steps 8 and 9 over a list of arms of at most `cap` entries. -/
def Ev.stageList (v : Ev) (arms : List Arm) (cap : Nat) (c : Byte) (q : Request) : List Arm × Nat × ReqStage :=
  if q.kind == 1 then
    let others := arms.filter (fun a => !sameTarget a c q.target)
    if others.length == arms.length && decide (cap ≤ arms.length) then (arms, 0, .done 0x4E)
    else (others ++ [v.armOf c q], 0, .done 0x00)
  else
    match arms.find? (fun a => armMatches a c q) with
    | none => (arms, 0, .done 0x4A)
    | some a =>
      if v.inWindow a then (arms.erase a, 0, .act (some a.readTick)) else (arms.erase a, 1, .done 0x4A)

/-- Steps 8 and 9 of R144 for a request of any code. -/
def Ev.stage (v : Ev) (c : Byte) (q : Request) : Ev × ReqStage :=
  if !v.twoStep c q then (v, if q.kind == 2 then .done 0x4A else .act none)
  else
    let k := v.c.k
    if isElemCode c then
      let r := v.stageList k.elemArms 16 c q
      ({ v with c := { v.c with k := { k with elemArms := r.1 } }, late := v.late + r.2.1 }, r.2.2)
    else if isResetCode c then
      -- one reset arm is pending at a time, and a second replaces it (R55, R272)
      let r := v.stageList (if q.kind == 1 then [] else k.resetArm.toList) 1 c q
      ({ v with c := { v.c with k := { k with resetArm := r.1.getLast? } }, late := v.late + r.2.1 }, r.2.2)
    else if c == 0x41 then
      let r := v.stageList (if q.kind == 1 then [] else k.lockArm.toList) 1 c q
      ({ v with c := { v.c with k := { k with lockArm := r.1.getLast? } }, late := v.late + r.2.1 }, r.2.2)
    else
      let r := v.stageList k.routeArms 8 c q
      ({ v with c := { v.c with k := { k with routeArms := r.1 } }, late := v.late + r.2.1 }, r.2.2)

/-! ### Retained counters (R104, R138, R485) -/

/-- A request with a retained counter is accepted: the counter rises and EVENT 0x02 is raised (R104, R514). -/
def Ev.retain (v : Ev) (c : Byte) (kind : ObjKind) (obj state released : Nat) : Ev :=
  match retIndex c with
  | none => v
  | some i =>
    let n := satInc 0xFFFFFFFF ((v.counters[i]).toNat + (v.counts.filter (fun j => j == i)).length)
    { v.raise .event 0x02 kind obj ([c, BitVec.ofNat 8 state, BitVec.ofNat 8 released, 0] ++ leBytes 4 n) with
      counts := v.counts ++ [i] }

/-! ### Element requests (R87-R98, R103) -/

/-- THROW and SUPERVISED THROW (R87, R103). -/
def Ev.reqThrow (v : Ev) (id : Nat) (secs : List Nat) (arg : BitVec 4) (sup : Bool) : Ev × Byte :=
  let e := v.elem id
  if e.locked then (v, 0x42)
  else if e.status == .blocked && !sup then (v, 0x43)
  else if 0 < e.timer then (v, 0x47)
  else if !v.sectionsClear secs sup then (v, 0x44)
  else if e.cmd == arg && e.det == arg && (e.status == .proved || e.status == .blocked) then (v, 0x01)
  else (v.command id arg, 0x00)

/-- SET STOP and SET GATE (R92). -/
def Ev.reqSet (v : Ev) (id : Nat) (arg : BitVec 4) : Ev × Byte :=
  let e := v.elem id
  if e.locked then (v, 0x42)
  else if e.status == .blocked then (v, 0x43)
  else if e.cmd == arg && e.status == .proved then (v, 0x01)
  else (v.command id arg, 0x00)

/-- MOVE (R94). -/
def Ev.reqMove (v : Ev) (id : Nat) (npos : Nat) (deck guards : List Nat) (arg : BitVec 4) : Ev × Byte :=
  let e := v.elem id
  if e.locked then (v, 0x42)
  else if e.status == .blocked then (v, 0x43)
  else if npos ≤ arg.toNat then (v, 0x48)
  else if !v.movableReady deck guards then (v, 0x44)
  else if e.cmd == arg && e.status == .proved then (v, 0x01)
  else (v.command id arg, 0x00)

/-- BLOCK (R103, R113): of an element that holds the maintenance lock it answers 0x43. -/
def Ev.reqBlock (v : Ev) (id : Nat) : Ev × Byte :=
  let e := v.elem id
  if e.locked then (v, 0x42)
  else if e.status == .blocked then (v, 0x43)
  else (v.setElem id { e with status := .blocked, lock := .maintenance }, 0x00)

/-- UNBLOCK (R103, R82). -/
def Ev.reqUnblock (v : Ev) (id : Nat) (cfg : ClassCfg) : Ev × Byte :=
  let e := v.elem id
  if e.status != .blocked then (v, 0x01)
  else
    let f := { e with lock := LockKind.none, status := Status.unproved }
    match cfg with
    | .trackSection _ _ _ =>
      ((v.setElem id { f with status := .disturbed }).modAux id (fun a => { a with sweep := false }), 0x00)
    | .signal _ lampTicks => (v.setElem id { f with cmd := 0, timer := lampTicks }, 0x00)
    | .stop _ _ _ _ operateMs _ => (v.setElem id { f with timer := v.ticks operateMs }, 0x00)
    | .gate _ _ _ _ _ operateMs => (v.setElem id { f with timer := v.ticks operateMs }, 0x00)
    | _ => (v.setElem id f, 0x00)

/-- COUNT detectors among a section's sources. -/
def Ev.countDets (v : Ev) (srcs : List SecSrc) : List Nat :=
  srcs.filterMap (fun s => match s with
    | .input _ => none
    | .detector d =>
      match v.cfg? d with
      | some (.detCount _) => some d
      | _ => none)

/-- SECTION RESET (R82, R86, R105). DESIGN CHOICE (log 93): of a BLOCKED section it is accepted, resets the detectors, and the
section stays BLOCKED. -/
def Ev.reqSectionReset (v : Ev) (id : Nat) (srcs : List SecSrc) (rec : Recovery) : Ev × Byte :=
  let e := v.elem id
  let dets := srcs.filterMap (fun s => match s with
    | .input _ => none
    | .detector d => some d)
  let need := e.status == .disturbed ||
    dets.any (fun d => (v.elem d).status == .disturbed || (v.elem d).status == .unproved)
  let cds := v.countDets srcs
  match rec with
  | .detect => (v, 0x45)
  | .direct =>
    if !need then (v, 0x45)
    else if cds.any (fun d => (v.elem d).cmd != 0 || (v.elem d).phase2 != 0) then (v, 0x46)
    else
      let v1 := v.each cds (fun v d => (v.modElem d (fun x => { x with status := .proved, timer := 0, det := 0 })).modAux d
        (fun a => { a with countFault := false, risen := false }))
      (v1.modElem id (fun x => { x with status := if x.status == .blocked then .blocked else .proved }), 0x00)
  | .sweep =>
    if !need then (v, 0x45)
    else
      let v1 := v.each cds (fun v d => (v.modElem d (fun x =>
        { x with status := .unproved, timer := 0, det := if x.cmd != 0 || x.phase2 != 0 then 1 else 0 })).modAux d
        (fun a => { a with countFault := false, risen := false }))
      (v1.modAux id (fun a => { a with sweep := true }), 0x00)

/-- ZONE RESET whose request began in tick `r` (R95, R57). DESIGN CHOICE (log 94): the STOP of a restart has no tick, so every
request is later than it. DESIGN CHOICE (log 95): a stop that is not earlier than the request answers 0x46. -/
def Ev.reqZoneReset (v : Ev) (id : Nat) (r : Tick) : Ev × Byte :=
  let e := v.elem id
  let late : Bool := match (v.aux id).stopTick with
    | some t => !tickGt r t
    | none => false
  if e.cmd == 1 then (v, 0x01)
  else if e.det != 0 || late then (v, 0x46)
  else (v.setElem id { e with cmd := 1 }, 0x00)

/-- ZONE ACCESS (R96). DESIGN CHOICE (log 95): before the settle time has passed, or while COMMANDED is RUN, it answers 0x46. -/
def Ev.reqZoneAccess (v : Ev) (id settleMs : Nat) (cond : Option Nat) (arg : BitVec 4) : Ev × Byte :=
  let e := v.elem id
  if arg = 0 then
    if e.cmd == 0 then (v, 0x01) else (v.zoneStop id settleMs, 0x00)
  else if e.cmd == 2 then (v, 0x01)
  else if e.cmd != 0 || 0 < e.timer || !v.condSet cond then (v, 0x46)
  else (v.setElem id { e with cmd := 2 }, 0x00)

/-- SIGNAL RESTORE (R91). DESIGN CHOICE (log 96): of a signal that is not FAILED, a BLOCKED one too, it answers 0x01. -/
def Ev.reqRestore (v : Ev) (id lampTicks : Nat) : Ev × Byte :=
  let e := v.elem id
  if e.status != .failed then (v, 0x01)
  else (v.setElem id { e with status := .unproved, timer := lampTicks }, 0x00)

/-- SET FLAG (R98). -/
def Ev.reqFlag (v : Ev) (id : Nat) (settable : Bool) (arg : BitVec 4) : Ev × Byte :=
  let e := v.elem id
  if !settable then (v, 0x49)
  else if e.cmd == arg then (v, 0x01)
  else (v.setElem id { e with cmd := arg, det := arg }, 0x00)

/-- An element request that passed R144, by its class. `armTick` is the arm's tick of a confirm. -/
def Ev.elemAct (v : Ev) (c : Byte) (id : Nat) (cfg : ClassCfg) (arg : BitVec 4) (armTick : Option Tick) : Ev × Byte :=
  if c == 0x06 then v.reqBlock id
  else if c == 0x07 then v.reqUnblock id cfg
  else
    match cfg with
    | .point _ _ _ _ _ secs => v.reqThrow id secs arg (c == 0x02)
    | .stop _ _ _ _ _ _ => v.reqSet id arg
    | .gate _ _ _ _ _ _ => v.reqSet id arg
    | .movable positions _ _ _ deck guards => v.reqMove id positions.length deck guards arg
    | .trackSection srcs _ rec => v.reqSectionReset id srcs rec
    | .zone _ _ _ _ _ settleMs cond _ =>
      if c == 0x09 then v.reqZoneReset id (armTick.getD (v.tick - 1)) else v.reqZoneAccess id settleMs cond arg
    | .signal _ lampTicks => v.reqRestore id lampTicks
    | .block _ settable _ => v.reqFlag id settable arg
    | _ => (v, 0x41)

/-- Steps 6 to 9 of an element request and its effect (R144, R100-R104). -/
def Ev.elemReq (v : Ev) (c : Byte) (q : Request) : Ev × Byte :=
  let id := q.target.toNat
  match v.cfg? id with
  | none => (v, 0x40)
  | some cfg =>
    if !classOk c cfg then (v, 0x41)
    else if v.seenElem.contains id then (v, 0x4B)
    else
      let s := ({ v with seenElem := v.seenElem ++ [id] }).stage c q
      match s.2 with
      | .done code => (s.1, code)
      | .act armTick =>
        let r := s.1.elemAct c id cfg (q.arg.setWidth 4) armTick
        let counted := r.2 == 0 && hasTwoStep c && v.twoStep c q
        (if counted then r.1.retain c .element id 0 0 else r.1, r.2)

/-! ### Route requests (R133-R140) -/

def sourceCode : Source → BitVec 2
  | .secure _ => 0
  | .nonsecure _ => 1
  | .frame _ => 2

/-- SET ROUTE (R140). -/
def Ev.reqSetRoute (v : Ev) (r : Nat) (rc : RouteCfg) (q : Request) : Ev × Byte :=
  let x := v.route r
  let by_ : SetBy := ⟨q.src, q.tag, q.seq⟩
  match x.state with
  | .idle =>
    (v.go r .requested (fun x => { x with
      clearPending := true, wasCleared := false, emerg := false, timer := v.routeTicks rc.waitMs,
      source := sourceCode q.src, setBy := some by_ }), 0x00)
  | .locked =>
    if x.clearPending then (v, 0x01)
    else (v.setRoute r { x with clearPending := true, source := sourceCode q.src, setBy := some by_ }, 0x00)
  | .proved =>
    if x.clearPending then (v, 0x01)
    else (v.setRoute r { x with clearPending := true, source := sourceCode q.src, setBy := some by_ }, 0x00)
  | .requested => (v, 0x01)
  | .checking => (v, 0x01)
  | .cleared => (v, 0x01)
  | _ => (v, 0x51)

/-- CANCEL ROUTE (R119, R133, R134). -/
def Ev.reqCancel (v : Ev) (r : Nat) (rc : RouteCfg) : Ev × Byte :=
  let x := v.route r
  let approach : Ev × Byte :=
    if v.approachFree rc then ((v.unlockAll r rc).goIdle r, 0x00)
    else (v.go r .cancelling (fun x => { x with timer := v.routeTicks rc.apprMs }), 0x00)
  match x.state with
  | .idle => (v, 0x01)
  | .rejected => (v, 0x01)
  | .cancelling => (v, 0x01)
  | .entered => (v, 0x5E)
  | .releasing => (v, 0x5E)
  | .requested => (v.goIdle r, 0x00)
  | .cleared => approach
  | .checking => ((v.unlockAll r rc).goIdle r, 0x00)
  | .locked => if x.wasCleared then approach else ((v.unlockAll r rc).goIdle r, 0x00)
  | .proved => if x.wasCleared then approach else ((v.unlockAll r rc).goIdle r, 0x00)

/-- EMERGENCY RELEASE (R137). -/
def Ev.reqEmergency (v : Ev) (r : Nat) (rc : RouteCfg) : Ev × Byte :=
  let x := v.route r
  let load := v.routeTicks rc.emergMs
  let run : Ev × Byte :=
    (v.go r .cancelling (fun x => { x with
      emerg := true, timer := if x.state == .cancelling then max x.timer load else load }), 0x00)
  match x.state with
  | .idle => (v, 0x01)
  | .rejected => (v, 0x01)
  | .requested => (v.goIdle r, 0x00)
  | .checking => ((v.unlockAll r rc).goIdle r, 0x00)
  | .locked => if x.wasCleared then run else ((v.unlockAll r rc).goIdle r, 0x00)
  | .proved => if x.wasCleared then run else ((v.unlockAll r rc).goIdle r, 0x00)
  | .cleared => run
  | .entered => run
  | .releasing => run
  | .cancelling => run

/-- Steps 6 to 9 of a route request and its effect (R118 part 1, R144). -/
def Ev.routeReq (v : Ev) (c : Byte) (q : Request) : Ev × Byte :=
  let r := q.target.toNat
  match v.area.routes.get? r with
  | none => (v, 0x50)
  | some rc =>
    if v.seenRoute.contains r then (v, 0x60)
    else
      let s := ({ v with seenRoute := v.seenRoute ++ [r] }).stage c q
      match s.2 with
      | .done code => (s.1, code)
      | .act _ =>
        if c == 0x20 then s.1.reqSetRoute r rc q
        else if c == 0x21 then s.1.reqCancel r rc
        else
          let x := v.route r
          let u := s.1.reqEmergency r rc
          (if u.2 == 0 then u.1.retain c .route r x.state.code.toNat x.released else u.1, u.2)

/-! ### Other requests -/

/-- A valid boundary frame of a neighbour was accepted in one of the last 16 ticks (R377). -/
def Ev.heard (v : Ev) (area : Fin 16) : Bool :=
  match v.c.k.peers[area].lastFrame with
  | some t => decide (tickDiff v.tick t < 16)
  | none => false

/-- BOUNDARY RELEASE (R377), with EVENT 0x08 and the slot's kind, 0 LENT and 1 PROXY (R514). -/
def Ev.slotReq (v : Ev) (c : Byte) (q : Request) : Ev × Byte :=
  let slot := q.target.toNat
  match v.area.slots.get? slot with
  | none => (v, 0x69)
  | some sc =>
    if v.seenSlot.contains slot then (v, 0x60)
    else
      let s := ({ v with seenSlot := v.seenSlot ++ [slot] }).stage c q
      match s.2 with
      | .done code => (s.1, code)
      | .act _ =>
        let w := s.1
        if w.heard sc.area then (w, 0x6B)
        else
          match sc.kind with
          | .proxy id =>
            let e := w.elem id
            if e.lock == .route || e.lock == .overlap || e.flank then (w, 0x6A)
            else if e.lock == .boundary then
              ((w.setElem id { e with lock := .none, owner := 0 }).raise .event 0x08 .slot slot [1] |>.retain c .slot slot 0 0, 0x00)
            else (w, 0x01)
          | .lent id =>
            let e := w.elem id
            if e.lock == .boundary && e.owner.toNat == slot then
              ((w.freeSlot slot id).retain c .slot slot 0 0, 0x00)
            else (w, 0x01)

/-- VEHICLE REMOVE (R172). -/
def Ev.vehicleReq (v : Ev) (c : Byte) (q : Request) : Ev × Byte :=
  let veh := q.target.toNat
  match v.c.auths.get? veh with
  | none => (v, 0x64)
  | some a =>
    if v.seenVeh.contains veh then (v, 0x60)
    else
      let s := ({ v with seenVeh := v.seenVeh ++ [veh] }).stage c q
      match s.2 with
      | .done code => (s.1, code)
      | .act _ =>
        if (v.tick - a.measTick).toNat ≤ v.area.auth.maxAge then (s.1, 0x65)
        else
          let w := s.1
          let u : Ev := { w with
            c := { w.c with
              auths := w.c.auths.del veh, limits := w.c.limits.del veh
              k := { w.c.k with
                sent := w.c.k.sent.del veh, tickBase := { w.c.k.tickBase with auths := w.c.k.tickBase.auths.del veh } } }
            removed := w.removed ++ [veh] }
          (u.retain c .vehicle veh 0 0, 0x00)

/-- GALLERY SWITCH (R352): the switch itself is the module's (R353). -/
def Ev.galleryReq (v : Ev) (q : Request) : Ev × Byte :=
  let g := q.arg.toNat
  if !((v.galValid[g]?).getD false) then (v, 0x66)
  else if v.galBusy || v.seenSwitch then (v, 0x67)
  else
    let w : Ev := { v with seenSwitch := true }
    if q.kind == 2 then (w, 0x4A)
    else if g = v.galActive then (w, 0x01)
    else ({ w with galReq := some (g, q) }, 0x00)

/-- UPDATE LOCK (R455): the flag is the bank record's. -/
def Ev.lockReq (v : Ev) (c : Byte) (q : Request) : Ev × Byte :=
  let s := v.stage c q
  match s.2 with
  | .done code => (s.1, code)
  | .act _ =>
    let want := q.arg == 1
    if s.1.ownerLock == want then (s.1, 0x01)
    else ({ s.1 with ownerLock := want, lockSet := some want }, 0x00)

/-- MODULE RESET and CHANNEL RESET: an accepted confirm is handed on with the tick in which it began (R57, R272, R273). -/
def Ev.resetReq (v : Ev) (c : Byte) (q : Request) : Ev × Option Byte :=
  let s := v.stage c q
  match s.2 with
  | .done code => (s.1, some code)
  | .act armTick =>
    let ch : Option Chan := if c == 0x39 then
        (if h : q.target.toNat - 1 < 48 then some ⟨q.target.toNat - 1, h⟩ else none) else none
    ({ s.1 with resets := s.1.resets ++ [(ch, armTick.getD (v.tick - 1), c, q)] }, none)

/-! ### The whole -/

/-- STATE of a result: a route's state or an element's STATUS (R143). -/
def Ev.resultState (v : Ev) (c : Byte) (q : Request) : Byte :=
  if isElemCode c then (v.elem q.target.toNat).status.code.setWidth 8
  else if isRouteCode c then (v.route q.target.toNat).state.code.setWidth 8
  else 0

/-- One request: validation, effect, and the result record to its source (R142-R144). -/
def Ev.request (v : Ev) (c : Byte) (q : Request) : Ev :=
  let pre := v.common c q
  let r : Ev × Option Byte :=
    if pre != 0 then (v, some pre)
    else if isElemCode c then (v.elemReq c q).map id some
    else if isRouteCode c then (v.routeReq c q).map id some
    else if isResetCode c then v.resetReq c q
    else if c == 0x23 then (v.slotReq c q).map id some
    else if c == 0x30 then (v.vehicleReq c q).map id some
    else if c == 0x40 then (v.galleryReq q).map id some
    else (v.lockReq c q).map id some
  match r.2 with
  | none => r.1
  | some code =>
    { r.1 with posts := r.1.posts ++
        [⟨q.src, resultBytes 0x81 c q.tag q.target code (r.1.resultState c q) v.tick q.seq, q.seq⟩] }

/-- A ZONE RESET by a pulse on the acknowledge input (R95). `r` is the tick in which the pulse began. -/
def Ev.zoneAck (v : Ev) (id : Nat) : Ev :=
  let a := v.aux id
  let r := match a.pressRun with
    | some t => t - 1
    | none => v.tick - 1
  (v.reqZoneReset id r).1

/-- A qualified pulse of an acknowledge input in the tick: as its worker reports it (R95), or, for a role bound to a frame field,
its bit at pressed (log 86). -/
def Ev.ackPulse (v : Ev) (r : RoleIn) : Bool :=
  match r.src with
  | .channel ch => v.inp.acks.contains (r.node, ch)
  | .frame _ => v.perm r

/-- Acknowledge pulses of the tick, and the run of "pressed" carried on (R95). -/
def Ev.zoneAcks (v : Ev) : Ev :=
  v.each v.area.elems (fun v p => match p.2 with
    | .zone _ _ _ (some ack) _ _ _ _ =>
      let v1 := if v.ackPulse ack then v.zoneAck p.1 else v
      let pressed := v.perm ack || v.subst ack
      v1.modAux p.1 (fun a => { a with pressRun := if pressed then some (a.pressRun.getD v.tick) else none })
    | _ => v)

/-- P2 of a manager before its authorities: steps 1 to 7 of R76. -/
def Ev.steps (v : Ev) : Ev :=
  let first := v.c.k.firstTick.isNone
  let v0 : Ev := { v with c := { v.c with k := { v.c.k with firstTick := some (v.c.k.firstTick.getD v.tick) } } }
  let v1 := v0.elements.peers
  let v2 := (if first then v1.bndRestart else v1).bndStart
  let v3 := v2.tickRoutes
  let v4 := v3.each v3.inp.routeReqs (fun v r => v.request r.1 r.2)
  let v5 := v4.each v4.slotItems (fun v s => match s.2.1.kind with
    | .lent e => v.lentFree s.1 e s.2.2.2 s.2.2.1.reqVal
    | .proxy _ => v)
  let v6 := v5.autoRoutes.checkRoutes.bndLocks.syncFlank
  let v7 := v6.zoneAcks
  let v8 := v7.each v7.inp.elemReqs (fun v r => v.request r.1 r.2)
  v8.signals

/-- P2 of a manager: the steps of R76. -/
def Ev.evaluate (v : Ev) : Ev := v.steps.authorities

end Sys2Proof.Machine
end

