-- ==== Sys2Proof/Machine/Casman.lean ====
section
/-!
DEFINITION. The Casman engine (R193-R197): rule terms over nibbles, in groups of 64 consecutive terms whose results become
visible four groups later, the walk unit, and the comparison of the Casman result region with the processor's vector in full
(R198-R200).
-/

namespace Sys2Proof.Machine

/-- What one run of the engine reads: the committed parts E and R, the agreed inputs, the timer words. -/
structure CasIn where
  elemWord : Nat → DWord
  routeWord : Nat → DWord
  input : Nat → DWord
  timer : Nat → DWord

/-- What one run leaves: the term results of this tick, the Casman result region by vector word (R193), and whether a reserved
opcode or an EMIT beyond bit 63 stopped it (R196). -/
structure CasOut where
  results : AMap (BitVec 4)
  region : AMap DWord
  stopped : Bool
deriving DecidableEq, Repr

/-- Nibble `i` of a word. -/
def nibble (w : DWord) (i : Nat) : BitVec 4 := (w >>> (4 * (i % 16))).setWidth 4

/-- An operand of term `i` (R195, R197): a term result of this tick where its group was issued four groups earlier, and
otherwise what the state SRAM still holds. -/
def casRead (x : CasIn) (old : AMap (BitVec 4)) (o : CasOut) (i : Nat) (addr : BitVec 22) : BitVec 4 :=
  let idx := (addr.setWidth 20).toNat
  let space := addr.extractLsb' 20 2
  if space = 0 then
    let j := idx % 524288
    if j / 64 + 4 ≤ i / 64 then (o.results.get? j).getD (old.getD j 0) else old.getD j 0
  else if space = 1 then
    let w := idx / 16
    nibble (if w < 32768 then x.elemWord w else x.routeWord (w - 32768)) idx
  else if space = 2 then nibble (x.input (idx / 16)) idx
  else nibble (x.timer (idx / 16)) idx

/-- Result of an ordinary opcode (R196); none for a reserved one. -/
def casOp (op : Nat) (a b imm : BitVec 4) : Option (BitVec 4) :=
  let f (c : Bool) : Option (BitVec 4) := some (if c then 1 else 0)
  match op with
  | 0x00 => some 0
  | 0x01 => some (a &&& b)
  | 0x02 => some (a ||| b)
  | 0x03 => some (a ^^^ b)
  | 0x04 => some (a &&& ~~~b)
  | 0x05 => f (a == b)
  | 0x06 => f (a == imm)
  | 0x07 => f (decide (a.toNat < b.toNat))
  | 0x08 => some (if a = 0 then imm else b)
  | 0x09 => some (if a.toNat ≤ b.toNat then a else b)
  | 0x0A => some (if a.toNat ≤ b.toNat then b else a)
  | 0x0B => f (a != 0 || b != 0)
  | 0x0C => f (a != 0 && b != 0)
  | _ => none

/-- One term (R194, R196). -/
def casTerm (x : CasIn) (old : AMap (BitVec 4)) (o : CasOut) (i : Nat) (t : DWord) : CasOut :=
  if o.stopped then o
  else
    let op := (t.extractLsb' 58 6).toNat
    let a := casRead x old o i (t.extractLsb' 36 22)
    if op = 0x3F then
      let word := (t.extractLsb' 18 18).toNat
      let bit := (t.extractLsb' 12 6).toNat
      let width := (t.extractLsb' 10 2).toNat + 1
      if 64 < bit + width then { o with stopped := true }
      else
        let m : DWord := BitVec.ofNat 64 ((2 ^ width - 1) * 2 ^ bit)
        let v : DWord := BitVec.ofNat 64 ((a.toNat % 2 ^ width) * 2 ^ bit)
        { o with region := o.region.set word ((o.region.getD word 0 &&& ~~~m) ||| v) }
    else
      let b := casRead x old o i (t.extractLsb' 14 22)
      match casOp op a b (t.extractLsb' 10 4) with
      | some r => { o with results := o.results.set i r }
      | none => { o with stopped := true }

def casRun (x : CasIn) (old : AMap (BitVec 4)) (o : CasOut) (i : Nat) (ts : List DWord) : CasOut :=
  match ts with
  | [] => o
  | t :: r => casRun x old (casTerm x old o i t) (i + 1) r

/-- What a run leaves in the state SRAM. -/
def casSram (old : AMap (BitVec 4)) (o : CasOut) : AMap (BitVec 4) := o.results.foldl (fun m p => m.set p.1 p.2) old

/-! ### Lengths of the parts (R198) -/

def topKey {α : Type} (m : AMap α) : Nat := match m.getLast? with
  | some p => p.1 + 1
  | none => 0

/-- N_E, N_R, V_n and V_A of a manager; a worker holds none of parts E, R, A and H. -/
def partLens (a : AreaCfg) (manager : Bool) : Nat × Nat × Nat × Nat :=
  if manager then (topKey a.elems, topKey a.routes, a.auth.vn, a.auth.validity) else (0, 0, 0, 0)

/-- Part E (R198). -/
def partE (a : AreaCfg) (n : Nat) (c : Carried) : List DWord :=
  (List.range n).map (fun i => match a.elems.get? i with
    | some cfg => (c.elems.getD i .zero).word cfg
    | none => 0)

/-- Part R. -/
def partR (n : Nat) (c : Carried) : List DWord :=
  (List.range n).flatMap (fun i => match c.routes.get? i with
    | some r => [r.words.1, r.words.2]
    | none => [0, 0])

/-- Part A: four words for each vehicle. -/
def partA (n : Nat) (c : Carried) : List DWord :=
  (List.range n).flatMap (fun i => match c.auths.get? i with
    | some a => (List.range 4).map (fun j => BitVec.ofNat 64 (natAt a.bytes (8 * j) 8))
    | none => [0, 0, 0, 0])

/-- Part H: the limits of the last V_A ticks, most recent first. -/
def partH (n va : Nat) (c : Carried) : List DWord :=
  (List.range n).flatMap (fun i =>
    let l := (c.limits.getD i []).map Limit.word
    (List.range va).map (fun j => (l[j]?).getD 0))

/-- Part O. -/
def partOWords (c : Carried) : List DWord := c.k.partO.toList.map (fun w => w.setWidth 64)

/-! ### Part K (R198)

The manual lists what part K holds and leaves its layout to the image; the order below is the model's (DESIGN CHOICE, log 106), with a
place for every entry. -/

/-- A source in 16 bits: 1 secure, 2 non-secure, 3 a node, above its number. -/
def Source.num (s : Source) : Nat :=
  match s with
  | .secure ch => 0x1000 + ch.val
  | .nonsecure ch => 0x2000 + ch.val
  | .frame node => 0x3000 + node.toNat

/-- A pending arm in two words. -/
def Arm.words (a : Arm) : List DWord :=
  [fields64 [(48, Source.num a.src), (40, a.code.toNat), (16, a.target.toNat), (0, a.arg.toNat)],
   fields64 [(32, a.seq.toNat), (0, a.readTick.toNat)]]

def armWords (a : Option Arm) : List DWord := (a.map Arm.words).getD [0, 0]

/-- Dissent counters, exclusions and source checks of an input. -/
def InK.word (i : InK) : DWord :=
  fields64 [(0, i.dissent.a), (8, i.dissent.b), (16, i.dissent.c), (24, bitsNat i.excl.toList), (32, i.srcFault)]

/-- Lockout, command history and retest of an output. -/
def OutK.words (o : OutK) : List DWord :=
  [fields64 [(63, b2n o.lock.isSome), (56, (o.lock.map (fun x => x.cause.toNat)).getD 0), (52, b2n o.retest), (48, o.echoSplit),
     (24, o.offRun), (0, o.onRun)],
   fields64 [(32, (o.lock.map (fun x => x.tick.toNat)).getD 0), (0, o.onTick.toNat)]]

/-- The place of the expected sequence number of one stream; 0 where no frame of it was accepted. -/
def LaneK.seqWords (k : LaneK) (key : Nat) : List DWord :=
  match k.streams.get? key with
  | some r => [fields64 [(32, r.seq.toNat), (0, r.tick.toNat)], fields64 [(16, 1), (0, r.runId.toNat)]]
  | none => [0, 0]

/-- `n` places of two words for arms; unused ones read 0. -/
def armPlaces (n : Nat) (l : List Arm) : List DWord := (List.range n).flatMap (fun i => armWords l[i]?)

/-- The lane state of part K in words, each entry in its place: reset-request tracking, reflex latches, TIMEOUT counts, inputs, outputs, the
pending arms, then the expected sequence numbers in the order of the image's sources. -/
def LaneK.words (sources : List Nat) (k : LaneK) : List DWord :=
  [k.track, BitVec.ofNat 64 (bitsNat k.reflexLatch.toList)] ++
  (List.range 12).map (fun i => fields64 ((List.range 4).map (fun j => (16 * j, vget k.cmdRun (4 * i + j) 0)))) ++
  k.ins.toList.map InK.word ++ k.outs.toList.flatMap OutK.words ++ armWords k.resetArm ++ armWords k.lockArm ++
  armPlaces 16 k.elemArms ++ armPlaces 8 k.routeArms ++ sources.flatMap k.seqWords

/-- Part K, completed with zeros to its length N_K. -/
def partK (p : NodePart) (c : Carried) : List DWord :=
  let w := c.k.words p.sources
  w ++ List.replicate (p.nk - w.length) 0

/-! ### The decision vector (R198) -/

/-- The six parts of the decision vector of a lane; a part that the node does not hold is empty. -/
def vectorParts (a : AreaCfg) (p : NodePart) (manager : Bool) (c : Carried) : List (List DWord) :=
  let n := partLens a manager
  [partE a n.1 c, partR n.2.1 c, partA n.2.2.1 c, partH n.2.2.1 n.2.2.2 c, partOWords c, partK p c]

/-- The decision vector, part after part. -/
def vectorWords (a : AreaCfg) (p : NodePart) (manager : Bool) (c : Carried) : List DWord := (vectorParts a p manager c).flatten

/-- Part digest of a tick (R200): CRC-64 over the tick number and the words. -/
def partDigest (tick : Tick) (ws : List DWord) : DWord :=
  crc64 (leBytes 4 tick.toNat ++ ws.flatMap (fun w => leBytes 8 w.toNat))

/-- The six part digests of a tick (R200). -/
def partDigests (a : AreaCfg) (p : NodePart) (manager : Bool) (tick : Tick) (c : Carried) : List DWord :=
  (vectorParts a p manager c).map (partDigest tick)

/-- First words of parts R, A, H, O and K. -/
def partStarts (a : AreaCfg) (manager : Bool) : Nat × Nat × Nat × Nat × Nat :=
  let n := partLens a manager
  let r := n.1 + 2 * n.2.1
  let h := r + 4 * n.2.2.1
  let o := h + n.2.2.1 * n.2.2.2
  (n.1, r, h, o, o + 4)

/-- Part code and index within the part of a vector word. -/
def vectorPlace (a : AreaCfg) (manager : Bool) (w : Nat) : BitVec 4 × Nat :=
  let p := partStarts a manager
  if w < p.1 then (1, w)
  else if w < p.2.1 then (2, w - p.1)
  else if w < p.2.2.1 then (3, w - p.2.1)
  else if w < p.2.2.2.1 then (4, w - p.2.2.1)
  else if w < p.2.2.2.2 then (5, w - p.2.2.2.1)
  else (6, w - p.2.2.2.2)

/-! ### The walk unit (R197) -/

/-- Elements as the Casman result region has them. -/
def regionElems (a : AreaCfg) (region : AMap DWord) : AMap Elem :=
  a.elems.mapV (fun id cfg => Elem.ofWord cfg (region.getD id 0))

/-- Routes as the Casman result region has them. -/
def regionRoutes (a : AreaCfg) (region : AMap DWord) : AMap RouteRec :=
  let n := (partLens a true).1
  a.routes.mapV (fun id _ => RouteRec.ofWords (region.getD (n + 2 * id) 0) (region.getD (n + 2 * id + 1) 0))

/-- Step 8 in the walk unit: parts A and H from parts E and R of the tick in the result region. `v` is the evaluation before step
8, whose authorities and limits are those of the committed region. -/
def casWalk (v : Ev) (region : AMap DWord) : AMap DWord :=
  let a := v.area
  let n := partLens a true
  let w := ({ v with c := { v.c with elems := regionElems a region, routes := regionRoutes a region } } : Ev).authorities
  let words := partA n.2.2.1 w.c ++ partH n.2.2.1 n.2.2.2 w.c
  ((List.range words.length).zip words).foldl (fun m p => m.set ((partStarts a true).2.1 + p.1) p.2) region

/-! ### The comparison (R200) -/

/-- First word of the result region that differs from the processor's vector, and how many do. -/
def casMiss (a : AreaCfg) (p : NodePart) (manager : Bool) (c : Carried) (region : AMap DWord) : Option XcMiss :=
  let ws := vectorWords a p manager c
  let bad := ((List.range ws.length).zip ws).filter (fun p => region.getD p.1 0 != p.2)
  match bad with
  | [] => none
  | p :: _ =>
    let at_ := vectorPlace a manager p.1
    some ⟨at_.1, BitVec.ofNat 17 at_.2, bad.length⟩

end Sys2Proof.Machine
end

