-- ==== Sys2Proof/Machine/Arbiter.lean ====
section
/-!
DEFINITION. The masters of the hub's shared resources (R391, R397) and the arbiters' rounds (R396-R401).
-/

namespace Sys2Proof

/-! ### Masters and arbiters -/

/-- Identifier (R391). -/
def Master.id : Master → BitVec 4
  | .laneA => 1
  | .laneB => 2
  | .laneC => 3
  | .net => 4
  | .hostSecure => 5
  | .hostNonsecure => 6
  | .updateMover => 7
  | .hubMovers => 8

/-- Base priority (R397). -/
def Master.base : Master → Nat
  | .laneA => 8
  | .laneB => 8
  | .laneC => 8
  | .net => 12
  | .hostSecure => 4
  | .hostNonsecure => 2
  | .updateMover => 1
  | .hubMovers => 10

def Master.isHost : Master → Bool
  | .hostSecure => true
  | .hostNonsecure => true
  | _ => false

def Master.isLane : Master → Bool
  | .laneA => true
  | .laneB => true
  | .laneC => true
  | _ => false

end Sys2Proof

namespace Sys2Proof.Machine

/-- Index of a requester's lost rounds on a resource. -/
def lostKey (res : Fin 6) (m : Master) : Nat := 16 * res.val + m.id.toNat

/-- Rounds that a requester has lost in a row (R399). -/
def Shared.lostOf (h : Shared) (res : Fin 6) (m : Master) : Nat := h.lost.getD (lostKey res m) 0

/-- Current priority: one step more for each round lost, up to 15 (R399). -/
def Shared.prio (h : Shared) (res : Fin 6) (m : Master) : Nat := min 15 (m.base + h.lostOf res m)

/-- `m` wins a round against `r` (R398): higher priority, more rounds waited, lower identifier. -/
def Shared.beats (h : Shared) (res : Fin 6) (m r : Master) : Bool :=
  let p := h.prio res m
  let q := h.prio res r
  let w := h.lostOf res m
  let x := h.lostOf res r
  decide (q < p) || (decide (p = q) && (decide (x < w) || (decide (w = x) && decide (m.id.toNat < r.id.toNat))))

/-- A freeze holds a master off a resource; the lanes are never held off (R401). -/
def Shared.heldOff (h : Shared) (res : Fin 6) (m : Master) : Bool :=
  h.freeze.getLsbD res.val && h.mask.getLsbD m.id.toNat && !m.isLane

/-- The requester that wins against every other one of a list (R398). -/
def Shared.first (h : Shared) (res : Fin 6) (rs : List Master) : Option Master :=
  rs.find? (fun m => rs.all (fun r => r == m || h.beats res m r))

/-- The requesters of a round (R398): `m` and those it meets. -/
def requesters (m : Master) (rivals : List Master) : List Master := m :: rivals.filter (fun r => r != m)

/-- One round of a resource's arbiter (R398, R399, R401) in which `m` meets `rivals`. The winner returns to its base priority, every loser
rises a step, and a requester that is absent has withdrawn. A freeze withholds the grant of one that it holds off. The second
answer: `m` is granted. -/
def Shared.round (h : Shared) (res : Fin 6) (m : Master) (rivals : List Master) : Shared × Bool :=
  let all := requesters m rivals
  let live := all.filter (fun r => !h.heldOff res r)
  let h1 : Shared := if (h.first res all).any (h.heldOff res) then { h with frozenCnt := vmod h.frozenCnt res (satInc 65535) } else h
  match h.first res live with
  | none => (h1, false)
  | some w =>
    let losers := live.filter (fun r => r != w)
    let others : AMap Nat := h.lost.filter (fun p =>
      p.1 / 16 != res.val || all.any (fun r => h.heldOff res r && lostKey res r == p.1))
    let worst := losers.foldl (fun n r => max n (h.lostOf res r + 1)) 0
    ({ h1 with
       grants := vmod h.grants res (fun _ => w.id)
       lost := losers.foldl (fun (l : AMap Nat) r => l.set (lostKey res r) (h.lostOf res r + 1)) others
       maxLost := vmod h.maxLost res (fun x => min 255 (max x worst)) }, w == m)

end Sys2Proof.Machine
end

