-- ==== Sys2Proof/Machine/Flags.lean ====
section
/-!
DEFINITION. What the lane, field, power, log and exchange registers show (R64, R217, R243, R277, R300, R418, R432, R488,
R528, R539): one function from the state to a word for each register or array of registers. Reading never changes state
here; counters that a read clears are cleared by the read (Host.lean).
-/

namespace Sys2Proof.Machine

/-! ### The configuration that runs -/

def AuthCfg.empty : AuthCfg := ⟨0, 0, 0, 0, 0, 0, 0, 0⟩

def AreaParams.empty : AreaParams := ⟨0, 0, 0, 0, 0, 0, 0, 0, 0, 0⟩

def AreaCfg.empty : AreaCfg := ⟨[], [], [], [], [], [], .empty, [], [], [], [], .empty, []⟩

def ChanCfg.off : ChanCfg := ⟨.off, 0, false, none, false, false, 0, 0, 1, 10, ⟨0, 0⟩, ⟨0, 0⟩, ⟨0, 0⟩, .none, false⟩

def NodePart.empty : NodePart := ⟨.replicate 48 .off, [], [], [], [], [], [], [], 0, .replicate 3 1, 0, [], []⟩

/-- The node follows another's time: ROLE, and no PPS in use (R319). -/
def Tim.follows (t : Tim) : Tim := { t with role := 2, ppsUsed := false }

/-- The node's identifier (R359). -/
def State.node (s : State) : BitVec 12 := s.pair.strapId

/-- The area part of the running image; empty until an image runs. -/
def State.area (s : State) : AreaCfg := (s.upd.img.map (fun i => i.area)).getD .empty

/-- Code of a bank state (R442). -/
def BankState.code : BankState → Byte
  | .stable => 0
  | .rollingTrial => 1
  | .fullPending => 2
  | .fullTrial => 3

/-- MAGIC of a bank record, "XBNK" (R442). -/
def bankMagic : Word := 0x4B4E4258

/-- Bytes 0-59 of a bank record (R442). -/
def BankRec.body (r : BankRec) : List Byte :=
  leBytes 4 r.magic.toNat ++ leBytes 4 r.seq.toNat ++ [BitVec.ofNat 8 (b2n r.active), r.state.code, BitVec.ofNat 8 (b2n r.ownerLock), 0] ++
    leBytes 48 r.failed.toNat

/-- The 64 bytes of a bank record (R442). -/
def BankRec.bytes (r : BankRec) : List Byte := r.body ++ leBytes 4 r.check.toNat

/-- MAGIC and CHECK of a copy hold (R442). -/
def BankRec.valid (r : BankRec) : Bool := r.magic == bankMagic && r.check == crc32 r.body

/-- A record with its MAGIC and CHECK. -/
def BankRec.sealed (r : BankRec) : BankRec :=
  let m : BankRec := { r with magic := bankMagic }
  { m with check := crc32 m.body }

/-- MAGIC of a latch record, "XLCK" (R482). -/
def latchMagic : Word := 0x4B434C58

/-- Bytes 0-59 of a latch record (R482). -/
def LatchRec.body (r : LatchRec) : List Byte :=
  leBytes 4 r.magic.toNat ++ leBytes 4 r.seq.toNat ++ [r.stateByte, r.cause] ++ leBytes 4 r.tick.toNat ++ List.replicate 46 0

/-- The 64 bytes of a latch record (R482). -/
def LatchRec.bytes (r : LatchRec) : List Byte := r.body ++ leBytes 4 r.check.toNat

/-- MAGIC and CRC-32 of a slot hold (R482). -/
def LatchRec.valid (r : LatchRec) : Bool := r.magic == latchMagic && r.check == crc32 r.body

/-- A latch record with its MAGIC and CRC-32. -/
def LatchRec.sealed (r : LatchRec) : LatchRec :=
  let m : LatchRec := { r with magic := latchMagic }
  { m with check := crc32 m.body }

/-- MAGIC of a retained record, "XRET" (R484). -/
def retMagic : Word := 0x54455258

/-- PL_FLAGS of a retained record (R484). -/
def RetRec.plFlags (r : RetRec) : Byte :=
  BitVec.ofNat 8 (b2n r.ploss + 2 * b2n r.vholdAtLoss + 4 * b2n r.essDone + 8 * b2n r.fullDone)

/-- Bytes 0-59 of a retained record (R484). -/
def RetRec.body (r : RetRec) : List Byte :=
  leBytes 4 r.magic.toNat ++ leBytes 4 r.seq.toNat ++ leBytes 4 r.restart.toNat ++ r.counters.toList.flatMap (fun c => leBytes 4 c.toNat) ++
    leBytes 2 r.fmt.toNat ++ [r.plFlags, BitVec.ofNat 8 r.plossCnt] ++ leBytes 2 r.commitMs ++ List.replicate 6 0

/-- The 64 bytes of a retained record (R484). -/
def RetRec.bytes (r : RetRec) : List Byte := r.body ++ leBytes 4 r.check.toNat

/-- "XRET" and the CRC-32 of a retained record hold (R484). -/
def RetRec.valid (r : RetRec) : Bool := r.magic == retMagic && r.check == crc32 r.body

/-- A retained record with its MAGIC and CRC-32. -/
def RetRec.sealed (r : RetRec) : RetRec :=
  let m : RetRec := { r with magic := retMagic }
  { m with check := crc32 m.body }

/-- The valid bank record with the later SEQ (R442); bank 0, STABLE, where neither is valid (R443). -/
def State.bankRec (s : State) : BankRec :=
  let a := s.nvm.rec0
  let b := s.nvm.rec1
  if a.valid && (!b.valid || decide (0 ≤ (a.seq - b.seq).toInt)) then a else if b.valid then b else .blank

/-- The image in a bank (R441). -/
def State.bankImg (s : State) (b : Bool) : Option Image := if b then s.nvm.bank1 else s.nvm.bank0

/-- The node's own part of the running image. -/
def State.part (s : State) : NodePart := (s.upd.img.bind (fun i => i.parts.get? s.node.toNat)).getD .empty

/-- The image's settings of a channel. -/
def State.chan (s : State) (k : Chan) : ChanCfg := s.part.chans[k]

/-- A channel that drives a load (R282). -/
def ChMode.isOut : ChMode → Bool
  | .output => true
  | .outputFb => true
  | _ => false

/-- A channel that carries a field input (R282). -/
def ChMode.isIn : ChMode → Bool
  | .input => true
  | .inputWb => true
  | .inputTested => true
  | _ => false

/-- Mode code (R282). -/
def ChMode.code : ChMode → Nat
  | .off => 0
  | .input => 1
  | .inputWb => 2
  | .inputTested => 3
  | .testSource => 4
  | .output => 5
  | .outputFb => 6

/-- Bank of a channel (R278). -/
def bankOf (k : Chan) : Bank := ⟨k.val / 16, by omega⟩

/-- A bank carries an output channel (R245). -/
def State.bankOut (s : State) (b : Bank) : Bool := (allFin 48).any (fun k => bankOf k == b && (s.chan k).mode.isOut)

/-- A bank has a channel that is not OFF (R280). -/
def State.bankUsed (s : State) (b : Bank) : Bool := (allFin 48).any (fun k => bankOf k == b && (s.chan k).mode != .off)

/-- TEST-SOURCE channels in ascending order: source s is entry s (R287). -/
def State.sources (s : State) : List Chan := (allFin 48).filter (fun k => (s.chan k).mode == .testSource)

/-! ### Lanes -/

def State.lane (s : State) (l : Lane) : LaneSt := s.lanes.get l

/-- The image that a lane runs: the trial image from the bank other than ACTIVE, or the module's (R458). -/
def State.laneImg (s : State) (l : Lane) : Option Image :=
  if (s.lane l).runsNew then s.bankImg (!s.bankRec.active) else s.upd.img

/-- The node's part of the image that a lane runs (R458). -/
def State.partOf (s : State) (l : Lane) : NodePart := ((s.laneImg l).bind (fun i => i.parts.get? s.node.toNat)).getD .empty

/-- The settings of a channel in the image that a lane runs (R458). -/
def State.chanOf (s : State) (l : Lane) (k : Chan) : ChanCfg := (s.partOf l).chans[k]

/-- A lane that runs ticks: in service, or failed and following the votes (R206). -/
def Svc.running : Svc → Bool
  | .inService => true
  | .out => true
  | .resync => true
  | _ => false

def State.running (s : State) : BitVec 3 := maskOf (fun l => (s.lane l).svc.running)

/-- The lane whose committed region stands for the module's: the lowest-lettered that voted and still runs, or that runs. -/
def State.lead (s : State) : Lane :=
  match lanesOf (s.ms.voting &&& s.running) with
  | l :: _ => l
  | [] =>
    match lanesOf s.running with
    | l :: _ => l
    | [] => .a

def State.leadK (s : State) : LaneK := (s.lane s.lead).region.k

/-! ### MOD -/

/-- MOD_ID (R539). -/
def State.modId (_ : State) : Word := fields32 [(16, 0x9620), (0, Config.dieRev.toNat)]

/-- MOD_MODE (R64). -/
def State.modMode (s : State) : Word :=
  fields32 [(16, s.aon.latchCause.toNat), (15, b2n (s.ms.joinIdWait || (s.ms.mode == .join && !s.pair.idOk))), (14, b2n s.ms.bootFail), (13, b2n s.ms.outHold),
    (12, b2n s.aon.latch), (8, s.ms.role.code.toNat), (4, s.ms.voting.toNat), (0, s.ms.mode.code.toNat)]

def State.modTperiod (s : State) : Word := s.ms.tUs.setWidth 32

/-- MOD_RRQ (R65). -/
def State.modRrq (s : State) : Word :=
  fields32 [(24, s.rrq.ignored), (16, s.rrq.accept), (8, s.rrq.short), (1, b2n s.leadK.resetArm.isSome),
    (0, b2n s.rrq.stuck)]

/-- MOD_BUDGET (R65). -/
def State.modBudget (s : State) (l : Lane) : Word :=
  let b := (s.lane l).budget
  fields32 [(25, b2n b.failedTick), (24, b2n b.belowPlan), (17, b.reserveMin), (0, b.t4Max)]

/-- MOD_LANE (R217). -/
def State.modLane (s : State) (l : Lane) : Word :=
  let x := s.lane l
  fields32 [(24, x.exitCnt), (16, x.resyncCnt), (8, x.lastCause.toNat), (0, x.svc.code.toNat)]

/-- Replicas excluded of a lane, bit k - 1 for CHk (R187). -/
def State.excluded (s : State) (l : Lane) : Nat :=
  bitsNat (s.leadK.ins.toList.map (fun i => i.excl.get l))

/-- MOD_RPLX_x0 and MOD_RPLX_x1 (R217). -/
def State.modRplx (s : State) (l : Lane) (hi : Bool) : Word :=
  if hi then BitVec.ofNat 32 (s.excluded l / 2 ^ 32) else BitVec.ofNat 32 (s.excluded l)

/-- MOD_DISSENT (R217). -/
def State.modDissent (s : State) : Word :=
  fields32 [(24, s.ms.dissentA), (16, s.ms.dissentB), (8, s.ms.dissentC), (0, s.ms.reread)]

/-- MOD_SPLIT (R217). -/
def State.modSplit (s : State) : Word :=
  fields32 [(16, s.ms.inputSplit), (8, s.ms.frameSplit), (0, s.ms.reqSplit)]

/-- MOD_RSTCAUSE (R488). -/
def State.modRstcause (s : State) : Word :=
  let a := s.aon
  fields32 [(24, a.laneSeen.toNat), (16, a.hostrCnt), (12, a.kind.toNat), (8, a.warmSrc.toNat), (7, b2n a.ploss),
    (6, b2n a.vholdAtLoss), (5, b2n a.essDone), (4, b2n a.fullDone)]

/-- Domains that are on: FBn only while both halves of its die are supplied (R12, R465). -/
def State.domOn (s : State) : BitVec 13 :=
  let vf : BitVec 13 := BitVec.ofNat 13 (bitsNat (s.pwr.vf.toList))
  s.pwr.dom &&& (0x03FF ||| (vf <<< 10))

/-- MOD_PWR (R488). -/
def State.modPwr (s : State) : Word := s.domOn.setWidth 32

def LpState.code : LpState → Nat
  | .l0 => 0
  | .l1 => 1
  | .l2 => 2
  | .l3 => 3

/-- MOD_LP (R488). -/
def State.modLp (s : State) (l : Lane) : Word :=
  let x := s.lane l
  fields32 [(16, x.sleepUs), (8, x.lpLast.code), (0, x.lateCnt)]

/-- MOD_MIRROR (R539). -/
def State.modMirror (s : State) : Word :=
  fields32 [(31, b2n s.host.valid), (30, b2n s.host.voted), (28, s.host.mlane.toNat), (0, s.host.gen.toNat)]

/-! ### AON (R488) -/

/-- The 64 bytes of a fault record (R275). -/
def FaultRec.bytes (f : FaultRec) : List Byte :=
  let b := [f.src, f.code, f.lane, f.mode] ++ leBytes 8 f.time.toNat ++ leBytes 4 f.tick.toNat ++
    wordsBytes f.detail.toList ++ List.replicate 12 0
  b ++ leBytes 4 (crc32 b).toNat

/-- The fault record in 64 stored bytes, if its CHECK holds (R275, R429); otherwise it is unreadable. -/
def faultRecOf (bs : List Byte) : Option FaultRec :=
  if bs.length == 64 && natAt bs 60 4 == (crc32 (bs.take 60)).toNat then
    let b (i : Nat) : Byte := BitVec.ofNat 8 (natAt bs i 1)
    some ⟨b 0, b 1, b 2, b 3, BitVec.ofNat 64 (natAt bs 4 8), BitVec.ofNat 32 (natAt bs 12 4),
      Vector.ofFn (fun i => BitVec.ofNat 32 (natAt bs (16 + 4 * i.val) 4))⟩
  else none

/-- AON_FREC_i: 0 where no fault record has been latched. -/
def State.aonFrec (s : State) (i : Nat) : Word :=
  match s.aon.faultRec with
  | some f => BitVec.ofNat 32 (natAt f.bytes (4 * i) 4)
  | none => 0

def State.aonPloss (s : State) : Word :=
  fields32 [(16, s.aon.commitMs), (8, s.aon.plossCnt), (1, b2n s.aon.latrecPend), (0, b2n s.aon.retrecPend)]

def State.aonVhold (s : State) : Word :=
  fields32 [(28, (maskOf (fun l => s.aon.vqual.get l)).toNat), (16, s.aon.disqCnt), (0, s.aon.vhold.toNat)]

/-! ### XCH, ARB, LCK, MBX (R418) -/

def State.xchWdeny (s : State) : Word :=
  fields32 [(16, s.sh.denyCnt), (12, s.sh.denyMaster.toNat), (0, s.sh.denyOfs.toNat)]

def State.arbCtl (s : State) : Word :=
  fields32 [(24, s.sh.expireCnt), (16, s.sh.mask.toNat), (0, s.sh.freeze.toNat)]

def State.arbStat (s : State) (r : Fin 6) : Word :=
  fields32 [(28, s.sh.grants[r].toNat), (16, s.sh.maxLost[r]), (0, s.sh.frozenCnt[r])]

def State.lckPeek (s : State) (i : Fin 64) : Word :=
  let k := s.sh.locks[i]
  fields32 [(31, b2n (k.owner != 0)), (30, b2n k.orphanPend), (0, k.owner.toNat)]

def State.lckOrphan (s : State) (hi : Bool) : Word :=
  if hi then s.sh.orphan.extractLsb' 32 32 else s.sh.orphan.extractLsb' 0 32

def State.lckOrphanId (s : State) : Word :=
  fields32 [(28, s.sh.lastOwner.toNat), (16, s.sh.lastLock.toNat), (0, s.sh.orphanCnt)]

def State.lckIgnored (s : State) : Word := fields32 [(16, s.sh.ignMaster.toNat), (0, s.sh.ignCnt)]

/-- A mailbox channel. -/
def State.mbx (s : State) (secure : Bool) (ch : Fin 8) : Mbx := if secure then s.mail.sec[ch] else s.mail.non[ch]

def Mbx.inStat (m : Mbx) : Word := fields32 [(31, b2n m.inAborted), (30, b2n m.inColl), (29, b2n m.inFull)]

def Mbx.outStat (m : Mbx) : Word := fields32 [(31, b2n m.outAborted), (29, b2n m.outFull), (16, m.queue.length)]

def Mbx.cnt (m : Mbx) : Word := fields32 [(24, m.authFail), (16, m.seqFail), (8, m.collCnt), (0, m.qdrop)]

/-- MBX_SESS of a secure channel; its session is open while the lanes hold one. -/
def State.mbxSess (s : State) (ch : Fin 8) : Word :=
  let m := s.mail.sec[ch]
  fields32 [(31, b2n s.leadK.sessions[ch].isSome), (16, m.closeCause.toNat), (0, m.sessCnt.toNat)]

/-- A register of a mailbox channel at an offset of its block. -/
def State.mbxReg (s : State) (secure : Bool) (ch : Fin 8) (ofs : Nat) : Word :=
  let m := s.mbx secure ch
  if 0x40 ≤ ofs ∧ ofs < 0x80 then vget m.outBuf ((ofs - 0x40) / 4) 0
  else if ofs = 0x80 then m.inStat
  else if ofs = 0x84 then m.outStat
  else if ofs = 0x88 then m.h2m
  else if ofs = 0x8C then m.m2h
  else if ofs = 0x90 then m.mask
  else if ofs = 0x94 then m.cnt
  else if !secure then 0
  else if ofs = 0x98 then s.mbxSess ch
  else if ofs = 0x9C then m.inSeq
  else if ofs = 0xA0 then m.outSeq
  else 0

/-! ### CRC (R432) -/

/-- CRC_CFG. `busy`: writes of the channel wait. -/
def Crc.cfg (c : Crc) (busy : Bool) : Word := fields32 [(31, b2n busy), (16, c.feedErr), (8, b2n c.seedEn), (0, c.sel.toNat)]

/-- The result over the bytes fed since START (R427). -/
def Crc.result (c : Crc) : Nat := crcOut c.runSel c.reg.toNat

/-- A register of a check-value channel; a result of 32 or 16 bits has no upper half (R427). -/
def Crc.reg32 (c : Crc) (busy : Bool) (ofs : Nat) : Word :=
  if ofs = 0x00 then c.cfg busy
  else if ofs = 0x04 then c.seed.extractLsb' 0 32
  else if ofs = 0x08 then c.seed.extractLsb' 32 32
  else if ofs = 0x10 then BitVec.ofNat 32 c.result
  else if ofs = 0x14 then (if c.runSel = 3 then c.resHi else 0)
  else if ofs = 0x18 then BitVec.ofNat 32 c.cnt
  else 0

def State.crcAuto (s : State) : Word := fields32 [(29, s.crc.katFail.toNat), (0, s.crc.linkFail)]

def State.crcDeny (s : State) : Word := fields32 [(16, s.crc.denyMaster.toNat), (0, s.crc.denyCnt)]

/-! ### VOT (R277) -/

def State.lockedMask (s : State) : Nat := bitsNat (s.fld.regs.toList.map (fun r => r.locked))

def State.votStat (s : State) : Word :=
  fields32 [(31, b2n s.vot.majProofOk), (30, b2n (s.vot.phaseRun == 1024)), (24, s.vot.lantLanes.toNat),
    (16, (s.fld.regs.toList.filter (fun r => r.locked)).length), (8, s.vot.vfltCh), (0, s.vot.vfltKind.toNat)]

def State.votCodestat (s : State) : Word :=
  fields32 [(24, s.vot.dissentA), (16, s.vot.dissentB), (8, s.vot.dissentC), (0, s.vot.codeRej)]

def State.votPulse (s : State) : Word :=
  fields32 [(16, s.vot.pulseCnt), (8, s.vot.overdueCnt), (0, s.vot.noResult)]

/-- VOT_CHSTAT_k; 0 for a channel that is no output. -/
def State.votChstat (s : State) (k : Chan) : Word :=
  if (s.chan k).mode.isOut then
    let r := s.fld.regs[k]
    fields32 [(28, r.cause.toNat), (16, r.lockCnt), (14, r.h.toNat), (12, r.l.toNat),
      (11, b2n r.gdH), (10, b2n r.gdL), (9, b2n r.cmdOn), (8, b2n r.forced), (7, b2n r.locked),
      (6, b2n r.pulseFail)]
  else 0

/-! ### FIO (R300) -/

def State.fioBank (s : State) (b : Bank) : Word :=
  let r := s.fld.banks[b]
  fields32 [(25, b2n r.ovl), (24, b2n r.supplyFlt), (16, r.iBank.toNat), (10, r.vfClass.toNat), (0, r.vf.toNat)]

/-- FIO_CHCFG_k as the end of BOOT loads it from the image (R300). -/
def State.chcfgWord (s : State) (k : Chan) : Word :=
  let c := s.chan k
  fields32 [(24, if c.mode == .testSource then s.sources.idxOf k else 0),
    (22, b2n (c.mode == .outputFb && c.fbFollow)),
    (16, if c.mode == .outputFb || c.mode == .inputTested then c.link.elim 0 (fun j => j.val + 1) else 0),
    (8, c.filt.toNat), (4, b2n (c.mode == .input && c.type3)), (0, c.mode.code)]

def State.fioChcfg (s : State) (k : Chan) : Word := s.fld.cfg[k]

def State.fioChstat (s : State) (k : Chan) : Word :=
  let r := s.fld.regs[k]
  fields32 [(16, r.faultCnt), (10, b2n r.fbMis), (9, b2n r.openLoad), (8, b2n r.tripped), (6, r.cur.toNat),
    (3, r.fkind.toNat), (2, b2n r.split), (1, b2n r.fault), (0, b2n r.value)]

/-! ### DGN (R243) -/

/-- Lane registers read 0 while the lane is in LANE reset or its power domain is off. -/
def State.dgnReads (s : State) (l : Lane) : Bool :=
  (s.lane l).svc != .reset && (s.lane l).svc != .disabled && s.pwr.dom.getLsbD (4 + l.idx)

def LaneCheck.cmpstat (c : LaneCheck) : Word :=
  fields32 [(31, b2n c.injLock), (30, b2n c.injMode), (24, c.fltSrc.toNat), (23, b2n c.gateClosed), (8, c.discard),
    (0, b2n c.aliveOk)]

def LaneCheck.cmpfirst (c : LaneCheck) : Word :=
  match c.first with
  | some d => fields32 [(31, 1), (30, b2n d.pair), (26, d.group.toNat), (16, d.bit.toNat), (0, d.cycle.toNat)]
  | none => 0

def LaneCheck.injres (c : LaneCheck) : Word := fields32 [(16, c.injDone.toNat), (0, c.injMiss.toNat)]

def LaneCheck.ecc (c : LaneCheck) : Word := fields32 [(16, c.ceCnt), (8, c.scrubPos), (0, c.passCnt)]

def LaneCheck.eccaddr (c : LaneCheck) : Word :=
  fields32 [(28, c.eccMem.toNat), (27, b2n c.eccUe), (0, c.eccAddr.toNat)]

def Wdog.word (w : Wdog) : Word :=
  fields32 [(24, w.resetCnt), (16, w.lcbCnt), (3, b2n w.timeout), (2, b2n w.armed), (0, w.fails)]

def LaneCheck.xcstat (c : LaneCheck) : Word :=
  fields32 [(31, b2n c.xcDone), (30, b2n c.xcMismatch), (0, c.xcWords)]

def LaneCheck.xcmiss (c : LaneCheck) : Word := fields32 [(28, c.xcPart.toNat), (0, c.xcWord.toNat)]

/-- The ring is full. -/
def Log.full (g : Log) : Bool := (g.head + 1) % 2 ^ g.log2 == g.tail

/-- A lane's DGN register at its offset. -/
def State.dgnReg (s : State) (l : Lane) (ofs : Nat) : Word :=
  let x := s.lane l
  if !s.dgnReads l then 0
  else if ofs = 0x00 then x.check.cmpstat
  else if ofs = 0x04 then x.check.cmpfirst
  else if ofs = 0x08 then x.check.injres
  else if ofs = 0x0C then x.check.ecc
  else if ofs = 0x10 then x.check.eccaddr
  else if ofs = 0x14 then x.wdog.word
  else if ofs = 0x18 then x.check.xcstat
  else if ofs = 0x1C then x.check.xcmiss
  else if ofs = 0x20 then x.check.xcTick
  else 0

/-! ### LOG (R528) -/

def Log.stat (g : Log) : Word :=
  let n := g.recs.length
  fields32 [(31, b2n (n == 32768)), (30, b2n (decide (16384 ≤ n))), (29, b2n (decide (8192 ≤ n))),
    (28, b2n g.fullEdge), (0, n)]

/-- A LOG register at its offset. -/
def Log.reg32 (g : Log) (ofs : Nat) : Word :=
  if ofs = 0x000 then g.stat
  else if ofs = 0x004 then BitVec.ofNat 32 g.occA
  else if ofs = 0x008 then BitVec.ofNat 32 g.occE
  else if ofs = 0x00C then BitVec.ofNat 32 g.occT
  else if ofs = 0x010 then BitVec.ofNat 32 g.tdrop
  else if ofs = 0x014 then fields32 [(16, g.lostA), (0, g.lostE)]
  else if ofs = 0x018 then fields32 [(16, g.gapCnt), (0, g.gapNode.toNat)]
  else if ofs = 0x01C then g.expSeq
  else if ofs = 0x100 then fields32 [(8, b2n g.filter), (0, g.rate)]
  else if ofs = 0x110 then g.ringAddr.extractLsb' 0 32
  else if ofs = 0x114 then g.ringAddr.extractLsb' 32 32
  else if ofs = 0x118 then BitVec.ofNat 32 g.log2
  else if ofs = 0x11C then fields32 [(1, b2n g.irqEn), (0, b2n g.en)]
  else if ofs = 0x120 then BitVec.ofNat 32 g.head
  else if ofs = 0x124 then BitVec.ofNat 32 g.tail
  else 0

end Sys2Proof.Machine
end

