-- ==== Sys2Proof/Machine/Ops.lean ====
section
/-!
DEFINITION. The shared operations of the module: interrupt vectors and doorbells (R412, R535), the log's placement of
records (R515-R519), mode, lockout latch and fault record (R42, R45, R275, R482), a lane leaving service and its LANE reset
(R204, R206, R226, R405, R428), and the retained record (R484).
-/

namespace Sys2Proof.Machine

/-! ### Parts of the state -/

def State.setLane (s : State) (l : Lane) (x : LaneSt) : State := { s with lanes := s.lanes.set l x }

def State.modLaneSt (s : State) (l : Lane) (f : LaneSt → LaneSt) : State := s.setLane l (f (s.lane l))

/-- `f` on the lane-check registers of a lane. -/
def State.modCheck (s : State) (l : Lane) (f : LaneCheck → LaneCheck) : State :=
  s.modLaneSt l (fun x => { x with check := f x.check })

/-- `f` on the part K of a lane's committed region. -/
def State.modK (s : State) (l : Lane) (f : LaneK → LaneK) : State :=
  s.modLaneSt l (fun x => { x with region := { x.region with k := f x.region.k } })

/-- `f` on the part K of every lane's committed region. -/
def State.modAllK (s : State) (f : LaneK → LaneK) : State := lanesList.foldl (fun s l => s.modK l f) s

def State.modMbx (s : State) (secure : Bool) (ch : Fin 8) (f : Mbx → Mbx) : State :=
  if secure then { s with mail := { s.mail with sec := vmod s.mail.sec ch f } }
  else { s with mail := { s.mail with non := vmod s.mail.non ch f } }

/-- Area time in ns; it counts on through every reset but POR (R274). -/
def State.nowNs (s : State) : Nat := s.aon.timeNs.toNat

/-- The time counter goes on by `us` microseconds. -/
def State.passUs (s : State) (us : Nat) : State :=
  { s with aon := { s.aon with timeNs := s.aon.timeNs + BitVec.ofNat 64 (us * 1000) } }

/-- Ticks in `us` microseconds, rounded up. -/
def State.ticksUs (s : State) (us : Nat) : Nat :=
  if s.ms.tUs.toNat = 0 then 0 else (us + s.ms.tUs.toNat - 1) / s.ms.tUs.toNat

/-! ### Interrupt vectors and doorbells (R412, R535) -/

/-- A vector is raised: at once while its table entry is unmasked, and pending otherwise. -/
def State.raiseVec (s : State) (v : Nat) : State :=
  if s.host.msixMask.getLsbD v then { s with host := { s.host with pendingVec := s.host.pendingVec ||| (1#32 <<< v) } }
  else { s with host := { s.host with raised := s.host.raised ++ [v] } }

/-- Vector of a channel (R412). -/
def bellVec (secure : Bool) (ch : Fin 8) : Nat := if secure then ch.val else 8 + ch.val

/-- A doorbell bit toward the host sets; its vector is raised where the bit becomes set and unmasked at once (R412). -/
def State.bell (s : State) (secure : Bool) (ch : Fin 8) (bit : Nat) : State :=
  let m := s.mbx secure ch
  let s1 := s.modMbx secure ch (fun m => { m with m2h := m.m2h ||| (1#32 <<< bit) })
  if !m.m2h.getLsbD bit && !m.mask.getLsbD bit then s1.raiseVec (bellVec secure ch) else s1

/-- A doorbell bit that concerns no one channel, on every channel. -/
def State.bellAll (s : State) (bit : Nat) : State :=
  let s1 := (allFin 8).foldl (fun s ch => s.bell true ch bit) s
  (allFin 8).foldl (fun s ch => s.bell false ch bit) s1

/-! ### The log (R515-R519) -/

/-- Two records have one key (R516). -/
def sameKey (a b : Record) : Bool :=
  a.cls == b.cls && a.srcNode == b.srcNode && a.code == b.code && a.objKind == b.objKind && a.obj == b.obj

/-- The log without its record number `i`; the restored records stand in front. -/
def Log.cut (g : Log) (i : Nat) : Log :=
  { g with recs := g.recs.eraseIdx i, restored := if i < g.restored then g.restored - 1 else g.restored }

/-- The log without the first record that meets `f`. -/
def Log.cutFirst (g : Log) (f : Record → Bool) : Option Log := (g.recs.findIdx? f).map g.cut

/-- `f` on the first record that meets `p`. -/
def modFirst (p : Record → Bool) (f : Record → Record) (l : List Record) : List Record :=
  match l with
  | [] => []
  | a :: r => if p a then f a :: r else a :: modFirst p f r

/-- Room for one record (R519): a TRACE record is evicted from a full log, the oldest LAST before the oldest ORIGINAL. -/
def Log.room (g : Log) : Option Log :=
  if g.recs.length < 32768 then some g
  else
    let evicted (form : RecForm) : Option Log := (g.cutFirst (fun r => r.cls == .trace && r.form == form)).map
      (fun h => { h with tdrop := satInc 0xFFFFFFFF h.tdrop })
    match evicted .last with
    | some h => some h
    | none => evicted .original

/-- Occurrences of a class stored or merged (LOG_OCC, R528). -/
def Log.occ (g : Log) (c : RecClass) (n : Nat) : Log :=
  match c with
  | .alarm => { g with occA := satAdd 0xFFFFFFFF g.occA n }
  | .event => { g with occE := satAdd 0xFFFFFFFF g.occE n }
  | .trace => { g with occT := satAdd 0xFFFFFFFF g.occT n }

/-- A record takes a new place in a form, or is lost and counted by class (R519). The second answer: it was stored. -/
def Log.store (g : Log) (r : Record) (form : RecForm) : Log × Bool :=
  match g.room with
  | some h => ({ h with recs := h.recs ++ [{ r with form := form }] }.occ r.cls r.count, true)
  | none =>
    if r.cls == .alarm then
      ({ g with lostA := satInc 65535 g.lostA, newLostA := satInc 0xFFFFFFFF g.newLostA }, false)
    else ({ g with lostE := satInc 65535 g.lostE, newLostE := satInc 0xFFFFFFFF g.newLostE }, false)

/-- An occurrence merges into the SUMMARY of its key (R518, R524). -/
def Log.merge (g : Log) (r : Record) : Log :=
  let join (x : Record) : Record :=
    { x with count := satAdd 0xFFFFFFFF x.count r.count, tickLast := r.tickLast, detail := r.detail, lseq := r.lseq }
  { g with recs := modFirst (fun x => sameKey x r && x.form != RecForm.original) join g.recs }.occ r.cls r.count

/-- The LAST of a TRACE key is replaced (R518). -/
def Log.replaceLast (g : Log) (r : Record) : Log :=
  let h := (g.cutFirst (fun x => sameKey x r && x.form == .last)).getD g
  { h with recs := h.recs ++ [{ r with form := .last }], tdrop := satInc 0xFFFFFFFF h.tdrop }.occ r.cls r.count

def Log.drop (g : Log) : Log := { g with tdrop := satInc 0xFFFFFFFF g.tdrop }

/-- Placement of an arriving record (R518). The second answer: it was stored. -/
def Log.place (g : Log) (r : Record) : Log × Bool :=
  let fill := g.recs.length
  let opened := g.recs.any (fun x => sameKey x r)
  let tail := g.recs.any (fun x => sameKey x r && x.form != .original)
  let summed : Log × Bool :=
    if !opened then g.store r .original else if tail then (g.merge r, false) else g.store r .summary
  match r.cls with
  | .alarm => summed
  | .event => if fill < 16384 then g.store r .original else summed
  | .trace =>
    if fill < 8192 then g.store r .original
    else if tail then (g.replaceLast r, true)
    else if fill < 16384 then g.store r (if opened then .last else .original)
    else (g.drop, false)

/-- A record is written to the log; doorbell bit 4 announces a stored ALARM (R515). -/
def State.logStore (s : State) (r : Record) : State :=
  let p := s.log.place r
  let s1 := { s with log := p.1 }
  if p.2 && r.cls == .alarm then s1.bellAll 4 else s1

/-- A record is raised: in the phases of a tick it waits for P5, which follows the sealing of P4 (R515, R523). -/
def State.logPut (s : State) (r : Record) : State :=
  match s.log.late with
  | some l => { s with log := { s.log with late := some (l ++ [r]) } }
  | none => s.logStore r

/-- A tick begins: records wait for its P5 (R515). -/
def State.holdLog (s : State) : State := { s with log := { s.log with late := some [] } }

/-- One lane's copy of a record suffices: in LOCKOUT, and while one lane alone runs (R515). -/
def State.single (s : State) : Bool := s.aon.latch || decide (countMask s.running < 2)

/-- P5 stores the records of the tick (R515). -/
def State.flushLog (s : State) : State :=
  match s.log.late with
  | some l =>
    (l.map (fun r => { r with single := s.single })).foldl State.logStore { s with log := { s.log with late := none } }
  | none => s

/-- A record of this module in the present tick (R512). -/
def State.record (s : State) (cls : RecClass) (code : Byte) (kind : ObjKind) (obj : Nat) (lane : BitVec 2)
    (detail : List Byte) : Record where
  cls := cls
  form := .original
  lane := lane
  single := s.single
  code := code
  srcNode := s.node
  objKind := kind.code
  obj := BitVec.ofNat 16 obj
  tick := s.ms.tick
  tickLast := s.ms.tick
  count := 1
  detail := padTo 8 detail
  lseq := 0

def State.raise (s : State) (cls : RecClass) (code : Byte) (kind : ObjKind) (obj : Nat) (detail : List Byte) : State :=
  s.logPut (s.record cls code kind obj 0 detail)

/-- An ALARM whose object is a lane's die (R513). -/
def State.alarmLane (s : State) (code : Byte) (l : Lane) (detail : List Byte) : State :=
  s.logPut (s.record .alarm code .die l.num (BitVec.ofNat 2 l.num) detail)

/-- An ALARM whose object is the node. -/
def State.alarmNode (s : State) (code : Byte) (detail : List Byte) : State :=
  s.raise .alarm code .node s.node.toNat detail

/-- An ALARM whose object is a channel, its number the first value. -/
def State.alarmChan (s : State) (code : Byte) (k : Chan) (detail : List Byte) : State :=
  s.raise .alarm code .channel (k.val + 1) (BitVec.ofNat 8 (k.val + 1) :: detail)

/-! ### Retained and latch records (R482, R484) -/

/-- A record is appended to the current sector; a full one gives way to the other, erased beforehand. -/
def Sectors.append {α : Type} (t : Sectors α) (r : α) : Sectors α :=
  if t.inSecond then
    if t.second.length < 1024 then { t with second := r :: t.second } else { t with first := [r], inSecond := false }
  else if t.first.length < 1024 then { t with first := r :: t.first } else { t with second := [r], inSecond := true }

/-- The last record written. -/
def Sectors.newest {α : Type} (t : Sectors α) : Option α := if t.inSecond then t.second.head? else t.first.head?

/-- An append of the latch record as the latch stands (R482); it waits while NVM1 takes none. -/
def State.appendLatch (s : State) : State :=
  if !s.nvm.ready then { s with aon := { s.aon with latrecPend := true } }
  else
  let n : Word := (s.nvm.latchLog.newest.map (fun r => r.seq + 1)).getD 0
  let r : LatchRec := ⟨0, n, if s.aon.latch then 0x5A else 0x00, s.aon.latchCause, s.aon.latchTick, 0⟩
  { s with aon := { s.aon with latrecPend := false }, nvm := { s.nvm with latchLog := s.nvm.latchLog.append r.sealed } }

/-- A retained record is appended; during a migration, in both formats (R462, R484). -/
def Nvm.putRet (v : Nvm) (r : RetRec) : Nvm :=
  { v with
    retLog := v.retLog.append { r with fmt := v.fmt.counters }.sealed
    conv := v.conv.map (fun c => { c with counters := c.counters.map (fun t => t.append { r with fmt := c.fmt }.sealed) }) }

/-- An append of the retained record as AON stands (R484). -/
def State.appendRet (s : State) : State :=
  let n : Word := (s.nvm.retLog.newest.map (fun r => r.seq + 1)).getD 0
  let a := s.aon
  let r : RetRec :=
    { magic := retMagic, seq := n, restart := a.restart, counters := a.counters, fmt := s.nvm.fmt.counters
      ploss := a.ploss, vholdAtLoss := a.vholdAtLoss, essDone := a.essDone, fullDone := a.fullDone
      plossCnt := a.plossCnt, commitMs := a.commitMs, check := 0 }
  { s with nvm := s.nvm.putRet r }

/-- An append in service: PL_FLAGS and COMMIT_MS are 0 (R484). It waits while NVM1 takes none (R473, R487). -/
def State.appendRetService (s : State) : State :=
  if !s.nvm.ready then { s with aon := { s.aon with retrecPend := true } }
  else
  let n : Word := (s.nvm.retLog.newest.map (fun r => r.seq + 1)).getD 0
  let a := s.aon
  let r : RetRec :=
    { magic := retMagic, seq := n, restart := a.restart, counters := a.counters, fmt := s.nvm.fmt.counters
      ploss := false, vholdAtLoss := false, essDone := false, fullDone := false
      plossCnt := a.plossCnt, commitMs := 0, check := 0 }
  { s with aon := { s.aon with retrecPend := false }, nvm := s.nvm.putRet r }

/-- Appends that wait are made once NVM1 takes them (R482, R484); ALARM 0xF8 announces the first that fails (R473, R487). -/
def State.flushAppends (s : State) : State :=
  let s1 := if s.aon.latrecPend then s.appendLatch else s
  let s2 := if s1.aon.retrecPend then s1.appendRetService else s1
  let waits := s2.aon.latrecPend || s2.aon.retrecPend
  let s3 : State := { s2 with nvm := { s2.nvm with appendFailed := waits } }
  if waits && !s2.nvm.appendFailed then s3.alarmNode 0xF8 [] else s3

/-! ### Bank record and trials (R442, R458-R461) -/

/-- The copy 0 of the bank record counts (R442). -/
def State.recIs0 (s : State) : Bool :=
  s.nvm.rec0.valid && (!s.nvm.rec1.valid || decide (0 ≤ (s.nvm.rec0.seq - s.nvm.rec1.seq).toInt))

/-- A change of the bank record writes the other copy with SEQ + 1 (R442). -/
def State.putBankRec (s : State) (f : BankRec → BankRec) : State :=
  let cur := s.bankRec
  let n : BankRec := { f cur with seq := cur.seq + 1 }.sealed
  if s.recIs0 then { s with nvm := { s.nvm with rec1 := n } } else { s with nvm := { s.nvm with rec0 := n } }

def State.setBank (s : State) (b : Bool) (i : Option Image) : State :=
  if b then { s with nvm := { s.nvm with bank1 := i } } else { s with nvm := { s.nvm with bank0 := i } }

/-- The bank of the trial image: the one other than ACTIVE (R442). -/
def State.trialBank (s : State) : Bool := !s.bankRec.active

/-- Digest of the image in a bank; 0 for none. -/
def State.bankDigest (s : State) (b : Bool) : BitVec 384 := ((s.bankImg b).map (fun i => i.hdr.digest)).getD 0

/-- The lanes that run a trial image, in the order in which they took it (R458). -/
def State.lanesNew (s : State) : List Lane := [Lane.c, .b, .a].filter (fun l => (s.lane l).runsNew)

/-- A trial of either kind has ended without confirmation (R459, R461): FAILED_DIGEST takes the trial image's digest, STATE
becomes STABLE, and the converted stores are given up (R462). -/
def State.endTrial (s : State) (cause : BitVec 4) : State :=
  let s1 := s.putBankRec (fun r => { r with failed := s.bankDigest s.trialBank, state := .stable })
  let s2 := s1.alarmNode 0xF3 [cause.setWidth 8]
  { s2 with
    upd := { s2.upd with trialCause := cause, apply := .none, accepted := none, confirm := 0, fallback := [] }
    nvm := { s2.nvm with conv := none } }

/-- A rolling trial fails (R459): the lanes that run the trial image are withdrawn in turn; STATE becomes STABLE once every lane
runs the old image. -/
def State.trialFailed (s : State) : State :=
  if s.bankRec.state != .rollingTrial || s.upd.apply == .fallback then s
  else if s.lanesNew.isEmpty then s.endTrial 1
  else
    let s1 := s.putBankRec (fun r => { r with failed := s.bankDigest s.trialBank })
    let s2 : State := { s1 with upd := { s1.upd with
      apply := .fallback, fallback := s1.lanesNew, trialCause := 1, confirm := 0, accepted := none } }
    s2.alarmNode 0xF3 [1]

/-- The lane that a rolling update withdrew takes its LANE reset (R458): with it, the trial image, unless the trial has failed. -/
def State.takeTrial (s : State) (l : Lane) : State :=
  if !s.upd.taken.any (fun t => t.1 == l) then s
  else
    let s1 : State := { s with upd := { s.upd with taken := none } }
    if s.upd.apply == .rolling then
      ({ s1 with upd := { s1.upd with confirm := 0 } } : State).modLaneSt l (fun x => { x with runsNew := true, trialCnt := 0 })
    else s1

/-- A lane that falls back takes the image of the bank ACTIVE when it is reset (R459). -/
def State.restartOld (s : State) (l : Lane) : State :=
  if s.upd.apply != .fallback || !(s.lane l).runsNew then s
  else
    let s1 := s.modLaneSt l (fun x => { x with runsNew := false, trialCnt := 0 })
    let rest := s1.upd.fallback.filter (fun m => m != l)
    let s2 : State := { s1 with upd := { s1.upd with fallback := rest } }
    if rest.isEmpty then
      let s3 := s2.putBankRec (fun r => { r with state := .stable })
      { s3 with upd := { s3.upd with apply := .none } }
    else s2

/-! ### Fault record, mode and lockout (R42, R45, R275) -/

/-- A fault record is latched into AON retention (R275). -/
def State.latchFault (s : State) (src code lane : Byte) (detail : List Word) : State :=
  let r : FaultRec :=
    { src := src, code := code, lane := lane, mode := s.ms.mode.code.setWidth 8, time := s.aon.timeNs
      tick := s.ms.tick, detail := Vector.ofFn (fun i => (detail[i.val]?).getD 0) }
  { s with aon := { s.aon with faultRec := some r } }

/-- A change of mode: EVENT 0x01 and doorbell bit 2 (R412, R514); the RUN-2 limit counts from an entry into RUN-2 (R48). Records are raised by the voting lanes of a tick, so that no
EVENT is raised before the first tick (R515). -/
def State.setMode (s : State) (m : Mode) : State :=
  if s.ms.mode == m then s
  else
    let old := s.ms.mode
    let s1 : State := { s with ms := { s.ms with
      mode := m, run2Since := if m == .run2 then some s.nowNs else none } }
    let s2 : State := if s.log.late.isSome || old == .run || old == .run2 || old == .lockout then
        s1.raise .event 0x01 .node s1.node.toNat [old.code.setWidth 8, m.code.setWidth 8, s1.ms.voting.setWidth 8]
      else s1
    s2.bellAll 2

/-- The hub sets the lockout latch with its cause (R45): fault record, latch record, doorbell bit 3, and from RUN or RUN-2 mode
LOCKOUT. In BOOT and PROVE the mode waits for their end, in JOIN for the first tick (R43). From here no lane drives a waveform
(R47, R248). -/
def State.setLatch (s : State) (cause : Byte) : State :=
  if s.aon.latch then s
  else
    let s1 : State := { s with aon := { s.aon with latch := true, latchCause := cause, latchTick := s.ms.tick } }
    let s2 := ((s1.latchFault 0x03 cause 0 [s1.modMode]).appendLatch).bellAll 3
    let s3 := if s2.bankRec.state == .fullTrial && s2.upd.img.isSome && s.ms.mode != .boot then s2.endTrial 3 else s2
    if s.ms.mode == .run || s.ms.mode == .run2 then s3.setMode .lockout else s3

/-- A module-level fault that two lanes, or one lane while fewer than two vote, bring to the hub (R45). -/
def State.moduleFault (s : State) (cause : Byte) (asking : BitVec 3) : State :=
  if 2 ≤ countMask asking || (1 ≤ countMask asking && countMask s.ms.voting < 2) then s.setLatch cause else s

/-- The mode of a tick from the count of lanes that vote in agreement (R42), where the module has left JOIN. -/
def State.modeByVote (s : State) (cause : Byte) : State :=
  if s.aon.latch then s.setMode .lockout
  else
    let n := countMask s.ms.voting
    if n = 3 then s.setMode .run
    else if n = 2 then s.setMode .run2
    else (s.setLatch cause).setMode .lockout

/-! ### Accesses through an arbiter (R396-R401) -/

/-- The host's windows answer nothing in D3hot (R532, R533). -/
def State.hostBlind (s : State) (m : Master) : Bool := m.isHost && s.pwr.d3hot

def State.answer (s : State) (ws : List Word) : State := { s with host := { s.host with rdata := ws } }

/-- An access of `m` to a resource in one round. One that a freeze holds off waits until the freeze ends (R401). One that loses the round keeps
its request, and meets the next round with the next command for it. -/
def State.onPort (s : State) (res : Fin 6) (m : Master) (rivals : List Master) (a : HubAccess) (f : State → State) : State :=
  let g := s.sh.round res m rivals
  let s1 : State := { s with sh := g.1 }
  if g.2 then f s1
  else if s.sh.heldOff res m then { s1 with sh := { s1.sh with waiting := s1.sh.waiting ++ [⟨res, m, a⟩] } }
  else s1

/-- The master of a mailbox window (R391). -/
def windowMaster (secure : Bool) : Master := if secure then .hostSecure else .hostNonsecure

/-! ### Locks of a reset master (R405) -/

/-- Every lock of master `m` is freed and marked as an orphan. -/
def Shared.orphanLocks (h : Shared) (m : BitVec 4) : Shared :=
  (allFin 64).foldl (fun h i =>
    if h.locks[i].owner == m && m != 0 then
      { h with
        locks := vmod h.locks i (fun _ => ⟨0, true⟩)
        orphan := h.orphan ||| (1#64 <<< i.val)
        lastOwner := m
        lastLock := BitVec.ofNat 6 i.val
        orphanCnt := satInc 255 h.orphanCnt }
    else h) h

/-- A master whose reset asserts withdraws its requests at the arbiters (R399), those that wait among them. `lost` is keyed by 16 × resource + master. -/
def Shared.withdraw (h : Shared) (m : BitVec 4) : Shared :=
  { h with lost := h.lost.filter (fun p => p.1 % 16 != m.toNat), waiting := h.waiting.filter (fun w => w.m.id != m) }

def State.orphanLocks (s : State) (m : BitVec 4) : State := { s with sh := (s.sh.orphanLocks m).withdraw m }

/-- Replicas of a bank that is switched on at an instant of area time (R285). -/
def freshReps (now : Nat) : PerLane (Vector Replica 48) := .all (.replicate 48 { Replica.reset with since := now })

/-! ### Lanes leaving service (R204-R206, R217) -/

/-- The watchdog is disarmed and its count starts over (R240). -/
def Wdog.disarm (w : Wdog) : Wdog := { w with armed := false, fails := 0 }

/-- Armed with a failure count of 0 (R240). -/
def Wdog.arm (w : Wdog) : Wdog := { w with armed := true, fails := 0 }

/-- The interfaces of a lane are reset, hold no token and drive no test source (R247). -/
def State.resetIfaces (s : State) (l : Lane) : State :=
  { s with fld := { s.fld with
      ifaces := s.fld.ifaces.set l (.replicate 3 .reset), srcWave := s.fld.srcWave.set l (.replicate 48 false) } }

/-- A lane is taken out of service until the next POR, PIN or WARM reset (R205); its P and E domains go off (R465), which
stops its waveforms. -/
def State.disableLane (s : State) (l : Lane) : State :=
  let s1 := s.modLaneSt l (fun x => { x with svc := .disabled, copyReq := false, held := [], regionOk := false,
                                             wdog := x.wdog.disarm })
  let s2 : State := { s1.resetIfaces l with
    pwr := { s1.pwr with dom := s1.pwr.dom &&& ~~~((1#13 <<< (4 + l.idx)) ||| (1#13 <<< (7 + l.idx))) } }
  s2.restartOld l

/-- Times, in ns, of the last 3,600 s of area time, with the present one. -/
def recent (now : Nat) (l : List Nat) : List Nat := now :: l.filter (fun t => decide (now < t + 3600000000000))

/-- A lane in service leaves it with a cause (R206): EXIT_CNT, LAST_CAUSE, ALARM 0xB0, and, but for a withdrawal, its copy request,
which locks injection mode (R229) and finds its watchdog armed (R240). What its gate holds is not released (R17). The third exit with cause 0x2, 0x6 or 0x7 within
3,600 s disables it with ALARM 0xB4 (R204). -/
def State.exitLane (s : State) (l : Lane) (cause : BitVec 4) : State :=
  let x := s.lane l
  if x.svc != .inService then s
  else
    let bad := cause == 2 || cause == 6 || cause == 7
    let times := if bad then recent s.nowNs x.badExits else x.badExits
    let s1 := s.setLane l { x with
      svc := if cause == 0xA then .withdrawn else .out
      lastCause := cause
      exitCnt := satInc 255 x.exitCnt
      badExits := times
      regionOk := false
      voted := false
      copyReq := cause != 0xA
      held := []
      check := if cause == 0xA then x.check else { x.check with injLock := true }
      wdog := if cause == 0xA then x.wdog.disarm else { x.wdog with armed := true } }
    let s0 := s1.alarmLane 0xB0 l [cause.setWidth 8]
    let s2 := if bad || (cause == 1 && x.runsNew) then s0.trialFailed else s0
    if bad && decide (3 ≤ times.length) then (s2.disableLane l).alarmLane 0xB4 l [] else s2

/-- What a lane has sealed in the present tick leaves the transmit buffer (R17). -/
def State.unseal (s : State) (l : Lane) : State :=
  { s with buf := { s.buf with tx := s.buf.tx.map (fun t =>
      if t.tick == s.ms.tick then { t with copies := t.copies.set l none } else t) } }

/-- A lane fails the present tick after the vote (R32): its gate releases nothing more of it and its sealed copies do not go out
(R17); if it voted it leaves the count, and the mode follows R42. -/
def State.failLane (s : State) (l : Lane) (cause : BitVec 4) : State :=
  let voted := l.inMask s.ms.voting
  let s1 := ((s.modLaneSt l (fun x => { x with failedTick := true, held := [] })).unseal l).exitLane l cause
  if voted then
    let s2 : State := { s1 with ms := { s1.ms with voting := s1.ms.voting &&& ~~~(maskOf (fun m => m == l)) } }
    if s2.ms.mode == .run || s2.ms.mode == .run2 then s2.modeByVote 0x01 else s2
  else s1

/-- The check-value channels of a lane as after START with SEL 0b00 (R428). -/
def State.resetLaneCrc (s : State) (l : Lane) : State :=
  { s with crc := { s.crc with chans := vmapIdx s.crc.chans (fun i c => if i.val / 4 = l.idx then .reset else c) } }

/-- LANE reset of a lane (R219, R238, R240, R243, R405, R428, R470, R538): everything of its P and E domains but the
watchdog and DGN_WDOG, its interfaces and its check-value channels; its locks are freed. A disabled lane stays disabled. -/
def State.laneReset (s : State) (l : Lane) : State :=
  let x := s.lane l
  let y : LaneSt := { x with
    svc := if x.svc == .disabled then .disabled else .reset
    check := .reset
    held := []
    region := { Carried.reset with k := Carried.reset.k }
    regionOk := false
    voted := false
    copyReq := false
    wdog := x.wdog.disarm
    lp := .l0
    msgs := []
    ceWin := 0
    scrubPrev := []
    sram := []
    cas := []
    pairs := .replicate 2 .reset
    cycle := 0
    exSeq := .replicate 6 0
    katDue := true }
  let s1 := ((s.setLane l y).resetIfaces l).resetLaneCrc l
  let s2 := s1.orphanLocks (BitVec.ofNat 4 l.num)
  let s3 : State := { s2 with
    aon := { s2.aon with laneSeen := s2.aon.laneSeen ||| maskOf (fun m => m == l) }
    mail := { s2.mail with outWait := s2.mail.outWait.map (fun p => (p.1, p.2.1, p.2.2.set l none)) } }
  -- an outstanding mirror read completes with all ones until the next edge (R538)
  let s4 : State := if s3.host.mlane.toNat == l.num && s3.host.valid then
      { s3 with host := { s3.host with valid := false, aborted := true, gen := s3.host.gen + 1 } }
    else s3
  -- a withdrawn lane's reset ends the dissent steps of its rolling proof (R495)
  let s5 : State := if s4.prf.rpLane.toNat == l.num && s4.prf.phase == .dissent then
      { s4 with prf := { s4.prf with phase := .tests } }
    else s4
  (s5.restartOld l).takeTrial l

/-- Detail words of a lane-check fault record (R275). -/
def State.lcbDetail (s : State) (l : Lane) : List Word :=
  let c := (s.lane l).check
  [c.cmpstat, c.cmpfirst, c.eccaddr, c.xcstat]

/-- A failed start-up proof of a lane (R50, R490): ALARM 0xC8 with the lane and the test's order number, then one LANE reset and one
repeat; a second failure takes the lane out of service. -/
def State.proofFailed (s : State) (l : Lane) (test : Nat) : State :=
  let s0 := s.alarmLane 0xC8 l [BitVec.ofNat 8 l.num, BitVec.ofNat 8 test]
  let s1 := if (s.lane l).runsNew then s0.trialFailed else s0
  if (s1.lane l).proofFails = 0 then
    (s1.modLaneSt l (fun x => { x with proofFails := 1 })).laneReset l
  else s1.disableLane l

end Sys2Proof.Machine
end

