-- ==== Sys2Proof/Machine/Lockstep.lean ====
section
/-!
DEFINITION. Delayed lockstep in a lane (R218-R233): the core pairs and their delay registers, comparators X and Y with their
alternating two-rail codes, the checker tree, the difference injection of the start-up proof and the alive check, and the
reads of ECC-protected memory (R234, R235).
-/

namespace Sys2Proof.Machine

/-! ### Groups (R220) and parity (R221) -/

/-- Widths of the groups G0 to G8 (R220). -/
def groupWidths : List Nat := [64, 64, 14, 48, 128, 16, 12, 2, 1]

/-- Group and bit within it of a bit of the 349, G0 first. -/
def groupBit (widths : List Nat) (g bit : Nat) : Nat × Nat :=
  match widths with
  | [] => (g, bit)
  | w :: r => if bit < w then (g, bit) else groupBit r (g + 1) (bit - w)

/-- The bits of a vector, lowest first. -/
def bitList {w : Nat} (v : BitVec w) : List Bool := (List.range w).map (fun i => v.getLsbD i)

/-- How many bits are 1. -/
def ones {w : Nat} (v : BitVec w) : Nat := if v = 0 then 0 else (bitList v).countP (fun b => b)

/-- One parity bit for each of `n` 32-bit groups, the last of them a part group. -/
def parityOf (n : Nat) {w : Nat} (v : BitVec w) : BitVec n :=
  BitVec.ofNat n (bitsNat ((List.range n).map (fun g => ones ((v >>> (32 * g)).setWidth 32) % 2 == 1)))

/-- An entry of the output delay register: groups G0 to G6 and the leading core's stamp, with its parity. -/
def OutEntry.of (groups : BitVec 346) (stamp : BitVec 2) : OutEntry :=
  let v : BitVec 348 := (stamp ++ groups).setWidth 348
  ⟨v, parityOf 11 v⟩

/-- An entry of the input delay register: read data, read response, interrupts and the stamp, with its parity. -/
def InEntry.of (input : BitVec 148) (stamp : BitVec 2) : InEntry :=
  let v : BitVec 150 := (stamp ++ input).setWidth 150
  ⟨v, parityOf 5 v⟩

/-- A two-entry delay register takes an entry. -/
def shiftDelay {α : Type} (d : Vector α 2) (x : α) (f : Option DelayFault) : Vector α 2 :=
  match f with
  | none => #v[d[1], x]
  | some .freeze => d
  | some .skip => #v[x, x]

/-! ### Comparators and two-rail codes (R222) -/

/-- What a two-rail code says. -/
inductive Rail where
  | equal | different | invalid
deriving DecidableEq, Repr

/-- The two-rail code of "equal" or "different" in an even or an odd cycle. -/
def railCode (odd diff : Bool) : BitVec 2 := if diff == odd then 1 else 2

def railRead (odd : Bool) (code : BitVec 2) : Rail :=
  if code = railCode odd true then .different else if code = railCode odd false then .equal else .invalid

/-- What a comparator reports of a difference: a stuck one its code, a blind one only what it sees. -/
def Comparator.report (c : Comparator) (odd : Bool) (diff : BitVec 349) : Rail :=
  railRead odd (c.stuck.getD (railCode odd (diff &&& ~~~c.blind != 0)))

/-! ### One cycle of a pair (R218-R221, R224) -/

/-- A write port of the register file as G0 to G2 show it: G2 has the two 6-bit addresses in bits 11:0 and the enables in
bits 13:12, port 0 lowest (DESIGN CHOICE, log 102: R220 gives the group no layout). -/
def regWrite (regs : AMap DWord) (groups : BitVec 346) (port : Nat) : AMap DWord :=
  if groups.getLsbD (128 + 12 + port) then
    regs.set (groups.extractLsb' (128 + 6 * port) 6).toNat (groups.extractLsb' (64 * port) 64)
  else regs

def regWrites (regs : AMap DWord) (groups : BitVec 346) : AMap DWord := regWrite (regWrite regs groups 0) groups 1

/-- What a pair's comparators and parity checks show in one cycle. -/
structure PairFlags where
  x : Rail
  y : Rail
  diff : BitVec 349
  parity : Bool
  stamp : Bool
deriving DecidableEq, Repr

def PairFlags.quiet : PairFlags := ⟨.equal, .equal, 0, false, false⟩

/-- The comparison of one cycle (R220-R222): the delayed groups and stamp of the leading core with those of the trailing core, and their
alive bits; the parity of what leaves the delay registers, and both stamps against the trailing core's counter. The
trailing core presents nothing until its release, 2 cycles after the leading core's (R219). -/
def CorePair.flags (p : CorePair) (odd : Bool) (c : PairCycle) (x y : Comparator) (dead : BitVec 16) : PairFlags :=
  if p.age < 2 then .quiet
  else
    let out := (p.outDelay[0]).val ^^^ c.outFlip
    let inp := (p.inDelay[0]).val ^^^ c.inFlip
    let own : BitVec 348 := (p.trailCnt ++ c.trail).setWidth 348
    let diff : BitVec 349 := BitVec.ofBool (c.alive.getLsbD 0 != c.alive.getLsbD 1) ++ (out ^^^ own)
    let bad : BitVec 16 := ((parityOf 5 inp ^^^ (p.inDelay[0]).par) ++ (parityOf 11 out ^^^ (p.outDelay[0]).par)).setWidth 16
    { x := Comparator.report x odd diff
      y := Comparator.report y odd diff
      diff := diff &&& ~~~(x.blind &&& y.blind)
      parity := bad &&& ~~~dead != 0
      stamp := out.extractLsb' 346 2 != p.trailCnt || inp.extractLsb' 148 2 != p.trailCnt }

/-- A cycle passes (R219-R221): both cores write their register files, the delay registers take the leading core's outputs and
inputs, and the cycle counters count. -/
def CorePair.pass (p : CorePair) (c : PairCycle) : CorePair :=
  let ran := decide (2 ≤ p.age)
  { leadRegs := regWrites p.leadRegs c.lead
    trailRegs := if ran then regWrites p.trailRegs c.trail else p.trailRegs
    leadCnt := if c.leadStuck then p.leadCnt else p.leadCnt + 1
    trailCnt := if !ran || c.trailStuck then p.trailCnt else p.trailCnt + 1
    outDelay := shiftDelay p.outDelay (.of c.lead p.leadCnt) c.outReg
    inDelay := shiftDelay p.inDelay (.of c.input p.leadCnt) c.inReg
    age := min 2 (p.age + 1) }

/-! ### The checker tree and the fault (R222-R224) -/

/-- Sources that one pair raises (R223); `both` is its own code for a difference that X and Y both report. -/
def PairFlags.sources (f : PairFlags) (both : BitVec 4) : List (BitVec 4) :=
  (if f.stamp then [6] else []) ++ (if f.parity then [5] else []) ++
  (if f.x == .invalid || f.y == .invalid then [4] else if f.x != f.y then [3] else if f.x == .different then [both] else [])

/-- A node of the tree stuck at a code that is not the one of its inputs gives an invalid two-rail code (R228). -/
def nodeWrong (node : Option (BitVec 2)) (odd raised : Bool) : Bool :=
  match node with
  | some c => c != railCode odd raised
  | none => false

/-- The order in which one source is taken of several in one cycle: stamp, parity, code, X against Y, pair 0, pair 1 (DESIGN CHOICE,
log 103: R223 gives none). -/
def sourceOrder : List (BitVec 4) := [6, 5, 4, 3, 1, 2]

/-- One cycle of a lane: the flags of its pairs. -/
def Checker.flags (hw : Checker) (pairs : Vector CorePair 2) (odd : Bool) (c : LaneCycle) : PairFlags × PairFlags :=
  (pairs[0].flags odd c.pair0 hw.x0 hw.y0 hw.dead0, pairs[1].flags odd c.pair1 hw.x1 hw.y1 hw.dead1)

/-- The source that the tree reports for a cycle, if any. -/
def Checker.source (hw : Checker) (odd : Bool) (f : PairFlags × PairFlags) : Option (BitVec 4) :=
  let raised := f.1.sources 1 ++ f.2.sources 2
  let all := if nodeWrong hw.node odd (!raised.isEmpty) then 4 :: raised else raised
  sourceOrder.find? (fun s => all.contains s)

/-- The first difference of a cycle (R243): the lowest bit, pair 0 before pair 1. -/
def firstDiff (cycle : BitVec 16) (f : PairFlags × PairFlags) : Option CmpDiff :=
  let one (pair : Bool) (d : BitVec 349) : Option CmpDiff :=
    ((bitList d).findIdx? (fun b => b)).map (fun i =>
      let g := groupBit groupWidths 0 i
      ⟨pair, BitVec.ofNat 4 g.1, BitVec.ofNat 8 g.2, cycle⟩)
  (one false f.1.diff).or (one true f.2.diff)

/-- Cycles of a lane until one raises a source (R222-R224). The answer: the lane after them, the source, the first difference. -/
def LaneSt.runCycles (x : LaneSt) (hw : Checker) (cs : List LaneCycle) : LaneSt × Option (BitVec 4 × Option CmpDiff) :=
  match cs with
  | [] => (x, none)
  | c :: r =>
    let odd := x.cycle.getLsbD 0
    let f := Checker.flags hw x.pairs odd c
    let y : LaneSt := { x with pairs := #v[x.pairs[0].pass c.pair0, x.pairs[1].pass c.pair1], cycle := x.cycle + 1 }
    match Checker.source hw odd f with
    | some s => (y, some (s, firstDiff x.cycle f))
    | none => y.runCycles hw r

/-! ### Difference injection (R229-R231) -/

/-- Bits at which a comparator's report is not the expected one in an injection that hits it or not (R230). -/
def Comparator.wrong (c : Comparator) (odd hit : Bool) : BitVec 349 :=
  match c.stuck with
  | some code => if railRead odd code == (if hit then .different else .equal) then 0 else BitVec.allOnes 349
  | none => if hit then c.blind else 0

/-- An injection into one comparator, or into both of its pair. -/
inductive InjSide where
  | x | y | both
deriving DecidableEq, Repr

/-- Bits at which an injection into a pair has a wrong outcome (R230): another comparator than the injected flags or the injected does
not, the tree gives another code, or the gate does not close. `pair` is the pair injected; an injection with bit value 1 runs in an
odd cycle (DESIGN CHOICE, log 104: R230 names no cycle). -/
def Checker.missed (hw : Checker) (pair : Bool) (side : InjSide) (odd : Bool) : BitVec 349 :=
  let hitX := side != .y
  let hitY := side != .x
  if nodeWrong hw.node odd true || hw.gateOpen then BitVec.allOnes 349
  else
    Comparator.wrong hw.x0 odd (hitX && !pair) ||| Comparator.wrong hw.y0 odd (hitY && !pair) |||
    Comparator.wrong hw.x1 odd (hitX && pair) ||| Comparator.wrong hw.y1 odd (hitY && pair)

/-- Parity groups of a pair whose flip gives no 0x5 (R230). -/
def Checker.missedParity (hw : Checker) (pair : Bool) : BitVec 16 :=
  if nodeWrong hw.node false true || hw.gateOpen then BitVec.allOnes 16 else if pair then hw.dead1 else hw.dead0

/-- INJ_DONE of a whole sequence (R230, R231): per pair 349 bits, two values, X, Y and both, and 16 parity groups. -/
def injTotal : Nat := 2 * (349 * 2 * 3 + 16)

/-- INJ_MISS of a sequence (R230). -/
def Checker.misses (hw : Checker) : Nat :=
  let pairs := [false, true]
  (pairs.flatMap (fun p => [InjSide.x, .y, .both].flatMap (fun k => [false, true].map (fun v => ones (Checker.missed hw p k v))))).sum +
  (pairs.map (fun p => ones (Checker.missedParity hw p))).sum

/-- The alive check (R233): each of the four injections of G8, in an even cycle, has its expected outcome and the gate closes. -/
def Checker.aliveOk (hw : Checker) : Bool :=
  [(false, InjSide.x), (false, .y), (true, .x), (true, .y)].all (fun t => !(Checker.missed hw t.1 t.2 false).getLsbD 348)

/-! ### ECC (R234, R235) -/

/-- MEM of DGN_ECCADDR (R243). -/
def LaneMem.code : LaneMem → BitVec 4
  | .processor => 1
  | .ruleTable => 2
  | .stateSram => 3

/-- What SECDED with the folded address makes of a read (R234, R235): a word of another address or two wrong bits are
uncorrectable, one wrong bit is corrected. Of three and more the manual states nothing (log 105). -/
inductive EccOutcome where
  | clean | corrected | uncorrectable
deriving DecidableEq, Repr

def EccRead.outcome (r : EccRead) : EccOutcome :=
  if r.came != r.addr then .uncorrectable
  else
    match ones r.wrong with
    | 0 => .clean
    | 1 => .corrected
    | 2 => .uncorrectable
    | _ => if Config.eccBeyond r then .uncorrectable else .corrected

/-- DGN_ECCADDR after an error (R235, R243). -/
def LaneCheck.eccAt (c : LaneCheck) (r : EccRead) (ue : Bool) : LaneCheck :=
  { c with eccMem := LaneMem.code r.mem, eccAddr := r.addr, eccUe := ue }

end Sys2Proof.Machine
end

