-- ==== Sys2Proof/Machine/Sha.lean ====
section
/-!
DEFINITION. SHA-256, HMAC-SHA-256 and SHA-384, which the manual names for session keys, message authenticators, image digests and
key hashes (R413, R414, R436, R438, R454) and takes from the public standards (PRESUMED, assumption 4).
-/

namespace Sys2Proof.Machine

/-! ### One construction for both word widths -/

/-- What the algorithms of the family set differently: rounds, the rotations of the two sums of a round, rotations and shift of the
two sums of the message schedule, round constants. -/
structure HashAlg (w : Nat) where
  rounds : Nat
  sumLo : List Nat
  sumHi : List Nat
  early : List Nat × Nat
  late : List Nat × Nat
  const : Nat → BitVec w

/-- A word's rotations to the right, combined. -/
def rotations {w : Nat} (by_ : List Nat) (x : BitVec w) : BitVec w := (by_.map x.rotateRight).foldl (· ^^^ ·) 0

/-- Rotations and a shift to the right, combined. -/
def mixed {w : Nat} (m : List Nat × Nat) (x : BitVec w) : BitVec w := rotations m.1 x ^^^ (x >>> m.2)

/-- Half of the chaining value or of the working variables: four words. -/
structure Quad (w : Nat) where
  w0 : BitVec w
  w1 : BitVec w
  w2 : BitVec w
  w3 : BitVec w
deriving DecidableEq, Repr

def Quad.add {w : Nat} (p q : Quad w) : Quad w := ⟨p.w0 + q.w0, p.w1 + q.w1, p.w2 + q.w2, p.w3 + q.w3⟩

/-- A quad enters a new first word and loses its last. -/
def Quad.push {w : Nat} (p : Quad w) (x : BitVec w) : Quad w := ⟨x, p.w0, p.w1, p.w2⟩

/-- The bit of two words that a third selects. -/
def select {w : Nat} (c x y : BitVec w) : BitVec w := y ^^^ (c &&& (x ^^^ y))

/-- The bit that at least two of three words have. -/
def agreeing {w : Nat} (x y z : BitVec w) : BitVec w := (x &&& y) ||| (z &&& (x ||| y))

/-- One round on both halves with the sum of its constant and its message word. -/
def hashRound {w : Nat} (a : HashAlg w) (lo hi : Quad w) (kw : BitVec w) : Quad w × Quad w :=
  let fresh := kw + hi.w3 + rotations a.sumHi hi.w0 + select hi.w0 hi.w1 hi.w2
  (lo.push (fresh + rotations a.sumLo lo.w0 + agreeing lo.w0 lo.w1 lo.w2), hi.push (fresh + lo.w3))

/-- Rounds from number `i` on: `win` holds the next 16 message words; each round appends the word 16 places on. -/
def hashRounds {w : Nat} (a : HashAlg w) (n i : Nat) (win : List (BitVec w)) (lo hi : Quad w) : Quad w × Quad w :=
  match n with
  | 0 => (lo, hi)
  | k + 1 =>
    let at_ (j : Nat) : BitVec w := win.getD j 0
    let r := hashRound a lo hi (a.const i + at_ 0)
    hashRounds a k (i + 1) (win.drop 1 ++ [at_ 0 + mixed a.early (at_ 1) + at_ 9 + mixed a.late (at_ 14)]) r.1 r.2

/-- The number of bytes, most significant first. -/
def beNat (bs : List Byte) : Nat := bs.foldl (fun acc b => acc * 256 + b.toNat) 0

/-- `n` bytes of a number, most significant first. -/
def beBytes (n v : Nat) : List Byte := (leBytes n v).reverse

/-- The chaining value over `n` blocks of 16 words of `wb` bytes. -/
def hashBlocks {w : Nat} (a : HashAlg w) (wb n : Nat) (bs : List Byte) (lo hi : Quad w) : Quad w × Quad w :=
  match n with
  | 0 => (lo, hi)
  | k + 1 =>
    let words := (List.range 16).map (fun i => BitVec.ofNat w (beNat (bytesAt bs (wb * i) wb)))
    let r := hashRounds a a.rounds 0 words lo hi
    hashBlocks a wb k (bs.drop (16 * wb)) (lo.add r.1) (hi.add r.2)

/-- A message with its padding to blocks of 16 words of `wb` bytes, the last two of which hold its length in bits. -/
def hashPad (wb : Nat) (bs : List Byte) : List Byte :=
  bs ++ [0x80] ++ List.replicate ((32 * wb - 2 * wb - 1 - bs.length % (16 * wb)) % (16 * wb)) 0 ++ beBytes (2 * wb) (bs.length * 8)

/-- The halves of the last chaining value from the first one. -/
def hashOf {w : Nat} (a : HashAlg w) (wb : Nat) (lo hi : Quad w) (bs : List Byte) : Quad w × Quad w :=
  let p := hashPad wb bs
  hashBlocks a wb (p.length / (16 * wb)) p lo hi

def Quad.bytes {w : Nat} (q : Quad w) (wb : Nat) : List Byte :=
  beBytes wb q.w0.toNat ++ beBytes wb q.w1.toNat ++ beBytes wb q.w2.toNat ++ beBytes wb q.w3.toNat

/-! ### SHA-256 -/

/-- The round constants eight to a number, the first in the most significant bits. -/
def roundRow : Nat → Nat
  | 0 => 0x428a2f9871374491b5c0fbcfe9b5dba53956c25b59f111f1923f82a4ab1c5ed5
  | 1 => 0xd807aa9812835b01243185be550c7dc372be5d7480deb1fe9bdc06a7c19bf174
  | 2 => 0xe49b69c1efbe47860fc19dc6240ca1cc2de92c6f4a7484aa5cb0a9dc76f988da
  | 3 => 0x983e5152a831c66db00327c8bf597fc7c6e00bf3d5a7914706ca635114292967
  | 4 => 0x27b70a852e1b21384d2c6dfc53380d13650a7354766a0abb81c2c92e92722c85
  | 5 => 0xa2bfe8a1a81a664bc24b8b70c76c51a3d192e819d6990624f40e3585106aa070
  | 6 => 0x19a4c1161e376c082748774c34b0bcb5391c0cb34ed8aa4a5b9cca4f682e6ff3
  | _ => 0x748f82ee78a5636f84c878148cc7020890befffaa4506cebbef9a3f7c67178f2

/-- SHA-256's parameters. -/
def alg256 : HashAlg 32 where
  rounds := 64
  sumLo := [2, 13, 22]
  sumHi := [6, 11, 25]
  early := ([7, 18], 3)
  late := ([17, 19], 10)
  const i := BitVec.ofNat 32 (roundRow (i / 8) >>> (32 * (7 - i % 8)))

/-- SHA-256. -/
def sha256 (bs : List Byte) : List Byte :=
  let r := hashOf alg256 4 ⟨0x6a09e667, 0xbb67ae85, 0x3c6ef372, 0xa54ff53a⟩ ⟨0x510e527f, 0x9b05688c, 0x1f83d9ab, 0x5be0cd19⟩ bs
  r.1.bytes 4 ++ r.2.bytes 4

/-- HMAC-SHA-256 with a key of at most 64 bytes. -/
def hmac256 (key msg : List Byte) : List Byte :=
  let k := padTo 64 key
  sha256 (k.map (fun b => b ^^^ 0x5c) ++ sha256 (k.map (fun b => b ^^^ 0x36) ++ msg))

/-! ### SHA-384 -/

/-- The primes up to 409: the first 80. -/
def smallPrimes : List Nat := (List.range 410).filter (fun n => decide (2 ≤ n) && (List.range n).all (fun d => d < 2 || n % d != 0))

/-- The greatest number below 2 ^ `bits` above `acc` whose cube is at most `n`. -/
def cubeRoot (bits n acc : Nat) : Nat :=
  match bits with
  | 0 => acc
  | k + 1 =>
    let next := acc + 2 ^ k
    cubeRoot k n (if next * next * next ≤ n then next else acc)

/-- SHA-384's parameters: its constants are the first 64 bits of the fractions of the cube roots of the first 80 primes. -/
def alg384 : HashAlg 64 where
  rounds := 80
  sumLo := [28, 34, 39]
  sumHi := [14, 18, 41]
  early := ([1, 8], 7)
  late := ([19, 61], 6)
  const i := BitVec.ofNat 64 (cubeRoot 68 (smallPrimes.getD i 0 * 2 ^ 192) 0)

/-- The first 64 bits of the fraction of the square root of the prime number `i`, counted from 0. -/
def rootFrac (i : Nat) : BitVec 64 := BitVec.ofNat 64 (Nat.sqrt (smallPrimes.getD i 0 * 2 ^ 128))

/-- SHA-384, as the number of its 48 bytes, the first the least significant (R436, IMG_DIG). -/
def sha384 (bs : List Byte) : BitVec 384 :=
  let r := hashOf alg384 8 ⟨rootFrac 8, rootFrac 9, rootFrac 10, rootFrac 11⟩ ⟨rootFrac 12, rootFrac 13, rootFrac 14, rootFrac 15⟩ bs
  BitVec.ofNat 384 (leNat ((r.1.bytes 8 ++ r.2.bytes 8).take 48))

end Sys2Proof.Machine
end

