-- ==== Sys2Proof/Machine/Wrap.lean ====
section
/-!
DEFINITION. AES-256 key wrap (KW), which the manual names for the key slots (R437) and takes from FIPS 197 and NIST SP 800-38F
(PRESUMED, assumption 4). Bytes are numbers below 256; a block is its 16 bytes in order.
-/

namespace Sys2Proof.Machine

/-! ### AES-256 (FIPS 197) -/

/-- A byte times x, in the field of AES. -/
def aesTimesX (a : Nat) : Nat := if a < 128 then 2 * a else (2 * a) ^^^ 0x11B

/-- The substitution of byte v at bits 8v on: 64 bytes in each number, the first the least significant. -/
def aesBox : List Nat := [
  0x75b227ebe28012079a059618c323c7041531d871f1e5a534ccf73f362693fdb7c072a49cafa2d4adf04759fa7dc982ca76abd7fe2b670130c56f6bf27b777c63,
  0xd2f3ff1021dab6bcf5389d928f40a351a89f3c507f02f94585334d43fbaaefd0cf584c4a39becb6a5bb1fc20ed00d153842fe329b3d63b52a05a6e1b1a2c8309,
  0x08ae7a65eaf4566ca94ed58d6d37c8e779e4959162acd3c25c2406490a3a32e0db0b5ede14b8ee4688902a22dc4f816073195d643d7ea7c41744975fec130ccd,
  0x16bb54b00f2d99416842e6bf0d89a18cdf2855cee9871e9b948ed9691198f8e19e1dc186b95735610ef6034866b53e708a8bbd4b1f74dde8c6b4a61c2e2578ba]

/-- What byte v is the substitution of, laid out likewise. -/
def aesUnbox : List Nat := [
  0x25d18b6d49a25b76b224d92866a12e084ec3fa420b954cee3d23c2a632947b54cbe9dec444438e3487ff2f9b8239e37cfbd7f3819ea340bf38a53630d56a0952,
  0x6b8a130103bdafc1020f3fca8f1e2cd00645b3b80558e4f70ad3bc8c00abd890849d8da75746155edab9edfd5048706c92b6655dcc5ca4d41698688664f6f872,
  0xf45acd78fec0db9a2079d2c64b3e56fc1bbe18aa0e62b76f89c5291d711af1476edf751ce837f9e28535ade72274ac9673e6b4f0cecff297eadc674f4111913a,
  0x7d0c2155631469e126d677ba7e042b17619953833cbbebc8b0f52aae4d3be0a0ef9cc9939f7ae52d0d4ab519a97f51605fec8027591012b131c7078833a8dd1f]

/-- Byte `v` of such a table. -/
def boxAt (t : List Nat) (v : Nat) : Nat := (t.getD (v / 64) 0) >>> (8 * (v % 64)) % 256

/-- A word: one column of a block. -/
structure AesWord where
  b0 : Nat
  b1 : Nat
  b2 : Nat
  b3 : Nat
deriving DecidableEq, Repr

def AesWord.map (f : Nat → Nat) (w : AesWord) : AesWord := ⟨f w.b0, f w.b1, f w.b2, f w.b3⟩

def AesWord.xor (v w : AesWord) : AesWord := ⟨v.b0 ^^^ w.b0, v.b1 ^^^ w.b1, v.b2 ^^^ w.b2, v.b3 ^^^ w.b3⟩

/-- A block of 16 bytes: four columns. -/
structure AesBlock where
  c0 : AesWord
  c1 : AesWord
  c2 : AesWord
  c3 : AesWord
deriving DecidableEq, Repr

def AesBlock.map (f : AesWord → AesWord) (x : AesBlock) : AesBlock := ⟨f x.c0, f x.c1, f x.c2, f x.c3⟩

def AesBlock.xor (x y : AesBlock) : AesBlock := ⟨x.c0.xor y.c0, x.c1.xor y.c1, x.c2.xor y.c2, x.c3.xor y.c3⟩

/-- The next `n` words of the key schedule from the last eight, oldest first; `i` counts words. -/
def aesExpand (i rcon : Nat) (win : List AesWord) : Nat → List AesWord
  | 0 => []
  | n + 1 =>
    let last := win.getLastD ⟨0, 0, 0, 0⟩
    let t : AesWord :=
      if i % 8 = 0 then ((⟨last.b1, last.b2, last.b3, last.b0⟩ : AesWord).map (boxAt aesBox)).xor ⟨rcon, 0, 0, 0⟩
      else if i % 8 = 4 then last.map (boxAt aesBox)
      else last
    let w := (win.headD ⟨0, 0, 0, 0⟩).xor t
    w :: aesExpand (i + 1) (if i % 8 = 0 then aesTimesX rcon else rcon) (win.drop 1 ++ [w]) n

/-- Words of bytes, and blocks of words, in order. -/
def aesWords : List Nat → List AesWord
  | a :: b :: c :: d :: rest => ⟨a, b, c, d⟩ :: aesWords rest
  | _ => []

def aesBlocks : List AesWord → List AesBlock
  | a :: b :: c :: d :: rest => ⟨a, b, c, d⟩ :: aesBlocks rest
  | _ => []

def AesBlock.bytes (x : AesBlock) : List Nat := [x.c0, x.c1, x.c2, x.c3].flatMap (fun w => [w.b0, w.b1, w.b2, w.b3])

/-- The 15 round keys of a key of 32 bytes, the last first. -/
def aesRoundKeys (key : List Nat) : List AesBlock :=
  let w := aesWords key
  (aesBlocks (w ++ aesExpand 8 1 w 52)).reverse

/-- The rows of a block turned back, and every byte replaced by what it is the substitution of. -/
def AesBlock.unshift (x : AesBlock) : AesBlock :=
  (⟨⟨x.c0.b0, x.c3.b1, x.c2.b2, x.c1.b3⟩, ⟨x.c1.b0, x.c0.b1, x.c3.b2, x.c2.b3⟩, ⟨x.c2.b0, x.c1.b1, x.c0.b2, x.c3.b3⟩,
    ⟨x.c3.b0, x.c2.b1, x.c1.b2, x.c0.b3⟩⟩ : AesBlock).map (fun w => w.map (boxAt aesUnbox))

/-- A column mixed: a byte becomes 2a + 3b + c + d of itself and the next three. -/
def AesWord.mix (w : AesWord) : AesWord :=
  let all := w.b0 ^^^ w.b1 ^^^ w.b2 ^^^ w.b3
  let out (a b : Nat) : Nat := a ^^^ all ^^^ aesTimesX (a ^^^ b)
  ⟨out w.b0 w.b1, out w.b1 w.b2, out w.b2 w.b3, out w.b3 w.b0⟩

/-- The mixing of a column undone: its polynomial is the mixing's times 4x² + 5. -/
def AesWord.unmix (w : AesWord) : AesWord :=
  let u := aesTimesX (aesTimesX (w.b0 ^^^ w.b2))
  let v := aesTimesX (aesTimesX (w.b1 ^^^ w.b3))
  (w.xor ⟨u, v, u, v⟩).mix

/-- Rounds of deciphering with these keys; the last has no mixing. -/
def aesRounds (x : AesBlock) : List AesBlock → AesBlock
  | [] => x
  | [k] => x.unshift.xor k
  | k :: rest => aesRounds ((x.unshift.xor k).map AesWord.unmix) rest

/-- A block deciphered with the round keys, the last first. -/
def aesDecipher (keys : List AesBlock) (x : AesBlock) : AesBlock :=
  match keys with
  | [] => x
  | k :: rest => aesRounds (x.xor k) rest

/-! ### Key wrap (SP 800-38F, KW) -/

/-- The bytes of a key as the manual's registers and fields order them, the least significant first (R2). -/
def keyBytes (n v : Nat) : List Nat := (List.range n).map (fun i => v / 256 ^ i % 256)

/-- The number that such bytes spell. -/
def keyValue (bs : List Nat) : Nat := bs.foldr (fun b v => b + 256 * v) 0

/-- Half a block. -/
abbrev Semiblock := AesWord × AesWord

/-- One step backwards of the unwrapping: step t, the register A, the semiblocks with the last of them at the head. -/
def unwrapStep (keys : List AesBlock) (t : Nat) (st : Semiblock × List Semiblock) : Semiblock × List Semiblock :=
  match st.2 with
  | [] => st
  | r :: rs =>
    let b := aesDecipher keys ⟨st.1.1, st.1.2.xor ⟨0, 0, 0, t⟩, r.1, r.2⟩
    ((b.c0, b.c1), rs ++ [(b.c2, b.c3)])

/-- The channel key of 32 bytes in a wrapped key of 40, if the check of the unwrapping holds (R437): 24 steps, each number below
256. -/
def unwrapKey (kek : BitVec 256) (wrapped : BitVec 320) : Option (BitVec 256) :=
  match aesWords (keyBytes 40 wrapped.toNat) with
  | [a, a', r1, r1', r2, r2', r3, r3', r4, r4'] =>
    let keys := aesRoundKeys (keyBytes 32 kek.toNat)
    let out := ((List.range 24).map (fun i => 24 - i)).foldl (fun st t => unwrapStep keys t st)
      ((a, a'), [(r4, r4'), (r3, r3'), (r2, r2'), (r1, r1')])
    let check : AesWord := ⟨0xA6, 0xA6, 0xA6, 0xA6⟩
    match out with
    | (c, [k4, k3, k2, k1]) =>
      if c = (check, check) then
        some (BitVec.ofNat 256 (keyValue ((⟨k1.1, k1.2, k2.1, k2.2⟩ : AesBlock).bytes ++ (⟨k3.1, k3.2, k4.1, k4.2⟩ : AesBlock).bytes)))
      else none
    | _ => none
  | _ => none

end Sys2Proof.Machine
end

