-- ==== Sys2Proof/Machine/Mbx.lean ====
section
/-!
DEFINITION. Mailbox channels (R406-R412), message authentication and sessions (R413-R417), and the rows of the table that
act on them.
-/

namespace Sys2Proof.Machine

/-! ### Tags and keys (R413-R415) -/

/-- TAG of a message on a secure channel: 16 bytes of HMAC-SHA-256 over direction, channel and message bytes 0-47 (R413). -/
def tagOf (key : BitVec 256) (dir : Byte) (ch : Fin 8) (body : List Byte) : List Byte :=
  (hmac256 (leBytes 32 key.toNat) (dir :: BitVec.ofNat 8 ch.val :: padTo 48 body)).take 16

/-- The channel key: the image's key slot, unwrapped under the key-encryption key in the fuses (R415, R437). -/
def State.chanKey (s : State) (ch : Fin 8) : Option (BitVec 256) :=
  s.fuses.kek.bind (fun kek => (s.part.keys.find? (fun p => p.1 == ch)).bind (fun p => unwrapKey kek p.2))

/-- MNONCE of an OPENED (R414): `cnt` is the session count with the session being opened. -/
def mnonceOf (key : BitVec 256) (restart : Word) (tick : Tick) (cnt : BitVec 16) (ch : Fin 8) : List Byte :=
  (hmac256 (leBytes 32 key.toNat) (leBytes 4 restart.toNat ++ leBytes 4 tick.toNat ++ leBytes 2 cnt.toNat ++
    [BitVec.ofNat 8 ch.val])).take 12

/-- Session key (R414). -/
def sessionKey (key : BitVec 256) (ch : Fin 8) (hnonce : BitVec 128) (mnonce : List Byte) : BitVec 256 :=
  BitVec.ofNat 256 (leNat (hmac256 (leBytes 32 key.toNat)
    ([0x58, 0x53, 0x4B, BitVec.ofNat 8 ch.val] ++ leBytes 16 hnonce.toNat ++ mnonce)))

/-! ### A lane's check of a message (R182, R407, R415, R416) -/

inductive MsgCheck where
  | acc | auth | seq | coll
deriving DecidableEq, Repr

/-- What one lane finds of its copy of a message. -/
def msgCheck (k : LaneK) (key : Option (BitVec 256)) (m : ReadMsg) : MsgCheck :=
  if m.collided then .coll
  else if !m.secure then .acc
  else
    let seq : Word := BitVec.ofNat 32 (natAt m.bytes 0 4)
    let body := m.bytes.take 48
    let tag := bytesAt m.bytes 48 16
    if natAt m.bytes 4 1 = 0x10 then
      match key with
      | none => .auth
      | some key => if tag != tagOf key 0x01 m.ch body then .auth else if seq = 0 then .acc else .seq
    else
      match key, k.sessions[m.ch] with
      | some _, some ses =>
        if tag != tagOf ses.key 0x01 m.ch body then .auth
        else if ses.inSeq.toNat < seq.toNat then .acc else .seq
      | _, _ => .auth

/-! ### A lane's outbound messages (R409, R413, R416, R417) -/

/-- A message that a lane posts, whole. -/
structure LaneMsg where
  secure : Bool
  ch : Fin 8
  bytes : List Byte
deriving DecidableEq, Repr

/-- A lane's mailbox work in one tick: part K under way, messages posted, posts dropped for want of a session or a SEQ,
sessions closed with their cause, the last inbound SEQ and that of CLOSED, and sessions opened. -/
structure Desk where
  k : LaneK
  msgs : List LaneMsg
  drops : List (Fin 8)
  closes : List (Fin 8 × BitVec 4 × Word × Word)
  opens : List (Fin 8)
deriving DecidableEq, Repr

def Desk.of (k : LaneK) : Desk := ⟨k, [], [], [], []⟩

def LaneK.setSession (k : LaneK) (ch : Fin 8) (x : Option Session) : LaneK :=
  { k with sessions := vmod k.sessions ch (fun _ => x) }

/-- Pending arms that arrived on a secure channel are discarded (R416). -/
def LaneK.dropArms (k : LaneK) (ch : Fin 8) : LaneK :=
  let f (a : Arm) : Bool := a.src != .secure ch
  { k with elemArms := k.elemArms.filter f, routeArms := k.routeArms.filter f, resetArm := k.resetArm.filter f,
           lockArm := k.lockArm.filter f }

/-- The message of a record under a session's key. -/
def sealSecure (ses : Session) (ch : Fin 8) (seq : Word) (rec : List Byte) : LaneMsg :=
  let body := leBytes 4 seq.toNat ++ padTo 32 rec ++ List.replicate 12 0
  ⟨true, ch, body ++ tagOf ses.key 0x02 ch body⟩

/-- A session closes: CLOSED with the next outbound SEQ under its key, doorbell bit 6 (R417). -/
def Desk.close (d : Desk) (ch : Fin 8) (cause : BitVec 4) : Desk :=
  match d.k.sessions[ch] with
  | none => d
  | some ses =>
    { d with
      k := (d.k.setSession ch none).dropArms ch
      msgs := d.msgs ++ [sealSecure ses ch (ses.outSeq + 1) [0x91, cause.setWidth 8]]
      closes := d.closes ++ [(ch, cause, ses.inSeq, ses.outSeq + 1)] }

/-- A result record or notice toward its source: on a secure channel with the session's next SEQ, on a non-secure channel
with the SEQ of the request, and to a node in its stream (R141, R413, R416). -/
def Desk.post (d : Desk) (p : Post) : Desk :=
  match p.src with
  | .nonsecure ch => { d with msgs := d.msgs ++ [⟨false, ch, messageBytes p.seq p.bytes []⟩] }
  | .frame node => { d with k := { d.k with results := d.k.results ++ [(node, padTo 32 p.bytes)] } }
  | .secure ch =>
    match d.k.sessions[ch] with
    | none => { d with drops := d.drops ++ [ch] }
    | some ses =>
      let seq := ses.outSeq + 1
      let d1 : Desk := { d with
        k := d.k.setSession ch (some { ses with outSeq := seq })
        msgs := d.msgs ++ [sealSecure ses ch seq p.bytes] }
      if seq = 0xFFFF_FFFE then d1.close ch 4 else d1

/-- An OPEN is answered (R414-R417): an open session gives way with cause 0x6, and OPENED carries SEQ 0. -/
def Desk.open (d : Desk) (key : Option (BitVec 256)) (restart : Word) (tick : Tick) (cnt : BitVec 16) (ch : Fin 8)
    (hnonce : BitVec 128) : Desk :=
  match key with
  | none => d
  | some key =>
    let d1 := d.close ch 6
    let mn := mnonceOf key restart tick cnt ch
    let ses : Session := ⟨sessionKey key ch hnonce mn, 0, 0, 0⟩
    { d1 with
      k := (d1.k.setSession ch (some ses)).dropArms ch
      msgs := d1.msgs ++ [sealSecure ses ch 0 ([0x90, 0, 0, 0] ++ leBytes 16 hnonce.toNat ++ mn)]
      opens := d1.opens ++ [ch] }

/-! ### The hub's side -/

/-- The lanes whose messages count: those that voted in the last completed tick, in LOCKOUT every running lane (R183). -/
def State.acting (s : State) : BitVec 3 := if s.ms.mode == .lockout then s.running else s.ms.voting

/-- A message with the copies of its lanes enters the queue, or is dropped from a full one (R409). -/
def State.queuePut (s : State) (secure : Bool) (ch : Fin 8) (copies : PerLane (Option (List Byte))) : State :=
  if (s.mbx secure ch).queue.length < 16 then
    s.modMbx secure ch (fun m => { m with queue := m.queue ++ [⟨copies⟩] })
  else (s.modMbx secure ch (fun m => { m with qdrop := satInc 255 m.qdrop })).bell secure ch 5

/-- The lanes post a message: until a tick's inbound reads are done it waits (R29, R35). -/
def State.enqueue (s : State) (secure : Bool) (ch : Fin 8) (copies : PerLane (Option (List Byte))) : State :=
  if s.acting != 0 && !s.mail.snapDone then
    { s with mail := { s.mail with outWait := s.mail.outWait ++ [(secure, ch, copies)] } }
  else s.queuePut secure ch copies

/-- The outbound posts that waited for the inbound reads. -/
def State.postWaiting (s : State) : State :=
  s.mail.outWait.foldl (fun s p => s.queuePut p.1 p.2.1 p.2.2) { s with mail := { s.mail with outWait := [] } }

/-- MBX_INSEQ and MBX_OUTSEQ follow the session (R418). -/
def State.syncSeq (s : State) : State :=
  (allFin 8).foldl (fun s ch => match s.leadK.sessions[ch] with
    | some ses => s.modMbx true ch (fun m => { m with inSeq := ses.inSeq, outSeq := ses.outSeq })
    | none => s) s

def State.setSessBit (s : State) (ch : Fin 8) (on : Bool) : State :=
  let b : BitVec 8 := 1#8 <<< ch.val
  { s with aon := { s.aon with sessBits := if on then s.aon.sessBits ||| b else s.aon.sessBits &&& ~~~b } }

/-- What the lanes' desks leave at the hub: messages by channel in order, each lane's copy beside the others', and the
lead lane's count of drops, closes and opens. -/
def State.collect (s : State) (act : BitVec 3) (desks : PerLane Desk) : State :=
  let of_ (l : Lane) (secure : Bool) (ch : Fin 8) : List (List Byte) :=
    if l.inMask act then
      ((desks.get l).msgs.filter (fun m => m.secure == secure && m.ch == ch)).map (fun m => m.bytes)
    else []
  let put (secure : Bool) (s : State) (ch : Fin 8) : State :=
    let a := of_ .a secure ch
    let b := of_ .b secure ch
    let c := of_ .c secure ch
    (List.range (max a.length (max b.length c.length))).foldl
      (fun s i =>
        let x : Option (List Byte) := (a.drop i).head?
        let y : Option (List Byte) := (b.drop i).head?
        let z : Option (List Byte) := (c.drop i).head?
        s.enqueue secure ch ⟨x, y, z⟩) s
  let s1 := (allFin 8).foldl (put true) s
  let s2 := (allFin 8).foldl (put false) s1
  match lanesOf act with
  | [] => s2
  | l :: _ =>
    let d := desks.get l
    let s3 := d.drops.foldl (fun s ch => s.modMbx true ch (fun m => { m with qdrop := satInc 255 m.qdrop })) s2
    let s4 := d.closes.foldl (fun s p =>
      ((s.modMbx true p.1 (fun m => { m with closeCause := p.2.1, inSeq := p.2.2.1, outSeq := p.2.2.2 })).setSessBit p.1 false).bell true p.1 6) s3
    (d.opens.foldl (fun s ch =>
      (s.modMbx true ch (fun m => { m with sessCnt := m.sessCnt + 1, inSeq := 0, outSeq := 0 })).setSessBit ch true) s4)

/-- Every running lane does one piece of mailbox work on its committed part K, and the hub takes what the acting lanes
leave. -/
def State.desk (s : State) (f : Desk → Desk) : State :=
  let run := s.running ||| s.acting
  let desks := s.lanes.map (fun x => f (Desk.of x.region.k))
  let s1 := (lanesOf run).foldl (fun s l => s.modK l (fun _ => (desks.get l).k)) s
  (s1.collect s.acting desks).syncSeq

/-- Result records and notices of one row, posted by every lane (R143, R409). -/
def State.posts (s : State) (ps : List Post) : State := s.desk (fun d => ps.foldl Desk.post d)

/-- One write of the outbound mover, by a grant of the register bus (R396, R401): the oldest entry goes into an empty buffer if two lane copies of it are equal, and is
discarded and counted otherwise (R409). -/
def State.moverWrite (s : State) (secure : Bool) (ch : Fin 8) : State :=
  let m := s.mbx secure ch
  let g := s.sh.round 1 .hubMovers []
  if m.outFull then s
  else
    match m.queue with
    | [] => s
    | e :: rest =>
      if !g.2 then { s with sh := g.1 } else
      let s1 := ({ s with sh := g.1 } : State).modMbx secure ch (fun m => { m with queue := rest })
      match agree2 e.copies with
      | some bs =>
        (s1.modMbx secure ch (fun m => { m with
          outBuf := Vector.ofFn (fun i => BitVec.ofNat 32 (natAt bs (4 * i.val) 4)), outFull := true })).bell secure ch 0
      | none => s1.modMbx secure ch (fun m => { m with qdrop := satInc 255 m.qdrop })
where
  /-- The copy that two lanes share. -/
  agree2 (p : PerLane (Option (List Byte))) : Option (List Byte) :=
    let eq (x y : Option (List Byte)) : Bool := x.isSome && x == y
    if eq p.a p.b then p.a else if eq p.a p.c then p.a else if eq p.b p.c then p.b else none

/-! ### Snapshot (R408, R411, R412, R416) -/

/-- The full inbound buffers in read order: secure channels first (R77). -/
def State.fullBuffers (s : State) : List ReadMsg :=
  let get (secure : Bool) : List ReadMsg := (allFin 8).filterMap (fun ch =>
    let m := s.mbx secure ch
    if m.inFull then some ⟨secure, ch, wordsBytes m.inBuf.toList, m.inColl⟩ else none)
  get true ++ get false

/-- A message read in the tick before that failed its check in P1 is counted (R407, R416); the sixteenth AUTH_FAIL of a session closes
it (R417). -/
def State.countMsg (s : State) (m : ReadMsg) (found : MsgCheck) : State :=
  match found with
  | .acc => s
  | .coll => s.modMbx m.secure m.ch (fun x => { x with collCnt := satInc 255 x.collCnt })
  | .seq => s.modMbx m.secure m.ch (fun x => { x with seqFail := satInc 255 x.seqFail })
  | .auth =>
    let s1 := s.modMbx m.secure m.ch (fun x => { x with authFail := satInc 255 x.authFail })
    match s1.leadK.sessions[m.ch] with
    | none => s1
    | some ses =>
      if ses.authFails < 15 then
        s1.modAllK (fun k => k.setSession m.ch (k.sessions[m.ch].map (fun x => { x with authFails := x.authFails + 1 })))
      else (s1.desk (fun d => d.close m.ch 3)).alarmNode 0xE9 [BitVec.ofNat 8 m.ch.val]

/-- The inbound snapshot of a tick (R408): every full buffer copied for each running lane, FULL and COLLISION cleared, the
doorbells toward the module read. The outbound posts follow (R29, R35). -/
def State.snapshot (s : State) : State :=
  let ms := s.fullBuffers
  let s1 := (allFin 8).foldl (fun s ch =>
    (s.modMbx true ch (fun m => { m with inFull := false, inColl := false, h2m := 0 })).modMbx false ch
      (fun m => { m with inFull := false, inColl := false, h2m := 0 })) s
  let s2 := ms.foldl (fun s m => s.bell m.secure m.ch 1) s1
  let s3 : State := { s2 with mail := { s2.mail with snapDone := true, toRead := ms } }
  ((lanesOf s3.running).foldl (fun s l => s.modLaneSt l (fun x => { x with msgs := ms })) s3).postWaiting

/-- Firmware's work in the first P5 after a HOSTR (R411): every open session closes with cause 0x2, after ABORTED and
the queue of each channel that raised its notice are cleared. -/
def State.afterHostr (s : State) : State :=
  if !s.mail.hostrPend then s
  else
    let clr (m : Mbx) : Mbx := if m.outAborted then { m with queue := [], outAborted := false } else m
    let s1 := (allFin 8).foldl (fun s ch => (s.modMbx true ch clr).modMbx false ch clr) s
    let s2 := (allFin 8).foldl (fun s ch => s.desk (fun d => d.close ch 2)) s1
    { s2 with mail := { s2.mail with hostrPend := false } }

/-! ### The rows -/

/-- OPEN (R414, R416, R417): an authenticated OPEN agreed in the present tick. -/
def execOpenSession (ch : Fin 8) (hnonce : BitVec 128) (s : State) : Host.Outcome State Fault Refusal :=
  if s.acting = 0 then .next s
  else
    match s.chanKey ch with
    | none => .next (s.modMbx true ch (fun m => { m with authFail := satInc 255 m.authFail }))
    | some key =>
      .next (s.desk (fun d => d.open (some key) s.aon.restart s.ms.tick (s.mail.sec[ch].sessCnt + 1) ch hnonce))

/-- CLOSE (R417): an authenticated CLOSE agreed in the present tick; without an open session it counts in AUTH_FAIL. -/
def execCloseSession (ch : Fin 8) (s : State) : Host.Outcome State Fault Refusal :=
  if s.acting = 0 then .next s
  else if s.leadK.sessions[ch].isNone then .next (s.modMbx true ch (fun m => { m with authFail := satInc 255 m.authFail }))
  else .next (s.desk (fun d => d.close ch 1))

/-- MAILBOX_SNAPSHOT (R408): the first lane of the agreement set that commands it in a tick starts it; later commands of
the tick return the same snapshot. A lane whose P5 is suspended commands none (R35). -/
def execMailboxSnapshot (l : Lane) (s : State) : Host.Outcome State Fault Refusal :=
  if s.mail.snapDone || !l.inMask s.acting || s.ms.p5Left.get l then .next s else .next s.snapshot

/-- OUTBOUND_MOVER_WRITE (R409). -/
def execOutboundMoverWrite (secure : Bool) (ch : Fin 8) (s : State) : Host.Outcome State Fault Refusal :=
  .next (s.moverWrite secure ch)

/-- A write to a word of an inbound buffer (R407). -/
def Mbx.inWrite (m : Mbx) (word : Fin 16) (val : Word) : Mbx :=
  { m with
    inBuf := vmod m.inBuf word (fun _ => val)
    inColl := m.inColl || m.inFull
    inFull := m.inFull || word.val == 15
    h2m := if word.val = 15 then m.h2m ||| 1 else m.h2m }

def State.inBufWrite (s : State) (secure : Bool) (ch : Fin 8) (word : Fin 16) (val : Word) : State :=
  if s.pwr.d3hot then s
  else s.onPort 1 (windowMaster secure) [] (.inBuf secure ch word val) (fun s => s.modMbx secure ch (fun m => m.inWrite word val))

/-- MBX_IN_BUF_WRITE (R407): a write while FULL is performed and sets COLLISION; bytes 60-63 set FULL and doorbell bit 0
toward the module. -/
def execMbxInBufWrite (secure : Bool) (ch : Fin 8) (word : Fin 16) (val : Word) (s : State) :
    Host.Outcome State Fault Refusal :=
  .next (s.inBufWrite secure ch word val)

/-- What a granted read of a word of an outbound buffer does (R410). -/
def State.outBufTake (s : State) (secure : Bool) (ch : Fin 8) (word : Fin 16) : State :=
  (s.modMbx secure ch (fun m => { m with outFull := m.outFull && word.val != 15 })).answer [(s.mbx secure ch).outBuf[word]]

/-- A read of a word of an outbound buffer (R410). -/
def State.outBufRead (s : State) (secure : Bool) (ch : Fin 8) (word : Fin 16) : State :=
  if s.pwr.d3hot then s.answer [0]
  else s.onPort 1 (windowMaster secure) [] (.outBuf secure ch word) (fun s => s.outBufTake secure ch word)

/-- MBX_OUT_BUF_READ (R410): the read returns the word, and bytes 60-63 clear FULL. -/
def execMbxOutBufRead (secure : Bool) (ch : Fin 8) (word : Fin 16) (s : State) : Host.Outcome State Fault Refusal :=
  .next (s.outBufRead secure ch word)

def Mbx.abortedWrite (m : Mbx) (val : Word) : Mbx := { m with inAborted := m.inAborted && !val.getLsbD 31 }

/-- A write to MBX_IN_STAT (R411). -/
def State.abortedClear (s : State) (secure : Bool) (ch : Fin 8) (val : Word) : State :=
  if s.pwr.d3hot then s
  else s.onPort 1 (windowMaster secure) [] (.inStat secure ch val) (fun s => s.modMbx secure ch (fun m => m.abortedWrite val))

/-- MBX_IN_STAT_ABORTED_CLEAR (R7, R411): a 1 written to bit 31 clears ABORTED. -/
def execMbxInStatAbortedClear (secure : Bool) (ch : Fin 8) (val : Word) (s : State) :
    Host.Outcome State Fault Refusal :=
  .next (s.abortedClear secure ch val)

/-- A write to MBX_DB_M2H (R412). -/
def State.m2hClear (s : State) (secure : Bool) (ch : Fin 8) (val : Word) : State :=
  if s.pwr.d3hot then s
  else s.onPort 1 (windowMaster secure) [] (.bell secure ch val) (fun s => s.modMbx secure ch (fun m => { m with m2h := m.m2h &&& ~~~val }))

/-- MBX_DB_M2H_CLEAR (R7, R412): bits written as 1 clear. -/
def execMbxDbM2hClear (secure : Bool) (ch : Fin 8) (val : Word) (s : State) : Host.Outcome State Fault Refusal :=
  .next (s.m2hClear secure ch val)

/-- What a granted write to MBX_DBMASK does (R412). -/
def State.dbmaskPut (s : State) (secure : Bool) (ch : Fin 8) (val : Word) : State :=
  let m := s.mbx secure ch
  let s1 := s.modMbx secure ch (fun m => { m with mask := val })
  if m.m2h &&& m.mask &&& ~~~val = 0 then s1 else s1.raiseVec (bellVec secure ch)

/-- A write to MBX_DBMASK (R412). -/
def State.dbmaskWrite (s : State) (secure : Bool) (ch : Fin 8) (val : Word) : State :=
  if s.pwr.d3hot then s
  else s.onPort 1 (windowMaster secure) [] (.dbMask secure ch val) (fun s => s.dbmaskPut secure ch val)

/-- MBX_DBMASK_WRITE (R412): unmasking bits that are set raises the channel's vector once. -/
def execMbxDbmaskWrite (secure : Bool) (ch : Fin 8) (val : Word) (s : State) : Host.Outcome State Fault Refusal :=
  .next (s.dbmaskWrite secure ch val)

end Sys2Proof.Machine
end

