-- ==== Sys2Proof/Machine/Output.lean ====
section
/-!
DEFINITION. One lane's rules for its own node's channels: samples and their reduction (R179-R187, R292), and for output
channels Echo, currents, feedback, pulse results, lockout and its clearing, reflexes and part O (R199, R213-R215, R255-R262,
R268-R270, R295-R298).
-/

namespace Sys2Proof.Machine

/-! ### Reduction (R183-R186, R292) -/

/-- How many equal reports make "at least two members" (R183). -/
def needOf (members : BitVec 3) : Nat := if countMask members = 1 then 1 else 2

/-- The value that enough members report. -/
def agree {α : Type} [DecidableEq α] (need : Nat) (vals : List α) : Option α :=
  vals.find? (fun v => decide (need ≤ (vals.filter (fun w => decide (w = v))).length))

/-- A sample code with its fault kind (R180, R292). -/
structure Samp where
  code : Sample
  kind : Nat
deriving DecidableEq, Repr

/-- One input after reduction (R185): the value used, whether a channel fault is reported, whether it is split, the agreed
fault kind, and the code that one of the first two rows agreed. -/
structure Agreed where
  value : Bool
  fault : Bool
  split : Bool
  kind : Nat
  firm : Option Sample
deriving DecidableEq, Repr

/-- A lane's own sample of an input channel (R179, R285, R286, R289, R290, R292). A current that has lain in the band since power-up gives
kind 0x1 (R286). -/
def sampleOf (c : ChanCfg) (noData : Bool) (sup : SupplyClass) (srcBad : Bool) (r : Replica) : Samp :=
  if !c.mode.isIn || noData then ⟨.missing, 0⟩
  else if sup == .uv then ⟨.fault, 4⟩
  else if c.mode == .inputTested && srcBad then ⟨.fault, 3⟩
  else if c.mode == .inputTested && decide (0 < r.ownGap) then ⟨.fault, 2⟩
  else if c.mode == .inputWb && r.settled && r.out == .wireBreak then ⟨.fault, 1⟩
  else if c.mode == .inputWb && r.raw == some .band then ⟨.fault, 1⟩
  else if !r.settled then ⟨.fault, 5⟩
  else if r.out == .active then ⟨.active, 0⟩ else ⟨.inactive, 0⟩

/-- The rows of R185 over the members' codes. -/
def reduceInput (need : Nat) (restr : Bool) (codes : List Samp) : Agreed :=
  let n (c : Sample) : Nat := (codes.filter (fun x => x.code == c)).length
  if need ≤ n .inactive then ⟨false, false, false, 0, some .inactive⟩
  else if need ≤ n .active then ⟨true, false, false, 0, some .active⟩
  else if need ≤ n .fault then
    match agree need ((codes.filter (fun x => x.code == .fault)).map (fun x => x.kind)) with
    | some k => ⟨restr, true, false, k, none⟩
    | none => ⟨restr, false, true, 7, none⟩
  else ⟨restr, false, true, 0, none⟩

/-- The agreed sample as an element's role takes it (R186): a channel fault, or missing for a split. -/
def Agreed.sample (a : Agreed) : Sample :=
  if a.fault then .fault else if a.split then .missing else if a.value then .active else .inactive

/-- The agreed Echo items of a channel; none for a split item (R255). -/
structure EchoAgreed where
  h : Option PinClass
  l : Option PinClass
  gdH : Option Bool
  gdL : Option Bool
  cur : Option CurClass
deriving DecidableEq, Repr

def reduceEcho (need : Nat) (es : List EchoItem) : EchoAgreed :=
  ⟨agree need (es.map (fun e => e.h)), agree need (es.map (fun e => e.l)), agree need (es.map (fun e => e.gdH)),
   agree need (es.map (fun e => e.gdL)), agree need (es.map (fun e => e.cur))⟩

/-- An Echo item of the channel is split (R255). -/
def EchoAgreed.split (e : EchoAgreed) : Bool :=
  e.h.isNone || e.l.isNone || e.gdH.isNone || e.gdL.isNone || e.cur.isNone

/-- The expected on state (R257). -/
def EchoAgreed.on (e : EchoAgreed) : Bool :=
  e.h == some .high && e.l == some .low && e.gdH == some true && e.gdL == some true

/-- H MID and L MID (R257). -/
def EchoAgreed.mid (e : EchoAgreed) : Bool := e.h == some .mid && e.l == some .mid

/-! ### A lane's work on its channels -/

/-- Part K under way, and what leaves the lane: records, voter faults with their kind, channels locked out, agreed pulse
results, pulses without a result, and overdue channels. -/
structure Loc where
  k : LaneK
  recs : List RecItem
  vflt : List (Chan × Nat)
  locked : List Chan
  results : List (Chan × Bool)
  noResult : Nat
deriving DecidableEq, Repr

def Loc.out (x : Loc) (c : Chan) : OutK := x.k.outs[c]

def Loc.modOut (x : Loc) (c : Chan) (f : OutK → OutK) : Loc := { x with k := { x.k with outs := vmod x.k.outs c f } }

def Loc.raise (x : Loc) (code : Byte) (kind : ObjKind) (obj : Nat) (detail : List Byte) : Loc :=
  { x with recs := x.recs ++ [⟨.alarm, code, kind, obj, detail, 0⟩] }

def Loc.each {α : Type} (x : Loc) (l : List α) (f : Loc → α → Loc) : Loc := l.foldl f x

/-- The output channels of a node (R282). -/
def outChans (cfg : Vector ChanCfg 48) : List Chan := (allFin 48).filter (fun c => cfg[c].mode.isOut)

/-- A channel lockout is set in P2 (R268, R270): the first cause stays. Its pulses are no longer needed (R258). -/
def Loc.lock (x : Loc) (tick : Tick) (c : Chan) (cause : BitVec 4) : Loc :=
  if (x.out c).lock.isSome then x
  else
    let x1 := x.modOut c (fun o => { o with lock := some ⟨cause, tick⟩, dh := .reset, dl := .reset, ls := .reset })
    { x1.raise 0xC0 .channel (c.val + 1) [BitVec.ofNat 8 (c.val + 1), cause.setWidth 8] with locked := x1.locked ++ [c] }

/-- S_off in ticks (R256). -/
def soffTicks (tUs : BitVec 17) (c : ChanCfg) : Nat := msTicks tUs c.soffMs

/-- S_on in ticks: 10.2 ms rounded up (R256). -/
def sonTicks (tUs : BitVec 17) : Nat := if tUs.toNat = 0 then 0 else (10200 + tUs.toNat - 1) / tUs.toNat

def settledOff (tUs : BitVec 17) (c : ChanCfg) (o : OutK) : Bool := decide (soffTicks tUs c + 1 ≤ o.offRun)

def settledOn (tUs : BitVec 17) (o : OutK) : Bool := decide (sonTicks tUs + 1 ≤ o.onRun)

/-! ### Test pulse results (R261, R262) -/

/-- Lockout cause of a failed pulse (R261). -/
def pulseCause : PulseKind → BitVec 4
  | .darkHigh => 1
  | .darkLow => 2
  | .lowSide => 3

/-- The run of a kind. -/
def OutK.run (o : OutK) : PulseKind → PulseRun
  | .darkHigh => o.dh
  | .darkLow => o.dl
  | .lowSide => o.ls

def OutK.setRun (o : OutK) (k : PulseKind) (r : PulseRun) : OutK :=
  match k with
  | .darkHigh => { o with dh := r }
  | .darkLow => { o with dl := r }
  | .lowSide => { o with ls := r }

/-- A pulse whose Echo window has ended is agreed over the blocks of `from_` (R261); a pulse without a result is repeated. -/
def Loc.pulse (x : Loc) (need : Nat) (from_ : BitVec 3) (tick : Tick) (c : Chan) (p : PulsePend) : Loc :=
  match agree need ((lanesOf from_).filterMap (fun l => p.res.get l)) with
  | none => { x with noResult := x.noResult + 1 }
  | some pass =>
    let x1 := x.modOut c (fun o => o.setRun p.kind ⟨some tick, false, false, false, false⟩)
    let x2 : Loc := { x1 with results := x1.results ++ [(c, pass)] }
    if pass then x2 else x2.lock tick c (pulseCause p.kind)

/-- The pulses of a channel whose results are due in a tick. -/
def Loc.pulses (x : Loc) (need : Nat) (from_ : BitVec 3) (tick : Tick) (c : Chan) : Loc :=
  let due := (x.out c).pend.filter (fun p => tickGe tick p.tick)
  (x.modOut c (fun o => { o with pend := o.pend.filter (fun p => !tickGe tick p.tick) })).each due
    (fun x p => x.pulse need from_ tick c p)

/-! ### Commands of a channel (R199, R256, R262) -/

/-- The command of a channel in a tick: its history, and where it changes, its pulses whose Echo window runs give no result. -/
def OutK.command (o : OutK) (tick : Tick) (on : Bool) : OutK :=
  let changed := if on then o.onRun == 0 else decide (0 < o.onRun)
  let drop (p : PulsePend) : PulsePend := if changed && !tickGe tick p.tick then { p with res := .all none } else p
  { o with
    onRun := if on then satInc 1000000 o.onRun else 0
    offRun := if on then 0 else satInc 1000000 o.offRun
    onTick := if on && o.onRun == 0 then tick else o.onTick
    pend := o.pend.map drop }

/-- A command that changes after the tick's own commands were formed stands for the tick (R256, R262). -/
def OutK.recommand (o : OutK) (tick : Tick) (on : Bool) : OutK :=
  if on == decide (0 < o.onRun) then o else o.command tick on

/-! ### Currents (R295-R297) -/

/-- The current findings of a channel, before its Echo comparison; the second answer: the channel is not compared (R296). -/
def Loc.current (x : Loc) (tUs : BitVec 17) (tick : Tick) (c : Chan) (e : EchoAgreed) : Loc × Bool :=
  let o := x.out c
  let on := settledOn tUs o
  let ovr := if on && e.cur == some .over then o.overRun + 1 else 0
  let opn := if on && e.cur == some .opn then o.openRun + 1 else 0
  let load := if e.cur == some .normal then false else o.openLoad || decide (2 ≤ opn)
  let x1 := x.modOut c (fun o => { o with overRun := ovr, openRun := opn, openLoad := load })
  if on && (e.cur == some .trip || decide (100000 ≤ ovr * tUs.toNat)) then (x1.lock tick c 7, true)
  else (x1, on && (e.cur == some .over || e.cur == some .trip))

/-- A channel of the bank was commanded on last: the later tick, then the higher number (R297). -/
def Loc.lastOn (x : Loc) (cs : List Chan) : Option Chan :=
  cs.foldl (fun (acc : Option Chan) c => match acc with
    | none => some c
    | some d => if tickGe (x.out c).onTick (x.out d).onTick then some c else some d) none

/-- Sum current of a bank above 6.5 A at ten consecutive edges: the channel most recently commanded on is locked out, the
highest number among equals (R297). -/
def Loc.bank (x : Loc) (cfg : Vector ChanCfg 48) (tick : Tick) (b : Bank) (high : Bool) : Loc :=
  let n := if high then satInc 10 x.k.ovl[b] else 0
  let x1 : Loc := { x with k := { x.k with ovl := vmod x.k.ovl b (fun _ => n) } }
  if n < 10 then x1
  else
    let cands := (outChans cfg).filter (fun c => bankOf c == b && decide (0 < (x.out c).onRun) && (x.out c).lock.isNone)
    match x.lastOn cands with
    | some c => x1.lock tick c 7
    | none => x1

/-! ### Feedback (R269, R298) -/

/-- Feedback of an OUTPUT-FB channel against what its command implies; `fb` is its agreed value, inactive where it is
missing or faulty. -/
def Loc.feedback (x : Loc) (tUs : BitVec 17) (tick : Tick) (cfg : ChanCfg) (c : Chan) (fb : Bool) : Loc :=
  if cfg.mode != .outputFb then x
  else
    let o := x.out c
    let on := decide (0 < o.onRun)
    let grace := if on then decide ((o.onRun - 1) * tUs.toNat < 10000) else decide (o.offRun ≤ soffTicks tUs cfg)
    let bad := fb != (on == cfg.fbFollow) && !grace
    let n := if bad then o.fbRun + 1 else 0
    let x1 := x.modOut c (fun o => { o with fbRun := min n 65535, fbMis := bad })
    if msTicks tUs cfg.windowMs < n then x1.lock tick c 8 else x1

/-! ### Echo (R255, R257) -/

/-- A split Echo item: counted, ALARM 0xC2 once per 1,024 ticks, and cause 0x9 at the third tick in a row (R255, R276). -/
def Loc.echoSplit (x : Loc) (tick : Tick) (c : Chan) (split : Bool) : Loc :=
  if !split then x.modOut c (fun o => { o with echoSplit := 0 })
  else
    let o := x.out c
    let fresh := match o.splitAt with
      | some t => decide (1024 ≤ (tick - t).toNat)
      | none => true
    let x1 := x.modOut c (fun o => { o with
      echoSplit := satInc 3 o.echoSplit, echoSplits := satInc 65535 o.echoSplits, splitAt := if fresh then some tick else o.splitAt })
    let x2 : Loc := if fresh then x1.raise 0xC2 .channel (c.val + 1) [BitVec.ofNat 8 (c.val + 1)] else x1
    if (x2.out c).echoSplit == 3 then x2.lock tick c 9 else x2

/-- Outcome of the Echo comparison (R257). -/
inductive EchoFind where
  | fine
  | voter (kind : Nat)
  | lock (cause : BitVec 4)
deriving DecidableEq, Repr

/-- The table of R257 for a settled-off channel; a split item matches no row. -/
def compareOff (e : EchoAgreed) : EchoFind :=
  if e.gdH == some true && e.gdL == some true then .voter 2
  else if e.h == some .high && e.l == some .low then .voter 1
  else if e.gdH == some true || e.gdL == some true then .lock 0xA
  else if e.h == some .high && e.l == some .high then .lock 4
  else if e.h == some .low && e.l == some .low then .lock 5
  else if e.mid then .fine
  else if e.h.isNone || e.l.isNone then .fine
  else .lock 0xB

/-- The table of R257 for a settled-on channel. -/
def compareOn (e : EchoAgreed) : EchoFind :=
  let dev {α : Type} [DecidableEq α] (x : Option α) (want : α) : Bool := x.isSome && x != some want
  if dev e.h .high || dev e.l .low || dev e.gdH true || dev e.gdL true then .lock 6 else .fine

/-- The Echo comparison of a settled channel. A voter fault raises ALARM 0xC4 at its onset (R271, R276). -/
def Loc.compare (x : Loc) (tUs : BitVec 17) (tick : Tick) (cfg : ChanCfg) (c : Chan) (e : EchoAgreed) : Loc :=
  let o := x.out c
  let f : EchoFind := if settledOff tUs cfg o then compareOff e else if settledOn tUs o then compareOn e else .fine
  match f with
  | .fine => x.modOut c (fun o => { o with vflt := 0 })
  | .lock cause => (x.modOut c (fun o => { o with vflt := 0 })).lock tick c cause
  | .voter kind =>
    let x1 : Loc := { x with vflt := x.vflt ++ [(c, kind)] }
    let x2 := x1.modOut c (fun o => { o with vflt := kind })
    if o.vflt = kind then x2
    else x2.raise 0xC4 .channel (c.val + 1) [BitVec.ofNat 8 (c.val + 1), BitVec.ofNat 8 kind]

/-! ### Pulse needs (R258, R270) -/

/-- The run of a kind goes on while it is needed, and starts anew when it becomes so. -/
def PulseRun.need (r : PulseRun) (needed : Bool) (tick : Tick) : PulseRun :=
  if needed then { r with since := some (r.since.getD tick) } else .reset

/-- Which pulses a channel needs in this tick; a channel under retest has its dark pulses due in the first tick in which it is
settled on (R270). -/
def Loc.pulseNeeds (x : Loc) (tUs : BitVec 17) (tick : Tick) (cfg : ChanCfg) (c : Chan) : Loc :=
  x.modOut c (fun o =>
    let free := o.lock.isNone
    let on := free && settledOn tUs o
    let off := free && settledOff tUs cfg o
    let a := o.dh.need on tick
    let b := o.dl.need on tick
    { o with
      dh := { a with due := a.due || (o.retest && on), atOnce := a.atOnce || (o.retest && on) }
      dl := { b with due := b.due || (o.retest && on), atOnce := b.atOnce || (o.retest && on) }
      ls := o.ls.need off tick
      retest := o.retest && !on })

/-! ### Clearing (R56, R57, R268, R270) -/

/-- A cause of R268 with a presence condition is present: `trip` is the trip latch (R296), `fbOff` false where the feedback differs
from the off state. -/
def present (e : EchoAgreed) (trip fbOff : Bool) : Bool :=
  e.split || e.gdH == some true || e.gdL == some true || !e.mid || e.cur == some .trip || trip || !fbOff

/-- A cause that is not checked at rest (R268). -/
def notAtRest (cause : BitVec 4) : Bool := cause == 1 || cause == 2 || cause == 3 || cause == 6

/-- A request that began in tick `begun` clears a channel's lockout (R56, R57, R270). The second answer: it did. -/
def Loc.clear (x : Loc) (c : Chan) (begun : Tick) (e : EchoAgreed) (trip fbOff : Bool) : Loc × Bool :=
  match (x.out c).lock with
  | none => (x, false)
  | some lk =>
    if tickGt begun lk.tick && !present e trip fbOff then
      let again := notAtRest lk.cause
      (x.modOut c (fun o => { o with lock := none, echoSplit := 0, fbRun := 0, overRun := 0, openRun := 0, retest := again
                                     ls := { o.ls with due := o.ls.due || again, atOnce := again } }), true)
    else (x, false)

/-! ### Reflexes and part O (R199, R213-R215) -/

/-- Channels of a mask. -/
def chansOf (m : BitVec 48) : List Chan := (allFin 48).filter (fun c => m.getLsbD c.val)

/-- A watched input meets its level (R214); a fault or a split meets an INPUT entry's. -/
def watchHit (agreed : Vector Agreed 48) (en : ReflexEntry) (bad : Bool) : Bool :=
  (chansOf en.inMask).any (fun c => agreed[c].value == en.level.getLsbD c.val ||
    (bad && (agreed[c].fault || agreed[c].split)))

/-- Ticks in a row in which a valid manager command has a channel on (R214). -/
def commandRuns (runs : Vector Nat 48) (cmd : Option (BitVec 48)) : Vector Nat 48 :=
  vmapIdx runs (fun c n => match cmd with
    | some m => if m.getLsbD c.val then satInc 65535 n else 0
    | none => 0)

/-- One reflex entry (R214): its latch and whether it forces its channels off. `cmd` is the valid manager command of the tick, if
there is one, `runs` the ticks for which each channel has had one. -/
def reflexStep (agreed : Vector Agreed 48) (cmd : Option (BitVec 48)) (runs : Vector Nat 48) (en : ReflexEntry) (latch : Bool) :
    Bool × Bool :=
  let onAny := match cmd with
    | some m => (m &&& en.outMask) != 0
    | none => false
  let trig := match en.kind with
    | .input => watchHit agreed en true
    | .endPos => onAny && watchHit agreed en false
    | .timeout => (chansOf en.outMask).any (fun c => decide (0 < runs[c]) && decide (en.limit ≤ runs[c]))
  let off := match cmd with
    | some m => (m &&& en.outMask) == 0
    | none => false
  let latch' := en.hold && (trig || (latch && !off))
  (latch', trig || latch')

/-- The reflex table of a tick: channels forced off (R212-R214). -/
def Loc.reflexes (x : Loc) (table : List (Option ReflexEntry)) (agreed : Vector Agreed 48) (cmd : Option (BitVec 48)) :
    Loc × BitVec 48 :=
  let runs := commandRuns x.k.cmdRun cmd
  let x0 : Loc := { x with k := { x.k with cmdRun := runs } }
  (table.zip (allFin 64)).foldl (fun (acc : Loc × BitVec 48) p =>
    match p.1 with
    | none => acc
    | some en =>
      let r := reflexStep agreed cmd runs en acc.1.k.reflexLatch[p.2]
      ({ acc.1 with k := { acc.1.k with reflexLatch := vmod acc.1.k.reflexLatch p.2 (fun _ => r.1) } },
       if r.2 then acc.2 ||| en.outMask else acc.2)) (x0, 0)

/-- Channels in channel lockout (R199). -/
def LaneK.lockMask (k : LaneK) : BitVec 48 := BitVec.ofNat 48 (bitsNat (k.outs.toList.map (fun o => o.lock.isSome)))

/-- Output channels as a mask. -/
def outMaskOf (cfg : Vector ChanCfg 48) : BitVec 48 :=
  BitVec.ofNat 48 (bitsNat (cfg.toList.map (fun c => c.mode.isOut)))

/-- Part O and the commands' history (R199, R215, R256): `want` are the commands, `forced` the reflexes' channels. A pulse
whose channel's command changes gives no result (R262). -/
def Loc.partO (x : Loc) (cfg : Vector ChanCfg 48) (tick : Tick) (want forced : BitVec 48) (hold lockReq : Bool) : Loc :=
  let lm := x.k.lockMask
  let w0 := want &&& outMaskOf cfg &&& ~~~forced &&& ~~~lm
  let w3 : BitVec 48 := BitVec.ofNat 48 (bitsNat [hold, lockReq])
  let x1 : Loc := { x with k := { x.k with partO := Vector.ofFn (fun i =>
    if i.val = 0 then w0 else if i.val = 1 then forced &&& outMaskOf cfg else if i.val = 2 then lm else w3) } }
  x1.each (outChans cfg) (fun x c => x.modOut c (fun o => o.command tick (w0.getLsbD c.val && !hold)))

/-! ### All of a tick -/

/-- The findings of every output channel in P2 (R255-R257, R261, R269, R296, R297), in this order: pulse results, bank sums,
then for each channel split Echo, feedback, current findings and the Echo comparison, and what pulses it needs. -/
def Loc.findings (x : Loc) (cfg : Vector ChanCfg 48) (tUs : BitVec 17) (tick : Tick) (need : Nat) (from_ : BitVec 3)
    (echo : Chan → EchoAgreed) (bankHigh : Bank → Bool) (agreed : Vector Agreed 48) : Loc :=
  let outs := outChans cfg
  let x1 := x.each outs (fun x c => x.pulses need from_ tick c)
  let x2 := x1.each (allFin 3) (fun x b => x.bank cfg tick b (bankHigh b))
  let x3 := x2.each outs (fun x c =>
    let e := echo c
    let y := x.echoSplit tick c e.split
    let fb := match cfg[c].link with
      | some j => agreed[j].firm == some .active
      | none => false
    let z := (y.feedback tUs tick cfg[c] c fb).current tUs tick c e
    if z.2 then z.1 else z.1.compare tUs tick cfg[c] c e)
  x3.each outs (fun x c => x.pulseNeeds tUs tick cfg[c] c)

/-- The feedback of an OUTPUT-FB channel is as in the off state (R268, cause 0x8). -/
def fbOffState (cfg : ChanCfg) (agreed : Vector Agreed 48) : Bool :=
  if cfg.mode != .outputFb then true
  else
    match cfg.link with
    | some j => (agreed[j].firm == some .active) == !cfg.fbFollow
    | none => cfg.fbFollow

/-! ### Dissent (R187) -/

/-- Dissent runs of one input over the members' usable codes; a run of 16 ends in the exclusion with ALARM 0xB1, and 0xB2
once where two replicas are excluded. The second answer: the members that dissent. -/
def Loc.dissent (x : Loc) (c : Chan) (a : Agreed) (codes : List (Lane × Sample)) : Loc × List Lane :=
  match a.firm with
  | none => (x, [])
  | some v =>
    codes.foldl (fun (acc : Loc × List Lane) p =>
      if p.2 == .missing then acc
      else
        let x := acc.1
        let i := x.k.ins[c]
        if p.2 == v then
          ({ x with k := { x.k with ins := vmod x.k.ins c (fun i => { i with dissent := i.dissent.set p.1 0 }) } }, acc.2)
        else
          let n := i.dissent.get p.1 + 1
          if n < 16 then
            ({ x with k := { x.k with ins := vmod x.k.ins c (fun i => { i with dissent := i.dissent.set p.1 n }) } },
             acc.2 ++ [p.1])
          else
            let excl := i.excl.set p.1 true
            let x1 : Loc := { x with k := { x.k with ins := vmod x.k.ins c (fun i =>
              { i with dissent := i.dissent.set p.1 0, excl := excl }) } }
            let ch : List Byte := [BitVec.ofNat 8 (c.val + 1)]
            let gone : RecItem := ⟨.alarm, 0xB1, .die, p.1.num, BitVec.ofNat 8 p.1.num :: ch, BitVec.ofNat 2 p.1.num⟩
            let both : RecItem := ⟨.alarm, 0xB2, .channel, c.val + 1, ch, 0⟩
            let two := (lanesList.filter (fun l => excl.get l)).length == 2
            ({ x1 with recs := x1.recs ++ [gone] ++ (if two then [both] else []) }, acc.2 ++ [p.1])) (x, [])

end Sys2Proof.Machine
end

