-- ==== Sys2Proof/Machine/Lanes.lean ====
section
/-!
DEFINITION. A lane's self-checking, its watchdog, its reset and its way back into service (R32, R33, R204-R211, R225-R241),
the wait limits of a tick (R184, R202), and the objects whose run or time ends in a tick (R187, R214).
-/

namespace Sys2Proof.Machine

/-! ### Shared operations -/

/-- `f` on the part K of every lane that runs ticks. -/
def State.modRunK (s : State) (f : LaneK → LaneK) : State := (lanesOf s.running).foldl (fun s l => s.modK l f) s

/-- A record that the lanes' evaluation raised. -/
def State.putRec (s : State) (r : RecItem) : State := s.logPut (s.record r.cls r.code r.kind r.obj r.lane r.detail)

def State.putRecs (s : State) (rs : List RecItem) : State := rs.foldl State.putRec s

/-- An empty workspace on a lane's part K. -/
def Loc.start (k : LaneK) : Loc := ⟨k, [], [], [], [], 0⟩

/-- The channel registers that follow the lanes' findings (R277, R300): voter faults, lockouts, agreed pulse results. -/
def State.locRegs (s : State) (x : Loc) : State :=
  let regs := vmapIdx s.fld.regs (fun i r =>
    let r1 : ChReg := if x.locked.contains i then { r with lockCnt := satInc 255 r.lockCnt } else r
    match x.results.find? (fun p => p.1 == i) with
    | some p => { r1 with pulseFail := !p.2 }
    | none => r1)
  { s with
    fld := { s.fld with regs := regs }
    vot := { s.vot with pulseCnt := satAdd 65535 s.vot.pulseCnt x.results.length
                        noResult := satAdd 255 s.vot.noResult x.noResult } }

/-- A voter fault is a module-level fault (R271, R275): fault record and lockout request of the lanes `asking`. -/
def State.voterFaults (s : State) (vs : List (Chan × Nat)) (asking : BitVec 3) : State :=
  match vs with
  | [] => s
  | (c, kind) :: _ =>
    let s1 : State := { s with vot := { s.vot with vfltCh := c.val + 1, vfltKind := BitVec.ofNat 4 kind } }
    (s1.latchFault 0x04 (BitVec.ofNat 8 kind) 0 [s1.votStat, s1.votChstat c]).moduleFault 0x03 asking

/-- From P4 of the tick that locks a channel out, it is commanded off (R199, R270): the tick counts as one of off, and its running
pulses give no result (R256, R262). -/
def LaneK.applyLocks (k : LaneK) (tick : Tick) : LaneK :=
  let lm := k.lockMask
  { k with
    partO := Vector.ofFn (fun i => if i.val = 0 then k.partO[0] &&& ~~~lm else if i.val = 2 then lm else k.partO[i])
    outs := k.outs.map (fun o => if o.lock.isSome then o.recommand tick false else o) }

/-- A lane that detects a module-level fault sets the lockout request of part O (R199, R271). -/
def LaneK.requestLockout (k : LaneK) : LaneK := { k with partO := vmod k.partO 3 (fun w => w ||| 2) }

/-- Lockout, feedback and open-load fields of the channel registers, as the lanes write them (R277, R300). -/
def State.lockRegs (s : State) (k : LaneK) : State :=
  { s with fld := { s.fld with regs := vmapIdx s.fld.regs (fun c r =>
      let o := k.outs[c]
      { r with cause := o.lock.elim 0 (fun x => x.cause), locked := o.lock.isSome, fbMis := o.fbMis, openLoad := o.openLoad }) } }

/-- One finding outside TICK_EDGE: every running lane does it on its committed part K, the lead lane's records and register
effects stand for all. -/
def State.locStep (s : State) (f : Loc → Loc) : State :=
  let x := f (Loc.start s.leadK)
  let ask (k : LaneK) : LaneK := if x.vflt.isEmpty then k else k.requestLockout
  let s1 := s.modRunK (fun k => ask ((f (Loc.start k)).k.applyLocks s.ms.tick))
  (((s1.lockRegs s1.leadK).putRecs x.recs).locRegs x).voterFaults x.vflt s.acting

/-- The vector map identifier of a lane (R198, R206). -/
def State.vmapOf (s : State) (l : Lane) : Option Word := (s.laneImg l).map (fun i => i.hdr.vmapId)

/-- The lanes publish and expect digests, samples and commits: ticks run (R42, R47), while they have power (R479). -/
def State.inTicks (s : State) : Bool :=
  (s.ms.mode == .run || s.ms.mode == .run2 || s.ms.mode == .lockout) && s.pwr.phase == .normal

/-- A LANE reset that the lane-check block applies, with the count of R227. -/
def State.checkReset (s : State) (l : Lane) : State :=
  let times := recent s.nowNs (s.lane l).lcbResets
  let s1 := s.modLaneSt l (fun x => { x with
    lcbResets := times, wdog := { x.wdog with lcbCnt := satInc 255 x.wdog.lcbCnt } })
  let s2 := s1.laneReset l
  if 3 ≤ times.length then (s2.disableLane l).alarmLane 0xB4 l [] else s2

/-- The lane-check fault (R225-R227): the gate discards every write it holds and closes, the source and the first difference are
recorded, a fault record is latched, ALARM 0xBA, the lane fails the tick with cause 0x3 and takes a LANE reset. In injection mode
the fault path feeds the injection capture alone (R229). A disabled lane is out of service until a reset of the module (R205). -/
def State.laneFault (s : State) (l : Lane) (src : BitVec 4) (diff : Option CmpDiff) : State :=
  let x := s.lane l
  if x.svc == .disabled then s
  else if x.check.injMode then s.modCheck l (fun c => { c with capture := c.capture ++ [src] })
  else
    let s1 := s.modLaneSt l (fun x => { x with
      check := { x.check with fltSrc := src, gateClosed := true, discard := satAdd 255 x.check.discard x.held.length
                              first := x.check.first.or diff }
      held := [] })
    let s2 := s1.latchFault 0x01 (src.setWidth 8) (BitVec.ofNat 8 l.num) (s1.lcbDetail l)
    let s3 := (s2.alarmLane 0xBA l [src.setWidth 8]).failLane l 3
    s3.checkReset l

/-- A watchdog's LANE reset (R241). A lane in service publishes nothing from here on, for which the hub records cause 0x1
(R217). -/
def State.watchdogReset (s : State) (l : Lane) : State :=
  let s1 := s.modLaneSt l (fun x => { x with wdog := { x.wdog with resetCnt := satInc 255 x.wdog.resetCnt } })
  let s2 := s1.latchFault 0x02 0 (BitVec.ofNat 8 l.num) [(s1.lane l).wdog.word]
  ((s2.alarmLane 0xBB l []).exitLane l 1).laneReset l

/-- A failed copy attempt (R209, R211): the lane is OUT again and requests a new copy. -/
def State.copyFailed (s : State) (l : Lane) : State :=
  let s1 := (s.modLaneSt l (fun x => { x with
    svc := .out, regionOk := false, copyReq := true, donor := none, lastCause := 9
    copyFails := satInc 255 x.copyFails })).alarmLane 0xB3 l []
  if (s1.lane l).runsNew && decide (2 ≤ (s1.lane l).copyFails) then s1.trialFailed else s1

/-- CHK of a token: bits [11:0] of the CRC-32C over its 8 bytes with [27:16] set to 0 (R245). -/
def tokenChk (w : DWord) : BitVec 12 :=
  (crc32c (leBytes 8 (w &&& ~~~0x0FFF0000#64).toNat)).setWidth 12

/-- A token or proof word from its fields: TICK, LANE, BANK, and the word's low 16 bits (R245, R263). -/
def mkToken (tick : Tick) (lane bank : Nat) (mask : BitVec 16) : DWord :=
  let w := fields64 [(32, tick.toNat), (30, lane), (28, bank), (0, mask.toNat)]
  w ||| ((tokenChk w).setWidth 64 <<< 16)

/-- An uncorrectable read of lane memory (R226, R235): DGN_ECCADDR, and the lane-check fault with source 0x8. -/
def State.eccFault (s : State) (l : Lane) (r : EccRead) : State :=
  (s.modCheck l (fun c => c.eccAt r true)).laneFault l 8 none

/-- The token of a lane for a bank as its field link sends it: ON_MASK from part O word 0 (R245), 0 while the hub reports
output hold (R248). -/
def State.tokenWord (s : State) (l : Lane) (b : Bank) : DWord :=
  let mask : BitVec 16 := (((s.lane l).region.k.partO[0]) >>> (16 * b.val)).setWidth 16
  mkToken s.ms.tick l.num (b.val + 1) (if s.ms.outHold then 0 else mask)

/-! ### Rows of the tick's limits (R32, R35, R184, R202, R217) -/

/-- A lane's measure of a tick whose P4 is not complete at D (R37): no reserve is left. Its t4 is taken as D, the least that it can
be (DESIGN CHOICE, log 108). -/
def State.lateTick (s : State) (l : Lane) : State :=
  let b := (s.lane l).budget
  let s1 := s.modLaneSt l (fun x => { x with budget := { x.budget with
    winFailed := true, winBelow := true, winReserve := some 0, winT4 := max x.budget.winT4 (s.ms.tUs.toNat - 50), low := true } })
  if b.low then s1 else s1.alarmLane 0xBD l [0]

/-- COMMIT_DEADLINE (R32, R37): P4 of a lane is not complete at D. -/
def execCommitDeadline (l : Lane) (s : State) : Host.Outcome State Fault Refusal :=
  if s.inTicks && (s.lane l).svc.running then .next ((s.lateTick l).failLane l 1) else .next s

/-- P1_WAIT_LIMIT (R184): `missing` are the pairs of a receiver and a member whose block has not reached it. A member that
has no valid block of any other member fails the tick, unless it is the only one. -/
def execP1WaitLimit (missing : List (Lane × Lane)) (s : State) : Host.Outcome State Fault Refusal :=
  let set := s.acting
  let alone (l : Lane) : Bool :=
    l.inMask set && decide (1 < countMask set) &&
    (lanesOf set).all (fun m => m == l || missing.contains (l, m))
  if s.inTicks then .next ((lanesList.filter alone).foldl (fun s l => s.failLane l 5) s) else .next s

/-- P3_WAIT_LIMIT (R202, R217): `missing` are the pairs of a receiver and a lane whose digest message has not reached it. A
lane of which no other lane has a message published none: the hub records cause 0x1. A lane without a message of any other
voter casts no vote, cause 0x7. -/
def execP3WaitLimit (missing : List (Lane × Lane)) (s : State) : Host.Outcome State Fault Refusal :=
  let vote := s.ms.voting
  let others (l : Lane) : List Lane := (lanesOf s.running).filter (fun m => m != l)
  let silent (l : Lane) : Bool :=
    (s.lane l).svc == .inService && !(others l).isEmpty && (others l).all (fun m => missing.contains (m, l))
  let gone := lanesList.filter silent
  let left (l : Lane) : Bool :=
    l.inMask vote && !gone.contains l &&
    (lanesOf vote).all (fun m => m == l || gone.contains m || missing.contains (l, m))
  let unmatched := lanesList.filter left
  if s.inTicks then
    .next (unmatched.foldl (fun s l => s.failLane l 7) (gone.foldl (fun s l => s.failLane l 1) s))
  else .next s

/-- P5_SUSPENSION (R35): a lane's work left is suspended and resumes in the next tick's P5. The tick does not fail. What is left waits
where it stands: the lane commands no snapshot more in the tick, inbound messages stay in their buffers and the outbound posts behind
them, and the scrubber takes the tick's part again (R236). Until then P5 holds work (R476). -/
def execP5Suspension (l : Lane) (s : State) : Host.Outcome State Fault Refusal :=
  if s.inTicks && (s.lane l).svc.running then
    let s1 := if s.ms.p5Left.get l then s else s.modCheck l (fun c => { c with scrubPos := (c.scrubPos + 191) % 192 })
    .next { s1 with ms := { s1.ms with p5Left := s1.ms.p5Left.set l true } }
  else .next s

/-! ### Rows of the lane-check block and the watchdog (R225-R241) -/

/-- A lane's sealed copy enters the transmit buffer beside those of the other lanes (R39, R225). -/
def putCopy (tx : List TxFrame) (l : Lane) (stream : BitVec 12) (tick : Tick) (copy : Sealed) : List TxFrame :=
  if tx.any (fun t => t.stream == stream && t.tick == tick) then
    tx.map (fun t => if t.stream == stream && t.tick == tick then { t with copies := t.copies.set l (some copy) } else t)
  else tx ++ [⟨stream, tick, (PerLane.ofFn (fun _ => none)).set l (some copy), false⟩]

/-- A write is a token refresh. -/
def GateWrite.isToken : GateWrite → Bool
  | .token _ => true
  | _ => false

/-- One write acts outside the lane (R225): a token on its field link, a frame in the transmit buffer. -/
def State.release (s : State) (l : Lane) (w : GateWrite) : State :=
  match w with
  | .token b =>
    if s.bankOut b then
      { s with fld := { s.fld with ifaces := s.fld.ifaces.modify l (fun v =>
          vmod v b (fun i => { i with issued := some (s.tokenWord l b) })) } }
    else s
  | .service => s
  | .descriptor stream tick copy => { s with buf := { s.buf with tx := putCopy s.buf.tx l stream tick copy } }

/-- The gate releases what it holds (R225, R239): a token refresh, or under the latch a SOUND mark, serves the watchdog window. -/
def State.gateRelease (s : State) (l : Lane) : State :=
  let x := s.lane l
  let serves := x.held.any (fun w => w.isToken) || (x.held.contains .service && s.aon.latch)
  let s1 := s.setLane l { x with held := [], wdog := { x.wdog with served := x.wdog.served || serves } }
  x.held.foldl (fun s w => s.release l w) s1

/-- `n` corrections count in the lane's window of 1,024 ticks (R237): ALARM 0xB9 when they pass 16. -/
def State.countCe (s : State) (l : Lane) (n : Nat) : State :=
  let base := (s.lane l).ceWin
  let s1 := s.modLaneSt l (fun x => { x with ceWin := base + n })
  if 16 < base + n && base ≤ 16 then s1.alarmLane 0xB9 l [] else s1

/-- LANE_CHECK_FAULT (R220-R228, R235): cycles of the core pairs until one raises a source, or a read of lane memory. A gate that is
stuck open releases what it holds while the fault is raised, which is recorded as 0x9 (R223, R228; log 103). -/
def execLaneCheckFault (l : Lane) (run : CheckRun) (read : Option EccRead) (s : State) :
    Host.Outcome State Fault Refusal :=
  if (s.lane l).svc == .disabled then .next s
  else
    let r := (s.lane l).runCycles run.hw run.cycles
    let s1 := s.setLane l r.1
    match r.2, read with
    | some (src, diff), _ =>
      if run.hw.gateOpen && !(s.lane l).held.isEmpty then .next ((s1.gateRelease l).laneFault l 9 diff)
      else .next (s1.laneFault l src diff)
    | none, some e =>
      match EccRead.outcome e with
      | .uncorrectable => .next (s1.eccFault l e)
      | .corrected => .next ((s1.modCheck l (fun c => { c.eccAt e false with ceCnt := satInc 65535 c.ceCnt })).countCe l 1)
      | .clean => .next s1
    | none, none => .next s1

/-- COMMIT_GATE_RELEASE (R225, R239): a closed or injecting gate releases nothing. -/
def execCommitGateRelease (l : Lane) (s : State) : Host.Outcome State Fault Refusal :=
  let x := s.lane l
  if x.check.gateClosed || x.check.injMode then .next s else .next (s.gateRelease l)

/-- ALIVE_CHECK (R233): each of the four injections makes only its comparator flag, raises the disagreement and closes the
gate; any deviation is a lane-check fault with source 0x7. A disabled lane has no power (R465). -/
def execAliveCheck (l : Lane) (hw : Checker) (s : State) : Host.Outcome State Fault Refusal :=
  if (s.lane l).svc == .disabled then .next s
  else
    let ok := Checker.aliveOk hw
    let s1 := s.modCheck l (fun c => { c with aliveOk := ok })
    if ok then .next s1 else .next (s1.laneFault l 7 none)

/-- WATCHDOG_WINDOW_END (R33, R239-R241). -/
def execWatchdogWindowEnd (l : Lane) (byTimeout : Bool) (s : State) : Host.Outcome State Fault Refusal :=
  let w := (s.lane l).wdog
  let n := if !w.armed then w.fails else if w.served then 0 else w.fails + 1
  let s1 := s.modLaneSt l (fun x => { x with wdog := { w with timeout := byTimeout, fails := n, served := false } })
  if w.armed && decide (3 ≤ n) then .next (s1.watchdogReset l) else .next s1

/-- COPY_REQUEST_TIMEOUT (R240, R50): a lane still in its reload or proof 2 s after its LANE reset. No test gave a result:
the alarm names order number 0. -/
def execCopyRequestTimeout (l : Lane) (s : State) : Host.Outcome State Fault Refusal :=
  if (s.lane l).svc == .reset && s.ms.mode != .boot && s.ms.mode != .prove then .next (s.proofFailed l 0) else .next s

/-- LANE (R470): a LANE reset. A lane in service publishes nothing from here on, for which the hub records cause 0x1. -/
def execLane (l : Lane) (s : State) : Host.Outcome State Fault Refusal := .next ((s.exitLane l 1).laneReset l)

/-! ### Proof and copy (R207-R210, R229-R231, R489-R492) -/

/-- Exclusions of a lane's replicas end with a passing proof of its field couplers, test 4 (R187, R489). -/
def LaneK.endExclusions (k : LaneK) (l : Lane) : LaneK :=
  { k with ins := k.ins.map (fun i => { i with excl := i.excl.set l false, dissent := i.dissent.set l 0 }) }

/-- Injection mode, available until INJ_LOCK is set (R229). -/
def LaneCheck.injStart (c : LaneCheck) : LaneCheck := if c.injLock then c else { c with injMode := true, capture := [] }

/-- The injections of a sequence in injection mode (R230): a wrong outcome leaves 0xA in the capture and in FLT_SRC (R223). -/
def LaneCheck.injRun (c : LaneCheck) (hw : Checker) : LaneCheck :=
  if c.injMode then
    let miss := Checker.misses hw
    { c with
      injDone := BitVec.ofNat 16 injTotal, injMiss := BitVec.ofNat 16 miss
      fltSrc := if miss = 0 then c.fltSrc else 0xA
      capture := c.capture ++ (if miss = 0 then [] else [0xA]) }
  else c

/-- The end of a sequence: injection mode is off and locked. -/
def LaneCheck.injEnd (c : LaneCheck) : LaneCheck := { c with injMode := false, injLock := true }

/-- The difference injection of a proof (R229, R230). -/
def LaneCheck.inject (c : LaneCheck) (hw : Checker) : LaneCheck := (c.injStart.injRun hw).injEnd

/-- Order number of the first test that failed: a sequence that did not give 4,220 injections without a miss is a failed
test 5 (R231, R489). -/
def proofTest (result : ProofResult) (c : LaneCheck) : Option Nat :=
  match result with
  | some t => some (t.val + 1)
  | none => if c.injDone = 4220 ∧ c.injMiss = 0 then none else some 5

/-- The tests of a lane have run (R489): where test 4 passed its exclusions end, and the injection sequence runs. -/
def State.tested (s : State) (l : Lane) (result : ProofResult) (hw : Checker) : State :=
  let reached (n : Nat) : Bool := match result with
    | some t => decide (n ≤ t.val)
    | none => true
  if reached 4 then (s.modCheck l (fun c => c.inject hw)).modAllK (fun k => k.endExclusions l) else s

/-- A lane that begins without the committed state of a peer begins with the restart values (R99, R147). -/
def State.restartLane (s : State) (l : Lane) : State :=
  match s.laneImg l with
  | some i => s.modLaneSt l (fun x => { x with region := restartRegion i s.node, regionOk := true })
  | none => s

/-- A lane's proof during a rolling proof or a rolling trial has failed (R497, R510). -/
def State.rollFailed (s : State) (l : Lane) (test : Nat) : State :=
  if s.prf.rpLane.toNat = l.num && s.prf.phase == .tests then
    let lanes := s.prf.lanes.modify l (fun p => { p with fail := satInc 255 p.fail })
    { s with
      prf := { s.prf with lastFail := BitVec.ofNat 4 test, lanes := lanes
                          phase := if (s.lane l).proofFails = 0 then .tests else .idle }
      vot := { s.vot with majProofOk := false } }
  else s

/-- LANE_PROOF_DONE (R210, R489-R492): a reset lane that passes posts its copy request, which locks injection mode and arms
its watchdog. Before the first tick there is nothing to copy, and the lane waits for it with the others (R183). -/
def execLaneProofDone (l : Lane) (result : ProofResult) (hw : Checker) (s : State) :
    Host.Outcome State Fault Refusal :=
  if (s.lane l).svc != .reset || (s.lane l).hot || s.ms.mode == .boot || s.ms.mode == .prove then .next s
  else
    let s1 := s.tested l result hw
    match proofTest result (s1.lane l).check with
    | some t => .next ((s1.rollFailed l t).proofFailed l t)
    | none =>
      if s.ms.mode == .join then
        .next ((s1.modLaneSt l (fun x => { x with svc := .inService, proofFails := 0 })).restartLane l)
      else
        let s2 := s1.modLaneSt l (fun x => { x with
          svc := .out, copyReq := true, proofFails := 0, copyFails := 0, wdog := x.wdog.arm
          check := { x.check with injLock := true } })
        .next { s2 with prf := { s2.prf with
          phase := if s2.prf.rpLane.toNat = l.num && s2.prf.phase == .tests then .copy else s2.prf.phase } }

/-! ### Rows of the mode (R45, R48) -/

/-- The RUN-2 limit of the image has passed since the entry into RUN-2 (R48). -/
def State.run2Over (s : State) : Bool :=
  match s.ms.run2Since with
  | some t => decide (0 < s.area.params.run2LimitH) && decide (t + 3600000000000 * s.area.params.run2LimitH ≤ s.nowNs)
  | none => false

/-- RUN2_LIMIT_EXPIRY (R48): the module enters LOCKOUT with cause 0x08. -/
def execRun2LimitExpiry (s : State) : Host.Outcome State Fault Refusal :=
  if s.ms.mode == .run2 && s.run2Over then .next (s.moduleFault 0x08 s.ms.voting) else .next s

/-- HUB_NO_AGREEING_DIGESTS (R45): the hub die sees no two agreeing lane digests for three consecutive ticks. -/
def execHubNoAgreeingDigests (s : State) : Host.Outcome State Fault Refusal :=
  if s.inTicks then .next (s.setLatch 0x07) else .next s

/-! ### Objects whose run ends (R187, R214) -/

/-- DISSENT_RUN_EXCLUSION (R187): a member's run on an input reaches 16. -/
def execDissentRunExclusion (l : Lane) (ch : Chan) (s : State) : Host.Outcome State Fault Refusal :=
  if !(s.chan ch).mode.isIn || s.leadK.ins[ch].excl.get l then .next s
  else
    let set (k : LaneK) : LaneK := { k with ins := vmod k.ins ch (fun i => { i with dissent := i.dissent.set l 15 }) }
    let act : Agreed := ⟨true, false, false, 0, some .active⟩
    .next (s.locStep (fun x => (Loc.dissent { x with k := set x.k } ch act [(l, .inactive)]).1))

/-- The reflex entry of a place (R212, R213). -/
def NodePart.reflexAt (p : NodePart) (entry : Fin 64) : Option ReflexEntry := (p.reflexTable[entry.val]?).join

/-- REFLEX_TIMEOUT (R214): a TIMEOUT entry's LIMIT is reached on a commanded channel; it triggers, latches where it holds, and
forces its channels off in part O: the tick counts as one of off, and their running pulses give no result (R256, R262). -/
def execReflexTimeout (entry : Fin 64) (s : State) : Host.Outcome State Fault Refusal :=
  match s.part.reflexAt entry with
  | none => .next s
  | some en =>
    if en.kind != .timeout then .next s
    else
      let off := en.outMask &&& outMaskOf s.part.chans
      .next (s.modRunK (fun k => { k with
        reflexLatch := vmod k.reflexLatch entry (fun x => x || en.hold)
        cmdRun := vmapIdx k.cmdRun (fun c n => if en.outMask.getLsbD c.val && decide (0 < n) then max n en.limit else n)
        partO := Vector.ofFn (fun i =>
          if i.val = 0 then k.partO[0] &&& ~~~off else if i.val = 1 then k.partO[1] ||| off else k.partO[i])
        outs := vmapIdx k.outs (fun c o => if off.getLsbD c.val then o.recommand s.ms.tick false else o) }))

end Sys2Proof.Machine
end

