-- ==== Sys2Proof/Machine/Lantern.lean ====
section
/-!
DEFINITION. The field dies: tokens, proof words and waveforms (R245-R253, R263), test pulses (R258-R262), test sources and
replicas (R285-R291), trip latch and inrush window (R293, R295), and the output findings whose time ends (R255, R269, R296,
R297).
-/

namespace Sys2Proof.Machine

/-! ### Waveforms (R248-R251) -/

/-- A bank is on: its logic half is switched on (R465) and VFn feeds its field-side half (R12). -/
def State.bankOn (s : State) (b : Bank) : Bool := s.pwr.dom.getLsbD (10 + b.val) && s.pwr.vf[b]

/-- A lane's P domain is on (R465). -/
def State.laneOn (s : State) (l : Lane) : Bool := s.pwr.dom.getLsbD (4 + l.idx)

/-- Bit of a channel in its bank's mask (R245). -/
def bankBit (k : Chan) : Nat := k.val % 16

def State.iface (s : State) (l : Lane) (b : Bank) : Iface := (s.fld.ifaces.get l)[b]

def State.modIface (s : State) (l : Lane) (b : Bank) (f : Iface → Iface) : State :=
  { s with fld := { s.fld with ifaces := s.fld.ifaces.modify l (fun v => vmod v b f) } }

/-- A lane interface produces the waveform of a channel's side: by its valid token, or by a proof word that drives the side
alone; none runs under the lockout latch (R248, R249, R263), and none of a lane whose clock has stopped (R247, R274). -/
def State.waveform (s : State) (l : Lane) (k : Chan) (side : Side) : Bool :=
  let i := s.iface l (bankOf k)
  let byToken : Bool := match i.token with
    | some t => t.mask.getLsbD (bankBit k)
    | none => false
  let byProof : Bool := match i.proof with
    | some (d, m) => d == side && m.getLsbD (bankBit k)
    | none => false
  !s.aon.latch && s.laneOn l && (s.lane l).clockOk && s.bankOn (bankOf k) && (s.chan k).mode.isOut && (byToken || byProof)

/-- The majority element of a channel's side passes a waveform: at least two of the three lanes drive it (R251). -/
def State.majority (s : State) (k : Chan) (side : Side) : Bool := two (PerLane.ofFn (fun l => s.waveform l k side))

def State.modStage (s : State) (k : Chan) (f : Stage → Stage) : State :=
  { s with fld := { s.fld with stages := vmod s.fld.stages k f } }

def Stage.setGate (g : Stage) (side : Side) (v : Bool) : Stage :=
  match side with
  | .high => { g with gateH := v }
  | .low => { g with gateL := v }

def Stage.gate (g : Stage) : Side → Bool
  | .high => g.gateH
  | .low => g.gateL

/-! ### Tokens and gates -/

/-- A lane interface accepts a word as its token (R246). -/
def tokenOk (i : Iface) (l : Lane) (b : Bank) (w : DWord) : Bool :=
  w.extractLsb' 16 12 == tokenChk w && (w.extractLsb' 30 2).toNat == l.num && (w.extractLsb' 28 2).toNat == b.val + 1 &&
  (match i.lastTick with
   | some t => tickGt (w.extractLsb' 32 32) t
   | none => true)

/-- LANTERN_TOKEN (R225, R245-R249, R51): the refresh that the lane's commit gate released last arrives, and the interface of the lane takes
it, or discards and counts it; without one nothing arrives. While the hub reports
output hold the field-link transmitter has forced ON_MASK to 0. -/
def execLanternToken (l : Lane) (b : Bank) (token : DWord) (s : State) : Host.Outcome State Fault Refusal :=
  let i := s.iface l b
  if !s.laneOn l || !s.bankOn b || i.issued.isNone then .next s
  else
    let mask : BitVec 16 := if s.ms.outHold then 0 else token.extractLsb' 0 16
    let tick : Tick := token.extractLsb' 32 32
    if tokenOk i l b token then
      .next (s.modIface l b (fun i => { i with token := some ⟨tick, mask⟩, lastTick := some tick, issued := none }))
    else
      let s1 := s.modIface l b (fun i => { i with discarded := satInc 255 i.discarded, issued := none })
      .next { s1 with vot := { s1.vot with codeRej := satInc 255 s1.vot.codeRej } }

/-- PROOF_WORD (R263): accepted only in PROVE, and from a WITHDRAWN lane in RUN-2; an empty mask ends the drive. -/
def execProofWord (l : Lane) (b : Bank) (side : Side) (mask : BitVec 16) (s : State) :
    Host.Outcome State Fault Refusal :=
  let ok := s.ms.mode == .prove || (s.ms.mode == .run2 && (s.lane l).svc == .withdrawn)
  if ok && s.laneOn l && s.bankOn b then
    .next (s.modIface l b (fun i => { i with proof := if mask = 0 then none else some (side, mask) }))
  else .next s

/-- TOKEN_EXPIRY (R247): every waveform of the lane on this die stops. -/
def execTokenExpiry (l : Lane) (b : Bank) (s : State) : Host.Outcome State Fault Refusal :=
  .next (s.modIface l b (fun i => { i with token := none }))

/-- GATE_DRIVE_LOST (R252, R253): a dropout of the majority waveform below 20 µs keeps drive, one above 40 µs loses it, and
between the two the outcome is open. Without drive there is none to lose. -/
def execGateDriveLost (ch : Chan) (side : Side) (dropoutUs : Nat) (s : State) : Host.Outcome State Fault Refusal :=
  if !s.fld.stages[ch].gate side || dropoutUs < 20 then .next s
  else if 40 < dropoutUs then .next (s.modStage ch (fun g => g.setGate side false))
  else
    let s1 := s.modStage ch (fun g => g.setGate side (Config.freeGate s.free))
    .next { s1 with free := s.free + 1 }

/-- GATE_DRIVE_REACHED (R252, R253, R293): while the majority waveform runs and no trip latch is set; the inrush window
starts. -/
def execGateDriveReached (ch : Chan) (side : Side) (s : State) : Host.Outcome State Fault Refusal :=
  if s.majority ch side && !s.fld.stages[ch].trip && !s.fld.stages[ch].gate side then
    .next (s.modStage ch (fun g => { g.setGate side true with inrush := true }))
  else .next s

/-- INRUSH_WINDOW_END (R293). -/
def execInrushWindowEnd (ch : Chan) (s : State) : Host.Outcome State Fault Refusal :=
  .next (s.modStage ch (fun g => { g with inrush := false }))

/-- TRIP_LATCH_SET (R295): the gate drive of both switches goes at once. -/
def execTripLatchSet (ch : Chan) (s : State) : Host.Outcome State Fault Refusal :=
  if (s.chan ch).mode.isOut then
    .next (s.modStage ch (fun g => { g with trip := true, gateH := false, gateL := false }))
  else .next s

/-- TRIP_LATCH_CLEAR (R295): once both majority waveforms of the channel have been stopped for 1 ms. -/
def execTripLatchClear (ch : Chan) (s : State) : Host.Outcome State Fault Refusal :=
  if s.majority ch .high || s.majority ch .low then .next s
  else .next (s.modStage ch (fun g => { g with trip := false }))

/-- PHASE_MARK (R250): each lane that the mark reaches realigns; where marks stop, the lane keeps its phase and raises ALARM
0xC6 once. -/
def execPhaseMark (arrived : PerLane Bool) (s : State) : Host.Outcome State Fault Refusal :=
  .next (lanesList.foldl (fun s l =>
    if !s.laneOn l then s
    else
      let got := arrived.get l
      let lost := s.vot.markLost.get l
      let v := s.vot
      let v1 : Vot := { v with
        markSeen := v.markSeen.set l (v.markSeen.get l || got)
        markMiss := v.markMiss.set l (v.markMiss.get l || !got)
        markLost := v.markLost.set l (!got) }
      let s1 : State := { s with vot := v1 }
      if !got && !lost then s1.alarmLane 0xC6 l [] else s1) s)

/-! ### Test pulses (R258-R262) -/

/-- `n` test intervals of the channel have passed since the kind began to be counted (R258). -/
def State.pulseAge (s : State) (ch : Chan) (r : PulseRun) (n : Nat) : Bool :=
  match r.since with
  | some t => decide (msTicks s.ms.tUs (n * (s.chan ch).testS * 1000) ≤ (s.ms.tick - t).toNat)
  | none => false

/-- TEST_PULSE_DUE (R258): the kind's interval has passed since it began to be counted. -/
def execTestPulseDue (ch : Chan) (kind : PulseKind) (s : State) : Host.Outcome State Fault Refusal :=
  if !(s.chan ch).mode.isOut then .next s
  else
    .next (s.modRunK (fun k => { k with outs := vmod k.outs ch (fun o =>
      let r := o.run kind
      o.setRun kind { r with due := r.due || s.pulseAge ch r 1 }) }))

/-- TEST_PULSE_OVERDUE (R258): no agreed result within twice the interval; ALARM 0xC1, and the channel stays in service. A pulse that a
dissent step moved does not count (R496). -/
def execTestPulseOverdue (ch : Chan) (kind : PulseKind) (s : State) : Host.Outcome State Fault Refusal :=
  let r := (s.leadK.outs[ch]).run kind
  if !(s.chan ch).mode.isOut || !s.pulseAge ch r 2 || r.overdue || r.moved then .next s
  else
    let s1 := s.modRunK (fun k => { k with outs := vmod k.outs ch (fun o => o.setRun kind { o.run kind with overdue := true }) })
    let s2 : State := { s1 with vot := { s1.vot with overdueCnt := satInc 255 s1.vot.overdueCnt } }
    .next (s2.alarmChan 0xC1 ch [])

/-- Place of a pulse kind (R259). -/
def ChanCfg.place (c : ChanCfg) : PulseKind → PulsePlace
  | .darkHigh => c.placeDH
  | .darkLow => c.placeDL
  | .lowSide => c.placeLS

/-- The agreed Echo at the last edge lets a pulse run (R260): the expected on state for a dark pulse, H MID and L MID for a
low-side pulse. -/
def ChReg.letsPulse (r : ChReg) : PulseKind → Bool
  | .lowSide => r.h == 1 && r.l == 1
  | _ => r.h == 2 && r.l == 0 && r.gdH && r.gdL

/-- The table of R261: what a sample of Echo shows once the pulse acts, what it shows until the end of d, and what it shows again
after it. -/
def pulseActs : PulseKind → EchoItem → Bool
  | .darkHigh, e => !e.gdH && e.h != .high
  | .darkLow, e => !e.gdL && e.l != .low
  | .lowSide, e => e.gdL && e.l == .low

def pulseHolds : PulseKind → EchoItem → Bool
  | .darkHigh, e => e.h != .high
  | .darkLow, e => e.l != .low
  | .lowSide, e => e.l == .low

def pulseEnds : PulseKind → EchoItem → Bool
  | .lowSide, e => e.h == .mid && e.l == .mid && !e.gdL
  | _, e => e.h == .high && e.l == .low && e.gdH && e.gdL

/-- A lane's pass (R261): the pulse acts within 60 µs of its start, holds from there to the end of d, and its end shows within
200 µs. -/
def pulsePasses (kind : PulseKind) (o : PulseObs) : Bool :=
  match o.start.dropWhile (fun e => !pulseActs kind e) with
  | [] => false
  | _ :: r => (r ++ o.hold).all (pulseHolds kind) && o.after.any (pulseEnds kind)

/-- A pulse of the channel that starts in this tick has its pulse or Echo window beside a dissent step (R496): steps begin t4max + 50 µs
behind the first and the second edge after the withdrawal, and last 700 µs. -/
def State.meetsDissent (s : State) (ch : Chan) (kind : PulseKind) : Bool :=
  let t := s.ms.tUs.toNat
  let at_ := (s.ms.tick - s.prf.startTick).toNat * t + ((s.chan ch).place kind).ofsUs
  let len := (s.chan ch).pulse10us * 10 + 200
  s.prf.phase != .idle && [1, 2].any (fun k =>
    let step := k * t + s.part.t4maxUs + 50
    decide (at_ < step + 700) && decide (step < at_ + len))

/-- TEST_PULSE (R259-R261, R270, R496): a due pulse at its place, or a retest's at once, for the lanes whose interface holds a token
of this tick. The result is due in P1 of the first tick whose edge follows the end of the Echo window, 200 µs after the
pulse. A pulse that would meet a dissent step is moved to its next place. Where P2 of the tick has changed the channel's command, the
pulse gives no result (R262). -/
def execTestPulse (ch : Chan) (kind : PulseKind) (obs : PerLane PulseObs) (s : State) :
    Host.Outcome State Fault Refusal :=
  let c := s.chan ch
  let o := s.leadK.outs[ch]
  let pl := c.place kind
  let q := s.part.pulseCycle[bankOf ch]
  let here := (o.run kind).atOnce || (decide (0 < q) && decide (s.ms.tick.toNat % q = pl.phase))
  let ok := c.mode.isOut && (o.run kind).due && o.pend.all (fun p => p.kind != kind) && o.lock.isNone && !s.aon.latch && here &&
    s.fld.regs[ch].letsPulse kind && s.inTicks
  let mark (b : Bool) (o : OutK) : OutK := o.setRun kind { o.run kind with moved := b }
  let on := s.leadK.partO[0].getLsbD ch.val
  if !ok || s.ms.tUs.toNat = 0 then .next s
  else if s.meetsDissent ch kind then .next (s.modRunK (fun k => { k with outs := vmod k.outs ch (mark true) }))
  else if on != (kind != .lowSide) then .next { s with vot := { s.vot with noResult := satInc 255 s.vot.noResult } }
  else
    let res : PerLane (Option Bool) := PerLane.ofFn (fun l =>
      let r := obs.get l
      let held : Bool := match (s.iface l (bankOf ch)).token with
        | some t => t.tick == s.ms.tick
        | none => false
      if r.ran && held && l.inMask s.ms.voting && (s.lane l).clockOk then some (pulsePasses kind r) else none)
    let due : Tick := s.ms.tick + 1 + BitVec.ofNat 32 ((pl.ofsUs + c.pulse10us * 10 + 200) / s.ms.tUs.toNat)
    .next (s.modRunK (fun k => { k with outs := vmod k.outs ch (fun o => mark false { o with pend := o.pend ++ [⟨kind, due, res⟩] }) }))

/-! ### Test sources and replicas (R285-R291) -/

def State.modRep (s : State) (l : Lane) (k : Chan) (f : Replica → Replica) : State :=
  { s with fld := { s.fld with reps := s.fld.reps.modify l (fun v => vmod v k f) } }

/-- A lane's test-source waveform reaches the source (R281, R291): the lockout latch stops it with every other waveform (R248), and
so does a lane clock that has stopped; output hold does not (R51). -/
def State.laneDrives (s : State) (l : Lane) (src : Chan) : Bool :=
  !s.aon.latch && s.laneOn l && (s.lane l).clockOk && s.bankOn (bankOf src) && (s.fld.srcWave.get l)[src]

/-- A test source is driven by the logical OR of the three lanes' waveforms (R291). -/
def State.sourceDriven (s : State) (src : Chan) : Bool := lanesList.any (fun l => s.laneDrives l src)

/-- A lane that fails to gap keeps the source driving through the OR (R291). -/
def State.gapHeld (s : State) (src : Chan) (obs : PerLane GapObs) : Bool :=
  lanesList.any (fun l => s.laneDrives l src && (obs.get l).noGap)

/-- TEST_SOURCE_GAP (R287-R291): in the gap of the present tick, each lane checks the source on its H land, and every input tested
against it: a reading active in the last 50 µs sets fault kind 0x2 until two checks pass. -/
def execTestSourceGap (src : Chan) (obs : PerLane GapObs) (s : State) : Host.Outcome State Fault Refusal :=
  if s.fld.srcGap != some src then .next s
  else
    let tested := (allFin 48).filter (fun k => (s.chan k).mode == .inputTested && (s.chan k).link == some src)
    let driven := s.sourceDriven src
    let held := s.gapHeld src obs
    let s1 := lanesList.foldl (fun s l =>
      let g := obs.get l
      let s1 := s.modRep l src (fun r => { r with srcOk := driven && g.highBefore && g.lowInGap && !held })
      tested.foldl (fun s k => s.modRep l k (fun r =>
        { r with ownGap := if g.activeIn.contains k then 2 else r.ownGap - 1 })) s1) s
    .next { s1 with fld := { s1.fld with srcGap := none } }

/-- Class of a reading (R286): in the band the previous class, `band` where there is none. A channel without wire-break detection reads two
levels alone; another reading of it is none. -/
def readClass (mode : ChMode) (prev : Option RawLevel) (x : RawLevel) : Option RawLevel :=
  match x with
  | .inactive => some .inactive
  | .active => some .active
  | .wireBreak => if mode == .inputWb then some .wireBreak else none
  | .band => if mode == .inputWb then some (prev.getD .band) else none

/-- Level that a class gives the filter (R285, R286); none in the band from power-up on. -/
def classLevel : RawLevel → Option Level
  | .inactive => some .inactive
  | .active => some .active
  | .wireBreak => some .wireBreak
  | .band => none

/-- An instant, in µs from the present edge, lies in the own-gap window of a channel tested against `src`: from the start of the
source's gap, 100 µs after its edge, to 150 µs after the gap's end (R287, R288). -/
def State.inGapWindow (s : State) (src : Chan) (at_ : Int) : Bool :=
  let t : Int := s.ms.tUs.toNat
  if t = 0 || !s.inTicks then false
  else
    let n : Int := s.ms.tick.toNat + at_ / t
    let o := at_ % t
    decide (100 ≤ o) && decide (o ≤ 450) && decide (n % (s.sources.length : Int) = (s.sources.idxOf src : Int))

/-- A reading at an instant that shows another level contradicts a change to `level` (R285), but for one that shows inactive in the
own-gap window of a tested input (R288). -/
def State.contradicts (s : State) (c : ChanCfg) (level : RawLevel) (at_ : Int) : Bool :=
  match c.link with
  | some src => !(c.mode == .inputTested && level == .active && s.inGapWindow src at_)
  | none => true

/-- REPLICA_FILTER_CHANGE (R59, R285, R286, R288): a replica reads `level`. The output takes its class once no contradicting one has
occurred for t_filt; the first output needs readings for t_filt since the bank was switched on. -/
def execReplicaFilterChange (l : Lane) (ch : Chan) (level : RawLevel) (run : FilterRun) (s : State) :
    Host.Outcome State Fault Refusal :=
  let c := s.chan ch
  let r := (s.fld.reps.get l)[ch]
  if !c.mode.isIn || !s.bankOn (bankOf ch) then .next s
  else
    match readClass c.mode r.raw level with
    | none => .next s
    | some k =>
      let filt : Int := c.filt.toNat * 100
      let recentBad := run.other.any (fun a => decide ((run.nowUs : Int) - filt < a) && decide (a < (run.nowUs : Int)) && s.contradicts c k a)
      let old := r.settled || decide (r.since + 100000 * c.filt.toNat ≤ s.nowNs + 1000 * run.nowUs)
      let s1 := s.modRep l ch (fun r => { r with raw := some k })
      match classLevel k with
      | some v => if recentBad || !old then .next s1 else .next (s1.modRep l ch (fun r => { r with out := v, settled := true }))
      | none => .next s1

/-! ### Output findings whose time ends (R255, R269, R296, R297) -/

/-- ECHO_SPLIT_MISMATCH (R255): the third split tick in a row. -/
def execEchoSplitMismatch (ch : Chan) (s : State) : Host.Outcome State Fault Refusal :=
  if !s.inTicks || !(s.chan ch).mode.isOut then .next s
  else .next (s.locStep (fun x => (x.modOut ch (fun o => { o with echoSplit := 2 })).echoSplit s.ms.tick ch true))

/-- FEEDBACK_MISMATCH_WINDOW (R269): a mismatch outlasts its window. -/
def execFeedbackMismatchWindow (ch : Chan) (s : State) : Host.Outcome State Fault Refusal :=
  if !s.inTicks || (s.chan ch).mode != .outputFb then .next s else .next (s.locStep (fun x => x.lock s.ms.tick ch 8))

/-- OVERLOAD_TIMEOUT (R296): OVER agreed in every tick for 100 ms on a channel that is settled on. -/
def execOverloadTimeout (ch : Chan) (s : State) : Host.Outcome State Fault Refusal :=
  if !s.inTicks || !(s.chan ch).mode.isOut || !settledOn s.ms.tUs s.leadK.outs[ch] then .next s
  else .next (s.locStep (fun x => x.lock s.ms.tick ch 7))

/-- BANK_OVERLOAD (R297): the tenth consecutive edge with a sum above 6.5 A. -/
def execBankOverload (b : Bank) (s : State) : Host.Outcome State Fault Refusal :=
  if !s.inTicks then .next s
  else
    let s1 := s.locStep (fun x =>
      ({ x with k := { x.k with ovl := vmod x.k.ovl b (fun _ => 9) } }).bank s.part.chans s.ms.tick b true)
    .next { s1 with fld := { s1.fld with banks := vmod s1.fld.banks b (fun r => { r with ovl := true }) } }

end Sys2Proof.Machine
end

