-- ==== Sys2Proof/Machine/Shared.lean ====
section
/-!
DEFINITION. The hub's shared resources: lock registers (R402-R405), freezes (R401), the check-value channels
(R423-R428), and the latched reads of the time counter (R334).
-/

namespace Sys2Proof.Machine

/-! ### Locks (R402-R405) -/

/-- What a read of a lock by `m` returns and leaves (R402): a free lock is taken, by any master but the hub movers. -/
def Lck.read (k : Lck) (m : Master) : Lck × Word :=
  if k.owner = 0 && m != .hubMovers then
    (⟨m.id, false⟩, fields32 [(31, 1), (30, b2n k.orphanPend), (0, m.id.toNat)])
  else (k, fields32 [(0, k.owner.toNat)])

/-- A read of a lock that its arbiter has granted (R402). -/
def State.lckTake (s : State) (m : Master) (i : Fin 64) : State :=
  let r := s.sh.locks[i].read m
  ({ s with sh := { s.sh with locks := vmod s.sh.locks i (fun _ => r.1) } } : State).answer [r.2]

/-- A read of a lock through its arbiter (R402, R404). -/
def State.lckRead (s : State) (m : Master) (i : Fin 64) (rivals : List Master) : State :=
  if s.hostBlind m then (s.answer [0])
  else s.onPort 1 m rivals (.lckRead i) (fun s => s.lckTake m i)

/-- LCK_READ (R402, R404). -/
def execLckRead (m : Master) (i : Fin 64) (rivals : List Master) (s : State) : Host.Outcome State Fault Refusal :=
  .next (s.lckRead m i rivals)

/-- A write to a lock (R403): the holder's own identifier frees it, and any other write is ignored and counted. -/
def Shared.lockWrite (h : Shared) (m : Master) (i : Fin 64) (val : Word) : Shared :=
  if h.locks[i].owner == m.id && val.setWidth 4 == m.id then
    { h with locks := vmod h.locks i (fun k => { k with owner := 0 }) }
  else { h with ignMaster := m.id, ignCnt := satInc 65535 h.ignCnt }

/-- A write to a lock through its arbiter (R403). -/
def State.lckWrite (s : State) (m : Master) (i : Fin 64) (val : Word) (rivals : List Master) : State :=
  if s.hostBlind m then s
  else s.onPort 1 m rivals (.lckWrite i val) (fun s => { s with sh := s.sh.lockWrite m i val })

/-- LCK_WRITE (R403). -/
def execLckWrite (m : Master) (i : Fin 64) (val : Word) (rivals : List Master) (s : State) :
    Host.Outcome State Fault Refusal :=
  .next (s.lckWrite m i val rivals)

/-- Bits of LCK_ORPHAN_LO or LCK_ORPHAN_HI that are written as 1 clear (R405). -/
def Shared.orphanWrite (h : Shared) (hi : Bool) (val : Word) : Shared :=
  let v : DWord := if hi then val.setWidth 64 <<< 32 else val.setWidth 64
  { h with orphan := h.orphan &&& ~~~v }

/-- A write to LCK_ORPHAN_LO or LCK_ORPHAN_HI (R405). -/
def State.orphanClear (s : State) (hi : Bool) (val : Word) : State :=
  if s.pwr.d3hot then s
  else s.onPort 1 .hostNonsecure [] (.orphan hi val) (fun s => { s with sh := s.sh.orphanWrite hi val })

/-- LCK_ORPHAN_CLEAR (R7, R405): bits written as 1 clear. -/
def execLckOrphanClear (hi : Bool) (val : Word) (s : State) : Host.Outcome State Fault Refusal :=
  .next (s.orphanClear hi val)

/-! ### Freezes (R401) -/

/-- A freeze ends; with the last of them the mask is empty. -/
def Shared.unfreeze (h : Shared) (res : Fin 6) : Shared :=
  let f := h.freeze &&& ~~~(1#6 <<< res.val)
  { h with freeze := f, mask := if f = 0 then 0 else h.mask }

/-! ### Check-value channels (R423-R428) -/

/-- Owner of a channel (R423). -/
def crcOwned (m : Master) (ch : Fin 16) : Bool :=
  match m with
  | .laneA => decide (ch.val < 4)
  | .laneB => decide (4 ≤ ch.val) && decide (ch.val < 8)
  | .laneC => decide (8 ≤ ch.val) && decide (ch.val < 12)
  | .hostSecure => decide (12 ≤ ch.val)
  | .hostNonsecure => decide (12 ≤ ch.val)
  | _ => false

/-- START (R421, R426): the register takes INIT, or the seed while SEED_EN is 1, and the settings then in force. -/
def Crc.start (c : Crc) : Crc :=
  { c with
    runSel := c.sel
    reg := BitVec.ofNat 64 (if c.seedEn then crcMask c.sel c.seed.toNat else crcInit c.sel)
    cnt := 0 }

/-- A write to CRC_CFG: SEL and SEED_EN, and START where bit 4 is 1. -/
def Crc.writeCfg (c : Crc) (v : Word) : Crc :=
  let c1 : Crc := { c with sel := v.setWidth 2, seedEn := v.getLsbD 8 }
  if v.getLsbD 4 then c1.start else c1

/-- Bytes of a write by its strobes (R425); none for a pattern that feeds nothing. -/
def strobed (t : Strobes) (v : Word) : Option (List Byte) :=
  let b (i : Nat) : Byte := (v >>> (8 * i)).setWidth 8
  match t.b0, t.b1, t.b2, t.b3 with
  | true, false, false, false => some [b 0]
  | false, true, false, false => some [b 1]
  | false, false, true, false => some [b 2]
  | false, false, false, true => some [b 3]
  | true, true, false, false => some [b 0, b 1]
  | false, false, true, true => some [b 2, b 3]
  | true, true, true, true => some [b 0, b 1, b 2, b 3]
  | _, _, _, _ => none

/-- A write to CRC_DATA (R425). -/
def Crc.feed (c : Crc) (t : Strobes) (v : Word) : Crc :=
  match strobed t v with
  | some bs => { c with reg := BitVec.ofNat 64 (bs.foldl (crcFeed c.runSel) c.reg.toNat), cnt := satAdd 0xFFFFFFFF c.cnt bs.length }
  | none => { c with feedErr := satInc 255 c.feedErr }

def State.modCrc (s : State) (ch : Fin 16) (f : Crc → Crc) : State :=
  { s with crc := { s.crc with chans := vmod s.crc.chans ch f } }

/-- A write to a channel by a master that does not own it is discarded and counted (R423, R432). -/
def State.crcDenied (s : State) (m : Master) : State :=
  { s with crc := { s.crc with denyCnt := satInc 65535 s.crc.denyCnt, denyMaster := m.id } }

/-- A write takes effect in its channel (R425, R426). -/
def Crc.write (c : Crc) (w : CrcWrite) : Crc :=
  match w with
  | .cfg v => c.writeCfg v
  | .seedLo v => { c with seed := (c.seed &&& 0xFFFFFFFF00000000#64) ||| v.setWidth 64 }
  | .seedHi v => { c with seed := (c.seed &&& 0x00000000FFFFFFFF#64) ||| (v.setWidth 64 <<< 32) }
  | .data t v => c.feed t v

/-- Writes to a channel wait at its feed port. -/
def Shared.crcWaits (h : Shared) (ch : Fin 16) : Bool :=
  h.waiting.any (fun w => match w.what with
    | .crc c _ => c == ch
    | _ => false)

def State.crcWait (s : State) (m : Master) (ch : Fin 16) (w : CrcWrite) : State :=
  { s with sh := { s.sh with waiting := s.sh.waiting ++ [⟨2, m, .crc ch w⟩] } }

/-- A write meets the feed port in its order (R425, R426): a beat of data needs a grant, and no write passes one of its channel that waits. -/
def State.crcMeet (s : State) (m : Master) (ch : Fin 16) (w : CrcWrite) (rivals : List Master) : State :=
  if s.sh.crcWaits ch then s.crcWait m ch w
  else
    match w with
    | .data _ _ =>
      let g := s.sh.round 2 m rivals
      let s1 : State := { s with sh := g.1 }
      if g.2 then s1.modCrc ch (fun c => c.write w) else s1.crcWait m ch w
    | _ => s.modCrc ch (fun c => c.write w)

/-- An access that waits goes on where it is a write of the feed port; another keeps its place. -/
def State.crcGoOn (s : State) (w : HubWait) : State :=
  match w.what with
  | .crc ch x => s.crcMeet w.m ch x []
  | _ => { s with sh := { s.sh with waiting := s.sh.waiting ++ [w] } }

/-- Waiting writes of the feed port go on, in their order (R425): those that lost a round, and those whose freeze has ended. The rounds
that they then need end before the next command (log 148). -/
def State.crcDrain (s : State) : State :=
  s.sh.waiting.foldl State.crcGoOn { s with sh := { s.sh with waiting := [] } }

/-- A write to a check-value channel by a master (R423). -/
def State.crcPut (s : State) (m : Master) (ch : Fin 16) (w : CrcWrite) (rivals : List Master) : State :=
  if s.hostBlind m then s
  else if !crcOwned m ch then s.crcDenied m
  else s.crcDrain.crcMeet m ch w rivals

/-- A write to a check-value register on the register bus (R396, R423). -/
def State.crcBus (s : State) (m : Master) (ch : Fin 16) (w : CrcWrite) : State :=
  if s.hostBlind m then s else s.onPort 1 m [] (.crc ch w) (fun s => s.crcPut m ch w [])

/-- The accesses of CRC_START: the seed registers, where given, then CRC_CFG. Each is a write of its own, on the register bus (R396, R423). -/
def State.crcStart (s : State) (m : Master) (ch : Fin 16) (cfg : Word) (seed : Option DWord) : State :=
  let seeds : List CrcWrite := match seed with
    | some v => [.seedLo (v.extractLsb' 0 32), .seedHi (v.extractLsb' 32 32)]
    | none => []
  (seeds ++ [CrcWrite.cfg cfg]).foldl (fun s w => s.crcBus m ch w) s

/-- CRC_START (R421, R426): the seed registers where they are written first, then CRC_CFG. -/
def execCrcStart (m : Master) (ch : Fin 16) (cfg : Word) (seed : Option DWord) (s : State) :
    Host.Outcome State Fault Refusal :=
  .next (s.crcStart m ch cfg seed)

/-- CRC_DATA_WRITE (R423, R425): a beat of the feed port; one that is not granted waits and is not lost. -/
def execCrcDataWrite (m : Master) (ch : Fin 16) (strb : Strobes) (val : Word) (rivals : List Master) (s : State) :
    Host.Outcome State Fault Refusal :=
  .next (s.crcPut m ch (.data strb val) rivals)

/-- A read of CRC_RES_LO (R427): the writes that reached the channel are processed; the upper half is latched. -/
def State.crcResult (s : State) (ch : Fin 16) : State :=
  let s1 := s.crcDrain
  let v := s1.crc.chans[ch].result
  (s1.modCrc ch (fun c => { c with resHi := BitVec.ofNat 32 (v / 4294967296) })).answer [BitVec.ofNat 32 v]

/-- A read of CRC_RES_LO by a master, on the register bus. -/
def State.crcResLo (s : State) (m : Master) (ch : Fin 16) : State :=
  if s.hostBlind m then (s.answer [0])
  else s.onPort 1 m [] (.crcRes ch) (fun s => s.crcResult ch)

/-- CRC_RES_LO_READ (R423, R427): any master may read any channel. -/
def execCrcResLoRead (r : CrcRead) (s : State) : Host.Outcome State Fault Refusal :=
  .next (s.crcResLo r.m r.ch)

/-! ### Latched reads of the time counter (R334, R534) -/

/-- A read of the lower half of the time counter (R334). -/
def State.timNowLo (s : State) : State :=
  if s.pwr.d3hot then (s.answer [0])
  else
    let t := s.aon.timeNs
    (({ s with aon := { s.aon with timeLatch := t.extractLsb' 32 32 } } : State).answer [t.setWidth 32])

/-- TIM_NOW_LO_READ, and the read of its alias AON_NOW_LO: the upper half is latched for both names. -/
def execTimNowLoRead (s : State) : Host.Outcome State Fault Refusal :=
  .next s.timNowLo

/-- A read of the lower half of the tick base (R334). -/
def State.timTbaseLo (s : State) : State :=
  if s.pwr.d3hot then (s.answer [0])
  else
    let t := s.tim.tbase
    (({ s with tim := { s.tim with tbaseLatch := t.extractLsb' 32 32 } } : State).answer [t.setWidth 32])

/-- TIM_TBASE_LO_READ (R334). -/
def execTimTbaseLoRead (s : State) : Host.Outcome State Fault Refusal :=
  .next s.timTbaseLo

end Sys2Proof.Machine
end

