-- ==== Sys2Proof/Machine/Galleries.lean ====
section
/-!
DEFINITION. Slot entries and galleries (R346, R347, R349-R351), and switching between them (R352-R356).
-/

namespace Sys2Proof.Machine

/-! ### Slot entries (R346, R347) -/

/-- Entry kinds (R347). -/
inductive EntryKind where
  | stop | tx | rx | fwd | brg | link | cs | reserved
deriving DecidableEq, Repr

/-- KIND of an entry word. -/
def entryKind (w : DWord) : EntryKind :=
  match (w.extractLsb' 61 3).toNat with
  | 0 => .stop
  | 1 => .tx
  | 2 => .rx
  | 3 => .fwd
  | 4 => .brg
  | 5 => .link
  | 6 => .cs
  | _ => .reserved

/-- ID as a TX entry's stream. -/
def entryStream (w : DWord) : BitVec 12 := w.extractLsb' 48 12

/-- ID [55:48] as a bridge group. -/
def entryGroup (w : DWord) : Nat := (w.extractLsb' 48 8).toNat

/-- BRIDGED of an RX or FWD entry. -/
def entryBridged (w : DWord) : Bool := w.getLsbD 59

/-- OFFSET in ns from the edge. -/
def entryNs (w : DWord) : Nat := 8 * (w.extractLsb' 0 24).toNat

/-- NQ: length of the planned frame in units of 4 bytes (R346). -/
def entryNq (w : DWord) : Nat := (w.extractLsb' 34 14).toNat

/-- Entry `i` of a port table; unused entries read 0. -/
def Gallery.entry (g : Gallery) (p : Port) (i : Nat) : DWord := g.tables[p].getD i 0

/-- The entries of a port table, with their index, up to its first END (R346). -/
def liveEntries (t : AMap DWord) : List (Nat × DWord) :=
  (((List.range t.length).zip t).takeWhile (fun p => p.2.1 == p.1 && p.1 < 4096 && entryKind p.2.2 != .stop)).map (fun p => p.2)

/-- The entries of a port of the gallery in use. -/
def State.portEntries (s : State) (p : Port) : List (Nat × DWord) := liveEntries ((s.gal.gals[s.gal.active]).tables[p])

/-- Entry `i` of a port of the gallery in use; 0 behind the table's first END. -/
def State.slotEntry (s : State) (p : Port) (i : Nat) : DWord := ((s.portEntries p)[i]?).elim 0 (fun e => e.2)

/-- The first entry of a kind at a port of the gallery in use, with its index. -/
def State.findEntry (s : State) (p : Port) (k : EntryKind) : Option (Nat × DWord) :=
  (s.portEntries p).find? (fun e => entryKind e.2 == k)

/-- G of the gallery in use, in ns. -/
def State.guardNs (s : State) : Nat := 8 * (s.gal.gals[s.gal.active]).guard

/-! ### Descriptors (R349) -/

/-- DIGEST: CRC-64 over the four port tables in port order, unused entries, which stand behind a table's first END (R346), read as 0. -/
def galleryDigest (tables : Vector (AMap DWord) 4) : DWord :=
  crc64 (tables.toList.flatMap (fun t =>
    let l : List DWord := (liveEntries t).map (fun e => e.2)
    (l ++ List.replicate (4096 - l.length) 0).flatMap (fun (w : DWord) => leBytes 8 w.toNat)))

/-- A gallery as the image holds it, VALID (R349). -/
def galleryOf (c : GalleryCfg) : Gallery :=
  let tables : Vector (AMap DWord) 4 := c.tables.map (fun l =>
    (l.zip (List.range 4096)).foldl (fun (m : AMap DWord) p => if p.1 = 0 then m else m.set p.2 p.1) [])
  { version := c.version, guard := c.guard, state := .valid, digest := galleryDigest tables, tables := tables }

/-- A table holds the reserved KIND; such a gallery is not VALID (R347). -/
def Gallery.reserved (g : Gallery) : Bool := g.tables.toList.any (fun t => t.any (fun p => entryKind p.2 == .reserved))

/-- The galleries that a node part holds are VALID and the others EMPTY (R349). -/
def State.loadGalleries (s : State) (part : NodePart) : State :=
  { s with gal := { s.gal with gals := Vector.ofFn (fun i => match part.galleries.get? i.val with
      | some c =>
        let g := galleryOf c
        if g.reserved then Gallery.reset else g
      | none => Gallery.reset) } }

def State.modGallery (s : State) (g : Fin 8) (f : Gallery → Gallery) : State :=
  { s with gal := { s.gal with gals := vmod s.gal.gals g f } }

/-- A gallery is write-locked (R350): ACTIVE, PENDING, or PREVIOUS. -/
def State.galLocked (s : State) (g : Fin 8) : Bool :=
  s.gal.active == g || s.gal.pending == some g || s.gal.previous == some g

/-- A discarded write (R350). -/
def State.galDrop (s : State) (m : Master) (g : Fin 8) : State :=
  { s with gal := { s.gal with wdrop := satInc 65535 s.gal.wdrop, wdropGal := g, wdropMaster := m.id } }

/-- Masters whose path leads to the GAL write port (R349). -/
def galMaster (m : Master) : Bool := m.isLane || m == .updateMover

/-- A granted write of an entry (R349-R351). -/
def State.galEntryPut (s : State) (m : Master) (g : Fin 8) (p : Port) (idx : Fin 4096) (entry : DWord) : State :=
  if s.galLocked g then s.galDrop m g
  else s.modGallery g (fun x => { x with
    state := .loading
    tables := vmod x.tables p (fun t => if entry = 0 then t.del idx.val else t.set idx.val entry) })

/-- A granted commit (R349, R350): the gallery becomes VALID if DIGEST equals the expected one, and EMPTY otherwise. -/
def State.galCommitPut (s : State) (m : Master) (g : Fin 8) (digest : DWord) : State :=
  if s.galLocked g then s.galDrop m g
  else s.modGallery g (fun x =>
    let d := galleryDigest x.tables
    { x with digest := d, state := if d = digest && !x.reserved then .valid else .empty })

/-- The expected DIGEST of a node's gallery (R349). -/
def State.expectedDigest (s : State) (n : BitVec 12) (g : Fin 8) : Option DWord :=
  (s.area.expDigest.find? (fun e => e.1 == n && e.2.1 == g)).map (fun e => e.2.2)

/-- GALLERY_ENTRY_WRITE (R349-R351). -/
def execGalleryEntryWrite (m : Master) (g : Fin 8) (p : Port) (idx : Fin 4096) (entry : DWord) (s : State) :
    Host.Outcome State Fault Refusal :=
  if !galMaster m then .next s
  else .next (s.onPort 3 m [] (.galEntry g p idx entry) (fun s => s.galEntryPut m g p idx entry))

/-- GALLERY_COMMIT_WRITE (R349, R350). -/
def execGalleryCommitWrite (m : Master) (g : Fin 8) (digest : DWord) (s : State) : Host.Outcome State Fault Refusal :=
  if !galMaster m then .next s
  else .next (s.onPort 3 m [] (.galCommit g digest) (fun s => s.galCommitPut m g digest))

/-! ### Switching (R352-R355) -/

/-- The manager accepts a GALLERY SWITCH in the present tick a: N = a + L_sw, and g is PENDING (R353). -/
def State.startSwitch (s : State) (g : Fin 8) (q : Request) : State :=
  let n : Tick := s.ms.tick + BitVec.ofNat 32 s.area.params.lsw
  { s with gal := { s.gal with
      pending := some g
      swTick := n
      sw := some { g := g, n := n, a := s.ms.tick, unit := s.node, own := true, src := some q, acks := []
                   nacks := [], ack := 1, reason := 0, digest := (s.gal.gals[g]).digest, decision := 0 } } }

/-- Reason for which a node cannot acknowledge an announcement (R353), or 0. -/
def State.nackReason (s : State) (g : Fin 8) (n : Tick) : BitVec 4 :=
  if s.gal.pending.isSome then 3
  else if !tickGt n (s.ms.tick + 1) then 4
  else match (s.gal.gals[g]).state with
    | .empty => 1
    | .loading => 2
    | .valid => 0

/-- An announcement read in the present tick (R353): the node locks g as PENDING and acknowledges, or refuses; a gallery refused is checked
again at a later announcement. Its DIGEST is computed again over the locked contents (R351). -/
def State.announced (s : State) (g : Fin 8) (n a : Tick) (unit : BitVec 12) : State :=
  let known : Bool := match s.gal.sw with
    | some w => w.g == g && w.n == n && (w.ack = 1 || w.own)
    | none => false
  if known then s
  else
    let r := s.nackReason g n
    if r = 3 then { s with gal := { s.gal with nackOut := some (g, n, 3) } }
    else
      let d := galleryDigest (s.gal.gals[g]).tables
      let w : Switch := { g := g, n := n, a := a, unit := unit, own := false, src := none, acks := [], nacks := []
                          ack := if r = 0 then 1 else 2, reason := r, digest := d, decision := 0 }
      { s with gal := { s.gal with pending := if r = 0 then some g else none, swTick := n, sw := some w } }

/-- Nodes that have at least one entry in a gallery, the manager left out (R354). -/
def State.galleryNodes (s : State) (g : Fin 8) : List (BitVec 12) :=
  match s.upd.img with
  | none => []
  | some i => i.parts.filterMap (fun p =>
      match p.2.galleries.get? g.val with
      | some c =>
        if p.1 != s.node.toNat && c.tables.toList.any (fun t => t.head?.any (fun w => entryKind w != .stop)) then
          some (BitVec.ofNat 12 p.1)
        else none
      | none => none)

/-- The node is silent for the gallery (R355, R356): SILENT and ALARM 0xDB. -/
def State.galSilence (s : State) : State :=
  let n : Net := { s.net with
    state := if s.net.state == .sync then .silent else s.net.state, silent := true, lockRun := 0, missEdges := 0
    isRef := false }
  ({ s with net := n, gal := { s.gal with silent := true }, tim := if s.net.isRef then s.tim.follows else s.tim } : State).alarmNode 0xDB []

/-- PREVIOUS ends at the edge after the one that made it so (R350): the next edge, where the present tick began there or before. -/
def State.unlockPrevious (s : State) : State :=
  if s.gal.previous.isSome && tickGe s.ms.tick s.gal.prevTick then { s with gal := { s.gal with previous := none } } else s

/-- GALLERY_PREVIOUS_UNLOCK (R350): at the edge that ends the tick of the switch. -/
def execGalleryPreviousUnlock (s : State) : Host.Outcome State Fault Refusal := .next s.unlockPrevious

/-! ### What the registers show (R358) -/

def GalState.code : GalState → Nat
  | .empty => 0
  | .loading => 1
  | .valid => 2

/-- A GAL register at its offset; the domain reads its Reset values while NET is off. -/
def State.galReg (s : State) (ofs : Nat) : Word :=
  let g := s.gal
  if !s.pwr.dom.getLsbD 2 && ofs ≠ 0x200 then 0
  else if ofs = 0x0000 then
    fields32 [(24, bitsNat (g.gals.toList.map (fun x => x.state == .valid))),
      (16, bitsNat ((allFin 8).map (fun i => s.galLocked i))), (15, b2n g.pending.isSome),
      (12, (g.pending.map (fun x => x.val)).getD 0), (11, b2n g.previous.isSome),
      (8, (g.previous.map (fun x => x.val)).getD 0), (3, b2n g.silent), (0, g.active.val)]
  else if ofs = 0x0004 then g.swTick
  else if ofs = 0x0008 then
    fields32 [(24, g.doneCnt), (16, g.cancelCnt), (8, g.lastGal.val), (0, g.lastResult.toNat)]
  else if ofs = 0x000C then fields32 [(16, g.missCnt), (12, g.nackReason.toNat), (0, g.firstMiss.toNat)]
  else if ofs = 0x0010 then fields32 [(16, g.wdrop), (8, g.wdropGal.val), (0, g.wdropMaster.toNat)]
  else if 0x0100 ≤ ofs ∧ ofs < 0x0180 then
    match g.gals[(ofs - 0x100) / 16]? with
    | none => 0
    | some x =>
      if ofs % 16 = 0 then fields32 [(16, x.version.toNat), (14, x.state.code), (0, x.guard)]
      else if ofs % 16 = 4 then x.digest.setWidth 32
      else if ofs % 16 = 8 then x.digest.extractLsb' 32 32
      else 0
  else if ofs = 0x0200 then fields32 [(2, g.viewGal.toNat), (0, g.viewPort.toNat)]
  else if 0x8000 ≤ ofs ∧ ofs < 0x10000 then
    match g.gals[g.viewGal.toNat]? with
    | none => 0
    | some x =>
      let w := (vget x.tables g.viewPort.toNat []).getD ((ofs - 0x8000) / 8) 0
      if ofs % 8 = 0 then w.setWidth 32 else w.extractLsb' 32 32
  else 0

end Sys2Proof.Machine
end

