-- ==== Sys2Proof/Machine/Frames.lean ====
section
/-!
DEFINITION. The formats of Kazsan frames: header, safety block and check values (R335-R337, R340-R343), payload records (R338,
R339), and the lanes' codes (R265, R266, R341).
-/

namespace Sys2Proof.Machine

/-! ### Header and safety block (R336, R340) -/

/-- A frame's header and body, without its FCS. -/
structure Frame where
  type : Byte
  standby : Bool
  src : BitVec 12
  dst : BitVec 12
  stream : BitVec 12
  gal : BitVec 3
  valid : Nat
  area : Word
  head : List Byte
  payload : List Byte
  block : List Byte
deriving DecidableEq, Repr

/-- Bytes between the header and the FCS that a type carries beyond LEN: 24 of a SAFE frame's safety block, 0 else. -/
def blockLen (type : Byte) : Nat := if type = 0x10 then 24 else 0

/-- Header fields of a frame without FCS. -/
def Frame.ofBytes (bs : List Byte) : Frame where
  type := BitVec.ofNat 8 (natAt bs 0 1)
  standby := natAt bs 1 1 % 2 == 1
  src := BitVec.ofNat 12 (natAt bs 2 2)
  dst := BitVec.ofNat 12 (natAt bs 4 2)
  stream := BitVec.ofNat 12 (natAt bs 6 2)
  gal := BitVec.ofNat 3 (natAt bs 6 2 / 4096)
  valid := natAt bs 10 1
  area := BitVec.ofNat 32 (natAt bs 12 4)
  head := bs.take 16
  payload := (bs.drop 16).take (natAt bs 8 2)
  block := bytesAt bs (16 + natAt bs 8 2) 24

/-- Length of a data frame without FCS by its LEN. -/
def frameLen (bs : List Byte) : Nat := 16 + natAt bs 8 2 + blockLen (BitVec.ofNat 8 (natAt bs 0 1))

/-- A frame with its FCS (R335). -/
def withFcs (bs : List Byte) : List Byte := bs ++ leBytes 4 (crc32 bs).toNat

/-- A received frame without its FCS, if the FCS holds and the length is a frame's (R335). -/
def stripFcs (bs : List Byte) : Option (List Byte) :=
  let n := bs.length
  let body := bs.take (n - 4)
  if 64 ≤ n && n ≤ 65532 && n % 4 == 0 && natAt bs (n - 4) 4 == (crc32 body).toNat then some body else none

/-- Line time of `n` bytes of a frame in units of 0.1 ns (R302). -/
def lineTime (n : Nat) : Nat := 8 * (n + 16)

def Frame.seq (f : Frame) : Word := BitVec.ofNat 32 (natAt f.block 0 4)
def Frame.tick (f : Frame) : Tick := BitVec.ofNat 32 (natAt f.block 4 4)
def Frame.present (f : Frame) : BitVec 3 := BitVec.ofNat 3 (natAt f.block 8 1)
def Frame.runId (f : Frame) : BitVec 16 := BitVec.ofNat 16 (natAt f.block 10 2)
def Frame.code (f : Frame) (l : Lane) : Word := BitVec.ofNat 32 (natAt f.block (12 + 4 * l.idx) 4)

/-! ### Lane codes (R265, R266, R341) -/

/-- Seed of a lane of a node (R341). -/
def codeSeed (area : Word) (src : BitVec 12) (l : Lane) : Nat :=
  (crc32c (leBytes 4 area.toNat ++ leBytes 2 src.toNat ++ [BitVec.ofNat 8 l.num, 0xA5])).toNat

/-- Header bytes as a code covers them: DIR and the gallery taken as 0 (R341). -/
def maskHead (head : List Byte) : List Byte :=
  (List.range 16).map (fun i =>
    let b : Byte := BitVec.ofNat 8 (natAt head i 1)
    if i = 1 then b &&& 0xFD else if i = 7 then b &&& 0x8F else b)

/-- Safety block bytes 0-11 as a code covers them: PRESENT taken as 0. -/
def maskBlock (block : List Byte) : List Byte :=
  (List.range 12).map (fun i => if i = 8 then 0 else BitVec.ofNat 8 (natAt block i 1))

/-- Lane code over header, payload and safety block (R341). -/
def laneCode (area : Word) (src : BitVec 12) (l : Lane) (head payload block : List Byte) : Word :=
  crc32cSeed (codeSeed area src l) (maskHead head ++ payload ++ maskBlock block)

/-- Lanes whose code is present and fails. -/
def Frame.failed (f : Frame) : List Lane :=
  (lanesOf f.present).filter (fun l => f.code l != laneCode f.area f.src l f.head f.payload f.block)

/-- The frame voting rule (R266). -/
def Frame.voted (f : Frame) : Bool :=
  decide (2 ≤ countMask f.present) && decide (2 + f.failed.length ≤ countMask f.present)

/-- The tick lies in the frame's validity window (R342). -/
def Frame.inWindow (f : Frame) (n : Tick) : Bool :=
  let d := (n - f.tick).toNat
  decide (1 ≤ d) && decide (d ≤ f.valid) && decide (f.valid ≤ 16)

/-- Key of a stream (R343). -/
def Frame.key (f : Frame) : Nat := f.area.toNat * 16777216 + f.src.toNat * 4096 + f.stream.toNat

/-- A frame's place in its stream is accepted against the last one held (R343). -/
def streamOk (held : Option StreamRec) (f : Frame) : Bool :=
  match held with
  | none => true
  | some r =>
    let ds := (f.seq - r.seq).toNat
    if f.runId = r.runId then tickGt f.seq r.seq && decide (ds ≤ (f.tick - r.tick).toNat) else tickGt f.tick r.tick

/-! ### Payload records (R338) -/

/-- A record of a payload: CLASS, FIRST_ID and items. -/
structure Rec where
  cls : Byte
  first : Nat
  items : List (List Byte)
deriving DecidableEq, Repr

/-- Item size of a class; none for an undefined one. -/
def itemSize (cls : Byte) : Option Nat :=
  match cls.toNat with
  | 0x01 => some 24
  | 0x02 => some 28
  | 0x03 => some 32
  | 0x04 => some 8
  | 0x05 => some 8
  | 0x06 => some 16
  | 0x07 => some 24
  | 0x08 => some 24
  | 0x09 => some 32
  | 0x0A => some 32
  | 0x0B => some 32
  | 0x0C => some 64
  | 0x0D => some 64
  | _ => none

/-- `n` items of `size` bytes. -/
def chunks (n size : Nat) (bs : List Byte) : List (List Byte) :=
  match n with
  | 0 => []
  | k + 1 => bs.take size :: chunks k size (bs.drop size)

/-- Records of a payload; none where it is rejected: an undefined class, an overrun, a COUNT of 0, or a byte after the end
that is not 0. -/
def recordsOf (fuel : Nat) (bs : List Byte) : Option (List Rec) :=
  match fuel with
  | 0 => if bs.isEmpty then some [] else none
  | k + 1 =>
    if bs.isEmpty then some []
    else if bs.length < 4 then (if bs.all (fun b => b == 0) then some [] else none)
    else
      let cls : Byte := BitVec.ofNat 8 (natAt bs 0 1)
      if cls = 0 then (if bs.all (fun b => b == 0) then some [] else none)
      else
        let n := natAt bs 1 1
        match itemSize cls with
        | none => none
        | some size =>
          if n = 0 || bs.length < 4 + n * size then none
          else
            (recordsOf k (bs.drop (4 + n * size))).map (fun r =>
              ⟨cls, natAt bs 2 2, chunks n size (bs.drop 4)⟩ :: r)

/-- Records of a frame. -/
def Frame.records (f : Frame) : Option (List Rec) := recordsOf f.payload.length f.payload

/-- Items of a class in a payload's records, with their identifiers. -/
def itemsOf (rs : List Rec) (cls : Byte) : List (Nat × List Byte) :=
  rs.flatMap (fun r => if r.cls = cls then (r.items.zip (List.range r.items.length)).map (fun p => (r.first + p.2, p.1)) else [])

/-- One record of items with consecutive identifiers. -/
def recBytes (cls : Byte) (first : Nat) (items : List (List Byte)) : List Byte :=
  if items.isEmpty then []
  else [cls, BitVec.ofNat 8 items.length] ++ leBytes 2 first ++ items.flatten

/-- Items whose identifiers follow each other, at most 255 in one record. -/
def packRec (cls : Byte) (open_ : Nat × List (List Byte)) (items : List (Nat × List Byte)) : List Byte :=
  match items with
  | [] => recBytes cls open_.1 open_.2
  | (i, b) :: r =>
    if open_.2.isEmpty then packRec cls (i, [b]) r
    else if i = open_.1 + open_.2.length && open_.2.length < 255 then packRec cls (open_.1, open_.2 ++ [b]) r
    else recBytes cls open_.1 open_.2 ++ packRec cls (i, [b]) r

/-- Records of a class over numbered items, in ascending order. -/
def packItems (cls : Byte) (items : List (Nat × List Byte)) : List Byte := packRec cls (0, []) items

/-- Records of a class whose FIRST_ID is 0, 255 items in each. -/
def packZero (cls : Byte) (fuel : Nat) (items : List (List Byte)) : List Byte :=
  match fuel with
  | 0 => []
  | k + 1 => if items.isEmpty then [] else recBytes cls 0 (items.take 255) ++ packZero cls k (items.drop 255)

/-! ### Items (R339) -/

/-- A 48-bit field. -/
def mask48 (m : BitVec 48) : List Byte := leBytes 6 m.toNat

/-- CYCLE_HDR: manager mode, ANN, gallery, N, ANN_TICK. -/
def cycleHdr (mode : BitVec 4) (ann gal : Nat) (n a : Tick) : List Byte :=
  padTo 24 ([mode.setWidth 8, BitVec.ofNat 8 ann, BitVec.ofNat 8 gal, 0] ++ leBytes 4 n.toNat ++ leBytes 4 a.toNat)

/-- INPUTS. -/
def inputsItem (value fault openLoad lock applied : BitVec 48) (ack : Nat) : List Byte :=
  mask48 value ++ mask48 fault ++ mask48 openLoad ++ mask48 lock ++ mask48 applied ++ leBytes 2 ack

/-- A COMMANDS item. -/
def cmdItem (node : BitVec 12) (m : BitVec 48) : List Byte := leBytes 8 (m.toNat + node.toNat * 281474976710656)

/-- Samples of an INPUTS item (R74, R186): a channel fault, or the agreed value. -/
def samplesOf (b : List Byte) : Vector Sample 48 :=
  let v : BitVec 48 := BitVec.ofNat 48 (natAt b 0 6)
  let f : BitVec 48 := BitVec.ofNat 48 (natAt b 6 6)
  Vector.ofFn (fun i => if f.getLsbD i.val then .fault else if v.getLsbD i.val then .active else .inactive)

/-- A boundary item (R369), as received. -/
def bndItemOf (b : List Byte) : BndItem × BitVec 4 :=
  (⟨BitVec.ofNat 11 (natAt b 14 2), BitVec.ofNat 64 (natAt b 0 8), BitVec.ofNat 4 (natAt b 9 1),
    BitVec.ofNat 8 (natAt b 10 1), BitVec.ofNat 16 (natAt b 12 2)⟩, BitVec.ofNat 4 (natAt b 8 1))

/-- A boundary item as sealed (R369). -/
def bndBytes (op q : BitVec 4) (reason : Byte) (route : BitVec 16) (w : DWord) (peer : BitVec 11) : List Byte :=
  leBytes 8 w.toNat ++ [op.setWidth 8, q.setWidth 8, reason, 0] ++ leBytes 2 route.toNat ++ leBytes 2 peer.toNat

/-- The STATUS item of a pair stream (R378). -/
def pairStatOf (b : List Byte) : PairStat where
  claim := BitVec.ofNat 2 (natAt b 1 1)
  sync := BitVec.ofNat 2 (natAt b 2 1)
  overflow := natAt b 3 1 % 2 == 1
  ahMatch := natAt b 3 1 / 2 % 2 == 1
  activeSince := BitVec.ofNat 32 (natAt b 4 4)
  view := natAt b 8 2
  shadowCnt := natAt b 10 2
  copyTick := BitVec.ofNat 32 (natAt b 12 4)
  digE := BitVec.ofNat 64 (natAt b 16 8)
  digR := BitVec.ofNat 64 (natAt b 24 8)
  digA := BitVec.ofNat 64 (natAt b 32 8)
  digH := BitVec.ofNat 64 (natAt b 40 8)
  lanesVoting := 0

/-- The STATUS item of a pair stream from its fields. -/
def pairStatBytes (p : PairStat) : List Byte :=
  padTo 64 ([0x01, p.claim.setWidth 8, p.sync.setWidth 8, BitVec.ofNat 8 (bitsNat [p.overflow, p.ahMatch])] ++
    leBytes 4 p.activeSince.toNat ++ leBytes 2 p.view ++ leBytes 2 p.shadowCnt ++ leBytes 4 p.copyTick.toNat ++
    leBytes 8 p.digE.toNat ++ leBytes 8 p.digR.toNat ++ leBytes 8 p.digA.toNat ++ leBytes 8 p.digH.toNat)

/-! ### Building a frame (R336, R340, R341) -/

/-- Header of a data frame of this node. -/
def headBytes (type : Byte) (standby : Bool) (src dst stream : BitVec 12) (len valid : Nat) (area : Word) : List Byte :=
  [type, BitVec.ofNat 8 (b2n standby)] ++ leBytes 2 src.toNat ++ leBytes 2 dst.toNat ++ leBytes 2 stream.toNat ++
  leBytes 2 len ++ [BitVec.ofNat 8 valid, 0] ++ leBytes 4 area.toNat

/-- Safety block bytes 0-11 with PRESENT. -/
def blockHead (seq : Word) (tick : Tick) (present : BitVec 3) (mode : BitVec 4) (runId : BitVec 16) : List Byte :=
  leBytes 4 seq.toNat ++ leBytes 4 tick.toNat ++ [present.setWidth 8, mode.setWidth 8] ++ leBytes 2 runId.toNat

/-- FLAGS [1] and STREAM [14:12] as the engine sets them (R336). -/
def stampHead (head : List Byte) (dir : Bool) (gal : Nat) : List Byte :=
  (List.range 16).map (fun i =>
    let b : Byte := BitVec.ofNat 8 (natAt head i 1)
    if i = 1 then (if dir then b ||| 2 else b) else if i = 7 then b ||| BitVec.ofNat 8 (gal * 16) else b)

end Sys2Proof.Machine
end

