-- ==== Sys2Proof/Machine/Engine.lean ====
section
/-!
DEFINITION. The link engine and the bus guardian in service: received data frames (R305, R306, R322, R335, R344), transmit
and bridge slots (R21, R39, R321, R344), silence (R323, R324), and coldstart retreat (R329).
-/

namespace Sys2Proof.Machine

/-! ### Identity and ports -/

def State.areaId (s : State) : Word := (s.upd.img.map (fun i => i.hdr.areaId)).getD 0

/-- Topology entry of a node of the area (R360). -/
def State.topo? (s : State) (n : BitVec 12) : Option TopoEntry := s.area.topo.get? n.toNat

def PortCfg.unused : PortCfg := ⟨.unused, 0, none, 0, 0, 0⟩

/-- The topology table's entry of a port of this node (R303). -/
def State.portCfg (s : State) (p : Port) : PortCfg := ((s.topo? s.node).map (fun e => e.ports[p])).getD .unused

def State.port (s : State) (p : Port) : PortSt := s.net.ports[p]

def State.modPort (s : State) (p : Port) (f : PortSt → PortSt) : State :=
  { s with net := { s.net with ports := vmod s.net.ports p f } }

/-- Own area, or a neighbouring area that the topology table names (R336). -/
def State.knownArea (s : State) (a : Word) : Bool :=
  a == s.areaId || s.area.topo.any (fun e => e.2.ports.toList.any (fun c => c.passage == some a))

/-- The other port of the pair or of the chain. -/
def State.otherPort (s : State) (p : Port) : Option Port :=
  match (s.portCfg p).role with
  | .ring0 => some (if p.val = 0 then 1 else 0)
  | .ring1 => some (if p.val = 2 then 3 else 2)
  | .chainUp => (allFin 4).find? (fun q => (s.portCfg q).role == .chainDown)
  | .chainDown => (allFin 4).find? (fun q => (s.portCfg q).role == .chainUp)
  | .unused => none

/-- The port carries time-triggered frames of an engine that runs. -/
def State.portOpen (s : State) (p : Port) : Bool :=
  s.net.state != .off && s.net.state != .fullSilence && (s.portCfg p).role != .unused && (s.port p).linkUp

def State.alarmPort (s : State) (code : Byte) (p : Port) (detail : List Byte) : State :=
  s.raise .alarm code .port p.val (BitVec.ofNat 8 p.val :: detail)

def State.send (s : State) (p : Port) (bs : List Byte) : State :=
  { s with net := { s.net with sent := s.net.sent ++ [(p, bs)] } }

/-! ### Roles -/

/-- The node's role in the topology table (R360). -/
def State.roleCfg (s : State) : Option NodeRole := (s.topo? s.node).map (fun e => e.role)

def State.isPairUnit (s : State) : Bool := s.roleCfg == some .pairUnit

/-- A unit of a manager pair or a single manager. -/
def State.isManager (s : State) : Bool := s.roleCfg == some .pairUnit || s.roleCfg == some .single

/-- The peer of a pair unit (R359). -/
def State.peerUnit (s : State) : BitVec 12 := if s.node = 0 then 1 else 0

/-- Frames of the node carry STANDBY (R336): it is a manager unit and not the active one. -/
def State.standby (s : State) : Bool := s.isManager && s.ms.role != .active

/-! ### Silence (R323, R324, R405) -/

/-- Full silence on every port until the next POR, PIN or WARM reset (R324). The locks of NET are freed (R405). -/
def State.fullSilence (s : State) (code : BitVec 3) : State :=
  if s.net.fullSilent || !s.pwr.dom.getLsbD 2 then s
  else
    let s1 : State := { s with net := { s.net with
      state := .fullSilence, silent := true, fullSilent := true, fullCause := code } }
    (s1.alarmNode 0xD1 [code.setWidth 8]).orphanLocks 4

/-- Median of the guardian's deviations (R323): of an even number, the upper of the two in the middle. -/
def medianOf (l : List Int) : Int := ((sortBy (fun a b => decide (a < b)) l).drop (l.length / 2)).headD 0

/-- Offset estimate in ns. -/
def State.ofsEst (s : State) : Int := medianOf s.net.devs

def absI (x : Int) : Nat := x.natAbs

/-- The guardian's test (R323): estimate and θ against G / 2. -/
def State.guardOk (s : State) : Bool :=
  decide (2 * absI s.ofsEst ≤ s.guardNs) && decide (2 * absI s.tim.theta.toInt ≤ s.guardNs)

/-- A 16-bit two's complement value, saturating. -/
def sat16 (x : Int) : BitVec 16 := BitVec.ofInt 16 (if 32767 < x then 32767 else if x < -32767 then -32767 else x)

/-- The guardian silences the node's own transmissions (R323); a reference that is silenced is one no longer, and follows its successor
(R316, R332). -/
def State.guard (s : State) : State :=
  if s.guardOk || s.net.state != .sync then s
  else
    let s1 : State := { s with net := { s.net with
      state := .silent, silent := true, silenceCnt := satInc 255 s.net.silenceCnt, lockRun := 0, missEdges := 0, isRef := false },
                               tim := s.tim.follows }
    s1.alarmNode 0xD0 (leBytes 2 (sat16 s.ofsEst).toNat)

/-- An accepted frame's deviation enters the guardian's estimate (R323). -/
def State.accepted (s : State) (devNs : Int) : State :=
  ({ s with net := { s.net with devs := (devNs :: s.net.devs).take 15 } } : State).guard

/-! ### Coldstart retreat (R329) -/

/-- A node in its contention window retreats. -/
def State.retreat (s : State) : State :=
  let run := satInc 8 s.net.retreatRun
  let idx := ((s.topo? s.node).map (fun e => e.retryIdx.val)).getD 0
  let s1 : State := { s with net := { s.net with
    state := .listen, retreats := satInc 255 s.net.retreats, retreatRun := run
    listenUs := 2 * s.ms.tUs.toNat + idx * 100, listenFrom := s.nowNs, seen := none, seenParent := none } }
  s1.alarmNode 0xD2 [BitVec.ofNat 8 (b2n (run == 8))]

/-- A corrupted or foreign frame is dropped and counted; in a contention window a corrupted one, whose check value fails, makes the node
retreat, and while listening it restarts the listen time (R327, R329, R335). -/
def State.bad (s : State) (p : Port) (corrupt : Bool) : State :=
  let s1 := s.modPort p (fun x => { x with badCnt := satInc 65535 x.badCnt })
  if corrupt && s1.net.state == .coldstart then s1.retreat
  else if corrupt && s1.net.state == .listen then { s1 with net := { s1.net with listenFrom := s1.nowNs } }
  else s1

/-! ### Acceptance (R322, R335, R336) -/

/-- Arrival tolerance A(k) of an entry of the gallery in use. -/
def State.tolNs (s : State) (p : Port) (slot : Nat) : Nat := s.part.tol.getD (16384 * s.gal.active.val + 4096 * p.val + slot) 0

/-- Measured delay of a link in units of 0.125 ns, 0 before the first median (R310, R314). -/
def State.linkMedian (s : State) (p : Port) : Int := if (s.port p).delayValid then (s.port p).median else 0

/-- Expected arrival of an entry in ns after the edge: its planned arrival, corrected by the difference between the measured and
the planned delay of the receiving link (R322). -/
def State.expectedNs (s : State) (p : Port) (e : DWord) : Int :=
  Int.ofNat (entryNs e) + (if (s.port p).delayValid then (s.port p).median / 8 - Int.ofNat (s.portCfg p).delayNs else 0)

/-- A frame outside its acceptance window is dropped and counted; the sixteenth tick in a row raises ALARM 0xD6 (R322). -/
def State.edgeDrop (s : State) (p : Port) : State :=
  let x := s.port p
  let run := if x.edgeTick then x.edgeRun else satInc 16 x.edgeRun
  let s1 := s.modPort p (fun x => { x with edgeCnt := satInc 65535 x.edgeCnt, edgeTick := true, edgeRun := run })
  if run = 16 && !x.edgeTick && x.edgeRun ≠ 16 then s1.alarmPort 0xD6 p [] else s1

def State.inAccept (s : State) (p : Port) (slot : Nat) (devNs : Int) : Bool :=
  decide (absI devNs ≤ s.guardNs / 2 + s.tolNs p slot)

/-- A received data frame of a type that passes R335, R336 and R322 at an RX or FWD entry, with its entry. -/
inductive Taken where
  | drop (s : State)
  | take (body : List Byte) (entry : DWord) (s : State)

/-- A copy of a frame of this node that returns to it (R305). -/
def State.ownFrame (s : State) (fr : Frame) : Bool := fr.src == s.node && fr.area == s.areaId && s.pair.idOk

/-- Reception of a data frame at a port. -/
def State.take (s : State) (f : RxFrame) (types : List Byte) : Taken :=
  if !s.portOpen f.port then .drop s
  else
    match stripFcs f.bytes with
    | none => .drop (s.bad f.port true)
    | some body =>
      let fr := Frame.ofBytes body
      let e := s.slotEntry f.port f.slot
      let k := entryKind e
      if !types.contains fr.type || body.length != frameLen body then .drop (s.bad f.port false)
      else if !s.knownArea fr.area then .drop (s.bad f.port false)
      else
        let dev := f.ofsNs - s.expectedNs f.port e
        if !(k == .rx || k == .fwd) || !s.inAccept f.port f.slot dev then .drop (s.edgeDrop f.port)
        else if s.ownFrame fr then .drop s
        else .take body e (s.accepted dev)

/-- A forwarded frame leaves `resNs` after its arrival; one more than 16 ns from 640 ns is cut off, and the third of a tick is full silence
(R308, R324). -/
def State.sendOn (s : State) (q : Port) (resNs : Nat) (bs : List Byte) : State :=
  if absI (Int.ofNat resNs - 640) ≤ 16 then s.send q bs
  else
    let s1 : State := { s with net := { s.net with fwdLate := s.net.fwdLate + 1 } }
    if s1.net.fwdLate = 3 then s1.fullSilence 3 else s1

/-- The frame goes on along its ring or chain (R305, R308), unless the next node is its sender. -/
def State.forward (s : State) (p : Port) (resNs : Nat) (body : List Byte) : State :=
  let src := (Frame.ofBytes body).src
  match s.otherPort p with
  | none => s
  | some q => if s.portOpen q && (s.portCfg q).nbr != src then s.sendOn q resNs (withFcs body) else s

/-- Two frames are copies of one transmission (R305): the same stream and tick, or of a BULK frame, which carries no tick, the
same records. -/
def Frame.copyOf (a b : Frame) : Bool :=
  a.type == b.type && a.key == b.key && (if a.type == 0x20 then a.payload == b.payload else a.tick == b.tick)

/-- A frame waits for the chamber of a bridge group, its first copy only (R305, R306, R344). -/
def State.bridge (s : State) (e : DWord) (body : List Byte) : State :=
  let held := s.buf.bridge.any (fun x => x.1 == entryGroup e && (Frame.ofBytes x.2).copyOf (Frame.ofBytes body))
  if entryBridged e && !held then { s with buf := { s.buf with bridge := s.buf.bridge ++ [(entryGroup e, body)] } } else s

/-- Another node's STATUS record under this node's own identifier, seen before its identity is confirmed (R361). -/
def State.duplicateOf (s : State) (fr : Frame) : Bool :=
  !s.pair.idOk && fr.src == s.node && fr.area == s.areaId && fr.voted &&
  (match fr.records with
   | some (r :: _) => r.cls == 0x02
   | _ => false)

/-- The node's identity is in use elsewhere (R361): DUPLICATE and ALARM 0xE0. -/
def State.seeDuplicate (s : State) : State :=
  if s.pair.duplicate then s
  else ({ s with pair := { s.pair with duplicate := true } } : State).alarmNode 0xE0 [0, 1]

/-- Delivery of a SAFE frame to the receive buffer: the first copy of a sender, stream and tick (R38, R305). -/
def State.deliver (s : State) (body : List Byte) : State :=
  let fr := Frame.ofBytes body
  let key := (fr.key, fr.tick)
  if s.buf.rxSeen.contains key then s
  else
    { s with buf := { s.buf with rxSeen := s.buf.rxSeen ++ [key], rxCur := s.buf.rxCur ++ [⟨body⟩] } }

/-- Until its identity is confirmed the node takes in the STATUS records of the area, of frames that it only forwards too (R361). -/
def State.watchId (s : State) (body : List Byte) : State :=
  if s.duplicateOf (Frame.ofBytes body) then s.seeDuplicate else s

/-- SAFE (R38, R305, R306, R322, R323, R335, R336, R361). -/
def execSafe (f : RxFrame) (s : State) : Host.Outcome State Fault Refusal :=
  match s.take f [0x10] with
  | .drop s1 => .next s1
  | .take body e s1 =>
    let s2 := ((s1.forward f.port f.resNs body).bridge e body).watchId body
    if entryKind e == .rx then .next (s2.deliver body) else .next s2

/-- Inner frames of a chamber, and whether one overruns it (R344). -/
def innerFrames (fuel : Nat) (bs : List Byte) : List (List Byte) × Bool :=
  match fuel with
  | 0 => ([], !bs.isEmpty)
  | k + 1 =>
    if bs.isEmpty then ([], false)
    else
      let n := frameLen bs
      if bs.length < 40 || bs.length < n || (bs.headD 0) != 0x10 then ([], true)
      else
        let r := innerFrames k (bs.drop n)
        (bs.take n :: r.1, r.2)

/-- Addressed to this node: its identifier, every node, or the manager on a manager unit (R339). -/
def State.addressed (s : State) (dst : BitVec 12) : Bool :=
  dst == s.node || dst == 0xFFF ||
  (dst == 0 && (match s.topo? s.node with
    | some e => e.role != .worker
    | none => false))

/-- CHAMBER (R335, R344): every inner frame addressed to the node is received; bridged, its inner frames join the node's own
chamber. -/
def execChamber (f : RxFrame) (s : State) : Host.Outcome State Fault Refusal :=
  match s.take f [0x11] with
  | .drop s1 => .next s1
  | .take body e s1 =>
    let r := innerFrames body.length (Frame.ofBytes body).payload
    let s2 := if r.2 then s1.bad f.port false else s1
    let s3 := s2.forward f.port f.resNs body
    let s4 := r.1.foldl (fun s b => (s.bridge e b).watchId b) s3
    if entryKind e == .rx then
      .next ((r.1.filter (fun b => s4.addressed (Frame.ofBytes b).dst && !s4.ownFrame (Frame.ofBytes b))).foldl
        (fun s b => s.deliver b) s4)
    else .next s4

/-! ### Transmission (R21, R39, R310, R321, R344, R395) -/

/-- DIR of the copy on a port (R336): 1 on the higher-numbered port of a ring pair. -/
def State.dirOf (s : State) (p : Port) : Bool :=
  ((s.portCfg p).role == .ring0 && p.val == 1) || ((s.portCfg p).role == .ring1 && p.val == 3)

/-- A timing frame as it leaves at a port (R336, R337): header with DIR, body bytes 16-59, FCS. -/
def State.timingFrame (s : State) (p : Port) (type : Byte) (body : List Byte) : List Byte :=
  withFcs ([type, if s.dirOf p then 2 else 0] ++ leBytes 2 s.node.toNat ++ [0xFF, 0x0F] ++ leBytes 2 (s.gal.active.val * 4096) ++ leBytes 2 44 ++
    [0, 0] ++ leBytes 4 s.areaId.toNat ++ padTo 44 body)

/-- Two lane copies are bit-identical (R21). -/
def Sealed.same (a b : Sealed) : Bool := a.head == b.head && a.payload == b.payload && a.block == b.block

/-- The copy that the engine sends, with every lane whose copy equals it; none where no two are equal (R21). -/
def TxFrame.choose (t : TxFrame) : Option (Sealed × BitVec 3) :=
  firstSome (t.copies.toList.filterMap id) (fun c =>
    let same : BitVec 3 := maskOf (fun l => match t.copies.get l with
      | some d => c.same d
      | none => false)
    if 2 ≤ countMask same then some (c, same) else none)

/-- Lines of 64 bytes of a frame in which some lane's copy differs from the first one written (R395). -/
def TxFrame.divergent (t : TxFrame) : Nat :=
  match t.copies.toList.filterMap id with
  | [] => 0
  | c :: r =>
    let bytes (x : Sealed) : List Byte := x.head ++ x.payload ++ x.block
    let all := bytes c
    ((List.range ((all.length + 63) / 64)).filter (fun i =>
      r.any (fun d => ((bytes d).drop (64 * i)).take 64 != (all.drop (64 * i)).take 64))).length

/-- The divergence store of 16 KiB, 256 lines, cannot hold the divergent lines of a frame beside those of the frames before it in
its transmit buffer (R392, R395). -/
def State.storeFull (s : State) (t : TxFrame) : Bool :=
  let before := (s.buf.tx.filter (fun x => x.tick == t.tick)).takeWhile (fun x => x.stream != t.stream)
  t.divergent != 0 && decide (256 < (before.map TxFrame.divergent).foldl (· + ·) t.divergent)

/-- The bytes of a frame with the codes of the lanes that sealed it (R340). -/
def State.frameBytes (s : State) (t : TxFrame) (c : Sealed) (present : BitVec 3) (dir : Bool) : List Byte :=
  let code (l : Lane) : List Byte := match t.copies.get l with
    | some d => if l.inMask present then leBytes 4 d.code.toNat else leBytes 4 0
    | none => leBytes 4 0
  let block := (List.range 12).map (fun i => if i = 8 then present.setWidth 8 else BitVec.ofNat 8 (natAt c.block i 1))
  withFcs (stampHead c.head dir s.gal.active.val ++ c.payload ++ block ++ code .a ++ code .b ++ code .c)

/-- A frame of the node that starts outside an open window is blocked; the third within a tick is full silence (R321, R324). -/
def State.blockStart (s : State) : State :=
  let s1 : State := { s with net := { s.net with blockedTick := s.net.blockedTick + 1 } }
  if s1.net.blockedTick = 3 then s1.fullSilence 2 else s1

/-- Close of an entry's transmit window after its offset in units of 0.1 ns: s + L + G/4, where L is the line time of the planned
frame, and 4 µs of a link window (R321, R347). -/
def State.windowEnd (s : State) (e : DWord) : Int :=
  Int.ofNat ((if entryKind e == .link then 40000 else lineTime (4 * entryNq e)) + 10 * (s.guardNs / 4))

/-- A start at a deviation from an entry's offset lies in its transmit window (R321). -/
def State.inWindow (s : State) (e : DWord) (devNs : Int) : Bool :=
  decide (-Int.ofNat (s.guardNs / 4) ≤ devNs) && decide (10 * devNs ≤ s.windowEnd e)

/-- A frame of the node leaves at an entry (R321): a start outside the window is blocked; what still runs when the window
closes is cut off. -/
def State.sendAt (s : State) (p : Port) (e : DWord) (devNs : Int) (bs : List Byte) : State :=
  if !s.inWindow e devNs then s.blockStart
  else
    let left := s.windowEnd e - 10 * devNs
    s.send p (if Int.ofNat (lineTime bs.length) ≤ left then bs else bs.take (min (bs.length - 1) (left / 8).toNat))

/-- A slot of a stream (R21, R23, R39): the sealed frame of the present tick goes out, or the slot stays empty and is counted.
Until its identity is confirmed, the node sends no stream. -/
def State.sendStream (s : State) (p : Port) (e : DWord) (devNs : Int) : State :=
  let stream := entryStream e
  let found := s.buf.tx.find? (fun t => t.stream == stream && t.tick == s.ms.tick)
  let cnt := match found with
    | some t => (t.copies.toList.filterMap id).length
    | none => 0
  if !s.pair.idOk then s
  else if cnt < 2 then { s with net := { s.net with late := satInc 65535 s.net.late } }
  else
    match (found.filter (fun t => !s.storeFull t)).bind (fun t => t.choose.map (fun c => s.frameBytes t c.1 c.2 (s.dirOf p))) with
    | some bs =>
      let s1 := s.sendAt p e devNs bs
      if s1.net.sent.length = s.net.sent.length then s1
      else { s1 with buf := { s1.buf with tx := s1.buf.tx.map (fun t =>
        if t.stream == stream && t.tick == s1.ms.tick then { t with gone := true } else t) } }
    | none => { s with net := { s.net with mismatch := satInc 65535 s.net.mismatch } }

/-- The chunks that a node distributes: those of the image and of the release record that its own staging holds (R451, R452). -/
def State.heldChunks (s : State) : List (Nat × List Byte) :=
  if s.upd.stage == .erasing then []
  else s.nvm.staging ++ s.nvm.relChunks.map (fun p => (0xFFFFFF00 + p.1, p.2))

/-- The items of a BULK frame of the present tick: the chunks in turn, so many in each tick (R452). DESIGN CHOICE (log 156): the tick
number says where the turn stands. -/
def State.bulkItems (s : State) (items : Nat) : List (Nat × List Byte) :=
  let held := s.heldChunks
  match s.nvm.stageTag with
  | none => []
  | some tag => (List.range (min items held.length)).filterMap (fun i =>
      held[(s.ms.tick.toNat * items + i) % held.length]?.map (fun p => (p.1 % 65536, leBytes 4 p.1 ++ leBytes 4 tag.toNat ++ padTo 56 p.2)))

/-- A BULK frame of UPDATE records, without a safety block (R336-R339, R452), completed to its planned length. -/
def State.bulkFrame (s : State) (p : Port) (e : DWord) (c : StreamCfg) (dst : BitVec 12) (items : List (Nat × List Byte)) : List Byte :=
  let payload := padTo (4 * entryNq e - 20) (packItems 0x0C items)
  withFcs (stampHead (headBytes 0x20 s.standby s.node dst c.stream payload.length c.valid s.areaId) (s.dirOf p) s.gal.active.val ++ payload)

/-- A slot of a BULK stream (R339, R452); with no chunk to send it stays empty. -/
def State.sendBulk (s : State) (p : Port) (e : DWord) (devNs : Int) (c : StreamCfg) (dst : BitVec 12) (items : Nat) : State :=
  let q := s.bulkItems items
  if !s.pair.idOk || q.isEmpty then s else s.sendAt p e devNs (s.bulkFrame p e c dst q)

/-- A slot of a stream of the node. -/
def State.sendSlot (s : State) (p : Port) (e : DWord) (devNs : Int) : State :=
  match s.part.streams.find? (fun c => c.stream == entryStream e) with
  | some ⟨.bulk dst items, stream, valid⟩ => s.sendBulk p e devNs ⟨.bulk dst items, stream, valid⟩ dst items
  | _ => s.sendStream p e devNs

/-- Neighbours of a node inside the area by the topology table. -/
def nbrsOf (topo : AMap TopoEntry) (n : BitVec 12) : List (BitVec 12) :=
  match topo.get? n.toNat with
  | some e => e.ports.toList.filterMap (fun c => if c.role != .unused && c.passage.isNone then some c.nbr else none)
  | none => []

/-- Hops between the nodes of `front` and `n`, found ring by ring of nodes around `front`. -/
def hopsFrom (topo : AMap TopoEntry) (n : BitVec 12) : Nat → List (BitVec 12) → List (BitVec 12) → Option Nat
  | 0, _, _ => none
  | k + 1, seen, front =>
    if front.contains n then some 0
    else
      let new := (front.flatMap (nbrsOf topo)).foldl (fun acc m => if seen.contains m || acc.contains m then acc else acc ++ [m]) []
      if new.isEmpty then none else (hopsFrom topo n k (seen ++ new) new).map (· + 1)

/-- Hops of a node to the present reference (R311, R314); before there is one, the hops that the topology table names. -/
def State.hopsOf (s : State) (n : BitVec 12) : Nat :=
  let planned := ((s.topo? n).map (fun e => e.hops)).getD 0
  if s.net.refValid then (hopsFrom s.area.topo n 4096 [s.net.refNode] [s.net.refNode]).getD planned else planned

/-- This end initiates the delay exchange of a port (R311): a joining end never does, the other end then does. Whether the
neighbour is joining comes with the command: the manual names nothing that shows it. -/
def State.initiates (s : State) (p : Port) (joining : Bool) : Bool :=
  let nbr := (s.portCfg p).nbr
  let a := if s.net.refValid then s.hopsOf s.node else 0
  let b := if s.net.refValid then s.hopsOf nbr else 0
  (s.net.state == .sync || s.net.state == .silent) && (joining || decide (a < b) || (a == b && decide (s.node.toNat < nbr.toNat)))

/-- A measurement tick of a link (R311). -/
def State.measures (s : State) (p : Port) : Bool := decide (s.ms.tick.toNat % 1024 < 3) || !(s.port p).fresh

/-- A port on which the engine can exchange delay frames: with block lock, be it disabled by its delay or not (R312). -/
def State.delayOpen (s : State) (p : Port) : Bool :=
  s.net.state != .off && s.net.state != .fullSilence && (s.portCfg p).role != .unused && (s.port p).blockLock

/-- Edge of the present tick by the node's own counter (R28). -/
def State.edgeNs (s : State) : Nat :=
  let t := 1000 * s.ms.tUs.toNat
  let base := s.tim.tbase.toNat
  if s.nowNs < base then base else base + t * ((s.nowNs - base) / t)

/-- TRANSMIT_SLOT (R21, R39, R452, R302, R310, R311, R321, R324). -/
def execTransmitSlot (p : Port) (slot : Nat) (start : SlotStart) (s : State) : Host.Outcome State Fault Refusal :=
  let e := s.slotEntry p slot
  match entryKind e with
  | .tx => if s.net.state == .sync && s.portOpen p then .next (s.sendSlot p e start.devNs) else .next s
  | .link =>
    if s.delayOpen p && s.initiates p start.joining && s.measures p then
      let t1 := (Int.ofNat (s.edgeNs + entryNs e) + start.devNs).toNat
      let s1 := if s.inWindow e start.devNs then s.modPort p (fun x => { x with t1 := some t1 }) else s
      .next (s1.sendAt p e start.devNs (s1.timingFrame p 0x03 (leBytes 2 s.node.toNat)))
    else .next s
  | .stop | .rx | .fwd | .brg | .cs | .reserved => .next s

/-- BRIDGE_SLOT (R23, R306, R321, R344): a chamber of the frames queued for the group in the tick; with none the slot stays
empty. DESIGN CHOICE (log 146): its VALID is 1. -/
def execBridgeSlot (p : Port) (start : BridgeStart) (s : State) : Host.Outcome State Fault Refusal :=
  let e := s.slotEntry p start.slot
  let q := (s.buf.bridge.filter (fun x => x.1 == entryGroup e)).map (fun x => x.2)
  if entryKind e != .brg || s.net.state != .sync || !s.pair.idOk || !s.portOpen p || q.isEmpty then .next s
  else
    let payload := q.flatten
    let head := headBytes 0x11 s.standby s.node 0xFFF (BitVec.ofNat 12 (entryGroup e)) payload.length 1 s.areaId
    .next (s.sendAt p e start.devNs (withFcs (stampHead head (s.dirOf p) s.gal.active.val ++ payload)))

/-- FULL_SILENCE (R324). FREQ_FLT shows the ports with block lock, all of which deviate; the command brings no port that deviates alone
(log 147). -/
def execFullSilence (cause : SilenceCause) (s : State) : Host.Outcome State Fault Refusal :=
  match cause with
  | .refclk =>
    let s1 : State := { s with net := { s.net with ports := s.net.ports.map (fun x => { x with freqFlt := x.blockLock }) } }
    .next (s1.fullSilence 1)
  | .ownEngine => .next (s.fullSilence 2)
  | .forwarding => .next (s.fullSilence 3)
  | .hubDie => .next (s.fullSilence 4)

/-- HUB_DIE_FAULT (R45, R275, R324): fault record, full silence, and the lockout latch with cause 0x0A. -/
def execHubDieFault (s : State) : Host.Outcome State Fault Refusal :=
  .next (((s.latchFault 0x05 0 0 []).fullSilence 4).setLatch 0x0A)

/-! ### The header of a tick (R339, R353) -/

/-- ANN, gallery, N and ANN_TICK of the manager's header (R353, R355). -/
def State.annFields (s : State) : Nat × Nat × Tick × Tick :=
  match s.gal.sw with
  | none => (0, 0, 0, 0)
  | some w =>
    if s.ms.role != .active || !tickGt w.n s.ms.tick then (0, 0, 0, 0)
    else
      let ann : Nat :=
        if !w.own then 3
        else if w.decision = 1 then 2
        else if w.decision != 0 || !w.nacks.isEmpty then 3
        else if tickGt w.n (s.ms.tick + 1) then 1 else 3
      (ann, w.g.val, w.n, w.a)

/-- The CYCLE_HDR item of the manager's header (R339, R353). -/
def State.headerItem (s : State) : List Byte :=
  let a := s.annFields
  cycleHdr s.ms.mode.code a.1 a.2.1 a.2.2.1 a.2.2.2

end Sys2Proof.Machine
end

