-- ==== Sys2Proof/Machine/Sign.lean ====
section
/-!
DEFINITION. Verification of an ECDSA P-384 signature, which the manual names (R436, R438, R454) and takes from FIPS 186-5 (PRESUMED,
assumption 4).
-/

namespace Sys2Proof.Machine

/-- Parameters of P-384: the field, the order of the base point, the constant of the curve y² = x³ − 3x + b, the base point. -/
def p384 : Nat := 2 ^ 384 - 2 ^ 128 - 2 ^ 96 + 2 ^ 32 - 1

def p384Order : Nat := 0xffffffffffffffffffffffffffffffffffffffffffffffffc7634d81f4372ddf581a0db248b0a77aecec196accc52973

def p384B : Nat := 0xb3312fa7e23ee7e4988e056be3f82d19181d9c6efe8141120314088f5013875ac656398d8a2ed19d2a85c8edd3ec2aef

def p384Gx : Nat := 0xaa87ca22be8b05378eb1c71ef320ad746e1d3b628ba79b9859f741e082542a385502f25dbf55296c3a545e3872760ab7

def p384Gy : Nat := 0x3617de4a96262c6f5d9e98bf9292dc29f8f41dbd289a147ce9da3113b5f0b8c00a60b1ce1d7e819d7a431d7c90ea0e5f

/-- A product in a prime field. -/
def modMul (m a b : Nat) : Nat := a * b % m

/-- A difference in a prime field. -/
def modSub (m a b : Nat) : Nat := (a + (m - b % m)) % m

/-- A power in a prime field, over the lowest `bits` bits of the exponent. -/
def modPow (m : Nat) : Nat → Nat → Nat → Nat
  | 0, _, _ => 1 % m
  | bits + 1, a, e =>
    let half := modPow m bits (modMul m a a) (e / 2)
    if e % 2 = 1 then modMul m a half else half

/-- The inverse in a prime field of 384 bits. -/
def modInv (m a : Nat) : Nat := modPow m 384 a (m - 2)

/-- A point in projective form: x = X / Z², y = Y / Z³; with Z = 0 the point at infinity. -/
structure CurvePt where
  x : Nat
  y : Nat
  z : Nat
deriving DecidableEq, Repr

/-- A point added to itself, by the tangent. -/
def CurvePt.twice (q : CurvePt) : CurvePt :=
  let zz := modMul p384 q.z q.z
  let yy := modMul p384 q.y q.y
  let chord := modMul p384 4 (modMul p384 q.x yy)
  let slope := modMul p384 3 (modMul p384 (modSub p384 q.x zz) (q.x + zz))
  let x := modSub p384 (modMul p384 slope slope) (2 * chord)
  ⟨x, modSub p384 (modMul p384 slope (modSub p384 chord x)) (modMul p384 8 (modMul p384 yy yy)), modMul p384 2 (modMul p384 q.y q.z)⟩

/-- The sum of two points. -/
def CurvePt.plus (q r : CurvePt) : CurvePt :=
  if q.z = 0 then r
  else if r.z = 0 then q
  else
    let qq := modMul p384 q.z q.z
    let rr := modMul p384 r.z r.z
    let xq := modMul p384 q.x rr
    let yq := modMul p384 q.y (modMul p384 r.z rr)
    let run := modSub p384 (modMul p384 r.x qq) xq
    let rise := modSub p384 (modMul p384 r.y (modMul p384 q.z qq)) yq
    if run = 0 then (if rise = 0 then q.twice else ⟨1, 1, 0⟩)
    else
      let run2 := modMul p384 run run
      let run3 := modMul p384 run run2
      let mid := modMul p384 xq run2
      let x := modSub p384 (modMul p384 rise rise) (run3 + 2 * mid)
      ⟨x, modSub p384 (modMul p384 rise (modSub p384 mid x)) (modMul p384 yq run3), modMul p384 run (modMul p384 q.z r.z)⟩

/-- u · G + v · Q over the lowest `bits` bits of both factors, the highest first. -/
def curveSum (g q gq : CurvePt) (u v : Nat) : Nat → CurvePt
  | 0 => ⟨1, 1, 0⟩
  | bits + 1 =>
    let acc := (curveSum g q gq (u / 2) (v / 2) bits).twice
    match u % 2, v % 2 with
    | 0, 0 => acc
    | 0, _ => acc.plus q
    | _, 0 => acc.plus g
    | _, _ => acc.plus gq

/-- The coordinates name a point of the curve. -/
def onP384 (x y : Nat) : Bool :=
  decide (x < p384) && decide (y < p384) &&
  modMul p384 y y == (modSub p384 (modMul p384 x (modMul p384 x x)) (3 * x) + p384B) % p384

/-- The signature (r, s) of a digest, held as the number whose first byte is the least significant, verifies under the public key X, Y
(R436, R438, R454). FIPS 186-5 takes the digest's first byte as the most significant. -/
def sigOk (key : BitVec 768) (digest r s : BitVec 384) : Bool :=
  let x := key.toNat / 2 ^ 384
  let y := key.toNat % 2 ^ 384
  let inRange (v : BitVec 384) : Bool := v != 0 && decide (v.toNat < p384Order)
  if !(onP384 x y && inRange r && inRange s) then false
  else
    let w := modInv p384Order s.toNat
    let g : CurvePt := ⟨p384Gx, p384Gy, 1⟩
    let q : CurvePt := ⟨x, y, 1⟩
    let p := curveSum g q (g.plus q) (modMul p384Order (beNat (leBytes 48 digest.toNat)) w) (modMul p384Order r.toNat w) 384
    p.z != 0 && modMul p384 p.x (modInv p384 (modMul p384 p.z p.z)) % p384Order == r.toNat

end Sys2Proof.Machine
end

