-- ==== Sys2Proof/Machine/Boot.lean ====
section
/-!
DEFINITION. Module resets (R51, R411, R417, R470-R473, R486), power-up restoration (R482, R484, R504, R526), BOOT (R443,
R444, R447, R462) and PROVE (R43, R50, R263, R430, R491).
-/

namespace Sys2Proof.Machine

/-! ### Images (R433-R436) -/

/-- LC_REQ (R434); another value asks for a state in which no image runs. -/
def lcOf (v : Nat) : LifeCycle :=
  match v with
  | 1 => .commission
  | 2 => .service
  | 3 => .field
  | 4 => .retired
  | _ => .manufacture

/-- A used directory entry (R435): TYPE, bytes 1-3, OFFSET, LENGTH, CRC-32. -/
structure DirEntry where
  type : Nat
  zeros : Nat
  ofs : Nat
  len : Nat
  crc : Nat
deriving DecidableEq, Repr

/-- The used entries of the directory (R434, R435). -/
def dirEntries (bs : List Byte) : List DirEntry :=
  ((List.range 16).map (fun i => bytesAt bs (128 + 16 * i) 16)).filterMap (fun e =>
    if e.all (fun b => b == 0) then none else some ⟨natAt e 0 1, natAt e 1 3, natAt e 4 4, natAt e 8 4, natAt e 12 4⟩)

/-- A section lies between the header and the signature block, on a multiple of 4,096, and its CRC holds (R435). -/
def sectionOk (bs : List Byte) (e : DirEntry) : Bool :=
  e.zeros == 0 && e.ofs % 4096 == 0 && decide (4096 ≤ e.ofs) && decide (e.ofs + e.len + 256 ≤ natAt bs 16 4) &&
  (crc32 (bytesAt bs e.ofs e.len)).toNat == e.crc

/-- Two sections do not overlap (R435). -/
def sectionsApart (a b : DirEntry) : Bool := decide (a.ofs + a.len ≤ b.ofs) || decide (b.ofs + b.len ≤ a.ofs)

/-- The section types of an image (R434, R435). -/
def sectionTypes : List Nat := [1, 2, 3, 4, 5, 6, 7, 8]

/-- The directory names each of the eight sections once, and each is sound and apart from the others (R434, R435). -/
def directoryOk (bs : List Byte) : Bool :=
  let es := dirEntries bs
  es.length == 8 && sectionTypes.all (fun t => es.any (fun e => e.type == t)) && es.all (sectionOk bs) &&
  decide (es.Pairwise (fun a b => sectionsApart a b = true))

/-- Every byte of a range is 0. -/
def zeroBytes (bs : List Byte) (ofs n : Nat) : Bool := (bytesAt bs ofs n).all (fun b => b == 0)

/-- What R434 fixes of the header beside MAGIC, FMT_VER and HDR_LEN. -/
def headerOk (bs : List Byte) : Bool :=
  natAt bs 35 1 == 8 && decide (natAt bs 30 1 ≤ 63) && decide (natAt bs 33 1 < 16) && decide (natAt bs 34 1 < 2) &&
  (natAt bs 34 1 == 1 || zeroBytes bs 36 48) && zeroBytes bs 84 44 && zeroBytes bs 384 3712

/-- What R436 fixes of the signature block: "XSIG", the bytes given as 0, an uncompressed point. -/
def sigBlockOk (sig : List Byte) : Bool :=
  bytesAt sig 0 4 == [0x58, 0x53, 0x49, 0x47] && zeroBytes sig 5 3 && natAt sig 104 1 == 4 && zeroBytes sig 201 55

/-- The header and the signature block of an image (R434-R436). -/
def imageHdr (bs : List Byte) : ImageHdr :=
  let len := natAt bs 16 4
  let sig := bytesAt bs (len - 256) 256
  { magicOk := bytesAt bs 0 8 == [0x58, 0x4C, 0x59, 0x53, 0x01, 0x00, 0x00, 0x10]
    layoutOk := headerOk bs
    imgVer := BitVec.ofNat 32 (natAt bs 8 4)
    areaId := BitVec.ofNat 32 (natAt bs 12 4)
    imgLen := len
    vmapId := BitVec.ofNat 32 (natAt bs 20 4)
    tUs := BitVec.ofNat 32 (natAt bs 24 4)
    retFmt := BitVec.ofNat 16 (natAt bs 28 2)
    secVer := natAt bs 30 1
    lcReq := lcOf (natAt bs 31 1)
    keySlot := BitVec.ofNat 8 (natAt bs 32 1)
    sigKeySlot := BitVec.ofNat 8 (natAt sig 4 1)
    revoke := BitVec.ofNat 4 (natAt bs 33 1)
    decCompat := natAt bs 34 1 % 2 == 1
    compatBase := BitVec.ofNat 384 (natAt bs 36 48)
    sectionsOk := directoryOk bs
    sigForm := sigBlockOk sig
    digest := sha384 (bytesAt bs 0 (len - 256))
    keyHash := sha384 (bytesAt sig 104 97)
    pubKey := BitVec.ofNat 768 (beNat (bytesAt sig 105 96))
    sigR := BitVec.ofNat 384 (beNat (bytesAt sig 8 48))
    sigS := BitVec.ofNat 384 (beNat (bytesAt sig 56 48)) }

/-- The bytes of a section (R435). -/
def sectionBytes (bs : List Byte) (type : Nat) : Option (List Byte) :=
  ((dirEntries bs).find? (fun e => e.type == type)).map (fun e => bytesAt bs e.ofs e.len)

/-- The wrapped channel keys of a node in its part of the key slot section (R437): entries of 48 bytes for the node or for every node. -/
def keysOf (part : List Byte) (node : Nat) : List (Fin 8 × BitVec 320) :=
  (chunks (part.length / 48) 48 part).filterMap (fun e =>
    let for_ := natAt e 0 2
    if (for_ == node || for_ == 0xFFF) && zeroBytes e 3 5 then
      (allFin 8)[natAt e 2 1]?.map (fun ch => (ch, BitVec.ofNat 320 (natAt e 8 40)))
    else none)

/-- The image that a byte sequence holds (R433, R435, R437). -/
def imageOf (bs : List Byte) : Option Image :=
  let secs := sectionTypes.filterMap (sectionBytes bs)
  if secs.length != 8 then none
  else
    let keys (n : Nat) : List (Fin 8 × BitVec 320) := keysOf (Config.nodeSlice (secs.getD 7 []) (BitVec.ofNat 12 n)) n
    (Config.sectionsOf secs).map (fun c => ⟨imageHdr bs, c.1, c.2.map (fun p => (p.1, { p.2 with keys := keys p.1 }))⟩)

/-! ### Bank records and images (R438-R447) -/

/-- The staging area as one byte sequence of IMG_LEN bytes (R434, R451). -/
def State.stagedBytes (s : State) : List Byte :=
  let bs := s.nvm.staging.flatMap (fun p => padTo 56 p.2)
  bs.take (natAt bs 16 4)

/-- LC_REQ is accepted in the life-cycle state that the fuses hold (R446, R447). -/
def Fuses.accepts (f : Fuses) (q : LifeCycle) : Bool :=
  if f.retired || !f.manufactured then false
  else if f.commissioned then q == .service || q == .field || q == .retired
  else q == .commission || q == .service || q == .field

/-- Present life-cycle state (R446). -/
def State.lifeCycle (s : State) : LifeCycle :=
  if s.fuses.retired then .retired
  else if !s.fuses.manufactured then .manufacture
  else if !s.fuses.commissioned then .commission
  else (s.upd.img.map (fun i => i.hdr.lcReq)).getD .commission

/-- KEY_SLOT names a fused slot that is not revoked, whose hash the signer's key has (R438). -/
def Fuses.keyOk (f : Fuses) (h : ImageHdr) : Bool :=
  match f.slots[h.keySlot.toNat]? with
  | some (some d) => !f.revoked.getLsbD h.keySlot.toNat && d == h.keyHash && h.sigKeySlot == h.keySlot
  | _ => false

/-- A lane's check of an image (R438-R440, R443 step 5, R446, R453): the first reason that refuses it, or 0. The caller says whether
AREA_ID, RET_FMT and the part for the node pass. DESIGN CHOICE (log 150): a header or a signature block that breaks its layout
otherwise has reason 0x1 or 0x5. -/
def State.imgReason (s : State) (h : ImageHdr) (areaOk retOk partOk : Bool) : BitVec 4 :=
  if !h.magicOk || !h.layoutOk then 1
  else if !areaOk then 2
  else if decide (132120576 < h.imgLen) || h.imgLen % 4096 != 0 || !h.sectionsOk then 3
  else if !s.fuses.keyOk h then 4
  else if !h.sigForm || !sigOk h.pubKey h.digest h.sigR h.sigS then 5
  else if h.secVer < s.fuses.secFloor then 6
  else if !retOk then 7
  else if !s.fuses.accepts h.lcReq then 8
  else if !partOk then 9
  else 0

/-- A lane's check of an image at BOOT (R443 step 5). -/
def State.bootReason (s : State) (img : Option Image) : BitVec 4 :=
  match img with
  | none => 1
  | some i => s.imgReason i.hdr true true true

/-! ### Resets (R470-R473, R486) -/

/-- A mailbox channel after PIN or WARM (R411, R417): ABORTED where an inbound message was pending, CLOSE_CAUSE 0x5 where a
session was open. -/
def Mbx.afterReset (m : Mbx) (wasOpen : Bool) : Mbx :=
  { Mbx.reset with
    inAborted := m.inFull
    closeCause := if wasOpen then 5 else 0
    m2h := (if m.inFull then 0x8000_0000 else 0) ||| (if wasOpen then 0x40 else 0) }

/-- The measured gain of a die's trim step in the last daily record (R506, R507), or 0.8 % before there is one. -/
def Nvm.gainOf (v : Nvm) (f : DailyRec → Int) : Int := (v.ageing.head?.map f).getD Plan.reset.gain

/-- A lane after a module reset: its stored plan applies before PROVE (R504) with the gain figure of the ageing history, and it stays hot
while it is (R543). -/
def LaneSt.afterReset (x : LaneSt) (plan : Nat × Nat) (gain : Int) : LaneSt :=
  { LaneSt.reset with plan := { Plan.reset with trim := plan.1, clk := plan.2, gain := gain }, hot := x.hot }

/-- The hub die's plan after a module reset (R505). -/
def Nvm.hubPlan (v : Nvm) (trim : Nat) : Plan := { Plan.reset with trim := trim, gain := v.gainOf (fun d => d.hubGain) }

/-- Step 1 of BOOT (R443, R473): the restart count and its append; a retired module stays in BOOT (R49). -/
def State.bootStart (s : State) : State :=
  let s1 := ({ s with aon := { s.aon with restart := s.aon.restart + 1 } } : State).appendRetService
  if s1.fuses.retired then
    ({ s1 with ms := { s1.ms with bootFail := true } } : State).latchFault 0x06 0 0 []
  else s1

/-- A PIN or WARM reset (R411, R417, R470, R471, R486): everything but the parts of AON, the stores and the world outside the
logic returns to its Reset value. -/
def State.moduleReset (s : State) (kind warm : BitVec 4) : State :=
  let n := State.reset
  let open_ (ch : Fin 8) : Bool := s.aon.sessBits.getLsbD ch.val
  let mail : Mail := { Mail.reset with
    sec := vmapIdx s.mail.sec (fun ch m => m.afterReset (open_ ch))
    non := s.mail.non.map (fun m => m.afterReset false) }
  ({ n with
    ms := { n.ms with porHeld := false }
    rrq := { s.rrq with clearNext := [], laneFell := .all false, fellRise := none }
    lanes := s.lanes.mapL (fun l x => x.afterReset (s.aon.planStore.get l) (s.nvm.gainOf (fun d => d.gain.get l)))
    fld := { n.fld with stages := s.fld.stages, reps := freshReps s.nowNs }
    pair := { n.pair with strapId := s.pair.pins, pins := s.pair.pins }
    aon := { s.aon with kind := kind, warmSrc := warm, sessBits := 0 }
    pwr := { n.pwr with vinOk := s.pwr.vinOk, vf := s.pwr.vf, perstLow := s.pwr.perstLow }
    mail := mail
    log := { n.log with recs := s.log.recs, restored := s.log.restored, ring := s.log.ring }
    fuses := s.fuses
    nvm := s.nvm
    prf := { n.prf with day := s.prf.day, dayNs := s.prf.dayNs, hub := s.nvm.hubPlan s.aon.hubTrim }
    free := s.free
    pending := s.pending } : State).bootStart

/-- WARM (R470, R472): during a power-loss commit it is discarded. -/
def State.warmReset (s : State) (src : BitVec 4) : State :=
  if s.pwr.phase == .normal && !s.ms.porHeld then s.moduleReset 3 src else s

/-- The lockout latch at POR from the latch records (R46, R482). -/
def latchOf (newest : Option LatchRec) : Bool × Byte × Tick :=
  match newest with
  | none => (false, 0, 0)
  | some r =>
    if r.valid && r.stateByte == 0x00 then (false, 0, 0)
    else if r.valid && r.stateByte == 0x5A then (true, r.cause, r.tick)
    else (true, 0x09, 0)

/-- The last retained record whose check holds (R484). -/
def validRet (t : Sectors RetRec) : Option RetRec :=
  ((if t.inSecond then t.second ++ t.first else t.first ++ t.second).find? (fun r => r.valid))

/-- Plans at POR (R486, R504): the AON archive, or v = 60 mV with k of the last daily record, or none yet. -/
def Nvm.plans (n : Nvm) : PerLane (Nat × Nat) × Nat :=
  match n.aonArch with
  | some a => a
  | none =>
    match n.ageing with
    | d :: _ => (d.plan.map (fun p => (12, p.2)), 12)
    | [] => (.all (0, 0), 0)

/-- The log that the last commit archived is restored, copied into the history ring, and announced (R486, R526), where that commit
completed. -/
def State.restoreLog (s : State) : State :=
  match s.nvm.logArch with
  | none => s
  | some a =>
    if !s.aon.fullDone then s
    else
    let g : Log := { s.log with
      recs := a.recs, restored := a.recs.length, occA := a.occA, occE := a.occE, occT := a.occT, tdrop := a.tdrop, lostA := a.lostA
      lostE := a.lostE, gapCnt := a.gapCnt, gapNode := a.gapNode }
    let s1 : State := { s with log := g, nvm := { s.nvm with logHist := (a.recs :: s.nvm.logHist).take 32 } }
    s1.raise .event 0x09 .node s1.node.toNat (leBytes 4 a.recs.length ++ [BitVec.ofNat 8 (b2n s.nvm.logArea)])

/-- The full commit of the last power loss was incomplete (R481): ALARM 0xF7 with the store. -/
def State.reportStore (s : State) : State :=
  match s.nvm.badStore with
  | none => s
  | some b =>
    ({ s with nvm := { s.nvm with badStore := none } } : State).alarmNode 0xF7 [BitVec.ofNat 8 b.val]

/-- POR (R465, R470, R473, R482, R484, R486, R504, R526): every domain; what NVM1 holds is restored. -/
def State.powerOn (s : State) : State :=
  let n := State.reset
  let latch := latchOf s.nvm.latchLog.newest
  let ret := validRet s.nvm.retLog
  let plans := s.nvm.plans
  let aon : Aon := { n.aon with
    latch := latch.1, latchCause := latch.2.1, latchTick := latch.2.2, faultRec := s.nvm.frec.bind faultRecOf
    restart := (ret.map (fun r => r.restart)).getD 0
    counters := (ret.map (fun r => r.counters)).getD (.replicate 9 0)
    ploss := (ret.map (fun r => r.ploss)).getD false
    vholdAtLoss := (ret.map (fun r => r.vholdAtLoss)).getD false
    essDone := (ret.map (fun r => r.essDone)).getD false
    fullDone := (ret.map (fun r => r.fullDone)).getD false
    commitMs := (ret.map (fun r => r.commitMs)).getD 0
    plossCnt := (ret.map (fun r => r.plossCnt)).getD 0
    planStore := plans.1
    hubTrim := plans.2 }
  let s1 : State := { n with
    rrq := { n.rrq with high := s.rrq.high }
    lanes := s.lanes.mapL (fun l x => x.afterReset (plans.1.get l) (s.nvm.gainOf (fun d => d.gain.get l)))
    fld := { n.fld with stages := s.fld.stages, reps := freshReps s.nowNs }
    pair := { n.pair with strapId := s.pair.pins, pins := s.pair.pins }
    aon := aon
    pwr := { n.pwr with vinOk := s.pwr.vinOk, vf := s.pwr.vf, perstLow := s.pwr.perstLow }
    log := { n.log with ring := s.log.ring }
    fuses := s.fuses
    nvm := { s.nvm with ready := true, appendFailed := false }
    prf := { n.prf with day := if aon.fullDone then s.nvm.dayArch else none, hub := s.nvm.hubPlan plans.2 }
    free := s.free
    pending := s.pending }
  s1.restoreLog.reportStore.bootStart

/-- POR (R470). -/
def execPor (s : State) : Host.Outcome State Fault Refusal := .next s.powerOn

/-- PIN (R470-R472): RESET_N low for 10 µs or longer; its release starts BOOT. During a power-loss commit it is discarded,
and under POR it has nothing to reset. -/
def execPin (lowUs : Nat) (s : State) : Host.Outcome State Fault Refusal :=
  if lowUs < 10 || s.pwr.phase != .normal || s.ms.porHeld then .next s else .next ((s.passUs lowUs).moduleReset 2 0)

/-- WARM (R56, R470, R482). The hub clears the latch in LOCKOUT; or two different lanes of the agreement set request the
reset. -/
def execWarm (src : WarmSrc) (s : State) : Host.Outcome State Fault Refusal :=
  match src with
  | .lockoutCleared =>
    if s.ms.mode == .lockout && !s.aon.latch then .next (s.warmReset 1) else .next s
  | .laneRequest l m =>
    if l != m && l.inMask s.acting && m.inMask s.acting then .next (s.warmReset 2) else .next s

/-- POR_RELEASE (R359, R466, R547): the supplies and REFCLK are present, and BOOT begins; it latches the node straps. -/
def execPorRelease (s : State) : Host.Outcome State Fault Refusal :=
  if s.ms.porHeld then
    .next { s with
      ms := { s.ms with porHeld := false }, pwr := { s.pwr with vinOk := true }, pair := { s.pair with strapId := s.pair.pins } }
  else .next s

/-! ### HOSTR (R405, R411, R428, R470) -/

/-- An outbound direction that a HOSTR clears (R411). -/
def Mbx.afterHostr (m : Mbx) : Mbx :=
  let had := m.outFull || !m.queue.isEmpty
  { m with
    outBuf := .replicate 16 0, outFull := false, queue := [], outAborted := m.outAborted || had
    h2m := if had then m.h2m ||| 0x8000_0000 else m.h2m, mask := 0xFFFF_FFFF }

/-- The host-written registers at their Reset values (R464, R486, R528, R539). -/
def State.hostRegsReset (s : State) : State :=
  let n := State.reset
  { s with
    mail := { s.mail with
      sec := s.mail.sec.map (fun m => { m with mask := 0xFFFF_FFFF })
      non := s.mail.non.map (fun m => { m with mask := 0xFFFF_FFFF }) }
    crc := { s.crc with chans := vmapIdx s.crc.chans (fun i c => if 12 ≤ i.val then .reset else c) }
    gal := { s.gal with viewGal := 0, viewPort := 0 }
    log := { s.log with
      filter := n.log.filter, rate := n.log.rate, ringAddr := 0, log2 := n.log.log2, irqEn := false, en := false, tail := 0 }
    upd := { s.upd with dmaAddr := 0, dmaCnt := n.upd.dmaCnt, dmaBusy := false, dmaAt := 0, dmaLeft := 0 }
    prf := { s.prf with bistBlock := n.prf.bistBlock }
    host := { s.host with tickDiv := n.host.tickDiv, msixMask := n.host.msixMask, msix := [], pendingVec := 0 } }

/-- A HOSTR: the HST domain, the locks of the host masters, outbound mailboxes, channels 12 to 15, host DMA. -/
def State.hostReset (s : State) : State :=
  let s1 : State := { s with
    mail := { s.mail with
      sec := s.mail.sec.map (fun m => m.afterHostr), non := s.mail.non.map (fun m => m.afterHostr), hostrPend := true }
    aon := { s.aon with hostrCnt := satInc 255 s.aon.hostrCnt }
    pwr := { s.pwr with busMaster := false, d3hot := false, linkUp := false } }
  (s1.hostRegsReset.orphanLocks 5).orphanLocks 6

/-- HOSTR (R470): hot reset, link down or function level reset; without power there is no host domain to reset. -/
def execHostr (s : State) : Host.Outcome State Fault Refusal :=
  if s.pwr.phase == .normal then .next s.hostReset else .next s

/-! ### BOOT (R443, R444, R447, R462) -/

/-- FIO_CHCFG takes the image's settings (R300). -/
def State.loadChcfg (s : State) : State := { s with fld := { s.fld with cfg := Vector.ofFn s.chcfgWord } }

/-- A node listens for the network (R327); in LOCKOUT it joins for its reporting only (R47). Under full silence it stays silent (R324). -/
def State.enterListen (s : State) : State :=
  let listen := match (s.topo? s.node).bind (fun e => e.rank) with
    | some r => 2 * s.ms.tUs.toNat + 50 * r.val
    | none => 0
  if s.net.fullSilent then s
  else { s with net := { s.net with state := .listen, listenUs := listen, listenFrom := s.nowNs, seen := none, seenParent := none } }

/-- A loss of power during the last write of the bank record leaves its copy without a CHECK that holds (R442). -/
def State.tornRec (s : State) : State :=
  if s.recIs0 then { s with nvm := { s.nvm with rec0 := { s.nvm.rec0 with check := ~~~s.nvm.rec0.check } } }
  else { s with nvm := { s.nvm with rec1 := { s.nvm.rec1 with check := ~~~s.nvm.rec1.check } } }

/-- Steps 2 and 3 of R443: an invalid bank record, and a trial that this start has ended. -/
def State.bootRecords (s : State) : State :=
  let s1 := if s.nvm.rec0.valid || s.nvm.rec1.valid then s else s.alarmNode 0xF1 []
  let st := s1.bankRec.state
  if st == .rollingTrial || st == .fullTrial then
    let s2 := s1.putBankRec (fun r => { r with failed := s1.bankDigest s1.trialBank, state := .stable })
    let s3 := s2.alarmNode 0xF3 [2]
    { s3 with upd := { s3.upd with trialCause := 2 }, nvm := { s3.nvm with conv := none } }
  else s1

/-- Step 4 of R443: a pending full restart is copied into the bank other than ACTIVE where VHOLD and the owner allow it. -/
def State.bootCopy (s : State) (lockLow : Bool) : State :=
  if s.bankRec.state == .fullPending && two s.aon.vqual && !s.bankRec.ownerLock && !lockLow then
    (s.setBank s.trialBank (imageOf s.stagedBytes)).putBankRec (fun r => { r with state := .fullTrial })
  else s

/-- What one bank gives at steps 5 and 6 of R443: the reason that a lane records (R444), and the lanes that accepted and loaded it. DESIGN
CHOICE (log 154): a lane that could not load an image that passes every check records 0x3. -/
def State.bootTry (s : State) (b : Bool) (loaded : PerLane Bool) : BitVec 4 × BitVec 3 :=
  let r := s.bootReason (s.bankImg b)
  (if r = 0 && loaded.toList.any (fun x => !x) then 3 else r, if r = 0 then maskOf (fun l => loaded.get l) else 0)

/-- The stores that an image with a higher RET_FMT converts (R462). -/
def Nvm.migrates (v : Nvm) (fmt : BitVec 16) : PerStore Bool :=
  ⟨decide (v.fmt.log.toNat < fmt.toNat), decide (v.fmt.counters.toNat < fmt.toNat), decide (v.fmt.ageing.toNat < fmt.toNat)⟩

/-- The converted stores beside the originals (R462); the data are the originals', whose format the manual leaves to the image. -/
def Nvm.convert (v : Nvm) (fmt : BitVec 16) (which : PerStore Bool) : Nvm :=
  let ret (r : RetRec) : RetRec := if r.valid then { r with fmt := fmt }.sealed else r
  let c : Converted :=
    { fmt := fmt
      log := if which.log then some v.logArch else none
      counters := if which.counters then some ⟨v.retLog.first.map ret, v.retLog.second.map ret, v.retLog.inSecond⟩ else none
      ageing := if which.ageing then some v.ageing else none }
  { v with conv := some c }

/-- The originals are deleted, and the converted stores take their place with their version (R460, R462). -/
def Nvm.adoptConv (v : Nvm) : Nvm :=
  match v.conv with
  | none => v
  | some c =>
    { v with
      logArch := c.log.getD v.logArch
      retLog := c.counters.getD v.retLog
      ageing := c.ageing.getD v.ageing
      fmt := ⟨if c.log.isSome then c.fmt else v.fmt.log, if c.counters.isSome then c.fmt else v.fmt.counters,
        if c.ageing.isSome then c.fmt else v.fmt.ageing⟩
      conv := none }

/-- Migration at the first start of an image with a higher RET_FMT (R462). Without a trial the converted stores are the stores. A
store that cannot be converted keeps its original: ALARM 0xF3 with cause 0x4, and a trial fails. -/
def State.migrate (s : State) (i : Image) (trial : Bool) (can : PerStore Bool) : State :=
  let m := s.nvm.migrates i.hdr.retFmt
  let does : PerStore Bool := ⟨m.log && can.log, m.counters && can.counters, m.ageing && can.ageing⟩
  if !(m.log || m.counters || m.ageing) then { s with nvm := { s.nvm with conv := none } }
  else if does == m then
    let v := s.nvm.convert i.hdr.retFmt m
    { s with nvm := if trial then v else v.adoptConv }
  else if trial then s.endTrial 4
  else
    ({ s with upd := { s.upd with trialCause := 4 }, nvm := (s.nvm.convert i.hdr.retFmt does).adoptConv } : State).alarmNode 0xF3 [4]

/-- The module runs an image from a bank with the lanes that loaded it (R443, R444, R465). -/
def State.bootRun (s : State) (i : Image) (b fallback : Bool) (can : PerStore Bool) (lanes : BitVec 3) : State :=
  let trial := s.bankRec.state == .fullTrial && b != s.bankRec.active
  let region := restartRegion i s.node
  let s1 : State := { s with
    ms := { s.ms with tUs := i.hdr.tUs.setWidth 17 }
    upd := { s.upd with
      img := some i, bank := b, bootFallback := fallback, lanesLoaded := lanes
      apply := if trial then .fullTrial else if s.bankRec.state == .fullPending then .fullPending else .none }
    lanes := s.lanes.mapL (fun l x =>
      if l.inMask lanes then { x with loaded := true, region := region, regionOk := true } else x) }
  let banks : BitVec 13 := (allFin 3).foldl (fun m k => if s1.bankUsed k then m ||| (1#13 <<< (10 + k.val)) else m) 0
  let s2 : State := { s1 with pwr := { s1.pwr with dom := s1.pwr.dom ||| banks } }
  let s3 := (s2.loadGalleries s2.part).loadChcfg.migrate i trial can
  let s4 := if fallback then s3.alarmNode 0xF1 [] else s3
  (lanesList.filter (fun l => !l.inMask lanes)).foldl (fun s l => (s.disableLane l).alarmLane 0xF1 l []) s4

/-- The end of BOOT with an image in force (R43, R47): PROVE, or LOCKOUT under the latch, which ends a full trial (R461). -/
def State.bootEnd (s : State) : State :=
  if s.aon.latch then
    let s0 := if s.bankRec.state == .fullTrial && s.upd.apply == .fullTrial then s.endTrial 3 else s
    let s1 : State := { s0 with lanes := s0.lanes.map (fun x => if x.loaded && x.svc != .disabled then { x with svc := .inService } else x) }
    (s1.setMode .lockout).enterListen
  else s.setMode .prove

/-- Confirmed version of the retained data, STORED of IMG_RETFMT (R464): where the stores differ, the lowest. DESIGN CHOICE (log 155). -/
def Nvm.storedFmt (v : Nvm) : BitVec 16 :=
  let low (a b : BitVec 16) : BitVec 16 := if a.toNat ≤ b.toNat then a else b
  low v.fmt.log (low v.fmt.counters v.fmt.ageing)

def LifeCycle.code : LifeCycle → Nat
  | .manufacture => 0
  | .commission => 1
  | .service => 2
  | .field => 3
  | .retired => 4

/-- The IMG registers that show fuses and stores, loaded at the end of BOOT (R464). -/
def State.loadImgRegs (s : State) (h : ImageHdr) : State :=
  { s with upd := { s.upd with
      keys := fields32 [(24, s.fuses.revoked.toNat), (20, bitsNat (s.fuses.slots.toList.map (fun x => x.isSome))),
        (16, h.keySlot.toNat % 4), (8, s.fuses.secFloor)]
      lcBits := BitVec.ofNat 4 (8 * b2n s.fuses.commissioned + s.lifeCycle.code)
      fmt := fields32 [(16, s.nvm.storedFmt.toNat), (0, h.retFmt.toNat)] } }

/-- No image, or a retired module (R49): the module stays in BOOT. -/
def State.bootFailed (s : State) : State :=
  (({ s with ms := { s.ms with bootFail := true } } : State).latchFault 0x06 0 0 [])

/-- Steps 5 to 7 of R443 and what follows. -/
def State.bootLoad (s : State) (loaded0 loaded1 : PerLane Bool) (c : Bool) (can : PerStore Bool) : State :=
  let at_ (b : Bool) : PerLane Bool := if b then loaded1 else loaded0
  let x := s.bootTry c (at_ c)
  let other := !c
  let barred := (s.bankImg other).isSome && s.bankDigest other == s.bankRec.failed && s.bankRec.failed != 0
  let y : BitVec 4 × BitVec 3 := if 2 ≤ countMask x.2 || barred then (0xF, 0) else s.bootTry other (at_ other)
  let res (b : Bool) : BitVec 4 := if b == c then x.1 else y.1
  let s1 : State := { s with upd := { s.upd with b0 := res false, b1 := res true } }
  let pick : Option (Bool × BitVec 3) :=
    if 2 ≤ countMask x.2 then some (c, x.2)
    else if 2 ≤ countMask y.2 then some (other, y.2)
    else if 1 ≤ countMask x.2 then some (c, x.2)
    else if 1 ≤ countMask y.2 then some (other, y.2)
    else none
  match pick with
  | none => s1.bootFailed
  | some (b, lanes) =>
    match s1.bankImg b with
    | none => s1.bootFailed
    | some i =>
      if i.hdr.lcReq == .retired then
        ({ s1 with fuses := { s1.fuses with retired := true, kek := none } } : State).bootFailed
      else
        let s2 := (s1.bootRun i b (b != c) can lanes).loadImgRegs i.hdr
        (if countMask lanes < 2 then s2.setLatch 0x06 else s2).bootEnd

/-- BOOT_COMPLETE (R43, R49, R443, R444, R447, R462): `loaded0` and `loaded1` say which lanes could load the image of each
bank, `ms` how long BOOT took. -/
def execBootComplete (loaded0 loaded1 : PerLane Bool) (obs : BootObs) (ms : Nat) (s : State) :
    Host.Outcome State Fault Refusal :=
  if s.ms.mode != .boot || s.ms.porHeld || s.ms.bootFail then .next s
  else
    let s0 := s.passUs (1000 * ms)
    let s1 := (if obs.torn && s0.aon.kind == 1 then s0.tornRec else s0).bootRecords
    let before := s1.bankRec.state
    let s2 := s1.bootCopy obs.lockLow
    let c := if before == .fullPending && s2.bankRec.state == .fullTrial then s2.trialBank else s2.bankRec.active
    -- step 5 begins with NET switched on
    let s3 : State := { s2 with upd := { s2.upd with bootMs := min 65535 ms }, pwr := { s2.pwr with dom := s2.pwr.dom ||| 4 } }
    .next (s3.bootLoad loaded0 loaded1 c obs.converted)

/-! ### PROVE (R43, R50, R263, R430, R489-R491) -/

/-- The values read are those that the algorithms give (R430): CRC-32C of the link ends, CRC-32 of the link engine. -/
def katMatches (k : KatRead) : Bool := k.link == crc32c Config.katPacket && k.frame == crc32 Config.katFrame

/-- The known-answer test of a lane (R430): KAT_FAIL shows its result, and a mismatch raises ALARM 0xBC. -/
def State.kat (s : State) (l : Lane) (k : KatRead) : State :=
  let own := maskOf (fun m => m == l)
  let s1 := s.modLaneSt l (fun x => { x with katDue := false })
  if katMatches k then { s1 with crc := { s1.crc with katFail := s1.crc.katFail &&& ~~~own } }
  else ({ s1 with crc := { s1.crc with katFail := s1.crc.katFail ||| own } } : State).alarmLane 0xBC l []

/-- One lane's start-up proof: a failure is repeated once after a LANE reset, and a second one disables the lane (R50). -/
def State.proveLane (s : State) (l : Lane) (o : ProveObs) : State :=
  if !(s.lane l).loaded || (s.lane l).svc == .disabled || (s.lane l).hot then s
  else
    -- a lane that a LANE reset has cleared since BOOT begins with the restart values (R147), and its P5 test stays due (R430)
    let pass (s : State) : State :=
      let due := (s.lane l).katDue
      let s1 := (s.modLaneSt l (fun x => { x with svc := .inService, proofFails := 0 })).kat l o.kat
      if due then (s1.modLaneSt l (fun x => { x with katDue := true })).restartLane l else s1
    let a := s.tested l o.first o.hw
    match proofTest o.first (a.lane l).check with
    | none => pass a
    | some t =>
      let b := (a.proofFailed l t).tested l o.second o.hw
      match proofTest o.second (b.lane l).check with
      | none => pass b
      | some u => b.proofFailed l u

/-- Cause with which a channel that is not at rest is locked out before its majority element proof (R257, R263). -/
def restCause (e : EchoItem) : Option (BitVec 4) :=
  if e.h == .mid && e.l == .mid then none
  else if e.h == .high && e.l == .high then some 4
  else if e.h == .low && e.l == .low then some 5
  else some 0xB

/-- Step of the table of R263 in which these lanes drive a side; none where the proof, which the passing lanes run, has none. -/
def majStep (side : Side) (drivers passing : BitVec 3) : Option Nat :=
  if drivers &&& ~~~passing != 0 then none
  else
    match side, countMask drivers with
    | .low, 1 => some 1
    | .low, 2 => some 2
    | .high, 1 => some 3
    | .high, 2 => some 4
    | _, _ => none

/-- What Echo shows passes the step (R263): one lane alone gives no gate drive throughout; a pair gives it within 150 µs, and the
side's land. -/
def majPasses (m : MajRead) : Bool :=
  if countMask m.drivers = 1 then !m.gdEver
  else m.gdSoon && m.land == (match m.side with
    | .low => PinClass.low
    | .high => PinClass.high)

/-- Channels that fail a precondition are locked out and not proved (R257, R263). -/
def State.lockAtRest (s : State) (cs : List (Chan × BitVec 4)) : State :=
  cs.foldl (fun s p => s.locStep (fun x => x.lock s.ms.tick p.1 p.2)) s

/-- The steps `steps` of the proof fail at these reads of channels that are not locked out. -/
def State.majFails (s : State) (maj : List MajRead) (steps : List Nat) : List (Nat × MajRead) :=
  steps.flatMap (fun step => (maj.filter (fun m =>
    (outChans s.part.chans).contains m.ch && !(s.leadK.outs[m.ch]).lock.isSome && majStep m.side m.drivers s.running == some step &&
    !majPasses m)).map (fun m => (step, m)))

/-- The majority element proof (R263): channels not at rest are locked out before step 1, and those with L LOW before step 3; a failed
step fails the proof. -/
def State.proveMajority (s : State) (maj : List MajRead) (echo : List (Chan × EchoItem)) : State :=
  let outs := outChans s.part.chans
  let s1 := s.lockAtRest (outs.filterMap (fun c => (echo.find? (fun p => p.1 == c)).bind (fun p => (restCause p.2).map (fun x => (c, x)))))
  let low := s1.majFails maj [1, 2]
  let s2 := s1.lockAtRest ((maj.filter (fun m => outs.contains m.ch && m.side == .high && m.beforeL == .low &&
      !(s1.leadK.outs[m.ch]).lock.isSome)).map (fun m =>
    (m.ch, (restCause { EchoItem.rest with h := m.beforeH, l := m.beforeL }).getD 0xB)))
  let bad := low ++ s2.majFails maj [3, 4]
  let s3 := bad.foldl (fun s p => s.alarmChan 0xC5 p.2.ch [if p.2.side == .low then 1 else 0, BitVec.ofNat 8 p.1]) s2
  if bad.isEmpty then { s3 with vot := { s3.vot with majProofOk := true } } else s3.setLatch 0x05

/-- JOIN (R43, R327, R360): the node listens, or waits for an identity that the image does not hold. -/
def State.enterJoin (s : State) : State :=
  let s1 := (s.setMode .join).enterListen
  let known := (s1.topo? s1.node).isSome && (s1.upd.img.map (fun i => i.parts.has s1.node.toNat)).getD false
  if known then s1
  else ({ s1 with ms := { s1.ms with joinIdWait := true } } : State).alarmNode 0xE0 []

/-- PROVE_COMPLETE (R43, R50, R263, R430, R491). -/
def execProveComplete (obs : PerLane ProveObs) (maj : List MajRead) (echo : List (Chan × EchoItem)) (s : State) :
    Host.Outcome State Fault Refusal :=
  if s.ms.mode != .prove then .next s
  else
    let s1 := lanesList.foldl (fun s l => s.proveLane l (obs.get l)) s
    let s2 := if countMask s1.running < 2 then s1.setLatch 0x06 else s1.proveMajority maj echo
    let s3 : State := { s2 with fld := { s2.fld with ifaces := s2.fld.ifaces.map (fun v => v.map (fun i => { i with proof := none })) } }
    if s3.aon.latch then .next (s3.setMode .lockout).enterListen else .next s3.enterJoin

end Sys2Proof.Machine
end

