-- ==== Sys2Proof/Machine/Power.lean ====
section
/-!
DEFINITION. Power loss and its commits (R479-R481), VHOLD (R456, R468, R487), low-power states (R474-R478), the PCI Express
reset pin (R548) and the key-encryption key (R437, R446).
-/

namespace Sys2Proof.Machine

/-! ### Power loss (R479-R481) -/

/-- What is left of a lane whose domains are off. -/
def LaneSt.off (x : LaneSt) : LaneSt := { LaneSt.reset with hot := x.hot }

/-- At a qualified VIN_FAIL every domain but AON and HUB is off (R479): no lane, no link, no host, no waveform. -/
def State.domainsOff (s : State) : State :=
  let n := State.reset
  let s1 : State := { s with
    ms := { s.ms with voting := 0 }
    lanes := s.lanes.map LaneSt.off
    fld := { s.fld with ifaces := n.fld.ifaces, reps := freshReps s.nowNs }
    net := n.net
    tim := n.tim
    gal := n.gal
    buf := n.buf
    pwr := { s.pwr with dom := 3, phase := .essential, vinOk := false, d3hot := false, busMaster := false, linkUp := false } }
  (((lanesList.foldl (fun s l => s.orphanLocks (BitVec.ofNat 4 l.num)) s1).orphanLocks 4).orphanLocks 5).orphanLocks 6
    |>.hostRegsReset

/-- The essential commit (R480) with its duration in ms. -/
def State.essential (s : State) (ms : Nat) : State :=
  let s0 : State := { s with nvm := { s.nvm with ready := true } }
  let s1 := (if s0.aon.latrecPend then s0.appendLatch else s0).appendRet
  let s2 : State := { s1 with nvm := { s1.nvm with frec := s1.aon.faultRec.map FaultRec.bytes } }
  ({ s2 with aon := { s2.aon with essDone := true, commitMs := ms } } : State).appendRet

/-- VIN_FAIL (R465, R479, R480). The duration of the commit is open within its limit of 2 ms. -/
def execVinFail (s : State) : Host.Outcome State Fault Refusal :=
  if s.pwr.phase != .normal || s.ms.porHeld then .next s
  else
    let s1 := s.domainsOff
    let s2 : State := { s1 with aon := { s1.aon with
      ploss := true, vholdAtLoss := two s1.aon.vqual, essDone := false, fullDone := false, commitMs := 0
      plossCnt := satInc 255 s1.aon.plossCnt } }
    let s3 := s2.essential (Config.essentialMs s2.free % 3)
    .next { s3 with free := s3.free + 1 }

/-- The event log enters its archive: the areas are written alternately, but during a migration each keeps its format and both take the
log (R462, R484). -/
def Nvm.putLog (v : Nvm) (g : Log) : Nvm :=
  match v.conv with
  | some c =>
    if c.log.isSome then { v with logArch := some g, conv := some { c with log := some (some g) } }
    else { v with logArch := some g, logArea := !v.logArea }
  | none => { v with logArch := some g, logArea := !v.logArea }

/-- The archives that a full commit has written before store number `n` (R481, R526). -/
def State.archive (s : State) (n : Nat) : State :=
  let v := s.nvm
  let v1 : Nvm := if 0 < n then { v with aonArch := some (s.aon.planStore, s.aon.hubTrim) } else v
  let v2 : Nvm := if 1 < n then v1.putLog s.log else v1
  let v3 : Nvm := if 2 < n then { v2 with dayArch := s.prf.day } else v2
  { s with nvm := v3 }

/-- FULL_COMMIT (R481): every store, and the retained record with FULL_DONE and the duration of both commits. -/
def execFullCommit (ms : Nat) (s : State) : Host.Outcome State Fault Refusal :=
  if s.pwr.phase != .essential || !s.aon.vholdAtLoss then .next s
  else
    let s1 := s.archive 3
    let s2 : State := { s1 with
      aon := { s1.aon with fullDone := true, commitMs := min 65535 ms }
      pwr := { s1.pwr with phase := .full } }
    .next s2.appendRet

/-- FULL_COMMIT_ABORT (R481): VHOLD falls to 7.0 V; the area being written fails its check. -/
def execFullCommitAbort (store : Fin 4) (s : State) : Host.Outcome State Fault Refusal :=
  if s.pwr.phase != .essential || !s.aon.vholdAtLoss then .next s
  else
    let s1 := s.archive store.val
    .next { s1 with nvm := { s1.nvm with badStore := some store }, pwr := { s1.pwr with phase := .aborted } }

/-- COMMIT_END (R472, R479): HUB and AON are switched off and POR is asserted. -/
def execCommitEnd (s : State) : Host.Outcome State Fault Refusal :=
  if s.pwr.phase == .normal then .next s else .next s.powerOn

/-! ### VHOLD (R456, R468, R487) -/

/-- VHOLD_QUALIFIED (R468). -/
def execVholdQualified (l : Lane) (s : State) : Host.Outcome State Fault Refusal :=
  .next { s with aon := { s.aon with vqual := s.aon.vqual.set l true } }

/-- A copy that battery low stops (R456): the lanes abort the update mover, whose locks are freed (R405); ALARM 0xF5, and the target bank
counts as empty. -/
def State.abortCopy (s : State) : State :=
  if s.upd.copying then
    let s1 := s.setBank s.trialBank none
    (({ s1 with upd := { s1.upd with copying := false, apply := .deferred } } : State).alarmNode 0xF5 []).orphanLocks 7
  else s

/-- VHOLD_DISQUALIFIED (R456, R468, R487): where no two comparators report it qualified any more, VHOLD is not qualified. -/
def execVholdDisqualified (l : Lane) (s : State) : Host.Outcome State Fault Refusal :=
  let had := s.aon.vqual.get l
  let was := two s.aon.vqual
  let s1 : State := { s with aon := { s.aon with
    vqual := s.aon.vqual.set l false, disqCnt := if had then satInc 255 s.aon.disqCnt else s.aon.disqCnt } }
  if was && !two s1.aon.vqual then
    let s2 := if s1.ms.mode == .run || s1.ms.mode == .run2 then s1.alarmNode 0xF6 [] else s1
    .next s2.abortCopy
  else .next s1

/-! ### Low-power states (R474-R478) -/

/-- A lane stays in L0 (R476). -/
def State.staysAwake (s : State) (l : Lane) : Bool :=
  !s.inTicks || !((s.lane l).svc.running || (s.lane l).svc == .withdrawn) || s.ms.p5Left.get l ||
  lanesList.any (fun m => (s.lane m).svc == .resync && (m == l || (s.lane m).donor == some l)) ||
  s.pair.sync == 3 || s.pair.copyTick.isSome || s.pair.served.isSome || (s.lane l).check.injMode || s.prf.phase == .dissent ||
  s.leadK.outs.toList.any (fun o => o.pend.any (fun p => tickGt p.tick (s.ms.tick + 1)))

/-- The deepest allowed state that fits the gap (R475): entry time + wake time + 10 µs. -/
def sleepState (tUs : BitVec 17) (gapUs : Nat) : LpState :=
  if 10000 ≤ tUs.toNat && 560 ≤ gapUs then .l3
  else if 90 ≤ gapUs then .l2
  else if 25 ≤ 2 * gapUs then .l1
  else .l0

/-- LOW_POWER_ENTRY (R474-R476, R478): `gapUs` is the time to the lane's next known event. -/
def execLowPowerEntry (l : Lane) (gapUs : Nat) (s : State) : Host.Outcome State Fault Refusal :=
  if s.staysAwake l then .next s
  else
    let s1 := s.modLaneSt l (fun x => { x with lp := sleepState s.ms.tUs gapUs })
    let asleep := s1.acting != 0 && (lanesOf s1.acting).all (fun m => (s1.lane m).lp == .l3)
    if asleep && !s1.pwr.linkUp then .next { s1 with pwr := { s1.pwr with dom := s1.pwr.dom &&& ~~~8 } } else .next s1

/-- LOW_POWER_WAKE (R475, R477, R478): `late` says that the lane reached L0 after its event. -/
def execLowPowerWake (l : Lane) (sleptUs : Nat) (late : Bool) (s : State) : Host.Outcome State Fault Refusal :=
  let x := s.lane l
  if x.lp == .l0 then .next s
  else
    let s1 := s.setLane l { x with
      lp := .l0, lpLast := x.lp, sleepUs := min 65535 sleptUs, lateCnt := if late then satInc 255 x.lateCnt else x.lateCnt }
    if s1.pwr.dom.getLsbD 3 then .next s1
    else .next ({ s1 with pwr := { s1.pwr with dom := s1.pwr.dom ||| 8 } } : State).hostRegsReset

/-! ### Pins and fuses (R437, R446, R448, R548) -/

/-- PERST_N_RELEASE (R548): the hold of the HST domain ends, and the endpoint trains its link; so after a PERST_N pulse in service, whose
low level was a HOSTR. -/
def execPerstNRelease (s : State) : Host.Outcome State Fault Refusal :=
  .next { s with pwr := { s.pwr with perstLow := false, linkUp := true } }

/-- The host self-test engine and the IEEE 1149.1 port are open (R446). -/
def State.testOpen (s : State) : Bool :=
  match s.lifeCycle with
  | .manufacture => true
  | .commission => s.ms.mode == .lockout
  | .service => s.ms.mode == .lockout
  | _ => false

/-- An access that R446 does not open is ignored and counted (R448). -/
def State.testIgnored (s : State) : State := { s with upd := { s.upd with ignCnt := satInc 65535 s.upd.ignCnt } }

/-- KEY_ENCRYPTION_KEY_WRITE (R437, R446, R448): once, in COMMISSION, through the open port. Where the port is open in another state, the
fuses do not take it. -/
def execKeyEncryptionKeyWrite (key : BitVec 256) (s : State) : Host.Outcome State Fault Refusal :=
  if !s.testOpen then .next s.testIgnored
  else if s.lifeCycle != .commission then .next s
  else
    match s.fuses.kek with
    | some _ => .next s
    | none => .next { s with fuses := { s.fuses with kek := some key } }

/-- TEST_PORT_ACCESS (R446, R448): an access outside the open states is ignored and counted; an open one does what the
IEEE 1149.1 port and the self-test engine do, for which the table has rows of their own. -/
def execTestPortAccess (via : TestAccess) (s : State) : Host.Outcome State Fault Refusal :=
  if s.testOpen then .next s
  else
    match via with
    | .jtag => .next s.testIgnored
    | .bist => .next (({ s with prf := { s.prf with bistRefused := true } } : State).testIgnored.raiseVec 19)

end Sys2Proof.Machine
end

