-- ==== Sys2Proof/Machine/Resets.lean ====
section
/-!
DEFINITION. The reset request (R52-R57, R270, R273) and the acknowledge pulse of a zone (R95).
-/

namespace Sys2Proof.Machine

/-! ### What a qualified request clears (R56, R57) -/

/-- The Echo of a channel as the members that agreed at the last edge latched it (R255); an item that a bank did not deliver is
missing (R292). -/
def State.lastEcho (s : State) (c : Chan) : EchoAgreed :=
  reduceEcho (needOf s.fld.echoFrom) ((lanesOf s.fld.echoFrom).filterMap (fun l => (s.fld.echoH.get l)[c]))

/-- The feedback of an OUTPUT-FB channel is as in the off state, by the inputs agreed in the last tick (R268). -/
def State.lastFbOff (s : State) (c : Chan) : Bool :=
  let cfg := s.chan c
  if cfg.mode != .outputFb then true
  else
    match cfg.link with
    | some j =>
      let r := s.fld.regs[j]
      (r.value && !r.fault && !r.split) == !cfg.fbFollow
    | none => cfg.fbFollow

/-- Channels that a request may clear: one, or every output channel. -/
def State.clearScope (s : State) (o : ResetOrigin) : List Chan :=
  match o with
  | .twoStep (some c) => [c]
  | _ => outChans s.part.chans

/-- A qualified request in RUN or RUN-2 (R56, R57, R270): the output hold, and the channel lockouts without a present cause.
The second answer: something was cleared. -/
def State.clearConds (s : State) (o : ResetOrigin) (begun : Tick) : State × Bool :=
  let whole := match o with
    | .twoStep (some _) => false
    | _ => true
  let hold := whole && s.ms.outHold && tickGt begun s.ms.holdTick
  let chans := (s.clearScope o).filter (fun c =>
    (Loc.clear (Loc.start s.leadK) c begun (s.lastEcho c) s.fld.regs[c].tripped (s.lastFbOff c)).2)
  let one (k : LaneK) : LaneK :=
    (chans.foldl (fun (x : Loc) c => (x.clear c begun (s.lastEcho c) s.fld.regs[c].tripped (s.lastFbOff c)).1) (Loc.start k)).k
  let s1 := s.modRunK one
  (if hold then { s1 with ms := { s1.ms with outHold := false } } else s1, hold || !chans.isEmpty)

/-- Origin in EVENT 0x06 (R514). -/
def originCode : ResetOrigin → Byte
  | .rstreq => 1
  | .twoStep _ => 2

/-- A request that cleared something, or found nothing (R57). -/
def State.countClear (s : State) (o : ResetOrigin) (did : Bool) : State :=
  if did then
    let s1 : State := { s with rrq := { s.rrq with accept := satInc 255 s.rrq.accept } }
    match o with
    | .twoStep (some c) => s1.raise .event 0x06 .channel (c.val + 1) [originCode o]
    | _ => s1.raise .event 0x06 .node s1.node.toNat [originCode o]
  else { s with rrq := { s.rrq with ignored := satInc 255 s.rrq.ignored } }

/-- The hub clears the lockout latch (R482): the clear record first, then the bit. -/
def State.clearLatch (s : State) : State :=
  ({ s with aon := { s.aon with latch := false, latchCause := 0, latchTick := 0 } } : State).appendLatch

/-- A qualified reset request by the mode (R56, R57). In RUN and RUN-2 it is agreed in the present tick, and clears before P2 of the next. In LOCKOUT a request for one channel finds nothing to clear. The second
answer: something was cleared. -/
def State.qualified (s : State) (o : ResetOrigin) (begun : Tick) : State × Bool :=
  match s.ms.mode with
  | .run | .run2 => ({ s with rrq := { s.rrq with clearNext := s.rrq.clearNext ++ [(o, begun, none)] } }, false)
  | .lockout =>
    let whole := match o with
      | .twoStep (some _) => false
      | _ => true
    if whole && s.aon.latch && tickGt begun s.aon.latchTick then
      ((s.clearLatch.countClear o true).warmReset 1, true)
    else (s.countClear o false, false)
  | _ => (s.countClear o false, false)

/-- QUALIFIED_RESET_REQUEST (R56, R57). -/
def execQualifiedResetRequest (origin : ResetOrigin) (begun : Tick) (s : State) : Host.Outcome State Fault Refusal :=
  if s.pwr.phase != .normal || s.ms.porHeld then .next s else .next (s.qualified origin begun).1

/-! ### RSTREQ (R53, R54) -/

/-- RSTREQ_RISING (R53, R57): the request begins in the present tick. -/
def execRstreqRising (s : State) : Host.Outcome State Fault Refusal :=
  if s.rrq.high then .next s
  else .next { s with rrq := { s.rrq with high := true, riseTick := s.ms.tick } }

/-- A high duration that qualifies (R53). -/
def qualifies (us : Nat) : Bool := decide (50000 ≤ us) && decide (us ≤ 2000000)

/-- A pulse below 50 ms (R53). -/
def State.countShort (s : State) : State := { s with rrq := { s.rrq with short := satInc 255 s.rrq.short } }

/-- RSTREQ_FALLING (R53, R54): `highUs` is the high duration by each lane's clock, `hubUs` by the time counter. In RUN and
RUN-2 the lanes agree on it in the next tick; in other modes the hub measures. -/
def execRstreqFalling (highUs : PerLane Nat) (hubUs : Nat) (s : State) : Host.Outcome State Fault Refusal :=
  if !s.rrq.high then .next s
  else
    let s1 : State := { s with rrq := { s.rrq with high := false } }
    if s.rrq.stuck then .next s1
    else if s.ms.mode == .run || s.ms.mode == .run2 then
      let fell : PerLane Bool := highUs.map qualifies
      let shorts := (lanesOf s.acting).filter (fun l => decide (highUs.get l < 50000))
      -- a later pulse of the tick leaves the falling edge that qualified, and the tick in which its pulse began
      let s2 : State := { s1 with rrq := { s1.rrq with
        laneFell := fell.mapL (fun l b => b || s.rrq.laneFell.get l)
        fellRise := if fell.toList.any id then some s.rrq.riseTick else s.rrq.fellRise } }
      if needOf s.acting ≤ shorts.length then .next s2.countShort else .next s2
    else if hubUs < 50000 then .next s1.countShort
    else if qualifies hubUs && s.pwr.phase == .normal then .next (s1.qualified .rstreq s.rrq.riseTick).1
    else .next s1

/-- RSTREQ_STUCK (R53): high for 2 s. -/
def execRstreqStuck (s : State) : Host.Outcome State Fault Refusal :=
  if s.rrq.high && !s.rrq.stuck then
    .next (({ s with rrq := { s.rrq with stuck := true } } : State).alarmNode 0xBE [])
  else .next s

/-- RSTREQ_STUCK_CLEAR (R53): low for 50 ms. -/
def execRstreqStuckClear (s : State) : Host.Outcome State Fault Refusal :=
  if s.rrq.high then .next s else .next { s with rrq := { s.rrq with stuck := false } }

/-! ### Acknowledge pulses (R95) -/

/-- ZONE_ACK_PULSE (R95): a pulse that enough members measured as 50 ms to 2 s awaits its place in the upstream frames. -/
def execZoneAckPulse (ch : Chan) (highUs : PerLane Nat) (s : State) : Host.Outcome State Fault Refusal :=
  let good := (lanesOf s.acting).filter (fun l => qualifies (highUs.get l))
  if !s.inTicks || !(s.chan ch).ackInput || good.length < needOf s.acting then .next s
  else
    .next (s.modRunK (fun k =>
      if k.ackPend.contains ch then k
      else { k with ackPend := insertBy (fun a b => decide (a.val < b.val)) ch k.ackPend }))

end Sys2Proof.Machine
end

