-- ==== Sys2Proof/Machine/Payload.lean ====
section
/-!
DEFINITION. The payloads of a manager's streams (R143, R167, R339, R353, R369, R378, R380) as functions of the evaluation that they
show, the frame that a lane seals over one (R340, R341), and the sealing once more of a tick's frames after a row of the table
has changed what they carry.
-/

namespace Sys2Proof.Machine

/-! ### The evaluation of a lane -/

/-- The unit acts on requests (R101, R383): it is the active manager, and neither yielding nor out. -/
def State.acts (s : State) : Bool := s.ms.role == .active && s.pair.claim != 2 && s.pair.claim != 3

/-- Lane `l`'s evaluation over an input vector, with nothing produced yet. -/
def State.evOf (s : State) (l : Lane) (inp : TickIn) : Ev where
  area := ((s.laneImg l).map (fun i => i.area)).getD .empty
  node := s.node
  tick := s.ms.tick
  tUs := s.ms.tUs
  active := s.acts
  gone := s.buf.tx.any (fun t => t.tick == s.ms.tick && t.gone)
  counters := s.aon.counters
  modes := s.part.chans.map (fun c => c.mode)
  ownerLock := s.bankRec.ownerLock
  galValid := s.gal.gals.map (fun g => g.state == .valid)
  galActive := s.gal.active.val
  galBusy := s.gal.sw.isSome || s.gal.pending.isSome
  seenSwitch := s.mail.seenSwitch
  inp := inp
  c := (s.lane l).region
  recs := []
  posts := []
  counts := []
  expElem := []
  expRoute := []
  moved := s.mail.movedRoute
  bndRefused := []
  seenElem := s.mail.seenElem
  seenRoute := s.mail.seenRoute
  seenVeh := s.mail.seenVeh
  seenSlot := s.mail.seenSlot
  removed := []
  granted := 0
  refusedN := 0
  late := 0
  resets := []
  lockSet := none
  galReq := none

/-! ### Records of the node -/

/-- A mask of the channels that meet `f`. -/
def chanMask (f : Chan → Bool) : BitVec 48 := BitVec.ofNat 48 (bitsNat ((allFin 48).map f))

/-- The acknowledgement of a gallery switch in STATUS (R353): ACK, reason, N, DIGEST, gallery. -/
def State.ackFields (s : State) : Nat × BitVec 4 × Tick × DWord × Nat :=
  match s.gal.nackOut with
  | some (g, n, r) => (2, r, n, 0, g.val)
  | none =>
    match s.gal.sw with
    | some w => if w.own then (0, 0, 0, 0, 0) else (w.ack.toNat, w.reason, w.n, if w.ack = 1 then w.digest else 0, w.g.val)
    | none => (0, 0, 0, 0, 0)

/-- The STATUS item (R339). -/
def State.statusItem (s : State) (forced : BitVec 48) : List Byte :=
  let a := s.ackFields
  [s.ms.mode.code.setWidth 8, BitVec.ofNat 8 (s.ms.voting.toNat + 16 * s.ms.role.code.toNat), BitVec.ofNat 8 a.1,
    a.2.1.setWidth 8] ++
  leBytes 4 a.2.2.1.toNat ++ leBytes 8 a.2.2.2.1.toNat ++ mask48 forced ++
  [BitVec.ofNat 8 (s.gal.active.val + 16 * a.2.2.2.2)] ++ List.replicate 5 0

/-! ### A manager's payloads -/

/-- COMMANDS items for workers (R339). -/
def Ev.commandItems (v : Ev) (nodes : List (BitVec 12)) : List Byte :=
  packItems 0x04 (nodes.map (fun n => (n.toNat, cmdItem n (v.commandsFor n))))

def digestE (a : AreaCfg) (tick : Tick) (c : Carried) : DWord := partDigest tick (partE a (topKey a.elems) c)
def digestR (a : AreaCfg) (tick : Tick) (c : Carried) : DWord := partDigest tick (partR (topKey a.routes) c)
def digestA (a : AreaCfg) (tick : Tick) (c : Carried) : DWord := partDigest tick (partA a.auth.vn c)
def digestH (a : AreaCfg) (tick : Tick) (c : Carried) : DWord := partDigest tick (partH a.auth.vn a.auth.validity c)

/-- The changes of a tick that a shadow covers (R378): words of part E, records of part R. -/
def shadowOf (a : AreaCfg) (old new : Carried) : List (Nat × DWord) × List (Nat × DWord × DWord) :=
  (a.elems.filterMap (fun p =>
      let x := old.elems.getD p.1 .zero
      let w := (new.elems.getD p.1 .zero).word p.2
      if w == x.word p.2 || (p.2.timed && decide (0 < x.timer) && w == ({ x with timer := x.timer - 1 } : Elem).word p.2) then none
      else some (p.1, w)),
   a.routes.filterMap (fun p =>
      let x := old.routes.getD p.1 .idle
      let w := (new.routes.getD p.1 .idle).words
      if w == x.words || (decide (0 < x.timer) && w == ({ x with timer := x.timer - 1 } : RouteRec).words) then none
      else some (p.1, w.1, w.2)))

/-- COPY items of a whole part: seven words each (R378). -/
def copyItems (part : BitVec 4) (ws : List DWord) : List (List Byte) :=
  let gs := groups ws.length 7 ws
  (gs.zip (List.range gs.length)).map (fun p =>
    padTo 64 ([0x04, part.setWidth 8, 0, 0] ++ leBytes 4 (7 * p.2) ++ p.1.flatMap (fun w => leBytes 8 w.toNat)))

/-- COPY items of one tick: enough for the words of the copy rate (R380). DESIGN CHOICE (log 145): the last of them completes the rate. -/
def State.copyCount (s : State) : Nat := (s.area.params.copyRate + 6) / 7

/-- The part of a pair copy that goes out in one tick (R380). -/
def State.copyPart (s : State) : List (List Byte) :=
  match s.pair.served with
  | none => []
  | some (_, e, r) =>
    let c : Carried := { Carried.reset with elems := e, routes := r }
    let all := copyItems 1 (partE s.area (topKey s.area.elems) c) ++ copyItems 2 (partR (topKey s.area.routes) c)
    (all.drop s.pair.servedPos).take s.copyCount

/-- The payload of a pair stream (R378): the shadow is what has changed since the pair frame of the tick before. -/
def State.pairPayload (s : State) (v : Ev) : List Byte :=
  let c := v.c
  let old : Carried := match s.pair.shadowER.or s.pair.prevER with
    | some (e, r) => { c with elems := e, routes := r }
    | none => c
  let a := s.area
  let t := s.ms.tick
  let act := s.ms.role == .active
  let sh := if act then shadowOf a old c else ([], [])
  let cnt := sh.1.length + 2 * sh.2.length
  let big := decide (a.params.shadowCap < cnt)
  let st : PairStat :=
    { claim := s.pair.claim, sync := s.pair.sync, overflow := big, ahMatch := s.pair.ahMatch
      activeSince := if act then s.pair.actSince else 0, view := s.pair.view, shadowCnt := min 65535 cnt
      copyTick := (s.pair.served.map (fun p => p.1)).getD 0
      digE := digestE a t c, digR := digestR a t c, digA := digestA a t c, digH := digestH a t c, lanesVoting := s.ms.voting }
  let routes := (groups sh.2.length 3 sh.2).map (fun g =>
    padTo 64 ([0x02, BitVec.ofNat 8 g.length, 0, 0] ++
      g.flatMap (fun p => leBytes 2 p.1 ++ leBytes 8 p.2.1.toNat ++ leBytes 8 p.2.2.toNat)))
  let gone := if act then s.pair.removedOut else []
  let veh := (groups gone.length 30 gone).map (fun g =>
    padTo 64 ([0x03, BitVec.ofNat 8 g.length, 0, 0] ++ g.flatMap (fun v => leBytes 2 v)))
  let items := pairStatBytes st :: ((if big then [] else routes ++ veh) ++ s.copyPart)
  let elems := if big then [] else sh.1.map (fun p => (p.1, leBytes 8 p.2.toNat))
  if s.aon.latch then packZero 0x0D 1 [pairStatBytes st] else packZero 0x0D items.length items ++ packItems 0x05 elems

/-- BOUNDARY records toward a neighbouring area (R369). -/
def Ev.boundary (v : Ev) (area : Fin 16) : List Byte :=
  packItems 0x06 ((v.area.slots.filter (fun p => p.2.area == area)).map (fun p =>
    let z := v.slotSeal p.1 p.2
    (p.1, bndBytes z.1 z.2.1 z.2.2.1 z.2.2.2.1 z.2.2.2.2 p.2.peerSlot)))

/-- The first ticks of a unit, in which no authority message goes out (R175). -/
def Ev.early (v : Ev) : Bool :=
  match v.c.k.firstTick with
  | some f => !tickGe v.tick (f + 16)
  | none => true

/-- AUTHORITY messages and RESULT records toward a gateway or request node (R143, R167, R175). -/
def Ev.nodeItems (v : Ev) (dst : BitVec 12) : List Byte :=
  let msgs := (v.c.auths.filter (fun p => p.2.gateway == dst && p.2.state != .none && !v.early)).map (fun p =>
    p.2.message v.area.auth.validity p.1)
  let res := (v.c.k.resOut.filter (fun r => r.1 == dst)).map (fun r => r.2)
  packZero 0x08 msgs.length msgs ++ packZero 0x0A res.length res

/-- Planned LEN of a stream by its TX entry in the gallery in use (R346). -/
def State.plannedLen (s : State) (stream : BitVec 12) : Option Nat :=
  firstSome ((s.gal.gals[s.gal.active]).tables.toList.flatMap (fun t => (liveEntries t).map (fun p => p.2))) (fun w =>
    if entryKind w == .tx && entryStream w == stream then some (4 * (w.extractLsb' 34 14).toNat - 44) else none)

/-- Destination of a stream's frames (R339). -/
def State.streamDst (s : State) : StreamKind → BitVec 12
  | .status => if s.isManager then 0xFFF else 0
  | .header _ => 0xFFF
  | .pair => s.peerUnit
  | .command _ => 0xFFF
  | .node d => d
  | .boundary _ => 0
  | .bulk d _ => d

/-- The lanes seal the stream in the present tick; no BULK frame, which the update mover builds (R337, R452): a manager's streams on a manager unit; in LOCKOUT the status stream, and of a
pair's stream its STATUS item (R47, R383). -/
def State.seals (s : State) (k : StreamKind) : Bool :=
  match k with
  | .status => true
  | .pair => s.isPairUnit
  | .bulk _ _ => false
  | _ => s.isManager && !s.aon.latch

/-- A payload completed to its planned length and to the shortest frame (R335, R338). -/
def padPayload (plan : Option Nat) (bs : List Byte) : List Byte := padTo (max (plan.getD 20) (max 20 (4 * ((bs.length + 3) / 4)))) bs

/-- One lane's copy of a frame (R265, R340, R341). -/
def State.sealFrame (s : State) (c : StreamCfg) (seq : Word) (l : Lane) (payload : List Byte) : Sealed :=
  let head := headBytes 0x10 s.standby s.node (s.streamDst c.kind) c.stream payload.length c.valid s.areaId
  let block := blockHead seq s.ms.tick 0 s.ms.mode.code (s.aon.restart.setWidth 16)
  ⟨head, payload, block, laneCode s.areaId s.node l head payload block⟩

/-- The next SEQ of an own stream (R343). -/
def State.nextSeq (s : State) (stream : BitVec 12) : Word := ((s.buf.txSeq.get? stream.toNat).map (fun w => w + 1)).getD 0

/-- The payload that a manager's stream has from its evaluation (R339); none of a stream of every node. -/
def State.managerPayload (s : State) (v : Ev) (k : StreamKind) : Option (List Byte) :=
  match k with
  | .status => none
  | .header nodes => some (recBytes 0x01 0 [s.headerItem] ++ v.commandItems nodes)
  | .command nodes => some (v.commandItems nodes)
  | .pair => some (s.pairPayload v)
  | .node d => some (v.nodeItems d)
  | .boundary a => some (v.boundary a)
  | .bulk _ _ => none

/-- The committed region that stands for the module's. -/
def State.leadRegion (s : State) : Carried := (s.lane s.lead).region

/-! ### Sealing once more -/

/-- The frame of a stream that was sealed in the present tick has left at a port. -/
def State.frameGone (s : State) (stream : BitVec 12) : Bool :=
  s.buf.tx.any (fun t => t.stream == stream && t.tick == s.ms.tick && t.gone)

/-- A lane's payload of a stream of the present tick, over what the tick has become; a status stream's STATUS item stands first. -/
def State.payloadAgain (s : State) (l : Lane) (k : StreamKind) (old : List Byte) : List Byte :=
  (s.managerPayload (s.evOf l .empty) k).getD
    (old.take 4 ++ s.statusItem ((s.lane l).region.k.partO[1]) ++ old.drop 32)

/-- A lane's copy of a frame of the present tick, sealed again under its sequence number while the frame has not left. -/
def State.copyAgain (s : State) (l : Lane) (stream : BitVec 12) (x : Sealed) : Sealed :=
  match s.part.streams.find? (fun c => c.stream == stream) with
  | some c =>
    if s.frameGone stream then x
    else s.sealFrame c (BitVec.ofNat 32 (natAt x.block 0 4)) l
      (padPayload (s.plannedLen stream) (s.payloadAgain l c.kind x.payload))
  | none => x

/-- A write that waits at a gate, with the frame of the present tick as sealed again. -/
def State.writeAgain (s : State) (l : Lane) (w : GateWrite) : GateWrite :=
  match w with
  | .descriptor stream tick x => if tick == s.ms.tick then .descriptor stream tick (s.copyAgain l stream x) else w
  | .token b => .token b
  | .service => .service

/-- What the next pair frame starts from, once a pair frame of the present tick holds the present state. -/
def State.pairSealed (s : State) : PairSt :=
  { s.pair with sealedER := some (s.leadRegion.elems, s.leadRegion.routes) }

/-- A row that the lanes evaluate in the present tick has changed what the tick's frames carry: those that have not left are sealed again, in
the transmit buffer and at the lanes' gates (log 10). -/
def State.reseal (s : State) : State :=
  let s1 : State := if s.frameGone 2 then s else
    { s with pair := { s.pairSealed with removedOut := s.pair.removedOut ++ s.pair.removed, removed := [] } }
  { s1 with
    buf := { s1.buf with tx := s1.buf.tx.map (fun t =>
      if t.tick != s1.ms.tick then t
      else { t with copies := t.copies.mapL (fun l c => c.map (s1.copyAgain l t.stream)) }) }
    lanes := s1.lanes.mapL (fun l x => { x with held := x.held.map (s1.writeAgain l) })
    gal := { s1.gal with nackSealed := s1.gal.nackSealed || (s1.gal.nackOut.isSome && !s1.frameGone 0) } }

end Sys2Proof.Machine
end

