-- ==== Sys2Proof/Machine/Exchange.lean ====
section
/-!
DEFINITION. Blocks that one lane sends another through the Glefel exchange (R20, R393, R394), and the copy of a donor's region into
a lane that returns (R206-R209).
-/

namespace Sys2Proof.Machine

/-- Classes of exchange blocks (R394). -/
inductive ExClass where
  | samples | digests | notice | request | segment | freeze
deriving DecidableEq, Repr

def ExClass.num : ExClass → Fin 6
  | .samples => 0
  | .digests => 1
  | .notice => 2
  | .request => 3
  | .segment => 4
  | .freeze => 5

/-- Seed of a lane's exchange codes (R393). -/
def State.exSeed (s : State) (m : Lane) : Nat :=
  (crc32c (leBytes 4 s.areaId.toNat ++ leBytes 2 s.node.toNat ++ [BitVec.ofNat 8 m.num, 0x5A])).toNat

/-- Tags of a block before its payload (R393). -/
def exHead (cls : ExClass) (m : Lane) (words : Nat) (tick : Tick) (id : Nat) (seq : Word) : List Byte :=
  [BitVec.ofNat 8 (cls.num.val + 1), BitVec.ofNat 8 m.num] ++ leBytes 2 words ++ leBytes 4 tick.toNat ++ leBytes 2 id ++ [1, 0] ++
  leBytes 4 seq.toNat

/-- A lane's block under its code (R393). SEQ counts the lane's blocks of the class from its LANE reset on (log 107). -/
def State.exBlock (s : State) (cls : ExClass) (m : Lane) (id : Nat) (payload : List Byte) : List Byte :=
  let body := exHead cls m (payload.length / 4) s.ms.tick id ((s.lane m).exSeq[cls.num]) ++ payload
  body ++ leBytes 4 (crc32cSeed (s.exSeed m) body).toNat

/-- A receiving lane accepts the bytes found in the place of a block of lane `m` (R20, R393): code, tags, tick and sequence number are
those expected there. A payload other than the sealed one has a code that fails (DESIGN CHOICE, log 107). -/
def State.exOk (s : State) (cls : ExClass) (m : Lane) (id : Nat) (payload bytes : List Byte) : Bool :=
  let n := bytes.length - 4
  bytes.take 16 == exHead cls m (payload.length / 4) s.ms.tick id ((s.lane m).exSeq[cls.num]) && bytes.length == payload.length + 20 &&
  natAt bytes n 4 == (crc32cSeed (s.exSeed m) (bytes.take n)).toNat && bytesAt bytes 16 payload.length == payload

/-- A lane has sealed one more block of a class. -/
def LaneSt.sealedBlock (x : LaneSt) (cls : ExClass) : LaneSt := { x with exSeq := vmod x.exSeq cls.num (fun n => n + 1) }

/-- A lane has sealed `n` more blocks of a class. -/
def LaneSt.sealedBlocks (x : LaneSt) (cls : ExClass) (n : Nat) : LaneSt :=
  { x with exSeq := vmod x.exSeq cls.num (fun k => k + BitVec.ofNat 32 n) }

/-- Payload of a failure notice: the exit cause (R201; its layout is the model's, log 107). -/
def noticeBody (cause : BitVec 4) : List Byte := [cause.setWidth 8, 0, 0, 0]

/-- Payload of a resync request: the lane's vector map identifier (R206). -/
def State.requestBody (s : State) (l : Lane) : List Byte := leBytes 4 ((s.vmapOf l).getD 0).toNat

/-! ### The copy (R207, R209) -/

/-- A manager unit, which evaluates the area. -/
def State.manages (s : State) : Bool := s.ms.role == .active || s.ms.role == .standby

/-- The six parts of a lane's committed region. -/
def State.copyParts (s : State) (d : Lane) : List (List DWord) := vectorParts s.area (s.partOf d) s.manages (s.lane d).region

/-- The copy segments that carry a donor's region (R207, R393): each part in blocks of at most 16,380 units of 4 bytes, with its part code.
DESIGN CHOICE (log 107): where a part is cut. -/
def State.segments (s : State) (d : Lane) : List (Nat × List DWord) :=
  let ps := s.copyParts d
  ((List.range' 1 ps.length).zip ps).flatMap (fun p => (groups p.2.length 8190 p.2).map (fun g => (p.1, g)))

/-- RESYNC_COPY_START (R206, R207): a valid request of the lane has reached the donor, the voting lane with the lowest letter; it
copies its committed region in segments, or refuses a lane with another vector map. -/
def execResyncCopyStart (q : CopyReq) (s : State) : Host.Outcome State Fault Refusal :=
  let l := q.lane
  let x := s.lane l
  if x.svc != .out || !x.copyReq || q.bytes.any (fun bs => !s.exOk .request l 0 (s.requestBody l) bs) then .next s
  else
    match lanesOf s.ms.voting with
    | [] => .next s
    | d :: _ =>
      if s.vmapOf d != s.vmapOf l then .next ((s.setLane l (x.sealedBlock .request)).copyFailed l)
      else
        let s1 := s.setLane l { x.sealedBlock .request with
          svc := .resync, copyReq := false, donor := some d, region := (s.lane d).region, regionOk := false }
        .next (s1.modLaneSt d (fun y => y.sealedBlocks .segment (s.segments d).length))

/-- A copy segment received otherwise than sealed is taken (R20, R393): length, tags, sequence number and the code under the donor's seed
are those expected in its place. `p` is the segment as sealed, the last of `n` that have gone being the donor's last. -/
def State.segmentOk (s : State) (d : Lane) (n place : Nat) (p : Nat × List DWord) (bytes : List Byte) : Bool :=
  let len := 8 * p.2.length
  let seq := (s.lane d).exSeq[ExClass.segment.num] - BitVec.ofNat 32 n + BitVec.ofNat 32 place
  bytes.take 16 == exHead .segment d (len / 4) s.ms.tick p.1 seq && bytes.length == len + 20 &&
  natAt bytes (len + 16) 4 == (crc32cSeed (s.exSeed d) (bytes.take (len + 16))).toNat

/-- A segment as the recipient has it: none where it failed. -/
def State.segmentTaken (s : State) (d : Lane) (copy : CopyObs) (n place : Nat) (p : Nat × List DWord) : Option (Nat × List DWord) :=
  match copy.segs.find? (fun x => x.place == place) with
  | none => some p
  | some x =>
    if s.segmentOk d n place p x.bytes then
      some (p.1, (List.range p.2.length).map (fun i => BitVec.ofNat 64 (natAt x.bytes (16 + 8 * i) 8)))
    else none

/-- The words of part `part` in the recipient's region after the copy. -/
def copiedPart (copy : CopyObs) (got : List (Nat × List DWord)) (part : Nat) : List DWord :=
  let ws := (got.filter (fun p => p.1 == part)).flatMap (fun p => p.2)
  match copy.flip with
  | some f => if f.part.toNat = part then ws.modify f.word (fun w => w ^^^ f.mask) else ws
  | none => ws

/-- Every segment was taken, and the six part digests of the copy equal those that the voting lanes have of the tick (R207). A copy whose
digests are equal is the donor's region (log 107). -/
def State.copyEqual (s : State) (d : Lane) (copy : CopyObs) : Bool :=
  let segs := s.segments d
  let got := ((List.range segs.length).zip segs).map (fun p => s.segmentTaken d copy segs.length p.1 p.2)
  let ps := s.copyParts d
  got.all Option.isSome &&
  ((List.range' 1 ps.length).zip ps).all (fun p =>
    partDigest s.ms.tick (copiedPart copy (got.filterMap id) p.1) == partDigest s.ms.tick p.2)

/-- RESYNC_COPY_DONE (R207, R209, R217): the digests of the copy equal those of the voting lanes, in time, while the donor stays in
service; or the attempt fails. -/
def execResyncCopyDone (l : Lane) (inTime : Bool) (copy : CopyObs) (s : State) :
    Host.Outcome State Fault Refusal :=
  let x := s.lane l
  if x.svc != .resync then .next s
  else
    let donorOk : Bool := match x.donor with
      | some d => (s.lane d).svc == .inService && s.copyEqual d copy
      | none => false
    if inTime && donorOk then
      .next (s.setLane l { x with regionOk := true, resyncCnt := satInc 255 x.resyncCnt })
    else .next (s.copyFailed l)

/-! ### Freeze requests (R394, R401) -/

/-- Payload of a freeze request block: resource and mask (its layout is the model's, log 107). -/
def freezeBody (res : Fin 6) (mask : Byte) : List Byte := [BitVec.ofNat 8 res.val, mask, 0, 0]

end Sys2Proof.Machine
end

