-- ==== Sys2Proof/Machine/Link.lean ====
section
/-!
DEFINITION. Area time and the network join (R310-R320, R325-R332, R337, R359-R362, R366): timing frames, link delay, the
servo, coldstart, takeover, silence by time, PPS and node identity. Instants are nanoseconds of the node's own counter; a
command carries the instant at which its frame arrived.
-/

namespace Sys2Proof.Machine

/-! ### Timing frames (R335, R337) -/

/-- What a cycle-start frame carries (R313, R337); `corr` in units of 2^-16 ns. -/
structure Cycle where
  ref : BitVec 12
  parent : Bool
  origin : Nat
  corr : Int
  tick : Tick
  base : DWord
  gal : BitVec 3
  rank : BitVec 2
deriving DecidableEq, Repr

def cycleOf (own : Word) (bs : List Byte) : Cycle where
  ref := (Frame.ofBytes bs).src
  parent := (Frame.ofBytes bs).area != own
  origin := natAt bs 16 8
  corr := (BitVec.ofNat 64 (natAt bs 24 8)).toInt
  tick := BitVec.ofNat 32 (natAt bs 32 4)
  base := BitVec.ofNat 64 (natAt bs 36 8)
  gal := BitVec.ofNat 3 (natAt bs 44 1)
  rank := BitVec.ofNat 2 (natAt bs 45 1)

/-- Body of a cycle-start frame from byte 16 (R337). -/
def cycleBody (c : Cycle) : List Byte :=
  leBytes 8 c.origin ++ leBytes 8 (BitVec.ofInt 64 c.corr).toNat ++ leBytes 4 c.tick.toNat ++ leBytes 8 c.base.toNat ++
  [c.gal.setWidth 8, c.rank.setWidth 8]

/-- The time a cycle-start frame implies, its link delay counted as 0 (R314, R330). -/
def Cycle.implied (c : Cycle) : Int := Int.ofNat c.origin + c.corr / 65536

/-- A timing frame of a type at a port: the bytes without FCS where it holds (R325, R335, R336). A delay frame needs no link
that carries time-triggered frames (R312); a cycle-start frame of another area counts on the passage port toward the parent only (R365, R366). -/
def State.timing (s : State) (f : RxTiming) (type : Byte) : State × Option (List Byte) :=
  let x := s.port f.port
  let c := s.portCfg f.port
  let delay := type != 1 && type != 2
  if s.net.state == .off || s.net.state == .fullSilence || c.role == .unused || !x.blockLock || !(delay || x.linkUp) then
    (s, none)
  else
    match stripFcs f.bytes with
    | none => (s.bad f.port true, none)
    | some body =>
      let fr := Frame.ofBytes body
      if fr.type != type || body.length != 60 then (s.bad f.port false, none)
      else if !s.knownArea fr.area then (s.bad f.port false, none)
      else if fr.area != s.areaId && !delay && !(type == 1 && c.passage == some fr.area && c.role == .chainUp) then (s, none)
      else (s, some body)

/-! ### Cycle-start frames (R313, R314, R316, R317, R330-R332, R356, R366) -/

/-- The node's coldstart rank, if it has one (R326). -/
def State.ownRank (s : State) : Option (Fin 4) := (s.topo? s.node).bind (fun e => e.rank)

/-- The node takes the parent's time for its area (R366): coldstart rank 0, and a passage toward the parent. -/
def State.childPassage (s : State) : Bool :=
  s.ownRank == some 0 && (allFin 4).any (fun p => (s.portCfg p).role == .chainUp && (s.portCfg p).passage.isSome)

/-- The lock window W_L of R315 in ns. -/
def State.lockWindow (s : State) : Int := Int.ofNat (s.guardNs / 2) - 24

/-- θ and the guardian's estimate both lie within W_L. -/
def State.inLock (s : State) (theta : Int) : Bool :=
  decide (Int.ofNat (absI theta) ≤ s.lockWindow) && decide (Int.ofNat (absI s.ofsEst) ≤ s.lockWindow)

/-- A 32-bit two's complement value, saturating (TIM_OFFSET). -/
def sat32 (x : Int) : BitVec 32 :=
  BitVec.ofInt 32 (if 2147483647 < x then 2147483647 else if x < -2147483648 then -2147483648 else x)

/-- A rate held within ± `m` units of 0.001 ppm. -/
def clampRate (m x : Int) : BitVec 32 := BitVec.ofInt 32 (if m < x then m else if x < -m then -m else x)

/-- Time or tick cannot be reconciled: ALARM 0xD8 and a WARM reset (R332). -/
def State.timeWarm (s : State) : State := (s.alarmNode 0xD8 []).warmReset 2

/-- The offset sample θ in ns of a cycle-start frame (R314). -/
def State.thetaOf (s : State) (p : Port) (c : Cycle) (rxNs : Nat) : Int :=
  (Int.ofNat rxNs * 65536 - (Int.ofNat c.origin * 65536 + c.corr + 8192 * s.linkMedian p)) / 65536

/-- A cycle-start frame goes on along the ring or chain with its measured residence time and the arrival link's measured delay
(R308, R313, R324), and never across a passage (R366). -/
def State.forwardCycle (s : State) (p : Port) (body : List Byte) (c : Cycle) (resNs : Nat) : State :=
  let on : Cycle := { c with corr := c.corr + 65536 * Int.ofNat resNs + 8192 * s.linkMedian p }
  match s.otherPort p with
  | none => s
  | some q =>
    if s.portOpen q && (s.portCfg q).nbr != c.ref && (s.portCfg q).passage.isNone then
      s.sendOn q resNs (withFcs (body.take 16 ++ padTo 44 (cycleBody on)))
    else s

/-- A cycle-start frame that comes after `old` (R330): two in consecutive ticks, alike and T ± 1 µs apart, are a full valid cycle. A copy
of the same frame changes nothing. -/
def SeenCycle.next (old : Option SeenCycle) (tUs : Nat) (c : Cycle) (rxNs : Nat) : SeenCycle :=
  let now (full : Bool) : SeenCycle := ⟨c.ref, c.gal, c.base, c.tick, rxNs, c.implied.toNat, c.rank, full⟩
  match old with
  | some o =>
    if o.tick == c.tick && o.ref == c.ref then o
    else
      now (o.ref == c.ref && o.gal == c.gal && o.base == c.base && c.tick == o.tick + 1 &&
        decide (absI (Int.ofNat rxNs - Int.ofNat o.at_ - 1000 * Int.ofNat tUs) ≤ 1000))
  | none => now false

/-- A listening node sees a cycle-start frame (R327, R330): of its own area, or of the parent's where it is the passage node that takes its
time (R366). -/
def State.hearCycle (s : State) (c : Cycle) (rxNs : Nat) : State :=
  if !c.parent then { s with net := { s.net with listenUs := 0, seen := some (.next s.net.seen s.ms.tUs.toNat c rxNs) } }
  else if s.childPassage then
    { s with net := { s.net with listenUs := 0, seenParent := some (.next s.net.seenParent s.ms.tUs.toNat c rxNs) } }
  else s

/-- An offset sample reaches the servo (R314, R323, R331, R332): θ, the rate, the run of edges in lock. -/
def State.sample (s : State) (p : Port) (c : Cycle) (rxNs : Nat) : State :=
  let theta := s.thetaOf p c rxNs
  let rate := if s.net.servo then clampRate 300000 (Config.servoRate s.tim.rate.toInt theta) else s.tim.rate
  let s1 : State := { s with
    net := { s.net with
      cycleThisTick := true, heldCopy := none, missEdges := 0, syncPort := p, refNode := c.ref, refRank := c.rank, refValid := true }
    tim := { s.tim with
      theta := sat32 theta, rate := rate, holdover := false, role := 2
      hops := BitVec.ofNat 16 (({ s with net := { s.net with refNode := c.ref, refValid := true } } : State).hopsOf s.node) } }
  if decide (3072 * Int.ofNat s.ms.tUs.toNat < 10 * Int.ofNat (absI theta)) && s1.net.servo then s1.timeWarm
  else
    let run := if s1.inLock theta && s1.net.servo then satInc 8 s1.net.lockRun else 0
    ({ s1 with net := { s1.net with lockRun := run }, tim := { s1.tim with locked := run == 8 } } : State).guard

/-- The gallery that the cycle-start frame of an edge names (R356): where it differs from the node's, SILENT and ALARM 0xDB, and a VALID one
becomes ACTIVE; while it is not VALID, the node stays SILENT, with the alarm again at every 1,024th edge. -/
def State.galleryDiffers (s : State) (g : Fin 8) : State :=
  if s.gal.active == g then { s with gal := { s.gal with silentEdges := 0 } }
  else if (s.gal.gals[g]).state == .valid then
    let s1 := s.galSilence
    { s1 with gal := { s1.gal with
        previous := some s1.gal.active, prevTick := s1.ms.tick, active := g, silentEdges := 0 } }
  else
    let n := s.gal.silentEdges + 1
    let s1 : State := { s with gal := { s.gal with silentEdges := n } }
    if n = 1 then s1.galSilence else if n % 1024 = 0 then s1.alarmNode 0xDB [] else s1

/-- The node's sync port by the topology table (R314). -/
def State.syncPortCfg (s : State) : Port := ((s.topo? s.node).map (fun e => e.syncPort)).getD 0

/-- Expected arrival and tolerance of the cycle-start entry of a port (R322, R346). -/
def State.csEntry (s : State) (p : Port) : Int × Nat :=
  match s.findEntry p .cs with
  | some (i, e) => (s.expectedNs p e, s.tolNs p i)
  | none => (0, 0)

/-- Deviation in ns of an instant from the nearest planned one that lies `ofs` ns after an edge (R28, R322). -/
def State.planDev (s : State) (ofs : Int) (atNs : Nat) : Int :=
  let t : Int := Int.ofNat (1000 * s.ms.tUs.toNat)
  (Int.ofNat atNs - Int.ofNat s.tim.tbase.toNat - ofs + t / 2) % t - t / 2

/-- Arrival deviation of a cycle-start frame at a port. -/
def State.cycleDev (s : State) (p : Port) (rxNs : Nat) : Int := s.planDev (s.csEntry p).1 rxNs

/-- The acceptance window of a port's cycle-start entry: e ± (G/2 + A(k)) (R322). -/
def State.cycleWindow (s : State) (p : Port) : Nat := s.guardNs / 2 + (s.csEntry p).2

/-- The acceptance window of the sync port's copy is over at an instant. -/
def State.syncOver (s : State) (rxNs : Nat) : Bool :=
  decide (Int.ofNat (s.cycleWindow s.syncPortCfg) < s.cycleDev s.syncPortCfg rxNs)

/-- The area is separated (R366): ALARM 0xE8, its own time is kept. -/
def State.separate (s : State) : State :=
  if s.net.separated then s else ({ s with net := { s.net with separated := true } } : State).alarmNode 0xE8 []

/-- A cycle-start frame of the parent area at the passage node of a child area (R366): a different base or tick separates the area; the servo
of the reference follows it under the guardian's test (R323), and 64 edges outside W_L separate the area. -/
def State.parentCycle (s : State) (p : Port) (c : Cycle) (rxNs : Nat) : State :=
  if s.net.separated || !s.childPassage then s
  else if c.tick != s.ms.tick || c.base != s.tim.tbase then s.separate
  else if !s.net.isRef then s
  else
    let theta := s.thetaOf p c rxNs
    let run := if decide (Int.ofNat (absI theta) ≤ s.lockWindow) then 0 else s.net.sepRun + 1
    let s1 : State := { s with
      net := { s.net with sepRun := run, syncPort := p }
      tim := { s.tim with theta := sat32 theta, rate := clampRate 300000 (Config.servoRate s.tim.rate.toInt theta) } }
    if 64 ≤ run then s1.guard.separate else s1.guard

/-- A follower takes an offset sample from the copy of its sync port; from that of the pair's other port only where the sync
port's is missing in the tick, so the other copy is held until then; a tick gives one sample (R314). -/
def State.takeCycle (s : State) (p : Port) (c : Cycle) (body : List Byte) (rxNs : Nat) : State :=
  let s1 : State := { s with net := { s.net with cycleHeard := true } }
  if s.net.cycleThisTick then s1
  else if p == s.syncPortCfg || (s.otherPort s.syncPortCfg == some p && s.syncOver rxNs) then s1.sample p c rxNs
  else if s.otherPort s.syncPortCfg == some p then { s1 with net := { s1.net with heldCopy := some (p, rxNs, body) } }
  else s1

/-- The tick ends without the sync port's copy: the held copy of the other port is sampled (R314). -/
def State.takeHeld (s : State) : State :=
  match s.net.heldCopy with
  | some (p, rxNs, body) => if s.net.cycleThisTick then s else s.sample p (cycleOf s.areaId body) rxNs
  | none => s

/-- A cycle-start frame of the own area in INTEGRATE, SYNC or SILENT. -/
def State.ownCycle (s : State) (p : Port) (c : Cycle) (body : List Byte) (rxNs : Nat) : State :=
  if c.tick != s.ms.tick || c.base != s.tim.tbase then s.timeWarm
  else if s.net.isRef then
    if c.rank.toNat < s.net.refRank.toNat then
      ({ s with
        net := { s.net with isRef := false, refNode := c.ref, refRank := c.rank }
        tim := { s.tim with role := 2, ppsUsed := false } } : State).alarmNode 0xD9 (leBytes 2 c.ref.toNat)
    else s
  else
    let s1 := s.takeCycle p c body rxNs
    if s.net.cycleHeard then s1 else s1.galleryDiffers (Fin.ofNat 8 c.gal.toNat)

/-- CYCLE_START (R313, R314, R316, R317, R322, R323, R327, R330-R332, R356, R366). -/
def execCycleStart (r : RxCycle) (s : State) : Host.Outcome State Fault Refusal :=
  match s.timing r.rx 1 with
  | (s1, none) => .next s1
  | (s1, some body) =>
    let c := cycleOf s1.areaId body
    if !c.parent && c.ref == s1.node && s1.net.isRef then .next s1
    else
      match s1.net.state with
      | .listen =>
        let s2 := s1.hearCycle c r.rx.rxNs
        .next (if c.parent then s2 else s2.forwardCycle r.rx.port body c r.resNs)
      | .coldstart | .off | .fullSilence => .next s1
      | .integrate | .sync | .silent =>
        let dev := s1.cycleDev r.rx.port r.rx.rxNs
        if s1.cycleWindow r.rx.port < absI dev then .next (s1.edgeDrop r.rx.port)
        else if c.parent then .next (if s1.net.state == .sync then (s1.accepted dev).parentCycle r.rx.port c r.rx.rxNs else s1)
        else .next (((s1.forwardCycle r.rx.port body c r.resNs).accepted dev).ownCycle r.rx.port c body r.rx.rxNs)

/-- The cycle-start frame at the CS entry of a port, in its transmit window (R321, R347). -/
def State.sendCycleAt (s : State) (c : Cycle) (p : Port) : State :=
  match s.findEntry p .cs with
  | some (_, e) => s.sendAt p e (-Int.ofNat (entryNs e)) (s.timingFrame p 1 (cycleBody c))
  | none => s

/-- At every edge, in slot offset 0, the reference sends its cycle-start frame on every port with a CS entry (R313, R337, R347), in its transmit
window (R321), and never across a passage (R366). -/
def State.sendCycle (s : State) : State :=
  if !s.net.isRef || s.net.state != .sync then s
  else
    let c : Cycle := ⟨s.node, false, s.nowNs, 0, s.ms.tick, s.tim.tbase, BitVec.ofNat 3 s.gal.active.val, s.net.refRank⟩
    ((allFin 4).filter (fun p => s.portOpen p && (s.portCfg p).passage.isNone)).foldl (fun s p => s.sendCycleAt c p) s

/-! ### Coldstart (R327-R330, R366) -/

/-- COLDSTART (R327, R328, R329): it ends a listen, makes a contending node retreat, and is counted in SYNC. -/
def execColdstart (f : RxTiming) (s : State) : Host.Outcome State Fault Refusal :=
  match s.timing f 2 with
  | (s1, none) => .next s1
  | (s1, some body) =>
    let fr := Frame.ofBytes body
    if fr.src = s1.node then .next s1
    else
      let s2 := match s1.otherPort f.port with
        | some q => if s1.portOpen q && (s1.portCfg q).nbr != fr.src then s1.send q (withFcs body) else s1
        | none => s1
      match s1.net.state with
      | .listen => .next { s2 with net := { s2.net with listenUs := 0 } }
      | .coldstart => .next s1.retreat
      | .sync => .next { s2 with net := { s2.net with csIgnored := satInc 127 s2.net.csIgnored } }
      | .integrate | .silent | .off | .fullSilence => .next s2

/-- The coldstart frame goes out on every used port, and the contention window runs (R328). -/
def State.sendColdstart (s : State) (base : DWord) : State :=
  let rank : Byte := BitVec.ofNat 8 ((s.ownRank.map (fun r => r.val)).getD 0)
  let s1 := ((allFin 4).filter (fun p => s.portOpen p)).foldl (fun s p =>
    s.send p (s.timingFrame p 2 (leBytes 8 base.toNat ++ [rank]))) s
  { s1 with
    net := { s1.net with state := .coldstart, attempts := satInc 255 s1.net.attempts, listenUs := 0 }
    tim := { s1.tim with tbase := base } }

/-- Signed phase in ns of an instant against the second (R320). -/
def secondPhase (at_ : Nat) : Int :=
  let m : Int := Int.ofNat (at_ % 1000000000)
  if 500000000 ≤ m then m - 1000000000 else m

/-- The listen time has passed since it began or was restarted (R327): the counter stands there or later. -/
def State.listenEnd (s : State) : State :=
  { s with aon := { s.aon with timeNs := BitVec.ofNat 64 (max s.nowNs (s.net.listenFrom + 1000 * s.net.listenUs)) } }

/-- LISTEN_TIMEOUT (R320, R327, R328): a node with qualified PPS first sets its counter to the pulse; the tick base is the counter
plus T. -/
def execListenTimeout (s : State) : Host.Outcome State Fault Refusal :=
  if s.net.state != .listen || s.net.listenUs = 0 || s.ownRank.isNone then .next s
  else
    let t := s.listenEnd
    let s1 : State :=
      if t.tim.ppsQual then
        { t with
          aon := { t.aon with timeNs := t.aon.timeNs - BitVec.ofInt 64 (t.tim.ppsLast.map secondPhase |>.getD 0) }
          tim := { t.tim with phase := 0, ppsLast := t.tim.ppsLast.map (fun a => (Int.ofNat a - secondPhase a).toNat) } }
      else t
    .next (s1.sendColdstart (s1.aon.timeNs + BitVec.ofNat 64 (1000 * s1.ms.tUs.toNat)))

/-- CONTENTION_WINDOW_END (R313, R328, R366): the node has won; its first edge is the tick base. A child area goes on with the
parent's tick numbering; any other network starts at tick 0 in gallery 0. -/
def execContentionWindowEnd (s : State) : Host.Outcome State Fault Refusal :=
  if s.net.state != .coldstart then .next s
  else
    let child := s.net.seenParent.isSome
    let rank : BitVec 2 := BitVec.ofNat 2 ((s.ownRank.map (fun r => r.val)).getD 0)
    .next { s with
      ms := { s.ms with tick := if child then s.ms.tick else 0xFFFFFFFF }
      net := { s.net with
        state := .sync, won := true, isRef := true, refNode := s.node, refRank := rank, refValid := true
        retreatRun := 0, missEdges := 0, servo := true, separated := false, sepRun := 0, seen := none, seenParent := none
        silent := false }
      tim := { s.tim with role := 1, hops := 0, theta := 0, locked := true, holdover := false, ppsUsed := s.tim.ppsQual } }

/-- The counter steps to the value that a frame implies, and the tick base and numbering are the frame's (R330, R366). -/
def State.stepTo (s : State) (o : SeenCycle) : State :=
  { s with
    ms := { s.ms with tick := o.tick }
    aon := { s.aon with timeNs := s.aon.timeNs - BitVec.ofNat 64 o.at_ + BitVec.ofNat 64 o.implied }
    tim := { s.tim with tbase := o.base, role := 2, ppsLast := none } }

/-- A full valid cycle of the parent area: the passage node starts its own area with the parent's next edge as the tick base (R366). -/
def State.joinParent (s : State) (o : SeenCycle) : State :=
  let s1 := s.stepTo o
  let c := s1.sendColdstart (o.base + BitVec.ofNat 64 (1000 * s1.ms.tUs.toNat * (o.tick.toNat + 1)))
  { c with tim := { c.tim with tbase := o.base } }

/-- A full valid cycle of the own area: INTEGRATE (R330). -/
def State.integrate (s : State) (o : SeenCycle) : State :=
  let s1 := s.stepTo o
  let g : Fin 8 := Fin.ofNat 8 o.gal.toNat
  let act := if (s1.gal.gals[g]).state == .valid then g else s1.gal.active
  { s1 with
    net := { s1.net with
      state := .integrate, refNode := o.ref, refRank := o.rank, refValid := true, servo := false, lockRun := 0, missEdges := 0
      cycleThisTick := true, cycleHeard := true, heldCopy := none, devs := [], seen := none, seenParent := none }
    gal := { s1.gal with active := act } }

/-- FULL_VALID_CYCLE (R330, R366): of the parent area at a passage node, or of the own area. -/
def execFullValidCycle (s : State) : Host.Outcome State Fault Refusal :=
  if s.net.state != .listen then .next s
  else
    match s.net.seenParent.filter (fun o => o.full), s.net.seen.filter (fun o => o.full) with
    | some o, _ => .next (s.joinParent o)
    | none, some o => .next (s.integrate o)
    | none, none => .next s

/-! ### Link delay (R310-R312) and node identity (R359-R362) -/

/-- The role entry and the I/O map of the strap identifier exist (R360). -/
def State.idKnown (s : State) : Bool :=
  (s.topo? s.node).isSome && (s.upd.img.map (fun i => i.parts.has s.node.toNat)).getD false

/-- What a port reports of its neighbour (R361, PORT_MATCH): nothing without block lock, not measured before a delay result of the
link, else a match or a contradiction. -/
def State.portReport (s : State) (p : Port) : BitVec 2 :=
  let x := s.port p
  if !x.blockLock then 0
  else if !x.nbrValid || (!x.fresh && x.results.isEmpty) then 3
  else if x.nbr == (s.portCfg p).nbr then 1
  else 2

/-- The identity is judged again after a report of a port (R23, R360, R361): a contradiction is shown, with ALARM 0xE0, and one
match of a used port without any contradiction confirms it. -/
def State.judgeIdentity (s : State) (p : Port) : State :=
  let before := s.pair.portMatch[p]
  let now := s.portReport p
  let pm := s.pair.portMatch.set p now
  let s1 : State := { s with pair := { s.pair with portMatch := pm } }
  if s1.pair.idOk then s1
  else if now == 2 then (if before == 2 then s1 else s1.alarmPort 0xE0 p [0])
  else
    let used := (allFin 4).filter (fun q => (s1.portCfg q).role != .unused)
    let fits := used.any (fun q => pm[q] == 1) && used.all (fun q => pm[q] != 2)
    if fits && s1.idKnown && !s1.pair.duplicate then { s1 with pair := { s1.pair with idOk := true } } else s1

/-- A neighbour identifier read from a delay frame (R310, R360-R362). -/
def State.neighbour (s : State) (p : Port) (n : BitVec 12) : State :=
  (s.modPort p (fun x => { x with nbr := n, nbrValid := true, nbrOk := n == (s.portCfg p).nbr })).judgeIdentity p

/-- A delay response or follow-up leaves at an instant of the node's own counter. A node that knows its edges sends it inside the
link window (R321, R331); one that listens or integrates has no window yet and answers. -/
def State.sendDelay (s : State) (p : Port) (atNs : Nat) (bs : List Byte) : State :=
  if s.net.state == .sync || s.net.state == .silent then
    match s.findEntry p .link with
    | some (_, e) => s.sendAt p e (s.planDev (Int.ofNat (entryNs e)) atNs) bs
    | none => s.blockStart
  else s.send p bs

/-- A result of the delay exchange in units of 0.125 ns; the last three are kept (R310, R311). The port then reports (R361). -/
def State.putResult (s : State) (p : Port) (d : Int) : State :=
  (s.modPort p (fun x => { x with results := (x.results ++ [d]).drop (x.results.length - 2) })).judgeIdentity p

/-- DLY_REQ (R310, R325, R331): timestamped, and answered after the turnaround with T2, T3, the forwarding latency of 640 ns and
the strap identifier; it names the neighbour. -/
def execDlyReq (f : RxTiming) (turnNs : Nat) (s : State) : Host.Outcome State Fault Refusal :=
  match s.timing f 3 with
  | (s1, none) => .next s1
  | (s1, some body) =>
    let s2 := s1.neighbour f.port (BitVec.ofNat 12 (natAt body 16 2))
    if s1.net.state == .coldstart then .next s2
    else
      let rsp := leBytes 8 f.rxNs ++ leBytes 8 (f.rxNs + turnNs) ++ leBytes 2 5120 ++ leBytes 2 s2.node.toNat
      .next (s2.sendDelay f.port (f.rxNs + turnNs) (s2.timingFrame f.port 4 rsp))

/-- d = ((t4 - t1) - (t3 - t2)) / 2 + a_L / 2 (R310) in units of 0.125 ns, which hold it exactly. -/
def linkDelay (t1 t2 t3 t4 : Nat) (asym : Int) : Int :=
  4 * ((Int.ofNat t4 - Int.ofNat t1) - (Int.ofNat t3 - Int.ofNat t2) + asym)

/-- DLY_RSP (R310): the initiator takes its neighbour; where it answers a DLY_REQ of the node, it gives the result, which DLY_FUP
carries on the turn-round time after the arrival. -/
def execDlyRsp (r : RxDelay) (s : State) : Host.Outcome State Fault Refusal :=
  match s.timing r.rx 4 with
  | (s1, none) => .next s1
  | (s1, some body) =>
    let s2 := s1.neighbour r.rx.port (BitVec.ofNat 12 (natAt body 34 2))
    match (s1.port r.rx.port).t1 with
    | none => .next s2
    | some t1 =>
      if s1.net.state != .sync && s1.net.state != .silent then .next s2
      else
        let d := linkDelay t1 (natAt body 16 8) (natAt body 24 8) r.rx.rxNs (s2.portCfg r.rx.port).asymNs
        let fup := leBytes 8 t1 ++ leBytes 8 r.rx.rxNs ++ leBytes 4 (BitVec.ofInt 32 d).toNat
        let s3 := (s2.modPort r.rx.port (fun x => { x with t1 := none })).putResult r.rx.port d
        .next (s3.sendDelay r.rx.port (r.rx.rxNs + r.turnNs) (s3.timingFrame r.rx.port 5 fup))

/-- DLY_FUP (R310): the responder takes the result. -/
def execDlyFup (f : RxTiming) (s : State) : Host.Outcome State Fault Refusal :=
  match s.timing f 5 with
  | (s1, none) => .next s1
  | (s1, some body) => .next (s1.putResult f.port (BitVec.ofNat 32 (natAt body 32 4)).toInt)

/-- A port loses its link (R307, R312, R362): it carries no time-triggered frames. -/
def State.dropLink (s : State) (p : Port) : State :=
  s.modPort p (fun x => if x.linkUp then { x with linkUp := false, loss := satInc 255 x.loss } else x)

/-- A link that the topology table contradicts is a lost one (R307, R362): ALARM 0xD4 where it was up. -/
def State.loseLink (s : State) (p : Port) : State :=
  let s1 := s.dropLink p
  if (s.port p).linkUp then s1.alarmPort 0xD4 p [] else s1

/-- A median of a link in units of 0.125 ns comes into use (R311, R312): outside ±τ of the planned delay the port is disabled.
DELAY shows whole ns. -/
def State.useDelay (s : State) (p : Port) (d : Int) : State :=
  let cfg := s.portCfg p
  let x := s.port p
  let outside := decide (8 * cfg.tolNs < absI (d - 8 * Int.ofNat cfg.delayNs))
  let changed := x.delayValid && decide (8000 < absI (d - x.median))
  let put : BitVec 24 := BitVec.ofNat 24 (if 16777215 < d / 8 then 16777215 else (d / 8).toNat)
  let s1 := s.modPort p (fun x => { x with
    delay := put, median := d, fresh := true, delayValid := true, delayChanged := changed, dlyOut := outside, results := [] })
  let s2 := if outside then s1.dropLink p else s1.modPort p (fun x => { x with linkUp := x.blockLock && x.nbrOk })
  if (outside && !x.dlyOut) || changed then s2.alarmPort 0xD5 p (leBytes 3 put.toNat) else s2

/-- The servo starts at the first median of the sync link (R331): the counter steps a second and last time. -/
def State.startServo (s : State) (p : Port) (d : Int) : State :=
  if s.net.state == .integrate && !s.net.servo && p == s.syncPortCfg then
    { s with net := { s.net with servo := true }, aon := { s.aon with timeNs := s.aon.timeNs + BitVec.ofInt 64 (d / 8) } }
  else s

/-- The last three results of a port: of its exchanges, then those that the row itself brings (DESIGN CHOICE, log 132). -/
def State.gained (s : State) (p : Port) (r0 r1 r2 : Option Int) : List Int :=
  let l := (s.port p).results ++ [r0, r1, r2].filterMap id
  l.drop (l.length - 3)

/-- LINK_DELAY_MEASUREMENT (R311, R312, R331, R362): the median of the three results gained, used from the next tick on. In SYNC
a neighbour that contradicts the topology table makes the link count as lost. The port then reports (R361). -/
def execLinkDelayMeasurement (p : Port) (r0 r1 r2 : Option Int) (s : State) : Host.Outcome State Fault Refusal :=
  let x := s.port p
  let got := s.gained p r0 r1 r2
  if !s.delayOpen p || got.length < 3 then .next s
  else
    let d := medianOf got
    if s.net.state == .sync && x.nbrValid && x.nbr != (s.portCfg p).nbr then
      .next (((s.modPort p (fun x => { x with nbrOk := false, results := [] })).loseLink p).alarmPort 0xE0 p [0])
    else
      let s1 := s.modPort p (fun x => { x with nbrOk := x.nbrOk || !x.nbrValid })
      .next (((s1.startServo p d).useDelay p d).judgeIdentity p)

/-- LINK_LOSS (R307): ALARM 0xD4; nothing is forwarded into the link, and bridged frames leave through the other ports. The last
median stays for the comparison with the next one (R312). -/
def execLinkLoss (p : Port) (s : State) : Host.Outcome State Fault Refusal :=
  if (s.portCfg p).role == .unused || !s.pwr.dom.getLsbD 2 then .next s
  else
    let was := (s.port p).blockLock || (s.port p).linkUp
    let s1 := s.modPort p (fun x => { x with
      blockLock := false, linkUp := false, fresh := false, t1 := none, results := []
      loss := if was then satInc 255 x.loss else x.loss })
    let s2 : State := { s1 with pair := { s1.pair with portMatch := s1.pair.portMatch.set p 0 } }
    .next (if was then s2.alarmPort 0xD4 p [] else s2)

/-- LINK_UP (R311, R312): block lock; the link is measured in the next three ticks. A port disabled by its delay stays disabled
until a median lies within its tolerance. -/
def execLinkUp (p : Port) (s : State) : Host.Outcome State Fault Refusal :=
  if (s.portCfg p).role == .unused || !s.pwr.dom.getLsbD 2 then .next s
  else
    let s1 := s.modPort p (fun x => { x with blockLock := true, linkUp := !x.dlyOut, fresh := false, t1 := none, results := [] })
    .next { s1 with pair := { s1.pair with portMatch := s1.pair.portMatch.set p 3 } }

/-- NODE_ID_STRAP_CHANGE (R359): the straps are read once, at BOOT; a later change is ignored and shown. -/
def execNodeIdStrapChange (id : BitVec 12) (s : State) : Host.Outcome State Fault Refusal :=
  let s1 : State := { s with pair := { s.pair with pins := id } }
  if s.ms.porHeld || s.pair.strapChanged || id == s.pair.strapId then .next s1
  else .next (({ s1 with pair := { s1.pair with strapChanged := true } } : State).alarmNode 0xE1 [])

/-! ### Lock, takeover and loss of time (R43, R50, R316, R331, R332, R366) -/

/-- SYNC_LOCK (R331): in lock at 8 consecutive edges and its identity confirmed, the node enters SYNC; the module leaves JOIN at its first tick. -/
def execSyncLock (s : State) : Host.Outcome State Fault Refusal :=
  if s.net.state == .integrate && s.pair.idOk && s.net.servo && decide (8 ≤ s.net.lockRun) then
    .next { s with
      net := { s.net with state := .sync, silent := false }
      gal := { s.gal with silent := false }
      tim := { s.tim with locked := true, role := 2 } }
  else .next s

/-- CYCLE_START_MISSING (R316): a follower that has passed 64 consecutive edges without a valid cycle-start frame becomes
SILENT; it keeps its last rate. -/
def execCycleStartMissing (s : State) : Host.Outcome State Fault Refusal :=
  if s.net.state == .sync && !s.net.isRef && decide (64 ≤ s.net.missEdges) then
    .next { s with
      net := { s.net with state := .silent, silent := true, lockRun := 0, missEdges := 0 }
      tim := { s.tim with holdover := true, locked := false } }
  else .next s

/-- REFERENCE_TAKEOVER (R316): after 2 + r consecutive edges without a valid cycle-start frame, a successor's included, a
coldstart-capable node of rank r becomes the reference with the tick base and numbering kept, and sends its first cycle-start
frame at that edge; ALARM 0xD3. -/
def execReferenceTakeover (s : State) : Host.Outcome State Fault Refusal :=
  match s.ownRank with
  | none => .next s
  | some r =>
    if s.net.state != .sync || s.net.isRef || s.net.missEdges < 2 + r.val then .next s
    else
      let old := s.net.refNode
      let rank : BitVec 2 := BitVec.ofNat 2 r.val
      .next (({ s with
        net := { s.net with
          isRef := true, refNode := s.node, refRank := rank, refValid := true, missEdges := 0
          takeovers := satInc 255 s.net.takeovers }
        tim := { s.tim with role := 1, hops := 0, holdover := false, ppsUsed := s.tim.ppsQual } } : State).sendCycle.alarmNode 0xD3
          (leBytes 2 old.toNat ++ leBytes 2 s.node.toNat))

/-- SILENT_TIMEOUT (R332): 1,024 edges in SILENT without a valid cycle-start frame. -/
def execSilentTimeout (s : State) : Host.Outcome State Fault Refusal :=
  if s.net.state == .silent && decide (1024 ≤ s.net.missEdges) then .next s.timeWarm else .next s

/-- AREA_SEPARATION (R366). -/
def execAreaSeparation (s : State) : Host.Outcome State Fault Refusal :=
  if s.net.isRef && s.childPassage then .next s.separate else .next s

/-- JOIN_TIMEOUT (R50, R327): ALARM 0xDA, and the module goes on waiting. -/
def execJoinTimeout (s : State) : Host.Outcome State Fault Refusal :=
  if s.ms.mode == .join && !s.ms.joinAlarm then
    .next (({ s with ms := { s.ms with joinAlarm := true } } : State).alarmNode 0xDA [])
  else .next s

/-! ### PPS (R319, R320) -/

/-- PPS is disqualified: ALARM 0xD7 on the reference (R319). -/
def State.ppsLost (s : State) : State :=
  let was := s.tim.ppsQual
  let s1 : State := { s with tim := { s.tim with ppsQual := false, ppsUsed := false } }
  if was && s.net.isRef then s1.alarmNode 0xD7 [] else s1

/-- Signed phase of an instant against the second as PHASE shows it, saturating (TIM_PPS). -/
def ppsPhase (at_ : Nat) : Int :=
  let x := secondPhase at_
  if 8388607 < x then 8388607 else if x < -8388607 then -8388607 else x

/-- PPS_IN (R319, R320): four pulses at 1 s ± 10 µs qualify; the reference steers its rate by the phase, within ±100 ppm. -/
def execPpsIn (atNs : Nat) (s : State) : Host.Outcome State Fault Refusal :=
  if !s.pwr.dom.getLsbD 2 then .next s
  else
    let good := match s.tim.ppsLast with
      | some b => decide (absI (Int.ofNat atNs - Int.ofNat b - 1000000000) ≤ 10000)
      | none => false
    let s1 := if good || s.tim.ppsLast.isNone then s else s.ppsLost
    let run := if good then satInc 4 s1.tim.ppsRun else 1
    let qual := s1.tim.ppsQual || run == 4
    let used := qual && s1.net.isRef
    let phase := ppsPhase atNs
    let rate := if used then clampRate 100000 (Config.servoRate s1.tim.rate.toInt (secondPhase atNs)) else s1.tim.rate
    .next { s1 with tim := { s1.tim with
      ppsRun := run, ppsQual := qual, ppsUsed := used, ppsLast := some atNs, rate := rate
      pulseCnt := satInc 255 s1.tim.pulseCnt, phase := BitVec.ofInt 24 phase } }

/-- PPS_MISSING (R319): no pulse for 1 s + 10 µs. -/
def execPpsMissing (s : State) : Host.Outcome State Fault Refusal :=
  .next (({ s with tim := { s.tim with ppsRun := 0, ppsLast := none } } : State).ppsLost)

end Sys2Proof.Machine
end

