-- ==== Sys2Proof/Machine/Requested.lean ====
section
/-!
DEFINITION. The request rows of the table (R87-R104, R133-R140, R172, R272, R352, R377, R455), the timers of one element or
route that expire (R80, R115), and the boundary items of one slot (R371-R377). Each acts on the committed region of every
running lane by the operations that the tick's evaluation uses.
-/

namespace Sys2Proof.Machine

/-! ### The evaluation of a lane and what it leaves -/

/-- Accepted requests with a retained counter (R485): each counter rises, and the retained record is appended in P5. -/
def State.countRetained (s : State) (cs : List (Fin 9)) : State :=
  if cs.isEmpty then s
  else
    let c := cs.foldl (fun (v : Vector Word 9) i => vmod v i (fun w => if w = 0xFFFF_FFFF then w else w + 1)) s.aon.counters
    ({ s with aon := { s.aon with counters := c } } : State).appendRetService

/-- Reset commands that were accepted (R56, R273): in LOCKOUT at once, otherwise before P2 of the next tick. One that LOCKOUT ignores has its result
0x01 in P5 of the next tick. -/
def State.takeResets (s : State) (rs : List (Option Chan × Tick × Byte × Request)) : State :=
  rs.foldl (fun s r =>
    let o : ResetOrigin := .twoStep r.1
    if s.ms.mode == .lockout then
      let did := s.qualified o r.2.1
      if did.2 then did.1
      else { did.1 with rrq := { did.1.rrq with ignoredNext := did.1.rrq.ignoredNext ++ [r.2.2] } }
    else { s with rrq := { s.rrq with clearNext := s.rrq.clearNext ++ [(o, r.2.1, some (r.2.2.1, r.2.2.2))] } }) s

/-- What the lead lane's evaluation leaves outside its region: records, results, retained counters, counts, and requests whose
effect is the module's. -/
def State.effects (s : State) (v : Ev) : State :=
  let s1 := (s.putRecs v.recs).countRetained v.counts
  let s2 : State := { s1 with
    rrq := { s1.rrq with short := satAdd 255 s1.rrq.short v.late }
    pair := { s1.pair with
      grantCnt := satAdd 65535 s1.pair.grantCnt v.granted, refusedCnt := satAdd 65535 s1.pair.refusedCnt v.refusedN }
    mail := { s1.mail with
      seenElem := v.seenElem, seenRoute := v.seenRoute, seenVeh := v.seenVeh, seenSlot := v.seenSlot
      seenSwitch := v.seenSwitch
      movedRoute := v.moved } }
  let s3 := match v.lockSet with
    | some on => s2.putBankRec (fun r => { r with ownerLock := on })
    | none => s2
  (s3.posts v.posts).takeResets v.resets

/-- An accepted GALLERY SWITCH locks its gallery in P3, and the header of the tick announces it (R353). -/
def State.switchReq (s : State) (v : Ev) : State :=
  match v.galReq.bind (fun r => (allFin 8)[r.1]?.map (fun g => (g, r.2))) with
  | some (g, q) => s.startSwitch g q
  | none => s

/-- One piece of evaluation by every running lane on its committed region, with the lead lane's effects; the frames of the tick that have not
left carry it (log 10). -/
def State.evaluated (s : State) (f : Ev → Ev) : State :=
  let evs : PerLane Ev := PerLane.ofFn (fun l => f (s.evOf l .empty))
  let run := s.running ||| s.acting
  let s1 : State := { s with lanes := s.lanes.mapL (fun l x =>
    if l.inMask run then { x with region := (evs.get l).c } else x) }
  let v := evs.get s.lead
  let s2 : State := { s1 with pair := { s1.pair with removed := s1.pair.removed ++ v.removed } }
  ((if v.galReq.isSome then s2.switchReq v else s2).reseal).effects v

/-- FLANK follows the routes, COMMANDED of the signals follows both, and the limits follow every change (R112, R126, R170). -/
def Ev.settle (v : Ev) : Ev := v.syncFlank.signals.relimit

/-- A request would move a route that has made its transition of the tick (R117). -/
def Ev.movesTwice (v : Ev) (code : Byte) (q : Request) : Bool :=
  isRouteCode code && v.moved.contains q.target.toNat && (v.request code q).moved.length != v.moved.length

/-- A request that the lanes agreed on in the present tick. One that would move a route a second time in the tick waits for the
next one (R117, log 101). -/
def State.requested (s : State) (code : Byte) (q : Request) : State :=
  if s.inTicks && s.acting != 0 then
    if (s.evOf s.lead .empty).movesTwice code q then
      { s with mail := { s.mail with later := s.mail.later ++ [(code, q)] } }
    else s.evaluated (fun v => (v.request code q).settle)
  else s

/-! ### The request rows -/

/-- THROW, request code 0x01 (R87, R100-R103, R144). -/
def execThrow (q : Request) (s : State) : Host.Outcome State Fault Refusal := .next (s.requested 0x01 q)

/-- SUPERVISED THROW, 0x02 (R87, R100-R104). -/
def execSupervisedThrow (q : Request) (s : State) : Host.Outcome State Fault Refusal := .next (s.requested 0x02 q)

/-- MOVE, 0x03 (R94, R100). -/
def execMove (q : Request) (s : State) : Host.Outcome State Fault Refusal := .next (s.requested 0x03 q)

/-- SET STOP, 0x04 (R92, R100). -/
def execSetStop (q : Request) (s : State) : Host.Outcome State Fault Refusal := .next (s.requested 0x04 q)

/-- SET GATE, 0x05 (R92, R100). -/
def execSetGate (q : Request) (s : State) : Host.Outcome State Fault Refusal := .next (s.requested 0x05 q)

/-- BLOCK, 0x06 (R70, R100, R103). -/
def execBlock (q : Request) (s : State) : Host.Outcome State Fault Refusal := .next (s.requested 0x06 q)

/-- UNBLOCK, 0x07 (R100-R104). -/
def execUnblock (q : Request) (s : State) : Host.Outcome State Fault Refusal := .next (s.requested 0x07 q)

/-- SECTION RESET, 0x08 (R82, R86, R100-R104). -/
def execSectionReset (q : Request) (s : State) : Host.Outcome State Fault Refusal := .next (s.requested 0x08 q)

/-- ZONE RESET, 0x09 (R95, R100-R104). -/
def execZoneReset (q : Request) (s : State) : Host.Outcome State Fault Refusal := .next (s.requested 0x09 q)

/-- ZONE ACCESS, 0x0A (R96, R100). -/
def execZoneAccess (q : Request) (s : State) : Host.Outcome State Fault Refusal := .next (s.requested 0x0A q)

/-- SIGNAL RESTORE, 0x0B (R91, R100-R104). -/
def execSignalRestore (q : Request) (s : State) : Host.Outcome State Fault Refusal := .next (s.requested 0x0B q)

/-- SET FLAG, 0x0C (R98, R100-R104). -/
def execSetFlag (q : Request) (s : State) : Host.Outcome State Fault Refusal := .next (s.requested 0x0C q)

/-- SET ROUTE, 0x20 (R139-R144). -/
def execSetRoute (q : Request) (s : State) : Host.Outcome State Fault Refusal := .next (s.requested 0x20 q)

/-- CANCEL ROUTE, 0x21 (R133-R136, R139). -/
def execCancelRoute (q : Request) (s : State) : Host.Outcome State Fault Refusal := .next (s.requested 0x21 q)

/-- EMERGENCY RELEASE, 0x22 (R137-R139, R145). -/
def execEmergencyRelease (q : Request) (s : State) : Host.Outcome State Fault Refusal := .next (s.requested 0x22 q)

/-- BOUNDARY RELEASE, 0x23 (R377). -/
def execBoundaryRelease (q : Request) (s : State) : Host.Outcome State Fault Refusal := .next (s.requested 0x23 q)

/-- VEHICLE REMOVE, 0x30 (R172). -/
def execVehicleRemove (q : Request) (s : State) : Host.Outcome State Fault Refusal := .next (s.requested 0x30 q)

/-- MODULE RESET, 0x38 (R52, R55-R57, R272, R273). -/
def execModuleReset (q : Request) (s : State) : Host.Outcome State Fault Refusal := .next (s.requested 0x38 q)

/-- CHANNEL RESET, 0x39 (R56, R57, R270, R272, R273). -/
def execChannelReset (q : Request) (s : State) : Host.Outcome State Fault Refusal := .next (s.requested 0x39 q)

/-- GALLERY SWITCH, 0x40 (R352, R353). -/
def execGallerySwitch (q : Request) (s : State) : Host.Outcome State Fault Refusal := .next (s.requested 0x40 q)

/-- UPDATE LOCK, 0x41 (R455). -/
def execUpdateLock (q : Request) (s : State) : Host.Outcome State Fault Refusal := .next (s.requested 0x41 q)

/-! ### Timers (R80, R115) -/

/-- The sources of a SECTION show clear in the present tick (R81): a tick with occupied sources, or with a substitution, has left its
timer at the clear delay, and its detectors show what they show. -/
def Ev.showsClear (v : Ev) (id : Nat) (srcs : List SecSrc) (clearDelay : Nat) : Bool :=
  decide ((v.elem id).timer < clearDelay) && srcs.all (fun s => match s with
    | .input _ => true
    | .detector d => (v.elem d).det == 0)

/-- The timer of one element reaches 0 in this tick, with its expiry action (R80): DETECTED of a SECTION whose sources show clear
changes back to clear (R81), the other classes take the row of their STATUS. A DETECTOR holds no timer (R78). -/
def Ev.timerOut (v : Ev) (id : Nat) (cfg : ClassCfg) : Ev :=
  if (v.elem id).timer = 0 then v
  else
    match cfg with
    | .trackSection srcs clearDelay rec =>
      if !v.showsClear id srcs clearDelay then v
      else (v.modElem id (fun x => { x with timer := 0, det := 0 })).statusSection id srcs rec
    | _ => if cfg.timed then (v.modElem id (fun x => { x with timer := 0 })).status id cfg true else v

/-- ELEMENT_TIMER_EXPIRY (R80, R81, R89, R91, R92, R103, R106): the timer of an element reaches 0 in this tick. -/
def execElementTimerExpiry (e : BitVec 15) (s : State) : Host.Outcome State Fault Refusal :=
  let id := e.toNat
  match s.area.elems.get? id with
  | none => .next s
  | some _ =>
    if !s.inTicks then .next s
    else .next (s.evaluated (fun v =>
      match v.cfg? id with
      | some cfg => (v.timerOut id cfg).settle
      | none => v))

/-- ROUTE_TIMER_EXPIRY (R115, R119, R122, R132, R137): the timer of a route reaches 0 in this tick. -/
def execRouteTimerExpiry (r : BitVec 14) (s : State) : Host.Outcome State Fault Refusal :=
  let id := r.toNat
  if !s.inTicks then .next s
  else .next (s.evaluated (fun v =>
    match v.area.routes.get? id with
    | none => v
    | some rc =>
      if (v.route id).timer = 0 || v.moved.contains id then v
      else
        let v1 := v.modRoute id (fun x => { x with timer := 0 })
        (if (v1.route id).state == .requested then v1.checkRoute id rc true else v1.autoRoute id rc true).settle))

/-- BOUNDARY_GRANT_WAIT_EXPIRY (R119, R122, R371): a route in CHECKING whose grants have not come in W_b ticks is rejected with 0x5D. -/
def execBoundaryGrantWaitExpiry (r : BitVec 14) (s : State) : Host.Outcome State Fault Refusal :=
  let id := r.toNat
  if !s.inTicks then .next s
  else .next (s.evaluated (fun v =>
    match v.area.routes.get? id with
    | none => v
    | some rc =>
      let x := v.route id
      if x.state == .checking && !v.moved.contains id && !v.allGranted rc x &&
          decide ((v.area.params.grantWait : Int) ≤ tickDiff v.tick x.stateTick) then (v.goRejected id rc 0x5D).settle else v))

/-! ### Gallery announcements (R353) -/

/-- GALLERY_ANNOUNCE (R351, R353, R384): the STATUS that the tick seals answers. A unit whose peer 0x000 was heard in the tick is ignored. -/
def execGalleryAnnounce (g : Fin 8) (n a : Tick) (unit : BitVec 12) (s : State) : Host.Outcome State Fault Refusal :=
  if !s.inTicks || unit == s.node || (unit != 0 && s.pair.unitsNow.contains 0) then .next s
  else .next (s.announced g n a unit).reseal

/-! ### Boundary items (R371-R377) -/

/-- A valid item at a slot in this tick (R97, R369, R375): the neighbour is heard and no longer lost, the slot keeps the item, and the proxy
of a PROXY slot takes its owner's values. -/
def Ev.hearSlot (v : Ev) (sc : SlotCfg) (i : BndItem) (op : BitVec 4) : Ev :=
  let v1 : Ev := { v with
    inp := { v.inp with bnd := [(i.slot.toNat, i, op)] }
    c := { v.c with k := { v.c.k with
      peers := v.c.k.peers.set sc.area ⟨some v.tick, 0, false⟩
      slotIn := v.c.k.slotIn.set i.slot.toNat ⟨op, i.word, i.reqVal, i.route, v.tick⟩ } } }
  match sc.kind with
  | .lent _ => v1
  | .proxy e =>
    match v1.cfg? e with
    | some (.boundary cls slot) => v1.proxy e cls slot
    | _ => v1

/-- An item that a manager reads in this tick at its own slot; one at a slot that the image does not configure, or with an OP that is not the
slot kind's, comes in a frame that the lanes reject (R369). -/
def State.bndItem (s : State) (i : BndItem) (op : BitVec 4) (f : Ev → SlotCfg → Ev) : State :=
  if !s.inTicks then s
  else
    s.evaluated (fun v =>
      match v.area.slots.get? i.slot.toNat with
      | none => v
      | some sc => if sc.kind.takes op then (f (v.hearSlot sc i op) sc).settle else v)

/-- BOUNDARY_LOCK_ITEM (R371-R373): the owner grants or refuses the element of a LENT slot. -/
def execBoundaryLockItem (i : BndItem) (s : State) : Host.Outcome State Fault Refusal :=
  .next (s.bndItem i 0x1 (fun v sc => match sc.kind with
    | .lent e => v.lentLock i.slot.toNat e i.reqVal
    | .proxy _ => v))

/-- What a GRANTED or REFUSED item at a PROXY slot does to its route in the same tick (R119, R371). -/
def Ev.proxyRoute (v : Ev) (slot elem : Nat) (i : BndItem) (op : BitVec 4) : Ev :=
  let v1 := v.proxyItem slot elem i op
  let r := i.route.toNat
  match v1.area.routes.get? r with
  | some rc => if (v1.route r).state == .checking && !v1.moved.contains r then v1.autoRoute r rc false else v1
  | none => v1

/-- BOUNDARY_GRANTED_ITEM (R119, R371, R374). -/
def execBoundaryGrantedItem (i : BndItem) (s : State) : Host.Outcome State Fault Refusal :=
  .next (s.bndItem i 0x9 (fun v sc => match sc.kind with
    | .proxy e => v.proxyRoute i.slot.toNat e i 0x9
    | .lent _ => v))

/-- BOUNDARY_REFUSED_ITEM (R119, R122, R371). -/
def execBoundaryRefusedItem (i : BndItem) (s : State) : Host.Outcome State Fault Refusal :=
  .next (s.bndItem i 0xA (fun v sc => match sc.kind with
    | .proxy e => v.proxyRoute i.slot.toNat e i 0xA
    | .lent _ => v))

/-- BOUNDARY_RELEASE_ITEM (R374): RELEASE (0x3) and IDLE (0x0) free a LENT slot, FREE (0x8) ends a PROXY slot's releasing. -/
def execBoundaryReleaseItem (i : BndItem) (op : BitVec 4) (s : State) : Host.Outcome State Fault Refusal :=
  if !(op == 0x3 || op == 0x0 || op == 0x8) then .next s
  else .next (s.bndItem i op (fun v sc => match sc.kind with
    | .lent e => v.lentFree i.slot.toNat e op i.reqVal
    | .proxy e => v.proxyItem i.slot.toNat e i op))

/-- BOUNDARY_PEER_LOST (R375): the sixteenth tick in a row without a valid frame of a neighbour, ALARM 0xE7 at the onset. -/
def execBoundaryPeerLost (area : Fin 16) (s : State) : Host.Outcome State Fault Refusal :=
  if !s.inTicks || decide (s.area.areas.length ≤ area.val) then .next s
  else .next (s.evaluated (fun v =>
    let p := v.c.k.peers[area]
    if p.lost || decide (p.missing < 15) || p.lastFrame == some v.tick then v
    else
      ({ v with c := { v.c with k := { v.c.k with peers := v.c.k.peers.set area { p with missing := 16, lost := true } } } } : Ev).raise
        .alarm 0xE7 .area area.val [BitVec.ofNat 8 area.val]))

end Sys2Proof.Machine
end

