-- ==== Sys2Proof/Machine/Pair.lean ====
section
/-!
DEFINITION. Manager pairs and the manager data a worker takes (R363, R378-R389), and position reports from outside the tick
(R151-R155).
-/

namespace Sys2Proof.Machine

/-! ### Quorum -/

/-- Q of R381: half of the workers, rounded down, plus 1. -/
def State.quorum (s : State) : Nat := (s.area.topo.filter (fun e => e.2.role == NodeRole.worker)).length / 2 + 1

/-! ### Commands of a worker (R24, R363) -/

/-- A command's validity window contains a tick (R342, R363). -/
def HeldCmd.valid_ (h : HeldCmd) (n : Tick) : Bool :=
  let d := (n - h.tick).toNat
  decide (1 ≤ d) && decide (d ≤ h.valid) && decide (h.valid ≤ 16)

/-- The valid manager command of a tick: channels commanded on, if there is one (R363). -/
def LaneK.command (k : LaneK) (n : Tick) : Option (BitVec 48) :=
  match k.held with
  | some h => if h.valid_ n then some h.mask else none
  | none => none

/-- A worker's held command becomes `h`; a HOLD channel whose valid command changes starts its motion window (R455). -/
def LaneK.hold (k : LaneK) (cfg : Vector ChanCfg 48) (n : Tick) (h : Option HeldCmd) : LaneK :=
  let old := (k.command n).getD 0
  let k1 : LaneK := { k with held := h }
  let new := (k1.command n).getD 0
  { k1 with heldChange := vmapIdx k.heldChange (fun i c => match cfg[i].motion with
      | .hold _ => if old.getLsbD i.val != new.getLsbD i.val then some n else c
      | _ => c) }

/-- The command word of part O follows the valid command in the present tick: reflexes and channel lockouts stand (R24, R199). -/
def LaneK.recommand (k : LaneK) (cfg : Vector ChanCfg 48) (n : Tick) : LaneK :=
  let w0 := (k.command n).getD 0 &&& outMaskOf cfg &&& ~~~k.partO[1] &&& ~~~k.lockMask
  let hold := k.partO[3].getLsbD 0
  { k with
    partO := k.partO.set 0 w0
    outs := vmapIdx k.outs (fun i o => o.recommand n (w0.getLsbD i.val && !hold)) }

/-- A COMMANDS item that a lane may use: of the selected manager unit, not of a standby, for this node, in its window (R363). -/
def State.cmdFits (s : State) (i : CmdItem) : Bool :=
  let unit := (s.topo? i.unit).map (fun e => e.role)
  let h : HeldCmd := ⟨i.tick, i.valid, i.mask, i.unit⟩
  s.ms.role == .worker && i.node == s.node && !i.standby && (unit == some .pairUnit || unit == some .single) &&
  (h.valid_ s.ms.tick || h.valid_ (s.ms.tick + 1))

/-- ALARM 0xE6, once per 1,024 ticks (R384). -/
def State.seeDual (s : State) : State :=
  let due := match s.pair.dualSeen with
    | some t => decide (1024 ≤ (s.ms.tick - t).toNat)
    | none => true
  if due then
    ({ s with pair := { s.pair with dualSeen := some s.ms.tick } } : State).alarmNode 0xE6 []
  else s

/-- The command of the latest TICK among the held one and the items; 0x000 wins a tie (R363, R384). -/
def bestCmd (old : Option HeldCmd) (is : List CmdItem) : Option HeldCmd :=
  is.foldl (fun (acc : Option HeldCmd) (i : CmdItem) =>
    let new : HeldCmd := ⟨i.tick, i.valid, i.mask, i.unit⟩
    match acc with
    | none => some new
    | some h => if tickGt i.tick h.tick || (h.tick == i.tick && i.unit == (0 : BitVec 12)) then some new else acc) old

/-- COMMANDS (R363, R384): the item with the latest TICK is held. Of two units in one tick 0x000 is followed: its item stands beside what was held
before the tick, and one of 0x001 after it is ignored. -/
def execCommands (i : CmdItem) (s : State) : Host.Outcome State Fault Refusal :=
  if !s.inTicks || !s.cmdFits i then .next s
  else
    let cfg := s.part.chans
    let units := s.pair.unitsNow
    let s1 : State := { s with pair := { s.pair with unitsNow := if units.contains i.unit then units else units ++ [i.unit] } }
    let s2 := s1.modRunK (fun k =>
      if i.unit != 0 && units.contains 0 then k
      else
        let base := if i.unit = 0 && !units.isEmpty && !units.contains 0 then k.heldBase else k.held
        (k.hold cfg s.ms.tick (bestCmd base [i])).recommand cfg s.ms.tick)
    .next (if units.any (fun u => u != i.unit) then s2.seeDual else s2)

/-- COMMAND_HOLD_EXPIRY (R24, R363): in a lane whose held command has run out, without a valid command the channels take their restrictive value, off. -/
def execCommandHoldExpiry (s : State) : Host.Outcome State Fault Refusal :=
  if s.inTicks && s.ms.role == .worker then
    let cfg := s.part.chans
    .next (s.modRunK (fun k => if (k.command s.ms.tick).isSome then k else (k.hold cfg s.ms.tick none).recommand cfg s.ms.tick))
  else .next s

/-! ### Position reports (R151-R154) -/

/-- POSITION_REPORT (R150-R154, R170): a report of a gateway of the area, read by a manager unit in the present tick; the limits
follow it. -/
def execPositionReport (r : PosReport) (s : State) : Host.Outcome State Fault Refusal :=
  if s.inTicks && s.isManager && s.area.gateways.contains r.gateway then
    .next (s.evaluated (fun v => v.oneReport r))
  else .next s

/-! ### Shadows and adoption (R378-R380) -/

/-- One word of part E or R written into a candidate. -/
def putWord (a : AreaCfg) (part : BitVec 4) (c : Carried) (i : Nat) (w : DWord) : Carried :=
  if part = 1 then
    match a.elems.get? i with
    | some cfg => { c with elems := c.elems.set i (Elem.ofWord cfg w) }
    | none => c
  else if part = 2 then
    match c.routes.get? (i / 2) with
    | some r =>
      let ws := r.words
      let n := if i % 2 = 0 then RouteRec.ofWords w ws.2 else RouteRec.ofWords ws.1 w
      { c with routes := c.routes.set (i / 2) { n with setBy := r.setBy } }
    | none => c
  else c

/-- The words of an item, in ascending index. -/
def putWords (a : AreaCfg) (part : BitVec 4) (c : Carried) (i : Nat) (ws : List DWord) : Carried :=
  match ws with
  | [] => c
  | w :: r => putWords a part (putWord a part c i w) (i + 1) r

def putItem (a : AreaCfg) (c : Carried) (it : CopyItem) : Carried := putWords a it.part c it.first it.words

/-- Every running timer of a candidate counts once, without expiry or reload (R379). -/
def countTimers (a : AreaCfg) (c : Carried) : Carried :=
  { c with
    elems := c.elems.mapV (fun i e => match a.elems.get? i with
      | some cfg => if cfg.timed then { e with timer := e.timer - 1 } else e
      | none => e)
    routes := c.routes.mapV (fun _ r => { r with timer := r.timer - 1 }) }

/-- The candidate of a shadow's tick; none where R379 rejects it. -/
def adoptShadow (a : AreaCfg) (c : Carried) (sh : Shadow) : Option Carried :=
  let c1 := sh.items.foldl (putItem a) (countTimers a c)
  let c2 : Carried := { c1 with
    auths := sh.removed.foldl (fun m v => m.del v) c1.auths, limits := sh.removed.foldl (fun m v => m.del v) c1.limits }
  if !sh.stat.overflow && digestE a sh.tick c2 == sh.stat.digE && digestR a sh.tick c2 == sh.stat.digR then some c2 else none

/-- Adoption of several held ticks in order. -/
def adoptAll (a : AreaCfg) (c : Carried) (shs : List Shadow) : Option Carried :=
  match shs with
  | [] => some c
  | sh :: r => (adoptShadow a c sh).bind (fun d => adoptAll a d r)

/-- Parts E and R of every running lane become a candidate's; vehicles that it lacks are gone. -/
def State.takeER (s : State) (c : Carried) (removed : List Nat) : State :=
  let s1 := (lanesOf s.running).foldl (fun s l => s.modLaneSt l (fun x =>
    { x with region := { x.region with
        elems := c.elems, routes := c.routes
        auths := removed.foldl (fun m v => m.del v) x.region.auths
        limits := removed.foldl (fun m v => m.del v) x.region.limits } })) s
  { s1 with pair := { s1.pair with prevER := some (c.elems, c.routes), sealedER := some (c.elems, c.routes) } }

/-- A standby adopts the active unit's tick in P1 of the next one (R379). -/
def State.adopt (s : State) (sh : Shadow) : State :=
  let own := s.leadRegion
  let base : Carried := match s.pair.prevER with
    | some (e, r) => { own with elems := e, routes := r }
    | none => own
  match adoptShadow s.area base sh with
  | some c =>
    let ah := digestA s.area sh.tick own == sh.stat.digA && digestH s.area sh.tick own == sh.stat.digH
    let s1 := s.takeER c sh.removed
    { s1 with pair := { s1.pair with sync := 1, ahMatch := ah, ahRun := if ah then satInc 65535 s1.pair.ahRun else 0 } }
  | none =>
    ({ s with pair := { s.pair with sync := 2, ahMatch := false, ahRun := 0 } } : State).alarmNode 0xE4 []

/-- Every word of a part is among the items. -/
def covered (items : List CopyItem) (part : BitVec 4) (n : Nat) : Bool :=
  (List.range n).all (fun i => items.any (fun it => it.part == part && decide (it.first ≤ i) && decide (i < it.first + it.words.length)))

/-- The copy has failed (R380): ALARM 0xE5, and the unit requests again. -/
def State.copyPairFailed (s : State) : State :=
  ({ s with pair := { s.pair with sync := 2, copyTick := none, copyGot := [], shadows := [] } } : State).alarmNode 0xE5 []

/-- COPY items arrive at a standby (R380): a complete copy is checked against DIG_E and DIG_R of its tick, and the held ticks
are adopted in order. -/
def State.takeCopy (s : State) (items : List CopyItem) : State :=
  match s.pair.copyTick with
  | none => s
  | some t =>
    let got := s.pair.copyGot ++ items
    let s1 : State := { s with pair := { s.pair with copyGot := got } }
    let a := s.area
    let own := s1.leadRegion
    if covered got 1 (topKey a.elems) && covered got 2 (2 * topKey a.routes) then
      let blank : Carried := { own with
        elems := a.elems.mapV (fun _ _ => Elem.zero), routes := a.routes.mapV (fun _ _ => RouteRec.idle) }
      let c := got.foldl (putItem a) blank
      match s1.pair.shadows.find? (fun sh => sh.tick == t) with
      | none => s1.copyPairFailed
      | some first =>
        if digestE a t c != first.stat.digE || digestR a t c != first.stat.digR then s1.copyPairFailed
        else
          let later := s1.pair.shadows.filter (fun sh => tickGt sh.tick t)
          match adoptAll a c later with
          | none => s1.copyPairFailed
          | some d =>
            let s2 := s1.takeER d (later.flatMap (fun sh => sh.removed))
            { s2 with pair := { s2.pair with sync := 1, copyTick := none, copyGot := [], shadows := [], ahMatch := false, ahRun := 0 } }
    else if 64 < (s.ms.tick - t).toNat then s1.copyPairFailed
    else s1

/-- PAIR_COPY (R380). -/
def execPairCopy (items : List CopyItem) (s : State) : Host.Outcome State Fault Refusal :=
  if s.inTicks && s.isPairUnit && s.pair.claim == 0 && s.pair.sync == 3 then .next (s.takeCopy items) else .next s

/-! ### Claims (R381-R385) -/

/-- The unit gives up control (R383): ALARM 0xE3 with the cause. -/
def State.gaveUp (s : State) (cause : BitVec 4) (claim : BitVec 2) (sync : BitVec 2) : State :=
  ({ s with
    ms := { s.ms with role := if claim = 2 then .active else .standby }
    pair := { s.pair with
      claim := claim, sync := sync, yieldCause := cause, yieldCnt := satInc 255 s.pair.yieldCnt
      viewLow := 0, viewUnder := 0, run2Run := 0, yieldWait := 0, served := none
      ownTicks := 0, seenActive := if cause = 2 then false else s.pair.seenActive } } : State).alarmNode 0xE3
    [cause.setWidth 8]

/-- A valid STATUS of the peer is read (R380, R381, R383, R384, R388): a standby without SYNC requests a copy from an active peer. -/
def State.readPeer (s : State) (sh : Shadow) : State :=
  let p := sh.stat
  let s1 : State := { s with pair := { s.pair with
    peerClaim := p.claim, peerSync := p.sync, peerView := p.view, peerVoting := p.lanesVoting, peerValid := true, peerMiss := 0
    seenActive := s.pair.seenActive || p.claim == 1 || p.claim == 2 } }
  if s1.pair.claim == 1 && p.claim == 1 then
    if s1.node == 0 then s1 else s1.gaveUp 6 0 2
  else if s1.pair.claim == 2 && p.claim == 1 then
    { s1 with ms := { s1.ms with role := .standby }, pair := { s1.pair with claim := 0, sync := 2, yieldWait := 0 } }
  else if s1.pair.claim == 1 then
    -- a REQUEST sealed after the tick from which the last one is served asks anew
    if p.sync == 2 && s1.pair.served.all (fun x => tickGt sh.tick x.1) then
      { s1 with pair := { s1.pair with
        served := some (s1.ms.tick, s1.leadRegion.elems, s1.leadRegion.routes), servedPos := 0, servedNext := 0 } }
    else if p.sync == 0 || p.sync == 1 then { s1 with pair := { s1.pair with served := none, servedPos := 0, servedNext := 0 } }
    else s1
  else if s1.pair.claim == 0 then
    if s1.pair.sync == 0 && p.claim == 1 then { s1 with pair := { s1.pair with sync := 2 } }
    -- a copy that began earlier lacks its first items here
    else if s1.pair.sync == 2 && p.copyTick != 0 && p.copyTick == sh.tick then
      { s1 with pair := { s1.pair with sync := 3, copyTick := some p.copyTick, copyGot := [], shadows := [sh] } }
    else if s1.pair.sync == 3 then { s1 with pair := { s1.pair with shadows := (s1.pair.shadows ++ [sh]).take 65 } }
    else s1
  else s1

/-- PAIR_STATUS (R378, R381, R383-R385). -/
def execPairStatus (p : PairStat) (s : State) : Host.Outcome State Fault Refusal :=
  if s.inTicks && s.isPairUnit then .next (s.readPeer ⟨s.ms.tick - 1, [], [], p⟩) else .next s

/-- The unit claims ACTIVE (R381, R382). -/
def State.claimActive (s : State) : State :=
  { s with
    ms := { s.ms with role := .active }
    pair := { s.pair with
      claim := 1, actSince := s.ms.tick, sync := 0, copyTick := none, copyGot := [], shadows := []
      viewLow := 0, viewUnder := 0, run2Run := 0, yieldWait := 0 } }

/-- A standby that has read no peer ACTIVE or YIELDING claims ACTIVE (R381): after enough ticks of its own, with VIEW ≥ Q. -/
def State.claimDue (s : State) : Bool :=
  let ticks := s.area.params.lloss + (if s.node = 0 then 0 else 2)
  s.isPairUnit && s.pair.claim == 0 && s.ms.mode != .lockout && !s.pair.seenActive && decide (ticks ≤ s.pair.ownTicks) &&
  decide (s.quorum ≤ s.pair.view)

/-- ACTIVE_CLAIM (R381). -/
def execActiveClaim (s : State) : Host.Outcome State Fault Refusal :=
  if s.inTicks && s.claimDue then .next s.claimActive else .next s

/-- A lane's state at a promotion in tick `p` (R382): no pending arms; authorities restart unless `ah`, and everything restarts
for a unit that is not synced (R99, R147, R175, R376). -/
def promoteRegion (s : State) (synced ah : Bool) (c : Carried) : Carried :=
  let a := s.area
  let k : LaneK := { c.k with elemArms := [], routeArms := [], resetArm := none, lockArm := none }
  let c1 : Carried := { c with k := k }
  if synced && ah then c1
  else
    let k2 : LaneK := { k with firstTick := some s.ms.tick, ovlVeh := [], contraVeh := [], rejVeh := [] }
    if synced then { c1 with auths := [], limits := [], k := k2 }
    else
      let fresh : Carried := { c1 with
        elems := a.elems.mapV (fun _ cfg => restartElem s.ms.tUs cfg)
        routes := a.routes.mapV (fun _ _ => RouteRec.idle)
        auths := [], limits := []
        k := { k2 with aux := [], slotIn := [], refused := [], granted := [] } }
      ({ s.evOf s.lead .empty with c := fresh } : Ev).bndRestart.c

/-- A standby is promoted in P3 of the present tick (R382): ALARM 0xE2 with the cause. -/
def State.promote (s : State) (cause : Byte) : State :=
  let synced := s.pair.sync == 1
  let ah := decide (s.area.auth.validity ≤ s.pair.ahRun)
  let s1 := (lanesOf s.running).foldl (fun s l => s.modLaneSt l (fun x =>
    { x with region := promoteRegion s synced ah x.region })) s
  let s2 := s1.claimActive
  ({ s2 with pair := { s2.pair with promoteCnt := satInc 255 s2.pair.promoteCnt } } : State).alarmNode 0xE2 [cause]

def promoteCode : PromoteCause → Byte
  | .peerMissing => 1
  | .peerOut => 2
  | .peerYielding => 3

/-- The condition of a promotion beside VIEW ≥ Q (R382). A unit that has never read its peer claims under R381, unless it was active and gave
up for want of VIEW (R383). -/
def State.promotes (s : State) : PromoteCause → Bool
  | .peerMissing => (s.pair.seenActive || s.pair.yieldCause == 5) && decide (s.area.params.lloss ≤ s.pair.peerMiss)
  | .peerOut => s.pair.peerValid && s.pair.peerClaim == 3
  | .peerYielding => s.pair.peerValid && s.pair.peerClaim == 2 && s.pair.sync == 1

/-- A standby is promoted for a cause (R382). -/
def State.promoteDue (s : State) (cause : PromoteCause) : Bool :=
  s.isPairUnit && s.pair.claim == 0 && s.ms.mode != .lockout && decide (s.quorum ≤ s.pair.view) && s.promotes cause

/-- STANDBY_PROMOTION (R382). -/
def execStandbyPromotion (cause : PromoteCause) (s : State) : Host.Outcome State Fault Refusal :=
  if s.inTicks && s.promoteDue cause then .next (s.promote (promoteCode cause)) else .next s

/-- The claim of a yield with a cause (R383): OUT, STANDBY or YIELDING, and the SYNC it leaves. -/
def State.yieldBy (s : State) (cause : BitVec 4) : State :=
  if cause = 1 then s.gaveUp 1 3 0
  else if cause = 2 then s.gaveUp 2 0 0
  else if cause = 3 || cause = 4 then s.gaveUp cause 2 s.pair.sync
  else if cause = 5 then s.gaveUp 5 0 0
  else if cause = 6 && s.node != 0 then s.gaveUp 6 0 2
  else s

/-- The condition of a yield (R383, R384). -/
def State.yields (s : State) (cause : Nat) : Bool :=
  let p := s.pair
  match cause with
  | 1 => s.ms.mode == .lockout
  | 2 => s.net.state == .silent || s.net.state == .fullSilence
  | 3 => decide (16 ≤ p.run2Run) && p.peerValid && p.peerSync == 1 && p.peerVoting == 7
  | 4 => decide (16 ≤ p.viewLow) && p.peerValid && p.peerSync == 1
  | 5 => decide (s.area.params.lloss ≤ p.viewUnder)
  | 6 => p.peerValid && p.peerClaim == 1
  | _ => false

/-- What a pair unit claims in P3 of a tick (R381-R383): the first cause of a yield, of a promotion, or the first claim. -/
def State.pairClaims (s : State) : State :=
  if s.isPairUnit && s.pair.claim == 1 then
    match ([1, 2, 3, 4, 5] : List Nat).find? (fun c => s.yields c) with
    | some c => s.yieldBy (BitVec.ofNat 4 c)
    | none => s
  else
    match ([.peerMissing, .peerOut, .peerYielding] : List PromoteCause).find? (fun c => s.promoteDue c) with
    | some c => s.promote (promoteCode c)
    | none => if s.claimDue then s.claimActive else s

/-- YIELD (R383). -/
def execYield (cause : Fin 7) (s : State) : Host.Outcome State Fault Refusal :=
  if s.isPairUnit && s.pair.claim == 1 && s.yields cause.val then .next (s.yieldBy (BitVec.ofNat 4 cause.val)) else .next s

end Sys2Proof.Machine
end

