-- ==== Sys2Proof/Machine/Update.lean ====
section
/-!
DEFINITION. The update of the configuration image in service (R433-R436, R439, R440, R446, R447, R451-R464): staging, release,
bank copy, rolling update, confirmation, and the host DMA of update items.
-/

namespace Sys2Proof.Machine

/-! ### Staging (R451-R453) -/

/-- An image that is copying or in trial is not replaced (R452). -/
def State.imageBusy (s : State) : Bool :=
  s.upd.copying || s.bankRec.state == .rollingTrial || s.bankRec.state == .fullTrial

/-- Chunks of an image of a length (R451). -/
def chunkCount (len : Nat) : Nat := (len + 55) / 56

/-- A chunk of the release record (R451). -/
def releaseChunk (c : Word) : Bool := decide (0xFFFFFF00 ≤ c.toNat) && decide (c.toNat ≤ 0xFFFFFF02)

/-- IMG_DIGEST of a release record (R454). -/
def releaseDigest (r : Release) : BitVec 384 := BitVec.ofNat 384 (natAt r.bytes 4 48)

/-- MODE of a release record (R454). -/
def releaseMode (r : Release) : Nat := natAt r.bytes 56 1

/-- The node lies in NODE_FIRST to NODE_LAST (R454). -/
def releaseFor (r : Release) (n : BitVec 12) : Bool :=
  decide (natAt r.bytes 52 2 % 4096 ≤ n.toNat) && decide (n.toNat ≤ natAt r.bytes 54 2 % 4096)

/-- MAGIC of a release record (R454). -/
def releaseMagic (r : Release) : Bool := natAt r.bytes 0 4 == 0x4C455258

/-- A release record has the layout of R454, its KEY_SLOT is the image's, and its signature verifies under the image's key. -/
def releaseSigned (i : Image) (r : Release) : Bool :=
  releaseMagic r && r.bytes.length == 160 && natAt r.bytes 58 6 == 0 && decide (natAt r.bytes 52 2 < 4096) &&
  decide (natAt r.bytes 54 2 < 4096) && (releaseMode r == 1 || releaseMode r == 2) && natAt r.bytes 57 1 == i.hdr.keySlot.toNat &&
  sigOk i.hdr.pubKey (sha384 (r.bytes.take 64)) (BitVec.ofNat 384 (beNat (bytesAt r.bytes 64 48)))
    (BitVec.ofNat 384 (beNat (bytesAt r.bytes 112 48)))

/-- An image or a release is rejected (R453): ALARM 0xF0 with the reason. -/
def State.updReject (s : State) (reason : BitVec 4) : State :=
  ({ s with upd := { s.upd with reason := reason } } : State).alarmNode 0xF0 [reason.setWidth 8]

/-- The rolling release's image meets R457 against the running one. -/
def compatible (new old : Image) : Bool :=
  new.hdr.decCompat && new.hdr.compatBase == old.hdr.digest && new.hdr.vmapId == old.hdr.vmapId && new.hdr.tUs == old.hdr.tUs &&
  new.hdr.retFmt == old.hdr.retFmt && new.hdr.areaId == old.hdr.areaId && new.area.topo == old.area.topo

/-- Why a release for the staged image is rejected: the first reason of R453, or 0 (R454, R457). -/
def State.releaseReason (s : State) (i : Image) (r : Release) : BitVec 4 :=
  if releaseDigest r == s.bankRec.failed then 0xA
  else if releaseMode r == 1 && !(match s.upd.img with
    | some old => compatible i old
    | none => false) then 0xB
  else if !releaseSigned i r then 0xC
  else 0

/-- A release meets the staged image (R454, R461): a rolling update waits for its copy, a full restart for the next reset. One
for another image or other nodes is not for this module. -/
def State.tryRelease (s : State) : State :=
  match s.nvm.release, s.upd.image with
  | some r, some i =>
    if s.upd.stage != .staged || s.imageBusy || s.upd.accepted.isSome then s
    else if releaseMagic r && (releaseDigest r != i.hdr.digest || !releaseFor r s.node) then s
    else
      let why := s.releaseReason i r
      if why != 0 then
        ({ s with nvm := { s.nvm with release := none, relChunks := [] } } : State).updReject why
      else if releaseMode r == 2 then
        let s1 := s.putBankRec (fun b => { b with state := .fullPending })
        { s1 with upd := { s1.upd with apply := .fullPending, accepted := some 2 } }
      else { s with upd := { s.upd with apply := .deferred, accepted := some 1, deferTicks := 0, deferAlarm := false } }
  | _, _ => s

/-- With every chunk held the lanes check the staged image (R453). DESIGN CHOICE (log 151): of an IMG_LEN beyond the staging area, every
chunk that the area holds. -/
def State.stageHeld (s : State) : State :=
  let st := s.nvm.staging
  let total := match st.get? 0 with
    | some b => min 2359296 (chunkCount (natAt b 16 4))
    | none => 0
  let held := (st.filter (fun p => decide (p.1 < total))).length
  { s with upd := { s.upd with total := total, stage := if total != 0 && held == total then .verifying else .receiving } }

/-- An image chunk is written and marked once (R452). A chunk that the map holds from before a reset finds the staging as it is. -/
def State.putChunk (s : State) (c : Nat) (data : List Byte) : State :=
  if s.nvm.staging.has c then (if s.upd.stage == .idle then s.stageHeld else s)
  else if (s.upd.total != 0 && s.upd.total ≤ c) || 2359296 ≤ c then s
  else ({ s with nvm := { s.nvm with staging := s.nvm.staging.set c (padTo 56 data) } } : State).stageHeld

/-- A chunk of the release record; the complete record is taken as R454 states, unless it is the one held. A chunk that differs from
the one held begins another record. -/
def State.putRelease (s : State) (c : Nat) (data : List Byte) : State :=
  let old := if (s.nvm.relChunks.get? c).any (fun d => d != padTo 56 data) then [] else s.nvm.relChunks
  let m := AMap.set old c (padTo 56 data)
  let s1 : State := { s with nvm := { s.nvm with relChunks := m } }
  match m.get? 0, m.get? 1, m.get? 2 with
  | some a, some b, some d =>
    let r : Release := ⟨(a ++ b ++ d).take 160⟩
    if s.nvm.release == some r then s1
    else ({ s1 with nvm := { s1.nvm with release := some r } } : State).tryRelease
  | _, _, _ => s1

/-- An UPDATE item at the update mover (R452): a new IMG_TAG starts a new staging with an erase, during which every item is discarded. -/
def State.takeUpdate (s : State) (i : UpdItem) : State :=
  if s.pwr.phase != .normal || s.upd.stage == .erasing then s
  else if s.nvm.stageTag != some i.imgTag then
    if s.imageBusy then s
    else
      { s with
        nvm := { s.nvm with stageTag := some i.imgTag, release := none, relChunks := [] }
        upd := { s.upd with
          stage := .erasing, total := 0, image := none, accepted := none
          apply := if s.bankRec.state == .fullPending then s.upd.apply else .none } }
  else if releaseChunk i.chunk then s.putRelease (i.chunk.toNat - 0xFFFFFF00) i.data
  else if s.upd.stage == .idle || s.upd.stage == .receiving then s.putChunk i.chunk.toNat i.data
  else s

/-- A host DMA in progress fetches the item at this address next (R452). -/
def State.fetches (s : State) (a : DWord) : Bool := s.upd.dmaBusy && decide (0 < s.upd.dmaLeft) && a == s.upd.dmaAt

/-- UPDATE (R451, R452): an item of a BULK frame, or one that the host DMA fetches, item after item from the address it was given. -/
def execUpdate (i : UpdItem) (s : State) : Host.Outcome State Fault Refusal :=
  match i.host with
  | none => .next (s.takeUpdate i)
  | some a =>
    if s.fetches a then
      .next (({ s with upd := { s.upd with dmaAt := s.upd.dmaAt + 64, dmaLeft := s.upd.dmaLeft - 1 } } : State).takeUpdate i)
    else .next s

/-- Update items of a payload: UPDATE records only, FIRST_ID equal to CHUNK [15:0] of the first item (R337, R338, R451). -/
def updItems (rs : List Rec) : Option (List UpdItem) :=
  let item (b : List Byte) : UpdItem := ⟨BitVec.ofNat 32 (natAt b 0 4), BitVec.ofNat 32 (natAt b 4 4), (b.drop 8).take 56, none⟩
  let ok (r : Rec) : Bool := r.cls == 0x0C && (match r.items with
    | b :: _ => natAt b 0 2 == r.first
    | [] => false)
  if rs.all ok then some (rs.flatMap (fun r => r.items.map item)) else none

/-- Records of a BULK frame reach the update mover once for each stream and tick in which it was sealed (R305, R343, R346). -/
def State.deliverBulk (s : State) (e : DWord) (fr : Frame) : State :=
  let key := (fr.key, if e.getLsbD 60 then s.ms.tick - 1 else s.ms.tick)
  if s.buf.rxSeen.contains key then s
  else
    let s1 : State := { s with buf := { s.buf with rxSeen := s.buf.rxSeen ++ [key] } }
    match fr.records.bind updItems with
    | some items => items.foldl (fun s i => s.takeUpdate i) s1
    | none => s1

/-- BULK (R305, R322, R335, R337, R338, R452). A chamber holds SAFE frames alone, so that no BULK frame is bridged (R344). -/
def execBulk (f : RxFrame) (s : State) : Host.Outcome State Fault Refusal :=
  match s.take f [0x20] with
  | .drop s1 => .next s1
  | .take body e s1 =>
    let fr := Frame.ofBytes body
    let s2 := s1.forward f.port f.resNs body
    if entryKind e == .rx && (fr.dst == s2.node || fr.dst == 0xFFF) then .next (s2.deliverBulk e fr)
    else .next s2

/-- STAGING_ERASE_DONE (R452). -/
def execStagingEraseDone (s : State) : Host.Outcome State Fault Refusal :=
  if s.upd.stage == .erasing then
    .next { s with
      nvm := { s.nvm with staging := [], relChunks := [], release := none }
      upd := { s.upd with stage := .receiving, total := 0 } }
  else .next s

/-- AREA_ID of a staged image is the running image's, outside COMMISSION (R447, R453). -/
def State.areaFits (s : State) (h : ImageHdr) : Bool :=
  match s.upd.img with
  | some old => old.hdr.areaId == h.areaId || s.lifeCycle == .commission
  | none => true

/-- RET_FMT is not below the version of any store (R453, R462). -/
def State.fmtFits (s : State) (h : ImageHdr) : Bool :=
  decide (s.nvm.fmt.log.toNat ≤ h.retFmt.toNat) && decide (s.nvm.fmt.counters.toNat ≤ h.retFmt.toNat) &&
  decide (s.nvm.fmt.ageing.toNat ≤ h.retFmt.toNat)

/-- A lane's check of the staged image (R453): the first reason, or 0. -/
def State.stageReason (s : State) (img : Option Image) : BitVec 4 :=
  match img with
  | some i => s.imgReason i.hdr (s.areaFits i.hdr) (s.fmtFits i.hdr) (i.parts.has s.node.toNat)
  | none =>
    let h : ImageHdr := { imageHdr s.stagedBytes with sectionsOk := false }
    s.imgReason h (s.areaFits h) true true

/-- STAGING_VERIFY_DONE (R453): `accept` says which lanes read the staged image without an error. -/
def execStagingVerifyDone (accept : PerLane Bool) (s : State) : Host.Outcome State Fault Refusal :=
  if s.upd.stage != .verifying then .next s
  else
    let img := imageOf s.stagedBytes
    let why := s.stageReason img
    let lanes := countMask (maskOf (fun l => l.inMask s.running && accept.get l))
    if why = 0 && 2 ≤ lanes then
      .next ({ s with upd := { s.upd with stage := .staged, image := img } } : State).tryRelease
    else
      .next (({ s with upd := { s.upd with stage := .rejected } } : State).updReject (if why = 0 then 3 else why))

/-- RELEASE_RECORD (R454). -/
def execReleaseRecord (r : Release) (s : State) : Host.Outcome State Fault Refusal :=
  if s.imageBusy then .next s else .next ({ s with nvm := { s.nvm with release := some r } } : State).tryRelease

/-! ### Bank copy (R455, R456, R458) -/

/-- A condition of R455 holds on the agreed values of the present tick. -/
def State.deferred (s : State) : Bool := s.upd.moving || s.upd.battLow || s.upd.lockPin || s.bankRec.ownerLock

/-- The conditions of a deferral (R456): moving, battery low, owner-locked. -/
def State.deferBits (s : State) : Byte :=
  BitVec.ofNat 8 (bitsNat [s.upd.moving, s.upd.battLow, s.upd.lockPin || s.bankRec.ownerLock])

/-- A copy of a rolling update waits to begin (R456, R458). -/
def State.copyWaits (s : State) : Bool :=
  s.upd.accepted == some 1 && !s.upd.copying && s.bankRec.state == .stable && s.upd.stage == .staged

/-- BANK_COPY_START (R456). -/
def execBankCopyStart (s : State) : Host.Outcome State Fault Refusal :=
  if !s.inTicks || !s.copyWaits || s.deferred then .next s
  else
    let s1 := s.setBank s.trialBank none
    .next { s1 with upd := { s1.upd with copying := true, apply := .copying, deferTicks := 0, deferAlarm := false } }

/-- BANK_COPY_DONE (R458): the lanes check the digest of the copy; a copy that two lanes do not accept starts again. -/
def execBankCopyDone (digestOk : PerLane Bool) (s : State) : Host.Outcome State Fault Refusal :=
  if !s.upd.copying then .next s
  else
    let ok := decide (2 ≤ countMask (maskOf (fun l => l.inMask s.running && digestOk.get l)))
    if ok then
      let s1 := (s.setBank s.trialBank s.upd.image).putBankRec (fun r => { r with state := .rollingTrial })
      .next { s1 with
        upd := { s1.upd with copying := false, apply := .rolling, accepted := none, confirm := 0, deferTicks := 0 }
        lanes := s1.lanes.map (fun x => { x with runsNew := false, trialCnt := 0 }) }
    else .next { s with upd := { s.upd with copying := false, apply := .deferred } }

/-! ### Rolling update (R458, R459) -/

/-- The lane that the rolling update takes next: C, then B, then A; none while a lane still counts (R458). -/
def State.nextTrialLane (s : State) : Option Lane :=
  if s.lanesNew.any (fun l => decide ((s.lane l).trialCnt < 10000)) then none
  else [Lane.c, .b, .a].find? (fun l => !(s.lane l).runsNew)

/-- Something that the conditions of R455 defer waits: a copy, or the withdrawal of the next lane. -/
def State.updWaits (s : State) : Bool :=
  s.copyWaits || (s.bankRec.state == .rollingTrial && s.upd.apply == .rolling && s.upd.taken.isNone && s.nextTrialLane.isSome)

def State.allIn (s : State) : Bool := lanesList.all (fun l => (s.lane l).svc == .inService)

/-- A lane is withdrawn with exit cause 0xA (R206, R217, R495), and votes no more. -/
def State.withdraw (s : State) (l : Lane) : State :=
  let s1 := s.exitLane l 0xA
  let s2 : State := { s1 with ms := { s1.ms with voting := s1.ms.voting &&& ~~~(maskOf (fun m => m == l)) } }
  if s2.ms.mode == .run || s2.ms.mode == .run2 then s2.modeByVote 0x01 else s2

/-- The lane is withdrawn for the update; its LANE reset follows once it is WITHDRAWN. -/
def State.takeLane (s : State) (l : Lane) : State :=
  let s1 := s.withdraw l
  { s1 with upd := { s1.upd with taken := some (l, s1.ms.tick), deferTicks := 0, deferAlarm := false } }

/-- ROLLING_UPDATE_WITHDRAWAL (R456, R458, R459): the lane's LANE reset reloads from the trial bank, or, after a failed trial, from the
bank ACTIVE. -/
def execRollingUpdateWithdrawal (l : Lane) (s : State) : Host.Outcome State Fault Refusal :=
  if s.ms.mode != .run || !s.allIn || s.bankRec.state != .rollingTrial then .next s
  else if s.upd.apply == .fallback then
    if s.upd.fallback.head? == some l then .next (s.takeLane l) else .next s
  else if s.upd.apply == .rolling && s.nextTrialLane == some l && !s.deferred then .next (s.takeLane l)
  else .next s

/-! ### Confirmation (R439, R440, R447, R460-R462) -/

/-- Fuses burned at a confirmation: revocations that leave a slot and spare the image's own, the security floor, and the
COMMISSIONED fuse (R439, R440, R447). The second answer: slots revoked now. -/
def Fuses.confirm (f : Fuses) (h : ImageHdr) : Fuses × List Nat :=
  let r := [0, 1, 2, 3].foldl (fun (acc : BitVec 4 × List Nat) k =>
    let next := acc.1 ||| (1#4 <<< k)
    let left := (List.range 4).any (fun j => (f.slots.toList[j]?.bind id).isSome && !next.getLsbD j)
    if h.revoke.getLsbD k && k != h.keySlot.toNat && !acc.1.getLsbD k && left then (next, acc.2 ++ [k]) else acc) (f.revoked, [])
  ({ f with
    revoked := r.1, secFloor := max f.secFloor (min 63 h.secVer)
    commissioned := f.commissioned || h.lcReq == .service || h.lcReq == .field }, r.2)

/-- The update mover loads a gallery of the image in force through the GAL write port, and commits it with its expected digest (R349,
R460). DESIGN CHOICE (log 153): where the image holds no expected digest of it, with the digest of what was written. -/
def State.loadGallery (s : State) (g : Fin 8) : State :=
  match s.part.galleries.get? g.val with
  | some c =>
    let n := galleryOf c
    (s.modGallery g (fun _ => { n with state := .loading })).galCommitPut .updateMover g ((s.expectedDigest s.node g).getD n.digest)
  | none => s

/-- Galleries of the queue that are not write-locked are loaded (R350, R460). -/
def State.loadGalQueue (s : State) : State :=
  s.upd.galQueue.foldl (fun s g =>
    if s.galLocked g then s
    else
      let s1 := s.loadGallery g
      { s1 with upd := { s1.upd with galQueue := s1.upd.galQueue.filter (fun x => x != g) } }) s

/-- A trial image is confirmed (R439, R440, R447, R460-R462): one write of the bank record, the fuses, the converted stores,
EVENT 0x05. -/
def State.confirmImage (s : State) (rolling : Bool) : State :=
  match s.bankImg s.trialBank with
  | none => s
  | some i =>
    let b := s.trialBank
    let s1 := s.putBankRec (fun r => { r with active := b, state := .stable })
    let f := s1.fuses.confirm i.hdr
    let differ : List (Fin 8) := if rolling then
        (allFin 8).filter (fun g => match (i.parts.get? s.node.toNat).bind (fun p => p.galleries.get? g.val) with
          | some c => galleryOf c != s.gal.gals[g]
          | none => false)
      else []
    let s2 : State := { s1 with
      fuses := f.1
      nvm := s1.nvm.adoptConv
      lanes := s1.lanes.map (fun x => { x with runsNew := false, trialCnt := 0 })
      upd := { s1.upd with
        img := some i, bank := b, apply := .none, accepted := none, fallback := [], galQueue := differ } }
    let s3 := f.2.foldl (fun s k => s.alarmNode 0xF4 [BitVec.ofNat 8 k]) s2
    (s3.raise .event 0x05 .node s3.node.toNat (leBytes 4 i.hdr.imgVer.toNat ++ [BitVec.ofNat 8 (b2n b)])).loadGalQueue

/-- ROLLING_COUNT_COMPLETE (R458, R460): the lane has voted in 10,000 consecutive ticks; after lane A the image is confirmed. -/
def execRollingCountComplete (l : Lane) (s : State) : Host.Outcome State Fault Refusal :=
  if s.bankRec.state != .rollingTrial || s.upd.apply != .rolling || !(s.lane l).runsNew || (s.lane l).trialCnt != 10000 then .next s
  else if l == .a && lanesList.all (fun m => (s.lane m).runsNew && (s.lane m).trialCnt == 10000) then .next (s.confirmImage true)
  else .next s

/-- FULL_TRIAL_CONFIRMATION (R461). -/
def execFullTrialConfirmation (s : State) : Host.Outcome State Fault Refusal :=
  if s.bankRec.state == .fullTrial && s.upd.apply == .fullTrial && s.inTicks && decide (600000000 ≤ s.upd.confirmUs) then
    .next (s.confirmImage false)
  else .next s

/-- DEFERRAL_ALARM (R456): ALARM 0xF2 with the conditions, once for an unbroken deferral of the image's deferral alarm time. -/
def execDeferralAlarm (s : State) : Host.Outcome State Fault Refusal :=
  if s.updWaits && !s.upd.deferAlarm && decide (s.area.params.deferH * 3600000000 ≤ s.upd.deferTicks * s.ms.tUs.toNat) then
    .next (({ s with upd := { s.upd with deferAlarm := true } } : State).alarmNode 0xF2 [s.deferBits])
  else .next s

/-! ### Host DMA of update items (R452, R464, R535) -/

/-- BUSY falls, and vector 18 is raised (R535). -/
def State.dmaEnds (s : State) (err : Bool) : State :=
  ({ s with upd := { s.upd with dmaBusy := false, dmaErr := err, dmaLeft := 0 } } : State).raiseVec 18

/-- GO of a host DMA (R452, R464): COUNT items from ADDR on. -/
def State.dmaGo (s : State) : State :=
  if s.upd.dmaBusy || !s.pwr.dom.getLsbD 3 then s
  else if !s.pwr.busMaster then (s.dmaEnds true)
  else { s with upd := { s.upd with dmaBusy := true, dmaErr := false, dmaAt := s.upd.dmaAddr, dmaLeft := s.upd.dmaCnt } }

/-- UPD_DMA_GO (R452, R464, R535): without Bus Master Enable the DMA ends at once with ERR. -/
def execUpdDmaGo (s : State) : Host.Outcome State Fault Refusal :=
  .next s.dmaGo

/-- ABORT of a host DMA (R464). -/
def State.dmaAbort (s : State) : State :=
  if s.upd.dmaBusy then (s.dmaEnds false) else s

/-- UPD_DMA_ABORT (R464): the chunks already written stay staged. -/
def execUpdDmaAbort (s : State) : Host.Outcome State Fault Refusal :=
  .next s.dmaAbort

/-- UPD_DMA_END (R535): every item is fetched, or `err` says that it ended with a PCIe error. -/
def execUpdDmaEnd (err : Bool) (s : State) : Host.Outcome State Fault Refusal :=
  if s.upd.dmaBusy && (err || s.upd.dmaLeft = 0) then .next (s.dmaEnds err) else .next s

end Sys2Proof.Machine
end

