-- ==== Sys2Proof/Machine/Proofs.lean ====
section
/-!
DEFINITION. Rolling proof (R493-R498), the budget and ageing windows with the margin plans (R37, R500-R507), junction
temperatures (R543) and the host self-test (R446, R448, R509).
-/

namespace Sys2Proof.Machine

/-! ### Rolling proof (R264, R493-R498) -/

def State.modRp (s : State) (l : Lane) (f : RpLane → RpLane) : State :=
  { s with prf := { s.prf with lanes := s.prf.lanes.modify l f } }

/-- A lane's due time has come, or lies `late` ns behind (R493, R494). -/
def RpLane.past (p : RpLane) (now late : Nat) : Bool := p.dueNs.any (fun t => decide (t + late ≤ now))

/-- ROLLING_PROOF_DUE (R493). -/
def execRollingProofDue (l : Lane) (s : State) : Host.Outcome State Fault Refusal :=
  if (s.prf.lanes.get l).past s.nowNs 0 then .next (s.modRp l (fun p => { p with due := true })) else .next s

/-- A lane's rolling proof may begin (R493, R494). -/
def State.mayProve (s : State) (l : Lane) : Bool :=
  let earlier := lanesList.find? (fun m => (s.prf.lanes.get m).due)
  earlier == some l && s.ms.mode == .run && s.allIn && s.bankRec.state == .stable && s.prf.phase == .idle &&
  s.pair.served.isNone && s.pair.sync != 3 && !s.prf.bistBusy

/-- ROLLING_PROOF_WITHDRAWAL (R494, R495). -/
def execRollingProofWithdrawal (l : Lane) (s : State) : Host.Outcome State Fault Refusal :=
  if s.mayProve l then
    let s1 := (s.withdraw l).modRp l (fun p => { p with due := false })
    .next { s1 with prf := { s1.prf with
      rpLane := BitVec.ofNat 2 l.num, phase := .dissent, stepDone := 0, startNs := s1.nowNs, startTick := s1.ms.tick } }
  else .next s

/-- ROLLING_PROOF_OVERDUE (R494): ALARM 0xC7 and OVERDUE, half an interval after the due time. -/
def execRollingProofOverdue (l : Lane) (s : State) : Host.Outcome State Fault Refusal :=
  let p := s.prf.lanes.get l
  if p.due && !p.overdue && p.past s.nowNs (s.area.params.proofH * 1800000000000) then
    .next ((s.modRp l (fun p => { p with overdue := true })).alarmLane 0xC7 l [BitVec.ofNat 8 l.num])
  else .next s

/-- The lane of the running rolling proof. -/
def State.provedLane (s : State) : Option Lane := Lane.ofIdx (s.prf.rpLane.toNat - 1)

/-- What the voting lanes see of a channel in a dissent step, from the items that differ from the Echo of the edge. -/
def State.stepEcho (s : State) (obs : PerLane (List (Chan × EchoItem))) (c : Chan) : EchoAgreed :=
  let item (l : Lane) : Option EchoItem := match (obs.get l).find? (fun p => p.1 == c) with
    | some p => some p.2
    | none => (s.fld.echoH.get l)[c]
  reduceEcho (needOf s.ms.voting) ((lanesOf s.ms.voting).filterMap item)

/-- A settled-on channel in a dissent step (R264): an agreed item that deviates fails it, all four as they must stay pass it, and
otherwise the lanes do not agree. -/
def EchoAgreed.staysOn (e : EchoAgreed) : Option Bool :=
  if compareOn e != .fine then some false else if e.on then some true else none

/-- The result of one channel in a dissent step (R264, R496): none where the channel is in transition, its precondition fails, or
the lanes do not agree. -/
def State.stepResult (s : State) (side : Side) (obs : PerLane (List (Chan × EchoItem))) (c : Chan) : Option Bool :=
  let o := s.leadK.outs[c]
  let edge := s.stepEcho (.all []) c
  let seen := s.stepEcho obs c
  if settledOn s.ms.tUs o then seen.staysOn
  else if settledOff s.ms.tUs (s.chan c) o then
    let ready := match side with
      | .low => edge.mid
      | .high => match edge.l with
        | some x => x != .low
        | none => false
    if !ready then none
    else if seen.gdH == some true || seen.gdL == some true then some false
    else if seen.gdH == some false && seen.gdL == some false then some true
    else none
  else none

/-- The failure of a rolling proof is counted for the lane under proof (R510). -/
def State.countFail (s : State) : State :=
  match s.provedLane with
  | some l => s.modRp l (fun p => { p with fail := satInc 255 p.fail })
  | none => s

/-- A rolling proof has failed by its dissent (R264, R276, R497): ALARM 0xC5 for each channel and the lockout latch with cause 0x05. -/
def State.dissentFailed (s : State) (side : Side) (cs : List Chan) : State :=
  let num : List Byte := match side with
    | .low => [1, 1]
    | .high => [0, 3]
  let s1 := cs.foldl (fun s c => s.alarmChan 0xC5 c num) s
  let s2 : State := { s1 with
    prf := { s1.prf with lastFail := 6, phase := .idle }
    vot := { s1.vot with majProofOk := false } }
  (s2.countFail.modRunK LaneK.requestLockout).setLatch 0x05

/-- A channel's run of proofs of a lane without a dissent result (R496): the first step of a proof counts, a result of either
step ends the run. -/
def OutK.dissentRun (o : OutK) (l : Lane) (firstStep result : Bool) : OutK :=
  let n := o.noDissent.get l
  { o with noDissent := o.noDissent.set l (if result then 0 else if firstStep then satInc 255 n else n) }

/-- DISSENT_STEP (R264, R495-R497): the low side in tick w + 1, then the high side in w + 2; each ends in its tick or the next. After the second the lane takes its LANE reset in the next
tick. -/
def execDissentStep (side : Side) (obs : PerLane (List (Chan × EchoItem))) (s : State) : Host.Outcome State Fault Refusal :=
  let bit : Nat := match side with
    | .low => 1
    | .high => 2
  if s.prf.phase != .dissent || s.prf.stepDone + 1 != bit || !tickGe s.ms.tick (s.prf.startTick + BitVec.ofNat 32 bit) then .next s
  else
    match s.provedLane with
    | none => .next s
    | some l =>
      let outs := outChans s.part.chans
      let res := outs.map (fun c => (c, s.stepResult side obs c))
      let failed := (res.filter (fun p => p.2 == some false)).map (fun p => p.1)
      if !failed.isEmpty then .next (s.dissentFailed side failed)
      else
        let first := s.prf.stepDone == 0
        let none_ := (res.filter (fun p => p.2.isNone)).map (fun p => p.1)
        let s1 := s.modRunK (fun k => { k with outs := vmapIdx k.outs (fun c o =>
          if outs.contains c then o.dissentRun l first (!none_.contains c) else o) })
        let s2 : State := { s1 with prf := { s1.prf with
          stepDone := s1.prf.stepDone + bit, noResult := satAdd 255 s1.prf.noResult none_.length } }
        let bad := if first then [] else none_.filter (fun c => (s2.leadK.outs[c]).noDissent.get l == 3)
        .next (bad.foldl (fun s c => s.alarmChan 0xCE c []) s2)

/-! ### MOD_BUDGET (R37) -/

/-- A lane's window of 1,024 ticks ends; its T4_MAX enters the last 64 windows (R503). -/
def Budget.windowEnd (b : Budget) : Budget :=
  { b with
    failedTick := b.winFailed, belowPlan := b.winBelow, reserveMin := b.winReserve.getD 0, t4Max := b.winT4
    winFailed := false, winBelow := false, winReserve := none, winT4 := 0 }

/-- The tick ends a window of 1,024 ticks (R37, R500). -/
def State.windowEnds (s : State) : Bool := s.inTicks && s.ms.tick.toNat % 1024 == 1023

/-- BUDGET_WINDOW_END (R37). -/
def execBudgetWindowEnd (s : State) : Host.Outcome State Fault Refusal :=
  if !s.windowEnds then .next s
  else .next { s with lanes := s.lanes.map (fun x => { x with
    budget := x.budget.windowEnd, plan := { x.plan with t4w := (x.budget.winT4 :: x.plan.t4w).take 64 } }) }

/-! ### Margin plans (R501-R505) -/

/-- reserve(j) is at least 10 % (R503), with D = T - 50 µs. -/
def reserveOk (tUs : BitVec 17) (t4w j : Nat) : Bool :=
  decide (10 * 64 * t4w ≤ 9 * (tUs.toNat - 50) * (64 - j))

def Plan.t4wMax (p : Plan) : Nat := p.t4w.foldl max 0

/-- The gain of the last trim step, measured by the first window after it (R507). -/
def Plan.measure (p : Plan) (m : Nat) : Plan :=
  match p.stepped with
  | some (before, rose) =>
    let d : Int := Int.ofNat m - Int.ofNat before
    { p with gain := 10 * (if rose then d else -d), stepped := none }
  | none => p

/-- One step of the procedure of R503 at the margin `m`; `clock` says that clock steps exist. -/
def Plan.step (p0 : Plan) (tUs : BitVec 17) (m : Nat) (clock : Bool) : Plan :=
  let p := { p0.measure m with margin := min 255 m }
  if m < 10 then
    if p.trim < 12 then { p with high := 0, trim := p.trim + 1, stepped := some (m, true) }
    else if clock && decide (p.clk < 16) && reserveOk tUs p.t4wMax (p.clk + 1) then
      { p with high := 0, clk := p.clk + 1 }
    else { p with high := 0, exhausted := true }
  else if 16 ≤ m && 0 < p.trim then
    if p.high + 1 = 64 then { p with high := 0, trim := p.trim - 1, stepped := some (m, false), exhausted := false }
    else { p with high := p.high + 1, exhausted := false }
  else { p with high := 0, exhausted := false }

/-- The greatest of a list of bit vectors by their signed value. -/
def maxTemp (l : List (BitVec 8)) : BitVec 8 := l.foldl (fun a b => if a.toInt < b.toInt then b else a) (l.headD 0)

/-- The lowest slack of a die, and the first monitor that shows it (R502). -/
def lowest (l : List Nat) : Nat × Nat :=
  ((l.zip (List.range l.length)).foldl (fun acc x => match acc with
    | none => some x
    | some b => if x.1 < b.1 then some x else some b) (none : Option (Nat × Nat))).getD (255, 0)

/-- Baseline of a die's ring oscillators: the first window after commissioning sets it (R500). -/
def State.baseline (s : State) (die : Nat) (ro : List Nat) : State :=
  if !s.fuses.commissioned then s
  else { s with nvm := { s.nvm with roBase := (ro.zip (List.range ro.length)).foldl (fun m x =>
    if m.has (32 * die + x.2) then m else m.set (32 * die + x.2) x.1) s.nvm.roBase } }

/-- The largest slowdown of a die's ring oscillators against their baseline, in units of 0.01 % (R500); 0 before there is one. -/
def State.roShift (s : State) (die : Nat) (ro : List Nat) : BitVec 16 :=
  BitVec.ofNat 16 ((ro.zip (List.range ro.length)).foldl (fun a x => match s.nvm.roBase.get? (32 * die + x.2) with
    | some b => max a (min 65535 (10000 * (b - x.1) / b))
    | none => a) 0)

/-- A lane's window: its plan, ALARM 0xC9 and 0xCA (R503). -/
def State.lanePlan (s0 : State) (l : Lane) (o : LaneMon) : State :=
  let s := s0.baseline l.idx o.ro.toList
  let x := s.lane l
  let low := lowest o.pdm.toList
  let p := { x.plan.step s.ms.tUs low.1 true with
    pdm := BitVec.ofNat 4 low.2, roShift := s.roShift l.idx o.ro.toList, temp := maxTemp o.temp.toList }
  let s1 := s.setLane l { x with plan := p }
  let s2 := if x.plan.clk < p.clk then s1.alarmLane 0xC9 l [BitVec.ofNat 8 l.num, BitVec.ofNat 8 p.clk] else s1
  if p.exhausted && !x.plan.exhausted then s2.alarmLane 0xCA l [BitVec.ofNat 8 l.num] else s2

/-- An alarm once per day while its condition holds (R501); `key` names the object. -/
def State.dailyAlarm (s : State) (key : Byte) (on : Bool) (f : State → State) : State :=
  if on && !s.prf.alarmed.contains key then
    f { s with prf := { s.prf with alarmed := s.prf.alarmed ++ [key] } }
  else s

/-- The day's figures with one more window (R506). -/
def dayOf (day : Option DailyRec) (n : DailyRec) : DailyRec :=
  match day with
  | none => n
  | some d =>
    { n with
      low := ⟨min d.low.a n.low.a, min d.low.b n.low.b, min d.low.c n.low.c⟩
      hubLow := min d.hubLow n.hubLow, fieldLow := Vector.ofFn (fun i => min d.fieldLow[i] n.fieldLow[i])
      temp := Vector.ofFn (fun i => if (d.temp[i]).toInt < (n.temp[i]).toInt then n.temp[i] else d.temp[i])
      roShift := Vector.ofFn (fun i => if (d.roShift[i]).toNat < (n.roShift[i]).toNat then n.roShift[i] else d.roShift[i])
      eye := Vector.ofFn (fun i => if (d.eye[i]).toNat < (n.eye[i]).toNat then d.eye[i] else n.eye[i])
      eyeHeight := Vector.ofFn (fun i => min d.eyeHeight[i] n.eyeHeight[i])
      ron := if d.ron.toNat < n.ron.toNat then n.ron else d.ron }

/-- The worst switch of a channel that is settled on (R500): channel number or 0, low side, mΩ. -/
def worstSwitch (l : List SwitchMon) : Nat × Bool × BitVec 16 :=
  l.foldl (fun a x => if a.1 = 0 || decide (a.2.2.toNat < x.mohm.toNat) then (x.ch.val + 1, x.side == .low, x.mohm) else a) (0, false, 0)

/-- The monitors of a window of 1,024 ticks (R500-R506): plans, thresholds, and the day in progress. -/
def State.ageWindow (s : State) (obs : AgeObs) : State :=
  let measured := lanesList.filter (fun l => (s.lane l).svc.running)
  let s0 := measured.foldl (fun s l => s.lanePlan l (obs.lanes.get l)) s
  let s1 := (allFin 3).foldl (fun s b => s.baseline (4 + b.val) (obs.fields[b]).ro.toList) (s0.baseline 3 obs.hubRo.toList)
  let hub := { s1.prf.hub.step s1.ms.tUs (lowest obs.hubPdm.toList).1 false with temp := obs.hubTemp }
  let slack (b : Bank) : Nat := (lowest (obs.fields[b]).pdm.toList).1
  let fieldLow := (allFin 3).foldl (fun m b => min m (slack b)) 255
  let switches := obs.switches.filter (fun x => (s1.chan x.ch).mode.isOut && settledOn s1.ms.tUs (s1.leadK.outs[x.ch]))
  let worst := worstSwitch switches
  let ofLane {n : Nat} (f : Plan → BitVec n) (i : Nat) : BitVec n := ((Lane.ofIdx i).map (fun l => f (s1.lane l).plan)).getD 0
  let eyeLow := vmapIdx s1.prf.eyeLow (fun p n =>
    if (obs.eyeWidth[p]).toNat < 35 || obs.eyeHeightMv[p] < 40 then satInc 16 n else 0)
  let day := dayOf s1.prf.day
    { low := s1.lanes.map (fun x => x.plan.margin), plan := s1.lanes.map (fun x => (x.plan.trim, x.plan.clk))
      gain := s1.lanes.map (fun x => x.plan.gain), hubLow := hub.margin, hubTrim := hub.trim, hubGain := hub.gain
      fieldLow := Vector.ofFn slack, temp := Vector.ofFn (fun i => if i = 3 then obs.hubTemp else ofLane (fun p => p.temp) i.val)
      roShift := Vector.ofFn (fun i =>
        if i.val < 3 then ofLane (fun p => p.roShift) i.val
        else s1.roShift i.val (if i.val = 3 then obs.hubRo.toList else ((obs.fields[i.val - 4]?).map (fun f => f.ro.toList)).getD []))
      eye := obs.eyeWidth, eyeHeight := obs.eyeHeightMv, ron := worst.2.2 }
  let s2 : State := { s1 with
    prf := { s1.prf with
      hub := hub, fieldMargin := fieldLow, eye := obs.eyeWidth, eyeLow := eyeLow, ronCh := BitVec.ofNat 6 worst.1, ronSide := worst.2.1
      ron := worst.2.2, day := some day }
    aon := { s1.aon with planStore := s1.lanes.map (fun x => (x.plan.trim, x.plan.clk)), hubTrim := hub.trim } }
  let s3 := s2.dailyAlarm 0 hub.exhausted (fun s => s.raise .alarm 0xCF .die 4 [4])
  let s4 := (allFin 3).foldl (fun s b => s.dailyAlarm (BitVec.ofNat 8 (1 + b.val)) (decide (slack b < 10))
    (fun s => s.raise .alarm 0xCF .die (5 + b.val) [BitVec.ofNat 8 (5 + b.val)])) s3
  let s5 := (allFin 4).foldl (fun s p => s.dailyAlarm (BitVec.ofNat 8 (4 + p.val)) (eyeLow[p] == 16)
    (fun s => s.alarmPort 0xCC p [])) s4
  switches.foldl (fun s x =>
    let side := b2n (x.side == .low)
    s.dailyAlarm (BitVec.ofNat 8 (8 + 2 * x.ch.val + side)) (decide (150 < x.mohm.toNat))
      (fun s => s.alarmChan 0xCD x.ch [BitVec.ofNat 8 side])) s5

/-- AGEING_WINDOW (R500-R506), in P5 of the last tick of a window. -/
def execAgeingWindow (obs : AgeObs) (s : State) : Host.Outcome State Fault Refusal :=
  if s.windowEnds then .next (s.ageWindow obs) else .next s

/-! ### Daily record and remaining life (R506, R507) -/

/-- t^0.25, to 64 binary places. -/
def root4 (t : Nat) : Rat := (Nat.sqrt (Nat.sqrt (t * 2 ^ 256)) : Rat) / (2 ^ 64 : Nat)

/-- Σ of 100 / (64 - j) % over the clock steps from `i` + 1 to `k`. -/
def clkGain (i k : Nat) : Rat :=
  ((List.range k).filter (fun j => decide (i ≤ j))).foldl (fun a j => a + (100 : Rat) / ((64 - (j + 1) : Nat) : Rat)) 0

/-- Clock steps still permitted above `k` at t4w (R503, R507). -/
def clkTop (tUs : BitVec 17) (t4w k fuel : Nat) : Nat :=
  match fuel with
  | 0 => k
  | n + 1 => if k < 16 && reserveOk tUs t4w (k + 1) then clkTop tUs t4w (k + 1) n else k

/-- The least-squares line of m over u: a and b of m = a - b u. -/
def fitLine (pts : List (Rat × Rat)) : Rat × Rat :=
  let n : Rat := (pts.length : Rat)
  let su := pts.foldl (fun a p => a + p.1) 0
  let sm := pts.foldl (fun a p => a + p.2) 0
  let suu := pts.foldl (fun a p => a + p.1 * p.1) 0
  let sum := pts.foldl (fun a p => a + p.1 * p.2) 0
  let d := n * suu - su * su
  let slope := if d = 0 then 0 else (n * sum - su * sm) / d
  ((sm - slope * su) / n, -slope)

/-- A daily minimum with the plan of its day: trim steps, clock steps, and the gain of one trim step in 0.1 % (R506). -/
structure DayMin where
  low : Nat
  trim : Nat
  clk : Nat
  gain : Int
deriving DecidableEq, Repr

/-- A daily minimum at its nominal plan (R507, item 1), by the gain figures that its record holds. -/
def DayMin.nominal (d : DayMin) : Rat := (d.low : Rat) - (d.trim : Rat) * ((d.gain : Rat) / 10) - clkGain 0 d.clk

/-- Remaining life in days of one die (R507): `mins` are the daily minima, oldest first; none where the line never falls to the end of
life. -/
def remainingDays (mins : List DayMin) (headroom : Rat) : Option Rat :=
  let pts := (mins.zip (List.range mins.length)).map (fun p => (root4 (p.2 + 1), p.1.nominal))
  let ab := fitLine pts
  if ab.2 ≤ 0 then none
  else
    let x := (ab.1 + headroom - 10) / ab.2
    let t := if x ≤ 0 then 0 else x * x * x * x
    let left := t - (mins.length : Rat)
    some (if left < 0 then 0 else left)

/-- Remaining life of lane `l`. -/
def State.laneLife (s : State) (l : Lane) : Option Rat :=
  let p := (s.lane l).plan
  let mins := s.nvm.ageing.reverse.map (fun d => (⟨d.low.get l, (d.plan.get l).1, (d.plan.get l).2, d.gain.get l⟩ : DayMin))
  let head := ((12 - p.trim : Nat) : Rat) * ((p.gain : Rat) / 10) + clkGain p.clk (clkTop s.ms.tUs p.t4wMax p.clk 16)
  remainingDays mins head

def State.hubLife (s : State) : Option Rat :=
  let p := s.prf.hub
  let mins := s.nvm.ageing.reverse.map (fun d => (⟨d.hubLow, d.hubTrim, 0, d.hubGain⟩ : DayMin))
  remainingDays mins (((12 - p.trim : Nat) : Rat) * ((p.gain : Rat) / 10))

/-- The shorter of two lives; none is without end. -/
def shorter (a b : Option Rat × Nat) : Option Rat × Nat :=
  match a.1, b.1 with
  | some x, some y => if y < x then b else a
  | none, some _ => b
  | _, none => a

/-- The estimate of the day (R507): AGE_LIFE, and ALARM 0xCB below the threshold, again every 30 days. -/
def State.estimate (s : State) : State :=
  if s.nvm.ageing.length < 90 then s
  else
    let best := shorter (shorter (shorter (s.laneLife .a, 1) (s.laneLife .b, 2)) (s.laneLife .c, 3)) (s.hubLife, 4)
    let mo := Config.lifeMonths best.1
    let low := decide (mo.toNat < 12 * s.area.params.lifeYears)
    let days := if low then (if s.prf.foreDays = 29 then 0 else s.prf.foreDays + 1) else 0
    let due := low && (!s.prf.forecast || s.prf.foreDays == 29)
    let s1 : State := { s with prf := { s.prf with
      life := mo, limitDie := BitVec.ofNat 4 best.2, forecast := low, foreDays := if due then 0 else days } }
    if due then s1.raise .alarm 0xCB .die best.2 (BitVec.ofNat 8 best.2 :: leBytes 2 mo.toNat) else s1

/-- A daily record enters the ageing history; during a migration, in both formats (R462, R506). -/
def Nvm.putAgeing (v : Nvm) (d : DailyRec) : Nvm :=
  { v with
    ageing := (d :: v.ageing).take 32768
    conv := v.conv.map (fun c => { c with ageing := c.ageing.map (fun t => (d :: t).take 32768) }) }

/-- DAILY_RECORD (R501, R506, R507), once per 24 h of area time. -/
def execDailyRecord (s : State) : Host.Outcome State Fault Refusal :=
  if s.nowNs < s.prf.dayNs + 86400000000000 then .next s
  else
    let p : Proof := { s.prf with dayNs := s.nowNs, alarmed := [] }
    match s.prf.day with
    | none => .next { s with prf := p }
    | some d =>
      .next ({ s with
        nvm := s.nvm.putAgeing d
        prf := { p with day := none } } : State).estimate

/-! ### Junction temperature (R543) -/

def hotBit : HotDie → BitVec 4
  | .lane .a => 1
  | .lane .b => 2
  | .lane .c => 4
  | .hub => 8

/-- OVERTEMPERATURE (R543): ALARM 0xFB above 125 °C, once for each entry; above 140 °C a lane die is held in reset, and the hub
die is faulty. -/
def execOvertemperature (die : HotDie) (celsius : Nat) (s : State) : Host.Outcome State Fault Refusal :=
  let obj : Nat := match die with
    | .lane l => l.num
    | .hub => 4
  if celsius ≤ 125 then .next { s with prf := { s.prf with hotDies := s.prf.hotDies &&& ~~~hotBit die } }
  else
    let known := s.prf.hotDies &&& hotBit die != 0
    let s1 : State := { s with prf := { s.prf with hotDies := s.prf.hotDies ||| hotBit die } }
    let s2 := if known then s1 else s1.raise .alarm 0xFB .die obj [BitVec.ofNat 8 obj, BitVec.ofNat 8 celsius]
    if celsius ≤ 140 then .next s2
    else
      match die with
      | .lane l => .next (((s2.exitLane l 1).laneReset l).modLaneSt l (fun x => { x with hot := true }))
      | .hub => .next (((s2.latchFault 0x05 0 0 []).fullSilence 4).setLatch 0x0A)

/-- THERMAL_RECOVERY (R543): below 120 °C the lane proceeds under R210. -/
def execThermalRecovery (l : Lane) (s : State) : Host.Outcome State Fault Refusal :=
  let s1 := s.modLaneSt l (fun x => { x with hot := false })
  .next { s1 with prf := { s1.prf with hotDies := s1.prf.hotDies &&& ~~~hotBit (.lane l) } }

/-! ### Host self-test (R446, R448, R509) -/

/-- The lane and the test of a BLOCK value (R510). -/
def bistLane (block : BitVec 4) : Lane := if block.toNat ≤ 4 then .a else if block.toNat ≤ 8 then .b else .c

/-- GO of the host self-test (R446, R509). -/
def State.bistGo (s : State) : State :=
  if !s.pwr.dom.getLsbD 3 then s
  else if !s.testOpen then
    (({ s with prf := { s.prf with bistRefused := true } } : State).testIgnored.raiseVec 19)
  else if s.prf.bistBusy then s
  else
    let l := bistLane s.prf.bistBlock
    let s1 := s.withdraw l
    let s2 := s1.modLaneSt l (fun x => if x.svc == .disabled then x else { x with svc := .withdrawn, copyReq := false })
    { s2 with prf := { s2.prf with
      bistBusy := true, bistDone := false, bistPass := false, bistRefused := false, bistLast := s2.prf.bistBlock } }

/-- BIST_GO (R446, R448, R509): the lane is withdrawn for the test; a start that R446 does not open is refused and counted. -/
def execBistGo (s : State) : Host.Outcome State Fault Refusal :=
  .next s.bistGo

/-- BIST_DONE (R187, R489, R509, R535): the lane takes a LANE reset. -/
def execBistDone (pass : Bool) (durUs : Nat) (s : State) : Host.Outcome State Fault Refusal :=
  if !s.prf.bistBusy then .next s
  else
    let l := bistLane s.prf.bistLast
    let s1 : State := { s with prf := { s.prf with
      bistBusy := false, bistDone := true, bistPass := pass, bistUs := min 16777215 durUs } }
    let s2 := if pass && s.prf.bistLast.toNat % 4 == 0 then s1.modAllK (fun k => k.endExclusions l) else s1
    .next ((s2.laneReset l).raiseVec 19)

end Sys2Proof.Machine
end

