-- ==== Sys2Proof/Machine/Hosts.lean ====
section
/-!
DEFINITION. The host's two windows (R7, R8, R449, R529-R540): what each register shows, what a read clears, what a write does, the
mirrors, the MSI-X table, and the configuration requests that act on the module.
-/

namespace Sys2Proof.Machine

/-! ### NET and TIM (R334) -/

def PortRole.code : PortRole → Nat
  | .unused => 0
  | .ring0 => 1
  | .ring1 => 2
  | .chainUp => 3
  | .chainDown => 4

def NetState.code : NetState → Nat
  | .off => 0
  | .listen => 1
  | .coldstart => 2
  | .integrate => 3
  | .sync => 4
  | .silent => 5
  | .fullSilence => 6

/-- A fixed file's entry at a natural index, as a register shows it. -/
def atIdx {α : Type} {n : Nat} (v : Vector α n) (i : Nat) (f : α → Word) : Word :=
  match v[i]? with
  | some x => f x
  | none => 0

def State.netPort (s : State) (i : Nat) : Word :=
  match (allFin 4)[i]? with
  | none => 0
  | some p =>
    let x := s.port p
    fields32 [(20, x.nbr.toNat), (19, b2n x.nbrValid), (16, (s.portCfg p).role.code), (8, x.loss), (4, b2n x.dlyOut),
      (3, b2n x.freqFlt), (2, b2n x.nbrOk), (1, b2n x.blockLock), (0, b2n x.linkUp)]

/-- A NET register at its offset; the domain shows its Reset values while it is off (R488). -/
def State.netReg (s : State) (ofs : Nat) : Word :=
  let n := s.net
  if !s.pwr.dom.getLsbD 2 then 0
  else if ofs = 0x00 then
    fields32 [(20, n.refNode.toNat), (18, n.refRank.toNat), (16, (s.ownRank.map (fun r => r.val)).getD 0),
      (15, b2n s.ownRank.isSome), (14, b2n n.isRef), (13, b2n n.refValid), (8, n.syncPort.val), (0, n.state.code)]
  else if 0x10 ≤ ofs ∧ ofs < 0x20 then s.netPort ((ofs - 0x10) / 4)
  else if 0x20 ≤ ofs ∧ ofs < 0x30 then
    atIdx n.ports ((ofs - 0x20) / 4) (fun x =>
      fields32 [(31, b2n x.delayValid), (30, b2n x.delayChanged), (0, x.delay.toNat)])
  else if 0x30 ≤ ofs ∧ ofs < 0x40 then atIdx n.ports ((ofs - 0x30) / 4) (fun x => fields32 [(16, x.edgeCnt), (0, x.badCnt)])
  else if ofs = 0x40 then
    fields32 [(16, (sat16 s.ofsEst).toNat), (8, n.silenceCnt), (2, n.fullCause.toNat), (1, b2n n.fullSilent), (0, b2n n.silent)]
  else if ofs = 0x44 then
    fields32 [(24, n.attempts), (16, n.retreats), (8, n.takeovers), (1, n.csIgnored), (0, b2n n.won)]
  else if ofs = 0x48 then fields32 [(16, n.late), (0, n.mismatch)]
  else 0

/-- A TIM register at its offset; the time counter lies in the always-on domain. -/
def State.timReg (s : State) (ofs : Nat) : Word :=
  let t := s.tim
  if ofs = 0x00 then s.aon.timeNs.setWidth 32
  else if ofs = 0x04 then s.aon.timeLatch
  else if !s.pwr.dom.getLsbD 2 then 0
  else if ofs = 0x08 then t.tbase.setWidth 32
  else if ofs = 0x0C then t.tbaseLatch
  else if ofs = 0x10 then
    fields32 [(16, t.hops.toNat), (11, b2n t.ppsUsed), (10, b2n t.ppsQual), (9, b2n t.holdover), (8, b2n t.locked), (0, t.role.toNat)]
  else if ofs = 0x14 then t.theta
  else if ofs = 0x18 then t.rate
  else if ofs = 0x1C then fields32 [(24, t.pulseCnt), (0, t.phase.toNat)]
  else 0

/-! ### MOD (R540) -/

/-- A MOD register at its offset. -/
def State.modReg (s : State) (ofs : Nat) : Word :=
  if ofs = 0x00 then s.modId
  else if ofs = 0x20 then s.modMode
  else if ofs = 0x24 then s.ms.tick
  else if ofs = 0x28 then s.modTperiod
  else if ofs = 0x2C then s.modRrq
  else if ofs = 0x30 then s.modBudget .a
  else if ofs = 0x34 then s.modBudget .b
  else if ofs = 0x38 then s.modBudget .c
  else if ofs = 0x40 then s.modLane .a
  else if ofs = 0x44 then s.modLane .b
  else if ofs = 0x48 then s.modLane .c
  else if ofs = 0x4C then s.modDissent
  else if ofs = 0x50 then s.modRplx .a false
  else if ofs = 0x54 then s.modRplx .a true
  else if ofs = 0x58 then s.modRplx .b false
  else if ofs = 0x5C then s.modRplx .b true
  else if ofs = 0x60 then s.modRplx .c false
  else if ofs = 0x64 then s.modRplx .c true
  else if ofs = 0x68 then s.modSplit
  else if ofs = 0x70 then s.pair.regs.node
  else if ofs = 0x74 then s.pair.regs.pair
  else if ofs = 0x78 then s.pair.regs.actSince
  else if ofs = 0x7C then s.pair.regs.bnd
  else if ofs = 0x80 then s.modRstcause
  else if ofs = 0x84 then s.modPwr
  else if ofs = 0x88 then s.modLp .a
  else if ofs = 0x8C then s.modLp .b
  else if ofs = 0x90 then s.modLp .c
  else if ofs = 0xA0 then s.modMirror
  else if ofs = 0xA4 then s.host.mirTick
  else if ofs = 0xA8 then s.host.tickDiv.setWidth 32
  else 0

/-- An AON register at its offset (R488). -/
def State.aonReg (s : State) (ofs : Nat) : Word :=
  if ofs < 0x40 then s.aonFrec (ofs / 4)
  else if ofs = 0x40 then s.aonPloss
  else if ofs = 0x44 then s.aonVhold
  else if ofs = 0x48 then s.aon.restart
  else if 0x80 ≤ ofs ∧ ofs < 0xA4 then atIdx s.aon.counters ((ofs - 0x80) / 4) id
  else if ofs = 0xF00 then s.aon.timeNs.setWidth 32
  else if ofs = 0xF04 then s.aon.timeLatch
  else 0

/-! ### UPD and IMG (R464) -/

def Stg.code : Stg → Nat
  | .idle => 0
  | .erasing => 1
  | .receiving => 2
  | .verifying => 3
  | .staged => 4
  | .rejected => 5

def Apply.code : Apply → Nat
  | .none => 0
  | .deferred => 1
  | .copying => 2
  | .rolling => 3
  | .fullPending => 4
  | .fullTrial => 5
  | .fallback => 6

/-- The running image is in trial (IMG_BOOT). -/
def State.inTrial (s : State) : Bool := s.upd.apply == .fullTrial && s.bankRec.state == .fullTrial

/-- An UPD or IMG register at its offset. -/
def State.updReg (s : State) (ofs : Nat) : Word :=
  let u := s.upd
  let hdr := u.img.map (fun i => i.hdr)
  if ofs = 0x00 then
    fields32 [(28, u.stage.code), (24, u.apply.code), (23, b2n u.moving), (22, b2n u.battLow), (21, b2n (s.ms.mode != .boot && s.bankRec.ownerLock)),
      (20, b2n u.lockPin), (16, u.reason.toNat), (12, u.trialCause.toNat),
      (4, (maskOf (fun l => (s.lane l).runsNew)).toNat)]
  else if ofs = 0x04 then BitVec.ofNat 32 (if u.stage == .idle || u.stage == .erasing then 0 else s.nvm.staging.length)
  else if ofs = 0x08 then BitVec.ofNat 32 u.total
  else if ofs = 0x0C then BitVec.ofNat 32 u.confirm
  else if ofs = 0x10 then BitVec.ofNat 32 (min 0xFFFFFFFF u.deferTicks)
  else if ofs = 0x100 then u.dmaAddr.setWidth 32
  else if ofs = 0x104 then u.dmaAddr.extractLsb' 32 32
  else if ofs = 0x108 then BitVec.ofNat 32 u.dmaCnt
  else if ofs = 0x10C then fields32 [(17, b2n u.dmaErr), (16, b2n u.dmaBusy)]
  else if ofs = 0x800 then (hdr.map (fun h => h.imgVer)).getD 0
  else if ofs = 0x804 then (hdr.map (fun h => h.areaId)).getD 0
  else if ofs = 0x808 then
    fields32 [(31, b2n u.bank), (30, b2n u.bootFallback), (29, b2n s.inTrial), (24, u.b0.toNat), (20, u.b1.toNat),
      (16, u.lanesLoaded.toNat), (0, u.bootMs)]
  else if ofs = 0x80C then u.keys
  else if ofs = 0x810 then fields32 [(16, u.ignCnt), (0, u.lcBits.toNat)]
  else if ofs = 0x814 then u.fmt
  else if 0x820 ≤ ofs ∧ ofs < 0x850 then
    BitVec.ofNat 32 (natAt (leBytes 48 ((hdr.map (fun h => h.digest.toNat)).getD 0)) (ofs - 0x820) 4)
  else 0

/-! ### DGN rolling proof, AGE and BIST (R510) -/

def RpPhase.code : RpPhase → Nat
  | .idle => 0
  | .dissent => 1
  | .tests => 2
  | .copy => 3

/-- DGN_RPDUE: whole seconds of area time to the due time, negative while overdue. -/
def State.rpDue (s : State) (l : Lane) : Word :=
  match (s.prf.lanes.get l).dueNs with
  | none => 0
  | some d => BitVec.ofInt 32 ((Int.ofNat d - Int.ofNat s.nowNs) / 1000000000)

def RpLane.last (p : RpLane) : Word := fields32 [(24, p.pass), (16, p.fail), (0, p.durMs)]

/-- AGE_PLAN: the window counted toward a trim release while its run goes on, or in the window that released the step. -/
def Plan.word (p : Plan) : Word :=
  let counted := decide (0 < p.high) || (match p.stepped with
    | some (_, rose) => !rose
    | none => false)
  fields32 [(24, min 255 p.margin), (16, p.trim), (8, p.clk), (1, b2n p.exhausted), (0, b2n counted)]

def Plan.mon (p : Plan) : Word := fields32 [(16, p.roShift.toNat), (8, p.temp.toNat), (4, p.pdm.toNat)]

/-- A register of the DGN, AGE and BIST block. -/
def State.dgnBlock (s : State) (ofs : Nat) : Word :=
  let p := s.prf
  if ofs < 0x100 then s.dgnReg .a ofs
  else if ofs < 0x200 then s.dgnReg .b (ofs - 0x100)
  else if ofs < 0x300 then s.dgnReg .c (ofs - 0x200)
  else if ofs = 0x300 then
    fields32 [(30, p.rpLane.toNat), (28, p.phase.code), (24, p.lastFail.toNat), (16, p.noResult), (8, p.deferCnt),
      (0, (maskOf (fun l => (p.lanes.get l).overdue)).toNat)]
  else if ofs = 0x304 then s.rpDue .a
  else if ofs = 0x308 then s.rpDue .b
  else if ofs = 0x30C then s.rpDue .c
  else if ofs = 0x310 then p.lanes.a.last
  else if ofs = 0x314 then p.lanes.b.last
  else if ofs = 0x318 then p.lanes.c.last
  else if ofs = 0x1000 then s.lanes.a.plan.word
  else if ofs = 0x1004 then s.lanes.a.plan.mon
  else if ofs = 0x1010 then s.lanes.b.plan.word
  else if ofs = 0x1014 then s.lanes.b.plan.mon
  else if ofs = 0x1020 then s.lanes.c.plan.word
  else if ofs = 0x1024 then s.lanes.c.plan.mon
  else if ofs = 0x1030 then
    fields32 [(24, min 255 p.hub.margin), (16, p.hub.trim), (8, min 255 p.fieldMargin), (0, b2n p.hub.exhausted)]
  else if ofs = 0x1040 then
    if s.pwr.dom.getLsbD 2 then
      fields32 [(24, p.eye[3].toNat), (16, p.eye[2].toNat), (8, p.eye[1].toNat), (0, p.eye[0].toNat)]
    else 0
  else if ofs = 0x1050 then fields32 [(26, p.ronCh.toNat), (25, b2n p.ronSide), (0, p.ron.toNat)]
  else if ofs = 0x1060 then fields32 [(16, p.life.toNat), (4, p.limitDie.toNat), (0, b2n p.forecast)]
  else if ofs = 0x2000 then p.bistBlock.setWidth 32
  else if ofs = 0x2004 then
    fields32 [(31, b2n p.bistBusy), (30, b2n p.bistDone), (29, b2n p.bistPass), (28, b2n p.bistRefused),
      (24, p.bistLast.toNat), (0, p.bistUs)]
  else 0

/-! ### The other blocks -/

def State.arbReg (s : State) (ofs : Nat) : Word :=
  if ofs = 0 then s.arbCtl
  else if 0x10 ≤ ofs ∧ ofs < 0x28 then
    match (allFin 6)[(ofs - 0x10) / 4]? with
    | some r => s.arbStat r
    | none => 0
  else 0

/-- A LCK register that a read does not take. -/
def State.lckReg (s : State) (ofs : Nat) : Word :=
  if 0x100 ≤ ofs ∧ ofs < 0x200 then
    match (allFin 64)[(ofs - 0x100) / 4]? with
    | some i => s.lckPeek i
    | none => 0
  else if ofs = 0x200 then s.lckOrphan false
  else if ofs = 0x204 then s.lckOrphan true
  else if ofs = 0x208 then s.lckOrphanId
  else if ofs = 0x20C then s.lckIgnored
  else 0

def State.crcReg (s : State) (ofs : Nat) : Word :=
  if ofs < 0x400 then atIdx s.crc.chans (ofs / 0x40) (fun c => c.reg32 ((allFin 16)[ofs / 0x40]?.any s.sh.crcWaits) (ofs % 0x40))
  else if ofs = 0x400 then s.crcAuto
  else if ofs = 0x404 then s.crcDeny
  else 0

def State.chanReg (n : Nat) (f : Chan → Word) : Word :=
  match (allFin 48)[n]? with
  | some c => f c
  | none => 0

def State.fioReg (s : State) (ofs : Nat) : Word :=
  if ofs < 0x0C then
    match (allFin 3)[ofs / 4]? with
    | some b => s.fioBank b
    | none => 0
  else if 0x100 ≤ ofs ∧ ofs < 0x1C0 then State.chanReg ((ofs - 0x100) / 4) s.fioChcfg
  else if 0x200 ≤ ofs ∧ ofs < 0x2C0 then State.chanReg ((ofs - 0x200) / 4) s.fioChstat
  else 0

def State.votReg (s : State) (ofs : Nat) : Word :=
  if ofs = 0x00 then s.votStat
  else if ofs = 0x04 then BitVec.ofNat 32 s.lockedMask
  else if ofs = 0x08 then BitVec.ofNat 32 (s.lockedMask / 2 ^ 32)
  else if ofs = 0x0C then s.votCodestat
  else if ofs = 0x10 then s.votPulse
  else if 0x100 ≤ ofs ∧ ofs < 0x1C0 then State.chanReg ((ofs - 0x100) / 4) s.votChstat
  else 0

/-- A mailbox block: channels at 0x100 × k. -/
def State.mbxBlock (s : State) (secure : Bool) (ofs : Nat) : Word :=
  if ofs < 0x800 then
    match (allFin 8)[ofs / 0x100]? with
    | some k => s.mbxReg secure k (ofs % 0x100)
    | none => 0
  else if ofs = 0xF00 && !secure then s.xchWdeny
  else 0

/-! ### The MSI-X table (R534) -/

/-- Index of a word of the MSI-X table, and the vector of its mask bit where it is a vector control word. -/
def msixVector (i : Nat) : Option Nat := if i % 4 = 3 then some (i / 4) else none

/-- A word of the MSI-X table: address, upper address, data, and the mask bit. -/
def State.msixReg (s : State) (i : Nat) : Word :=
  match msixVector i with
  | some v => BitVec.ofNat 32 (b2n (s.host.msixMask.getLsbD v))
  | none => s.host.msix.getD i 0

/-- A write of the MSI-X table: a mask bit that clears raises a pending vector. -/
def State.msixWrite (s : State) (i : Nat) (val : Word) : State :=
  match msixVector i with
  | some v =>
    let bit : BitVec 32 := 1#32 <<< v
    if val.getLsbD 0 then { s with host := { s.host with msixMask := s.host.msixMask ||| bit } }
    else
      let s1 : State := { s with host := { s.host with
        msixMask := s.host.msixMask &&& ~~~bit, pendingVec := s.host.pendingVec &&& ~~~bit } }
      if s.host.pendingVec.getLsbD v then s1.raiseVec v else s1
  | none => { s with host := { s.host with msix := if val = 0 then s.host.msix.del i else s.host.msix.set i val } }

/-! ### Mirrors (R534, R536-R538) -/

/-- The mirror lane's committed region. -/
def State.mirrorRegion (s : State) : Carried :=
  match Lane.ofIdx (s.host.mlane.toNat - 1) with
  | some l => (s.lane l).region
  | none => .reset

/-- A word of the mirrors: part E, R or A of the mirror lane, 0 for identifiers that are not configured. -/
def State.mirrorWord (s : State) (ofs : Nat) : Word :=
  let c := s.mirrorRegion
  let half (w : DWord) (hi : Bool) : Word := if hi then w.extractLsb' 32 32 else w.setWidth 32
  if s.host.aborted then 0xFFFF_FFFF
  else if !s.host.valid then 0
  else if ofs < 0x140000 then
    let i := (ofs - 0x100000) / 8
    match s.area.elems.get? i with
    | some cfg => half ((c.elems.getD i .zero).word cfg) (ofs % 8 == 4)
    | none => 0
  else if ofs < 0x180000 then
    let o := ofs - 0x140000
    match s.area.routes.get? (o / 16), c.routes.get? (o / 16) with
    | some _, some r => half (if o % 16 < 8 then r.words.1 else r.words.2) (o % 8 == 4)
    | _, _ => 0
  else
    let o := ofs - 0x180000
    match c.auths.get? (o / 32) with
    | some a => if o / 32 < s.area.auth.vn then BitVec.ofNat 32 (natAt a.bytes (o % 32) 4) else 0
    | none => 0

def inMirror (ofs : Nat) : Bool := decide (0x100000 ≤ ofs) && decide (ofs < 0x1A0000)

/-! ### Reads (R532-R534, R540) -/

/-- What a word of BAR0 shows, a mirror's among them. -/
def State.bar0Word (s : State) (ofs : Nat) : Word :=
  if ofs < 0x1000 then s.modReg ofs
  else if ofs < 0x2000 then s.aonReg (ofs - 0x1000)
  else if ofs < 0x10000 then 0
  else if ofs < 0x20000 then s.mbxBlock false (ofs - 0x10000)
  else if ofs < 0x30000 then s.lckReg (ofs - 0x20000)
  else if ofs < 0x40000 then s.arbReg (ofs - 0x30000)
  else if ofs < 0x50000 then s.crcReg (ofs - 0x40000)
  else if ofs < 0x60000 then s.netReg (ofs - 0x50000)
  else if ofs < 0x70000 then s.galReg (ofs - 0x60000)
  else if ofs < 0x80000 then s.timReg (ofs - 0x70000)
  else if ofs < 0x90000 then s.fioReg (ofs - 0x80000)
  else if ofs < 0xA0000 then s.votReg (ofs - 0x90000)
  else if ofs < 0xB0000 then s.dgnBlock (ofs - 0xA0000)
  else if ofs < 0xC0000 then s.log.reg32 (ofs - 0xB0000)
  else if ofs < 0xD0000 then s.updReg (ofs - 0xC0000)
  else if inMirror ofs then s.mirrorWord ofs
  else if 0xFF0000 ≤ ofs ∧ ofs < 0xFF0200 then s.msixReg ((ofs - 0xFF0000) / 4)
  else if ofs = 0xFF8000 then s.host.pendingVec
  else 0

/-- A word of BAR2: the secure mailbox channels; the locks are taken, not shown. -/
def State.bar2Word (s : State) (ofs : Nat) : Word := if ofs < 0x800 then s.mbxBlock true ofs else 0

/-! ### What a read clears (R7) -/

def State.clearMod (s : State) (ofs : Nat) : State :=
  let lane (l : Lane) : State := s.modLaneSt l (fun x => { x with exitCnt := 0, resyncCnt := 0 })
  let lp (l : Lane) : State := s.modLaneSt l (fun x => { x with lateCnt := 0 })
  if ofs = 0x2C then { s with rrq := { s.rrq with ignored := 0, accept := 0, short := 0 } }
  else if ofs = 0x40 then lane .a
  else if ofs = 0x44 then lane .b
  else if ofs = 0x48 then lane .c
  else if ofs = 0x4C then { s with ms := { s.ms with dissentA := 0, dissentB := 0, dissentC := 0, reread := 0 } }
  else if ofs = 0x68 then { s with ms := { s.ms with inputSplit := 0, frameSplit := 0, reqSplit := 0 } }
  else if ofs = 0x74 then { s with pair := { s.pair with promoteCnt := 0, yieldCnt := 0, regs := { s.pair.regs with pair := s.pair.regs.pair &&& 0xFF00_00FF } } }
  else if ofs = 0x7C then { s with pair := { s.pair with refusedCnt := 0, grantCnt := 0, regs := { s.pair.regs with bnd := s.pair.regs.bnd &&& 0xFFFF_0000 } } }
  else if ofs = 0x80 then { s with aon := { s.aon with laneSeen := 0, hostrCnt := 0 } }
  else if ofs = 0x88 then lp .a
  else if ofs = 0x8C then lp .b
  else if ofs = 0x90 then lp .c
  else s

def State.clearMbx (s : State) (secure : Bool) (ofs : Nat) : State :=
  if ofs < 0x800 then
    match (allFin 8)[ofs / 0x100]? with
    | some k =>
      if ofs % 0x100 = 0x94 then s.modMbx secure k (fun m => { m with authFail := 0, seqFail := 0, collCnt := 0, qdrop := 0 }) else s
    | none => s
  else if ofs = 0xF00 && !secure then { s with sh := { s.sh with denyCnt := 0 } }
  else s

def State.clearShared (s : State) (lck : Bool) (ofs : Nat) : State :=
  if lck then
    if ofs = 0x208 then { s with sh := { s.sh with orphanCnt := 0 } }
    else if ofs = 0x20C then { s with sh := { s.sh with ignCnt := 0 } }
    else s
  else if ofs = 0 then { s with sh := { s.sh with expireCnt := 0 } }
  else if 0x10 ≤ ofs ∧ ofs < 0x28 then
    match (allFin 6)[(ofs - 0x10) / 4]? with
    | some r => { s with sh := { s.sh with maxLost := vmod s.sh.maxLost r (fun _ => 0), frozenCnt := vmod s.sh.frozenCnt r (fun _ => 0) } }
    | none => s
  else s

def State.clearCrc (s : State) (ofs : Nat) : State :=
  if ofs < 0x400 then
    match (allFin 16)[ofs / 0x40]? with
    | some k => if ofs % 0x40 = 0 then s.modCrc k (fun c => { c with feedErr := 0 }) else s
    | none => s
  else if ofs = 0x400 then { s with crc := { s.crc with linkFail := 0 } }
  else if ofs = 0x404 then { s with crc := { s.crc with denyCnt := 0 } }
  else s

def State.clearNet (s : State) (ofs : Nat) : State :=
  if 0x10 ≤ ofs ∧ ofs < 0x20 then
    match (allFin 4)[(ofs - 0x10) / 4]? with
    | some p => s.modPort p (fun x => { x with loss := 0 })
    | none => s
  else if 0x30 ≤ ofs ∧ ofs < 0x40 then
    match (allFin 4)[(ofs - 0x30) / 4]? with
    | some p => s.modPort p (fun x => { x with edgeCnt := 0, badCnt := 0 })
    | none => s
  else if ofs = 0x40 then { s with net := { s.net with silenceCnt := 0 } }
  else if ofs = 0x44 then { s with net := { s.net with attempts := 0, retreats := 0, takeovers := 0, csIgnored := 0 } }
  else if ofs = 0x48 then { s with net := { s.net with late := 0, mismatch := 0 } }
  else s

def State.clearField (s : State) (vot : Bool) (ofs : Nat) : State :=
  let reg (n : Nat) (f : ChReg → ChReg) : State := match (allFin 48)[n]? with
    | some c => { s with fld := { s.fld with regs := vmod s.fld.regs c f } }
    | none => s
  if vot then
    if ofs = 0x0C then { s with vot := { s.vot with dissentA := 0, dissentB := 0, dissentC := 0, codeRej := 0 } }
    else if ofs = 0x10 then { s with vot := { s.vot with pulseCnt := 0, overdueCnt := 0, noResult := 0 } }
    else if 0x100 ≤ ofs ∧ ofs < 0x1C0 then reg ((ofs - 0x100) / 4) (fun r => { r with lockCnt := 0 })
    else s
  else if 0x200 ≤ ofs ∧ ofs < 0x2C0 then reg ((ofs - 0x200) / 4) (fun r => { r with faultCnt := 0 })
  else s

def State.clearDgn (s : State) (ofs : Nat) : State :=
  let last (l : Lane) : State := s.modRp l (fun p => { p with pass := 0, fail := 0 })
  if ofs = 0x300 then { s with prf := { s.prf with noResult := 0, deferCnt := 0 } }
  else if ofs = 0x310 then last .a
  else if ofs = 0x314 then last .b
  else if ofs = 0x318 then last .c
  else s

def State.clearLog (s : State) (ofs : Nat) : State :=
  let g := s.log
  { s with log :=
      if ofs = 0x004 then { g with occA := 0 }
      else if ofs = 0x008 then { g with occE := 0 }
      else if ofs = 0x00C then { g with occT := 0 }
      else if ofs = 0x010 then { g with tdrop := 0 }
      else if ofs = 0x014 then { g with lostA := 0, lostE := 0 }
      else if ofs = 0x018 then { g with gapCnt := 0 }
      else g }

/-- RC fields of a word of BAR0 return to 0; registers of a domain that is off hold nothing. -/
def State.bar0Clear (s : State) (ofs : Nat) : State :=
  if ofs < 0x1000 then s.clearMod ofs
  else if ofs = 0x1044 then { s with aon := { s.aon with disqCnt := 0 } }
  else if 0x10000 ≤ ofs ∧ ofs < 0x20000 then s.clearMbx false (ofs - 0x10000)
  else if 0x20000 ≤ ofs ∧ ofs < 0x30000 then s.clearShared true (ofs - 0x20000)
  else if 0x30000 ≤ ofs ∧ ofs < 0x40000 then s.clearShared false (ofs - 0x30000)
  else if 0x40000 ≤ ofs ∧ ofs < 0x50000 then s.clearCrc (ofs - 0x40000)
  else if 0x50000 ≤ ofs ∧ ofs < 0x60000 then s.clearNet (ofs - 0x50000)
  else if ofs = 0x60008 then { s with gal := { s.gal with doneCnt := 0, cancelCnt := 0 } }
  else if ofs = 0x60010 then { s with gal := { s.gal with wdrop := 0 } }
  else if ofs = 0x7001C then { s with tim := { s.tim with pulseCnt := 0 } }
  else if 0x80000 ≤ ofs ∧ ofs < 0x90000 then s.clearField false (ofs - 0x80000)
  else if 0x90000 ≤ ofs ∧ ofs < 0xA0000 then s.clearField true (ofs - 0x90000)
  else if 0xA0000 ≤ ofs ∧ ofs < 0xB0000 then s.clearDgn (ofs - 0xA0000)
  else if 0xB0000 ≤ ofs ∧ ofs < 0xC0000 then s.clearLog (ofs - 0xB0000)
  else if ofs = 0xC0810 then { s with upd := { s.upd with ignCnt := 0 } }
  else s

/-- Offsets of BAR0 that lie on the hub register bus (R396): MBX, LCK, ARB and CRC. -/
def onBus (ofs : Nat) : Bool := decide (0x10000 ≤ ofs) && decide (ofs < 0x50000)

/-- A read of a register that has no effect but that of its RC fields. A check-value register is read behind the writes that reached its
channel. -/
def State.plainRead (s : State) (bar : Bar) (ofs : Nat) : State :=
  match bar with
  | .bar2 => (s.clearMbx true ofs).answer [s.bar2Word ofs]
  | .bar0 =>
    let s1 := if 0x40000 ≤ ofs ∧ ofs < 0x50000 then s.crcDrain else s
    (s1.bar0Clear ofs).answer [s1.bar0Word ofs]

/-- A read through BAR2 (R402, R410, R531). -/
def State.hostRead2 (s : State) (ofs : Nat) : State :=
  if 0x1000 ≤ ofs ∧ ofs < 0x1100 then
    match (allFin 64)[(ofs - 0x1000) / 4]? with
    | some i => s.lckRead .hostSecure i []
    | none => s.answer [0]
  else if ofs < 0x800 && 0x40 ≤ ofs % 0x100 && ofs % 0x100 < 0x80 then
    match (allFin 8)[ofs / 0x100]?, (allFin 16)[(ofs % 0x100 - 0x40) / 4]? with
    | some k, some w => s.outBufRead true k w
    | _, _ => s.answer [0]
  else s.onPort 1 .hostSecure [] (.read .bar2 ofs) (fun s => s.plainRead .bar2 ofs)

/-- A read through BAR0 (R402, R410, R427, R531, R534). -/
def State.hostRead0 (s : State) (ofs : Nat) : State :=
  if 0x20000 ≤ ofs ∧ ofs < 0x20100 then
    match (allFin 64)[(ofs - 0x20000) / 4]? with
    | some i => s.lckRead .hostNonsecure i []
    | none => s.answer [0]
  else if 0x10000 ≤ ofs ∧ ofs < 0x10800 ∧ 0x40 ≤ ofs % 0x100 ∧ ofs % 0x100 < 0x80 then
    match (allFin 8)[(ofs - 0x10000) / 0x100]?, (allFin 16)[(ofs % 0x100 - 0x40) / 4]? with
    | some k, some w => s.outBufRead false k w
    | _, _ => s.answer [0]
  else if 0x40000 ≤ ofs ∧ ofs < 0x40400 ∧ ofs % 0x40 = 0x10 then
    match (allFin 16)[(ofs - 0x40000) / 0x40]? with
    | some k => s.crcResLo .hostNonsecure k
    | none => s.answer [0]
  else if ofs = 0x70000 ∨ ofs = 0x1F00 then s.timNowLo
  else if ofs = 0x70008 && s.pwr.dom.getLsbD 2 then s.timTbaseLo
  else if onBus ofs then s.onPort 1 .hostNonsecure [] (.read .bar0 ofs) (fun s => s.plainRead .bar0 ofs)
  else s.plainRead .bar0 ofs

/-- A naturally aligned 32-bit read by the host, with what it does (R7, R532-R534). -/
def State.hostRead (s : State) (bar : Bar) (ofs : Nat) : State :=
  if s.pwr.d3hot || ofs % 4 != 0 then s.answer [0]
  else
    match bar with
    | .bar2 => s.hostRead2 ofs
    | .bar0 => s.hostRead0 ofs

/-- RC_READ (R7, R532-R534, R540): the read returns the word and clears the fields that a read clears. -/
def execRcRead (bar : Bar) (ofs : BitVec 24) (s : State) : Host.Outcome State Fault Refusal := .next (s.hostRead bar ofs.toNat)

/-- MIRROR_READ (R532, R536-R538): 4 to 64 bytes within one 64-byte block show one state. -/
def execMirrorRead (ofs : BitVec 24) (words : Fin 17) (s : State) : Host.Outcome State Fault Refusal :=
  let o := ofs.toNat
  let n := words.val
  let fits := !s.pwr.d3hot && o % 4 == 0 && decide (1 ≤ n) && decide (o % 64 + 4 * n ≤ 64) && inMirror o
  .next (s.answer ((List.range n).map (fun i => if fits then s.mirrorWord (o + 4 * i) else 0)))

/-! ### Writes (R7, R8, R449, R532-R534, R540) -/

/-- Nearest legal value of a field with a range (R449). -/
def clampTo (lo hi v : Nat) : Nat := if v < lo then lo else if hi < v then hi else v

/-- A write to a mailbox channel. -/
def State.writeMbx (s : State) (secure : Bool) (ofs : Nat) (val : Word) : State :=
  match (allFin 8)[ofs / 0x100]? with
  | none => s
  | some k =>
    let r := ofs % 0x100
    if r < 0x40 then
      match (allFin 16)[r / 4]? with
      | some w => s.inBufWrite secure k w val
      | none => s
    else if r = 0x80 then s.abortedClear secure k val
    else if r = 0x8C then s.m2hClear secure k val
    else if r = 0x90 then s.dbmaskWrite secure k val
    else s

/-- A write to a check-value channel, by the host in the non-secure window: every byte lane is strobed. Without the right to write, or
to a register that is read-only, it has no effect (R423, R432). -/
def State.writeCrc (s : State) (ofs : Nat) (val : Word) : State :=
  match (allFin 16)[ofs / 0x40]? with
  | none => s
  | some k =>
    let m := Master.hostNonsecure
    let r := ofs % 0x40
    if r = 0x00 then s.crcBus m k (.cfg val)
    else if r = 0x04 then s.crcBus m k (.seedLo val)
    else if r = 0x08 then s.crcBus m k (.seedHi val)
    else if r = 0x0C then s.crcBus m k (.data ⟨true, true, true, true⟩ val)
    else if 0x10 ≤ r ∧ r ≤ 0x18 then (if crcOwned m k then s else s.crcDenied m)
    else s

/-- A write to a LOG register (R449, R528). -/
def State.writeLog (s : State) (ofs : Nat) (val : Word) : State :=
  let g := s.log
  let v := val.toNat
  { s with log :=
      if ofs = 0x100 then { g with filter := val.getLsbD 8, rate := min 64 (v % 256) }
      else if ofs = 0x110 then
        { g with ringAddr := (g.ringAddr &&& 0xFFFFFFFF00000000#64) ||| ((val &&& 0xFFFFF000#32).setWidth 64) }
      else if ofs = 0x114 then { g with ringAddr := (g.ringAddr &&& 0x00000000FFFFFFFF#64) ||| (val.setWidth 64 <<< 32) }
      else if ofs = 0x118 then { g with log2 := clampTo 10 20 (v % 32) }
      else if ofs = 0x11C then { g with irqEn := val.getLsbD 1, en := val.getLsbD 0 }
      else if ofs = 0x124 then { g with tail := min (2 ^ g.log2 - 1) (v % 2 ^ 20) }
      else g }

/-- A write to an UPD register (R449, R464). Of a write to UPD_CTL with ABORT and GO at 1 the manual gives no order: the model aborts,
then starts (DESIGN CHOICE, log 110). -/
def State.writeUpd (s : State) (ofs : Nat) (val : Word) : State :=
  let u := s.upd
  if ofs = 0x100 then
    { s with upd := { u with dmaAddr := (u.dmaAddr &&& 0xFFFFFFFF00000000#64) ||| ((val &&& 0xFFFFFFC0#32).setWidth 64) } }
  else if ofs = 0x104 then
    { s with upd := { u with dmaAddr := (u.dmaAddr &&& 0x00000000FFFFFFFF#64) ||| (val.setWidth 64 <<< 32) } }
  else if ofs = 0x108 then { s with upd := { u with dmaCnt := clampTo 1 2359299 (val.toNat % 2 ^ 22) } }
  else if ofs = 0x10C then
    let s1 := if val.getLsbD 1 then s.dmaAbort else s
    if val.getLsbD 0 then s1.dmaGo else s1
  else s

/-- A write to BIST_CTL (R449, R509). -/
def State.writeBist (s : State) (val : Word) : State :=
  let s1 : State := { s with prf := { s.prf with bistBlock := BitVec.ofNat 4 (clampTo 1 12 (val.toNat % 16)) } }
  if val.getLsbD 4 then s1.bistGo else s1

/-- A host write of lock `k` (R402). -/
def State.writeLock (s : State) (m : Master) (k : Nat) (val : Word) : State :=
  match (allFin 64)[k]? with
  | some i => s.lckWrite m i val []
  | none => s

/-- A write through BAR2 (R531): the secure mailboxes and the locks. -/
def State.hostWrite2 (s : State) (ofs : Nat) (val : Word) : State :=
  if ofs < 0x800 then s.writeMbx true ofs val
  else if 0x1000 ≤ ofs ∧ ofs < 0x1100 then s.writeLock .hostSecure ((ofs - 0x1000) / 4) val
  else s

/-- A write through BAR0 (R531, R540). -/
def State.hostWrite0 (s : State) (ofs : Nat) (val : Word) : State :=
  if ofs = 0x00A8 then { s with host := { s.host with tickDiv := BitVec.ofNat 8 (clampTo 1 255 (val.toNat % 256)) } }
  else if 0x10000 ≤ ofs ∧ ofs < 0x10800 then s.writeMbx false (ofs - 0x10000) val
  else if 0x20000 ≤ ofs ∧ ofs < 0x20100 then s.writeLock .hostNonsecure ((ofs - 0x20000) / 4) val
  else if ofs = 0x20200 then s.orphanClear false val
  else if ofs = 0x20204 then s.orphanClear true val
  else if 0x40000 ≤ ofs ∧ ofs < 0x40400 then s.writeCrc (ofs - 0x40000) val
  else if ofs = 0x60200 then { s with gal := { s.gal with viewGal := val.extractLsb' 2 3, viewPort := val.setWidth 2 } }
  else if ofs = 0xA2000 then s.writeBist val
  else if 0xB0000 ≤ ofs ∧ ofs < 0xC0000 then s.writeLog (ofs - 0xB0000) val
  else if 0xC0000 ≤ ofs ∧ ofs < 0xD0000 then s.writeUpd (ofs - 0xC0000) val
  else if 0xFF0000 ≤ ofs ∧ ofs < 0xFF0200 then s.msixWrite ((ofs - 0xFF0000) / 4) val
  else s

/-- A naturally aligned 32-bit write by the host; a write that no register takes is ignored. -/
def State.hostWrite (s : State) (bar : Bar) (ofs : Nat) (val : Word) : State :=
  if s.pwr.d3hot || ofs % 4 != 0 then s
  else
    match bar with
    | .bar2 => s.hostWrite2 ofs val
    | .bar0 => s.hostWrite0 ofs val

/-- HOST_REGISTER_WRITE (R7, R8, R449, R532-R534, R540). -/
def execHostRegisterWrite (bar : Bar) (ofs : BitVec 24) (val : Word) (s : State) : Host.Outcome State Fault Refusal :=
  .next (s.hostWrite bar ofs.toNat val)

/-! ### Configuration requests (R470, R533, R535) -/

/-- A word of configuration space (R530, R531) at the places that the PCI type 0 header gives its fields (PRESUMED, log 111): none
where the manual names no value. -/
def State.cfgWord (s : State) (ofs : BitVec 12) : Option Word :=
  match ofs.toNat / 4 with
  | 0x0 => some 0x96201F6A
  | 0x2 => some (fields32 [(8, 0x088000), (0, (s.modId.setWidth 8).toNat)])
  | 0x8 => some 0
  | 0x9 => some 0
  | 0xB => some 0x00001F6A
  | _ => none

/-- CONFIGURATION_REQUEST: a return from D3hot to D0 acts as a HOSTR; without Bus Master Enable a host DMA ends with an error; a read
returns the identity of R530. -/
def execConfigurationRequest (r : CfgReq) (s : State) : Host.Outcome State Fault Refusal :=
  let s1 : State := { s with pwr := { s.pwr with linkUp := true } }
  match r with
  | .enterD3hot => .next { s1 with pwr := { s1.pwr with d3hot := true } }
  | .returnD0 =>
    if s.pwr.d3hot then
      let s2 := s1.hostReset
      .next { s2 with pwr := { s2.pwr with linkUp := true } }
    else .next s1
  | .busMaster on =>
    let s2 : State := { s1 with pwr := { s1.pwr with busMaster := on } }
    if !on && s.upd.dmaBusy then .next (s2.dmaEnds true) else .next s2
  | .read ofs =>
    match s.cfgWord ofs with
    | some w => .next { s1 with host := { s1.host with rdata := [w] } }
    | none => .next { s1 with host := { s1.host with rdata := [Config.cfgSpace s.free ofs] }, free := s.free + 1 }

end Sys2Proof.Machine
end

