-- ==== Sys2Proof/Machine/Access.lean ====
section
/-!
DEFINITION. Accesses that a freeze of a shared resource holds off, the freezes and their ends (R394, R401).
-/

namespace Sys2Proof.Machine

/-- An access that has waited is made. Firmware and the movers repeat nothing: the access is the one that was held off. -/
def State.perform (s : State) (m : Master) (a : HubAccess) : State :=
  if s.hostBlind m then s
  else
    match a with
    | .inBuf secure ch word val => s.modMbx secure ch (fun x => x.inWrite word val)
    | .outBuf secure ch word => s.outBufTake secure ch word
    | .inStat secure ch val => s.modMbx secure ch (fun x => x.abortedWrite val)
    | .bell secure ch val => s.modMbx secure ch (fun x => { x with m2h := x.m2h &&& ~~~val })
    | .dbMask secure ch val => s.dbmaskPut secure ch val
    | .lckRead i => s.lckTake m i
    | .lckWrite i val => { s with sh := s.sh.lockWrite m i val }
    | .orphan hi val => { s with sh := s.sh.orphanWrite hi val }
    | .crc ch w => s.crcPut m ch w []
    | .crcRes ch => s.crcResult ch
    | .read bar ofs => s.plainRead bar ofs
    | .galEntry g p idx entry => s.galEntryPut m g p idx entry
    | .galCommit g digest => s.galCommitPut m g digest

/-- The freeze of a resource ends: the accesses that waited for it are granted and made, in their order. -/
def State.thaw (s : State) (res : Fin 6) : State :=
  let s0 : State := { s with sh := { s.sh.unfreeze res with waiting := s.sh.waiting.filter (fun w => w.res != res) } }
  (s.sh.waiting.filter (fun w => w.res == res)).foldl (fun s w =>
    (({ s with sh := (s.sh.round res w.m []).1 } : State).perform w.m w.what)) s0

/-- ARB_FREEZE_EXPIRY (R401): 1 ms after it was set. -/
def execArbFreezeExpiry (res : Fin 6) (s : State) : Host.Outcome State Fault Refusal :=
  if s.sh.freeze.getLsbD res.val then
    .next (({ s with sh := { s.sh with expireCnt := satInc 255 s.sh.expireCnt } } : State).thaw res)
  else .next s

/-- ARB_FREEZE_REQUEST (R394, R401): a lane writes a freeze request block, or a voting lane a release. FREEZE sets in the tick in which
every lane of the agreement set has written a block for the same resource and mask, whose bits for the lanes are ignored. -/
def execArbFreezeRequest (l : Lane) (res : Fin 6) (mask : Byte) (freeze : Bool) (s : State) :
    Host.Outcome State Fault Refusal :=
  if freeze then
    let m : Byte := mask &&& ~~~0x0E#8
    let block := s.exBlock .freeze l 0 (freezeBody res mask)
    let q := s.sh.freezeReq.modify l (fun bs => bs ++ [block])
    let asks (x : Lane) : Bool := (q.get x).any (fun bs =>
      natAt bs 16 1 == res.val && (BitVec.ofNat 8 (natAt bs 17 1) : Byte) &&& ~~~0x0E#8 == m)
    let h : Shared := { s.sh with freezeReq := q }
    let s1 := s.modLaneSt l (fun x => x.sealedBlock .freeze)
    if (lanesOf s.acting).all asks && s.acting != 0 then
      .next { s1 with sh := { h with freeze := h.freeze ||| (1#6 <<< res.val), mask := m } }
    else .next { s1 with sh := h }
  else if l.inMask s.acting then .next (s.thaw res)
  else .next s

end Sys2Proof.Machine
end

