-- ==== Sys2Proof/Machine/Logs.lean ====
section
/-!
DEFINITION. The logger: arriving records (R515, R518, R521), LOG records of other nodes (R524), export (R519, R522) and the
host ring (R525).
-/

namespace Sys2Proof.Machine

/-! ### Arrival -/

/-- Each lane's copy of an arriving record. -/
def recCopies (copies : List (Lane × Record)) : PerLane (Option Record) :=
  PerLane.ofFn (fun l => (copies.find? (fun p => p.1 == l)).map (fun p => p.2))

/-- The record that the logger stores of the acting lanes' copies (R515): two bit-identical ones, or any with SINGLE set
where one lane's copy suffices. -/
def State.agreedRec (s : State) (copies : List (Lane × Record)) : Option Record :=
  let p := (recCopies copies).mapL (fun l r => if l.inMask (s.running ||| s.acting) then r else none)
  if s.single then (firstSome p.toList id).map (fun r => { r with single := true })
  else firstSome lanesList (fun l => match p.get l with
    | some r => if lanesList.any (fun m => m != l && p.get m == some r) then some { r with single := false } else none
    | none => none)

/-- A TRACE record passes the filter: TRACE_EN is 1 and TRACE_RATE is not used up in the tick; or it is dropped (R521). -/
def State.traceFilter (s : State) (r : Record) : Option State :=
  if r.cls != .trace then some s
  else if !s.log.filter then none
  else if s.log.traceTick < s.log.rate then
    some { s with log := { s.log with traceTick := s.log.traceTick + 1 } }
  else none

/-- LOG_RECORD_ARRIVAL (R515-R519, R521): the lanes' copies of a record reach the logger. -/
def execLogRecordArrival (copies : List (Lane × Record)) (s : State) : Host.Outcome State Fault Refusal :=
  match s.agreedRec copies with
  | none => .next s
  | some r =>
    match s.traceFilter r with
    | some s1 => .next (s1.logPut r)
    | none =>
      if s.log.filter then .next { s with log := { s.log with tdrop := satInc 0xFFFFFFFF s.log.tdrop } } else .next s

/-- Records missing before one with LSEQ `n` where `prev` was the last (R524). -/
def missingSeq (prev n : Word) : Nat := let d := (n - prev - 1).toNat; if d < 2147483648 then d else 0

/-- One forwarded record (R524): the gap before it is counted, and it passes through this node's log. -/
def State.logForwarded (s : State) (src : BitVec 12) (r : Record) : State :=
  let gap := match s.leadK.logSeq.get? src.toNat with
    | some p => missingSeq p r.lseq
    | none => 0
  let s1 : State := if gap = 0 then s else { s with log := { s.log with gapCnt := satAdd 65535 s.log.gapCnt gap, gapNode := src } }
  (s1.modRunK (fun k => { k with logSeq := k.logSeq.set src.toNat r.lseq })).logPut r

/-- LOG (R524): a manager takes the LOG records of an accepted frame. -/
def execLog (src : BitVec 12) (recs : List Record) (s : State) : Host.Outcome State Fault Refusal :=
  if s.inTicks && (s.ms.role == .active || s.ms.role == .standby) then
    .next (recs.foldl (fun s r => s.logForwarded src r) s)
  else .next s

/-! ### Export (R519, R522) -/

/-- Order of export: class, then the oldest TICK (R4). -/
def exportBefore (a b : Record) : Bool := decide (a.cls.code < b.cls.code) || (a.cls.code == b.cls.code && tickGt b.tick a.tick)

/-- Number of the record that is exported next; the first of equals by arrival. -/
def nextOf (l : List Record) : Nat :=
  ((l.zip (List.range l.length)).foldl (fun acc x => match acc with
    | none => some x
    | some b => if exportBefore x.1 b.1 then some x else some b) (none : Option (Record × Nat))).elim 0 Prod.snd

/-- Restored records are exported before any new one (R526). -/
def Log.nextExport (g : Log) : Nat := nextOf (if g.restored = 0 then g.recs else g.recs.take g.restored)

/-- ALARM 0xFA once the fill is below the high-water mark again (R519). -/
def State.lostAlarm (s : State) : State :=
  let g := s.log
  if g.recs.length < 16384 && (0 < g.newLostA || 0 < g.newLostE) then
    ({ s with log := { g with newLostA := 0, newLostE := 0 } } : State).alarmNode 0xFA
      (leBytes 4 g.newLostA ++ leBytes 4 g.newLostE)
  else s

/-- One record leaves the log with its LSEQ (R522); a forwarded one keeps the LSEQ it has (R524). -/
def State.exportOne (s : State) : Option (Record × State) :=
  let i := s.log.nextExport
  match s.log.recs[i]? with
  | none => none
  | some r =>
    let g := s.log.cut i
    let s1 : State := { s with log := if r.srcNode == s.node then { g with expSeq := g.expSeq + 1 } else g }
    some (if r.srcNode == s.node then { r with lseq := s.log.expSeq } else r, s1.lostAlarm)

/-! ### The host ring (R525) -/

/-- A record is written at HEAD, which advances; vector 16 once in a tick. -/
def State.ringPut (s : State) (r : Record) : State :=
  let g := s.log
  let g1 : Log := { g with ring := g.ring.set g.head r, head := (g.head + 1) % 2 ^ g.log2 }
  let s1 : State := { s with log := g1 }
  if g.irqEn && !s.host.raised.contains 16 then s1.raiseVec 16 else s1

/-- LOG_EXPORT (R519, R522, R523, R525): the next record leaves the log, on a manager into the host ring while it takes one (R535: and Bus Master Enable is set),
on a worker toward its upstream payload, which in LOCKOUT takes alarms alone (R47). -/
def execLogExport (s : State) : Host.Outcome State Fault Refusal :=
  if s.ms.role == .active || s.ms.role == .standby then
    if !s.log.en || s.log.full || !s.pwr.busMaster then .next s
    else
      match s.exportOne with
      | some (r, s1) => .next (s1.ringPut r)
      | none => .next s
  else if s.ms.role == .worker && s.inTicks then
    match s.exportOne with
    | some (r, s1) =>
      if s.aon.latch && r.cls != .alarm then .next s
      else .next { s1 with log := { s1.log with sealed := s1.log.sealed ++ [r] } }
    | none => .next s
  else .next s

/-- HOST_RING_FULL_ALARM (R525): full for 1,024 consecutive ticks while EN is 1. -/
def execHostRingFullAlarm (s : State) : Host.Outcome State Fault Refusal :=
  if s.log.en && s.log.full && s.log.fullRun == 1024 then
    .next (({ s with log := { s.log with fullRun := 1025 } } : State).alarmNode 0xF9 [])
  else .next s

end Sys2Proof.Machine
end

