-- ==== Sys2Proof/Machine/Streams.lean ====
section
/-!
DEFINITION. What the lanes read in a tick: their sample blocks and the agreed values of P1 (R179-R187, R255, R279, R289, R292),
the frames of the frozen buffer (R181, R188, R266, R267, R338-R343, R363, R369, R378) and the mailbox messages of the snapshot
(R182, R189, R408, R413).
-/

namespace Sys2Proof.Machine

/-! ### Glefel links (R422, R429) -/

/-- A packet as it arrived passes the check of a Glefel link end (R422, R429). -/
def packetOk (bs : List Byte) : Bool :=
  let n := bs.length - 4
  decide (4 ≤ bs.length) && natAt bs n 4 == (crc32c (bs.take n)).toNat

/-- Both copies of a packet fail their check, so that it is dropped (R429). -/
def packetLost (p : LinkPacket) : Bool := !packetOk p.first && !packetOk p.again

/-- The data of a dropped packet are missing for the lane (R20, R429). -/
def lacking (o : LaneObs) (d : PacketData) : LaneObs :=
  match d with
  | .samples m => { o with noBlockFrom := o.noBlockFrom ++ [m] }
  | .digest m => { o with noDigestFrom := o.noDigestFrom ++ [m] }
  | .frame i => { o with frames := ⟨i, [], []⟩ :: o.frames.filter (fun c => c.idx != i) }
  | .message secure ch => { o with msgs := ⟨secure, ch, []⟩ :: o.msgs.filter (fun c => c.secure != secure || c.ch != ch) }
  | .field b => { o with noData := if o.noData.contains b then o.noData else o.noData ++ [b] }
  | .other => o

/-- What a lane meets, without the data of the packets that its link dropped. -/
def linked (o : LaneObs) : LaneObs := (o.packets.filter packetLost).foldl (fun o p => lacking o p.brings) o

/-! ### Sample blocks (R179, R184) -/

/-- The Echo that the switches of a channel imply where nothing else acts on its lands (R254, R294): I_CLASS reads TRIP while the trip
latch is set, which holds both switches open (R295). -/
def Stage.echo (g : Stage) : EchoItem :=
  if g.trip then ⟨.mid, .mid, false, false, .trip⟩
  else match g.gateH, g.gateL with
  | true, true => ⟨.high, .low, true, true, .normal⟩
  | true, false => ⟨.high, .high, true, false, .opn⟩
  | false, true => ⟨.low, .low, false, true, .opn⟩
  | false, false => EchoItem.rest

/-- Supply class that a lane sees of a bank: UV where VFn does not feed it (R12, R279). -/
def State.supply (s : State) (o : LaneObs) (b : Bank) : SupplyClass := if s.pwr.vf[b] then o.vf[b] else .uv

/-- A lane's sample codes at the edge. -/
def State.sampleBlock (s : State) (o : LaneObs) (l : Lane) : Vector Samp 48 :=
  let k := (s.lane l).region.k
  Vector.ofFn (fun c =>
    let cfg := s.chanOf l c
    let srcBad := match cfg.link with
      | some j => decide (0 < (k.ins[j]).srcFault)
      | none => false
    sampleOf cfg (o.noData.contains (bankOf c)) (s.supply o (bankOf c)) srcBad ((s.fld.reps.get l)[c]))

/-- I_CLASS of a channel whose current has the class `c` (R293, R295): TRIP with the trip latch alone, OVER after the inrush window
alone. -/
def Stage.current (g : Stage) (c : CurClass) : CurClass :=
  if g.trip then .trip
  else match c with
  | .trip => .over
  | .over => if g.inrush then .normal else .over
  | other => other

/-- A lane's Echo items at the edge; none where its bank delivers nothing (R292). -/
def State.echoBlock (s : State) (o : LaneObs) (l : Lane) : Vector (Option EchoItem) 48 :=
  Vector.ofFn (fun c =>
    if o.noData.contains (bankOf c) || !(s.chanOf l c).mode.isOut then none
    else
      match o.echo.find? (fun p => p.1 == c) with
      | some p => some { p.2 with cur := (s.fld.stages[c]).current p.2.cur }
      | none => some (s.fld.stages[c]).echo)

/-- Two-bit code of a sample (R180). -/
def Sample.bits : Sample → Nat
  | .inactive => 0
  | .active => 1
  | .fault => 2
  | .missing => 3

/-! ### Verdicts on frames and messages (R181, R182) -/

/-- Index of an area that borders this one. -/
def State.areaIdx (s : State) (a : Word) : Option (Fin 16) := (allFin 16).find? (fun i => s.area.areas[i.val]? == some a)

/-- Every boundary item of a frame names a slot shared with the sender and an OP of the sender's slot kind (R369). -/
def State.bndSound (s : State) (f : Frame) (rs : List Rec) : Bool :=
  (itemsOf rs 0x06).all (fun p =>
    let op := natAt p.2 8 1
    match s.area.slots.get? (natAt p.2 14 2) with
    | none => false
    | some sc =>
      s.areaIdx f.area == some sc.area && sc.peerSlot.toNat == p.1 && decide (op < 16) && sc.kind.takes (BitVec.ofNat 4 op))

/-- A lane's verdict on a right copy of a frame (R181): codes, records, tags, window and sequence. -/
def State.frameOk (s : State) (k : LaneK) (f : Frame) : Bool :=
  f.type == 0x10 && f.voted && f.inWindow s.ms.tick && streamOk (k.streams.get? f.key) f &&
  (match f.records with
   | some rs => s.bndSound f rs
   | none => false)

/-- A lane's verdict on its copy of a frame with the CRC-64 of the payload (R181): the digest where the verdict is ACC. -/
def State.frameVerdict (s : State) (k : LaneK) (f : Frame) : Option DWord :=
  if s.frameOk k f then some (crc64 f.payload) else none

/-- A lane's own copy of frame `i` of the frozen buffer, at the first reading or again (R188). -/
def laneFrame (o : LaneObs) (again : Bool) (i : Nat) (x : StoredFrame) : Frame :=
  Frame.ofBytes ((o.frames.find? (fun c => c.idx == i)).elim x.bytes (fun c => if again then c.again else c.first))

/-- A stream has gone on to a frame (R343). -/
def LaneK.follow (k : LaneK) (f : Frame) : LaneK := { k with streams := k.streams.set f.key ⟨f.runId, f.seq, f.tick⟩ }

/-- A lane's own verdicts on the frozen buffer, in slot order (R181): an accepted frame is the one that the next of its stream follows. -/
def State.frameVerdicts (s : State) (obs : TickObs) (m : Lane) : List (Option DWord) :=
  (((List.range s.buf.rxFrozen.length).zip s.buf.rxFrozen).foldl (fun (acc : LaneK × List (Option DWord)) p =>
    let f := laneFrame (obs.lanes.get m) false p.1 p.2
    let v := s.frameVerdict acc.1 f
    (if v.isSome then acc.1.follow f else acc.1, acc.2 ++ [v])) ((s.lane m).region.k, [])).2

/-- A lane's own copy of a message (R189). -/
def laneMessage (o : LaneObs) (m : ReadMsg) : ReadMsg :=
  match o.msgs.find? (fun c => c.secure == m.secure && c.ch == m.ch) with
  | some c => { m with bytes := c.bytes }
  | none => m

/-- A lane's own verdict on a message of the snapshot (R182): the CRC-64 of its 64 bytes where it is ACC. -/
def State.messageVerdict (s : State) (obs : TickObs) (l : Lane) (m : ReadMsg) : Option DWord :=
  let x := laneMessage (obs.lanes.get l) m
  if x.bytes.length == 64 && msgCheck (s.lane l).region.k (if m.secure then s.chanKey m.ch else none) x == .acc then some (crc64 x.bytes) else none

/-! ### Blocks that the members exchange (R184) -/

/-- A verdict with its digest in nine bytes. -/
def verdictBytes (v : Option DWord) : List Byte := BitVec.ofNat 8 (b2n v.isSome) :: leBytes 8 (v.getD 0).toNat

/-- Payload of a sample block (R184; its layout is the model's, log 107): a byte of sample code and fault kind for each channel, the frame
verdicts and the request verdicts with their digests, the RSTREQ result. -/
def State.blockBody (s : State) (obs : TickObs) (m : Lane) : List Byte :=
  let b := (s.sampleBlock (obs.lanes.get m) m).toList.map (fun x => BitVec.ofNat 8 (8 * Sample.bits x.code + x.kind)) ++
    (s.frameVerdicts obs m ++ s.mail.toRead.map (s.messageVerdict obs m)).flatMap verdictBytes ++
    [BitVec.ofNat 8 (b2n (s.rrq.laneFell.get m))]
  padTo (4 * ((b.length + 3) / 4)) b

/-- The block of lane `m` reaches lane `l` and is valid (R20, R184). -/
def State.blockFrom (s : State) (obs : TickObs) (l m : Lane) : Bool :=
  m == l || ((obs.lanes.get m).clockRuns && !(obs.lanes.get l).noBlockFrom.contains m &&
    (obs.lanes.get l).blocks.all (fun x => x.place != m || s.exOk .samples m 0 (s.blockBody obs m) x.bytes))

/-- The members whose blocks a lane reads. -/
def State.heardBy (s : State) (obs : TickObs) (members : BitVec 3) (l : Lane) : BitVec 3 :=
  maskOf (fun m => m.inMask members && s.blockFrom obs l m)

/-- A member that has no valid block of any other member fails, unless it is the only one (R184). -/
def State.leftAlone (s : State) (obs : TickObs) (members : BitVec 3) (l : Lane) : Bool :=
  l.inMask members && decide (1 < countMask members) && decide (countMask (s.heardBy obs members l) < 2)

/-! ### Agreed values (R183-R187, R255, R279, R289, R297) -/

/-- The values that one lane agrees in P1. `src` is the source whose gap ran in the tick before, and whether it is faulty. -/
structure Agreement where
  codes : Vector (List (Lane × Sample)) 48
  ins : Vector Agreed 48
  echo : Vector EchoAgreed 48
  sup : Vector (Option SupplyClass) 3
  high : Vector Bool 3
  reset : Bool
  src : Option (Chan × Bool)
  heard : BitVec 3
  need : Nat
deriving DecidableEq, Repr

/-- P1 of a lane over the blocks of the members that it reads. -/
def State.agreement (s : State) (obs : TickObs) (members : BitVec 3) (blocks : PerLane (Vector Samp 48))
    (echoes : PerLane (Vector (Option EchoItem) 48)) (l : Lane) : Agreement :=
  let need := needOf members
  let heard := s.heardBy obs members l
  let ms := lanesOf heard
  -- a bank that delivers nothing to a lane delivers it no supply class (R281, R292)
  let on (b : Bank) : List Lane := ms.filter (fun m => !(obs.lanes.get m).noData.contains b)
  let k := (s.lane l).region.k
  let code (c : Chan) (m : Lane) : Samp := if (k.ins[c]).excl.get m then ⟨.missing, 0⟩ else (blocks.get m)[c]
  let n := s.sources.length
  -- a gap that has not run gives no result
  let src : Option Chan := if n = 0 || s.fld.srcGap.isSome then none else s.sources[(s.ms.tick - 1).toNat % n]?
  { codes := Vector.ofFn (fun c => ms.map (fun m => (m, (code c m).code)))
    ins := Vector.ofFn (fun c =>
      if (s.chanOf l c).mode.isIn then reduceInput need (s.chanOf l c).restrActive (ms.map (code c)) else ⟨false, false, false, 0, none⟩)
    echo := Vector.ofFn (fun c => reduceEcho need (ms.filterMap (fun m => (echoes.get m)[c])))
    sup := Vector.ofFn (fun b => agree need ((on b).map (fun m => s.supply (obs.lanes.get m) b)))
    high := Vector.ofFn (fun b => decide (need ≤ ((on b).filter (fun m => (obs.lanes.get m).bankOver[b])).length))
    reset := decide (need ≤ (ms.filter (fun m => s.rrq.laneFell.get m)).length)
    src := src.map (fun c => (c, decide ((ms.filter (fun m => ((s.fld.reps.get m)[c]).srcOk)).length < need)))
    heard := heard
    need := need }

/-- Source faults after the gap of the tick before: two checks passed in a row end one (R289); a source of a bank in UV is
faulty (R279). -/
def LaneK.sources (k : LaneK) (a : Agreement) (srcs : List Chan) : LaneK :=
  let k1 : LaneK := match a.src with
    | some (c, bad) =>
      { k with ins := vmod k.ins c (fun i => { i with srcFault := if bad then 2 else i.srcFault - 1 }) }
    | none => k
  srcs.foldl (fun k c =>
    if a.sup[bankOf c] == some .uv then { k with ins := vmod k.ins c (fun i => { i with srcFault := 2 }) } else k) k1

/-! ### Frames (R181, R188) -/

/-- What a lane takes from frames and messages in P1. -/
structure Reading where
  k : LaneK
  inp : TickIn
  rereads : Nat
  wrong : Bool
  splits : Nat
  rejected : Nat
  dissent : PerLane Nat
  recs : List RecItem
  view : Nat
  units : List (BitVec 12)
  peer : Option Shadow
  copy : List CopyItem
  peerVoting : Option (BitVec 3)
  logs : List (BitVec 12 × List Record)
  anns : List (Fin 8 × Tick × Tick × BitVec 12)
  acks : List (BitVec 12 × Fin 8 × Tick × DWord)
  nacks : List (BitVec 12 × Fin 8 × Tick × BitVec 4)
  opens : List (Fin 8 × BitVec 128)
  closes : List (Fin 8)
  reqSplit : Nat
  bndUnits : List (Fin 16 × BitVec 12)
deriving DecidableEq, Repr

def Reading.start (k : LaneK) : Reading :=
  ⟨k, .empty, 0, false, 0, 0, .all 0, [], 0, [], none, [], none, [], [], [], [], [], [], 0, []⟩

/-- Codes of a frame, by lane of the sender (R267): those that fail in one which otherwise meets the voting rule are its dissents, a
rejected frame counts; the sixteenth in a row with a lane's code wrong raises ALARM 0xC3. -/
def Reading.codes (r : Reading) (f : Frame) : Reading :=
  let bad := f.failed
  let key := f.area.toNat * 4096 + f.src.toNat
  let old := r.k.codeRun.getD key (.all 0)
  let run : PerLane Nat := PerLane.ofFn (fun l =>
    if !l.inMask f.present then old.get l else if bad.contains l then satInc 16 (old.get l) else 0)
  let alarm := lanesList.filter (fun l => run.get l == 16 && old.get l != 16)
  { r with
    k := if run == old then r.k else { r.k with codeRun := r.k.codeRun.set key run }
    rejected := r.rejected + b2n (!f.voted)
    dissent := if f.voted then PerLane.ofFn (fun l => r.dissent.get l + b2n (bad.contains l)) else r.dissent
    recs := r.recs ++ alarm.map (fun l => ⟨.alarm, 0xC3, .node, f.src.toNat, leBytes 2 f.src.toNat ++ [BitVec.ofNat 8 l.num], 0⟩) }

/-- ROUTES items of a shadow (R378). -/
def routeItems (n : Nat) (b : List Byte) : List CopyItem :=
  (List.range n).map (fun i =>
    let o := 4 + 18 * i
    ⟨2, 2 * (natAt b o 2 % 16384), [BitVec.ofNat 64 (natAt b (o + 2) 8), BitVec.ofNat 64 (natAt b (o + 10) 8)]⟩)

/-- A pair stream (R378): STATUS, the shadow, and COPY items. -/
def pairRead (f : Frame) (rs : List Rec) : Option Shadow × List CopyItem :=
  let its := (itemsOf rs 0x0D).map (fun p => p.2)
  let kind (n : Nat) : List (List Byte) := its.filter (fun b => natAt b 0 1 == n)
  let elems : List CopyItem := (itemsOf rs 0x05).map (fun p => ⟨1, p.1, [BitVec.ofNat 64 (natAt p.2 0 8)]⟩)
  let routes := (kind 2).flatMap (fun b => routeItems (natAt b 1 1) b)
  let gone := (kind 3).flatMap (fun b => (List.range (natAt b 1 1)).map (fun i => natAt b (4 + 2 * i) 2))
  let copy : List CopyItem := (kind 4).map (fun b =>
    ⟨BitVec.ofNat 4 (natAt b 1 1), natAt b 4 4, (List.range 7).map (fun i => BitVec.ofNat 64 (natAt b (8 + 8 * i) 8))⟩)
  match its with
  | b :: _ => if natAt b 0 1 = 1 then (some ⟨f.tick, elems ++ routes, gone, pairStatOf b⟩, copy) else (none, copy)
  | [] => (none, copy)

/-- The payload of an accepted STATUS stream (R339, R353). -/
def Reading.status (s : State) (f : Frame) (rs : List Rec) (r : Reading) : Reading :=
  let worker := (s.topo? f.src).map (fun e => e.role) == some NodeRole.worker
  let r1 : Reading := match (itemsOf rs 0x02).find? (fun p => p.1 == f.src.toNat) with
    | some (_, b) =>
      let g : Fin 8 := Fin.ofNat 8 (natAt b 22 1 / 16)
      let n : Tick := BitVec.ofNat 32 (natAt b 4 4)
      { r with
        peerVoting := if f.src == s.peerUnit then some (BitVec.ofNat 3 (natAt b 1 1)) else r.peerVoting
        acks := if natAt b 2 1 = 1 then r.acks ++ [(f.src, g, n, BitVec.ofNat 64 (natAt b 8 8))] else r.acks
        nacks := if natAt b 2 1 = 2 then r.nacks ++ [(f.src, g, n, BitVec.ofNat 4 (natAt b 3 1))] else r.nacks }
    | none => r
  let r2 : Reading := if worker then { r1 with view := r1.view + 1 } else r1
  match (itemsOf rs 0x03).find? (fun p => p.1 == f.src.toNat) with
  | none => r2
  | some (_, b) =>
    let view : OutView := ⟨BitVec.ofNat 48 (natAt b 24 6), BitVec.ofNat 48 (natAt b 12 6)⟩
    let ack := natAt b 30 2 % 64
    let acks := match (allFin 48).find? (fun c => c.val + 1 == ack) with
      | some c => r2.inp.acks ++ [(f.src, c)]
      | none => r2.inp.acks
    { r2 with inp := { r2.inp with
        inputs := r2.inp.inputs.set f.src.toNat (samplesOf b), views := r2.inp.views.set f.src.toNat view, acks := acks } }

/-- Boundary items of a neighbour's frame: those of 0x000 where both its units sent one without STANDBY (R384). -/
def Reading.boundary (s : State) (f : Frame) (rs : List Rec) (r : Reading) : Reading :=
  match s.areaIdx f.area with
  | none => r
  | some a =>
    let r : Reading := if f.standby then r else { r with bndUnits := r.bndUnits ++ [(a, f.src)] }
    if f.standby || (r.inp.bndAreas.contains a && f.src != 0) then r
    else
      let its := (itemsOf rs 0x06).map (fun p => let it := bndItemOf p.2; (it.1.slot.toNat, it.1, it.2))
      let keep := r.inp.bnd.filter (fun x => !(s.area.slots.get? x.1).any (fun c => c.area == a))
      { r with inp := { r.inp with
          bnd := keep ++ its
          bndAreas := if r.inp.bndAreas.contains a then r.inp.bndAreas else r.inp.bndAreas ++ [a] } }

/-- Frames of both units of a pair without STANDBY were accepted in the tick (R384). -/
def Reading.dual (r : Reading) : Bool :=
  decide (2 ≤ r.units.length) || r.bndUnits.any (fun x => r.bndUnits.any (fun y => x.1 == y.1 && x.2 != y.2))

/-- Manager data of two units of the own area in one tick: those of 0x000 are used and those of 0x001 ignored (R363, R384). -/
def Reading.follows (s : State) (r : Reading) : Reading :=
  if r.units.length < 2 then r
  else
    let other (i : FrameItem) : Bool := i.area == s.areaId && i.node != 0 && r.units.contains i.node && i.cls != 0x02 && i.cls != 0x0D
    { r with
      anns := r.anns.filter (fun a => a.2.2.2 == 0)
      inp := { r.inp with cmds := r.inp.cmds.filter (fun c => c.unit == 0), items := r.inp.items.filter (fun i => !other i) } }

/-- A request takes its place in read order, by the step that evaluates it (R76, R118). -/
def TickIn.request (i : TickIn) (c : Byte) (q : Request) : TickIn :=
  if isRouteCode c || c == 0x23 then { i with routeReqs := i.routeReqs ++ [(c, q)] }
  else { i with elemReqs := i.elemReqs ++ [(c, q)] }

/-- Records of the nodes of the own area. -/
def Reading.own (s : State) (f : Frame) (rs : List Rec) (r : Reading) : Reading :=
  let role := (s.topo? f.src).map (fun e => e.role)
  let unit := role == some NodeRole.pairUnit || role == some NodeRole.single
  let r1 := if f.stream = 0 then r.status s f rs else r
  let r2 : Reading := if unit && f.stream != 0 && f.stream != 2 && !f.standby && !r1.units.contains f.src then
      { r1 with units := r1.units ++ [f.src] } else r1
  let cmds : List CmdItem := if unit then
      (itemsOf rs 0x04).filterMap (fun p =>
        let w := natAt p.2 0 8
        if p.1 = s.node.toNat && w / 281474976710656 % 4096 = s.node.toNat then
          some ⟨f.src, f.standby, f.tick, f.valid, BitVec.ofNat 48 w, s.node⟩
        else none)
    else []
  let anns : List (Fin 8 × Tick × Tick × BitVec 12) := if unit && f.stream = 1 && !f.standby then
      ((itemsOf rs 0x01).take 1).filterMap (fun p =>
        if natAt p.2 1 1 = 1 then
          some (Fin.ofNat 8 (natAt p.2 2 1), BitVec.ofNat 32 (natAt p.2 4 4), BitVec.ofNat 32 (natAt p.2 8 4), f.src)
        else none)
    else []
  let reports := if s.area.gateways.contains f.src then (itemsOf rs 0x07).map (fun p => posReportOf f.src p.2) else []
  let reqs := if s.area.requestNodes.contains f.src then
      (itemsOf rs 0x09).map (fun p => requestOf (.frame f.src) f.seq p.2) else []
  let logs := (itemsOf rs 0x0B).filterMap (fun p => recordOf p.2)
  let pair := if f.stream = 2 && f.src == s.peerUnit && s.isPairUnit then pairRead f rs else (none, [])
  let inp : TickIn := { r2.inp with cmds := r2.inp.cmds ++ cmds, reports := r2.inp.reports ++ reports }
  { r2 with
    inp := reqs.foldl (fun i q => i.request q.1 q.2) inp
    anns := r2.anns ++ anns
    logs := if logs.isEmpty then r2.logs else r2.logs ++ [(f.src, logs)]
    peer := pair.1.or r2.peer
    copy := r2.copy ++ pair.2 }

/-- The items of an accepted frame, to which roles may be bound (R74). A standby's frame brings no value (R384). -/
def Frame.roleItems (f : Frame) (rs : List Rec) : List FrameItem :=
  if f.standby then []
  else rs.flatMap (fun r => ((List.range r.items.length).zip r.items).map (fun p => ⟨f.area, f.src, r.cls, r.first + p.1, p.2⟩))

/-- A lane takes an accepted frame (R188, R339, R343). -/
def Reading.take (s : State) (f : Frame) (r : Reading) : Reading :=
  let r0 : Reading := { r with k := r.k.follow f }
  match f.records with
  | none => r0
  | some rs =>
    let r1 : Reading := { r0 with inp := { r0.inp with items := f.roleItems rs ++ r0.inp.items } }
    if !s.addressed f.dst then r0 else if f.area == s.areaId then r1.own s f rs else r1.boundary s f rs

/-- One frame of the frozen buffer, in every lane (R188): accepted where enough members give ACC with equal payload digests. A lane
whose own verdict or digest differs reads its copy once again, which counts. `all_` are the lanes' own verdicts. -/
def State.readFrame (s : State) (obs : TickObs) (members : BitVec 3) (all_ : PerLane (List (Option DWord)))
    (acc : PerLane Reading) (p : Nat × StoredFrame) : PerLane Reading :=
  let copy (m : Lane) : Frame := laneFrame (obs.lanes.get m) false p.1 p.2
  let again (m : Lane) : Frame := laneFrame (obs.lanes.get m) true p.1 p.2
  let verdicts : PerLane (Option DWord) := all_.map (fun vs => (vs[p.1]?).join)
  acc.mapL (fun l r =>
    let heard := (lanesOf (s.heardBy obs members l)).filterMap (fun m => verdicts.get m)
    let r1 := r.codes (copy l)
    match agree (needOf members) heard with
    | some d =>
      if verdicts.get l == some d then r1.take s (copy l)
      else
        let r2 : Reading := { r1 with rereads := r1.rereads + 1 }
        if s.frameVerdict r.k (again l) == some d then r2.take s (again l) else { r2 with wrong := true }
    | none => { r1 with splits := r1.splits + b2n (!heard.isEmpty) })

/-! ### Messages (R182, R189, R413, R414) -/

/-- A lane takes an agreed message: a session record, or a request. DESIGN CHOICE (log 140): bytes that R142 gives as 0 and the message's check
does not cover are not looked at. -/
def Reading.message (m : ReadMsg) (r : Reading) : Reading :=
  let seq : Word := BitVec.ofNat 32 (natAt m.bytes 0 4)
  let kind := natAt m.bytes 4 1
  let seen : Reading := if m.secure && kind != 0x10 then
      { r with k := r.k.setSession m.ch ((r.k.sessions[m.ch]).map (fun x => { x with inSeq := seq })) }
    else r
  if m.secure && kind = 0x10 then { r with opens := r.opens ++ [(m.ch, BitVec.ofNat 128 (natAt m.bytes 8 16))] }
  else if m.secure && kind = 0x11 then { seen with closes := seen.closes ++ [m.ch] }
  else
    let src : Source := if m.secure then .secure m.ch else .nonsecure m.ch
    let q := requestOf src seq (bytesAt m.bytes 4 32)
    { seen with inp := seen.inp.request q.1 q.2 }

/-- How many members must agree on a message (R55, R189): in LOCKOUT one lane that verifies a reset command suffices. -/
def State.msgNeed (s : State) (members : BitVec 3) (m : ReadMsg) : Nat :=
  if s.ms.mode == .lockout && isResetCode (BitVec.ofNat 8 (natAt m.bytes 5 1)) then 1 else needOf members

/-- One message of the snapshot, in every lane (R182, R189): evaluated where enough members give ACC with equal digests of their
64 bytes. -/
def State.readMessage (s : State) (obs : TickObs) (members : BitVec 3) (acc : PerLane Reading) (m : ReadMsg) : PerLane Reading :=
  let copy (l : Lane) : ReadMsg := laneMessage (obs.lanes.get l) m
  let verdicts : PerLane (Option DWord) := PerLane.ofFn (fun l => s.messageVerdict obs l m)
  acc.mapL (fun l r =>
    let heard := lanesOf (s.heardBy obs members l)
    match agree (s.msgNeed members m) (heard.filterMap (fun n => verdicts.get n)) with
    | some d =>
      (match heard.find? (fun n => verdicts.get n == some d) with
       | some n => r.message (copy n)
       | none => { r with reqSplit := r.reqSplit + 1 })
    | none => { r with reqSplit := r.reqSplit + 1 })

/-- Every lane's reading in P1: requests that waited for the tick (R117), messages as they were read in the P5 before, then frames
in slot order (R77). -/
def State.readings (s : State) (obs : TickObs) (members : BitVec 3) : PerLane Reading :=
  let r0 : PerLane Reading := s.lanes.map (fun x =>
    let r := Reading.start x.region.k
    { r with inp := { r.inp with routeReqs := s.mail.later } })
  let r1 := s.mail.toRead.foldl (s.readMessage obs members) r0
  (((List.range s.buf.rxFrozen.length).zip s.buf.rxFrozen).foldl
    (s.readFrame obs members (PerLane.ofFn (fun l => s.frameVerdicts obs l))) r1).map (Reading.follows s)

/-! ### The link engine's own reading (R355) -/

/-- What the header streams received in the present tick carry of it (R339, R353, R355): ANN, gallery, N and the unit. STANDBY frames
and those of nodes that are no manager count nothing. -/
def State.headerAnns (s : State) : List (Nat × Nat × Tick × BitVec 12) :=
  s.buf.rxCur.filterMap (fun x =>
    let f := Frame.ofBytes x.bytes
    let role := (s.topo? f.src).map (fun e => e.role)
    let unit := role == some NodeRole.pairUnit || role == some NodeRole.single
    if f.area != s.areaId || f.stream != 1 || f.standby || !unit || f.tick != s.ms.tick then none
    else
      match f.records with
      | some (⟨0x01, _, b :: _⟩ :: _) => some (natAt b 1 1, natAt b 2 1 % 8, BitVec.ofNat 32 (natAt b 4 4), f.src)
      | _ => none)

/-- The decision on a switch in tick N - 1 (R355): the manager's own, and CANCEL of a unit that has become active since the
announcement, where its header of the tick was sealed; else what the headers carry, GO from the announcer alone and CANCEL from either unit, which wins. A CANCEL after a
refusal of this node or from the other unit shows as 3. -/
def State.switchDecision (s : State) (w : Switch) : BitVec 2 :=
  let its := s.headerAnns.filter (fun a => a.2.1 == w.g.val && a.2.2.1 == w.n)
  let told := s.buf.tx.any (fun t => t.stream == 1 && t.tick == s.ms.tick)
  if told && w.own && w.decision != 0 then w.decision
  else if told && s.ms.role == .active then 3
  else if its.any (fun a => a.1 == 3) then (if w.ack = 2 || its.any (fun a => a.1 == 3 && a.2.2.2 != w.unit) then 3 else 2)
  else if its.any (fun a => a.1 == 2 && a.2.2.2 == w.unit) then 1
  else 0

/-- The link engine follows the decision of tick N - 1 at edge N, which ends that tick (R355). -/
def State.switchEdge (s : State) : State :=
  let n := s.ms.tick + 1
  match s.gal.sw with
  | none =>
    if s.gal.pending.isSome then ({ s with gal := { s.gal with pending := none } } : State).galSilence
    else if s.headerAnns.any (fun a => a.1 == 2 && a.2.2.1 == n) then s.galSilence
    else s
  | some w =>
    if w.n != n then (if s.headerAnns.any (fun a => a.1 == 2 && a.2.2.1 == n) then s.galSilence else s)
    else
      let held := s.gal.pending == some w.g
      let d := s.switchDecision w
      if d = 1 && held then
        { s with gal := { s.gal with
            active := w.g, previous := some s.gal.active, prevTick := n, pending := none, sw := none
            doneCnt := satInc 255 s.gal.doneCnt, lastGal := w.g, lastResult := 1 } }
      else if d = 2 || d = 3 then
        { s with gal := { s.gal with
            pending := none, sw := none, cancelCnt := satInc 255 s.gal.cancelCnt, lastGal := w.g, lastResult := d } }
      else if d = 1 || held then ({ s with gal := { s.gal with pending := none, sw := none } } : State).galSilence
      else { s with gal := { s.gal with sw := none } }

/-- GALLERY_SWITCH_EDGE (R355). -/
def execGallerySwitchEdge (s : State) : Host.Outcome State Fault Refusal := .next s.switchEdge

end Sys2Proof.Machine
end

