-- ==== Sys2Proof/Machine/Seal.lean ====
section
/-!
DEFINITION. What the lanes seal in P4 of a tick: the payloads of R167, R338, R339, R353, R369, R378, R380 and R523, with the
safety block and lane codes of R340 and R341, and the decision of a gallery switch (R354).
-/

namespace Sys2Proof.Machine

/-- What one lane has at the end of P2 (R31, R199). `want` are the manager commands of the tick for this node's channels, if there
are any, `ack` the acknowledge input named in the upstream frame. -/
structure LaneOut where
  ev : Ev
  loc : Loc
  agr : Agreement
  rd : Reading
  want : Option (BitVec 48)
  ack : Option Chan
  miss : Option XcMiss
  stopped : Bool
  sram : AMap (BitVec 4)
  cas : AMap DWord
  dissents : List Lane
deriving DecidableEq, Repr

/-- The lane's carried state of the tick. -/
def LaneOut.carried (x : LaneOut) : Carried := { x.ev.c with k := x.loc.k }

/-- The evaluation that the lane's frames of the tick show, with the results that go out in them. -/
def LaneOut.shown (x : LaneOut) : Ev :=
  { x.ev with c := { x.carried with k := { x.loc.k with resOut := x.loc.k.results } } }

/-! ### Records -/

/-- The INPUTS item (R339). -/
def LaneOut.inputs (x : LaneOut) : List Byte :=
  let o := x.loc.k.partO
  inputsItem (chanMask (fun c => (x.agr.ins[c]).value)) (chanMask (fun c => (x.agr.ins[c]).fault))
    (chanMask (fun c => (x.loc.k.outs[c]).openLoad)) o[2] (if (o[3]).getLsbD 0 then 0 else o[0])
    (match x.ack with
     | some c => c.val + 1
     | none => 0)

/-! ### The log's reserve (R339, R522, R523) -/

/-- Records that leave the log for the upstream payload: at most `n`, ALARM alone where `only` is set. -/
def State.takeLogs (s : State) (n : Nat) (only : Bool) : List Record × State :=
  match n with
  | 0 => ([], s)
  | k + 1 =>
    match s.exportOne with
    | none => ([], s)
    | some (r, s1) =>
      if only && r.cls != .alarm then ([], s)
      else
        let rest := s1.takeLogs k only
        (r :: rest.1, rest.2)

/-- The LOG records of a worker's upstream payload; `used` bytes precede them. Records that LOG_EXPORT has already taken go
first. In LOCKOUT alarms alone go (R47). -/
def State.logReserve (s : State) (used : Nat) : List Record × State :=
  let len := (s.plannedLen 0).getD 0
  let goes (r : Record) : Bool := r.cls == .alarm || s.ms.mode != .lockout
  let own := s.log.sealed.filter goes
  let fit := max 256 (len * 4 / 100)
  let inReserve := (fit - 4) / 32 - own.length
  let free := ((len - used) - 4) / 32 - (fit - 4) / 32
  let alarms := s.log.recs.any (fun r => r.cls == .alarm) || s.ms.mode == .lockout
  let a := s.takeLogs inReserve alarms
  let b := a.2.takeLogs free (s.ms.mode == .lockout)
  (own ++ a.1 ++ b.1, { b.2 with log := { b.2.log with sealed := b.2.log.sealed.filter (fun r => !goes r) } })

/-! ### Frames (R336, R339-R341) -/

/-- A lane's payload of a stream. -/
def State.payload (s : State) (x : LaneOut) (logs : List Record) (k : StreamKind) : List Byte :=
  (s.managerPayload x.shown k).getD
    (let status := recBytes 0x02 s.node.toNat [s.statusItem x.loc.k.partO[1]]
     if s.ms.role != .worker || s.aon.latch then status ++ packZero 0x0B logs.length (logs.map recordBytes)
     else status ++ recBytes 0x03 s.node.toNat [x.inputs] ++ packZero 0x0B logs.length (logs.map recordBytes))

/-- A worker's ring takes a copy of a record sealed upstream, if it can (R525). -/
def State.ringCopy (s : State) (r : Record) : State :=
  if s.log.en && !s.log.full && s.pwr.busMaster then s.ringPut r else s

/-- A lane's sealed copy waits at its commit gate as a transmit descriptor (R225). -/
def State.holdCopy (s : State) (l : Lane) (stream : BitVec 12) (x : Sealed) : State :=
  s.modLaneSt l (fun y => { y with held := y.held ++ [.descriptor stream s.ms.tick x] })

/-- What the pair frame of the tick takes from the module: the state that its shadow starts from, the vehicles removed since the last one, the
place of the copy (R378, R380). `removed` are those of the tick's evaluation. -/
def PairSt.forFrame (p : PairSt) (removed : List Nat) : PairSt :=
  { p with shadowER := p.sealedER.or p.prevER, removedOut := p.removed ++ removed, removed := [], servedPos := p.servedNext }

/-- P4 of the lanes in `who`: every own stream sealed over each lane's own payload. The copies wait at the lanes' commit gates. -/
def State.sealAll (s : State) (who : BitVec 3) (outs : PerLane LaneOut) : State :=
  if who = 0 then s
  else
    let logs : List Record × State := if s.ms.role == .worker then s.logReserve 68 else ([], s)
    let s1 : State := { logs.2 with pair := logs.2.pair.forFrame (outs.get s.lead).ev.removed }
    let one (s : State) (c : StreamCfg) : State :=
      if !s1.seals c.kind then s
      else
        let seq := s1.nextSeq c.stream
        let copy (l : Lane) : Sealed :=
          s1.sealFrame c seq l (padPayload (s1.plannedLen c.stream) (s1.payload (outs.get l) logs.1 c.kind))
        (lanesOf who).foldl (fun s l => s.holdCopy l c.stream (copy l))
          { s with buf := { s.buf with txSeq := s.buf.txSeq.set c.stream.toNat seq } }
    let s2 := s1.part.streams.foldl one s1
    let s3 := (logs.1.foldl State.ringCopy s2).modRunK (fun k => { k with results := [], resOut := k.results })
    { s3 with
      gal := { s3.gal with nackSealed := s3.gal.nackOut.isSome }
      pair := { s3.pairSealed with
        servedNext := if s3.pair.served.isSome then s3.pair.servedPos + s3.copyCount else 0 } }

/-! ### The decision of a switch (R354) -/

/-- The decision of the active manager in tick N - 1 (R354): CANCEL of a unit that has become active since the announcement (R355), which has
no request to answer; GO of the announcer if every node with an entry in g acknowledged it with the expected DIGEST
and none refused; EVENT 0x04, the notice to the requester, and for a CANCEL ALARM 0xDC. The header of the tick carries it. -/
def State.decideSwitch (s : State) : State :=
  match s.gal.sw with
  | none => s
  | some w =>
    if w.decision != 0 || w.n != s.ms.tick + 1 || s.ms.role != .active then s
    else
      let acked (n : BitVec 12) : Bool := w.acks.any (fun a => a.1 == n && some a.2 == s.expectedDigest n w.g)
      let missing := (s.galleryNodes w.g).filter (fun n => !acked n || w.nacks.any (fun x => x.1 == n))
      let go := w.own && missing.isEmpty && w.nacks.isEmpty
      let lowest := (missing ++ w.nacks.map (fun x => x.1)).foldl (fun (m : Option (BitVec 12)) n => match m with
        | none => some n
        | some k => if n.toNat < k.toNat then some n else some k) none
      let cnt := missing.length
      let d : BitVec 2 := if go then 1 else if w.own && w.nacks.isEmpty then 2 else 3
      let gal : Gal := { s.gal with
        sw := some { w with decision := d }
        lastGal := w.g
        lastResult := d
        missCnt := min 65535 cnt
        nackReason := (w.nacks.head?.map (fun x => x.2)).getD 0
        firstMiss := lowest.getD 0 }
      let s1 : State := { s with gal := gal }
      let code : Byte := if go then 0x00 else 0x68
      let s2 := s1.raise .event 0x04 .node s.node.toNat ([BitVec.ofNat 8 w.g.val, code] ++ leBytes 2 cnt)
      let s3 := (if go then s2 else s2.alarmNode 0xDC (leBytes 2 cnt)).reseal
      match w.src with
      | none => s3
      | some q => s3.posts [⟨q.src, resultBytes 0x82 0x40 q.tag q.target code 0 s.ms.tick q.seq, q.seq⟩]

/-- GALLERY_SWITCH_DECISION (R354). -/
def execGallerySwitchDecision (s : State) : Host.Outcome State Fault Refusal := .next s.decideSwitch

end Sys2Proof.Machine
end

