-- ==== Sys2Proof/Machine/Phases.lean ====
section
/-!
DEFINITION. Phases P1 to P3 of a tick in one lane and in the module (R29-R32, R76, R183-R215, R217, R255-R257, R363): what a lane
computes, with which cause it fails, and which lanes vote.
-/

namespace Sys2Proof.Machine

/-! ### P1: a lane's own node -/

/-- Dissent of every input channel over the exchanged codes (R187). -/
def Loc.dissents (x : Loc) (cfg : Vector ChanCfg 48) (agr : Agreement) : Loc × List Lane :=
  (allFin 48).foldl (fun (acc : Loc × List Lane) c =>
    if cfg[c].mode.isIn then
      let d := acc.1.dissent c agr.ins[c] agr.codes[c]
      (d.1, acc.2 ++ d.2)
    else acc) (x, [])


/-- The held command of tick `n`: a HOLD channel whose valid command differs from that of the tick before starts its motion window
(R363, R455). -/
def LaneK.holdAt (k : LaneK) (cfg : Vector ChanCfg 48) (n : Tick) (h : Option HeldCmd) : LaneK :=
  let old := (k.command (n - 1)).getD 0
  let k1 : LaneK := { k with held := h }
  let new := (k1.command n).getD 0
  { k1 with heldChange := vmapIdx k.heldChange (fun i c => match cfg[i].motion with
      | .hold _ => if old.getLsbD i.val != new.getLsbD i.val then some n else c
      | _ => c) }

/-- The agreed samples of the own node, its output view and its acknowledge pulse join the frames' (R73, R95, R188). -/
def TickIn.ownNode (i : TickIn) (node : BitVec 12) (agr : Agreement) (k : LaneK) (ack : Option Chan) : TickIn :=
  let applied : BitVec 48 := if (k.partO[3]).getLsbD 0 then 0 else k.partO[0]
  { i with
    inputs := i.inputs.set node.toNat (agr.ins.map Agreed.sample)
    views := i.views.set node.toNat ⟨applied, chanMask (fun c => (k.outs[c]).openLoad)⟩
    acks := match ack with
      | some c => i.acks ++ [(node, c)]
      | none => i.acks }

/-! ### Casman (R195, R197) -/

/-- A timer of `w` bits as the timer unit offers it: decremented, with the expiry flag above it. -/
def timerWord (w t : Nat) : DWord := BitVec.ofNat 64 ((t - 1) + (if t = 1 then 2 ^ w else 0))

/-- Channels of a node whose agreed sample is `c`. -/
def sampleMask (i : TickIn) (node : BitVec 12) (c : Sample) : BitVec 48 :=
  match i.inputs.get? node.toNat with
  | some v => chanMask (fun k => v[k] == c)
  | none => 0

/-- Two-bit code of a land class (R277). -/
def pinCode (p : Option PinClass) : BitVec 2 :=
  match p with
  | some .low => 0
  | some .mid => 1
  | some .high => 2
  | none => 3

/-- Two-bit code of a current class (R295, R300): 0 OPEN, 1 NORMAL, 2 OVER, 3 TRIP; a split item leaves the class before. -/
def curCode (old : BitVec 2) (c : Option CurClass) : BitVec 2 :=
  match c with
  | some .opn => 0
  | some .normal => 1
  | some .over => 2
  | some .trip => 3
  | none => old

def supCode (c : Option SupplyClass) : BitVec 2 :=
  match c with
  | some .uv => 0
  | some .ok => 1
  | some .ov => 2
  | none => 3

/-- What a run of the engine is given beside parts E and R (R193, R195): the evaluation before step 1, which holds the agreed input
vector and the committed region, the agreed values of the own node, part K after P1 with the sequence numbers accepted in it, the valid
manager command, and the conditions of the module. -/
structure CasEnv where
  ev : Ev
  agr : Agreement
  k : LaneK
  sources : List Nat
  cmd : Option (BitVec 48)
  conditions : DWord

/-- Word of bytes, eight to a word. -/
def wordAt (bs : List Byte) (w : Nat) : DWord := BitVec.ofNat 64 (natAt bs (8 * w) 8)

/-- An Echo item in a word: classes, gate drives, and which of them are split. -/
def echoWord (e : EchoAgreed) : DWord :=
  fields64 [(12, b2n e.cur.isNone), (8, (curCode 0 e.cur).toNat), (6, b2n (e.gdL == some true)), (5, b2n e.gdL.isNone),
    (4, b2n (e.gdH == some true)), (7, b2n e.gdH.isNone), (2, (pinCode e.l).toNat), (0, (pinCode e.h).toNat)]

/-- The results that a running pulse has so far (R261): kind, and two bits for each lane, the upper one set where it has one. -/
def PulsePend.word (p : PulsePend) : Nat :=
  let r (x : Option Bool) : Nat := x.elim 0 (fun b => 2 + b2n b)
  r p.res.a + 4 * r p.res.b + 16 * r p.res.c + 64 * (match p.kind with
    | .darkHigh => 1
    | .darkLow => 2
    | .lowSide => 3)

/-- A word of the spaces that Poriq lays out (R195). -/
def NibbleSrc.word (x : CasEnv) (n : NibbleSrc) : DWord :=
  let i := x.ev.inp
  let old := x.ev.c
  match n with
  | .active node => (sampleMask i node .active).setWidth 64
  | .faults node => (sampleMask i node .fault).setWidth 64
  | .splits node => (sampleMask i node .missing).setWidth 64
  | .applied node => ((i.views.get? node.toNat).elim (0 : BitVec 48) (fun v => v.applied)).setWidth 64
  | .openLoad node => ((i.views.get? node.toNat).elim (0 : BitVec 48) (fun v => v.openLoad)).setWidth 64
  | .acks node => (chanMask (fun c => i.acks.contains (node, c))).setWidth 64
  | .role r => BitVec.ofNat 64 (Sample.bits (x.ev.roleSample r))
  | .command => match x.cmd with
    | some m => fields64 [(48, 1), (0, m.toNat)]
    | none => 0
  | .echo ch => echoWord x.agr.echo[ch]
  | .supply => fields64 ((allFin 3).map (fun b => (4 * b.val, (supCode x.agr.sup[b]).toNat)))
  | .bndWord slot => ((i.bnd.find? (fun p => p.1 == slot)).map (fun p => p.2.1.word)).getD 0
  | .bndInfo slot => match i.bnd.find? (fun p => p.1 == slot) with
    | some (_, it, op) => fields64 [(40, 1), (24, it.route.toNat), (16, it.reason.toNat), (8, it.reqVal.toNat), (0, op.toNat)]
    | none => 0
  | .request k w => ((i.routeReqs ++ i.elemReqs)[k]?).elim 0 (fun q => wordAt (requestBytes q.1 q.2) w)
  | .report k w => (i.reports[k]?).elim 0 (fun r => wordAt (posReportBytes r) w)
  | .laneWord k => ((old.k.words x.sources)[k]?).getD 0
  | .members ch => fields64 ((x.agr.codes[ch]).map (fun p => (4 * p.1.idx, 4 + Sample.bits p.2)))
  | .sources => fields64 [(56, b2n ((x.agr.src).any (fun p => p.2))), (48, (x.agr.src).elim 0 (fun p => p.1.val + 1)),
      (0, bitsNat (old.k.ins.toList.map (fun i => decide (0 < i.srcFault))))]
  | .overload => BitVec.ofNat 64 (bitsNat x.agr.high.toList)
  | .pulses ch => fields64 ((((List.range 4).map (fun j => 16 * j)).zip (old.k.outs[ch]).pend).map (fun p => (p.1, p.2.word)))
  | .seq stream => ((x.k.seqWords stream)[0]?).getD 0
  | .rstreq => x.k.track
  | .conditions => x.conditions
  | .tick => x.ev.tick.setWidth 64
  | .timer e => timerWord 16 (old.elems.getD e .zero).timer
  | .routeTimer r => timerWord 24 (old.routes.getD r .idle).timer
  | .const w => w

/-- What one run of the engine reads. -/
def casInput (a : AreaCfg) (part : NodePart) (x : CasEnv) : CasIn where
  elemWord id := match a.elems.get? id with
    | some cfg => (x.ev.c.elems.getD id .zero).word cfg
    | none => 0
  routeWord w := match x.ev.c.routes.get? (w / 2) with
    | some r => if w % 2 = 0 then r.words.1 else r.words.2
    | none => 0
  input j := (part.inputSpace[j]?).elim 0 (fun n => n.word x)
  timer j := (part.timerSpace[j]?).elim 0 (fun n => n.word x)

/-! ### P2 of one lane -/

/-- The agreed supply of a bank with a channel in use is OV (R280). -/
def State.overSupply (s : State) (agr : Agreement) : List Bank :=
  (allFin 3).filter (fun b => s.bankUsed b && (agr.sup[b] == some .ov || (agr.sup[b]).isNone))

/-- Evaluation of a lane over its input vector (R31, R76): steps 1 to 7 on a manager unit; a worker answers the requests sent to
it. -/
def State.laneSteps (s : State) (v : Ev) : Ev :=
  if s.manages then v.steps
  else
    let v1 := v.each v.inp.routeReqs (fun v r => v.request r.1 r.2)
    v1.each v1.inp.elemReqs (fun v r => v.request r.1 r.2)

/-- Step 8 (R76). -/
def State.laneEval (s : State) (v : Ev) : Ev := if s.manages then v.authorities else v

/-- A module-level fault that the field side or a supply shows in a tick (R271, R280). -/
def State.sideFault (s : State) (obs : TickObs) (agr : Agreement) : Bool :=
  !obs.voterTrans.isEmpty || !obs.badTokens.isEmpty || !(s.overSupply agr).isEmpty

/-- The module's own conditions as the engine reads them: output hold, a module-level fault of the tick, the lockout latch, the
mode. -/
def State.casConditions (s : State) (obs : TickObs) (agr : Agreement) : DWord :=
  fields64 [(4, s.ms.mode.code.toNat), (2, b2n s.aon.latch), (1, b2n (s.sideFault obs agr)), (0, b2n s.ms.outHold)]

/-- A run of the engine over a lane's tick (R193, R197): its terms, and on a manager the walk unit after them. `st` is the lane's
evaluation before step 8. -/
def State.casTick (s : State) (l : Lane) (x : CasEnv) (st : Ev) : CasOut :=
  let y := s.lane l
  let p := s.partOf l
  let o := casRun (casInput x.ev.area p x) y.sram ⟨[], y.cas, false⟩ 0 p.terms
  if s.manages then { o with region := casWalk st o.region } else o

/-- The manager's command for the node's own channels: an active unit's, or a synchronized standby's own evaluation; a worker's is
the valid command of the hold (R24, R363). -/
def State.ownCommand (s : State) (v : Ev) (k : LaneK) : Option (BitVec 48) :=
  if s.ms.role == .worker then k.command s.ms.tick
  else if s.ms.role == .active || (s.ms.role == .standby && s.pair.sync == 1) then some (v.commandsFor s.node)
  else none

/-- Reset-request tracking as part K shows it (R54, R198): the agreed result of the tick, the level of RSTREQ, the tick of its rise. -/
def Rrq.track (r : Rrq) (agreed : Bool) : DWord :=
  fields64 [(33, b2n agreed), (32, b2n r.high), (0, if r.high then r.riseTick.toNat else 0)]

/-- P2 of lane `l` over what it agreed and read in P1. -/
def State.laneTick (s : State) (obs : TickObs) (l : Lane) (agr : Agreement) (rd : Reading) : LaneOut :=
  let part := s.partOf l
  let cfg := part.chans
  let n := s.ms.tick
  let old := (s.lane l).region
  let d := (Loc.start { rd.k.sources agr s.sources with track := s.rrq.track agr.reset }).dissents cfg agr
  let k0 := d.1.k
  let ack := k0.ackPend.head?
  let k1 : LaneK := { k0 with ackPend := k0.ackPend.drop 1 }
  let k2 := if s.ms.role == .worker then
      { k1.holdAt cfg n (bestCmd k1.held (rd.inp.cmds.filter s.cmdFits)) with heldBase := k1.held }
    else k1
  let inp := rd.inp.ownNode s.node agr k2 ack
  let v0 : Ev := { s.evOf l inp with c := { old with k := k2 } }
  let st := s.laneSteps v0
  let ev := s.laneEval st
  let want := s.ownCommand ev ev.c.k
  let k3 := if s.ms.role == .worker then ev.c.k
    else ev.c.k.holdAt cfg n (want.map (fun m => ⟨n - 1, 1, m, s.node⟩))
  let x1 := ({ d.1 with k := k3 } : Loc).findings cfg s.ms.tUs n agr.need agr.heard (fun c => agr.echo[c]) (fun b => agr.high[b]) agr.ins
  let r := x1.reflexes part.reflexTable agr.ins want
  let lockReq := !r.1.vflt.isEmpty || s.sideFault obs agr
  let x2 := r.1.partO cfg n (want.getD 0) r.2 s.ms.outHold lockReq
  let cmd := if s.ms.role == .worker then k2.command n else none
  let cas := s.casTick l ⟨{ v0 with c := old }, agr, k2, part.sources, cmd, s.casConditions obs agr⟩ st
  let miss := casMiss v0.area part s.manages { ev.c with k := x2.k } cas.region
  { ev := ev, loc := x2, agr := agr, rd := rd, want := want, ack := ack, miss := ((obs.lanes.get l).xcMiss).or miss
    stopped := cas.stopped, sram := casSram (s.lane l).sram cas, cas := cas.region, dissents := d.2 }

/-! ### Failed ticks (R32, R201, R217) -/

/-- Lane memory that a lane reads in the tick has an uncorrectable error (R235). -/
def eccFaulty (x : LaneObs) : Bool := x.reads.any (fun r => EccRead.outcome r == .uncorrectable)

/-- Cause with which a lane fails the tick before any vote is counted, in the order of R217: 0x3 for an uncorrectable error of its
memory, which is a lane-check fault (R226, R235). A lane whose clock stands still publishes nothing. -/
def State.failCause (s : State) (obs : TickObs) (members : BitVec 3) (l : Lane) (o : LaneOut) : Option (BitVec 4) :=
  let x := obs.lanes.get l
  if !x.clockRuns then some 1
  else if eccFaulty x then some 3
  else if 1000 < absI x.intervalDevPpm then some 4
  else if s.leftAlone obs members l then some 5
  else if o.rd.wrong then some 8
  else if o.miss.isSome || o.stopped then some 2
  else none

/-- P4 of a lane is not complete at D (R32). -/
def State.lateP4 (s : State) (obs : TickObs) (l : Lane) : Bool := decide (s.ms.tUs.toNat < (obs.lanes.get l).t4Us + 50)

/-- What a digest message compares (R200, R202): vector map, the six part digests, and a corruption that the lane's two
technologies share (R203). -/
structure Sig where
  vmap : Option Word
  digests : List DWord
  flip : Option VecFlip
deriving DecidableEq, Repr

def State.sig (s : State) (obs : TickObs) (l : Lane) (o : LaneOut) : Sig :=
  { vmap := s.vmapOf l
    digests := partDigests o.ev.area (s.partOf l) s.manages s.ms.tick o.carried
    flip := (obs.lanes.get l).vecFlip }

/-- A lane that publishes a digest message if nothing fails it (R201, R209). -/
def State.mayVote (s : State) (l : Lane) : Bool :=
  (s.lane l).svc == .inService || ((s.lane l).svc == .resync && (s.lane l).regionOk)

/-- Payload of a digest message: the vector map identifier and the six part digests (R201). -/
def Sig.body (x : Sig) : List Byte := leBytes 4 (x.vmap.getD 0).toNat ++ x.digests.flatMap (fun w => leBytes 8 w.toNat)

/-- Outcome of P3 (R42, R201-R203): the lanes that vote in agreement, the cause of each running lane that does not, the lanes that
sent a digest message, those whose tick has failed, and whether two lanes sent digest messages none of which has a match. -/
structure Verdict where
  votes : BitVec 3
  cause : PerLane (BitVec 4)
  sound : BitVec 3
  failed : BitVec 3
  split : Bool
deriving DecidableEq, Repr

def State.verdict (s : State) (obs : TickObs) (members : BitVec 3) (outs : PerLane LaneOut) : Verdict :=
  let fails := outs.mapL (fun l o => s.failCause obs members l o)
  let sound := maskOf (fun l => s.mayVote l && (fails.get l).isNone)
  let sigs := outs.mapL (fun l o => s.sig obs l o)
  let hears (l m : Lane) : Bool := m != l && m.inMask sound && !(obs.lanes.get l).noDigestFrom.contains m &&
    (obs.lanes.get l).digests.all (fun x => x.place != m || s.exOk .digests m 0 (sigs.get m).body x.bytes)
  -- a failure notice that no other lane accepts is missing (R201, R217, R393)
  let notice (l : Lane) (f : BitVec 4) : BitVec 4 :=
    let others := lanesList.filter (fun m => m != l && (s.lane m).svc.running)
    let reaches (m : Lane) : Bool := !(obs.lanes.get m).noDigestFrom.contains l &&
      (obs.lanes.get m).digests.all (fun x => x.place != l || s.exOk .notice l 0 (noticeBody f) x.bytes)
    if others.isEmpty || others.any reaches then f else 1
  let matched := maskOf (fun l => l.inMask sound && lanesList.any (fun m => hears l m && sigs.get m == sigs.get l))
  -- a lane that is late in P4 has published its digests in P3
  let votes := maskOf (fun l => l.inMask matched && !s.lateP4 obs l)
  let outvoted (l : Lane) : Bool :=
    let others := lanesList.filter (fun m => hears l m)
    others.length == 2 && others.all (fun m => others.all (fun n => sigs.get m == sigs.get n))
  { votes := votes
    sound := sound
    split := decide (countMask sound = 2) && matched == 0
    failed := maskOf (fun l => (fails.get l).isSome || s.lateP4 obs l)
    cause := fails.mapL (fun l f => (f.map (notice l)).getD (if l.inMask votes then 0 else if l.inMask matched then 1 else if outvoted l then 6 else 7)) }

/-! ### P3 of the module -/

/-- A running lane that does not vote is OUT (R206); a recipient that does not vote requests a new copy (R209). -/
def State.leaves (s : State) (l : Lane) (cause : BitVec 4) : State :=
  let s1 := s.modLaneSt l (fun x => { x with failedTick := true, voted := false })
  match (s.lane l).svc with
  | .inService => s1.exitLane l cause
  | .resync => s1.modLaneSt l (fun x => { x with svc := .out, regionOk := false, copyReq := true, donor := none })
  | _ => s1

/-- A lane that votes is IN (R205, R209); EVENT 0x07 with the donor where it returns by copy (R514). -/
def State.voted (s : State) (l : Lane) : State :=
  let s1 := s.modLaneSt l (fun x =>
    { x with svc := .inService, failedTick := false, voted := true, donor := none, copyReq := false })
  match (s.lane l).svc, (s.lane l).donor with
  | .resync, some d => s1.logPut (s1.record .event 0x07 .die l.num (BitVec.ofNat 2 l.num) [BitVec.ofNat 8 d.num])
  | _, _ => s1

/-- Running lanes whose clock runs: they are able to request the lockout latch (R45). -/
def State.able (s : State) (obs : TickObs) : BitVec 3 := maskOf (fun l => (s.lane l).svc.running && (obs.lanes.get l).clockRuns)

/-- The mode of the tick (R18, R42, R43, R45): cause 0x02 where the two lanes of RUN-2 disagree (`split`). The first tick out of JOIN takes
its mode at once. `able` are the lanes that can
request the latch; without one the hub counts ticks without two agreeing digests. -/
def State.tickMode (s : State) (able : BitVec 3) (split : Bool) : State :=
  if 2 ≤ countMask s.ms.voting && s.ms.mode != .lockout then
    ({ s with ms := { s.ms with hubNoAgree := 0 } } : State).modeByVote 1
  else if s.aon.latch then s.setMode .lockout
  else if able != 0 then (s.setLatch (if s.ms.mode == .run2 && split then 0x02 else 0x01)).setMode .lockout
  else
    let n := s.ms.hubNoAgree + 1
    let s1 := ({ s with ms := { s.ms with hubNoAgree := n } } : State).setMode .lockout
    if 3 ≤ n then s1.setLatch 0x07 else s1

/-- P3 (R42, R201-R206, R217). -/
def State.vote (s : State) (obs : TickObs) (v : Verdict) : State :=
  let run := lanesOf s.running
  let able := s.able obs
  let s1 : State := { s with ms := { s.ms with voting := v.votes } }
  let s2 := (run.filter (fun l => !l.inMask v.votes)).foldl (fun s l => s.leaves l (v.cause.get l)) s1
  let s3 := (lanesOf v.votes).foldl State.voted s2
  s3.tickMode able v.split

/-! ### Module-level faults of the tick (R44, R251, R271, R280) -/

/-- A field die reported a transition that the majority did not decide (R251, R271): voter fault kind 0x4. -/
def State.transFaults (s : State) (ts : List (Chan × Side)) : State :=
  let s1 := ts.foldl (fun s p => s.alarmChan 0xC4 p.1 [4]) s
  s1.voterFaults (ts.map (fun p => (p.1, 4))) s1.acting

/-- A field die accepted a token whose CHK did not verify (R271): voter fault kind 0x3. -/
def State.tokenFaults (s : State) (cs : List Chan) : State :=
  let s1 := cs.foldl (fun s c => s.alarmChan 0xC4 c [3]) s
  s1.voterFaults (cs.map (fun c => (c, 3))) s1.acting

/-- An agreed OV of a bank in use is recorded and is a module-level fault (R280). -/
def State.supplyFault (s : State) (bs : List Bank) : State :=
  if bs.isEmpty then s
  else
    let s1 : State := { s with fld := { s.fld with banks := vmapIdx s.fld.banks (fun b r =>
      if bs.contains b then { r with supplyFlt := true } else r) } }
    s1.moduleFault 0x04 s1.acting

/-- Faults that the lead lane's findings bring to the hub. -/
def State.tickFaults (s : State) (obs : TickObs) (o : LaneOut) : State :=
  (((s.voterFaults o.loc.vflt s.acting).transFaults obs.voterTrans).tokenFaults obs.badTokens).supplyFault (s.overSupply o.agr)

/-! ### A gallery switch in the frames read (R353, R354) -/

/-- Announcements are answered; acknowledgements of the pending switch are taken on a manager unit from tick a + 2 to N - 1. -/
def State.galleryTick (s : State) (r : Reading) : State :=
  let s1 := r.anns.foldl (fun s a => if a.2.2.2 == s.node then s else s.announced a.1 a.2.1 a.2.2.1 a.2.2.2) s
  match s1.gal.sw with
  | none => s1
  | some w =>
    if !s1.manages || !tickGe s1.ms.tick (w.a + 2) || !tickGt w.n s1.ms.tick then s1
    else
      let fits (g : Fin 8) (n : Tick) : Bool := g == w.g && n == w.n
      let acks := (r.acks.filter (fun a => fits a.2.1 a.2.2.1 && !w.acks.contains (a.1, a.2.2.2))).map (fun a => (a.1, a.2.2.2))
      let nacks := (r.nacks.filter (fun a => fits a.2.1 a.2.2.1 && !w.nacks.any (fun b => b.1 == a.1))).map (fun a => (a.1, a.2.2.2))
      { s1 with gal := { s1.gal with sw := some { w with acks := w.acks ++ acks, nacks := w.nacks ++ nacks } } }

end Sys2Proof.Machine
end

