-- ==== Sys2Proof/Machine/Tick.lean ====
section
/-!
DEFINITION. A tick of the module (R27-R39, R42, R191): its edge, the phases P0 to P5 of every lane, and what the hub does with
them. Rows of their own hold what comes to the module within a tick (messages, frames, expiries, pulses).
-/

namespace Sys2Proof.Machine

/-! ### The edge (R28, R38, R313, R316, R322, R536) -/

/-- Ticks may run: the module has power and an image, and is past its start-up proof (R41, R466, R479). -/
def State.clocked (s : State) : Bool :=
  s.pwr.phase == .normal && !s.ms.porHeld && s.ms.tUs != 0 && s.ms.mode != .boot && s.ms.mode != .prove

/-- The module has edges of its area: after JOIN, and in JOIN once the tick base is known (R28, R330). -/
def State.aligned (s : State) : Bool :=
  s.ms.mode != .join || s.net.state == .integrate || s.net.state == .sync || s.net.state == .silent

/-- The time counter at the next edge: the next whole multiple of T from the tick base (R28). -/
def State.nextEdge (s : State) : Nat :=
  let t := 1000 * s.ms.tUs.toNat
  let now := s.nowNs
  let base := s.tim.tbase.toNat
  if now < base then base else base + t * ((now - base) / t + 1)

def State.toEdge (s : State) : State := { s with aon := { s.aon with timeNs := BitVec.ofNat 64 s.nextEdge } }

/-- The ports and the follower's time at an edge (R316, R322, R331, R332): a SILENT node that was in lock at the last 8 edges sends
again from this one, unless the gallery that the cycle-start frames name is not VALID here (R356). -/
def State.edgeNet (s : State) : State :=
  let back := s.net.state == .silent && s.net.cycleThisTick && decide (8 ≤ s.net.lockRun) && s.gal.silentEdges == 0
  let follows := !s.net.isRef && (s.net.state == .sync || s.net.state == .silent || s.net.state == .integrate)
  let miss := follows && !s.net.cycleHeard
  { s with
    net := { s.net with
      state := if back then .sync else s.net.state
      silent := s.net.silent && !back
      ports := s.net.ports.map (fun p => { p with edgeRun := if p.edgeTick then p.edgeRun else 0, edgeTick := false })
      missEdges := if miss then satInc 1024 s.net.missEdges else s.net.missEdges
      lockRun := if follows && !s.net.cycleThisTick then 0 else s.net.lockRun
      cycleThisTick := false, cycleHeard := false, heldCopy := none, blockedTick := 0, fwdLate := 0, sent := [] }
    gal := if back then { s.gal with silent := false } else s.gal
    tim := if miss then { s.tim with holdover := true, locked := false } else s.tim }

/-- The network buffers change roles (R38, R39, R345): the receive buffer of the tick before is frozen, and frames sealed before it
are sent no more. -/
def State.edgeBuf (s : State) : State :=
  { s with buf := { s.buf with
      rxFrozen := s.buf.rxCur, rxCur := [], rxSeen := [], bridge := []
      tx := s.buf.tx.filter (fun t => t.tick == s.ms.tick - 1) } }

/-- The mirror lane (R536, R538): the lowest-lettered that voted in the tick that ends, or that runs, none where no lane does. After an
abort the mirrors show its committed state. -/
def State.edgeMirror (s : State) : State :=
  let runs := s.running != 0
  let pick := s.lead
  let num := BitVec.ofNat 2 (if runs then pick.num else 0)
  let change := s.host.aborted || (s.host.mlane != num && s.host.mlane != 0)
  { s with host := { s.host with
      mlane := num, voted := runs && pick.inMask s.ms.voting, aborted := false
      valid := runs && (s.host.valid || s.host.aborted)
      gen := if change then s.host.gen + 1 else s.host.gen } }

/-- What one tick alone counts or holds starts anew (R101, R382, R402, R521, R525). -/
def State.edgeCounts (s : State) : State :=
  { s with
    sh := { s.sh with freezeReq := .all [] }
    host := { s.host with raised := [] }
    gal := if s.gal.nackSealed then { s.gal with nackOut := none, nackSealed := false } else s.gal
    log := { s.log with traceTick := 0, fullEdge := s.log.full, fullRun := if s.log.en && s.log.full then max s.log.fullRun (satInc 1024 s.log.fullRun) else 0 }
    mail := { s.mail with snapDone := false, seenElem := [], seenRoute := [], seenVeh := [], seenSlot := [], seenSwitch := false, movedRoute := [] } }

/-- The result of a reset command that was evaluated in the tick before (R273). -/
def State.resetPost (s : State) (c : Byte) (q : Request) (code : Byte) : Post :=
  ⟨q.src, resultBytes 0x81 c q.tag q.target code 0 (s.ms.tick - 1) q.seq, q.seq⟩

/-- Reset requests agreed in the tick before are applied to the lane state (R56); their results are posted in P5 (R273). -/
def State.edgeClear (s : State) : State × List Post :=
  s.rrq.clearNext.foldl (fun (acc : State × List Post) e =>
    let r := acc.1.clearConds e.1 e.2.1
    let s1 := r.1.countClear e.1 r.2
    match e.2.2 with
    | none => (s1, acc.2)
    | some (c, q) =>
      (s1, acc.2 ++ [s1.resetPost c q (if r.2 then 0x00 else 0x01)]))
    ({ s with rrq := { s.rrq with clearNext := [], ignoredNext := [] } }, s.rrq.ignoredNext.map (fun x => s.resetPost x.1 x.2 0x01))

/-- A copy that has not verified by the edge after it has failed (R207, R209). -/
def State.edgeCopies (s : State) : State :=
  lanesList.foldl (fun s l => if (s.lane l).svc == .resync && !(s.lane l).regionOk then s.copyFailed l else s) s

/-- The lanes' clocks, the field supplies and NVM1 as edge n finds them (R12, R15, R487): a bank whose field-side half loses VFn is off, and its
lane interfaces, replicas and gates start anew. -/
def State.edgeSupply (s : State) (obs : TickObs) : State :=
  let lost (b : Bank) : Bool := s.pwr.vf[b] && !obs.vfOn[b]
  let f := s.fld
  { s with
    lanes := s.lanes.mapL (fun l x => { x with clockOk := (obs.lanes.get l).clockRuns })
    pwr := { s.pwr with vf := obs.vfOn }
    nvm := { s.nvm with ready := obs.flashOk }
    fld := { f with
      ifaces := f.ifaces.map (fun v => vmapIdx v (fun b i => if lost b then .reset else i))
      reps := f.reps.map (fun v => vmapIdx v (fun c r => if lost (bankOf c) then { Replica.reset with since := s.nowNs } else r))
      stages := vmapIdx f.stages (fun c g => if lost (bankOf c) then ⟨false, false, false, false⟩ else g) } }

/-- Test sources of tick n (R287, R291): every running lane drives them, and one of them gaps. -/
def State.tickSources (s : State) : State :=
  let srcs := s.sources
  let wave (l : Lane) : Vector Bool 48 := Vector.ofFn (fun c => (s.lane l).svc.running && srcs.contains c)
  { s with fld := { s.fld with
      srcWave := PerLane.ofFn wave
      srcGap := if srcs.isEmpty then none else srcs[s.ms.tick.toNat % srcs.length]? } }

/-- Edge n. The gallery of a switch is in use from it on, in the cycle-start frame too (R350, R355). -/
def State.edge (s : State) : State × List Post :=
  let s1 := s.edgeCopies.unlockPrevious.switchEdge.toEdge
  let s2 : State := { s1 with ms := { s1.ms with tick := s1.ms.tick + 1 } }
  s2.edgeNet.sendCycle.edgeBuf.edgeMirror.edgeCounts.edgeClear

/-! ### Leaving JOIN (R43, R51, R57, R240, R360) -/

/-- The module is joined and aligned, and its identity is confirmed. -/
def State.joined (s : State) : Bool := s.net.state == .sync && s.pair.idOk && !s.ms.joinIdWait

/-- The role of the topology entry (R360); a pair unit starts as a standby, and in LOCKOUT claims OUT (R381, R383). -/
def State.takeRole (s : State) : State :=
  match s.roleCfg with
  | some .worker => { s with ms := { s.ms with role := .worker } }
  | some .single => { s with ms := { s.ms with role := .active } }
  | some .pairUnit =>
    { s with
      ms := { s.ms with role := .standby }
      pair := { s.pair with claim := if s.ms.mode == .lockout then 3 else 0 } }
  | none => s

/-- A lane in service has its watchdog armed (R240). -/
def LaneSt.armed (x : LaneSt) : LaneSt := if x.svc == .inService then { x with wdog := x.wdog.arm } else x

/-- The first tick: its members are the lanes in service, and their watchdogs are armed. Neither the output hold nor a request that
began before this tick counts as later (R57). -/
def State.leaveJoin (s : State) : State :=
  let in_ := maskOf (fun l => (s.lane l).svc == .inService)
  let s1 := s.takeRole
  let before := s1.ms.tick - 1
  { s1 with
    ms := { s1.ms with voting := in_, holdTick := before }
    rrq := { s1.rrq with riseTick := if s1.rrq.high then before else s1.rrq.riseTick }
    lanes := s1.lanes.map LaneSt.armed }

/-! ### P1 of the module -/

/-- What the sample of VHOLD and UPD_LOCK_N shows, and whether motion is commanded (R455, R456). `k` holds the command of the
tick. -/
def State.conditions (s : State) (obs : TickObs) (members : BitVec 3) (k : LaneK) : State :=
  let ms := lanesOf members
  let need := needOf members
  let qual := (ms.filter (fun l => s.aon.vqual.get l)).length
  let high := (ms.filter (fun l => !(obs.lanes.get l).updLockLow)).length
  let n := s.ms.tick
  let on := (k.command n).getD 0
  let moving := (allFin 48).any (fun c =>
    match (s.chan c).motion with
    | .drive => on.getLsbD c.val
    | .hold w => (match k.heldChange[c] with
      | some t => decide ((n - t).toNat < w)
      | none => false)
    | .none => false)
  { s with upd := { s.upd with moving := moving, battLow := decide (qual < need), lockPin := decide (high < need) } }

/-- A standby takes its peer's STATUS, shadow and copy in P1 (R379, R380). -/
def State.pairAdopt (s : State) (r : Reading) : State :=
  if !s.isPairUnit || s.ms.mode == .lockout || s.pair.claim != 0 then s
  else
    let s1 : State := match r.peer with
      | some sh =>
        let s1 := s.readPeer sh
        -- only an active unit's tick is adopted
        if s1.pair.sync == 1 && (sh.stat.claim == 1 || sh.stat.claim == 2) then s1.adopt sh else s1
      | none => s
    let s2 := if s1.pair.sync == 3 then s1.takeCopy r.copy else s1
    let c := s2.leadRegion
    { s2 with pair := { s2.pair with prevER := some (c.elems, c.routes) } }

/-- A request that the lanes agree on in P1, by the blocks that a member has, clears conditions before P2 of the next tick (R54, R56);
the lanes' measurement is used once. It began with the pulse whose falling edge they report (R57). -/
def State.agreeReset (s : State) (agreed : Bool) : State :=
  let r := s.rrq
  { s with rrq := { r with
      laneFell := .all false
      fellRise := none
      clearNext := if agreed then r.clearNext ++ [(.rstreq, r.fellRise.getD r.riseTick, none)] else r.clearNext } }

/-! ### P4 (R39, R191, R200, R225, R243, R277, R300) -/

/-- Lanes that commit and seal: the voters, and in LOCKOUT every running lane that has not failed (R34, R47). -/
def State.committers (s : State) (obs : TickObs) (v : Verdict) : BitVec 3 :=
  if s.ms.mode == .lockout then
    maskOf (fun l => (s.lane l).svc.running && (obs.lanes.get l).clockRuns && !l.inMask v.failed)
  else s.ms.voting

/-- The comparison registers after P3 (R200, R243). -/
def LaneCheck.compared (c : LaneCheck) (n : Tick) (miss : Option XcMiss) : LaneCheck :=
  match miss with
  | none => { c with xcDone := true, xcMismatch := false, xcWords := 0 }
  | some m => { c with
      xcDone := true, xcMismatch := true, xcWords := min 65535 m.count, xcPart := m.part, xcWord := m.word, xcTick := n }

/-- Field dies to which a voting lane writes a token: those with output channels (R245). A node without one refreshes the token of
FB1, which serves its watchdog alone (DESIGN CHOICE, log 109). -/
def State.tokenBanks (s : State) : List Bank :=
  let bs := (allFin 3).filter (fun b => s.bankOut b)
  if bs.isEmpty then [0] else bs

/-- What a committing lane writes through its commit gate (R225, R239), before its transmit descriptors. -/
def State.gateWrites (s : State) (l : Lane) : List GateWrite :=
  (if l.inMask s.ms.voting && !s.aon.latch then s.tokenBanks.map GateWrite.token else []) ++ [.service]

/-- A lane's P4: its vector of the tick becomes the committed region. -/
def State.commitLane (s : State) (who : BitVec 3) (l : Lane) (o : LaneOut) (clock : Bool) : State :=
  s.modLaneSt l (fun x =>
    let y : LaneSt := { x with
      check := if clock then x.check.compared s.ms.tick o.miss else { x.check with xcDone := false }
      sram := if clock then o.sram else x.sram, cas := if clock then o.cas else x.cas }
    if l.inMask who then { y with region := o.carried, held := s.gateWrites l } else y)

/-- The channel registers that the voting lanes write after P4 (R277, R300). -/
def State.chanRegs (s : State) (o : LaneOut) : State :=
  let po := o.loc.k.partO
  let regs := vmapIdx s.fld.regs (fun c r =>
    let cfg := s.chan c
    let e := o.agr.echo[c]
    let i := o.agr.ins[c]
    let r1 : ChReg := if cfg.mode.isOut then
        { r with h := pinCode e.h, l := pinCode e.l, gdH := e.gdH == some true, gdL := e.gdL == some true
                 cmdOn := po[0].getLsbD c.val, forced := po[1].getLsbD c.val
                 tripped := (s.fld.stages[c]).trip, cur := curCode r.cur e.cur }
      else r
    if cfg.mode.isIn then
      { r1 with faultCnt := if i.fault then satInc 255 r1.faultCnt else r1.faultCnt
                fkind := BitVec.ofNat 3 i.kind, split := i.split, fault := i.fault, value := i.value }
    else r1)
  ({ s with fld := { s.fld with regs := regs } } : State).lockRegs o.loc.k

/-- The bank registers (R297, R300). -/
def State.bankRegs (s : State) (obs : TickObs) (o : LaneOut) : State :=
  let x := obs.lanes.get s.lead
  { s with fld := { s.fld with banks := vmapIdx s.fld.banks (fun b r =>
      { r with ovl := decide (10 ≤ o.loc.k.ovl[b]), iBank := x.iBank[b], vfClass := supCode o.agr.sup[b], vf := x.vfVal[b] }) } }

/-- Lanes whose token of the tick before every field die with output channels accepted (R277). -/
def State.tokenLanes (s : State) : BitVec 3 :=
  maskOf (fun l => s.laneOn l && (allFin 3).all (fun b =>
    !s.bankOut b || (match (s.iface l b).token with
      | some t => t.tick == s.ms.tick - 1
      | none => false)))

/-- Phase marks of the tick that ends: how many ticks in a row they arrived at every lane, up to 1,024 (R250, R277). -/
def Vot.marks (v : Vot) : Vot :=
  let all_ := lanesList.all (fun l => v.markSeen.get l && !v.markMiss.get l)
  { v with phaseRun := if all_ then satInc 1024 v.phaseRun else 0, markSeen := .all false, markMiss := .all false }

/-- MOD_DISSENT, MOD_SPLIT and VOT_CODESTAT (R187, R188, R189, R217, R267, R277). -/
def State.tickCounts (s : State) (outs : PerLane LaneOut) (o : LaneOut) : State :=
  let d (l : Lane) : Nat := (o.dissents.filter (fun m => m == l)).length
  let splits := ((allFin 48).filter (fun c => (s.chan c).mode.isIn && (o.agr.ins[c]).split)).length
  let rereads := (lanesOf s.running).foldl (fun n l => n + (outs.get l).rd.rereads) 0
  let r := o.rd
  { s with
    ms := { s.ms with
      dissentA := satAdd 255 s.ms.dissentA (d .a), dissentB := satAdd 255 s.ms.dissentB (d .b)
      dissentC := satAdd 255 s.ms.dissentC (d .c), reread := satAdd 255 s.ms.reread rereads
      inputSplit := satAdd 65535 s.ms.inputSplit splits, frameSplit := satAdd 255 s.ms.frameSplit r.splits
      reqSplit := satAdd 255 s.ms.reqSplit r.reqSplit }
    vot := { s.vot.marks with
      dissentA := satAdd 255 s.vot.dissentA r.dissent.a, dissentB := satAdd 255 s.vot.dissentB r.dissent.b
      dissentC := satAdd 255 s.vot.dissentC r.dissent.c, codeRej := satAdd 255 s.vot.codeRej r.rejected
      lantLanes := s.tokenLanes } }

/-- Packets both copies of which fail are dropped and counted in LINK_FAIL (R429). -/
def State.linkChecks (s : State) (obs : TickObs) : State :=
  let lost (o : LaneObs) : Nat := (o.packets.filter packetLost).length
  { s with crc := { s.crc with linkFail := satAdd 65535 s.crc.linkFail (lost obs.lanes.a + lost obs.lanes.b + lost obs.lanes.c) } }

/-- The mirror lane's new committed region (R535-R537). -/
def State.mirrorTick (s : State) (who : BitVec 3) : State :=
  match Lane.ofIdx (s.host.mlane.toNat - 1) with
  | none => s
  | some l =>
    if !l.inMask who then s
    else
      let manager := s.ms.role == .active || s.ms.role == .standby
      let s1 : State := { s with host := { s.host with valid := manager, mirTick := s.ms.tick, gen := s.host.gen + 1 } }
      if s.host.tickDiv != 0 && s.ms.tick.toNat % s.host.tickDiv.toNat = 0 then s1.raiseVec 17 else s1

/-! ### Pairs in P3 and P4 (R381-R384) -/

/-- What a pair unit counts in a tick: VIEW, its own ticks, its peer's absence, and the runs of R383. -/
def State.pairCounts (s : State) (r : Reading) (v : Verdict) : State :=
  let p := s.pair
  let heard := r.peer.isSome
  let view := r.view
  let runs := s.ms.mode == .run || s.ms.mode == .run2
  let exit_ := lanesList.any (fun l => !l.inMask v.votes && (s.lane l).lastCause != 0xA && (s.lane l).lastCause != 0)
  let low := p.claim == 1 && heard && decide (view + s.area.params.yieldMargin ≤ p.peerView)
  let under := p.claim == 1 && !heard && decide (view < s.quorum)
  let peerMiss := if heard then 0 else satInc 65535 p.peerMiss
  let wait := if p.claim = 2 then p.yieldWait + 1 else 0
  let back := p.claim == 2 && decide (s.area.params.lloss + 2 < wait)
  { s with
    ms := if back then { s.ms with role := .active } else s.ms
    pair := { p with
      view := view, peerValid := heard, peerMiss := peerMiss
      peerVoting := r.peerVoting.getD 0
      ownTicks := if runs && p.claim == 0 then satInc 65535 p.ownTicks else p.ownTicks
      viewLow := if low then satInc 65535 p.viewLow else 0
      viewUnder := if under then satInc 65535 p.viewUnder else 0
      run2Run := if s.ms.mode == .run2 && exit_ then satInc 65535 p.run2Run else 0
      yieldWait := if back then 0 else wait
      claim := if back then 1 else p.claim } }

/-- P3 and P4 of a pair unit: a standby has read its peer in P1 already. -/
def State.pairTick (s : State) (r : Reading) (v : Verdict) (claimed : Bool) : State :=
  if !s.isPairUnit then s
  else
    let s1 := match r.peer with
      | some sh => if claimed then s.readPeer sh else s
      | none => s
    (s1.pairCounts r v).pairClaims

/-- A unit promoted in the tick seals what it goes on from (R382). -/
def State.promotedOuts (s : State) (before : Role) (outs : PerLane LaneOut) : PerLane LaneOut :=
  if s.ms.role == .active && before != .active then
    outs.mapL (fun l x => let c := (s.lane l).region; { x with ev := { x.ev with c := c }, loc := { x.loc with k := c.k } })
  else outs

/-! ### Node, pair and boundary registers (R390) -/

def roleCfgCode : Option NodeRole → Nat
  | some .worker => 0
  | some .pairUnit => 1
  | some .single => 2
  | none => 3

def State.modNode (s : State) : Word :=
  let p := s.pair
  fields32 [(20, p.strapId.toNat), (19, b2n p.strapChanged), (18, b2n p.idOk), (16, roleCfgCode s.roleCfg),
    (14, p.portMatch[3].toNat), (12, p.portMatch[2].toNat), (10, p.portMatch[1].toNat), (8, p.portMatch[0].toNat), (0, b2n p.duplicate)]

def State.modPair (s : State) : Word :=
  let p := s.pair
  fields32 [(30, p.claim.toNat), (28, p.peerClaim.toNat), (26, p.sync.toNat), (25, b2n p.peerValid), (24, b2n p.ahMatch),
    (16, p.promoteCnt), (8, p.yieldCnt), (4, p.yieldCause.toNat)]

def State.modBnd (s : State) : Word :=
  fields32 [(16, bitsNat (s.leadK.peers.toList.map (fun x => x.lost))), (8, min 255 s.pair.refusedCnt), (0, min 255 s.pair.grantCnt)]

/-- The voting lanes write the words after P4 (R390); without a lane that votes or commits they stay. -/
def State.writePair (s : State) : State :=
  { s with pair := { s.pair with regs := ⟨s.modNode, s.modPair, s.pair.actSince, s.modBnd⟩ } }

/-! ### P5 (R35-R37, R235-R237, R348, R430, R456, R458-R461, R493-R497) -/

/-- ECC and scrubbing of a lane (R235-R237). -/
def State.eccTick (s : State) (obs : TickObs) (l : Lane) : State :=
  let x := s.lane l
  let o := obs.lanes.get l
  if x.svc == .reset || x.svc == .disabled then s
  else
    let c := x.check
    -- 64 KiB of each chunk of processor SRAM: a word's chunk is its byte address / 65,536; work left waits for the next tick
    let here (a : BitVec 24) : Bool := a.toNat / 65536 == c.scrubPos
    let left := obs.p5Left.get l
    let scr := if left then [] else o.scrubbed.filter (fun r => r.mem == .processor && here r.addr)
    let reads := o.reads ++ scr
    let fixed (rs : List EccRead) : List EccRead := rs.filter (fun r => EccRead.outcome r == .corrected)
    let n := (fixed reads).length
    let c1 : LaneCheck := { (fixed reads).foldl (fun c r => c.eccAt r false) c with ceCnt := satAdd 65535 c.ceCnt n }
    let wrap := c.scrubPos == 191
    let c2 : LaneCheck := if left then c1 else { c1 with
      scrubPos := if wrap then 0 else c.scrubPos + 1
      passCnt := if wrap then (c.passCnt + 1) % 256 else c.passCnt }
    let words := (fixed scr).map (fun r => r.addr)
    let again := words.any (fun a => x.scrubPrev.contains a)
    let base := if s.ms.tick.toNat % 1024 = 0 then 0 else x.ceWin
    let prev := if left then x.scrubPrev else x.scrubPrev.filter (fun a => !here a) ++ words
    let s1 := s.setLane l { x with check := c2, ceWin := base, scrubPrev := prev }
    let s2 := if again then s1.alarmLane 0xB8 l [] else s1
    let s3 := s2.countCe l n
    match reads.find? (fun r => EccRead.outcome r == .uncorrectable) with
    | some r => s3.eccFault l r
    | none => s3

/-- Commit reserve in whole percent, rounded down (R37). -/
def reservePct (tUs : BitVec 17) (t4 : Nat) : Nat :=
  let d := tUs.toNat - 50
  if d = 0 then 0 else 100 * (d - t4) / d

/-- A lane's own measure of its tick (R37), whether it voted or not: ALARM 0xBD at the onset. `ran` are the lanes that ran the tick. -/
def State.budgetTick (s : State) (ran : BitVec 3) (l : Lane) (o : LaneObs) : State :=
  let x := s.lane l
  if !l.inMask ran || !o.clockRuns then s
  else
    let b := x.budget
    let r := reservePct s.ms.tUs o.t4Us
    let d := s.ms.tUs.toNat - 50
    let low := decide (4 * (d - o.t4Us) < d)
    let s1 := s.setLane l { x with budget := { b with
      winT4 := max b.winT4 (min 131071 o.t4Us)
      winReserve := some (match b.winReserve with
        | some m => min m r
        | none => r)
      winFailed := b.winFailed || x.failedTick, winBelow := b.winBelow || low, low := low } }
    if low && !b.low then s1.alarmLane 0xBD l [BitVec.ofNat 8 r] else s1

/-- Consecutive votes of the lanes that run a trial image, and the time of a full trial in RUN (R458, R461). -/
def State.trialTick (s : State) : State :=
  let count (l : Lane) (x : LaneSt) : LaneSt :=
    if !x.runsNew then x
    else { x with trialCnt := if l.inMask s.ms.voting then satInc 10000 x.trialCnt
                              else if x.trialCnt = 10000 then x.trialCnt else 0 }
  let lanes := s.lanes.mapL count
  let cur := match [Lane.a, .b, .c].find? (fun l => (lanes.get l).runsNew) with
    | some l => (lanes.get l).trialCnt
    | none => s.upd.confirm
  let full := s.bankRec.state == .fullTrial && s.upd.apply == .fullTrial && s.ms.mode == .run
  let us := if full then s.upd.confirmUs + s.ms.tUs.toNat else s.upd.confirmUs
  { s with
    lanes := lanes
    upd := { s.upd with
      confirmUs := us
      confirm := if s.upd.apply == .fullTrial then min 600 (us / 1000000) else if s.upd.apply == .rolling then cur else s.upd.confirm } }

/-- The lane that a rolling update withdrew in tick w is WITHDRAWN in w + 1, and then takes its LANE reset (R458). -/
def State.takenTick (s : State) : State :=
  match s.upd.taken with
  | some (l, w) => if tickGt s.ms.tick (w + 1) then s.laneReset l else s
  | none => s

/-- Unbroken deferrals of an update (R456): a copy or a withdrawal waits, and a condition of R455 holds. -/
def State.deferTick (s : State) : State :=
  if s.updWaits && s.deferred then { s with upd := { s.upd with deferTicks := s.upd.deferTicks + 1 } }
  else { s with upd := { s.upd with deferTicks := 0, deferAlarm := false } }

/-- Due times of rolling proof (R493, R494): set in the first tick in RUN, and reached in area time. -/
def State.proofDue (s : State) : State :=
  let hour := 3600000000000
  let i := s.area.params.proofH * hour
  let now := s.nowNs
  let first (l : Lane) : Nat := now + (match l with
    | .a => i / 3
    | .b => 2 * i / 3
    | .c => i)
  let waits := lanesList.any (fun l => (s.prf.lanes.get l).due)
  let ticks := if waits then s.prf.deferTicks + 1 else 0
  { s with prf := { s.prf with
      lanes := if s.ms.mode == .run then
          s.prf.lanes.mapL (fun l p => { p with dueNs := some (p.dueNs.getD (first l)) })
        else s.prf.lanes
      deferTicks := ticks
      deferCnt := if waits && ticks % 1024 = 0 then satInc 255 s.prf.deferCnt else s.prf.deferCnt } }

/-- The rolling proof of the tick (R495, R497): after both dissent steps the lane takes its LANE reset; its first vote after the copy
completes the proof. -/
def State.proofTick (s : State) : State :=
  match s.provedLane with
  | none => s
  | some l =>
    if s.prf.phase == .dissent && s.prf.stepDone = 3 then s.laneReset l
    else if s.prf.phase == .copy && l.inMask s.ms.voting then
      let i := s.area.params.proofH * 3600000000000
      let ms := min 65535 ((s.nowNs - s.prf.startNs) / 1000000)
      let start := s.prf.startNs
      let s1 := s.modRp l (fun p => { p with
        pass := satInc 255 p.pass, durMs := ms, dueNs := some (start + i), overdue := false })
      { s1 with prf := { s1.prf with phase := .idle }, vot := { s1.vot with majProofOk := true } }
    else s

/-- Session records and messages agreed in P1 take effect in P5 (R414, R417). -/
def State.sessionTick (s : State) (r : Reading) (read : List (ReadMsg × MsgCheck)) : State :=
  let s0 := read.foldl (fun s x => s.countMsg x.1 x.2) s
  let s1 := r.opens.foldl (fun s p =>
    match s.chanKey p.1 with
    | some key => s.desk (fun d => d.open (some key) s.aon.restart s.ms.tick (s.mail.sec[p.1].sessCnt + 1) p.1 p.2)
    | none => s) s0
  r.closes.foldl (fun s ch =>
    if s.leadK.sessions[ch].isNone then s.modMbx true ch (fun m => { m with authFail := satInc 255 m.authFail })
    else s.desk (fun d => d.close ch 1)) s1

/-- LOG records of other nodes' frames pass through a manager's log (R524). -/
def State.logTick (s : State) (r : Reading) : State :=
  if s.ms.role == .active || s.ms.role == .standby then
    r.logs.foldl (fun s p => p.2.foldl (fun s x => s.logForwarded p.1 x) s) s
  else s

/-- P5 of the tick. -/
def State.housekeep (s : State) (obs : TickObs) (o : LaneOut) (late : List Post) (read : List (ReadMsg × MsgCheck)) : State :=
  let s2 := ((s.afterHostr.posts late).sessionTick o.rd read).logTick o.rd
  let s3 := lanesList.foldl (fun s l =>
    if (s.lane l).katDue && (s.lane l).svc.running then s.kat l (obs.lanes.get l).kat else s) s2
  s3.trialTick.takenTick.deferTick.proofDue.proofTick.loadGalQueue

/-- What the lane-check block and each lane do in every P5, voting or not: correction and scrubbing, the budget, work left. -/
def State.laneP5 (s : State) (obs : TickObs) (ran : BitVec 3) : State :=
  let s1 := (lanesList.foldl (fun s l => (s.budgetTick ran l (obs.lanes.get l)).eccTick obs l) s).flushAppends
  { s1 with ms := { s1.ms with p5Left := obs.p5Left } }

/-! ### The tick -/

/-- A session closes with cause 0x4 after the answers to a message with the last inbound SEQ (R416, R417). -/
def State.closeExhausted (s : State) : State :=
  (allFin 8).foldl (fun s ch =>
    if (s.leadK.sessions[ch]).any (fun x => x.inSeq == 0xFFFF_FFFF) then s.desk (fun d => d.close ch 4) else s) s

/-- The blocks that the lanes seal in a tick (R184, R201, R393): samples, and digests or a failure notice. -/
def State.sealBlocks (s : State) (ran sound : BitVec 3) : State :=
  { s with lanes := s.lanes.mapL (fun l x =>
      if l.inMask ran && x.svc.running then (x.sealedBlock .samples).sealedBlock (if l.inMask sound then .digests else .notice) else x) }

/-- Phases P1 to P5 of tick n, after its edge. -/
def State.phases (s : State) (seen : TickObs) (late : List Post) : State :=
  let obs : TickObs := { seen with lanes := seen.lanes.map linked }
  let members := s.acting
  let blocks : PerLane (Vector Samp 48) := PerLane.ofFn (fun l => s.sampleBlock (obs.lanes.get l) l)
  let echoes : PerLane (Vector (Option EchoItem) 48) := PerLane.ofFn (fun l => s.echoBlock (obs.lanes.get l) l)
  let agrs : PerLane Agreement := PerLane.ofFn (fun l => s.agreement obs members blocks echoes l)
  let rds := s.readings obs members
  -- a member that has the blocks of the agreement set
  let first := ((lanesOf members).find? (fun l => !s.leftAlone obs members l)).getD s.lead
  let read := s.mail.toRead.map (fun m => (m, msgCheck s.leadK (if m.secure then s.chanKey m.ch else none) m))
  -- P1
  let claimed := s.pair.claim != 0
  let s1 := (s.pairAdopt (rds.get first)).agreeReset ((lanesOf members).any (fun l => (agrs.get l).reset))
  let s2 : State := { s1 with
    mail := { s1.mail with toRead := [], later := [] }, pair := { s1.pair with unitsNow := (rds.get first).units } }
  -- P2
  let evaluate (s : State) : PerLane LaneOut := PerLane.ofFn (fun l => s.laneTick obs l (agrs.get l) (rds.get l))
  let outs0 := evaluate s2
  -- P3
  let v := s2.verdict obs members outs0
  let s3 := s2.vote obs v
  let lead := s3.lead
  -- the tick that first claims YIELDING has refused its requests (R383)
  let yields := s2.pair.claim == 1 && (s3.pairTick (rds.get lead) v claimed).pair.claim == 2
  let outs := if yields then evaluate { s2 with pair := { s2.pair with claim := 2 } } else outs0
  let o := outs.get lead
  let s4 := (s3.conditions obs members o.loc.k).tickFaults obs o
  -- P4
  let who := s4.committers obs v
  let s5 := lanesList.foldl (fun s l =>
    if (s.lane l).svc.running then s.commitLane who l (outs.get l) (obs.lanes.get l).clockRuns else s) s4
  let s6 : State := { s5.linkChecks obs with
    fld := { s5.fld with echoH := echoes, echoFrom := members }
    aon := { s5.aon with vhold := obs.vhold } }
  let s7 := if who = 0 then s6 else
    ((((s6.chanRegs o).bankRegs obs o).tickCounts outs o).mirrorTick who).galleryTick o.rd
  let s8 := s7.pairTick o.rd v claimed
  let s9 := if o.rd.dual then s8.seeDual else s8
  let s10 := ((s9.putRecs o.loc.recs).putRecs o.rd.recs).locRegs o.loc
  let s11 := ((if who = 0 then s10 else s10.switchReq o.ev).decideSwitch.sealAll who (s8.promotedOuts s7.ms.role outs)).writePair.flushLog
  -- P5
  let s12 := s11.laneP5 obs s.running
  let s13 := s12.sealBlocks s.running v.sound
  if who = 0 then s13 else ((s13.housekeep obs o late read).effects o.ev).closeExhausted

/-- Edge n and the tick that it begins, of a module that knows its edges. In JOIN the module waits for the network, and its first
tick is the one in which it has joined. -/
def State.runTick (s : State) (obs : TickObs) : State :=
  let e := (s.holdLog.edgeSupply obs).edge
  let s1 := e.1
  if s1.ms.mode == .join then
    if s1.joined then (s1.leaveJoin.phases obs e.2).tickSources else s1.flushLog
  else
    -- in LOCKOUT the first tick after the node has joined
    let s2 : State := if s1.ms.role == .unassigned && s1.joined then { s1.takeRole with lanes := s1.takeRole.lanes.map LaneSt.armed } else s1
    (s2.phases obs e.2).tickSources

/-- TICK_EDGE (R27-R39, R42, R76, R118, R183-R211, R314): the tick that ends takes its cycle-start copy, which may end in a WARM
reset (R332), and edge n begins the next. -/
def execTickEdge (obs : TickObs) (s : State) : Host.Outcome State Fault Refusal :=
  if !s.clocked then .next s
  else if !s.aligned then .next s.toEdge
  else if !s.takeHeld.clocked then .next s.takeHeld
  else .next (s.takeHeld.runTick obs)

end Sys2Proof.Machine
end

