-- ==== Sys2Proof/Machine/Dispatch.lean ====
section
/-!
DEFINITION. The meaning of every command, one arm per constructor of `Instr`.
-/

namespace Sys2Proof.Machine

/-- The effect of a command on everything but the queue. -/
def exec (i : Instr) (s : State) : Host.Outcome State Fault Refusal :=
  match i with
  | .por => Sys2Proof.Machine.execPor s
  | .pin lowUs => Sys2Proof.Machine.execPin lowUs s
  | .warm src => Sys2Proof.Machine.execWarm src s
  | .lane l => Sys2Proof.Machine.execLane l s
  | .hostr => Sys2Proof.Machine.execHostr s
  | .bootComplete loaded0 loaded1 obs ms => Sys2Proof.Machine.execBootComplete loaded0 loaded1 obs ms s
  | .proveComplete obs maj echo => Sys2Proof.Machine.execProveComplete obs maj echo s
  | .tickEdge obs => Sys2Proof.Machine.execTickEdge obs s
  | .commitDeadline l => Sys2Proof.Machine.execCommitDeadline l s
  | .p1WaitLimit missing => Sys2Proof.Machine.execP1WaitLimit missing s
  | .p3WaitLimit missing => Sys2Proof.Machine.execP3WaitLimit missing s
  | .p5Suspension l => Sys2Proof.Machine.execP5Suspension l s
  | .elementTimerExpiry e => Sys2Proof.Machine.execElementTimerExpiry e s
  | .routeTimerExpiry r => Sys2Proof.Machine.execRouteTimerExpiry r s
  | .boundaryGrantWaitExpiry r => Sys2Proof.Machine.execBoundaryGrantWaitExpiry r s
  | .run2LimitExpiry => Sys2Proof.Machine.execRun2LimitExpiry s
  | .hubNoAgreeingDigests => Sys2Proof.Machine.execHubNoAgreeingDigests s
  | .dissentRunExclusion l ch => Sys2Proof.Machine.execDissentRunExclusion l ch s
  | .reflexTimeout entry => Sys2Proof.Machine.execReflexTimeout entry s
  | .echoSplitMismatch ch => Sys2Proof.Machine.execEchoSplitMismatch ch s
  | .feedbackMismatchWindow ch => Sys2Proof.Machine.execFeedbackMismatchWindow ch s
  | .overloadTimeout ch => Sys2Proof.Machine.execOverloadTimeout ch s
  | .bankOverload b => Sys2Proof.Machine.execBankOverload b s
  | .tripLatchSet ch => Sys2Proof.Machine.execTripLatchSet ch s
  | .tripLatchClear ch => Sys2Proof.Machine.execTripLatchClear ch s
  | .testPulseDue ch kind => Sys2Proof.Machine.execTestPulseDue ch kind s
  | .testPulseOverdue ch kind => Sys2Proof.Machine.execTestPulseOverdue ch kind s
  | .testPulse ch kind obs => Sys2Proof.Machine.execTestPulse ch kind obs s
  | .testSourceGap src obs => Sys2Proof.Machine.execTestSourceGap src obs s
  | .lanternToken l b token => Sys2Proof.Machine.execLanternToken l b token s
  | .proofWord l b side mask => Sys2Proof.Machine.execProofWord l b side mask s
  | .tokenExpiry l b => Sys2Proof.Machine.execTokenExpiry l b s
  | .gateDriveLost ch side dropoutUs => Sys2Proof.Machine.execGateDriveLost ch side dropoutUs s
  | .phaseMark arrived => Sys2Proof.Machine.execPhaseMark arrived s
  | .replicaFilterChange l ch level run => Sys2Proof.Machine.execReplicaFilterChange l ch level run s
  | .laneCheckFault l run read => Sys2Proof.Machine.execLaneCheckFault l run read s
  | .commitGateRelease l => Sys2Proof.Machine.execCommitGateRelease l s
  | .aliveCheck l hw => Sys2Proof.Machine.execAliveCheck l hw s
  | .watchdogWindowEnd l byTimeout => Sys2Proof.Machine.execWatchdogWindowEnd l byTimeout s
  | .copyRequestTimeout l => Sys2Proof.Machine.execCopyRequestTimeout l s
  | .laneProofDone l result hw => Sys2Proof.Machine.execLaneProofDone l result hw s
  | .resyncCopyStart q => Sys2Proof.Machine.execResyncCopyStart q s
  | .resyncCopyDone l inTime copy => Sys2Proof.Machine.execResyncCopyDone l inTime copy s
  | .rollingProofDue l => Sys2Proof.Machine.execRollingProofDue l s
  | .rollingProofWithdrawal l => Sys2Proof.Machine.execRollingProofWithdrawal l s
  | .rollingProofOverdue l => Sys2Proof.Machine.execRollingProofOverdue l s
  | .dissentStep side obs => Sys2Proof.Machine.execDissentStep side obs s
  | .rstreqRising => Sys2Proof.Machine.execRstreqRising s
  | .rstreqFalling highUs hubUs => Sys2Proof.Machine.execRstreqFalling highUs hubUs s
  | .rstreqStuck => Sys2Proof.Machine.execRstreqStuck s
  | .rstreqStuckClear => Sys2Proof.Machine.execRstreqStuckClear s
  | .qualifiedResetRequest origin begun => Sys2Proof.Machine.execQualifiedResetRequest origin begun s
  | .zoneAckPulse ch highUs => Sys2Proof.Machine.execZoneAckPulse ch highUs s
  | .throw q => Sys2Proof.Machine.execThrow q s
  | .supervisedThrow q => Sys2Proof.Machine.execSupervisedThrow q s
  | .move q => Sys2Proof.Machine.execMove q s
  | .setStop q => Sys2Proof.Machine.execSetStop q s
  | .setGate q => Sys2Proof.Machine.execSetGate q s
  | .block q => Sys2Proof.Machine.execBlock q s
  | .unblock q => Sys2Proof.Machine.execUnblock q s
  | .sectionReset q => Sys2Proof.Machine.execSectionReset q s
  | .zoneReset q => Sys2Proof.Machine.execZoneReset q s
  | .zoneAccess q => Sys2Proof.Machine.execZoneAccess q s
  | .signalRestore q => Sys2Proof.Machine.execSignalRestore q s
  | .setFlag q => Sys2Proof.Machine.execSetFlag q s
  | .setRoute q => Sys2Proof.Machine.execSetRoute q s
  | .cancelRoute q => Sys2Proof.Machine.execCancelRoute q s
  | .emergencyRelease q => Sys2Proof.Machine.execEmergencyRelease q s
  | .boundaryRelease q => Sys2Proof.Machine.execBoundaryRelease q s
  | .vehicleRemove q => Sys2Proof.Machine.execVehicleRemove q s
  | .moduleReset q => Sys2Proof.Machine.execModuleReset q s
  | .channelReset q => Sys2Proof.Machine.execChannelReset q s
  | .gallerySwitch q => Sys2Proof.Machine.execGallerySwitch q s
  | .updateLock q => Sys2Proof.Machine.execUpdateLock q s
  | .openSession ch hnonce => Sys2Proof.Machine.execOpenSession ch hnonce s
  | .closeSession ch => Sys2Proof.Machine.execCloseSession ch s
  | .mailboxSnapshot l => Sys2Proof.Machine.execMailboxSnapshot l s
  | .outboundMoverWrite secure ch => Sys2Proof.Machine.execOutboundMoverWrite secure ch s
  | .mbxInBufWrite secure ch word val => Sys2Proof.Machine.execMbxInBufWrite secure ch word val s
  | .mbxOutBufRead secure ch word => Sys2Proof.Machine.execMbxOutBufRead secure ch word s
  | .mbxInStatAbortedClear secure ch val => Sys2Proof.Machine.execMbxInStatAbortedClear secure ch val s
  | .mbxDbM2hClear secure ch val => Sys2Proof.Machine.execMbxDbM2hClear secure ch val s
  | .mbxDbmaskWrite secure ch val => Sys2Proof.Machine.execMbxDbmaskWrite secure ch val s
  | .lckRead m idx rivals => Sys2Proof.Machine.execLckRead m idx rivals s
  | .lckWrite m idx val rivals => Sys2Proof.Machine.execLckWrite m idx val rivals s
  | .lckOrphanClear hi val => Sys2Proof.Machine.execLckOrphanClear hi val s
  | .arbFreezeRequest l res mask freeze => Sys2Proof.Machine.execArbFreezeRequest l res mask freeze s
  | .arbFreezeExpiry res => Sys2Proof.Machine.execArbFreezeExpiry res s
  | .crcStart m ch cfg seed => Sys2Proof.Machine.execCrcStart m ch cfg seed s
  | .crcDataWrite m ch strb val rivals => Sys2Proof.Machine.execCrcDataWrite m ch strb val rivals s
  | .crcResLoRead r => Sys2Proof.Machine.execCrcResLoRead r s
  | .timNowLoRead => Sys2Proof.Machine.execTimNowLoRead s
  | .timTbaseLoRead => Sys2Proof.Machine.execTimTbaseLoRead s
  | .rcRead bar ofs => Sys2Proof.Machine.execRcRead bar ofs s
  | .mirrorRead ofs words => Sys2Proof.Machine.execMirrorRead ofs words s
  | .hostRegisterWrite bar ofs val => Sys2Proof.Machine.execHostRegisterWrite bar ofs val s
  | .updDmaGo => Sys2Proof.Machine.execUpdDmaGo s
  | .updDmaAbort => Sys2Proof.Machine.execUpdDmaAbort s
  | .updDmaEnd err => Sys2Proof.Machine.execUpdDmaEnd err s
  | .bistGo => Sys2Proof.Machine.execBistGo s
  | .bistDone pass durUs => Sys2Proof.Machine.execBistDone pass durUs s
  | .testPortAccess via => Sys2Proof.Machine.execTestPortAccess via s
  | .cycleStart f => Sys2Proof.Machine.execCycleStart f s
  | .coldstart f => Sys2Proof.Machine.execColdstart f s
  | .dlyReq f turnNs => Sys2Proof.Machine.execDlyReq f turnNs s
  | .dlyRsp f => Sys2Proof.Machine.execDlyRsp f s
  | .dlyFup f => Sys2Proof.Machine.execDlyFup f s
  | .linkDelayMeasurement p r0 r1 r2 => Sys2Proof.Machine.execLinkDelayMeasurement p r0 r1 r2 s
  | .safe f => Sys2Proof.Machine.execSafe f s
  | .chamber f => Sys2Proof.Machine.execChamber f s
  | .bulk f => Sys2Proof.Machine.execBulk f s
  | .transmitSlot p slot start => Sys2Proof.Machine.execTransmitSlot p slot start s
  | .bridgeSlot p start => Sys2Proof.Machine.execBridgeSlot p start s
  | .linkLoss p => Sys2Proof.Machine.execLinkLoss p s
  | .linkUp p => Sys2Proof.Machine.execLinkUp p s
  | .fullSilence cause => Sys2Proof.Machine.execFullSilence cause s
  | .hubDieFault => Sys2Proof.Machine.execHubDieFault s
  | .listenTimeout => Sys2Proof.Machine.execListenTimeout s
  | .contentionWindowEnd => Sys2Proof.Machine.execContentionWindowEnd s
  | .fullValidCycle => Sys2Proof.Machine.execFullValidCycle s
  | .syncLock => Sys2Proof.Machine.execSyncLock s
  | .cycleStartMissing => Sys2Proof.Machine.execCycleStartMissing s
  | .referenceTakeover => Sys2Proof.Machine.execReferenceTakeover s
  | .silentTimeout => Sys2Proof.Machine.execSilentTimeout s
  | .areaSeparation => Sys2Proof.Machine.execAreaSeparation s
  | .joinTimeout => Sys2Proof.Machine.execJoinTimeout s
  | .ppsIn atNs => Sys2Proof.Machine.execPpsIn atNs s
  | .ppsMissing => Sys2Proof.Machine.execPpsMissing s
  | .nodeIdStrapChange id => Sys2Proof.Machine.execNodeIdStrapChange id s
  | .galleryAnnounce g n a unit => Sys2Proof.Machine.execGalleryAnnounce g n a unit s
  | .gallerySwitchDecision => Sys2Proof.Machine.execGallerySwitchDecision s
  | .gallerySwitchEdge => Sys2Proof.Machine.execGallerySwitchEdge s
  | .galleryPreviousUnlock => Sys2Proof.Machine.execGalleryPreviousUnlock s
  | .galleryEntryWrite m g p idx entry => Sys2Proof.Machine.execGalleryEntryWrite m g p idx entry s
  | .galleryCommitWrite m g digest => Sys2Proof.Machine.execGalleryCommitWrite m g digest s
  | .positionReport r => Sys2Proof.Machine.execPositionReport r s
  | .commands idx => Sys2Proof.Machine.execCommands idx s
  | .commandHoldExpiry => Sys2Proof.Machine.execCommandHoldExpiry s
  | .boundaryLockItem idx => Sys2Proof.Machine.execBoundaryLockItem idx s
  | .boundaryGrantedItem idx => Sys2Proof.Machine.execBoundaryGrantedItem idx s
  | .boundaryRefusedItem idx => Sys2Proof.Machine.execBoundaryRefusedItem idx s
  | .boundaryReleaseItem idx op => Sys2Proof.Machine.execBoundaryReleaseItem idx op s
  | .boundaryPeerLost area => Sys2Proof.Machine.execBoundaryPeerLost area s
  | .pairStatus p => Sys2Proof.Machine.execPairStatus p s
  | .pairCopy items => Sys2Proof.Machine.execPairCopy items s
  | .activeClaim => Sys2Proof.Machine.execActiveClaim s
  | .standbyPromotion cause => Sys2Proof.Machine.execStandbyPromotion cause s
  | .yield cause => Sys2Proof.Machine.execYield cause s
  | .log src recs => Sys2Proof.Machine.execLog src recs s
  | .logRecordArrival copies => Sys2Proof.Machine.execLogRecordArrival copies s
  | .logExport => Sys2Proof.Machine.execLogExport s
  | .hostRingFullAlarm => Sys2Proof.Machine.execHostRingFullAlarm s
  | .update idx => Sys2Proof.Machine.execUpdate idx s
  | .stagingEraseDone => Sys2Proof.Machine.execStagingEraseDone s
  | .stagingVerifyDone accept => Sys2Proof.Machine.execStagingVerifyDone accept s
  | .releaseRecord r => Sys2Proof.Machine.execReleaseRecord r s
  | .bankCopyStart => Sys2Proof.Machine.execBankCopyStart s
  | .bankCopyDone digestOk => Sys2Proof.Machine.execBankCopyDone digestOk s
  | .rollingUpdateWithdrawal l => Sys2Proof.Machine.execRollingUpdateWithdrawal l s
  | .rollingCountComplete l => Sys2Proof.Machine.execRollingCountComplete l s
  | .fullTrialConfirmation => Sys2Proof.Machine.execFullTrialConfirmation s
  | .deferralAlarm => Sys2Proof.Machine.execDeferralAlarm s
  | .vinFail => Sys2Proof.Machine.execVinFail s
  | .fullCommit ms => Sys2Proof.Machine.execFullCommit ms s
  | .commitEnd => Sys2Proof.Machine.execCommitEnd s
  | .vholdQualified l => Sys2Proof.Machine.execVholdQualified l s
  | .vholdDisqualified l => Sys2Proof.Machine.execVholdDisqualified l s
  | .fullCommitAbort store => Sys2Proof.Machine.execFullCommitAbort store s
  | .lowPowerEntry l gapUs => Sys2Proof.Machine.execLowPowerEntry l gapUs s
  | .lowPowerWake l sleptUs late => Sys2Proof.Machine.execLowPowerWake l sleptUs late s
  | .overtemperature die celsius => Sys2Proof.Machine.execOvertemperature die celsius s
  | .thermalRecovery l => Sys2Proof.Machine.execThermalRecovery l s
  | .budgetWindowEnd => Sys2Proof.Machine.execBudgetWindowEnd s
  | .ageingWindow obs => Sys2Proof.Machine.execAgeingWindow obs s
  | .dailyRecord => Sys2Proof.Machine.execDailyRecord s
  | .porRelease => Sys2Proof.Machine.execPorRelease s
  | .perstNRelease => Sys2Proof.Machine.execPerstNRelease s
  | .configurationRequest r => Sys2Proof.Machine.execConfigurationRequest r s
  | .keyEncryptionKeyWrite key => Sys2Proof.Machine.execKeyEncryptionKeyWrite key s
  | .gateDriveReached ch side => Sys2Proof.Machine.execGateDriveReached ch side s
  | .inrushWindowEnd ch => Sys2Proof.Machine.execInrushWindowEnd ch s

end Sys2Proof.Machine
end

