-- ==== Sys2Proof/Safety.lean ====
section
/-!
DEFINITION. The terms in which claims are made: the parts of State that a command leaves as they are, what always holds of
the fuses and of the log, and what no command but a reset request takes back.
-/

namespace Sys2Proof.Machine

/-- The parts of State. -/
inductive Part where
  | ms | rrq | lanes | fld | vot | pair | aon | pwr | sh | crc | mail | net | tim | gal | buf | log | fuses | nvm | upd
  | prf | host | free | pending
deriving DecidableEq, Repr

/-- Two states agree in a part. -/
def Part.agree (s t : State) : Part → Prop
  | .ms => t.ms = s.ms
  | .rrq => t.rrq = s.rrq
  | .lanes => t.lanes = s.lanes
  | .fld => t.fld = s.fld
  | .vot => t.vot = s.vot
  | .pair => t.pair = s.pair
  | .aon => t.aon = s.aon
  | .pwr => t.pwr = s.pwr
  | .sh => t.sh = s.sh
  | .crc => t.crc = s.crc
  | .mail => t.mail = s.mail
  | .net => t.net = s.net
  | .tim => t.tim = s.tim
  | .gal => t.gal = s.gal
  | .buf => t.buf = s.buf
  | .log => t.log = s.log
  | .fuses => t.fuses = s.fuses
  | .nvm => t.nvm = s.nvm
  | .upd => t.upd = s.upd
  | .prf => t.prf = s.prf
  | .host => t.host = s.host
  | .free => t.free = s.free
  | .pending => t.pending = s.pending

/-- `t` differs from `s` in the parts listed at most. -/
def SameBut (ps : List Part) (s t : State) : Prop := ∀ p, p ∉ ps → p.agree s t

/-- The answer of a meaning is a next state of which `P` holds. -/
def Nexts (o : Host.Outcome State Fault Refusal) (P : State → Prop) : Prop := ∃ t, o = .next t ∧ P t

/-! ### Requests in the lanes -/

/-- Element `id` as lane `l` has committed it; an identifier that the image does not use reads zero (R67). -/
def State.elemOf (s : State) (l : Lane) (id : Nat) : Elem := (s.lane l).region.elems.getD id .zero

/-- Route `r` as lane `l` has committed it. -/
def State.routeOf (s : State) (l : Lane) (r : Nat) : RouteRec := (s.lane l).region.routes.getD r .idle

/-- Lane `l` as it meets a row of the table within a tick: what it reads of the node, the tick and its own region. -/
def State.view (s : State) (l : Lane) : Ev := s.evOf l .empty

/-- Lane `l` takes part in what the lanes evaluate in the present tick, under an image that lists its elements in order. -/
def State.evaluates (s : State) (l : Lane) : Prop :=
  s.inTicks = true ∧ s.acting ≠ 0 ∧ l.inMask (s.running ||| s.acting) = true ∧ (s.view l).area.elems.wf = true

/-- Lane `l` takes request `q` of code `c` on to its own test: parts 1 to 5 of R144 pass, and parts 8 and 9 let it act, as a request
of one step (`arm` none) or as the confirm of an arm whose message was read in a tick (`arm` that tick). -/
def State.hears (s : State) (l : Lane) (c : Byte) (q : Request) (arm : Option Tick) : Prop :=
  s.evaluates l ∧ (s.view l).common c q = 0 ∧ ((s.view l).stage c q).2 = .act arm

/-- Two values of an element differ at most in FLANK and FLANK_OWNER, which follow the routes in every evaluation (R112). -/
def Elem.butFlank (e f : Elem) : Prop := f = { e with flank := f.flank, flankOwner := f.flankOwner }

/-- What an authority record took from the vehicle's reports, its limit left out (R150). -/
def AuthRec.taken (a : AuthRec) : AuthRec :=
  { a with state := .none, term := 0, limitDir := false, age := 0, limitElem := 0, limitOfs := 0, dist := 0, route := 0, issueTick := 0 }

/-- Lane `l` holds the same vehicles with the same reports; their limits follow every change within the tick (R170). -/
def ReportsKept (l : Lane) (s t : State) : Prop :=
  ∀ k : Nat, ((t.lane l).region.auths.get? k).map AuthRec.taken = ((s.lane l).region.auths.get? k).map AuthRec.taken

/-- What an element request leaves as it was in lane `l`: routes, the vehicles and their reports, the lane's service, and every element but
those listed and the signals, whose COMMANDED follows the routes in every evaluation (R126). Frames that wait at the lane's gate are sealed
again with what changed (assumption 10). -/
def ElemsOnly (ids : List Nat) (l : Lane) (s t : State) : Prop :=
  t.lane l = { s.lane l with region := (t.lane l).region, held := (t.lane l).held } ∧
  (t.lane l).region.routes = (s.lane l).region.routes ∧ ReportsKept l s t ∧
  ∀ j : Nat, j ∉ ids → (∀ a n, (s.view l).cfg? j ≠ some (.signal a n)) → (s.elemOf l j).butFlank (t.elemOf l j)

/-- What a request or timer row leaves as it was outside the lanes that evaluate it: only results, records, session bits, the
retained counters with their record (which may wait for NVM1), what counts them, the vehicles removed for the peer, and the frames of the
tick that have not left, which are sealed again (assumption 10), change. -/
def RowKeeps (s t : State) : Prop :=
  (∀ m : Lane, m.inMask (s.running ||| s.acting) = false → t.lane m = { s.lane m with held := (t.lane m).held }) ∧
  t.aon = { s.aon with sessBits := t.aon.sessBits, counters := t.aon.counters, retrecPend := t.aon.retrecPend } ∧
  t.pair = { s.pair with
    grantCnt := t.pair.grantCnt, refusedCnt := t.pair.refusedCnt, removed := t.pair.removed, removedOut := t.pair.removedOut
    sealedER := t.pair.sealedER } ∧
  t.rrq = { s.rrq with short := t.rrq.short } ∧
  t.nvm = { s.nvm with retLog := t.nvm.retLog, conv := t.nvm.conv } ∧
  t.buf = { s.buf with tx := t.buf.tx } ∧ t.gal = { s.gal with nackSealed := t.gal.nackSealed } ∧
  SameBut [.lanes, .mail, .host, .aon, .nvm, .pair, .rrq, .log, .buf, .gal] s t

/-- The frames of the tick that have not left are sealed again, with what a row has changed (assumption 10): nothing of the lanes but the copies
at their gates, of the pair but what its frame says, and of the buffers but the frames' copies, changes. -/
def Resealed (s t : State) : Prop :=
  (∀ l : Lane, t.lane l = { s.lane l with held := (t.lane l).held }) ∧ t.buf = { s.buf with tx := t.buf.tx } ∧
  t.pair = { s.pair with removed := t.pair.removed, removedOut := t.pair.removedOut, sealedER := t.pair.sealedER }

/-! ### Frames at a port -/

/-- A delay frame of a type that holds at its port (R310, R325, R335, R336): the engine runs, the port is used and has block lock, and
the frame has its FCS, type, length and area. -/
def DelayFrame (s : State) (f : RxTiming) (type : Byte) (body : List Byte) : Prop :=
  s.net.state ≠ .off ∧ s.net.state ≠ .fullSilence ∧ (s.portCfg f.port).role ≠ .unused ∧ (s.net.ports[f.port]).blockLock = true ∧
  stripFcs f.bytes = some body ∧ (Frame.ofBytes body).type = type ∧ body.length = 60 ∧ s.knownArea (Frame.ofBytes body).area = true

/-- A frame of `n` bytes that starts at a deviation from an entry's offset has passed when the entry's transmit window closes
(R302, R321). -/
def WholeInWindow (s : State) (e : DWord) (dev : Int) (n : Nat) : Prop :=
  s.inWindow e dev = true ∧ Int.ofNat (lineTime n) + 10 * dev ≤ s.windowEnd e

/-! ### What every command keeps -/

/-- The rows that can be, or bring, a qualified reset request (R52, R56, R273): RSTREQ's own, a MODULE RESET that acts in LOCKOUT, and the tick edge that
evaluates the requests of its tick. -/
def clearsByRequest : Instr → Bool
  | .qualifiedResetRequest _ _ => true
  | .rstreqFalling _ _ => true
  | .moduleReset _ => true
  | .tickEdge _ => true
  | _ => false

/-- A fused key slot stays unrevoked (R439), a retired module holds no key-encryption key (R447), and the security floor is one of the image's
versions 0-63 (R434, R440). -/
def Fuses.sound (f : Fuses) : Prop :=
  (∃ k : Fin 4, f.slots[k].isSome = true ∧ f.revoked.getLsbD k.val = false) ∧ (f.retired = true → f.kek = none) ∧ f.secFloor ≤ 63

/-- Fuses are burned and never restored (R438-R440, R446, R447): nothing falls from `f` to `g`. -/
def Fuses.leads (f g : Fuses) : Prop :=
  g.slots = f.slots ∧ (∀ k : Fin 4, f.revoked.getLsbD k.val = true → g.revoked.getLsbD k.val = true) ∧ f.secFloor ≤ g.secFloor ∧
  g.manufactured = f.manufactured ∧ (f.commissioned = true → g.commissioned = true) ∧ (f.retired = true → g.retired = true)

/-- The lockout latch in AON is what the last latch record in NVM1 gives at a POR (R46, R482), or its record waits for NVM1. -/
def LatchRecorded (s : State) : Prop :=
  s.aon.latrecPend = true ∨ latchOf s.nvm.latchLog.newest = (s.aon.latch, s.aon.latchCause, s.aon.latchTick)

/-- The addressed stores of the block are in their one form: keys strictly rising in the staging area, the chunks of a release, and the
host's ring. -/
def StoresCanonical (s : State) : Prop :=
  s.nvm.staging.wf = true ∧ s.nvm.relChunks.wf = true ∧ s.log.ring.wf = true

end Sys2Proof.Machine
end

