-- ==== Sys2Proof/Certificates/Slice0/Obligations.lean ====
section
/-!
DEFINITION. The statements: what each row of the table does to State, and what no row does.
-/

section Statements

open Sys2Proof Sys2Proof.Machine

/-! ### Shared resources of the hub (R401-R405, R423-R427) -/

/-- R402: a granted read of a lock returns GRANTED, PREV_ORPHANED and OWNER and takes a free lock; every other lock
stays. R403: a granted write by the holder with its own identifier frees the lock; any other is ignored and counted. -/
def Obligations.LocksAreTakenAndFreed : Prop :=
  (∀ (s : State) (m : Master) (i : Fin 64) (rivals : List Master),
    s.hostBlind m = false → (s.sh.round 1 m rivals).2 = true →
    ∃ t, Sys2Proof.Machine.exec (.lckRead m i rivals) s = .next t ∧
      (m ≠ .hubMovers → s.sh.locks[i].owner = 0 →
        t.sh.locks[i] = ⟨m.id, false⟩ ∧
        t.host.rdata = [0x80000000#32 ||| (if s.sh.locks[i].orphanPend then 0x40000000#32 else 0) ||| m.id.setWidth 32]) ∧
      (s.sh.locks[i].owner ≠ 0 →
        t.sh.locks[i] = s.sh.locks[i] ∧ t.host.rdata = [s.sh.locks[i].owner.setWidth 32]) ∧
      (m = .hubMovers → s.sh.locks[i].owner = 0 → t.sh.locks[i] = s.sh.locks[i] ∧ t.host.rdata = [0#32]) ∧
      (∀ j : Fin 64, j ≠ i → t.sh.locks[j] = s.sh.locks[j]) ∧
      t.host = { s.host with rdata := t.host.rdata } ∧
      t.sh = { (s.sh.round 1 m rivals).1 with locks := t.sh.locks } ∧
      SameBut [.sh, .host] s t) ∧
  (∀ (s : State) (m : Master) (i : Fin 64) (val : Word) (rivals : List Master),
    s.hostBlind m = false → (s.sh.round 1 m rivals).2 = true →
    ∃ t, Sys2Proof.Machine.exec (.lckWrite m i val rivals) s = .next t ∧
      (s.sh.locks[i].owner = m.id → val.setWidth 4 = m.id →
        t.sh.locks[i].owner = 0 ∧ t.sh.ignCnt = s.sh.ignCnt) ∧
      (s.sh.locks[i].owner ≠ m.id ∨ val.setWidth 4 ≠ m.id →
        t.sh.locks[i] = s.sh.locks[i] ∧ t.sh.ignMaster = m.id ∧
        t.sh.ignCnt = (if s.sh.ignCnt < 65535 then s.sh.ignCnt + 1 else 65535)) ∧
      (∀ j : Fin 64, j ≠ i → t.sh.locks[j] = s.sh.locks[j]) ∧
      t.sh.orphan = s.sh.orphan ∧ t.sh.freeze = s.sh.freeze ∧ t.sh.mask = s.sh.mask ∧
      SameBut [.sh] s t)

/-- R405, R401: LCK_ORPHAN clears the bits written as 1; a freeze sets once every acting lane has written a request block for
the same resource and mask, and at its release or expiry, which counts, the mask falls with the last freeze. An access that a freeze
holds off waits, and is made when the freeze ends. R423, R425-R427: START presets a channel of the writer's own and zeroes its count; a
granted beat feeds the strobed bytes or counts FEED_ERR, and one that is not granted waits; a read of CRC_RES_LO returns the result and
latches its upper half; each write of a START on a foreign channel counts in CRC_DENY. -/
def Obligations.FreezesAndCheckValues : Prop :=
  ((∀ (s : State) (hi : Bool) (val : Word), s.pwr.d3hot = false → (s.sh.round 1 .hostNonsecure []).2 = true →
    Sys2Proof.Machine.exec (.lckOrphanClear hi val) s = .next { s with sh := { (s.sh.round 1 .hostNonsecure []).1 with
      orphan := s.sh.orphan &&& ~~~(if hi then val ++ 0#32 else 0#32 ++ val) } }) ∧
  (∀ (s : State) (l : Lane) (res : Fin 6) (mask : Byte), s.acting ≠ 0 →
    (∀ m : Lane, m.inMask s.acting = true → m ≠ l → ∃ bs ∈ s.sh.freezeReq.get m,
      natAt bs 16 1 = res.val ∧ BitVec.ofNat 8 (natAt bs 17 1) &&& 0xF1#8 = mask &&& 0xF1#8) →
    ∃ t, Sys2Proof.Machine.exec (.arbFreezeRequest l res mask true) s = .next t ∧
      t.sh = { s.sh with freezeReq := s.sh.freezeReq.set l
                           (s.sh.freezeReq.get l ++ [s.exBlock .freeze l 0 [BitVec.ofNat 8 res.val, mask, 0, 0]])
                         freeze := s.sh.freeze ||| (1#6 <<< res.val), mask := mask &&& 0xF1#8 } ∧
      t.lane l = (s.lane l).sealedBlock .freeze ∧ (∀ m : Lane, m ≠ l → t.lane m = s.lane m) ∧
      SameBut [.sh, .lanes] s t) ∧
  (∀ (s : State) (l : Lane) (res : Fin 6) (mask : Byte), l.inMask s.acting = true → (∀ w ∈ s.sh.waiting, w.res ≠ res) →
    ∃ t, Sys2Proof.Machine.exec (.arbFreezeRequest l res mask false) s = .next t ∧
      t.sh.freeze = s.sh.freeze &&& ~~~(1#6 <<< res.val) ∧ t.sh.expireCnt = s.sh.expireCnt ∧
      t.sh.mask = (if t.sh.freeze = 0 then 0 else s.sh.mask) ∧
      t.sh.locks = s.sh.locks ∧ t.sh.waiting = s.sh.waiting ∧ SameBut [.sh] s t) ∧
  (∀ (s : State) (res : Fin 6), s.sh.freeze.getLsbD res.val = true → (∀ w ∈ s.sh.waiting, w.res ≠ res) →
    ∃ t, Sys2Proof.Machine.exec (.arbFreezeExpiry res) s = .next t ∧
      t.sh.freeze = s.sh.freeze &&& ~~~(1#6 <<< res.val) ∧
      t.sh.mask = (if t.sh.freeze = 0 then 0 else s.sh.mask) ∧
      t.sh.expireCnt = (if s.sh.expireCnt < 255 then s.sh.expireCnt + 1 else 255) ∧
      t.sh.locks = s.sh.locks ∧ t.sh.orphan = s.sh.orphan ∧ t.sh.lost = s.sh.lost ∧ t.sh.waiting = s.sh.waiting ∧
      SameBut [.sh] s t) ∧
  (∀ (s : State) (m : Master) (i : Fin 64) (rivals : List Master), s.hostBlind m = false → m ≠ .hubMovers →
    s.sh.freeze.getLsbD 1 = true →
    (s.sh.heldOff 1 m = true →
      Sys2Proof.Machine.exec (.lckRead m i rivals) s = .next { s with sh := { (s.sh.round 1 m rivals).1 with
        waiting := s.sh.waiting ++ [⟨1, m, .lckRead i⟩] } }) ∧
    (s.sh.waiting = [⟨1, m, .lckRead i⟩] → s.sh.locks[i].owner = 0 →
      ∃ t, Sys2Proof.Machine.exec (.arbFreezeExpiry 1) s = .next t ∧ t.sh.locks[i] = ⟨m.id, false⟩ ∧ t.sh.waiting = [] ∧
        (∀ j : Fin 64, j ≠ i → t.sh.locks[j] = s.sh.locks[j]) ∧ SameBut [.sh, .host] s t))) ∧
  ((∀ (s : State) (m : Master) (ch : Fin 16) (cfg : Word) (seed : Option DWord),
    s.hostBlind m = false → s.sh.heldOff 1 m = false → s.sh.waiting = [] → crcOwned m ch = true → cfg.getLsbD 4 = true →
    ∃ t, Sys2Proof.Machine.exec (.crcStart m ch cfg seed) s = .next t ∧
      t.crc.chans[ch].cnt = 0 ∧ t.crc.chans[ch].sel = cfg.setWidth 2 ∧ t.crc.chans[ch].runSel = cfg.setWidth 2 ∧
      t.crc.chans[ch].seedEn = cfg.getLsbD 8 ∧
      t.crc.chans[ch].seed = seed.getD s.crc.chans[ch].seed ∧
      t.crc.chans[ch].reg = BitVec.ofNat 64 (if cfg.getLsbD 8 then
        crcMask (cfg.setWidth 2) (seed.getD s.crc.chans[ch].seed).toNat else crcInit (cfg.setWidth 2)) ∧
      t.crc.chans[ch].feedErr = s.crc.chans[ch].feedErr ∧
      t.crc = { s.crc with chans := t.crc.chans } ∧
      (∀ j : Fin 16, j ≠ ch → t.crc.chans[j] = s.crc.chans[j]) ∧ t.sh = (s.sh.round 1 m []).1 ∧ SameBut [.crc, .sh] s t) ∧
  (∀ (s : State) (m : Master) (ch : Fin 16) (strb : Strobes) (val : Word) (rivals : List Master),
    s.hostBlind m = false → s.sh.waiting = [] → crcOwned m ch = true →
    ((s.sh.round 2 m rivals).2 = false →
      Sys2Proof.Machine.exec (.crcDataWrite m ch strb val rivals) s = .next { s with sh := { (s.sh.round 2 m rivals).1 with
        waiting := [⟨2, m, .crc ch (.data strb val)⟩] } }) ∧
    ((s.sh.round 2 m rivals).2 = true → ∃ t, Sys2Proof.Machine.exec (.crcDataWrite m ch strb val rivals) s = .next t ∧
      (∀ bs, strobed strb val = some bs →
        t.crc.chans[ch].reg = BitVec.ofNat 64 (bs.foldl (crcFeed s.crc.chans[ch].runSel) s.crc.chans[ch].reg.toNat) ∧
        t.crc.chans[ch].cnt = min 0xFFFFFFFF (s.crc.chans[ch].cnt + bs.length) ∧
        t.crc.chans[ch].feedErr = s.crc.chans[ch].feedErr) ∧
      (strobed strb val = none →
        t.crc.chans[ch].reg = s.crc.chans[ch].reg ∧ t.crc.chans[ch].cnt = s.crc.chans[ch].cnt ∧
        t.crc.chans[ch].feedErr = (if s.crc.chans[ch].feedErr < 255 then s.crc.chans[ch].feedErr + 1 else 255)) ∧
      t.crc = { s.crc with chans := t.crc.chans } ∧
      (∀ j : Fin 16, j ≠ ch → t.crc.chans[j] = s.crc.chans[j]) ∧ t.sh = (s.sh.round 2 m rivals).1 ∧
      SameBut [.crc, .sh] s t)) ∧
  (∀ (s : State) (m : Master) (ch : Fin 16) (cfg : Word) (seed : Option DWord),
    s.hostBlind m = false → s.sh.heldOff 1 m = false → crcOwned m ch = false →
    Sys2Proof.Machine.exec (.crcStart m ch cfg seed) s = .next { s with sh := (s.sh.round 1 m []).1, crc := { s.crc with
      denyCnt := min 65535 (s.crc.denyCnt + (if seed = none then 1 else 3)), denyMaster := m.id } }) ∧
  (∀ (s : State) (m : Master) (ch : Fin 16),
    (s.hostBlind m = true → Sys2Proof.Machine.exec (.crcResLoRead ⟨m, ch⟩) s = .next { s with host := { s.host with rdata := [0] } }) ∧
    (s.hostBlind m = false → s.sh.heldOff 1 m = false → s.sh.waiting = [] →
      ∃ t, Sys2Proof.Machine.exec (.crcResLoRead ⟨m, ch⟩) s = .next t ∧
        t.host.rdata = [BitVec.ofNat 32 s.crc.chans[ch].result] ∧
        t.crc.chans[ch] = { s.crc.chans[ch] with resHi := BitVec.ofNat 32 (s.crc.chans[ch].result / 4294967296) } ∧
        (∀ j : Fin 16, j ≠ ch → t.crc.chans[j] = s.crc.chans[j]) ∧ t.sh = (s.sh.round 1 m []).1 ∧
        SameBut [.crc, .host, .sh] s t)))

/-! ### Mailboxes, sessions, the host (R334, R406-R418, R530-R540) -/

/-- By a grant of the register bus (R396): R407, R410: a host write of a word of an inbound buffer sets COLLISION over FULL, and FULL with doorbell bit 0 for
bytes 60-63; a host read of an outbound word returns it, and bytes 60-63 clear FULL. R7, R411, R412: ABORTED and the
toward-host doorbell clear where a 1 is written; a write of MBX_DBMASK that unmasks a bit that is set raises the
channel's vector once, and none otherwise. -/
def Obligations.MailboxAccesses : Prop :=
  (∀ (s : State) (secure : Bool) (ch : Fin 8) (word : Fin 16) (val : Word) (g : Shared), s.pwr.d3hot = false →
    s.sh.round 1 (windowMaster secure) [] = (g, true) →
    (∃ t, Sys2Proof.Machine.exec (.mbxInBufWrite secure ch word val) s = .next t ∧
      t.mbx secure ch = { s.mbx secure ch with
        inBuf := (s.mbx secure ch).inBuf.set word val
        inColl := (s.mbx secure ch).inColl || (s.mbx secure ch).inFull
        inFull := (s.mbx secure ch).inFull || decide (word = 15)
        h2m := if word = 15 then (s.mbx secure ch).h2m ||| 1 else (s.mbx secure ch).h2m } ∧
      (∀ (b : Bool) (k : Fin 8), (b, k) ≠ (secure, ch) → t.mbx b k = s.mbx b k) ∧ t.sh = g ∧ SameBut [.mail, .sh] s t) ∧
    (∃ t, Sys2Proof.Machine.exec (.mbxOutBufRead secure ch word) s = .next t ∧
      t.mbx secure ch = { s.mbx secure ch with outFull := (s.mbx secure ch).outFull && decide (word ≠ 15) } ∧
      t.host = { s.host with rdata := [(s.mbx secure ch).outBuf[word]] } ∧
      (∀ (b : Bool) (k : Fin 8), (b, k) ≠ (secure, ch) → t.mbx b k = s.mbx b k) ∧ t.sh = g ∧ SameBut [.mail, .host, .sh] s t)) ∧
  (∀ (s : State) (secure : Bool) (ch : Fin 8) (val : Word) (g : Shared), s.pwr.d3hot = false →
    s.sh.round 1 (windowMaster secure) [] = (g, true) →
    (∃ t, Sys2Proof.Machine.exec (.mbxInStatAbortedClear secure ch val) s = .next t ∧
      t.mbx secure ch = { s.mbx secure ch with inAborted := (s.mbx secure ch).inAborted && !val.getLsbD 31 } ∧
      (∀ (b : Bool) (k : Fin 8), (b, k) ≠ (secure, ch) → t.mbx b k = s.mbx b k) ∧ t.sh = g ∧ SameBut [.mail, .sh] s t) ∧
    (∃ t, Sys2Proof.Machine.exec (.mbxDbM2hClear secure ch val) s = .next t ∧
      t.mbx secure ch = { s.mbx secure ch with m2h := (s.mbx secure ch).m2h &&& ~~~val } ∧
      (∀ (b : Bool) (k : Fin 8), (b, k) ≠ (secure, ch) → t.mbx b k = s.mbx b k) ∧ t.sh = g ∧ SameBut [.mail, .sh] s t) ∧
    (∃ t, Sys2Proof.Machine.exec (.mbxDbmaskWrite secure ch val) s = .next t ∧
      t.mbx secure ch = { s.mbx secure ch with mask := val } ∧
      (∀ (b : Bool) (k : Fin 8), (b, k) ≠ (secure, ch) → t.mbx b k = s.mbx b k) ∧
      t.host = (if (s.mbx secure ch).m2h &&& (s.mbx secure ch).mask &&& ~~~val = 0 then s.host
        else (s.raiseVec (if secure then ch.val else 8 + ch.val)).host) ∧
      t.sh = g ∧ SameBut [.mail, .host, .sh] s t))

/-- R409: into an empty outbound buffer the mover writes the oldest entry if two lane copies of it are equal, and
discards and counts it otherwise. R408: the first snapshot command of a lane of the agreement set in a tick copies every
full inbound buffer to each running lane and clears FULL, COLLISION and the toward-module doorbells; a later one of the
tick, or one of a lane whose P5 is suspended, changes nothing. R29, R35: the outbound posts that waited for it then enter their queues, as far as these have room, and
doorbell bit 5 announces those that found none. -/
def Obligations.HubMoversCopyMessages : Prop :=
  (∀ (s : State) (secure : Bool) (ch : Fin 8) (e : OutMsg) (rest : List OutMsg),
    (s.mbx secure ch).outFull = false → (s.mbx secure ch).queue = e :: rest →
    ∃ t, Sys2Proof.Machine.exec (.outboundMoverWrite secure ch) s = .next t ∧
      (t.mbx secure ch).queue = rest ∧
      (∀ (l m : Lane) (bs : List Byte), l ≠ m → e.copies.get l = some bs → e.copies.get m = some bs →
        (t.mbx secure ch).outFull = true ∧ (t.mbx secure ch).m2h = (s.mbx secure ch).m2h ||| 1 ∧
        (t.mbx secure ch).qdrop = (s.mbx secure ch).qdrop ∧
        ∀ i : Fin 16, (t.mbx secure ch).outBuf[i] = BitVec.ofNat 32 (natAt bs (4 * i.val) 4)) ∧
      ((∀ (l m : Lane) (bs : List Byte), l ≠ m → e.copies.get l = some bs → e.copies.get m ≠ some bs) →
        t.mbx secure ch = { s.mbx secure ch with
          queue := rest, qdrop := if (s.mbx secure ch).qdrop < 255 then (s.mbx secure ch).qdrop + 1 else 255 }) ∧
      (∀ (b : Bool) (k : Fin 8), (b, k) ≠ (secure, ch) → t.mbx b k = s.mbx b k) ∧
      t.sh = (s.sh.round 1 .hubMovers []).1 ∧ SameBut [.mail, .host, .sh] s t) ∧
  ((∀ (s : State) (l : Lane), l.inMask s.acting = true → s.mail.snapDone = false → s.ms.p5Left.get l = false →
    ∃ t, Sys2Proof.Machine.exec (.mailboxSnapshot l) s = .next t ∧
      t.mail.snapDone = true ∧ t.mail.toRead = s.fullBuffers ∧ t.mail.outWait = [] ∧
      (∀ (b : Bool) (k : Fin 8),
        let wait := (s.mail.outWait.filter (fun p => p.1 = b ∧ p.2.1 = k)).map (fun p => (⟨p.2.2⟩ : OutMsg))
        let room := 16 - (s.mbx b k).queue.length
        (t.mbx b k).inFull = false ∧ (t.mbx b k).inColl = false ∧ (t.mbx b k).h2m = 0 ∧
        (t.mbx b k).inBuf = (s.mbx b k).inBuf ∧ (t.mbx b k).outBuf = (s.mbx b k).outBuf ∧
        (t.mbx b k).outFull = (s.mbx b k).outFull ∧ (t.mbx b k).queue = (s.mbx b k).queue ++ wait.take room ∧
        (t.mbx b k).mask = (s.mbx b k).mask ∧
        (t.mbx b k).m2h = (s.mbx b k).m2h ||| (if (s.mbx b k).inFull then 2 else 0) |||
          (if room < wait.length then 32 else 0)) ∧
      (∀ m : Lane, m.inMask s.running = true → t.lane m = { s.lane m with msgs := s.fullBuffers }) ∧
      (∀ m : Lane, m.inMask s.running = false → t.lane m = s.lane m) ∧
      SameBut [.mail, .lanes, .host] s t) ∧
  (∀ (s : State) (l : Lane), s.mail.snapDone = true ∨ s.ms.p5Left.get l = true →
    Sys2Proof.Machine.exec (.mailboxSnapshot l) s = .next s))

/-- R414, R417: an OPEN gives every acting lane the session of the key that the channel's nonces make, with SEQ 0 both
ways, counts the session and sets its bit in AON; a CLOSE takes the session away in every acting lane, with CLOSE_CAUSE
1, the bit cleared, and R418, the session's last SEQ of each way, that of CLOSED among them, left in the registers. -/
def Obligations.SessionsOpenAndClose : Prop :=
  (∀ (s : State) (ch : Fin 8) (hnonce : BitVec 128) (key : BitVec 256),
    s.acting ≠ 0 → s.chanKey ch = some key →
    ∃ t, Sys2Proof.Machine.exec (.openSession ch hnonce) s = .next t ∧
      (∀ l : Lane, l.inMask s.acting = true → (t.lane l).region.k.sessions[ch] =
        some ⟨sessionKey key ch hnonce (mnonceOf key s.aon.restart s.ms.tick ((s.mbx true ch).sessCnt + 1) ch), 0, 0, 0⟩) ∧
      (t.mbx true ch).sessCnt = (s.mbx true ch).sessCnt + 1 ∧ t.aon.sessBits.getLsbD ch.val = true ∧
      SameBut [.lanes, .mail, .aon, .host] s t) ∧
  (∀ (s : State) (ch : Fin 8) (ses : Session),
    s.acting ≠ 0 → s.leadK.sessions[ch] = some ses →
    (∀ l : Lane, l.inMask s.acting = true → (s.lane l).region.k.sessions[ch] = some ses) →
    ∃ t, Sys2Proof.Machine.exec (.closeSession ch) s = .next t ∧
      (∀ l : Lane, l.inMask s.acting = true → (t.lane l).region.k.sessions[ch] = none) ∧
      (t.mbx true ch).closeCause = 1 ∧ (t.mbx true ch).inSeq = ses.inSeq ∧ (t.mbx true ch).outSeq = ses.outSeq + 1 ∧
      t.aon.sessBits.getLsbD ch.val = false ∧
      (t.mbx true ch).m2h.getLsbD 6 = true ∧
      SameBut [.lanes, .mail, .aon, .host] s t)

/-- R334: a read of a lower half returns it and latches the upper half; in D3hot the read returns 0 and latches nothing. R7,
R533: a host read of MOD_RRQ, of NET_LATE and of LOG_LOST returns the word as it stood and clears the
read-clear fields alone; in D3hot a read returns 0 and clears nothing. R536-R538: a mirror read of 4 to 64 bytes within
one 64-byte block returns the words of one lane's committed region, and changes nothing else; one that leaves the block
or the mirrors returns zeros. -/
def Obligations.HostReadsAnswerAndLatch : Prop :=
  (∀ s : State,
    (s.pwr.d3hot = false →
      Sys2Proof.Machine.exec .timNowLoRead s = .next { s with
        aon := { s.aon with timeLatch := s.aon.timeNs.extractLsb' 32 32 }
        host := { s.host with rdata := [s.aon.timeNs.setWidth 32] } } ∧
      Sys2Proof.Machine.exec .timTbaseLoRead s = .next { s with
        tim := { s.tim with tbaseLatch := s.tim.tbase.extractLsb' 32 32 }
        host := { s.host with rdata := [s.tim.tbase.setWidth 32] } }) ∧
    (s.pwr.d3hot = true →
      Sys2Proof.Machine.exec .timNowLoRead s = .next { s with host := { s.host with rdata := [0] } } ∧
      Sys2Proof.Machine.exec .timTbaseLoRead s = .next { s with host := { s.host with rdata := [0] } })) ∧
  (∀ s : State,
    (s.pwr.d3hot = false →
      Sys2Proof.Machine.exec (.rcRead .bar0 0x00002C#24) s = .next { s with
        rrq := { s.rrq with ignored := 0, accept := 0, short := 0 }
        host := { s.host with rdata := [s.modReg 0x2C] } } ∧
      Sys2Proof.Machine.exec (.rcRead .bar0 0x050048#24) s = .next { s with
        net := { s.net with late := 0, mismatch := 0 }
        host := { s.host with rdata := [s.netReg 0x48] } } ∧
      Sys2Proof.Machine.exec (.rcRead .bar0 0x0B0014#24) s = .next { s with
        log := { s.log with lostA := 0, lostE := 0 }
        host := { s.host with rdata := [s.log.reg32 0x14] } }) ∧
    (s.pwr.d3hot = true → ∀ (bar : Bar) (ofs : BitVec 24),
      Sys2Proof.Machine.exec (.rcRead bar ofs) s = .next { s with host := { s.host with rdata := [0] } })) ∧
  ((∀ (s : State) (ofs : BitVec 24) (n : Fin 17), s.pwr.d3hot = false → ofs.toNat % 4 = 0 → 1 ≤ n.val →
    ofs.toNat % 64 + 4 * n.val ≤ 64 → 0x100000 ≤ ofs.toNat → ofs.toNat < 0x1A0000 →
    Sys2Proof.Machine.exec (.mirrorRead ofs n) s = .next { s with host := { s.host with
      rdata := (List.range n.val).map (fun i => s.mirrorWord (ofs.toNat + 4 * i)) } }) ∧
  (∀ (s : State) (ofs : BitVec 24) (n : Fin 17), ofs.toNat % 64 + 4 * n.val > 64 ∨ ofs.toNat < 0x100000 →
    Sys2Proof.Machine.exec (.mirrorRead ofs n) s = .next { s with host := { s.host with
      rdata := (List.range n.val).map (fun _ => 0#32) } }))

/-- R449, R528, R533: host writes of TICK_DIV, of the gallery view and of the ring registers take the written fields, a
value outside a range as the nearest inside it; no write of MOD_RRQ or of an offset without a register, and in D3hot
none at all, changes anything. R452, R464, R533, R535, R548: GO sets BUSY with Bus Master Enable and the address and number of the items, ABORT and the end of a DMA,
of its last item or by an error, clear it with ERR as found and raise vector 18; the release of PERST_N trains the link; D3hot, and Bus Master Enable, follow their
configuration requests. R530, R531: a read of configuration space returns Vendor and Device ID, class code and Revision ID, and 0 for
BAR4 and BAR5 (the header's places are the model's, log 111). -/
def Obligations.HostWritesAndItsLink : Prop :=
  ((∀ (s : State) (val : Word), s.pwr.d3hot = false →
    Sys2Proof.Machine.exec (.hostRegisterWrite .bar0 0x0000A8#24 val) s = .next { s with host := { s.host with
      tickDiv := if val.setWidth 8 = 0#8 then 1#8 else val.setWidth 8 } } ∧
    Sys2Proof.Machine.exec (.hostRegisterWrite .bar0 0x060200#24 val) s = .next { s with gal := { s.gal with
      viewGal := val.extractLsb' 2 3, viewPort := val.setWidth 2 } } ∧
    Sys2Proof.Machine.exec (.hostRegisterWrite .bar0 0x0B011C#24 val) s = .next { s with log := { s.log with
      irqEn := val.getLsbD 1, en := val.getLsbD 0 } } ∧
    Sys2Proof.Machine.exec (.hostRegisterWrite .bar0 0x00002C#24 val) s = .next s ∧
    Sys2Proof.Machine.exec (.hostRegisterWrite .bar0 0x001000#24 val) s = .next s) ∧
  (∀ (s : State) (bar : Bar) (ofs : BitVec 24) (val : Word), s.pwr.d3hot = true →
    Sys2Proof.Machine.exec (.hostRegisterWrite bar ofs val) s = .next s)) ∧
  (∀ s : State,
    (s.upd.dmaBusy = false → s.pwr.dom.getLsbD 3 = true → s.pwr.busMaster = true →
      Sys2Proof.Machine.exec .updDmaGo s = .next { s with upd := { s.upd with
        dmaBusy := true, dmaErr := false, dmaAt := s.upd.dmaAddr, dmaLeft := s.upd.dmaCnt } }) ∧
    (s.upd.dmaBusy = true → s.host.msixMask.getLsbD 18 = false →
      Sys2Proof.Machine.exec .updDmaAbort s = .next { s with
        upd := { s.upd with dmaBusy := false, dmaErr := false, dmaLeft := 0 }, host := { s.host with raised := s.host.raised ++ [18] } } ∧
      ∀ err : Bool, err = true ∨ s.upd.dmaLeft = 0 → Sys2Proof.Machine.exec (.updDmaEnd err) s = .next { s with
        upd := { s.upd with dmaBusy := false, dmaErr := err, dmaLeft := 0 }
        host := { s.host with raised := s.host.raised ++ [18] } }) ∧
    Sys2Proof.Machine.exec .perstNRelease s = .next { s with pwr := { s.pwr with perstLow := false, linkUp := true } } ∧
    Sys2Proof.Machine.exec (.configurationRequest .enterD3hot) s =
      .next { s with pwr := { s.pwr with linkUp := true, d3hot := true } } ∧
    (∀ on : Bool, on = true ∨ s.upd.dmaBusy = false →
      Sys2Proof.Machine.exec (.configurationRequest (.busMaster on)) s =
        .next { s with pwr := { s.pwr with linkUp := true, busMaster := on } }) ∧
    (∀ (ofs : BitVec 12) (w : Word), (ofs = 0x000#12 ∧ w = 0x96201F6A#32) ∨
        (ofs = 0x008#12 ∧ w.extractLsb' 8 24 = 0x088000#24 ∧ w.setWidth 8 = (s.modId).setWidth 8) ∨
        ((ofs = 0x020#12 ∨ ofs = 0x024#12) ∧ w = 0#32) →
      Sys2Proof.Machine.exec (.configurationRequest (.read ofs)) s =
        .next { s with pwr := { s.pwr with linkUp := true }, host := { s.host with rdata := [w] } }))

/-! ### Field dies: tokens, tests, Echo, lockouts (R244-R300) -/

/-- R225, R246-R248: where its lane's gate has released a refresh, a lane interface takes a word as its token exactly if CHK, LANE, BANK and a later TICK hold, with ON_MASK
0 while the hub reports output hold; it discards and counts any other word; without a refresh nothing arrives; at its expiry it holds
no token. -/
def Obligations.InterfacesTakeTokens : Prop :=
  (∀ (s : State) (l : Lane) (b : Bank) (w : DWord), s.laneOn l = true → s.bankOn b = true → (s.iface l b).issued ≠ none →
    ∃ t, Sys2Proof.Machine.exec (.lanternToken l b w) s = .next t ∧
      ((w.extractLsb' 16 12 = tokenChk w ∧ (w.extractLsb' 30 2).toNat = l.num ∧
          (w.extractLsb' 28 2).toNat = b.val + 1 ∧
          (∀ k, (s.iface l b).lastTick = some k → 0 < (w.extractLsb' 32 32 - k).toInt)) →
        t.iface l b = { s.iface l b with
          token := some ⟨w.extractLsb' 32 32, if s.ms.outHold then 0 else w.extractLsb' 0 16⟩
          lastTick := some (w.extractLsb' 32 32), issued := none } ∧ t.vot = s.vot) ∧
      (¬ (w.extractLsb' 16 12 = tokenChk w ∧ (w.extractLsb' 30 2).toNat = l.num ∧
          (w.extractLsb' 28 2).toNat = b.val + 1 ∧
          (∀ k, (s.iface l b).lastTick = some k → 0 < (w.extractLsb' 32 32 - k).toInt)) →
        t.iface l b = { s.iface l b with
          discarded := if (s.iface l b).discarded < 255 then (s.iface l b).discarded + 1 else 255, issued := none } ∧
        t.vot = { s.vot with codeRej := if s.vot.codeRej < 255 then s.vot.codeRej + 1 else 255 }) ∧
      t.fld = { s.fld with ifaces := t.fld.ifaces } ∧
      (∀ (m : Lane) (c : Bank), (m, c) ≠ (l, b) → t.iface m c = s.iface m c) ∧ SameBut [.fld, .vot] s t) ∧
  (∀ (s : State) (l : Lane) (b : Bank) (w : DWord), (s.iface l b).issued = none →
    Sys2Proof.Machine.exec (.lanternToken l b w) s = .next s) ∧
  (∀ (s : State) (l : Lane) (b : Bank),
    ∃ t, Sys2Proof.Machine.exec (.tokenExpiry l b) s = .next t ∧
      t.iface l b = { s.iface l b with token := none } ∧ t.fld = { s.fld with ifaces := t.fld.ifaces } ∧
      (∀ (m : Lane) (c : Bank), (m, c) ≠ (l, b) → t.iface m c = s.iface m c) ∧ SameBut [.fld] s t)

/-- R263: a proof word is taken in PROVE, and from a WITHDRAWN lane in RUN-2; an empty mask ends the drive; in every
other mode and state the word changes nothing. R251-R253, R293, R295: gate drive is reached only while two lanes drive
the side's waveform and no trip latch is set, and starts the inrush window; a dropout below 20 µs keeps drive and one
above 40 µs loses it; the trip latch takes the drive of both switches, and clears once both majority waveforms are
stopped. -/
def Obligations.ProofWordsGatesAndTrips : Prop :=
  (∀ (s : State) (l : Lane) (b : Bank) (side : Side) (mask : BitVec 16),
    (s.laneOn l = true → s.bankOn b = true →
      (s.ms.mode = .prove ∨ (s.ms.mode = .run2 ∧ (s.lane l).svc = .withdrawn)) →
      ∃ t, Sys2Proof.Machine.exec (.proofWord l b side mask) s = .next t ∧
        t.iface l b = { s.iface l b with proof := if mask = 0 then none else some (side, mask) } ∧
        t.fld = { s.fld with ifaces := t.fld.ifaces } ∧
        (∀ (m : Lane) (c : Bank), (m, c) ≠ (l, b) → t.iface m c = s.iface m c) ∧ SameBut [.fld] s t) ∧
    (¬ (s.ms.mode = .prove ∨ (s.ms.mode = .run2 ∧ (s.lane l).svc = .withdrawn)) →
      Sys2Proof.Machine.exec (.proofWord l b side mask) s = .next s)) ∧
  (∀ (s : State) (ch : Chan) (side : Side),
    let put (g : Stage) : State := { s with fld := { s.fld with stages := s.fld.stages.set ch g } }
    let g := s.fld.stages[ch]
    (s.majority ch side = true → g.trip = false → g.gate side = false →
      Sys2Proof.Machine.exec (.gateDriveReached ch side) s = .next (put { g.setGate side true with inrush := true })) ∧
    (s.majority ch side = false → Sys2Proof.Machine.exec (.gateDriveReached ch side) s = .next s) ∧
    (∀ us : Nat, g.gate side = true → 40 < us →
      Sys2Proof.Machine.exec (.gateDriveLost ch side us) s = .next (put (g.setGate side false))) ∧
    (∀ us : Nat, us < 20 → Sys2Proof.Machine.exec (.gateDriveLost ch side us) s = .next s) ∧
    (∀ us : Nat, g.gate side = true → 20 ≤ us → us ≤ 40 → ∃ v : Bool,
      Sys2Proof.Machine.exec (.gateDriveLost ch side us) s = .next { put (g.setGate side v) with free := s.free + 1 }) ∧
    Sys2Proof.Machine.exec (.inrushWindowEnd ch) s = .next (put { g with inrush := false }) ∧
    ((s.chan ch).mode = .output ∨ (s.chan ch).mode = .outputFb →
      Sys2Proof.Machine.exec (.tripLatchSet ch) s = .next (put { g with trip := true, gateH := false, gateL := false })) ∧
    (s.majority ch .high = false → s.majority ch .low = false →
      Sys2Proof.Machine.exec (.tripLatchClear ch) s = .next (put { g with trip := false })) ∧
    (s.majority ch .high = true ∨ s.majority ch .low = true → Sys2Proof.Machine.exec (.tripLatchClear ch) s = .next s))

/-- R258-R261: a pulse kind falls due in every running lane once its interval has passed since it began to be counted; without a
result within two intervals it counts as overdue and raises an alarm while the channel's runs stay; a due pulse at its place,
or a retest's at once (R270), with the Echo that R260 asks for, awaits its result in every running lane beside a pulse of
another kind, one that would meet a dissent step is moved and does not count as overdue (R496), and one whose command P2 has changed gives
no result (R262). R285, R286, R288-R291: a lane's replica takes a level that no
reading contradicted for t_filt, from t_filt after its bank was switched on, and keeps its output otherwise; in the band the class before
goes on; a source's gap check sets each lane's finding for the source, which the OR of the lanes drives, and a tested input
that reads active in the gap fails until two checks pass. -/
def Obligations.TestPulsesAndInputs : Prop :=
  ((∀ (s : State) (ch : Chan) (kind : PulseKind), (s.chan ch).mode = .output ∨ (s.chan ch).mode = .outputFb →
    ∃ t, Sys2Proof.Machine.exec (.testPulseDue ch kind) s = .next t ∧
      (∀ l : Lane, l.inMask s.running = true →
        ((((t.lane l).region.k.outs[ch]).run kind).due = true ↔
          (((s.lane l).region.k.outs[ch]).run kind).due = true ∨
          ∃ at_, (((s.lane l).region.k.outs[ch]).run kind).since = some at_ ∧
            msTicks s.ms.tUs ((s.chan ch).testS * 1000) ≤ (s.ms.tick - at_).toNat) ∧
        ∀ c : Chan, c ≠ ch → (t.lane l).region.k.outs[c] = (s.lane l).region.k.outs[c]) ∧
      (∀ l : Lane, l.inMask s.running = false → t.lane l = s.lane l) ∧ SameBut [.lanes] s t) ∧
  (∀ (s : State) (ch : Chan) (kind : PulseKind) (at_ : Tick), (s.chan ch).mode = .output ∨ (s.chan ch).mode = .outputFb →
    ((s.leadK.outs[ch]).run kind).since = some at_ → ((s.leadK.outs[ch]).run kind).overdue = false →
    (((s.leadK.outs[ch]).run kind).moved = true → Sys2Proof.Machine.exec (.testPulseOverdue ch kind) s = .next s) ∧
    (((s.leadK.outs[ch]).run kind).moved = false →
    msTicks s.ms.tUs (2 * (s.chan ch).testS * 1000) ≤ (s.ms.tick - at_).toNat →
    ∃ t, Sys2Proof.Machine.exec (.testPulseOverdue ch kind) s = .next t ∧
      (∀ l : Lane, l.inMask s.running = true → (((t.lane l).region.k.outs[ch]).run kind).overdue = true ∧
        ((t.lane l).region.k.outs[ch]).lock = ((s.lane l).region.k.outs[ch]).lock) ∧
      (∀ l : Lane, l.inMask s.running = false → t.lane l = s.lane l) ∧
      t.vot = { s.vot with overdueCnt := if s.vot.overdueCnt < 255 then s.vot.overdueCnt + 1 else 255 } ∧
      SameBut [.lanes, .vot, .log, .mail, .host] s t)) ∧
  (∀ (s : State) (ch : Chan) (kind : PulseKind) (obs : PerLane PulseObs),
    (s.chan ch).mode = .output ∨ (s.chan ch).mode = .outputFb →
    ((s.leadK.outs[ch]).run kind).due = true → (∀ p ∈ (s.leadK.outs[ch]).pend, p.kind ≠ kind) → (s.leadK.outs[ch]).lock = none →
    s.aon.latch = false → s.inTicks = true → 0 < s.ms.tUs.toNat →
    (s.fld.regs[ch]).letsPulse kind = true →
    ((s.leadK.outs[ch]).run kind).atOnce = true ∨ (0 < s.part.pulseCycle[bankOf ch] ∧
      s.ms.tick.toNat % s.part.pulseCycle[bankOf ch] = ((s.chan ch).place kind).phase) →
    (s.meetsDissent ch kind = true →
      ∃ t, Sys2Proof.Machine.exec (.testPulse ch kind obs) s = .next t ∧
        (∀ l : Lane, l.inMask s.running = true →
          (t.lane l).region.k.outs[ch] = ((s.lane l).region.k.outs[ch]).setRun kind
            { ((s.lane l).region.k.outs[ch]).run kind with moved := true }) ∧
        (∀ l : Lane, l.inMask s.running = false → t.lane l = s.lane l) ∧ SameBut [.lanes] s t) ∧
    (s.meetsDissent ch kind = false → s.leadK.partO[0].getLsbD ch.val = decide (kind = .lowSide) →
      Sys2Proof.Machine.exec (.testPulse ch kind obs) s = .next { s with vot := { s.vot with
        noResult := if s.vot.noResult < 255 then s.vot.noResult + 1 else 255 } }) ∧
    (s.meetsDissent ch kind = false → s.leadK.partO[0].getLsbD ch.val = decide (kind ≠ .lowSide) →
    ∃ t, Sys2Proof.Machine.exec (.testPulse ch kind obs) s = .next t ∧
      (∀ l : Lane, l.inMask s.running = true → ∃ p : PulsePend,
        ((t.lane l).region.k.outs[ch]).pend = ((s.lane l).region.k.outs[ch]).pend ++ [p] ∧ p.kind = kind ∧
        (((t.lane l).region.k.outs[ch]).run kind).moved = false ∧
        p.tick = s.ms.tick + 1 + BitVec.ofNat 32 ((((s.chan ch).place kind).ofsUs + (s.chan ch).pulse10us * 10 + 200) / s.ms.tUs.toNat) ∧
        ∀ m : Lane, p.res.get m =
          if (obs.get m).ran = true ∧ m.inMask s.ms.voting = true ∧ (s.lane m).clockOk = true ∧
              (∃ k, (s.iface m (bankOf ch)).token = some k ∧ k.tick = s.ms.tick) then
            some (pulsePasses kind (obs.get m))
          else none) ∧
      (∀ l : Lane, l.inMask s.running = false → t.lane l = s.lane l) ∧ SameBut [.lanes] s t))) ∧
  ((∀ (s : State) (l : Lane) (ch : Chan) (level : RawLevel) (v : Level) (us : Nat) (other : List Int),
    (s.chan ch).mode.isIn = true → s.bankOn (bankOf ch) = true →
    (level = .inactive ∧ v = .inactive) ∨ (level = .active ∧ v = .active) ∨
      (level = .wireBreak ∧ v = .wireBreak ∧ (s.chan ch).mode = .inputWb) →
    ((∀ a ∈ other, a + (s.chan ch).filt.toNat * 100 ≤ us ∨ us ≤ a) →
      ((s.fld.reps.get l)[ch]).settled = true ∨
        ((s.fld.reps.get l)[ch]).since + 100000 * (s.chan ch).filt.toNat ≤ s.nowNs + 1000 * us →
      ∃ t, Sys2Proof.Machine.exec (.replicaFilterChange l ch level ⟨us, other⟩) s = .next t ∧
        (t.fld.reps.get l)[ch] = { (s.fld.reps.get l)[ch] with raw := some level, out := v, settled := true } ∧
        (∀ (m : Lane) (c : Chan), (m, c) ≠ (l, ch) → (t.fld.reps.get m)[c] = (s.fld.reps.get m)[c]) ∧
        t.fld = { s.fld with reps := t.fld.reps } ∧ SameBut [.fld] s t) ∧
    ((∃ a ∈ other, (us : Int) < a + (s.chan ch).filt.toNat * 100 ∧ a < us ∧ s.contradicts (s.chan ch) level a = true) ∨
        (((s.fld.reps.get l)[ch]).settled = false ∧
          s.nowNs + 1000 * us < ((s.fld.reps.get l)[ch]).since + 100000 * (s.chan ch).filt.toNat) →
      ∃ t, Sys2Proof.Machine.exec (.replicaFilterChange l ch level ⟨us, other⟩) s = .next t ∧
        (t.fld.reps.get l)[ch] = { (s.fld.reps.get l)[ch] with raw := some level } ∧
        (∀ (m : Lane) (c : Chan), (m, c) ≠ (l, ch) → (t.fld.reps.get m)[c] = (s.fld.reps.get m)[c]) ∧
        t.fld = { s.fld with reps := t.fld.reps } ∧ SameBut [.fld] s t)) ∧
  (∀ (s : State) (l : Lane) (ch : Chan) (level : RawLevel) (run : FilterRun), (s.chan ch).mode = .inputWb →
    ((s.fld.reps.get l)[ch]).raw = some level → level ≠ .band →
    Sys2Proof.Machine.exec (.replicaFilterChange l ch .band run) s = Sys2Proof.Machine.exec (.replicaFilterChange l ch level run) s) ∧
  (∀ (s : State) (src : Chan) (obs : PerLane GapObs), s.fld.srcGap = some src →
    ∃ t, Sys2Proof.Machine.exec (.testSourceGap src obs) s = .next t ∧
      (∀ l : Lane, ((t.fld.reps.get l)[src]).srcOk = true ↔
        (obs.get l).highBefore = true ∧ (obs.get l).lowInGap = true ∧ (∃ m : Lane, s.laneDrives m src = true) ∧
        ∀ m : Lane, s.laneDrives m src = true → (obs.get m).noGap = false) ∧
      (∀ (l : Lane) (k : Chan), (s.chan k).mode = .inputTested → (s.chan k).link = some src →
        ((t.fld.reps.get l)[k]).ownGap = (if k ∈ (obs.get l).activeIn then 2 else ((s.fld.reps.get l)[k]).ownGap - 1)) ∧
      (∀ (l : Lane) (k : Chan), k ≠ src → ¬ ((s.chan k).mode = .inputTested ∧ (s.chan k).link = some src) →
        (t.fld.reps.get l)[k] = (s.fld.reps.get l)[k]) ∧
      t.fld = { s.fld with reps := t.fld.reps, srcGap := none } ∧ SameBut [.fld] s t))

/-- R250: each powered lane keeps what its phase marks showed; the first mark that stays away from a lane raises one
alarm, and nothing but the marks' record and the log changes. R269, R296, R270: a feedback mismatch that outlasts its
window, and an overload that lasts 100 ms on a channel settled on, lock the channel out with their cause in every
running lane, which then commands it off; a channel already locked out keeps its first cause. R255, R297: the third
split tick in a row locks the channel out with cause 0x9 in every running lane; the tenth edge of a bank overload sets
the bank's register and locks out the channel of that bank that was commanded on last, and no channel of another bank. -/
def Obligations.FindingsOfTheOutputs : Prop :=
  (∀ (s : State) (arrived : PerLane Bool),
    ∃ t, Sys2Proof.Machine.exec (.phaseMark arrived) s = .next t ∧
      (∀ l : Lane, s.laneOn l = true →
        t.vot.markSeen.get l = (s.vot.markSeen.get l || arrived.get l) ∧
        t.vot.markMiss.get l = (s.vot.markMiss.get l || !arrived.get l) ∧ t.vot.markLost.get l = !arrived.get l) ∧
      (∀ l : Lane, s.laneOn l = false → t.vot.markLost.get l = s.vot.markLost.get l) ∧
      ((∀ l : Lane, s.laneOn l = true → arrived.get l = true ∨ s.vot.markLost.get l = true) → t.log = s.log) ∧
      SameBut [.vot, .log, .mail, .host] s t) ∧
  (∀ (s : State) (ch : Chan), s.inTicks = true →
    ((s.chan ch).mode = .outputFb →
      ∃ t, Sys2Proof.Machine.exec (.feedbackMismatchWindow ch) s = .next t ∧
        (∀ l : Lane, l.inMask s.running = true →
          ((t.lane l).region.k.outs[ch]).lock = (((s.lane l).region.k.outs[ch]).lock.or (some ⟨8, s.ms.tick⟩)) ∧
          (t.lane l).region.k.partO[0].getLsbD ch.val = false ∧
          ∀ c : Chan, c ≠ ch → ((t.lane l).region.k.outs[c]).lock = ((s.lane l).region.k.outs[c]).lock) ∧
        (∀ l : Lane, l.inMask s.running = false → t.lane l = s.lane l) ∧
        SameBut [.lanes, .fld, .vot, .log, .mail, .host] s t) ∧
    ((s.chan ch).mode = .output ∨ (s.chan ch).mode = .outputFb → settledOn s.ms.tUs s.leadK.outs[ch] = true →
      ∃ t, Sys2Proof.Machine.exec (.overloadTimeout ch) s = .next t ∧
        (∀ l : Lane, l.inMask s.running = true →
          ((t.lane l).region.k.outs[ch]).lock = (((s.lane l).region.k.outs[ch]).lock.or (some ⟨7, s.ms.tick⟩)) ∧
          (t.lane l).region.k.partO[0].getLsbD ch.val = false) ∧
        (∀ l : Lane, l.inMask s.running = false → t.lane l = s.lane l) ∧
        SameBut [.lanes, .fld, .vot, .log, .mail, .host] s t)) ∧
  (∀ s : State, s.inTicks = true →
    (∀ ch : Chan, (s.chan ch).mode = .output ∨ (s.chan ch).mode = .outputFb →
      ∃ t, Sys2Proof.Machine.exec (.echoSplitMismatch ch) s = .next t ∧
        (∀ l : Lane, l.inMask s.running = true →
          ((t.lane l).region.k.outs[ch]).lock = (((s.lane l).region.k.outs[ch]).lock.or (some ⟨9, s.ms.tick⟩)) ∧
          ∀ c : Chan, c ≠ ch → ((t.lane l).region.k.outs[c]).lock = ((s.lane l).region.k.outs[c]).lock) ∧
        (∀ l : Lane, l.inMask s.running = false → t.lane l = s.lane l) ∧
        SameBut [.lanes, .fld, .vot, .log, .mail, .host] s t) ∧
    (∀ b : Bank,
      ∃ t, Sys2Proof.Machine.exec (.bankOverload b) s = .next t ∧
        (t.fld.banks[b]).ovl = true ∧
        (∀ l : Lane, l.inMask s.running = true → ∀ c : Chan, bankOf c ≠ b →
          ((t.lane l).region.k.outs[c]).lock = ((s.lane l).region.k.outs[c]).lock) ∧
        (∀ l : Lane, l.inMask s.running = true → ∀ c : Chan, ((s.lane l).region.k.outs[c]).lock = none →
          0 < ((s.lane l).region.k.outs[c]).onRun → (s.chan c).mode.isOut = true → bankOf c = b →
          (∀ d : Chan, bankOf d = b → (s.chan d).mode.isOut = true → 0 < ((s.lane l).region.k.outs[d]).onRun →
            ((s.lane l).region.k.outs[d]).lock = none → d ≠ c →
            tickGt ((s.lane l).region.k.outs[c]).onTick ((s.lane l).region.k.outs[d]).onTick = true) →
          ((t.lane l).region.k.outs[c]).lock = some ⟨7, s.ms.tick⟩) ∧
        (∀ l : Lane, l.inMask s.running = false → t.lane l = s.lane l) ∧
        SameBut [.lanes, .fld, .vot, .log, .mail, .host] s t))

/-! ### Lanes: limits of the tick, self-checking, proof and copy (R32-R48, R184-R243, R489-R497) -/

/-- R32, R206, R17, R37, R240: a lane in service that misses the commit deadline fails the tick and leaves service with cause 0x1, its
window shows a tick failed without reserve, its watchdog is armed, and neither what its gate holds nor what it sealed in the tick goes out; from
RUN with three votes the module goes on in RUN-2. R184, R202, R217: a member that has no block of any other member
leaves service with cause 0x5; a lane of which no other has a digest message leaves with cause 0x1; every lane that met
no limit stays as it was. -/
def Obligations.TickLimitsFailLanes : Prop :=
  (∀ (s : State) (l : Lane), s.inTicks = true → (s.lane l).svc = .inService →
    ∃ t, Sys2Proof.Machine.exec (.commitDeadline l) s = .next t ∧
      t.lane l = { s.lane l with
        failedTick := true, svc := .out, lastCause := 1, regionOk := false, voted := false, copyReq := true, held := []
        check := { (s.lane l).check with injLock := true }, wdog := { (s.lane l).wdog with armed := true }
        budget := { (s.lane l).budget with
          winFailed := true, winBelow := true, winReserve := some 0
          winT4 := max (s.lane l).budget.winT4 (s.ms.tUs.toNat - 50), low := true }
        exitCnt := if (s.lane l).exitCnt < 255 then (s.lane l).exitCnt + 1 else 255 } ∧
      (∀ x ∈ t.buf.tx, x.tick = s.ms.tick → x.copies.get l = none) ∧
      (∀ m : Lane, m ≠ l → t.lane m = s.lane m) ∧
      (∀ m : Lane, m.inMask t.ms.voting = (m.inMask s.ms.voting && decide (m ≠ l))) ∧
      (s.ms.mode = .run → s.ms.voting = 7#3 → s.aon.latch = false → t.ms.mode = .run2) ∧
      t.fuses = s.fuses ∧ t.fld = s.fld ∧ t.sh = s.sh ∧ t.pending = s.pending) ∧
  ((∀ (s : State) (missing : List (Lane × Lane)), s.inTicks = true →
    ∃ t, Sys2Proof.Machine.exec (.p1WaitLimit missing) s = .next t ∧
      (∀ l : Lane, (s.lane l).svc = .inService → l.inMask s.acting = true → 1 < countMask s.acting →
        (∀ m : Lane, m.inMask s.acting = true → m ≠ l → (l, m) ∈ missing) →
        (t.lane l).svc = .out ∧ (t.lane l).lastCause = 5 ∧ (t.lane l).failedTick = true ∧ (t.lane l).copyReq = true) ∧
      (∀ l m : Lane, m.inMask s.acting = true → m ≠ l → (l, m) ∉ missing → t.lane l = s.lane l) ∧
      t.fuses = s.fuses ∧ t.fld = s.fld ∧ t.pending = s.pending) ∧
  (∀ (s : State) (missing : List (Lane × Lane)), s.inTicks = true →
    ∃ t, Sys2Proof.Machine.exec (.p3WaitLimit missing) s = .next t ∧
      (∀ l m : Lane, (s.lane l).svc = .inService → m ≠ l → m.inMask s.running = true →
        (∀ k : Lane, k.inMask s.running = true → k ≠ l → (k, l) ∈ missing) →
        (t.lane l).svc = .out ∧ (t.lane l).lastCause = 1 ∧ (t.lane l).failedTick = true) ∧
      (∀ l m : Lane, m ≠ l → m.inMask s.running = true → m.inMask s.ms.voting = true →
        (m, l) ∉ missing → (l, m) ∉ missing →
        (∀ k : Lane, k ≠ m → k.inMask s.running = true → (k, m) ∉ missing) → t.lane l = s.lane l) ∧
      t.fuses = s.fuses ∧ t.pending = s.pending))

/-- R225, R233, R239: an open commit gate releases what it holds: a token refresh issues the token of its bank, where the bank has
outputs, and serves the watchdog, as a SOUND mark does under the latch; a frame enters the transmit buffer; a closed gate releases
nothing; an alive check with sound hardware only sets ALIVE_OK, and one with a deviation is a lane-check fault of source 0x7. R35,
R37, R236, R493: a suspension keeps the lane's P5 work, the scrubber's part of the tick among it, without failing the tick; the end of a window of 1,024 ticks puts each lane's figures into
MOD_BUDGET and starts the next; a rolling proof that falls due is marked; nothing else changes. R239-R241: a served
window brings an armed watchdog's count to 0, an unserved one counts, and the third in a row resets the lane with a
fault record of source 0x02; an unarmed watchdog never does. -/
def Obligations.GatesAndWindows : Prop :=
  ((∀ (s : State) (l : Lane), (s.lane l).check.gateClosed = false → (s.lane l).check.injMode = false →
    ∃ t, Sys2Proof.Machine.exec (.commitGateRelease l) s = .next t ∧
      t.lane l = { s.lane l with held := [], wdog := { (s.lane l).wdog with served := (t.lane l).wdog.served } } ∧
      ((t.lane l).wdog.served = true ↔ (s.lane l).wdog.served = true ∨ (∃ b : Bank, .token b ∈ (s.lane l).held) ∨
        (.service ∈ (s.lane l).held ∧ s.aon.latch = true)) ∧
      (∀ m : Lane, m ≠ l → t.lane m = s.lane m) ∧
      (∀ b : Bank, .token b ∈ (s.lane l).held → s.bankOut b = true →
        t.iface l b = { s.iface l b with issued := some (mkToken s.ms.tick l.num (b.val + 1)
          (if s.ms.outHold then 0 else (((s.lane l).region.k.partO[0]) >>> (16 * b.val)).setWidth 16)) }) ∧
      (∀ b : Bank, .token b ∉ (s.lane l).held ∨ s.bankOut b = false → t.iface l b = s.iface l b) ∧
      (∀ (m : Lane) (b : Bank), m ≠ l → t.iface m b = s.iface m b) ∧
      t.fld = { s.fld with ifaces := t.fld.ifaces } ∧
      (∀ (stream : BitVec 12) (tick : Tick) (copy : Sealed), .descriptor stream tick copy ∈ (s.lane l).held →
        ∃ x ∈ t.buf.tx, x.stream = stream ∧ x.tick = tick ∧ (x.copies.get l).isSome = true) ∧
      t.buf = { s.buf with tx := t.buf.tx } ∧
      ((∀ (stream : BitVec 12) (tick : Tick) (copy : Sealed), .descriptor stream tick copy ∉ (s.lane l).held) → t.buf = s.buf) ∧
      SameBut [.lanes, .fld, .buf] s t) ∧
  (∀ (s : State) (l : Lane), (s.lane l).check.gateClosed = true ∨ (s.lane l).check.injMode = true →
    Sys2Proof.Machine.exec (.commitGateRelease l) s = .next s) ∧
  (∀ (s : State) (l : Lane) (hw : Checker), (s.lane l).svc ≠ .disabled → Checker.aliveOk hw = true →
    ∃ t, Sys2Proof.Machine.exec (.aliveCheck l hw) s = .next t ∧
      t.lane l = { s.lane l with check := { (s.lane l).check with aliveOk := true } } ∧
      (∀ m : Lane, m ≠ l → t.lane m = s.lane m) ∧ SameBut [.lanes] s t) ∧
  (∀ (s : State) (l : Lane) (hw : Checker), s.ms.mode = .run → s.ms.voting = 7#3 → (s.lane l).svc = .inService →
    (s.lane l).check.injMode = false → Checker.aliveOk hw = false →
    ∃ t, Sys2Proof.Machine.exec (.aliveCheck l hw) s = .next t ∧
      (t.lane l).lastCause = 3 ∧ (t.lane l).held = [] ∧ (∀ m : Lane, m.inMask t.ms.voting = decide (m ≠ l)) ∧
      (∃ r, t.aon.faultRec = some r ∧ r.src = 1 ∧ r.code = 7 ∧ r.lane = BitVec.ofNat 8 l.num) ∧
      (∀ m : Lane, m ≠ l → t.lane m = s.lane m) ∧ t.fuses = s.fuses ∧ t.pending = s.pending)) ∧
  (∀ s : State,
    (∀ l : Lane, s.inTicks = true → (s.lane l).svc = .inService ∨ (s.lane l).svc = .out ∨ (s.lane l).svc = .resync →
      ∃ t, Sys2Proof.Machine.exec (.p5Suspension l) s = .next t ∧ t.ms = { s.ms with p5Left := s.ms.p5Left.set l true } ∧
        t.lane l = { s.lane l with check := { (s.lane l).check with scrubPos := (t.lane l).check.scrubPos } } ∧
        (t.lane l).check.scrubPos =
          (if s.ms.p5Left.get l then (s.lane l).check.scrubPos else ((s.lane l).check.scrubPos + 191) % 192) ∧
        (∀ m : Lane, m ≠ l → t.lane m = s.lane m) ∧ SameBut [.ms, .lanes] s t) ∧
    (s.inTicks = true → s.ms.tick.toNat % 1024 = 1023 →
      ∃ t, Sys2Proof.Machine.exec .budgetWindowEnd s = .next t ∧
      (∀ l : Lane, (t.lane l).budget = { (s.lane l).budget with
          failedTick := (s.lane l).budget.winFailed, belowPlan := (s.lane l).budget.winBelow
          reserveMin := (s.lane l).budget.winReserve.getD 0, t4Max := (s.lane l).budget.winT4
          winFailed := false, winBelow := false, winReserve := none, winT4 := 0 } ∧
        (t.lane l).plan.t4w.head? = some (s.lane l).budget.winT4 ∧ (t.lane l).plan.t4w.length ≤ 64 ∧
        t.lane l = { s.lane l with budget := (t.lane l).budget
                                   plan := { (s.lane l).plan with t4w := (t.lane l).plan.t4w } }) ∧
      SameBut [.lanes] s t) ∧
    (∀ (l : Lane) (d : Nat), (s.prf.lanes.get l).dueNs = some d → d ≤ s.nowNs →
      ∃ t, Sys2Proof.Machine.exec (.rollingProofDue l) s = .next t ∧
      t.prf.lanes.get l = { s.prf.lanes.get l with due := true } ∧
      (∀ m : Lane, m ≠ l → t.prf.lanes.get m = s.prf.lanes.get m) ∧
      t.prf = { s.prf with lanes := t.prf.lanes } ∧ SameBut [.prf] s t)) ∧
  (∀ (s : State) (l : Lane) (byTimeout : Bool),
    ((s.lane l).wdog.armed = false ∨ (s.lane l).wdog.served = true ∨ (s.lane l).wdog.fails < 2 →
      ∃ t, Sys2Proof.Machine.exec (.watchdogWindowEnd l byTimeout) s = .next t ∧
        ((s.lane l).wdog.armed = false → (t.lane l).wdog.fails = (s.lane l).wdog.fails) ∧
        ((s.lane l).wdog.armed = true → (s.lane l).wdog.served = true → (t.lane l).wdog.fails = 0) ∧
        ((s.lane l).wdog.armed = true → (s.lane l).wdog.served = false →
          (t.lane l).wdog.fails = (s.lane l).wdog.fails + 1) ∧
        t.lane l = { s.lane l with wdog := { (s.lane l).wdog with
          timeout := byTimeout, fails := (t.lane l).wdog.fails, served := false } } ∧
        (∀ m : Lane, m ≠ l → t.lane m = s.lane m) ∧ SameBut [.lanes] s t) ∧
    ((s.lane l).wdog.armed = true → (s.lane l).wdog.served = false → 2 ≤ (s.lane l).wdog.fails →
      (s.lane l).svc ≠ .disabled →
      ∃ t, Sys2Proof.Machine.exec (.watchdogWindowEnd l byTimeout) s = .next t ∧
        (t.lane l).svc = .reset ∧ (t.lane l).wdog.armed = false ∧ (t.lane l).wdog.fails = 0 ∧
        (t.lane l).wdog.resetCnt = (if (s.lane l).wdog.resetCnt < 255 then (s.lane l).wdog.resetCnt + 1 else 255) ∧
        (∃ r, t.aon.faultRec = some r ∧ r.src = 2 ∧ r.lane = BitVec.ofNat 8 l.num ∧ r.tick = s.ms.tick) ∧
        (∀ m : Lane, m ≠ l → t.lane m = s.lane m) ∧ t.fuses = s.fuses ∧ t.pending = s.pending))

/-- R225-R227, R275: a lane-check fault of a voting lane in RUN, raised by the source that the checker tree reports of a cycle, by a
gate that stands open meanwhile (0x9, log 103) or by an uncorrectable read (0x8, R235), leaves a fault record of source 0x01, takes
the lane out of the vote with cause 0x3 and resets it; the module goes on in RUN-2 with the other two. A corrected read is counted,
toward R237's 16 of the window too, and located. R219, R238, R243, R405, R428,
R470: a LANE reset brings the lane's lane-check registers, part K and the rest of its committed region, its interfaces
and its check-value channels to their reset state, frees and marks its locks, and leaves the other lanes as they are. -/
def Obligations.LanesAreReset : Prop :=
  (∀ (s : State) (l : Lane) (cycles : List LaneCycle) (hw : Checker) (ue : Option EccRead) (src : BitVec 4),
    s.ms.mode = .run → s.ms.voting = 7#3 → s.aon.latch = false → (s.lane l).svc = .inService →
    (s.lane l).check.injMode = false →
    ((∃ d, ((s.lane l).runCycles hw cycles).2 = some (src, d)) ∧ (hw.gateOpen = false ∨ (s.lane l).held = [])) ∨
      (((s.lane l).runCycles hw cycles).2 ≠ none ∧ hw.gateOpen = true ∧ (s.lane l).held ≠ [] ∧ src = 9) ∨
      (((s.lane l).runCycles hw cycles).2 = none ∧ src = 8 ∧ ∃ r, ue = some r ∧ EccRead.outcome r = .uncorrectable) →
    ∃ t, Sys2Proof.Machine.exec (.laneCheckFault l ⟨cycles, hw⟩ ue) s = .next t ∧
      ((t.lane l).svc = .reset ∨ (t.lane l).svc = .disabled) ∧ (t.lane l).lastCause = 3 ∧
      (t.lane l).held = [] ∧ (t.lane l).region = Carried.reset ∧
      (t.lane l).wdog.armed = false ∧
      (t.lane l).exitCnt = (if (s.lane l).exitCnt < 255 then (s.lane l).exitCnt + 1 else 255) ∧
      (∀ m : Lane, m ≠ l → t.lane m = s.lane m) ∧
      t.ms.mode = .run2 ∧ (∀ m : Lane, m.inMask t.ms.voting = decide (m ≠ l)) ∧
      (∃ r, t.aon.faultRec = some r ∧ r.src = 1 ∧ r.code = src.setWidth 8 ∧
        r.lane = BitVec.ofNat 8 l.num ∧ r.time = s.aon.timeNs ∧ r.tick = s.ms.tick) ∧
      t.aon.latch = false ∧ t.fuses = s.fuses ∧ t.pending = s.pending) ∧
  (∀ (s : State) (l : Lane) (hw : Checker) (r : EccRead), (s.lane l).svc ≠ .disabled → EccRead.outcome r = .corrected →
    ∃ t, Sys2Proof.Machine.exec (.laneCheckFault l ⟨[], hw⟩ (some r)) s = .next t ∧
      t.lane l = { s.lane l with check := { (s.lane l).check with
        eccMem := LaneMem.code r.mem, eccAddr := r.addr, eccUe := false
        ceCnt := if (s.lane l).check.ceCnt < 65535 then (s.lane l).check.ceCnt + 1 else 65535 }
                                 ceWin := (s.lane l).ceWin + 1 } ∧
      (∀ m : Lane, m ≠ l → t.lane m = s.lane m) ∧ ((s.lane l).ceWin ≠ 16 → t.log = s.log) ∧
      SameBut [.lanes, .log, .mail, .host] s t) ∧
  (∀ (s : State) (l : Lane), (s.lane l).svc ≠ .disabled →
    ∃ t, Sys2Proof.Machine.exec (.lane l) s = .next t ∧
      (t.lane l).svc = .reset ∧ (t.lane l).region = Carried.reset ∧ (t.lane l).regionOk = false ∧
      (t.lane l).check = LaneCheck.reset ∧ (t.lane l).held = [] ∧ (t.lane l).wdog.armed = false ∧
      (t.lane l).wdog.resetCnt = (s.lane l).wdog.resetCnt ∧
      (∀ b : Bank, t.iface l b = Iface.reset) ∧
      (∀ i : Fin 16, i.val / 4 = l.idx → t.crc.chans[i] = Crc.reset) ∧
      (∀ i : Fin 16, i.val / 4 ≠ l.idx → t.crc.chans[i] = s.crc.chans[i]) ∧
      (∀ i : Fin 64, s.sh.locks[i].owner = BitVec.ofNat 4 l.num →
        t.sh.locks[i] = ⟨0, true⟩ ∧ t.sh.orphan.getLsbD i.val = true) ∧
      (∀ i : Fin 64, s.sh.locks[i].owner ≠ BitVec.ofNat 4 l.num → t.sh.locks[i] = s.sh.locks[i]) ∧
      (∀ m : Lane, m ≠ l → t.lane m = s.lane m ∧ ∀ b : Bank, t.iface m b = s.iface m b) ∧
      t.ms.mode = s.ms.mode ∧ t.aon.latch = s.aon.latch ∧ t.fuses = s.fuses ∧ t.mail.toRead = s.mail.toRead ∧
      t.pending = s.pending)

/-- R210, R229-R231, R490, R50: a reset lane that passes its proof, its injections all found by the checking hardware, is OUT with a
copy request, injection locked and its watchdog armed at 0; without a proof in time it takes one LANE reset, and at the second failure it is disabled. R207, R209: a
lane whose copy request is valid (R393) takes the committed region of the voting lane with the lowest letter, which counts its segments, and its
attempt fails under another vector map; an invalid request starts nothing; a copy that arrives as it was sealed matches, one with a segment whose
tags, SEQ or code fail does not; one that matches in time makes its region good; one that does not leaves the lane OUT with a new
request and cause 0x9. -/
def Obligations.LanesComeBack : Prop :=
  ((∀ (s : State) (l : Lane) (hw : Checker), (s.lane l).svc = .reset → (s.lane l).hot = false →
    s.ms.mode ≠ .boot → s.ms.mode ≠ .prove → s.ms.mode ≠ .join →
    (s.lane l).check.injLock = false → Checker.misses hw = 0 →
    ∃ t, Sys2Proof.Machine.exec (.laneProofDone l none hw) s = .next t ∧
      (t.lane l).svc = .out ∧ (t.lane l).copyReq = true ∧ (t.lane l).proofFails = 0 ∧ (t.lane l).copyFails = 0 ∧
      (t.lane l).check.injLock = true ∧ (t.lane l).check.injDone = 4220 ∧ (t.lane l).check.injMiss = 0 ∧
      (t.lane l).wdog = { (s.lane l).wdog with armed := true, fails := 0 } ∧
      (∀ m : Lane, m ≠ l → (t.lane m).svc = (s.lane m).svc ∧ (t.lane m).check = (s.lane m).check) ∧
      SameBut [.lanes, .prf] s t) ∧
  (∀ (s : State) (l : Lane), (s.lane l).svc = .reset → s.ms.mode ≠ .boot → s.ms.mode ≠ .prove →
    ∃ t, Sys2Proof.Machine.exec (.copyRequestTimeout l) s = .next t ∧
      ((s.lane l).proofFails = 0 → (t.lane l).svc = .reset ∧ (t.lane l).proofFails = 1) ∧
      ((s.lane l).proofFails ≠ 0 → (t.lane l).svc = .disabled) ∧
      (∀ m : Lane, m ≠ l → (t.lane m).svc = (s.lane m).svc ∧ (t.lane m).region = (s.lane m).region) ∧
      t.ms.mode = s.ms.mode ∧ t.fuses = s.fuses ∧ t.pending = s.pending)) ∧
  ((∀ (s : State) (l d : Lane) (r : List Lane) (req : Option (List Byte)), (s.lane l).svc = .out → (s.lane l).copyReq = true →
    lanesOf s.ms.voting = d :: r → (∀ bs, req = some bs → s.exOk .request l 0 (s.requestBody l) bs = true) →
    ∃ t, Sys2Proof.Machine.exec (.resyncCopyStart ⟨l, req⟩) s = .next t ∧
      (t.lane l).exSeq[3] = (s.lane l).exSeq[3] + 1 ∧ (∀ m : Lane, m ≠ l → m ≠ d → t.lane m = s.lane m) ∧
      (s.vmapOf d = s.vmapOf l →
        t.lane l = { s.lane l with
          svc := .resync, copyReq := false, donor := some d, region := (s.lane d).region, regionOk := false
          exSeq := (t.lane l).exSeq } ∧
        (d ≠ l → t.lane d = { s.lane d with exSeq := (t.lane d).exSeq } ∧
          (t.lane d).exSeq[4] = (s.lane d).exSeq[4] + BitVec.ofNat 32 (s.segments d).length) ∧
        SameBut [.lanes] s t) ∧
      (s.vmapOf d ≠ s.vmapOf l →
        (t.lane l).svc = .out ∧ (t.lane l).copyReq = true ∧ (t.lane l).lastCause = 9 ∧
        (t.lane l).region = (s.lane l).region ∧ t.fuses = s.fuses ∧ t.pending = s.pending)) ∧
  (∀ (s : State) (l : Lane) (bs : List Byte), s.exOk .request l 0 (s.requestBody l) bs = false →
    Sys2Proof.Machine.exec (.resyncCopyStart ⟨l, some bs⟩) s = .next s) ∧
  (∀ (s : State) (d : Lane), s.copyEqual d ⟨none, []⟩ = true) ∧
  (∀ (s : State) (d : Lane) (flip : Option VecFlip) (x : SegObs) (r : List SegObs) (p : Nat × List DWord),
    (s.segments d)[x.place]? = some p → s.segmentOk d (s.segments d).length x.place p x.bytes = false →
    s.copyEqual d ⟨flip, x :: r⟩ = false) ∧
  (∀ (s : State) (l d : Lane) (copy : CopyObs), (s.lane l).svc = .resync → (s.lane l).donor = some d →
    (s.lane d).svc = .inService → s.copyEqual d copy = true →
    ∃ t, Sys2Proof.Machine.exec (.resyncCopyDone l true copy) s = .next t ∧
      t.lane l = { s.lane l with regionOk := true
                                 resyncCnt := if (s.lane l).resyncCnt < 255 then (s.lane l).resyncCnt + 1 else 255 } ∧
      (∀ m : Lane, m ≠ l → t.lane m = s.lane m) ∧ SameBut [.lanes] s t) ∧
  (∀ (s : State) (l d : Lane) (inTime : Bool) (copy : CopyObs), (s.lane l).svc = .resync →
    (s.lane l).donor = some d → inTime = false ∨ s.copyEqual d copy = false →
    ∃ t, Sys2Proof.Machine.exec (.resyncCopyDone l inTime copy) s = .next t ∧
      (t.lane l).svc = .out ∧ (t.lane l).copyReq = true ∧ (t.lane l).lastCause = 9 ∧
      (t.lane l).copyFails = (if (s.lane l).copyFails < 255 then (s.lane l).copyFails + 1 else 255) ∧
      (∀ m : Lane, m ≠ l → t.lane m = s.lane m) ∧ t.fuses = s.fuses ∧ t.pending = s.pending))

/-- R493-R496: the earliest lane that is due is withdrawn from RUN with cause 0xA and its dissent steps begin; a proof overdue by half
an interval is marked and alarmed; R264: from the tick after the withdrawal on the low side's dissent step, and from the next on
the high side's, each counts as done where no channel fails, and the channels that gave no result enter NORESULT. -/
def Obligations.RollingProofSteps : Prop :=
  (∀ (s : State) (l : Lane), s.mayProve l = true → s.aon.latch = false → s.ms.voting = 7#3 →
    ∃ t, Sys2Proof.Machine.exec (.rollingProofWithdrawal l) s = .next t ∧
      (t.lane l).svc = .withdrawn ∧ (t.lane l).lastCause = 0xA ∧ (t.lane l).wdog.armed = false ∧
      (t.prf.lanes.get l).due = false ∧ t.prf.phase = .dissent ∧ t.prf.stepDone = 0 ∧
      t.prf.rpLane = BitVec.ofNat 2 l.num ∧ t.ms.mode = .run2 ∧
      (∀ m : Lane, m.inMask t.ms.voting = decide (m ≠ l)) ∧
      (∀ m : Lane, m ≠ l → t.lane m = s.lane m ∧ t.prf.lanes.get m = s.prf.lanes.get m) ∧
      SameBut [.lanes, .prf, .ms, .log, .mail, .host] s t) ∧
  (∀ (s : State) (l : Lane) (d : Nat), (s.prf.lanes.get l).due = true → (s.prf.lanes.get l).overdue = false →
    (s.prf.lanes.get l).dueNs = some d → d + s.area.params.proofH * 1800000000000 ≤ s.nowNs →
    ∃ t, Sys2Proof.Machine.exec (.rollingProofOverdue l) s = .next t ∧
      t.prf.lanes.get l = { s.prf.lanes.get l with overdue := true } ∧
      (∀ m : Lane, m ≠ l → t.prf.lanes.get m = s.prf.lanes.get m) ∧
      t.prf = { s.prf with lanes := t.prf.lanes } ∧ SameBut [.prf, .log, .mail, .host] s t) ∧
  (∀ (s : State) (l : Lane) (side : Side) (obs : PerLane (List (Chan × EchoItem))), s.prf.phase = .dissent →
    (side = .low ∧ s.prf.stepDone = 0 ∧ tickGe s.ms.tick (s.prf.startTick + 1) = true) ∨
      (side = .high ∧ s.prf.stepDone = 1 ∧ tickGe s.ms.tick (s.prf.startTick + 2) = true) → s.provedLane = some l →
    (∀ c : Chan, (s.chan c).mode.isOut = true → s.stepResult side obs c ≠ some false) →
    ∃ t, Sys2Proof.Machine.exec (.dissentStep side obs) s = .next t ∧
      t.prf.stepDone = (if side = .low then 1 else 3) ∧ t.prf.phase = .dissent ∧
      t.prf.noResult = min 255 (s.prf.noResult +
        ((outChans s.part.chans).filter (fun c => (s.stepResult side obs c).isNone)).length) ∧
      (∀ m : Lane, m.inMask s.running = false → t.lane m = s.lane m) ∧
      (side = .low → SameBut [.lanes, .prf] s t) ∧ SameBut [.lanes, .prf, .log, .mail, .host] s t)

/-- R45, R48, R275, R324: at the image's RUN-2 limit, without two agreeing digests for three ticks, and at a fault of
the hub die, the hub sets the lockout latch with its cause and tick, and the module enters LOCKOUT; the missing digests
leave a fault record and, R482, a latch record, which waits while NVM1 takes none. -/
def Obligations.LatchSetsWithItsCause : Prop :=
  ∀ s : State, s.aon.latch = false → s.ms.mode = .run2 →
    (s.pwr.phase = .normal →
      ∃ t, Sys2Proof.Machine.exec .hubNoAgreeingDigests s = .next t ∧ t.aon.latch = true ∧ t.aon.latchCause = 7 ∧
        t.aon.latchTick = s.ms.tick ∧ t.ms.mode = .lockout ∧ (∃ r, t.aon.faultRec = some r ∧ r.src = 3 ∧ r.code = 7) ∧
        (s.nvm.ready = true →
          ∃ r, t.nvm.latchLog.newest = some r ∧ r.stateByte = 0x5A ∧ r.cause = 7 ∧ r.tick = s.ms.tick) ∧
        (s.nvm.ready = false → t.aon.latrecPend = true) ∧
        SameBut [.aon, .nvm, .ms, .log, .mail, .host, .upd] s t) ∧
    (∀ since : Nat, s.ms.run2Since = some since → 0 < s.area.params.run2LimitH →
      since + 3600000000000 * s.area.params.run2LimitH ≤ s.nowNs → s.ms.voting ≠ 0 →
      ∃ t, Sys2Proof.Machine.exec .run2LimitExpiry s = .next t ∧ t.aon.latch = true ∧ t.aon.latchCause = 8 ∧
        t.aon.latchTick = s.ms.tick ∧ t.ms.mode = .lockout ∧
        SameBut [.aon, .nvm, .ms, .log, .mail, .host, .upd] s t) ∧
    (∃ t, Sys2Proof.Machine.exec .hubDieFault s = .next t ∧ t.aon.latch = true ∧ t.aon.latchCause = 0x0A ∧
      t.aon.latchTick = s.ms.tick ∧ t.ms.mode = .lockout ∧
      (s.pwr.dom.getLsbD 2 = true → t.net.state = .fullSilence ∨ s.net.fullSilent = true) ∧
      SameBut [.aon, .nvm, .ms, .log, .mail, .host, .upd, .net, .sh] s t)

/-- R187, R214: the sixteenth dissent of a member on an input excludes it there in every running lane; a TIMEOUT reflex
at its limit forces its output channels off in every running lane's part O, and latches where it holds. -/
def Obligations.ExclusionsAndReflexTimeouts : Prop :=
  (∀ (s : State) (l : Lane) (ch : Chan), (s.chan ch).mode.isIn = true → s.leadK.ins[ch].excl.get l = false →
    ∃ t, Sys2Proof.Machine.exec (.dissentRunExclusion l ch) s = .next t ∧
      (∀ m : Lane, m.inMask s.running = true →
        ((t.lane m).region.k.ins[ch]).excl = ((s.lane m).region.k.ins[ch]).excl.set l true ∧
        ((t.lane m).region.k.ins[ch]).dissent = ((s.lane m).region.k.ins[ch]).dissent.set l 0 ∧
        (∀ c : Chan, c ≠ ch → (t.lane m).region.k.ins[c] = (s.lane m).region.k.ins[c])) ∧
      (∀ m : Lane, m.inMask s.running = false → t.lane m = s.lane m) ∧
      SameBut [.lanes, .fld, .vot, .log, .mail, .host] s t) ∧
  (∀ (s : State) (entry : Fin 64) (en : ReflexEntry), s.part.reflexAt entry = some en → en.kind = .timeout →
    ∃ t, Sys2Proof.Machine.exec (.reflexTimeout entry) s = .next t ∧
      (∀ m : Lane, m.inMask s.running = true →
        (t.lane m).region.k.partO[0] = (s.lane m).region.k.partO[0] &&& ~~~(en.outMask &&& outMaskOf s.part.chans) ∧
        (t.lane m).region.k.partO[1] = (s.lane m).region.k.partO[1] ||| (en.outMask &&& outMaskOf s.part.chans) ∧
        (t.lane m).region.k.partO[2] = (s.lane m).region.k.partO[2] ∧
        (t.lane m).region.k.reflexLatch[entry] = ((s.lane m).region.k.reflexLatch[entry] || en.hold) ∧
        (∀ c : Chan, (en.outMask &&& outMaskOf s.part.chans).getLsbD c.val = true → ((t.lane m).region.k.outs[c]).onRun = 0)) ∧
      (∀ m : Lane, m.inMask s.running = false → t.lane m = s.lane m) ∧ SameBut [.lanes] s t)

/-! ### Power, resets, BOOT, PROVE and the tick (R27-R57, R95, R443-R448, R465-R488, R500-R509, R543) -/

/-- R470, R471, R473, R482, R484, R486: POR brings every domain to its reset value, restores the latch from the last
latch record and the restart count from the last retained record that holds, and counts the restart; fuses and banks
stay. R411, R417, R470, R471: PIN and WARM begin BOOT with output hold set; the time counter goes on, the latch and the
log's records stay, the restart is counted, and each channel whose session was open reads CLOSE_CAUSE 0x5. R359, R405,
R411, R428, R470, R486, R547: the release of POR latches the straps; a HOSTR frees the host masters' locks, clears
outbound mailboxes with ABORTED where something waited, and brings channels 12-15 and the host-written registers to
their reset values, the lanes and the tick untouched. -/
def Obligations.ResetsOfTheBlock : Prop :=
  (∀ s : State, ∃ t, Sys2Proof.Machine.exec .por s = .next t ∧
    t.ms.mode = .boot ∧ t.ms.outHold = true ∧ t.ms.porHeld = true ∧ t.ms.voting = 0 ∧ t.aon.timeNs = 0 ∧
    (s.nvm.latchLog.newest = none → t.aon.latch = false) ∧
    (∀ r, s.nvm.latchLog.newest = some r →
      (r.valid = true → r.stateByte = 0x00 → t.aon.latch = false) ∧
      (r.valid = true → r.stateByte = 0x5A →
        t.aon.latch = true ∧ t.aon.latchCause = r.cause ∧ t.aon.latchTick = r.tick) ∧
      (r.valid = false → t.aon.latch = true ∧ t.aon.latchCause = 9)) ∧
    (∀ r, validRet s.nvm.retLog = some r →
      t.aon.restart = r.restart + 1 ∧ t.aon.counters = r.counters ∧ t.aon.plossCnt = r.plossCnt) ∧
    (∀ l : Lane, (t.lane l).svc = .reset ∧ (t.lane l).loaded = false ∧ (t.lane l).region = Carried.reset) ∧
    (∀ i : Fin 64, t.sh.locks[i] = ⟨0, false⟩) ∧ t.sh.orphan = 0 ∧ t.upd.img = none ∧
    t.fld.stages = s.fld.stages ∧ t.nvm.bank0 = s.nvm.bank0 ∧ t.nvm.bank1 = s.nvm.bank1 ∧
    t.nvm.rec0 = s.nvm.rec0 ∧ t.nvm.rec1 = s.nvm.rec1 ∧ t.nvm.latchLog = s.nvm.latchLog ∧
    SameBut [.ms, .rrq, .lanes, .fld, .vot, .pair, .aon, .pwr, .sh, .crc, .mail, .net, .tim, .gal, .buf, .log, .nvm, .upd,
      .prf, .host] s t) ∧
  (∀ (s t0 : State) (c : Instr) (kind warm : BitVec 4), s.pwr.phase = .normal → s.ms.porHeld = false →
    ((∃ us, 10 ≤ us ∧ c = .pin us ∧ t0 = s.passUs us ∧ kind = 2 ∧ warm = 0) ∨
      (∃ l m : Lane, l ≠ m ∧ l.inMask s.acting = true ∧ m.inMask s.acting = true ∧
        c = .warm (.laneRequest l m) ∧ t0 = s ∧ kind = 3 ∧ warm = 2) ∨
      (s.ms.mode = .lockout ∧ s.aon.latch = false ∧ c = .warm .lockoutCleared ∧ t0 = s ∧ kind = 3 ∧ warm = 1)) →
    ∃ t, Sys2Proof.Machine.exec c s = .next t ∧
      t.ms.mode = .boot ∧ t.ms.outHold = true ∧ t.ms.porHeld = false ∧ t.ms.voting = 0 ∧
      t.aon.kind = kind ∧ t.aon.warmSrc = warm ∧ t.aon.timeNs = t0.aon.timeNs ∧
      t.aon.latch = s.aon.latch ∧ t.aon.latchCause = s.aon.latchCause ∧ t.aon.latchTick = s.aon.latchTick ∧
      t.aon.restart = s.aon.restart + 1 ∧ t.aon.counters = s.aon.counters ∧ t.aon.sessBits = 0 ∧
      (∀ ch : Fin 8, (t.mbx true ch).closeCause = (if s.aon.sessBits.getLsbD ch.val then 5 else 0) ∧
        ∀ b : Bool, (t.mbx b ch).inFull = false ∧ (t.mbx b ch).outFull = false ∧ (t.mbx b ch).queue = [] ∧
          (t.mbx b ch).inAborted = (s.mbx b ch).inFull) ∧
      (∀ l : Lane, (t.lane l).svc = .reset ∧ (t.lane l).loaded = false ∧ (t.lane l).region = Carried.reset) ∧
      (∀ i : Fin 64, t.sh.locks[i] = ⟨0, false⟩) ∧ t.log.recs = s.log.recs ∧ t.upd.img = none ∧
      t.nvm.bank0 = s.nvm.bank0 ∧ t.nvm.bank1 = s.nvm.bank1 ∧ t.nvm.latchLog = s.nvm.latchLog ∧
      SameBut [.ms, .rrq, .lanes, .fld, .vot, .pair, .aon, .pwr, .sh, .crc, .mail, .net, .tim, .gal, .buf, .log, .nvm, .upd,
        .prf, .host] s t) ∧
  (∀ s : State,
    (s.ms.porHeld = true → Sys2Proof.Machine.exec .porRelease s = .next { s with
      ms := { s.ms with porHeld := false }, pwr := { s.pwr with vinOk := true }
      pair := { s.pair with strapId := s.pair.pins } }) ∧
    (s.pwr.phase = .normal → ∃ t, Sys2Proof.Machine.exec .hostr s = .next t ∧
      (∀ (b : Bool) (ch : Fin 8), (t.mbx b ch).outFull = false ∧ (t.mbx b ch).queue = [] ∧ (t.mbx b ch).mask = 0xFFFFFFFF ∧
        (t.mbx b ch).inFull = (s.mbx b ch).inFull ∧ (t.mbx b ch).inBuf = (s.mbx b ch).inBuf ∧
        (t.mbx b ch).outAborted = ((s.mbx b ch).outAborted || (s.mbx b ch).outFull || !(s.mbx b ch).queue.isEmpty)) ∧
      t.mail.hostrPend = true ∧
      t.aon = { s.aon with hostrCnt := if s.aon.hostrCnt < 255 then s.aon.hostrCnt + 1 else 255 } ∧
      t.pwr = { s.pwr with busMaster := false, d3hot := false, linkUp := false } ∧
      (∀ i : Fin 64, s.sh.locks[i].owner = 5 ∨ s.sh.locks[i].owner = 6 → t.sh.locks[i] = ⟨0, true⟩) ∧
      (∀ i : Fin 64, s.sh.locks[i].owner ≠ 5 → s.sh.locks[i].owner ≠ 6 → t.sh.locks[i] = s.sh.locks[i]) ∧
      (∀ i : Fin 16, t.crc.chans[i] = if 12 ≤ i.val then Crc.reset else s.crc.chans[i]) ∧
      t.log.recs = s.log.recs ∧ t.log.en = false ∧
      SameBut [.mail, .aon, .pwr, .sh, .crc, .gal, .log, .upd, .prf, .host] s t))

/-- R43, R443, R444, R49, R300: with an acceptable image in the bank ACTIVE that two lanes load, BOOT ends in PROVE and that
image is in force, its result 0, or 0x3 where a lane did not load it (assumption 154), with NET on; with neither bank acceptable the module stays
in BOOT with BOOT_FAIL and a fault record of source 0x06, NET on. R43, R263, R430, R489-R491: where every loaded lane passes its proof, its injections all found and its known answers as they
must be, and no majority element step fails, PROVE ends in JOIN with the lanes in service, KAT_FAIL 0, the majority element proof
noted, and every proof word gone; a node under full silence stays silent (R324). -/
def Obligations.BootAndProve : Prop :=
  ((∀ (s : State) (loaded0 loaded1 : PerLane Bool) (lockLow : Bool) (converted : PerStore Bool) (ms : Nat) (i : Image),
    s.ms.mode = .boot → s.ms.porHeld = false → s.ms.bootFail = false → s.nvm.rec0.valid = true →
    s.bankRec.state = .stable → s.aon.latch = false → s.bankImg s.bankRec.active = some i →
    s.bootReason (some i) = 0 → i.hdr.lcReq ≠ .retired →
    2 ≤ countMask (maskOf (fun l => (if s.bankRec.active then loaded1 else loaded0).get l)) →
    ∃ t, Sys2Proof.Machine.exec (.bootComplete loaded0 loaded1 ⟨lockLow, converted, false⟩ ms) s = .next t ∧
      t.ms.mode = .prove ∧ t.ms.tUs = i.hdr.tUs.setWidth 17 ∧ t.ms.outHold = s.ms.outHold ∧ t.upd.img = some i ∧
      t.upd.bank = s.bankRec.active ∧
      t.upd.bootFallback = false ∧ t.upd.bootMs = min 65535 ms ∧ t.pwr.dom.getLsbD 2 = true ∧
      ((∀ l : Lane, (if s.bankRec.active then loaded1 else loaded0).get l = true) →
        (if s.bankRec.active then t.upd.b1 else t.upd.b0) = 0) ∧
      ((∃ l : Lane, (if s.bankRec.active then loaded1 else loaded0).get l = false) →
        (if s.bankRec.active then t.upd.b1 else t.upd.b0) = 3) ∧
      (∀ k : Chan, t.fld.cfg[k] = t.chcfgWord k) ∧
      (∀ l : Lane, (if s.bankRec.active then loaded1 else loaded0).get l = true →
        (t.lane l).loaded = true ∧ (t.lane l).regionOk = true ∧ (t.lane l).region = restartRegion i s.node) ∧
      (∀ l : Lane, (if s.bankRec.active then loaded1 else loaded0).get l = false → (t.lane l).svc = .disabled) ∧
      t.aon.latch = false ∧ t.fuses = s.fuses ∧ t.sh = s.sh ∧ t.pending = s.pending) ∧
  (∀ (s : State) (loaded0 loaded1 : PerLane Bool) (lockLow : Bool) (converted : PerStore Bool) (ms : Nat),
    s.ms.mode = .boot → s.ms.porHeld = false → s.ms.bootFail = false → s.nvm.rec0.valid = true →
    s.bankRec.state = .stable → s.bootReason s.nvm.bank0 ≠ 0 → s.bootReason s.nvm.bank1 ≠ 0 →
    ∃ t, Sys2Proof.Machine.exec (.bootComplete loaded0 loaded1 ⟨lockLow, converted, false⟩ ms) s = .next t ∧
      t.ms.mode = .boot ∧ t.ms.bootFail = true ∧ t.upd.img = s.upd.img ∧ t.pwr.dom.getLsbD 2 = true ∧
      (∃ r, t.aon.faultRec = some r ∧ r.src = 6) ∧ t.fuses = s.fuses ∧ t.lanes = s.lanes ∧ t.pending = s.pending)) ∧
  (∀ (s : State) (obs : PerLane ProveObs), s.ms.mode = .prove → s.aon.latch = false →
    (∀ l : Lane, (s.lane l).loaded = true ∧ (s.lane l).svc ≠ .disabled ∧ (s.lane l).hot = false ∧
      (s.lane l).check.injLock = false) →
    (∀ l : Lane, (obs.get l).first = none ∧ Checker.misses (obs.get l).hw = 0 ∧ katMatches (obs.get l).kat = true) →
    ∃ t, Sys2Proof.Machine.exec (.proveComplete obs [] []) s = .next t ∧
      t.ms.mode = .join ∧ (s.net.fullSilent = false → t.net.state = .listen) ∧ (s.net.fullSilent = true → t.net = s.net) ∧
      t.vot.majProofOk = true ∧ t.aon = s.aon ∧
      (∀ l : Lane, (t.lane l).svc = .inService ∧ (t.lane l).proofFails = 0 ∧ (t.lane l).check.injLock = true) ∧
      t.crc = { s.crc with katFail := 0 } ∧
      (∀ (l : Lane) (b : Bank), (t.iface l b).proof = none ∧ (t.iface l b).token = (s.iface l b).token) ∧
      SameBut [.ms, .lanes, .fld, .vot, .crc, .net, .log, .mail, .host] s t)

/-- R28, R38: in RUN, RUN-2 and LOCKOUT a tick edge begins the next tick at the next whole multiple of T from the tick
base, and the receive buffer of the tick before is frozen, unless a reset command that the tick evaluates clears the
latch and resets the module (R56), or the time of a copy of the cycle-start frame that waited for this edge cannot be reconciled and
resets it (R314, R332); before the network's tick base is known, JOIN only passes time; without a clock nothing happens. -/
def Obligations.TickEdgeBeginsTheNextTick : Prop :=
  ∀ (s : State) (obs : TickObs),
    (s.pwr.phase = .normal → s.ms.porHeld = false → s.ms.tUs ≠ 0 →
      (s.ms.mode = .run ∨ s.ms.mode = .run2 ∨ s.ms.mode = .lockout) →
      ∃ t, Sys2Proof.Machine.exec (.tickEdge obs) s = .next t ∧
        t.pending = s.pending ∧
        ((t.aon.timeNs = BitVec.ofNat 64 s.nextEdge ∧
            ((t.ms.tick = s.ms.tick + 1 ∧ t.buf.rxFrozen = s.buf.rxCur ∧ t.buf.rxCur = [] ∧
              (t.ms.mode = .run ∨ t.ms.mode = .run2 ∨ t.ms.mode = .lockout)) ∨
            (t.ms.mode = .boot ∧ t.aon.kind = 3 ∧ t.aon.warmSrc = 1 ∧ t.aon.latch = false))) ∨
          (s.net.heldCopy ≠ none ∧ t.ms.mode = .boot ∧ t.aon.kind = 3 ∧ t.aon.warmSrc = 2))) ∧
    (s.pwr.phase = .normal → s.ms.porHeld = false → s.ms.tUs ≠ 0 → s.ms.mode = .join →
      s.net.state = .listen ∨ s.net.state = .coldstart →
      Sys2Proof.Machine.exec (.tickEdge obs) s = .next { s with aon := { s.aon with
        timeNs := BitVec.ofNat 64 s.nextEdge } }) ∧
    (s.ms.mode = .boot ∨ s.ms.mode = .prove → Sys2Proof.Machine.exec (.tickEdge obs) s = .next s)

/-- R465, R479, R480: a qualified VIN_FAIL leaves AON and HUB alone, no lane with a token, and a retained record with
the loss, VHOLD as two comparators saw it, and the essential commit done within 2 ms; it is no use twice. R472, R479,
R481: after the essential commit, with VHOLD qualified at the loss, a full commit archives the plans, the log and the
day and appends its record, the log in both formats during a migration (R462); an abort archives the stores before the one being written and notes that one; the end of the
commits is POR. -/
def Obligations.PowerLossCommits : Prop :=
  (∀ s : State, s.ms.porHeld = false → s.pwr.phase = .normal →
    ∃ t, Sys2Proof.Machine.exec .vinFail s = .next t ∧
      t.pwr.dom = 3 ∧ t.pwr.phase = .essential ∧ t.pwr.vinOk = false ∧ t.ms.voting = 0 ∧
      t.aon.ploss = true ∧ t.aon.vholdAtLoss = two s.aon.vqual ∧ t.aon.essDone = true ∧ t.aon.fullDone = false ∧
      t.aon.commitMs ≤ 2 ∧ t.aon.plossCnt = (if s.aon.plossCnt < 255 then s.aon.plossCnt + 1 else 255) ∧
      (∀ (l : Lane) (b : Bank), (t.iface l b).token = none) ∧
      (∃ r, t.nvm.retLog.newest = some r ∧ r.ploss = true ∧ r.essDone = true ∧ r.valid = true ∧
        r.restart = s.aon.restart) ∧
      t.nvm.frec = s.aon.faultRec.map FaultRec.bytes ∧ t.nvm.bank0 = s.nvm.bank0 ∧ t.nvm.bank1 = s.nvm.bank1 ∧
      t.log.recs = s.log.recs ∧ t.free = s.free + 1 ∧ t.fuses = s.fuses ∧ t.pending = s.pending ∧
      Sys2Proof.Machine.exec .vinFail t = .next t) ∧
  (∀ s : State, s.pwr.phase = .essential → s.aon.vholdAtLoss = true →
    (∀ ms : Nat, ∃ t, Sys2Proof.Machine.exec (.fullCommit ms) s = .next t ∧
      t.nvm.aonArch = some (s.aon.planStore, s.aon.hubTrim) ∧ t.nvm.logArch = some s.log ∧ t.nvm.dayArch = s.prf.day ∧
      t.aon = { s.aon with fullDone := true, commitMs := min 65535 ms } ∧ t.pwr = { s.pwr with phase := .full } ∧
      (∃ r, t.nvm.retLog.newest = some r ∧ r.fullDone = true ∧ r.commitMs = min 65535 ms) ∧
      SameBut [.nvm, .aon, .pwr] s t) ∧
    (∀ store : Fin 4, ∃ t, Sys2Proof.Machine.exec (.fullCommitAbort store) s = .next t ∧
      t.nvm = { s.nvm with
        badStore := some store
        aonArch := if 0 < store.val then some (s.aon.planStore, s.aon.hubTrim) else s.nvm.aonArch
        logArch := if 1 < store.val then some s.log else s.nvm.logArch
        dayArch := if 2 < store.val then s.prf.day else s.nvm.dayArch
        logArea := t.nvm.logArea, conv := t.nvm.conv } ∧
      (s.nvm.conv = none → t.nvm.conv = none ∧ t.nvm.logArea = (if 1 < store.val then !s.nvm.logArea else s.nvm.logArea)) ∧
      (∀ c g, s.nvm.conv = some c → c.log = some g → 1 < store.val →
        t.nvm.conv = some { c with log := some (some s.log) } ∧ t.nvm.logArea = s.nvm.logArea) ∧
      t.pwr = { s.pwr with phase := .aborted } ∧ SameBut [.nvm, .pwr] s t) ∧
    (∃ t, Sys2Proof.Machine.exec .commitEnd s = .next t ∧ Sys2Proof.Machine.exec .por s = .next t ∧
      t.ms.mode = .boot ∧ t.ms.porHeld = true ∧ t.pwr.phase = .normal ∧ t.fuses = s.fuses))

/-- R468, R487: a lane's comparator sets and clears its VHOLD report; a report that is taken back is counted, and where
two still report nothing else changes; R405, R456: where battery low ends a copy, the update mover's locks are freed. R474-R478: a lane without work enters the deepest state whose entry and wake
times and 10 µs fit the gap, and leaves it at its wake, counting a late one. R543: a lane die above 125 °C is noted,
above 140 °C held in reset; its recovery ends both. -/
def Obligations.SuppliesSleepAndHeat : Prop :=
  (∀ (s : State) (l : Lane),
    Sys2Proof.Machine.exec (.vholdQualified l) s = .next { s with aon := { s.aon with vqual := s.aon.vqual.set l true } } ∧
    (∃ t, Sys2Proof.Machine.exec (.vholdDisqualified l) s = .next t ∧
      t.aon = { s.aon with
        vqual := s.aon.vqual.set l false
        disqCnt := if s.aon.vqual.get l then (if s.aon.disqCnt < 255 then s.aon.disqCnt + 1 else 255) else s.aon.disqCnt } ∧
      (two s.aon.vqual = false ∨ two (s.aon.vqual.set l false) = true → SameBut [.aon] s t) ∧
      (s.upd.copying = true → two s.aon.vqual = true → two (s.aon.vqual.set l false) = false →
        t.upd.copying = false ∧ t.upd.apply = .deferred ∧ t.bankImg s.trialBank = none ∧
        (∀ i : Fin 64, s.sh.locks[i].owner = 7 → t.sh.locks[i] = ⟨0, true⟩) ∧
        (∀ i : Fin 64, s.sh.locks[i].owner ≠ 7 → t.sh.locks[i] = s.sh.locks[i])) ∧
      SameBut [.aon, .upd, .nvm, .log, .mail, .host, .sh] s t)) ∧
  ((∀ (s : State) (l : Lane) (gapUs : Nat), s.staysAwake l = false →
    ∃ t, Sys2Proof.Machine.exec (.lowPowerEntry l gapUs) s = .next t ∧
      (10000 ≤ s.ms.tUs.toNat → 560 ≤ gapUs → (t.lane l).lp = .l3) ∧
      (¬ (10000 ≤ s.ms.tUs.toNat ∧ 560 ≤ gapUs) → 90 ≤ gapUs → (t.lane l).lp = .l2) ∧
      (gapUs < 90 → 13 ≤ gapUs → (t.lane l).lp = .l1) ∧ (gapUs ≤ 12 → (t.lane l).lp = .l0) ∧
      t.lane l = { s.lane l with lp := (t.lane l).lp } ∧ (∀ m : Lane, m ≠ l → t.lane m = s.lane m) ∧
      (s.pwr.linkUp = true → t.pwr = s.pwr) ∧ SameBut [.lanes, .pwr] s t) ∧
  (∀ (s : State) (l : Lane) (us : Nat) (late : Bool), (s.lane l).lp ≠ .l0 → s.pwr.dom.getLsbD 3 = true →
    ∃ t, Sys2Proof.Machine.exec (.lowPowerWake l us late) s = .next t ∧
      t.lane l = { s.lane l with
        lp := .l0, lpLast := (s.lane l).lp, sleepUs := min 65535 us
        lateCnt := if late then (if (s.lane l).lateCnt < 255 then (s.lane l).lateCnt + 1 else 255) else (s.lane l).lateCnt } ∧
      (∀ m : Lane, m ≠ l → t.lane m = s.lane m) ∧ SameBut [.lanes] s t)) ∧
  (∀ (s : State) (l : Lane) (c : Nat),
    (125 < c → c ≤ 140 → ∃ t, Sys2Proof.Machine.exec (.overtemperature (.lane l) c) s = .next t ∧
      t.prf = { s.prf with hotDies := s.prf.hotDies ||| hotBit (.lane l) } ∧ t.lanes = s.lanes ∧
      SameBut [.prf, .log, .mail, .host] s t) ∧
    (140 < c → (s.lane l).svc ≠ .disabled → ∃ t, Sys2Proof.Machine.exec (.overtemperature (.lane l) c) s = .next t ∧
      (t.lane l).hot = true ∧ (t.lane l).svc = .reset ∧ (∀ b : Bank, t.iface l b = Iface.reset) ∧
      t.prf.hotDies = s.prf.hotDies ||| hotBit (.lane l) ∧
      (∀ m : Lane, m ≠ l → t.lane m = s.lane m) ∧ t.fuses = s.fuses ∧ t.pending = s.pending) ∧
    (∃ t, Sys2Proof.Machine.exec (.thermalRecovery l) s = .next t ∧
      t.lane l = { s.lane l with hot := false } ∧ (∀ m : Lane, m ≠ l → t.lane m = s.lane m) ∧
      t.prf = { s.prf with hotDies := s.prf.hotDies &&& ~~~hotBit (.lane l) } ∧ SameBut [.lanes, .prf] s t))

/-- R500-R506: at the end of a window of 1,024 ticks, a lane whose lowest slack lies below 10 % raises its trim by one step where one
is left and keeps EXHAUSTED as it is, which 10 % or more clear, and one between 10 and 15 % changes no step; the plans are stored in AON; the daily record, once in 24 h of area time, takes
the day, in both formats during a migration (R462), and begins the next. -/
def Obligations.MarginPlansAndDailyRecord : Prop :=
  (∀ (s : State) (obs : AgeObs) (l : Lane), s.inTicks = true → s.ms.tick.toNat % 1024 = 1023 →
    (s.lane l).svc.running = true →
    let slack := (lowest (obs.lanes.get l).pdm.toList).1
    ∃ t, Sys2Proof.Machine.exec (.ageingWindow obs) s = .next t ∧
      (slack < 10 → (s.lane l).plan.trim < 12 →
        (t.lane l).plan.trim = (s.lane l).plan.trim + 1 ∧ (t.lane l).plan.clk = (s.lane l).plan.clk ∧
        (t.lane l).plan.exhausted = (s.lane l).plan.exhausted) ∧
      (10 ≤ slack → (t.lane l).plan.exhausted = false) ∧
      (10 ≤ slack → slack < 16 →
        (t.lane l).plan.trim = (s.lane l).plan.trim ∧ (t.lane l).plan.clk = (s.lane l).plan.clk ∧
        (t.lane l).plan.high = 0) ∧
      (t.lane l).plan.margin = min 255 slack ∧ (t.lane l).plan.temp = maxTemp (obs.lanes.get l).temp.toList ∧
      (∀ m : Lane, t.aon.planStore.get m = ((t.lane m).plan.trim, (t.lane m).plan.clk)) ∧
      (∀ m : Lane, (s.lane m).svc.running = false → t.lane m = s.lane m) ∧ t.prf.eye = obs.eyeWidth ∧
      (s.fuses.commissioned = false → t.nvm = s.nvm) ∧
      t.prf.day.isSome = true ∧ SameBut [.lanes, .prf, .aon, .nvm, .log, .mail, .host] s t) ∧
  (∀ (s : State) (d : DailyRec), s.prf.day = some d → s.prf.dayNs + 86400000000000 ≤ s.nowNs →
    ∃ t, Sys2Proof.Machine.exec .dailyRecord s = .next t ∧
      t.nvm = { s.nvm with
        ageing := (d :: s.nvm.ageing).take 32768
        conv := s.nvm.conv.map (fun c => { c with ageing := c.ageing.map (fun h => (d :: h).take 32768) }) } ∧ t.prf.day = none ∧ t.prf.alarmed = [] ∧
      t.prf.dayNs = s.nowNs ∧
      (s.nvm.ageing.length < 89 → t.prf = { s.prf with day := none, alarmed := [], dayNs := s.nowNs }) ∧
      SameBut [.nvm, .prf, .log, .mail, .host] s t)

/-- R437, R446, R448, R509: the key-encryption key is written once, in COMMISSION in LOCKOUT, and in no other state; an access that the
life-cycle does not open is ignored and counted; a self-test withdraws its lane and ends with a LANE reset of it and its
result. -/
def Obligations.KeyWriteAndSelfTest : Prop :=
  (∀ (s : State) (key : BitVec 256), s.fuses.retired = false → s.fuses.manufactured = true →
    s.fuses.commissioned = false → s.ms.mode = .lockout →
    (s.fuses.kek = none →
      Sys2Proof.Machine.exec (.keyEncryptionKeyWrite key) s = .next { s with fuses := { s.fuses with kek := some key } }) ∧
    (s.fuses.kek ≠ none → Sys2Proof.Machine.exec (.keyEncryptionKeyWrite key) s = .next s)) ∧
  (∀ (s : State) (key : BitVec 256), s.lifeCycle = .retired ∨ s.lifeCycle = .field ∨
      ((s.lifeCycle = .commission ∨ s.lifeCycle = .service) ∧ s.ms.mode ≠ .lockout) →
    Sys2Proof.Machine.exec (.keyEncryptionKeyWrite key) s = .next { s with upd := { s.upd with
      ignCnt := if s.upd.ignCnt < 65535 then s.upd.ignCnt + 1 else 65535 } } ∧
    Sys2Proof.Machine.exec (.testPortAccess .jtag) s = .next { s with upd := { s.upd with
      ignCnt := if s.upd.ignCnt < 65535 then s.upd.ignCnt + 1 else 65535 } }) ∧
  (∀ (s : State) (key : BitVec 256), s.testOpen = true → s.lifeCycle ≠ .commission →
    Sys2Proof.Machine.exec (.keyEncryptionKeyWrite key) s = .next s) ∧
  (∀ (s : State) (via : TestAccess), s.testOpen = true → Sys2Proof.Machine.exec (.testPortAccess via) s = .next s) ∧
  (∀ s : State, s.pwr.dom.getLsbD 3 = true → s.prf.bistBusy = false → s.testOpen = true →
    ∃ t, Sys2Proof.Machine.exec .bistGo s = .next t ∧
      t.prf.bistBusy = true ∧ t.prf.bistDone = false ∧ t.prf.bistLast = s.prf.bistBlock ∧
      ((s.lane (bistLane s.prf.bistBlock)).svc ≠ .disabled → (t.lane (bistLane s.prf.bistBlock)).svc = .withdrawn) ∧
      (∀ m : Lane, m ≠ bistLane s.prf.bistBlock → t.lane m = s.lane m) ∧ t.fuses = s.fuses ∧ t.pending = s.pending) ∧
  (∀ (s : State) (pass : Bool) (us : Nat), s.prf.bistBusy = true → (s.lane (bistLane s.prf.bistLast)).svc ≠ .disabled →
    ∃ t, Sys2Proof.Machine.exec (.bistDone pass us) s = .next t ∧
      t.prf.bistBusy = false ∧ t.prf.bistDone = true ∧ t.prf.bistPass = pass ∧ t.prf.bistUs = min 16777215 us ∧
      (t.lane (bistLane s.prf.bistLast)).svc = .reset ∧
      (t.host.raised = s.host.raised ++ [19] ∨ t.host.pendingVec.getLsbD 19 = true) ∧
      t.fuses = s.fuses ∧ t.ms = s.ms ∧ t.pending = s.pending)

/-- R53: RSTREQ's rising begins a request in the present tick; high for 2 s it is stuck, with one alarm, until it has
been low; a falling of a stuck pin gives nothing; where the hub measures, one below 50 ms counts as short; in RUN and
RUN-2 each lane notes whether its own measurement qualifies, beside an earlier pulse of the tick, and when the pulse began. R95: an acknowledge pulse that enough members measured as
50 ms to 2 s waits in every running lane for its place in the upstream frames. -/
def Obligations.PulsesAreMeasured : Prop :=
  (∀ s : State,
    (s.rrq.high = false →
      Sys2Proof.Machine.exec .rstreqRising s = .next { s with rrq := { s.rrq with high := true, riseTick := s.ms.tick } } ∧
      Sys2Proof.Machine.exec .rstreqStuckClear s = .next { s with rrq := { s.rrq with stuck := false } }) ∧
    (s.rrq.high = true → s.rrq.stuck = false → ∃ t, Sys2Proof.Machine.exec .rstreqStuck s = .next t ∧
      t.rrq = { s.rrq with stuck := true } ∧ SameBut [.rrq, .log, .mail, .host] s t) ∧
    (s.rrq.high = true → s.rrq.stuck = true → ∀ (h : PerLane Nat) (us : Nat),
      Sys2Proof.Machine.exec (.rstreqFalling h us) s = .next { s with rrq := { s.rrq with high := false } }) ∧
    (s.rrq.high = true → s.rrq.stuck = false → s.ms.mode ≠ .run → s.ms.mode ≠ .run2 →
      ∀ (h : PerLane Nat) (us : Nat), us < 50000 →
      Sys2Proof.Machine.exec (.rstreqFalling h us) s = .next { s with rrq := { s.rrq with
        high := false, short := if s.rrq.short < 255 then s.rrq.short + 1 else 255 } }) ∧
    (s.rrq.high = true → s.rrq.stuck = false → s.ms.mode = .run ∨ s.ms.mode = .run2 →
      ∀ (h : PerLane Nat) (us : Nat), (∀ l : Lane, 50000 ≤ h.get l) →
      Sys2Proof.Machine.exec (.rstreqFalling h us) s = .next { s with rrq := { s.rrq with
        high := false, laneFell := PerLane.ofFn (fun l => decide (h.get l ≤ 2000000) || s.rrq.laneFell.get l)
        fellRise := if h.a ≤ 2000000 ∨ h.b ≤ 2000000 ∨ h.c ≤ 2000000 then some s.rrq.riseTick else s.rrq.fellRise } })) ∧
  (∀ (s : State) (ch : Chan) (highUs : PerLane Nat), s.inTicks = true → (s.chan ch).ackInput = true →
    needOf s.acting ≤ ((lanesOf s.acting).filter (fun l =>
      decide (50000 ≤ highUs.get l ∧ highUs.get l ≤ 2000000))).length →
    ∃ t, Sys2Proof.Machine.exec (.zoneAckPulse ch highUs) s = .next t ∧
      (∀ l : Lane, l.inMask s.running = true → ch ∈ (t.lane l).region.k.ackPend ∧
        (∀ c : Chan, c ∈ (t.lane l).region.k.ackPend ↔ c = ch ∨ c ∈ (s.lane l).region.k.ackPend) ∧
        (t.lane l).region = { (s.lane l).region with k :=
          { (s.lane l).region.k with ackPend := (t.lane l).region.k.ackPend } }) ∧
      (∀ l : Lane, l.inMask s.running = false → t.lane l = s.lane l) ∧ SameBut [.lanes] s t)

/-- R46, R56, R57, R482: a qualified request that began after the latch was set clears it in LOCKOUT, with a clear
record that waits while NVM1 takes none, and the module resets WARM; one that began no later is ignored and counted. R51, R56, R57, R270: in RUN and
RUN-2 a request waits for the edge of the next tick; there one for the whole module that began after the hold was set clears the output
hold, and one for a channel clears its lockout in every running lane exactly where it began later and no cause with a presence condition
shows. -/
def Obligations.ResetRequestsClear : Prop :=
  ((∀ (s : State) (o : ResetOrigin) (begun : Tick), s.pwr.phase = .normal → s.ms.porHeld = false → s.ms.mode = .lockout →
    o = .rstreq ∨ o = .twoStep none → s.aon.latch = true → 0 < (begun - s.aon.latchTick).toInt →
    ∃ t, Sys2Proof.Machine.exec (.qualifiedResetRequest o begun) s = .next t ∧
      t.aon.latch = false ∧ t.aon.latchCause = 0 ∧ t.ms.mode = .boot ∧ t.ms.outHold = true ∧
      t.rrq.accept = (if s.rrq.accept < 255 then s.rrq.accept + 1 else 255) ∧ t.rrq.ignored = s.rrq.ignored ∧
      t.aon.kind = 3 ∧ t.aon.warmSrc = 1 ∧
      (s.nvm.ready = true → ∃ r, t.nvm.latchLog.newest = some r ∧ r.stateByte = 0x00 ∧ r.valid = true) ∧
      (s.nvm.ready = false → t.aon.latrecPend = true) ∧
      t.fuses = s.fuses ∧ t.pending = s.pending) ∧
  (∀ (s : State) (o : ResetOrigin) (begun : Tick), s.pwr.phase = .normal → s.ms.porHeld = false → s.ms.mode = .lockout →
    ¬ 0 < (begun - s.aon.latchTick).toInt →
    Sys2Proof.Machine.exec (.qualifiedResetRequest o begun) s = .next { s with rrq := { s.rrq with
      ignored := if s.rrq.ignored < 255 then s.rrq.ignored + 1 else 255 } })) ∧
  ((∀ (s : State) (o : ResetOrigin) (begun : Tick), s.pwr.phase = .normal → s.ms.porHeld = false →
    s.ms.mode = .run ∨ s.ms.mode = .run2 →
    Sys2Proof.Machine.exec (.qualifiedResetRequest o begun) s = .next { s with rrq := { s.rrq with
      clearNext := s.rrq.clearNext ++ [(o, begun, none)] } }) ∧
  (∀ (s t : State) (o : ResetOrigin) (begun : Tick), t = s.edgeClear.1 → s.rrq.clearNext = [(o, begun, none)] →
    o = .rstreq ∨ o = .twoStep none → s.ms.outHold = true → 0 < (begun - s.ms.holdTick).toInt →
    t.ms = { s.ms with outHold := false } ∧
    t.rrq = { s.rrq with
      clearNext := [], ignoredNext := [], accept := if s.rrq.accept < 255 then s.rrq.accept + 1 else 255 } ∧
    SameBut [.ms, .rrq, .lanes, .log, .mail, .host] s t) ∧
  (∀ (s t : State) (c : Chan) (begun : Tick) (lk : ChLock), t = s.edgeClear.1 → s.rrq.clearNext = [(.twoStep (some c), begun, none)] →
    (s.leadK.outs[c]).lock = some lk →
    (∀ l : Lane, l.inMask s.running = true → ((s.lane l).region.k.outs[c]).lock = some lk) →
    (∀ l : Lane, l.inMask s.running = true → ((t.lane l).region.k.outs[c]).lock =
      if 0 < (begun - lk.tick).toInt ∧ present (s.lastEcho c) s.fld.regs[c].tripped (s.lastFbOff c) = false then none else some lk) ∧
    (∀ l : Lane, ∀ d : Chan, d ≠ c → (t.lane l).region.k.outs[d] = (s.lane l).region.k.outs[d]) ∧
    t.ms = s.ms ∧ SameBut [.rrq, .lanes, .log, .mail, .host] s t))

/-! ### Requests, their timers, boundary items (R87-R104, R115-R145, R172, R272, R352, R371-R377, R455) -/

/-- R87, R92, R94, R103: an accepted THROW, SUPERVISED THROW, MOVE, SET STOP or SET GATE sets COMMANDED to ARG and loads
the operating time; STATUS becomes UNPROVED, and stays BLOCKED under a SUPERVISED THROW. -/
def Obligations.AcceptedCommandsMoveTheElement : Prop :=
  ∀ (s : State) (l : Lane) (q : Request) (id : Nat) (e : Elem), id = q.target.toNat → e = s.elemOf l id → id ∉ s.mail.seenElem →
    e.locked = false →
    (∀ nrm rev outN outR throwMs secs, s.hears l 0x01 q none →
      (s.view l).cfg? id = some (.point nrm rev outN outR throwMs secs) → e.status ≠ .blocked → e.timer = 0 →
      (s.view l).sectionsClear secs false = true →
      ¬ (e.cmd = q.arg.setWidth 4 ∧ e.det = q.arg.setWidth 4 ∧ e.status = .proved) →
      ∃ t, Sys2Proof.Machine.exec (.throw q) s = .next t ∧
        Elem.butFlank { e with cmd := q.arg.setWidth 4, timer := msTicks s.ms.tUs throwMs + 2, status := .unproved } (t.elemOf l id) ∧
        ElemsOnly [id] l s t ∧ RowKeeps s t) ∧
    (∀ nrm rev outN outR throwMs secs arm, s.hears l 0x02 q (some arm) →
      (s.view l).cfg? id = some (.point nrm rev outN outR throwMs secs) → e.timer = 0 →
      (s.view l).sectionsClear secs true = true →
      ¬ (e.cmd = q.arg.setWidth 4 ∧ e.det = q.arg.setWidth 4 ∧ (e.status = .proved ∨ e.status = .blocked)) →
      ∃ t, Sys2Proof.Machine.exec (.supervisedThrow q) s = .next t ∧
        Elem.butFlank { e with cmd := q.arg.setWidth 4, timer := msTicks s.ms.tUs throwMs + 2,
                               status := if e.status = .blocked then .blocked else .unproved } (t.elemOf l id) ∧
        (l = s.lead → t.aon.counters[0] = (if s.aon.counters[0] = 0xFFFFFFFF#32 then 0xFFFFFFFF#32 else s.aon.counters[0] + 1#32)) ∧
        ElemsOnly [id] l s t ∧ RowKeeps s t) ∧
    (∀ positions bolt out moveMs deck guards, s.hears l 0x03 q none →
      (s.view l).cfg? id = some (.movable positions bolt out moveMs deck guards) → e.status ≠ .blocked →
      q.arg.toNat < positions.length → (s.view l).movableReady deck guards = true →
      ¬ (e.cmd = q.arg.setWidth 4 ∧ e.status = .proved) →
      ∃ t, Sys2Proof.Machine.exec (.move q) s = .next t ∧
        Elem.butFlank { e with cmd := q.arg.setWidth 4, timer := msTicks s.ms.tUs moveMs + 2, status := .unproved } (t.elemOf l id) ∧
        ElemsOnly [id] l s t ∧ RowKeeps s t) ∧
    (∀ act rel outA outR operateMs secs, s.hears l 0x04 q none →
      (s.view l).cfg? id = some (.stop act rel outA outR operateMs secs) → e.status ≠ .blocked →
      ¬ (e.cmd = q.arg.setWidth 4 ∧ e.status = .proved) →
      ∃ t, Sys2Proof.Machine.exec (.setStop q) s = .next t ∧
        Elem.butFlank { e with cmd := q.arg.setWidth 4, timer := msTicks s.ms.tUs operateMs, status := .unproved } (t.elemOf l id) ∧
        ElemsOnly [id] l s t ∧ RowKeeps s t) ∧
    (∀ cl op lock outS outO operateMs, s.hears l 0x05 q none →
      (s.view l).cfg? id = some (.gate cl op lock outS outO operateMs) → e.status ≠ .blocked →
      ¬ (e.cmd = q.arg.setWidth 4 ∧ e.status = .proved) →
      ∃ t, Sys2Proof.Machine.exec (.setGate q) s = .next t ∧
        Elem.butFlank { e with cmd := q.arg.setWidth 4, timer := msTicks s.ms.tUs operateMs, status := .unproved } (t.elemOf l id) ∧
        ElemsOnly [id] l s t ∧ RowKeeps s t)

/-- R103, R113: an accepted BLOCK sets STATUS BLOCKED and the lock MAINTENANCE, and one of an element that is BLOCKED changes nothing; an UNBLOCK ends both, a POINT going to
UNPROVED, a SECTION to DISTURBED and a SIGNAL to UNPROVED with its lamp time. R82, R91, R95, R96, R98: what an accepted
SECTION RESET, ZONE RESET, ZONE ACCESS, SIGNAL RESTORE and SET FLAG do to their element. -/
def Obligations.GuardRequestsSetTheElement : Prop :=
  (∀ (s : State) (l : Lane) (q : Request) (id : Nat) (e : Elem), id = q.target.toNat → e = s.elemOf l id → id ∉ s.mail.seenElem →
    (∀ cfg, s.hears l 0x06 q none → (s.view l).cfg? id = some cfg → classOk 0x06 cfg = true → e.status ≠ .blocked → e.locked = false →
      ∃ t, Sys2Proof.Machine.exec (.block q) s = .next t ∧
        (t.elemOf l id).status = .blocked ∧ (t.elemOf l id).lock = .maintenance ∧ (t.elemOf l id).det = e.det ∧
        (t.elemOf l id).timer = e.timer ∧ (cfg.code ≠ 3 → (t.elemOf l id).cmd = e.cmd) ∧ (cfg.code = 3 → (t.elemOf l id).cmd = 0) ∧
        ElemsOnly [id] l s t ∧ RowKeeps s t) ∧
    (∀ cfg, s.hears l 0x06 q none → (s.view l).cfg? id = some cfg → classOk 0x06 cfg = true → e.status = .blocked →
      ∃ t, Sys2Proof.Machine.exec (.block q) s = .next t ∧ ElemsOnly [] l s t ∧ RowKeeps s t) ∧
    (∀ cfg arm, s.hears l 0x07 q (some arm) → (s.view l).cfg? id = some cfg → classOk 0x07 cfg = true → e.status = .blocked →
      ∃ t, Sys2Proof.Machine.exec (.unblock q) s = .next t ∧
        (t.elemOf l id).lock = .none ∧ (t.elemOf l id).det = e.det ∧
        (t.elemOf l id).status = (if cfg.code = 1 then .disturbed else .unproved) ∧
        (∀ a n, cfg = .signal a n → (t.elemOf l id).timer = n) ∧
        (cfg.code = 2 → (t.elemOf l id).timer = e.timer ∧ (t.elemOf l id).cmd = e.cmd) ∧
        (l = s.lead → t.aon.counters[1] = (if s.aon.counters[1] = 0xFFFFFFFF#32 then 0xFFFFFFFF#32 else s.aon.counters[1] + 1#32)) ∧
        ElemsOnly [id] l s t ∧ RowKeeps s t)) ∧
  (∀ (s : State) (l : Lane) (q : Request) (id : Nat) (e : Elem), id = q.target.toNat → e = s.elemOf l id → id ∉ s.mail.seenElem →
    (∀ srcs clearDelay arm, s.hears l 0x08 q (some arm) →
      (s.view l).cfg? id = some (.trackSection srcs clearDelay .direct) → e.status = .disturbed →
      (∀ d, d ∈ (s.view l).countDets srcs → (s.elemOf l d).cmd = 0 ∧ (s.elemOf l d).phase2 = 0) →
      ∃ t, Sys2Proof.Machine.exec (.sectionReset q) s = .next t ∧
        Elem.butFlank { e with status := .proved } (t.elemOf l id) ∧
        (∀ d, d ∈ (s.view l).countDets srcs →
          Elem.butFlank { s.elemOf l d with status := .proved, timer := 0, det := 0 } (t.elemOf l d)) ∧
        ElemsOnly (id :: (s.view l).countDets srcs) l s t ∧ RowKeeps s t) ∧
    (∀ estop access presence ack out settleMs cond secs arm, s.hears l 0x09 q (some arm) →
      (s.view l).cfg? id = some (.zone estop access presence ack out settleMs cond secs) → e.cmd ≠ 1 → e.det = 0 →
      (∀ n, ((s.view l).aux id).stopTick = some n → 0 < (arm - n).toInt) →
      ∃ t, Sys2Proof.Machine.exec (.zoneReset q) s = .next t ∧ Elem.butFlank { e with cmd := 1 } (t.elemOf l id) ∧
        ElemsOnly [id] l s t ∧ RowKeeps s t) ∧
    (∀ estop access presence ack out settleMs cond secs, s.hears l 0x0A q none →
      (s.view l).cfg? id = some (.zone estop access presence ack out settleMs cond secs) →
      (q.arg = 1 → e.cmd = 0 → e.timer = 0 → (s.view l).condSet cond = true →
        ∃ t, Sys2Proof.Machine.exec (.zoneAccess q) s = .next t ∧ Elem.butFlank { e with cmd := 2 } (t.elemOf l id) ∧
          ElemsOnly [id] l s t ∧ RowKeeps s t) ∧
      (q.arg = 0 → e.cmd ≠ 0 →
        ∃ t, Sys2Proof.Machine.exec (.zoneAccess q) s = .next t ∧
          Elem.butFlank { e with cmd := 0, timer := msTicks s.ms.tUs settleMs } (t.elemOf l id) ∧
          ElemsOnly [id] l s t ∧ RowKeeps s t)) ∧
    (∀ aspects lampTicks arm, s.hears l 0x0B q (some arm) → (s.view l).cfg? id = some (.signal aspects lampTicks) →
      e.status = .failed →
      ∃ t, Sys2Proof.Machine.exec (.signalRestore q) s = .next t ∧
        Elem.butFlank { e with status := .unproved, timer := lampTicks, cmd := (t.elemOf l id).cmd } (t.elemOf l id) ∧
        ElemsOnly [id] l s t ∧ RowKeeps s t) ∧
    (∀ restrictive rule arm, s.hears l 0x0C q arm → (s.view l).cfg? id = some (.block restrictive true rule) →
      e.cmd ≠ q.arg.setWidth 4 →
      ∃ t, Sys2Proof.Machine.exec (.setFlag q) s = .next t ∧
        Elem.butFlank { e with cmd := q.arg.setWidth 4, det := q.arg.setWidth 4 } (t.elemOf l id) ∧
        ElemsOnly [id] l s t ∧ RowKeeps s t))

/-- R133-R140: SET ROUTE takes an IDLE route to REQUESTED with its wait; CANCEL ROUTE takes a REQUESTED one back to IDLE
and a CLEARED one whose approach is not free to CANCELLING for the approach time; EMERGENCY RELEASE takes a route that
has been cleared to CANCELLING for its own time. R117: a request that would move a route a second time in the tick waits
for the next one (that it waits, and is not refused, is the model's choice, assumption 101). -/
def Obligations.RouteRequestsMoveTheRoute : Prop :=
  ∀ (s : State) (l : Lane) (q : Request) (r : Nat) (rc : RouteCfg) (x : RouteRec), r = q.target.toNat → x = s.routeOf l r →
    r ∉ s.mail.seenRoute → (s.view l).area.routes.get? r = some rc →
    (r ∈ s.mail.movedRoute → l = s.lead → s.hears l 0x20 q none → x.state = .idle →
      Sys2Proof.Machine.exec (.setRoute q) s = .next { s with mail := { s.mail with later := s.mail.later ++ [(0x20, q)] } }) ∧
    (r ∉ s.mail.movedRoute →
    (s.hears l 0x20 q none → x.state = .idle →
      ∃ t, Sys2Proof.Machine.exec (.setRoute q) s = .next t ∧
        t.routeOf l r = { x with
          state := .requested, stateTick := s.ms.tick, clearPending := true, wasCleared := false, emerg := false
          timer := max 1 (msTicks s.ms.tUs rc.waitMs), source := sourceCode q.src, setBy := some ⟨q.src, q.tag, q.seq⟩ } ∧
        (∀ k, k ≠ r → t.routeOf l k = s.routeOf l k) ∧ RowKeeps s t) ∧
    (s.hears l 0x21 q none → x.state = .requested →
      ∃ t, Sys2Proof.Machine.exec (.cancelRoute q) s = .next t ∧
        t.routeOf l r = { x with
          state := .idle, stateTick := s.ms.tick, reason := 0, source := 3, timer := 0, clearPending := false
          emerg := false, bndGranted := 0, setBy := none } ∧
        (∀ k, k ≠ r → t.routeOf l k = s.routeOf l k) ∧ RowKeeps s t) ∧
    (s.hears l 0x21 q none → x.state = .cleared → (s.view l).approachFree rc = false →
      ∃ t, Sys2Proof.Machine.exec (.cancelRoute q) s = .next t ∧
        t.routeOf l r = { x with state := .cancelling, stateTick := s.ms.tick, timer := max 1 (msTicks s.ms.tUs rc.apprMs) } ∧
        (∀ k, k ≠ r → t.routeOf l k = s.routeOf l k) ∧ RowKeeps s t) ∧
    (∀ arm, s.hears l 0x22 q (some arm) → x.state = .cleared ∨ x.state = .entered ∨ x.state = .releasing →
      ∃ t, Sys2Proof.Machine.exec (.emergencyRelease q) s = .next t ∧
        t.routeOf l r = { x with
          state := .cancelling, stateTick := s.ms.tick, emerg := true, timer := max 1 (msTicks s.ms.tUs rc.emergMs) } ∧
        (∀ k, k ≠ r → t.routeOf l k = s.routeOf l k) ∧ RowKeeps s t))

/-- R172, R377: a confirmed VEHICLE REMOVE of a vehicle without a report for longer than the limit deletes its authority
and issued limits; a confirmed BOUNDARY RELEASE of a granted slot whose neighbour is silent frees its element. -/
def Obligations.VehicleRemoveAndBoundaryRelease : Prop :=
  (∀ (s : State) (l : Lane) (q : Request) (arm : Tick) (a : AuthRec), s.hears l 0x30 q (some arm) →
    q.target.toNat ∉ s.mail.seenVeh → (s.lane l).region.auths.get? q.target.toNat = some a →
    (s.view l).area.auth.maxAge < (s.ms.tick - a.measTick).toNat →
    ∃ t, Sys2Proof.Machine.exec (.vehicleRemove q) s = .next t ∧
      (t.lane l).region.auths.get? q.target.toNat = none ∧ (t.lane l).region.limits.get? q.target.toNat = none ∧
      (∀ k, k ≠ q.target.toNat → ((t.lane l).region.auths.get? k).map AuthRec.taken =
        ((s.lane l).region.auths.get? k).map AuthRec.taken) ∧
      (t.lane l).region.routes = (s.lane l).region.routes ∧ RowKeeps s t) ∧
  (∀ (s : State) (l : Lane) (q : Request) (arm : Tick) (sc : SlotCfg) (id : Nat), s.hears l 0x23 q (some arm) →
    q.target.toNat ∉ s.mail.seenSlot → (s.view l).area.slots.get? q.target.toNat = some sc → sc.kind = .lent id →
    (∀ a n, (s.view l).cfg? id ≠ some (.signal a n)) → (s.view l).heard sc.area = false →
    (s.elemOf l id).lock = .boundary → (s.elemOf l id).owner.toNat = q.target.toNat →
    ∃ t, Sys2Proof.Machine.exec (.boundaryRelease q) s = .next t ∧
      Elem.butFlank { s.elemOf l id with lock := .none, owner := 0 } (t.elemOf l id) ∧ ElemsOnly [id] l s t ∧ RowKeeps s t)

/-- R272, R273, R352, R353, R455: a confirmed reset command waits for the next tick; in LOCKOUT a MODULE RESET that
began after the latch clears it at once; a GALLERY SWITCH to a valid gallery starts the switch; UPDATE LOCK writes the
owner's lock in the bank record. -/
def Obligations.ModuleRequests : Prop :=
  ∀ (s : State) (l : Lane) (q : Request), l = s.lead →
    (∀ arm, s.hears l 0x38 q (some arm) → s.ms.mode = .run ∨ s.ms.mode = .run2 →
      ∃ t, Sys2Proof.Machine.exec (.moduleReset q) s = .next t ∧
        t.rrq.clearNext = s.rrq.clearNext ++ [(.twoStep none, arm, some (0x38, q))] ∧ t.ms = s.ms ∧
        SameBut [.lanes, .mail, .host, .aon, .nvm, .pair, .rrq, .log, .buf, .gal] s t) ∧
    (∀ arm, s.hears l 0x38 q (some arm) → s.ms.mode = .lockout → s.aon.latch = true → 0 < (arm - s.aon.latchTick).toInt →
      ∃ t, Sys2Proof.Machine.exec (.moduleReset q) s = .next t ∧ t.aon.latch = false ∧ t.ms.mode = .boot ∧
        t.aon.kind = 3 ∧ t.aon.warmSrc = 1 ∧ t.fuses = s.fuses) ∧
    (∀ arm (c : Chan), s.hears l 0x39 q (some arm) → s.ms.mode = .run ∨ s.ms.mode = .run2 → s.aon.latch = false →
      q.target.toNat = c.val + 1 →
      ∃ t, Sys2Proof.Machine.exec (.channelReset q) s = .next t ∧
        t.rrq.clearNext = s.rrq.clearNext ++ [(.twoStep (some c), arm, some (0x39, q))] ∧ t.ms = s.ms ∧
        SameBut [.lanes, .mail, .host, .aon, .nvm, .pair, .rrq, .log, .buf, .gal] s t) ∧
    (∀ g : Fin 8, s.hears l 0x40 q none → q.arg.toNat = g.val → (s.gal.gals[g]).state = .valid → s.gal.sw = none →
      s.gal.pending = none → s.gal.active ≠ g → q.kind = 1 →
      ∃ t, Sys2Proof.Machine.exec (.gallerySwitch q) s = .next t ∧
        t.gal = { s.gal with
          pending := some g, swTick := s.ms.tick + BitVec.ofNat 32 s.area.params.lsw, sw := t.gal.sw, nackSealed := t.gal.nackSealed } ∧
        (∃ w, t.gal.sw = some w ∧ w.g = g ∧ w.n = s.ms.tick + BitVec.ofNat 32 s.area.params.lsw ∧ w.a = s.ms.tick ∧
          w.unit = s.node ∧ w.own = true ∧ w.decision = 0) ∧
        t.mail.seenSwitch = true ∧ t.ms = s.ms ∧
        SameBut [.lanes, .mail, .host, .aon, .nvm, .pair, .rrq, .log, .gal, .buf] s t) ∧
    (∀ arm, s.hears l 0x41 q arm → s.bankRec.ownerLock ≠ decide (q.arg = 1) →
      ∃ t, Sys2Proof.Machine.exec (.updateLock q) s = .next t ∧
        t.bankRec = BankRec.sealed { s.bankRec with ownerLock := decide (q.arg = 1), seq := s.bankRec.seq + 1 } ∧
        t.nvm = { s.nvm with rec0 := t.nvm.rec0, rec1 := t.nvm.rec1, retLog := t.nvm.retLog, conv := t.nvm.conv } ∧
        SameBut [.lanes, .mail, .host, .aon, .nvm, .pair, .rrq, .log, .buf, .gal] s t)

/-- R80, R81, R89, R91, R115, R119, R122: a POINT that is not in its commanded position when its timer ends is FAILED, a
SIGNAL that does not prove goes to FAILED and its most restrictive aspect, DETECTED of a SECTION is clear again where its sources show
clear (R81), and a COUNT DETECTOR, which holds no timer, stays as it was; the end of an emergency release's time takes the route to IDLE, no
route stays REQUESTED past its wait, and one without its boundary grants W_b ticks after it entered CHECKING is REJECTED with 0x5D
(R371). -/
def Obligations.TimersExpire : Prop :=
  ∀ (s : State) (l : Lane), s.evaluates l →
    (∀ (id : BitVec 15) (e : Elem) (cfg : ClassCfg), e = s.elemOf l id.toNat → s.area.elems.get? id.toNat ≠ none →
      (s.view l).cfg? id.toNat = some cfg → 0 < e.timer → e.status = .unproved → e.det ≠ e.cmd →
      (∀ nrm rev outN outR throwMs secs, cfg = .point nrm rev outN outR throwMs secs → e.cmd ≠ 0 → e.det ≠ 3 →
        ∃ t, Sys2Proof.Machine.exec (.elementTimerExpiry id) s = .next t ∧
          Elem.butFlank { e with timer := 0, status := .failed } (t.elemOf l id.toNat) ∧ ElemsOnly [id.toNat] l s t ∧ RowKeeps s t) ∧
      (∀ a n, cfg = .signal a n →
        ∃ t, Sys2Proof.Machine.exec (.elementTimerExpiry id) s = .next t ∧
          Elem.butFlank { e with timer := 0, status := .failed, cmd := 0 } (t.elemOf l id.toNat) ∧
          ElemsOnly [id.toNat] l s t ∧ RowKeeps s t)) ∧
    (∀ (id : BitVec 15) (e : Elem) (cfg : ClassCfg), e = s.elemOf l id.toNat → s.area.elems.get? id.toNat ≠ none →
      (s.view l).cfg? id.toNat = some cfg → 0 < e.timer →
      (∀ srcs delay rec, cfg = .trackSection srcs delay rec →
        (e.timer < delay → (∀ d, .detector d ∈ srcs → (s.elemOf l d).det = 0) →
          ∃ t, Sys2Proof.Machine.exec (.elementTimerExpiry id) s = .next t ∧
            Elem.butFlank { e with timer := 0, det := 0, status := (t.elemOf l id.toNat).status } (t.elemOf l id.toNat) ∧
            ElemsOnly [id.toNat] l s t ∧ RowKeeps s t) ∧
        (delay ≤ e.timer ∨ (∃ d, .detector d ∈ srcs ∧ (s.elemOf l d).det ≠ 0) →
          ∃ t, Sys2Proof.Machine.exec (.elementTimerExpiry id) s = .next t ∧ ElemsOnly [] l s t ∧ RowKeeps s t)) ∧
      (∀ heads, cfg = .detCount heads →
        ∃ t, Sys2Proof.Machine.exec (.elementTimerExpiry id) s = .next t ∧ ElemsOnly [] l s t ∧ RowKeeps s t)) ∧
    (∀ (r : BitVec 14) (x : RouteRec) (rc : RouteCfg), x = s.routeOf l r.toNat → (s.view l).area.routes.get? r.toNat = some rc →
      r.toNat ∉ s.mail.movedRoute →
      (x.timer ≠ 0 → x.state = .cancelling → x.emerg = true →
        ∃ t, Sys2Proof.Machine.exec (.routeTimerExpiry r) s = .next t ∧ (t.routeOf l r.toNat).state = .idle ∧
          (t.routeOf l r.toNat).timer = 0 ∧ (t.routeOf l r.toNat).stateTick = s.ms.tick ∧ RowKeeps s t) ∧
      (x.timer ≠ 0 → x.state = .requested →
        ∃ t, Sys2Proof.Machine.exec (.routeTimerExpiry r) s = .next t ∧
          ((t.routeOf l r.toNat).state = .checking ∨ (t.routeOf l r.toNat).state = .rejected) ∧ RowKeeps s t) ∧
      (x.state = .checking → (s.view l).allGranted rc x = false →
        (((s.view l).area.params.grantWait : Int) ≤ (s.ms.tick - x.stateTick).toInt →
          ∃ t, Sys2Proof.Machine.exec (.boundaryGrantWaitExpiry r) s = .next t ∧ (t.routeOf l r.toNat).state = .rejected ∧
            (t.routeOf l r.toNat).reason = 0x5D ∧ (∀ k, k ≠ r.toNat → t.routeOf l k = s.routeOf l k) ∧ RowKeeps s t) ∧
        ((s.ms.tick - x.stateTick).toInt < ((s.view l).area.params.grantWait : Int) →
          ∃ t, Sys2Proof.Machine.exec (.boundaryGrantWaitExpiry r) s = .next t ∧
            t.lane l = { s.lane l with held := (t.lane l).held } ∧ RowKeeps s t)))

/-- R371-R375, R97: a LOCK item gives a free element of a LENT slot the slot's boundary lock and commands the state that it requires, and is
refused with the code of the first failing test of R372, 0x48 or 0x55 here, to seal in the tick; a GRANTED item sets the route's bit of
its proxy, and the last one takes the route to LOCKED; a REFUSED item takes it to REJECTED with 0x5D; RELEASE and IDLE end the boundary
lock of a GRANTED slot, FREE that of a RELEASING proxy, which shows its owner's values; every item ends PEER_LOST; the sixteenth silent
tick, and none before it, marks the neighbour lost. -/
def Obligations.BoundaryItems : Prop :=
  ∀ (s : State) (l : Lane), s.evaluates l →
    (∀ (i : BndItem) (sc : SlotCfg) (id : Nat) (cfg : ClassCfg), (s.view l).area.slots.get? i.slot.toNat = some sc → sc.kind = .lent id →
      (s.view l).cfg? id = some cfg → cfg.code ≠ 3 →
      (∀ m, topCommand cfg = some m → i.reqVal.toNat ≤ m → (s.elemOf l id).lock = .none → (s.elemOf l id).status ≠ .blocked →
        (s.elemOf l id).status ≠ .failed → (∀ h, h ∈ (s.view l).flankHolders id → h.2 = i.reqVal) →
        (s.view l).precondition id i.reqVal = 0 →
        ∃ t, Sys2Proof.Machine.exec (.boundaryLockItem i) s = .next t ∧ (t.elemOf l id).lock = .boundary ∧
          (t.elemOf l id).owner = BitVec.ofNat 14 i.slot.toNat ∧ (cfg.code ≠ 1 → (t.elemOf l id).cmd = i.reqVal) ∧
          (t.lane l).region.k.granted.get? i.slot.toNat = some i.reqVal ∧
          (t.lane l).region.k.peers[sc.area] = ⟨some s.ms.tick, 0, false⟩ ∧
          (l = s.lead → t.pair.grantCnt = min 65535 (s.pair.grantCnt + 1)) ∧ ElemsOnly [id] l s t ∧ RowKeeps s t) ∧
      (∀ (code : Byte), (s.elemOf l id).lock = .none →
        ((code = 0x48 ∧ ∃ m, topCommand cfg = some m ∧ m < i.reqVal.toNat) ∨
          (code = 0x55 ∧ (∃ m, topCommand cfg = some m ∧ i.reqVal.toNat ≤ m) ∧ (s.elemOf l id).status = .blocked)) →
        ∃ t, Sys2Proof.Machine.exec (.boundaryLockItem i) s = .next t ∧
          (t.lane l).region.k.refused.get? i.slot.toNat = some (code, if (s.view l).gone then s.ms.tick + 1 else s.ms.tick) ∧
          (t.lane l).region.k.peers[sc.area] = ⟨some s.ms.tick, 0, false⟩ ∧
          (l = s.lead → t.pair.refusedCnt = min 65535 (s.pair.refusedCnt + 1)) ∧ ElemsOnly [] l s t ∧ RowKeeps s t) ∧
      (∀ op : BitVec 4, op = 0x3 ∨ op = 0x0 → (s.elemOf l id).lock = .boundary → (s.elemOf l id).owner.toNat = i.slot.toNat →
        ∃ t, Sys2Proof.Machine.exec (.boundaryReleaseItem i op) s = .next t ∧
          Elem.butFlank { s.elemOf l id with lock := .none, owner := 0 } (t.elemOf l id) ∧
          (t.lane l).region.k.granted.get? i.slot.toNat = none ∧
          (t.lane l).region.k.peers[sc.area] = ⟨some s.ms.tick, 0, false⟩ ∧ ElemsOnly [id] l s t ∧ RowKeeps s t)) ∧
    (∀ (i : BndItem) (sc : SlotCfg) (id : Nat) (cls : BitVec 4), (s.view l).area.slots.get? i.slot.toNat = some sc →
      sc.kind = .proxy id → (s.view l).cfg? id = some (.boundary cls i.slot) →
      ((s.elemOf l id).lock = .boundary →
        ∃ t, Sys2Proof.Machine.exec (.boundaryReleaseItem i 0x8) s = .next t ∧
          Elem.butFlank { s.elemOf l id with
            lock := .none, owner := 0, status := .ofCode (i.word.extractLsb' 56 4), det := i.word.extractLsb' 52 4
            cmd := i.word.extractLsb' 48 4 } (t.elemOf l id) ∧
          (t.lane l).region.k.peers[sc.area] = ⟨some s.ms.tick, 0, false⟩ ∧ ElemsOnly [id] l s t ∧ RowKeeps s t) ∧
      (∀ (rc : RouteCfg), (s.elemOf l id).lock = .route → (s.elemOf l id).owner.toNat = i.route.toNat →
        (s.view l).area.routes.get? i.route.toNat = some rc → (s.routeOf l i.route.toNat).state = .checking →
        i.route.toNat ∉ s.mail.movedRoute →
        ((s.view l).proxyIdx rc id < 8 → rc.reqOf id = some i.reqVal →
          ∃ t, Sys2Proof.Machine.exec (.boundaryGrantedItem i) s = .next t ∧
            (t.routeOf l i.route.toNat).bndGranted.getLsbD ((s.view l).proxyIdx rc id) = true ∧
            ((∀ k, k < ((s.view l).proxies rc).length → k ≠ (s.view l).proxyIdx rc id →
                (s.routeOf l i.route.toNat).bndGranted.getLsbD k = true) → (t.routeOf l i.route.toNat).state = .locked) ∧
            (t.lane l).region.k.peers[sc.area] = ⟨some s.ms.tick, 0, false⟩ ∧
            (∀ k, k ≠ i.route.toNat → t.routeOf l k = s.routeOf l k) ∧ RowKeeps s t) ∧
        (∃ t, Sys2Proof.Machine.exec (.boundaryRefusedItem i) s = .next t ∧
          (t.routeOf l i.route.toNat).state = .rejected ∧ (t.routeOf l i.route.toNat).reason = 0x5D ∧
          (t.lane l).region.k.peers[sc.area] = ⟨some s.ms.tick, 0, false⟩ ∧
          (∀ k, k ≠ i.route.toNat → t.routeOf l k = s.routeOf l k) ∧ RowKeeps s t))) ∧
    (∀ area : Fin 16, area.val < s.area.areas.length →
      (15 ≤ ((s.lane l).region.k.peers[area]).missing → ((s.lane l).region.k.peers[area]).lost = false →
        ((s.lane l).region.k.peers[area]).lastFrame ≠ some s.ms.tick →
        ∃ t, Sys2Proof.Machine.exec (.boundaryPeerLost area) s = .next t ∧
          (t.lane l).region.k.peers[area] = { (s.lane l).region.k.peers[area] with missing := 16, lost := true } ∧
          (∀ a : Fin 16, a ≠ area → (t.lane l).region.k.peers[a] = (s.lane l).region.k.peers[a]) ∧
          (t.lane l).region.elems = (s.lane l).region.elems ∧ (t.lane l).region.routes = (s.lane l).region.routes ∧ RowKeeps s t) ∧
      (((s.lane l).region.k.peers[area]).missing < 15 →
        ∃ t, Sys2Proof.Machine.exec (.boundaryPeerLost area) s = .next t ∧ (t.lane l).region = (s.lane l).region ∧ RowKeeps s t))

/-! ### Link engine, guardian, area time (R302-R332, R335-R344, R359-R366) -/

/-- R38, R305, R308, R322, R324, R327, R329, R335: a SAFE frame that passes at an RX entry is delivered once for its sender, stream and tick,
and goes on along its ring or chain where its residence time holds, and is cut off otherwise; one outside its acceptance
window is counted and delivered nowhere; one with a wrong check value is counted as bad, restarts a listen and ends a contention. -/
def Obligations.SafeFramesAreDeliveredOnce : Prop :=
  ∀ (s : State) (f : RxFrame), s.portOpen f.port = true →
    (∀ (body : List Byte) (fr : Frame) (dev : Int), stripFcs f.bytes = some body → fr = Frame.ofBytes body → fr.type = 0x10 →
      body.length = frameLen body → s.knownArea fr.area = true → entryKind (s.slotEntry f.port f.slot) = .rx →
      dev = f.ofsNs - s.expectedNs f.port (s.slotEntry f.port f.slot) →
      (s.inAccept f.port f.slot dev = true → ¬ (fr.src = s.node ∧ fr.area = s.areaId ∧ s.pair.idOk = true) →
        ∃ t, Sys2Proof.Machine.exec (.safe f) s = .next t ∧
          ((fr.key, fr.tick) ∉ s.buf.rxSeen →
            t.buf.rxCur = s.buf.rxCur ++ [⟨body⟩] ∧ t.buf.rxSeen = s.buf.rxSeen ++ [(fr.key, fr.tick)]) ∧
          ((fr.key, fr.tick) ∈ s.buf.rxSeen → t.buf.rxCur = s.buf.rxCur ∧ t.buf.rxSeen = s.buf.rxSeen) ∧
          (∀ q, s.otherPort f.port = some q → s.portOpen q = true → (s.portCfg q).nbr ≠ fr.src →
            ((Int.ofNat f.resNs - 640).natAbs ≤ 16 → t.net.sent = s.net.sent ++ [(q, withFcs body)]) ∧
            (16 < (Int.ofNat f.resNs - 640).natAbs → t.net.sent = s.net.sent ∧ t.net.fwdLate = s.net.fwdLate + 1 ∧
              (s.net.fwdLate = 2 → s.net.fullSilent = false → s.pwr.dom.getLsbD 2 = true → t.net.state = .fullSilence ∧
                t.net.fullCause = 3))) ∧
          ((Int.ofNat f.resNs - 640).natAbs ≤ 16 ∨ s.net.fwdLate ≠ 2 → t.sh = s.sh) ∧
          t.net.devs = (dev :: s.net.devs).take 15 ∧ SameBut [.net, .tim, .sh, .buf, .pair, .log, .mail, .host] s t) ∧
      (s.inAccept f.port f.slot dev = false →
        ∃ t, Sys2Proof.Machine.exec (.safe f) s = .next t ∧
          (t.net.ports[f.port]).edgeCnt =
            (if (s.net.ports[f.port]).edgeCnt < 65535 then (s.net.ports[f.port]).edgeCnt + 1 else 65535) ∧
          t.net.sent = s.net.sent ∧ SameBut [.net, .log, .mail, .host] s t)) ∧
    (stripFcs f.bytes = none →
      ∃ t, Sys2Proof.Machine.exec (.safe f) s = .next t ∧
        (t.net.ports[f.port]).badCnt =
          (if (s.net.ports[f.port]).badCnt < 65535 then (s.net.ports[f.port]).badCnt + 1 else 65535) ∧
        (∀ p : Port, p ≠ f.port → t.net.ports[p] = s.net.ports[p]) ∧
        (s.net.state ≠ .coldstart → SameBut [.net] s t ∧ t.net = { s.net with
          ports := t.net.ports, listenFrom := if s.net.state = .listen then s.nowNs else s.net.listenFrom }) ∧
        (s.net.state = .coldstart → t.net.state = .listen ∧
          t.net.retreats = (if s.net.retreats < 255 then s.net.retreats + 1 else 255) ∧ SameBut [.net, .log, .mail, .host] s t))

/-- R305, R343, R344, R452: CHAMBER and BULK complete. Every inner frame of an accepted chamber that is addressed to the node
is in the receive buffer afterwards, its first copy once; of an accepted BULK frame that is addressed to the node, the
update items of the first copy reach the update mover in order, and those of a further copy or for another node do not. -/
def Obligations.ChambersAndBulkFrames : Prop :=
  ∀ (s : State) (f : RxFrame) (body : List Byte) (fr : Frame), s.portOpen f.port = true → stripFcs f.bytes = some body →
    fr = Frame.ofBytes body → body.length = frameLen body → s.knownArea fr.area = true →
    entryKind (s.slotEntry f.port f.slot) = .rx →
    s.inAccept f.port f.slot (f.ofsNs - s.expectedNs f.port (s.slotEntry f.port f.slot)) = true →
    ¬ (fr.src = s.node ∧ fr.area = s.areaId ∧ s.pair.idOk = true) →
    (fr.type = 0x11 →
      (∃ t, Sys2Proof.Machine.exec (.chamber f) s = .next t ∧
        (∀ b, b ∈ (innerFrames body.length fr.payload).1 → s.addressed (Frame.ofBytes b).dst = true →
          s.ownFrame (Frame.ofBytes b) = false → ((Frame.ofBytes b).key, (Frame.ofBytes b).tick) ∈ t.buf.rxSeen) ∧
        (∃ more, t.buf.rxCur = s.buf.rxCur ++ more ∧ (∀ m, m ∈ more → m.bytes ∈ (innerFrames body.length fr.payload).1)) ∧
        SameBut [.net, .tim, .sh, .buf, .pair, .log, .mail, .host] s t) ∧
      (∀ b, innerFrames body.length fr.payload = ([b], false) → s.addressed (Frame.ofBytes b).dst = true →
        s.ownFrame (Frame.ofBytes b) = false → ((Frame.ofBytes b).key, (Frame.ofBytes b).tick) ∉ s.buf.rxSeen →
        ∃ t, Sys2Proof.Machine.exec (.chamber f) s = .next t ∧ t.buf.rxCur = s.buf.rxCur ++ [⟨b⟩])) ∧
    (fr.type = 0x20 →
      (fr.dst ≠ s.node → fr.dst ≠ 0xFFF →
        ∃ t, Sys2Proof.Machine.exec (.bulk f) s = .next t ∧ SameBut [.net, .tim, .sh, .log, .mail, .host] s t) ∧
      (∀ (items : List UpdItem) (key : Nat × Tick), fr.dst = s.node ∨ fr.dst = 0xFFF → fr.records.bind updItems = some items →
        key = (fr.key, if (s.slotEntry f.port f.slot).getLsbD 60 then s.ms.tick - 1 else s.ms.tick) →
        (key ∉ s.buf.rxSeen →
          ∃ t s0, Sys2Proof.Machine.exec (.bulk f) s = .next t ∧ t = items.foldl (fun x i => x.takeUpdate i) s0 ∧
            key ∈ s0.buf.rxSeen ∧ SameBut [.net, .tim, .sh, .buf, .log, .mail, .host] s s0) ∧
        (key ∈ s.buf.rxSeen →
          ∃ t, Sys2Proof.Machine.exec (.bulk f) s = .next t ∧ t.buf.rxSeen = s.buf.rxSeen ∧
            SameBut [.net, .tim, .sh, .buf, .log, .mail, .host] s t)))

/-- R21, R23, R39, R302, R310, R311, R321, R324, R344, R452: TRANSMIT_SLOT and BRIDGE_SLOT complete. A slot of a stream sends the
sealed frame of the present tick with the copy that two lanes share, and what still runs at the close of its window is
cut off; with none sealed the slot stays empty and is counted; a slot of a BULK stream sends the chunks that it is the turn of; a node without a confirmed identity sends no stream; a start
outside the transmit window is blocked, the third in a tick being full silence; the initiating end sends a DLY_REQ in the
link window; a bridge slot sends the group's chamber, and every other entry sends nothing. -/
def Obligations.SlotsSendWhatTwoLanesSealed : Prop :=
  ∀ (s : State) (p : Port) (slot : Nat) (dev : Int) (joining : Bool) (e : DWord), e = s.slotEntry p slot →
    (entryKind e = .tx → s.net.state = .sync → s.portOpen p = true → s.pair.idOk = true →
      (∀ c, s.part.streams.find? (fun x => x.stream == entryStream e) = some c → ∀ dst n, c.kind ≠ .bulk dst n) →
      (∀ fr c same bs, s.buf.tx.find? (fun x => x.stream == entryStream e && x.tick == s.ms.tick) = some fr →
        s.storeFull fr = false → fr.choose = some (c, same) → bs = s.frameBytes fr c same (s.dirOf p) →
        (WholeInWindow s e dev bs.length →
          ∃ t, Sys2Proof.Machine.exec (.transmitSlot p slot ⟨dev, joining⟩) s = .next t ∧
            t.net = { s.net with sent := s.net.sent ++ [(p, bs)] } ∧
            t.buf.tx = s.buf.tx.map (fun x =>
              if x.stream == entryStream e && x.tick == s.ms.tick then { x with gone := true } else x) ∧
            t.buf = { s.buf with tx := t.buf.tx } ∧ SameBut [.net, .buf] s t) ∧
        (s.inWindow e dev = true → s.windowEnd e < Int.ofNat (lineTime bs.length) + 10 * dev →
          ∃ t n, Sys2Proof.Machine.exec (.transmitSlot p slot ⟨dev, joining⟩) s = .next t ∧ n < bs.length ∧
            t.net = { s.net with sent := s.net.sent ++ [(p, bs.take n)] } ∧
            t.buf = { s.buf with tx := t.buf.tx } ∧ SameBut [.net, .buf] s t) ∧
        (s.inWindow e dev = false →
          (s.net.blockedTick ≠ 2 → Sys2Proof.Machine.exec (.transmitSlot p slot ⟨dev, joining⟩) s =
            .next { s with net := { s.net with blockedTick := s.net.blockedTick + 1 } }) ∧
          (s.net.blockedTick = 2 → s.net.fullSilent = false → s.pwr.dom.getLsbD 2 = true →
            ∃ t, Sys2Proof.Machine.exec (.transmitSlot p slot ⟨dev, joining⟩) s = .next t ∧ t.net.state = .fullSilence ∧
              t.net.fullSilent = true ∧ t.net.fullCause = 2 ∧ t.net.sent = s.net.sent ∧
              SameBut [.net, .sh, .log, .mail, .host] s t))) ∧
      ((∀ x, x ∈ s.buf.tx → x.stream = entryStream e → x.tick ≠ s.ms.tick) →
        ∃ t, Sys2Proof.Machine.exec (.transmitSlot p slot ⟨dev, joining⟩) s = .next t ∧
          t.net = { s.net with late := if s.net.late < 65535 then s.net.late + 1 else 65535 } ∧ SameBut [.net] s t)) ∧
    (entryKind e = .tx → s.net.state = .sync → s.portOpen p = true → s.pair.idOk = true → ∀ dst items stream v,
      s.part.streams.find? (fun x => x.stream == entryStream e) = some ⟨.bulk dst items, stream, v⟩ →
      (s.bulkItems items = [] → Sys2Proof.Machine.exec (.transmitSlot p slot ⟨dev, joining⟩) s = .next s) ∧
      (∀ bs, s.bulkItems items ≠ [] → bs = s.bulkFrame p e ⟨.bulk dst items, stream, v⟩ dst (s.bulkItems items) →
        WholeInWindow s e dev bs.length →
        ∃ t, Sys2Proof.Machine.exec (.transmitSlot p slot ⟨dev, joining⟩) s = .next t ∧
          t.net = { s.net with sent := s.net.sent ++ [(p, bs)] } ∧ SameBut [.net] s t)) ∧
    (entryKind e = .tx → s.pair.idOk = false → Sys2Proof.Machine.exec (.transmitSlot p slot ⟨dev, joining⟩) s = .next s) ∧
    (entryKind e = .link → s.delayOpen p = true → s.initiates p joining = true → s.measures p = true →
      (WholeInWindow s e dev 64 →
        ∃ t, Sys2Proof.Machine.exec (.transmitSlot p slot ⟨dev, joining⟩) s = .next t ∧
          t.net = { s.net with ports := t.net.ports, sent := s.net.sent ++ [(p, s.timingFrame p 0x03 (leBytes 2 s.node.toNat))] } ∧
          t.net.ports[p] = { s.net.ports[p] with t1 := some (Int.ofNat (s.edgeNs + entryNs e) + dev).toNat } ∧
          (∀ q : Port, q ≠ p → t.net.ports[q] = s.net.ports[q]) ∧ SameBut [.net] s t)) ∧
    (entryKind e = .link → s.delayOpen p = false ∨ s.initiates p joining = false ∨ s.measures p = false →
      Sys2Proof.Machine.exec (.transmitSlot p slot ⟨dev, joining⟩) s = .next s) ∧
    (entryKind e ≠ .tx → entryKind e ≠ .link → Sys2Proof.Machine.exec (.transmitSlot p slot ⟨dev, joining⟩) s = .next s) ∧
    (entryKind e = .brg → s.net.state = .sync → s.pair.idOk = true → s.portOpen p = true →
      (∀ q bs, q = (s.buf.bridge.filter (fun x => x.1 == entryGroup e)).map (fun x => x.2) → q ≠ [] →
        bs = withFcs (stampHead (headBytes 0x11 s.standby s.node 0xFFF (BitVec.ofNat 12 (entryGroup e)) q.flatten.length 1 s.areaId)
          (s.dirOf p) s.gal.active.val ++ q.flatten) → WholeInWindow s e dev bs.length →
        ∃ t, Sys2Proof.Machine.exec (.bridgeSlot p ⟨slot, dev⟩) s = .next t ∧
          t.net = { s.net with sent := s.net.sent ++ [(p, bs)] } ∧ SameBut [.net] s t) ∧
      ((∀ x, x ∈ s.buf.bridge → x.1 ≠ entryGroup e) →
        Sys2Proof.Machine.exec (.bridgeSlot p ⟨slot, dev⟩) s = .next s)) ∧
    (entryKind e ≠ .brg → Sys2Proof.Machine.exec (.bridgeSlot p ⟨slot, dev⟩) s = .next s)

/-- R307, R311, R312, R324, R331, R361, R362, R405: full silence holds every port, shows its cause and frees the locks of NET; a lost
link carries nothing and is counted, its last median kept; a link that comes up is measured anew, one disabled by its delay
staying disabled; the port then reports its neighbour; a contradicting neighbour in SYNC makes the link a lost one; the median of the last three results (of the exchange, or brought by the row: assumption 132) inside the
tolerance of the planned delay lets the link carry frames, one outside disables it; the first median of the sync link steps the counter of a node that integrates. -/
def Obligations.SilenceAndLinks : Prop :=
  ∀ s : State, s.pwr.dom.getLsbD 2 = true →
    (∀ cause, s.net.fullSilent = false →
      ∃ t, Sys2Proof.Machine.exec (.fullSilence cause) s = .next t ∧ t.net.state = .fullSilence ∧ t.net.fullSilent = true ∧
        t.net.fullCause = (match cause with | .refclk => 1 | .ownEngine => 2 | .forwarding => 3 | .hubDie => 4) ∧
        (∀ p : Port, t.portOpen p = false) ∧
        (∀ i : Fin 64, s.sh.locks[i].owner = 4 → t.sh.locks[i] = ⟨0, true⟩) ∧
        (∀ i : Fin 64, s.sh.locks[i].owner ≠ 4 → t.sh.locks[i] = s.sh.locks[i]) ∧
        SameBut [.net, .sh, .log, .mail, .host] s t) ∧
    (∀ p : Port, (s.portCfg p).role ≠ .unused →
      (∃ t, Sys2Proof.Machine.exec (.linkLoss p) s = .next t ∧
        t.net.ports[p] = { s.net.ports[p] with
          blockLock := false, linkUp := false, fresh := false, t1 := none, results := [], loss := (t.net.ports[p]).loss } ∧
        ((s.net.ports[p]).linkUp = true → (t.net.ports[p]).loss =
          (if (s.net.ports[p]).loss < 255 then (s.net.ports[p]).loss + 1 else 255)) ∧
        (∀ q : Port, q ≠ p → t.net.ports[q] = s.net.ports[q]) ∧ t.pair = { s.pair with portMatch := s.pair.portMatch.set p 0 } ∧
        t.net = { s.net with ports := t.net.ports } ∧ SameBut [.net, .pair, .log, .mail, .host] s t) ∧
      (∃ t, Sys2Proof.Machine.exec (.linkUp p) s = .next t ∧
        t.net.ports[p] = { s.net.ports[p] with
          blockLock := true, linkUp := !(s.net.ports[p]).dlyOut, fresh := false, t1 := none, results := [] } ∧
        (∀ q : Port, q ≠ p → t.net.ports[q] = s.net.ports[q]) ∧ t.pair = { s.pair with portMatch := s.pair.portMatch.set p 3 } ∧
        t.net = { s.net with ports := t.net.ports } ∧ SameBut [.net, .pair] s t)) ∧
    (∀ (p : Port) (r0 r1 r2 : Option Int) (d : Int), s.delayOpen p = true → 3 ≤ (s.gained p r0 r1 r2).length →
      d = medianOf (s.gained p r0 r1 r2) →
      (¬ (s.net.state = .sync ∧ (s.net.ports[p]).nbrValid = true ∧ (s.net.ports[p]).nbr ≠ (s.portCfg p).nbr) →
        ∃ t, Sys2Proof.Machine.exec (.linkDelayMeasurement p r0 r1 r2) s = .next t ∧
          (t.net.ports[p]).median = d ∧ (t.net.ports[p]).delay = BitVec.ofNat 24 (min 16777215 (d / 8).toNat) ∧
          (t.net.ports[p]).delayValid = true ∧ (t.net.ports[p]).fresh = true ∧ (t.net.ports[p]).results = [] ∧
          (t.net.ports[p]).dlyOut = decide (8 * (s.portCfg p).tolNs < (d - 8 * Int.ofNat (s.portCfg p).delayNs).natAbs) ∧
          ((t.net.ports[p]).dlyOut = true → (t.net.ports[p]).linkUp = false) ∧
          ((t.net.ports[p]).dlyOut = false →
            (t.net.ports[p]).linkUp = ((s.net.ports[p]).nbrOk || !(s.net.ports[p]).nbrValid)) ∧
          (∀ q : Port, q ≠ p → t.net.ports[q] = s.net.ports[q]) ∧
          (s.net.state = .integrate → s.net.servo = false → p = s.syncPortCfg →
            t.net.servo = true ∧ t.aon = { s.aon with timeNs := s.aon.timeNs + BitVec.ofInt 64 (d / 8) }) ∧
          (s.net.state ≠ .integrate → t.aon = s.aon ∧ t.net = { s.net with ports := t.net.ports }) ∧
          t.pair = { s.pair with portMatch := s.pair.portMatch.set p (t.portReport p), idOk := t.pair.idOk } ∧
          (s.pair.idOk = true → t.pair.idOk = true) ∧ SameBut [.net, .aon, .pair, .log, .mail, .host] s t) ∧
      (s.net.state = .sync → (s.net.ports[p]).nbrValid = true → (s.net.ports[p]).nbr ≠ (s.portCfg p).nbr →
        ∃ t, Sys2Proof.Machine.exec (.linkDelayMeasurement p r0 r1 r2) s = .next t ∧ (t.net.ports[p]).linkUp = false ∧
          (t.net.ports[p]).nbrOk = false ∧ (t.net.ports[p]).delay = (s.net.ports[p]).delay ∧
          ((s.net.ports[p]).linkUp = true → (t.net.ports[p]).loss =
            (if (s.net.ports[p]).loss < 255 then (s.net.ports[p]).loss + 1 else 255)) ∧
          t.net = { s.net with ports := t.net.ports } ∧ SameBut [.net, .log, .mail, .host] s t))

/-- R310, R321, R325, R331: DLY_REQ, DLY_RSP and DLY_FUP complete. A delay request names the neighbour and is answered with
its receive and transmit instants, the forwarding latency and the strap identifier, except in a contention window; the
initiator takes the link delay of the four instants, in units of 0.125 ns, and sends it on; the responder takes it. A node
that knows its edges answers inside the link window. -/
def Obligations.DelayExchange : Prop :=
  ∀ (s : State) (f : RxTiming) (body : List Byte),
    (∀ (turn : Nat) (nbr : BitVec 12) (bs : List Byte), DelayFrame s f 3 body → nbr = BitVec.ofNat 12 (natAt body 16 2) →
      bs = s.timingFrame f.port 4
        (leBytes 8 f.rxNs ++ leBytes 8 (f.rxNs + turn) ++ leBytes 2 5120 ++ leBytes 2 s.node.toNat) →
      (s.net.state = .coldstart →
        ∃ t, Sys2Proof.Machine.exec (.dlyReq f turn) s = .next t ∧ t.net.sent = s.net.sent ∧
          (t.net.ports[f.port]).nbr = nbr ∧ (t.net.ports[f.port]).nbrValid = true ∧
          (t.net.ports[f.port]).nbrOk = (nbr == (s.portCfg f.port).nbr) ∧ SameBut [.net, .pair, .log, .mail, .host] s t) ∧
      (s.net.state = .listen ∨ s.net.state = .integrate →
        ∃ t, Sys2Proof.Machine.exec (.dlyReq f turn) s = .next t ∧ t.net.sent = s.net.sent ++ [(f.port, bs)] ∧
          (t.net.ports[f.port]).nbr = nbr ∧ (t.net.ports[f.port]).nbrValid = true ∧
          (t.net.ports[f.port]).nbrOk = (nbr == (s.portCfg f.port).nbr) ∧ SameBut [.net, .pair, .log, .mail, .host] s t) ∧
      (∀ (i : Nat) (e : DWord), s.net.state = .sync ∨ s.net.state = .silent → s.findEntry f.port .link = some (i, e) →
        WholeInWindow s e (s.planDev (Int.ofNat (entryNs e)) (f.rxNs + turn)) 64 →
        ∃ t, Sys2Proof.Machine.exec (.dlyReq f turn) s = .next t ∧ t.net.sent = s.net.sent ++ [(f.port, bs)] ∧
          (t.net.ports[f.port]).nbr = nbr ∧ (t.net.ports[f.port]).nbrValid = true ∧
          (t.net.ports[f.port]).nbrOk = (nbr == (s.portCfg f.port).nbr) ∧ SameBut [.net, .pair, .log, .mail, .host] s t)) ∧
    (∀ (turn : Nat) (nbr : BitVec 12), DelayFrame s f 4 body → nbr = BitVec.ofNat 12 (natAt body 34 2) →
      ((s.net.ports[f.port]).t1 = none →
        ∃ t, Sys2Proof.Machine.exec (.dlyRsp ⟨f, turn⟩) s = .next t ∧ t.net.sent = s.net.sent ∧
          (t.net.ports[f.port]).nbr = nbr ∧ (t.net.ports[f.port]).results = (s.net.ports[f.port]).results ∧
          SameBut [.net, .pair, .log, .mail, .host] s t) ∧
      (∀ (i : Nat) (e : DWord) (t1 : Nat) (d : Int), (s.net.ports[f.port]).t1 = some t1 →
        s.net.state = .sync ∨ s.net.state = .silent → s.findEntry f.port .link = some (i, e) →
        WholeInWindow s e (s.planDev (Int.ofNat (entryNs e)) (f.rxNs + turn)) 64 →
        d = 4 * ((Int.ofNat f.rxNs - Int.ofNat t1) - (Int.ofNat (natAt body 24 8) - Int.ofNat (natAt body 16 8))
          + (s.portCfg f.port).asymNs) →
        ∃ t, Sys2Proof.Machine.exec (.dlyRsp ⟨f, turn⟩) s = .next t ∧ (t.net.ports[f.port]).nbr = nbr ∧
          (t.net.ports[f.port]).t1 = none ∧ (t.net.ports[f.port]).results.getLast? = some d ∧
          t.net.sent = s.net.sent ++ [(f.port, s.timingFrame f.port 5 (leBytes 8 t1 ++ leBytes 8 f.rxNs ++
            leBytes 4 (BitVec.ofInt 32 d).toNat))] ∧ SameBut [.net, .pair, .log, .mail, .host] s t)) ∧
    (DelayFrame s f 5 body →
      ∃ t, Sys2Proof.Machine.exec (.dlyFup f) s = .next t ∧
        (t.net.ports[f.port]).results.getLast? = some (BitVec.ofNat 32 (natAt body 32 4)).toInt ∧
        t.net = { s.net with ports := t.net.ports } ∧ SameBut [.net, .pair, .log, .mail, .host] s t)

/-- R314, R322, R327-R332, R366: a follower takes its offset from the cycle-start frame of its sync port; a frame outside its
acceptance window is dropped and counted; one with another tick or base resets the module WARM with ALARM 0xD8; a foreign coldstart frame makes a contending node retreat;
listening, a coldstart and the won contention lead to SYNC as the reference at tick 0 (in a child area at the parent's tick); a listening
node takes time and tick from a full valid cycle, and a passage node starts its own area with the parent's. -/
def Obligations.CycleStartAndColdstart : Prop :=
  (∀ (s : State) (f : RxTiming) (resNs : Nat) (body : List Byte) (c : Cycle), s.timing f 1 = (s, some body) →
    c = cycleOf s.areaId body → c.parent = false → s.net.isRef = false →
    s.net.state = .integrate ∨ s.net.state = .sync ∨ s.net.state = .silent →
    (∀ theta : Int, theta = (65536 * Int.ofNat f.rxNs - (65536 * Int.ofNat c.origin + c.corr +
        8192 * (if (s.net.ports[f.port]).delayValid then (s.net.ports[f.port]).median else 0))) / 65536 →
      (s.cycleDev f.port f.rxNs).natAbs ≤ s.cycleWindow f.port → c.tick = s.ms.tick → c.base = s.tim.tbase →
      s.net.cycleThisTick = false → f.port = s.syncPortCfg → s.gal.active = Fin.ofNat 8 c.gal.toNat →
      10 * theta.natAbs ≤ 3072 * s.ms.tUs.toNat →
      ∃ t, Sys2Proof.Machine.exec (.cycleStart ⟨f, resNs⟩) s = .next t ∧ t.tim.theta = sat32 theta ∧
        t.tim.rate = (if s.net.servo then clampRate 300000 (Config.servoRate s.tim.rate.toInt theta) else s.tim.rate) ∧
        t.net.refNode = c.ref ∧ t.net.missEdges = 0 ∧ t.tim.holdover = false ∧ t.tim.tbase = s.tim.tbase ∧
        t.net.cycleThisTick = true ∧ t.gal = { s.gal with silentEdges := t.gal.silentEdges } ∧
        SameBut [.net, .tim, .gal, .sh, .log, .mail, .host] s t) ∧
    (s.cycleWindow f.port < (s.cycleDev f.port f.rxNs).natAbs →
      ∃ t, Sys2Proof.Machine.exec (.cycleStart ⟨f, resNs⟩) s = .next t ∧
        (t.net.ports[f.port]).edgeCnt =
          (if (s.net.ports[f.port]).edgeCnt < 65535 then (s.net.ports[f.port]).edgeCnt + 1 else 65535) ∧
        t.net = { s.net with ports := t.net.ports } ∧ SameBut [.net, .log, .mail, .host] s t) ∧
    ((s.cycleDev f.port f.rxNs).natAbs ≤ s.cycleWindow f.port → c.tick ≠ s.ms.tick ∨ c.base ≠ s.tim.tbase →
      s.pwr.phase = .normal → s.ms.porHeld = false →
      ∃ t, Sys2Proof.Machine.exec (.cycleStart ⟨f, resNs⟩) s = .next t ∧ t.ms.mode = .boot ∧ t.aon.kind = 3 ∧ t.aon.warmSrc = 2 ∧
        t.aon.latch = s.aon.latch ∧ t.fuses = s.fuses)) ∧
  (∀ (s : State) (f : RxTiming) (body : List Byte), s.timing f 2 = (s, some body) → (Frame.ofBytes body).src ≠ s.node →
    (s.net.state = .coldstart → ∃ t, Sys2Proof.Machine.exec (.coldstart f) s = .next t ∧ t.net.state = .listen ∧
      t.net.retreats = (if s.net.retreats < 255 then s.net.retreats + 1 else 255) ∧ SameBut [.net, .log, .mail, .host] s t) ∧
    (s.net.state = .listen → ∃ t, Sys2Proof.Machine.exec (.coldstart f) s = .next t ∧
      t.net = { s.net with listenUs := 0, sent := t.net.sent } ∧ SameBut [.net] s t)) ∧
  (∀ s : State, s.net.state = .listen → s.net.listenUs ≠ 0 → s.ownRank.isSome = true → s.tim.ppsQual = false →
    ∃ t, Sys2Proof.Machine.exec .listenTimeout s = .next t ∧ t.net.state = .coldstart ∧
      t.net.attempts = (if s.net.attempts < 255 then s.net.attempts + 1 else 255) ∧
      t.aon = { s.aon with timeNs := BitVec.ofNat 64 (max s.nowNs (s.net.listenFrom + 1000 * s.net.listenUs)) } ∧
      t.tim = { s.tim with tbase := t.aon.timeNs + BitVec.ofNat 64 (1000 * s.ms.tUs.toNat) } ∧
      (∀ x, x ∈ t.net.sent ↔ x ∈ s.net.sent ∨ (s.portOpen x.1 = true ∧ x.2 = s.timingFrame x.1 2
        (leBytes 8 t.tim.tbase.toNat ++ [BitVec.ofNat 8 ((s.ownRank.map (fun r => r.val)).getD 0)]))) ∧
      SameBut [.net, .tim, .aon] s t) ∧
  (∀ s : State, s.net.state = .coldstart →
    ∃ t, Sys2Proof.Machine.exec .contentionWindowEnd s = .next t ∧ t.net.state = .sync ∧ t.net.isRef = true ∧
      t.net.refNode = s.node ∧ t.net.won = true ∧
      t.ms = { s.ms with tick := if s.net.seenParent.isSome then s.ms.tick else 0xFFFFFFFF } ∧ t.tim.role = 1 ∧
      t.tim.tbase = s.tim.tbase ∧ SameBut [.ms, .net, .tim] s t) ∧
  (∀ (s : State) (o : SeenCycle), s.net.state = .listen → o.full = true →
    (s.net.seenParent.filter (fun x => x.full) = none → s.net.seen = some o →
      ∃ t, Sys2Proof.Machine.exec .fullValidCycle s = .next t ∧ t.net.state = .integrate ∧ t.net.refNode = o.ref ∧
        t.net.refRank = o.rank ∧ t.ms = { s.ms with tick := o.tick } ∧ t.tim.tbase = o.base ∧
        t.aon = { s.aon with timeNs := s.aon.timeNs - BitVec.ofNat 64 o.at_ + BitVec.ofNat 64 o.implied } ∧
        t.gal = { s.gal with active := t.gal.active } ∧ SameBut [.ms, .net, .tim, .aon, .gal] s t) ∧
    (s.net.seenParent = some o →
      ∃ t, Sys2Proof.Machine.exec .fullValidCycle s = .next t ∧ t.net.state = .coldstart ∧
        t.net.attempts = (if s.net.attempts < 255 then s.net.attempts + 1 else 255) ∧
        t.ms = { s.ms with tick := o.tick } ∧ t.tim.tbase = o.base ∧
        t.aon = { s.aon with timeNs := s.aon.timeNs - BitVec.ofNat 64 o.at_ + BitVec.ofNat 64 o.implied } ∧
        SameBut [.ms, .net, .tim, .aon] s t))

/-- R50, R316, R321, R327, R331, R332, R347, R366: lock at 8 edges leads to SYNC once the identity is confirmed; a follower that has passed
64 edges without its reference goes SILENT, a coldstart-capable node of rank r takes over after 2 + r edges and sends its
cycle-start frame at the open ports of the area that hold a cycle-start entry; 1,024 edges in SILENT are a WARM reset; JOIN's alarm is given once. -/
def Obligations.TimeIsKeptOrLost : Prop :=
  ∀ s : State,
    (s.net.state = .integrate → s.pair.idOk = true → s.net.servo = true → 8 ≤ s.net.lockRun →
      Sys2Proof.Machine.exec .syncLock s = .next { s with
        net := { s.net with state := .sync, silent := false }
        gal := { s.gal with silent := false }
        tim := { s.tim with locked := true, role := 2 } }) ∧
    (s.net.state = .integrate → s.pair.idOk = false ∨ s.net.lockRun < 8 →
      Sys2Proof.Machine.exec .syncLock s = .next s) ∧
    (s.net.state = .sync → s.net.isRef = false →
      (64 ≤ s.net.missEdges → Sys2Proof.Machine.exec .cycleStartMissing s = .next { s with
        net := { s.net with state := .silent, silent := true, lockRun := 0, missEdges := 0 }
        tim := { s.tim with holdover := true, locked := false } }) ∧
      (s.net.missEdges < 64 → Sys2Proof.Machine.exec .cycleStartMissing s = .next s) ∧
      (∀ r, s.ownRank = some r → s.net.missEdges < 2 + r.val → Sys2Proof.Machine.exec .referenceTakeover s = .next s) ∧
      (∀ r, s.ownRank = some r → 2 + r.val ≤ s.net.missEdges → ∃ t, Sys2Proof.Machine.exec .referenceTakeover s = .next t ∧ t.net.isRef = true ∧
        t.net.refNode = s.node ∧ t.net.refRank = BitVec.ofNat 2 r.val ∧
        t.net.takeovers = (if s.net.takeovers < 255 then s.net.takeovers + 1 else 255) ∧ t.tim.role = 1 ∧
        t.tim.tbase = s.tim.tbase ∧
        ((∀ p i e, s.portOpen p = true → (s.portCfg p).passage = none → s.findEntry p .cs = some (i, e) →
            WholeInWindow s e (-Int.ofNat (entryNs e)) 64) →
          t.net.state = .sync ∧ t.sh = s.sh ∧
          ∀ x, x ∈ t.net.sent ↔ x ∈ s.net.sent ∨ (s.portOpen x.1 = true ∧ (s.portCfg x.1).passage = none ∧
            (s.findEntry x.1 .cs).isSome = true ∧ x.2 = s.timingFrame x.1 1 (cycleBody
              ⟨s.node, false, s.nowNs, 0, s.ms.tick, s.tim.tbase, BitVec.ofNat 3 s.gal.active.val, BitVec.ofNat 2 r.val⟩))) ∧
        SameBut [.net, .tim, .sh, .log, .mail, .host] s t)) ∧
    (s.net.state = .silent → s.net.missEdges < 1024 → Sys2Proof.Machine.exec .silentTimeout s = .next s) ∧
    (s.net.state = .silent → 1024 ≤ s.net.missEdges → s.pwr.phase = .normal → s.ms.porHeld = false →
      ∃ t, Sys2Proof.Machine.exec .silentTimeout s = .next t ∧ t.ms.mode = .boot ∧ t.aon.kind = 3 ∧ t.aon.warmSrc = 2 ∧
        t.aon.latch = s.aon.latch ∧ t.fuses = s.fuses) ∧
    (s.net.isRef = true → s.childPassage = true → s.net.separated = false →
      ∃ t, Sys2Proof.Machine.exec .areaSeparation s = .next t ∧ t.net = { s.net with separated := true } ∧
        SameBut [.net, .log, .mail, .host] s t) ∧
    (s.ms.mode = .join → ∃ t, Sys2Proof.Machine.exec .joinTimeout s = .next t ∧ t.ms = { s.ms with joinAlarm := true } ∧
      (s.ms.joinAlarm = true → t = s) ∧ SameBut [.ms, .log, .mail, .host] s t)

/-- R319: PPS is qualified after four consecutive pulses whose intervals are 1 s ± 10 µs by the counter; a pulse outside
that interval, and one missing for 1 s + 10 µs, disqualifies it at once with ALARM 0xD7 on the reference, after which
four pulses are needed again; every node keeps the instant of each pulse, and only the reference uses PPS. -/
def Obligations.PpsQualifiesAfterFourPulses : Prop :=
  ∀ s : State, s.pwr.dom.getLsbD 2 = true →
    (∀ at_ : Nat, ∃ t, Sys2Proof.Machine.exec (.ppsIn at_) s = .next t ∧ t.tim.ppsLast = some at_ ∧
      t.tim.ppsUsed = (t.tim.ppsQual && s.net.isRef) ∧ (s.net.isRef = false → t.tim.rate = s.tim.rate) ∧
      (s.tim.ppsLast = none → t.tim.ppsRun = 1 ∧ t.tim.ppsQual = s.tim.ppsQual ∧ t.log = s.log) ∧
      (∀ b, s.tim.ppsLast = some b → 999990000 ≤ Int.ofNat at_ - Int.ofNat b → Int.ofNat at_ - Int.ofNat b ≤ 1000010000 →
        t.tim.ppsRun = (if s.tim.ppsRun < 4 then s.tim.ppsRun + 1 else 4) ∧
        t.tim.ppsQual = (s.tim.ppsQual || decide (3 ≤ s.tim.ppsRun)) ∧ t.log = s.log) ∧
      (∀ b, s.tim.ppsLast = some b → Int.ofNat at_ - Int.ofNat b < 999990000 ∨ 1000010000 < Int.ofNat at_ - Int.ofNat b →
        t.tim.ppsRun = 1 ∧ t.tim.ppsQual = false ∧
        t.log = (if s.tim.ppsQual && s.net.isRef then (s.alarmNode 0xD7 []).log else s.log)) ∧
      SameBut [.tim, .log, .mail, .host] s t) ∧
    (∃ t, Sys2Proof.Machine.exec .ppsMissing s = .next t ∧
      t.tim = { s.tim with ppsRun := 0, ppsLast := none, ppsQual := false, ppsUsed := false } ∧
      t.log = (if s.tim.ppsQual && s.net.isRef then (s.alarmNode 0xD7 []).log else s.log) ∧
      SameBut [.tim, .log, .mail, .host] s t)

/-- R359: the identifier is latched once, from the straps at the release of POR and at a PIN or WARM reset; a later
change on the straps is ignored, sets STRAP_CHANGED and raises ALARM 0xE1 once. -/
def Obligations.NodeIdentifierIsLatched : Prop :=
  ∀ s : State,
    (s.ms.porHeld = true → ∃ t, Sys2Proof.Machine.exec .porRelease s = .next t ∧ t.pair.strapId = s.pair.pins) ∧
    (s.ms.porHeld = false → s.pwr.phase = .normal → ∀ us : Nat, 10 ≤ us →
      ∃ t, Sys2Proof.Machine.exec (.pin us) s = .next t ∧ t.pair.strapId = s.pair.pins ∧ t.pair.strapChanged = false) ∧
    (s.ms.porHeld = false → s.pwr.phase = .normal → ∀ l m : Lane, l ≠ m → l.inMask s.acting = true → m.inMask s.acting = true →
      ∃ t, Sys2Proof.Machine.exec (.warm (.laneRequest l m)) s = .next t ∧ t.pair.strapId = s.pair.pins ∧
        t.pair.strapChanged = false) ∧
    (s.ms.porHeld = false → ∀ id : BitVec 12, ∃ t, Sys2Proof.Machine.exec (.nodeIdStrapChange id) s = .next t ∧
      t.pair = { s.pair with pins := id, strapChanged := s.pair.strapChanged || id != s.pair.strapId } ∧
      (id ≠ s.pair.strapId → s.pair.strapChanged = false → t.log = (s.alarmNode 0xE1 []).log) ∧
      (id = s.pair.strapId ∨ s.pair.strapChanged = true → t.log = s.log) ∧ SameBut [.pair, .log, .mail, .host] s t)

/-! ### Galleries, manager data, manager pairs (R345-R356, R150-R155, R363, R378-R385) -/

/-- R349-R351: a granted entry write to a gallery that is not write-locked stores the entry and makes it LOADING; a
commit makes it VALID exactly where the digest is the expected one; a write to a locked gallery is discarded and
counted. -/
def Obligations.GalleryWrites : Prop :=
  ∀ (s : State) (m : Master) (g : Fin 8), galMaster m = true → (s.sh.round 3 m []).2 = true →
    (s.galLocked g = false → ∀ (p : Port) (idx : Fin 4096) (entry : DWord),
      ∃ t, Sys2Proof.Machine.exec (.galleryEntryWrite m g p idx entry) s = .next t ∧ (t.gal.gals[g]).state = .loading ∧
        (entry ≠ 0 → ((t.gal.gals[g]).tables[p]).get? idx.val = some entry) ∧
        (entry = 0 → ((t.gal.gals[g]).tables[p]).get? idx.val = none) ∧
        (∀ k, k ≠ idx.val → ((t.gal.gals[g]).tables[p]).get? k = ((s.gal.gals[g]).tables[p]).get? k) ∧
        (∀ q : Port, q ≠ p → (t.gal.gals[g]).tables[q] = (s.gal.gals[g]).tables[q]) ∧
        (∀ h : Fin 8, h ≠ g → t.gal.gals[h] = s.gal.gals[h]) ∧ t.gal = { s.gal with gals := t.gal.gals } ∧
        t.sh = (s.sh.round 3 m []).1 ∧ SameBut [.gal, .sh] s t) ∧
    (s.galLocked g = false → ∀ digest : DWord,
      ∃ t, Sys2Proof.Machine.exec (.galleryCommitWrite m g digest) s = .next t ∧
        ((t.gal.gals[g]).state = .valid ↔ galleryDigest (s.gal.gals[g]).tables = digest ∧ (s.gal.gals[g]).reserved = false) ∧
        ((t.gal.gals[g]).state = .valid ∨ (t.gal.gals[g]).state = .empty) ∧
        (t.gal.gals[g]).tables = (s.gal.gals[g]).tables ∧
        (∀ h : Fin 8, h ≠ g → t.gal.gals[h] = s.gal.gals[h]) ∧ t.gal = { s.gal with gals := t.gal.gals } ∧
        t.sh = (s.sh.round 3 m []).1 ∧ SameBut [.gal, .sh] s t) ∧
    (s.galLocked g = true → ∀ digest : DWord,
      Sys2Proof.Machine.exec (.galleryCommitWrite m g digest) s = .next { s with
        sh := (s.sh.round 3 m []).1
        gal := { s.gal with
          wdrop := if s.gal.wdrop < 65535 then s.gal.wdrop + 1 else 65535, wdropGal := g, wdropMaster := m.id } })

/-- R350, R353-R355, R384: a node that can take part locks the announced gallery and acknowledges, and refuses with the first
reason otherwise; the active unit decides in tick N - 1: GO for its own switch exactly where every node with entries acknowledged the
expected digest and none refused, CANCEL of another's; at edge N a gallery that is decided and locked becomes ACTIVE, on the unit by
its own decision and on another node by the GO of the announcer's header; a cancelled switch leaves ACTIVE as it was, a node without a
decision goes silent, as does one that reads a GO it has not locked; PREVIOUS ends one edge later. -/
def Obligations.GallerySwitches : Prop :=
  ∀ s : State,
    (∀ (g : Fin 8) (n a : Tick) (unit : BitVec 12), s.inTicks = true → unit ≠ s.node → unit = 0 ∨ 0 ∉ s.pair.unitsNow → s.gal.sw = none →
      (s.gal.pending = none → 0 < (n - (s.ms.tick + 1)).toInt → (s.gal.gals[g]).state = .valid →
        ∃ t w, Sys2Proof.Machine.exec (.galleryAnnounce g n a unit) s = .next t ∧ t.gal.sw = some w ∧
          w.g = g ∧ w.n = n ∧ w.own = false ∧ w.ack = 1 ∧ w.digest = galleryDigest (s.gal.gals[g]).tables ∧
          t.gal = { s.gal with pending := some g, swTick := n, sw := some w, nackSealed := t.gal.nackSealed } ∧
          Resealed s t ∧ SameBut [.gal, .buf, .pair, .lanes] s t) ∧
      (∀ r : BitVec 4, s.gal.pending = none → r ≠ 0 →
        r = (if ¬ 0 < (n - (s.ms.tick + 1)).toInt then 4
          else match (s.gal.gals[g]).state with | .empty => 1 | .loading => 2 | .valid => 0) →
        ∃ t w, Sys2Proof.Machine.exec (.galleryAnnounce g n a unit) s = .next t ∧ t.gal.sw = some w ∧
          w.g = g ∧ w.n = n ∧ w.ack = 2 ∧ w.reason = r ∧
          t.gal = { s.gal with swTick := n, sw := some w, nackSealed := t.gal.nackSealed } ∧
          Resealed s t ∧ SameBut [.gal, .buf, .pair, .lanes] s t) ∧
      (s.gal.pending ≠ none → ∃ t, Sys2Proof.Machine.exec (.galleryAnnounce g n a unit) s = .next t ∧
        t.gal = { s.gal with nackOut := some (g, n, 3), nackSealed := t.gal.nackSealed } ∧
        Resealed s t ∧ SameBut [.gal, .buf, .pair, .lanes] s t)) ∧
    (∀ w, s.gal.sw = some w → w.decision = 0 → w.n = s.ms.tick + 1 → s.ms.role = .active →
      ∃ t v, Sys2Proof.Machine.exec .gallerySwitchDecision s = .next t ∧ t.gal.sw = some v ∧ v = { w with decision := v.decision } ∧
        (v.decision = 1 ↔ w.own = true ∧ w.nacks = [] ∧ ∀ n, n ∈ s.galleryNodes w.g → ∃ a, a ∈ w.acks ∧ a.1 = n ∧
          (s.area.expDigest.find? (fun e => e.1 == n && e.2.1 == w.g)).map (fun e => e.2.2) = some a.2) ∧
        (v.decision ≠ 1 → v.decision = if w.own = true ∧ w.nacks = [] then 2 else 3) ∧ t.gal.lastResult = v.decision ∧
        t.gal.active = s.gal.active ∧ t.gal.pending = s.gal.pending ∧
        SameBut [.gal, .buf, .lanes, .pair, .aon, .log, .mail, .host] s t) ∧
    (∀ w told, s.gal.sw = some w → w.n = s.ms.tick + 1 → told = s.buf.tx.any (fun x => x.stream == 1 && x.tick == s.ms.tick) →
      (s.gal.pending = some w.g →
        (told = true ∧ w.own = true ∧ w.decision = 1) ∨
          ((told = false ∨ (s.ms.role ≠ .active ∧ w.own = false)) ∧ (2, w.g.val, w.n, w.unit) ∈ s.headerAnns ∧
            (∀ u, (3, w.g.val, w.n, u) ∉ s.headerAnns)) →
        Sys2Proof.Machine.exec .gallerySwitchEdge s = .next { s with gal := { s.gal with
          active := w.g, previous := some s.gal.active, prevTick := s.ms.tick + 1, pending := none, sw := none
          doneCnt := if s.gal.doneCnt < 255 then s.gal.doneCnt + 1 else 255, lastGal := w.g, lastResult := 1 } }) ∧
      (∀ d : BitVec 2, (told = true ∧ w.own = true ∧ w.decision = d ∧ (d = 2 ∨ d = 3)) ∨
          (told = true ∧ s.ms.role = .active ∧ (w.own = false ∨ w.decision = 0) ∧ d = 3) ∨
          (told = false ∧ (3, w.g.val, w.n, w.unit) ∈ s.headerAnns ∧ (∀ u, u ≠ w.unit → (3, w.g.val, w.n, u) ∉ s.headerAnns) ∧
            d = if w.ack = 2 then 3 else 2) →
        Sys2Proof.Machine.exec .gallerySwitchEdge s = .next { s with gal := { s.gal with
          pending := none, sw := none, cancelCnt := if s.gal.cancelCnt < 255 then s.gal.cancelCnt + 1 else 255
          lastGal := w.g, lastResult := d } }) ∧
      (s.gal.pending = some w.g → told = false ∨ (s.ms.role ≠ .active ∧ w.own = false) →
        (∀ k u, (k, w.g.val, w.n, u) ∈ s.headerAnns → k ≠ 3 ∧ (k = 2 → u ≠ w.unit)) →
        ∃ t, Sys2Proof.Machine.exec .gallerySwitchEdge s = .next t ∧ t.gal.active = s.gal.active ∧ t.gal.pending = none ∧
          t.gal.silent = true ∧ t.net.silent = true ∧ (s.net.state = .sync → t.net.state = .silent) ∧
          SameBut [.gal, .net, .tim, .log, .mail, .host] s t)) ∧
    (s.gal.sw = none → s.gal.pending = none →
      ((∀ g n u, (2, g, n, u) ∈ s.headerAnns → n ≠ s.ms.tick + 1) → Sys2Proof.Machine.exec .gallerySwitchEdge s = .next s) ∧
      ((∃ g u, (2, g, s.ms.tick + 1, u) ∈ s.headerAnns) →
        ∃ t, Sys2Proof.Machine.exec .gallerySwitchEdge s = .next t ∧ t.gal = { s.gal with silent := true } ∧ t.net.silent = true ∧
          SameBut [.gal, .net, .tim, .log, .mail, .host] s t)) ∧
    (0 ≤ (s.ms.tick - s.gal.prevTick).toInt →
      Sys2Proof.Machine.exec .galleryPreviousUnlock s = .next { s with gal := { s.gal with previous := none } }) ∧
    ((s.ms.tick - s.gal.prevTick).toInt < 0 → Sys2Proof.Machine.exec .galleryPreviousUnlock s = .next s)

/-- R150, R152-R154, R170, R363, R384, R24: a report that passes against the record as it stood before the tick becomes the vehicle's record, one
that does not only marks it; of two reports of a tick the later one counts, and two of one MEAS_TICK that differ count as none; the limits
follow. A worker holds the manager's newest command for it, and of two units in one tick that of 0x000; without a valid one its command
word is 0, the channels' restrictive value. -/
def Obligations.ReportsAndCommands : Prop :=
  (∀ (s : State) (l : Lane) (r : PosReport) (veh : Nat) (base : TickReports), s.inTicks = true → s.isManager = true →
    s.area.gateways.contains r.gateway = true → l.inMask (s.running ||| s.acting) = true → veh = vehicleOf r →
    base = (s.lane l).region.k.tickBase →
    ∃ t, Sys2Proof.Machine.exec (.positionReport r) s = .next t ∧
      ((∀ q ∈ base.reports, vehicleOf q ≠ veh) → (s.view l).reportOk r (base.auths.get? veh) = true →
        ((t.lane l).region.auths.get? veh).map AuthRec.taken =
          some { acceptReport (base.auths.get? veh) r with rejLast := false }.taken) ∧
      ((∀ q ∈ base.reports, vehicleOf q ≠ veh) → (s.view l).reportOk r (base.auths.get? veh) = false →
        ((t.lane l).region.auths.get? veh).map AuthRec.taken =
          (base.auths.get? veh).map (fun a => { a with rejLast := true }.taken)) ∧
      (∀ q, base.reports.filter (fun x => vehicleOf x == veh) = [q] → (s.view l).reportOk r (base.auths.get? veh) = true →
        (s.view l).reportOk q (base.auths.get? veh) = true →
        (0 < (r.measTick - q.measTick).toInt →
          ((t.lane l).region.auths.get? veh).map AuthRec.taken =
            some { acceptReport (base.auths.get? veh) r with rejLast := false }.taken) ∧
        (r.measTick = q.measTick → sameReport q r = false →
          ((t.lane l).region.auths.get? veh).map AuthRec.taken =
            (base.auths.get? veh).map (fun a => { a with rejLast := false }.taken))) ∧
      (∀ k, k ≠ veh → ((t.lane l).region.auths.get? k).map AuthRec.taken =
        ((s.lane l).region.auths.get? k).map AuthRec.taken) ∧
      (t.lane l).region.elems = (s.lane l).region.elems ∧ (t.lane l).region.routes = (s.lane l).region.routes ∧ RowKeeps s t) ∧
  (∀ (s : State) (i : CmdItem), s.inTicks = true → s.cmdFits i = true →
    ∃ t, Sys2Proof.Machine.exec (.commands i) s = .next t ∧
      (i.unit ≠ 0 → 0 ∈ s.pair.unitsNow → ∀ l : Lane, t.lane l = s.lane l) ∧
      (i.unit = 0 ∨ 0 ∉ s.pair.unitsNow → ∀ l : Lane, l.inMask s.running = true → ∀ base : Option HeldCmd,
        base = (if i.unit = 0 ∧ s.pair.unitsNow ≠ [] ∧ 0 ∉ s.pair.unitsNow then (s.lane l).region.k.heldBase
          else (s.lane l).region.k.held) →
        (base = none → (t.lane l).region.k.held = some ⟨i.tick, i.valid, i.mask, i.unit⟩) ∧
        (∀ h, base = some h → 0 < (i.tick - h.tick).toInt →
          (t.lane l).region.k.held = some ⟨i.tick, i.valid, i.mask, i.unit⟩) ∧
        (∀ h, base = some h → (i.tick - h.tick).toInt < 0 → (t.lane l).region.k.held = some h) ∧
        (t.lane l).region.k.partO[1] = (s.lane l).region.k.partO[1] ∧ (t.lane l).region.elems = (s.lane l).region.elems) ∧
      (∀ l : Lane, l.inMask s.running = false → t.lane l = s.lane l) ∧
      t.pair = { s.pair with unitsNow := t.pair.unitsNow, dualSeen := t.pair.dualSeen } ∧ i.unit ∈ t.pair.unitsNow ∧
      SameBut [.lanes, .pair, .log, .mail, .host] s t) ∧
  (∀ s : State, s.inTicks = true → s.ms.role = .worker →
    ∃ t, Sys2Proof.Machine.exec .commandHoldExpiry s = .next t ∧
      (∀ l : Lane, l.inMask s.running = true → (s.lane l).region.k.command s.ms.tick = none →
        (t.lane l).region.k.held = none ∧ (t.lane l).region.k.partO[0] = 0 ∧
        (t.lane l).region.k.partO[1] = (s.lane l).region.k.partO[1] ∧ (t.lane l).region.elems = (s.lane l).region.elems) ∧
      (∀ l : Lane, l.inMask s.running = false ∨ (s.lane l).region.k.command s.ms.tick ≠ none → t.lane l = s.lane l) ∧
      SameBut [.lanes] s t)

/-- R378-R385: a unit reads its peer; both ACTIVE, the unit that is not 0x000 gives up; a copy's items gather until it
is complete; a unit claims ACTIVE after its ticks with a quorum, is promoted where the peer is missing, out of control or yielding, and
yields with its cause. -/
def Obligations.ManagerPairs : Prop :=
  ∀ s : State, s.inTicks = true → s.isPairUnit = true →
    (∀ p : PairStat, ∃ t, Sys2Proof.Machine.exec (.pairStatus p) s = .next t ∧
      t.pair.peerClaim = p.claim ∧ t.pair.peerSync = p.sync ∧ t.pair.peerView = p.view ∧ t.pair.peerValid = true ∧ t.pair.peerMiss = 0 ∧
      (s.pair.claim = 1 → p.claim = 1 → s.node ≠ 0 → t.pair.claim = 0 ∧ t.pair.sync = 2 ∧ t.pair.yieldCause = 6 ∧ t.ms.role = .standby) ∧
      (s.pair.claim = 1 → p.claim = 1 → s.node = 0 → t.pair.claim = 1 ∧ t.ms = s.ms) ∧
      SameBut [.ms, .pair, .log, .mail, .host] s t) ∧
    (∀ (items : List CopyItem) (n : Tick), s.pair.claim = 0 → s.pair.sync = 3 → s.pair.copyTick = some n →
      covered (s.pair.copyGot ++ items) 1 (topKey s.area.elems) = false →
      ((s.ms.tick - n).toNat ≤ 64 → Sys2Proof.Machine.exec (.pairCopy items) s =
        .next { s with pair := { s.pair with copyGot := s.pair.copyGot ++ items } }) ∧
      (64 < (s.ms.tick - n).toNat → ∃ t, Sys2Proof.Machine.exec (.pairCopy items) s = .next t ∧ t.pair.sync = 2 ∧
        t.pair.copyTick = none ∧ t.pair.copyGot = [] ∧ t.pair.shadows = [] ∧ SameBut [.pair, .log, .mail, .host] s t)) ∧
    (s.pair.claim = 0 → s.ms.mode ≠ .lockout → s.quorum ≤ s.pair.view →
      (s.pair.seenActive = false → s.area.params.lloss + (if s.node = 0 then 0 else 2) ≤ s.pair.ownTicks →
        ∃ t, Sys2Proof.Machine.exec .activeClaim s = .next t ∧ t.ms = { s.ms with role := .active } ∧ t.pair.claim = 1 ∧
          t.pair.actSince = s.ms.tick ∧ t.pair.sync = 0 ∧ SameBut [.ms, .pair] s t) ∧
      (∀ cause, (match cause with
          | .peerMissing => (s.pair.seenActive = true ∨ s.pair.yieldCause = 5) ∧ s.area.params.lloss ≤ s.pair.peerMiss
          | .peerOut => s.pair.peerValid = true ∧ s.pair.peerClaim = 3
          | .peerYielding => s.pair.peerValid = true ∧ s.pair.peerClaim = 2 ∧ s.pair.sync = 1) →
        ∃ t, Sys2Proof.Machine.exec (.standbyPromotion cause) s = .next t ∧ t.ms = { s.ms with role := .active } ∧
          t.pair.claim = 1 ∧ t.pair.actSince = s.ms.tick ∧
          t.pair.promoteCnt = (if s.pair.promoteCnt < 255 then s.pair.promoteCnt + 1 else 255) ∧
          (∀ l : Lane, l.inMask s.running = true → (t.lane l).region.k.elemArms = [] ∧ (t.lane l).region.k.routeArms = [] ∧
            (t.lane l).region.k.resetArm = none ∧ (t.lane l).region.k.lockArm = none ∧
            (s.pair.sync = 1 → (t.lane l).region.elems = (s.lane l).region.elems ∧ (t.lane l).region.routes = (s.lane l).region.routes) ∧
            (s.pair.sync = 1 → s.pair.ahRun < s.area.auth.validity → (t.lane l).region.auths = [] ∧ (t.lane l).region.limits = []) ∧
            (s.pair.sync ≠ 1 → (t.lane l).region.auths = [] ∧
              (t.lane l).region.routes = s.area.routes.mapV (fun _ _ => RouteRec.idle))) ∧
          (∀ l : Lane, l.inMask s.running = false → t.lane l = s.lane l) ∧
          SameBut [.ms, .pair, .lanes, .log, .mail, .host] s t)) ∧
    (s.pair.claim = 1 →
      (s.ms.mode = .lockout → ∃ t, Sys2Proof.Machine.exec (.yield 1) s = .next t ∧ t.pair.claim = 3 ∧ t.pair.sync = 0 ∧
        t.pair.yieldCause = 1 ∧ t.ms = { s.ms with role := .standby } ∧ SameBut [.ms, .pair, .log, .mail, .host] s t) ∧
      (s.net.state = .silent ∨ s.net.state = .fullSilence → ∃ t, Sys2Proof.Machine.exec (.yield 2) s = .next t ∧ t.pair.claim = 0 ∧
        t.pair.sync = 0 ∧ t.pair.yieldCause = 2 ∧ t.ms = { s.ms with role := .standby } ∧ SameBut [.ms, .pair, .log, .mail, .host] s t) ∧
      (16 ≤ s.pair.run2Run → s.pair.peerValid = true → s.pair.peerSync = 1 → s.pair.peerVoting = 7 →
        ∃ t, Sys2Proof.Machine.exec (.yield 3) s = .next t ∧ t.pair.claim = 2 ∧ t.pair.sync = s.pair.sync ∧ t.pair.yieldCause = 3 ∧
          t.ms = { s.ms with role := .active } ∧ SameBut [.ms, .pair, .log, .mail, .host] s t) ∧
      (s.area.params.lloss ≤ s.pair.viewUnder → ∃ t, Sys2Proof.Machine.exec (.yield 5) s = .next t ∧ t.pair.claim = 0 ∧
        t.pair.sync = 0 ∧ t.pair.yieldCause = 5 ∧ t.ms = { s.ms with role := .standby } ∧ SameBut [.ms, .pair, .log, .mail, .host] s t) ∧
      (16 ≤ s.pair.viewLow → s.pair.peerValid = true → s.pair.peerSync = 1 → ∃ t, Sys2Proof.Machine.exec (.yield 4) s = .next t ∧ t.pair.claim = 2 ∧
        t.pair.sync = s.pair.sync ∧ t.pair.yieldCause = 4 ∧ t.ms = { s.ms with role := .active } ∧
        SameBut [.ms, .pair, .log, .mail, .host] s t))

/-! ### The log and the update of the image (R436-R462, R515-R525) -/

/-- R515, R518, R521: the logger stores a record of which two lanes' copies agree, the further record of an ALARM key
going into its SUMMARY; copies that do not agree leave nothing; a TRACE record over the rate is dropped and counted. -/
def Obligations.RecordsArrive : Prop :=
  ∀ (s : State) (copies : List (Lane × Record)),
    (∀ (l m : Lane) (r : Record), s.single = false → s.log.late = none → l ≠ m → l.inMask (s.running ||| s.acting) = true →
      m.inMask (s.running ||| s.acting) = true → (recCopies copies).get l = some r → (recCopies copies).get m = some r →
      (r.cls = .event → s.log.recs.length < 16384 →
        ∃ t, Sys2Proof.Machine.exec (.logRecordArrival copies) s = .next t ∧
          t.log.recs = s.log.recs ++ [{ r with single := false, form := .original }] ∧ SameBut [.log] s t) ∧
      (r.cls = .alarm → s.log.recs.length < 32768 → (∀ x, x ∈ s.log.recs → sameKey x { r with single := false } = false) →
        ∃ t, Sys2Proof.Machine.exec (.logRecordArrival copies) s = .next t ∧
          t.log.recs = s.log.recs ++ [{ r with single := false, form := .original }] ∧ SameBut [.log, .mail, .host] s t) ∧
      (r.cls = .alarm → (∃ x, x ∈ s.log.recs ∧ sameKey x { r with single := false } = true ∧ x.form ≠ .original) →
        ∃ t, Sys2Proof.Machine.exec (.logRecordArrival copies) s = .next t ∧ t.log.recs.length = s.log.recs.length ∧
          t.log.occA = min 0xFFFFFFFF (s.log.occA + r.count) ∧ SameBut [.log, .mail, .host] s t) ∧
      (r.cls = .trace → s.log.filter = true → s.log.rate ≤ s.log.traceTick →
        Sys2Proof.Machine.exec (.logRecordArrival copies) s = .next { s with log := { s.log with
          tdrop := if s.log.tdrop < 0xFFFFFFFF then s.log.tdrop + 1 else 0xFFFFFFFF } })) ∧
    (s.single = false → (∀ (l m : Lane) (r : Record), l ≠ m → (recCopies copies).get l = some r → (recCopies copies).get m ≠ some r) →
      Sys2Proof.Machine.exec (.logRecordArrival copies) s = .next s)

/-- R519, R522, R524, R525: the next record of an export, of the first class that the log holds, leaves the log, an own one with
the next LSEQ, into the host ring of a manager or a worker's upstream payload; a manager keeps the last LSEQ of each node and counts what is missing;
a ring full for 1,024 ticks is alarmed once. -/
def Obligations.RecordsLeaveTheLog : Prop :=
  ∀ s : State,
    (∀ (r x : Record), s.log.recs[s.log.nextExport]? = some r → s.log.newLostA = 0 → s.log.newLostE = 0 →
      x = (if r.srcNode = s.node then { r with lseq := s.log.expSeq } else r) →
      (s.log.restored = 0 → ∀ y, y ∈ s.log.recs → r.cls.code ≤ y.cls.code) ∧
      (s.ms.role = .active → s.log.en = true → s.log.full = false → s.pwr.busMaster = true →
        ∃ t, Sys2Proof.Machine.exec .logExport s = .next t ∧ t.log.recs = s.log.recs.eraseIdx s.log.nextExport ∧
          t.log.ring.get? s.log.head = some x ∧ t.log.head = (s.log.head + 1) % 2 ^ s.log.log2 ∧ t.log.tail = s.log.tail ∧
          t.log.expSeq = (if r.srcNode = s.node then s.log.expSeq + 1 else s.log.expSeq) ∧ SameBut [.log, .host] s t) ∧
      (s.ms.role = .worker → s.inTicks = true → s.aon.latch = true → r.cls ≠ .alarm →
        Sys2Proof.Machine.exec .logExport s = .next s) ∧
      (s.ms.role = .worker → s.inTicks = true → s.aon.latch = false ∨ r.cls = .alarm →
        ∃ t, Sys2Proof.Machine.exec .logExport s = .next t ∧ t.log.recs = s.log.recs.eraseIdx s.log.nextExport ∧
          t.log.sealed = s.log.sealed ++ [x] ∧
          t.log.expSeq = (if r.srcNode = s.node then s.log.expSeq + 1 else s.log.expSeq) ∧ SameBut [.log] s t)) ∧
    (∀ (src : BitVec 12) (r : Record), s.inTicks = true → s.ms.role = .active →
      ∃ t, Sys2Proof.Machine.exec (.log src [r]) s = .next t ∧
        (∀ l : Lane, l.inMask s.running = true → (t.lane l).region.k.logSeq.get? src.toNat = some r.lseq ∧
          (t.lane l).region.elems = (s.lane l).region.elems) ∧
        (∀ p, s.leadK.logSeq.get? src.toNat = some p → (r.lseq - p - 1).toNat < 2147483648 → (r.lseq - p - 1).toNat ≠ 0 →
          t.log.gapCnt = min 65535 (s.log.gapCnt + (r.lseq - p - 1).toNat) ∧ t.log.gapNode = src) ∧
        (∀ l : Lane, l.inMask s.running = false → t.lane l = s.lane l) ∧ SameBut [.log, .lanes, .mail, .host] s t) ∧
    (s.log.en = true → s.log.full = true → s.log.fullRun = 1024 →
      ∃ t, Sys2Proof.Machine.exec .hostRingFullAlarm s = .next t ∧ t.log.fullRun = 1025 ∧ t.log.ring = s.log.ring ∧
        SameBut [.log, .mail, .host] s t) ∧
    (s.log.fullRun ≠ 1024 → Sys2Proof.Machine.exec .hostRingFullAlarm s = .next s)

/-- R451-R454, R461: an item of a BULK frame, or the next one that the host DMA fetches, with a new tag erases the staging, and every item
meanwhile is discarded; a chunk that is not held is written once; a complete image that two
lanes accept is STAGED, any other is rejected with its reason; a release for it waits for its copy (rolling) or is
pending for the next reset (full restart). -/
def Obligations.ImagesAreStagedAndReleased : Prop :=
  ∀ s : State,
    (∀ (i : UpdItem) (s0 : State), s.pwr.phase = .normal →
      (i.host = none ∧ s0 = s) ∨ (∃ a, i.host = some a ∧ s.upd.dmaBusy = true ∧ 0 < s.upd.dmaLeft ∧ a = s.upd.dmaAt ∧
        s0 = { s with upd := { s.upd with dmaAt := s.upd.dmaAt + 64, dmaLeft := s.upd.dmaLeft - 1 } }) →
      (s.upd.stage = .erasing → Sys2Proof.Machine.exec (.update i) s = .next s0) ∧
      (s.upd.stage ≠ .erasing → s.nvm.stageTag ≠ some i.imgTag → s.imageBusy = false →
        ∃ t, Sys2Proof.Machine.exec (.update i) s = .next t ∧
          t.nvm = { s.nvm with stageTag := some i.imgTag, release := none, relChunks := [] } ∧ t.upd.stage = .erasing ∧
          t.upd.image = none ∧ t.upd.img = s.upd.img ∧ SameBut [.nvm, .upd] s0 t) ∧
      (s.upd.stage ≠ .erasing → s.nvm.stageTag ≠ some i.imgTag → s.imageBusy = true → Sys2Proof.Machine.exec (.update i) s = .next s0) ∧
      (s.nvm.stageTag = some i.imgTag → s.upd.stage = .receiving → i.chunk.toNat < 2359296 → s.upd.total = 0 ∨ i.chunk.toNat < s.upd.total →
        s.nvm.staging.has i.chunk.toNat = false →
        ∃ t, Sys2Proof.Machine.exec (.update i) s = .next t ∧ t.nvm.staging.get? i.chunk.toNat = some (padTo 56 i.data) ∧
          (∀ k, k ≠ i.chunk.toNat → t.nvm.staging.get? k = s.nvm.staging.get? k) ∧
          (t.upd.stage = .receiving ∨ t.upd.stage = .verifying) ∧ t.upd.img = s.upd.img ∧ SameBut [.nvm, .upd] s0 t) ∧
      (s.nvm.stageTag = some i.imgTag → s.upd.stage = .receiving → i.chunk.toNat < 2359296 → s.nvm.staging.has i.chunk.toNat = true →
        Sys2Proof.Machine.exec (.update i) s = .next s0)) ∧
    (∀ (i : UpdItem) (a : DWord), i.host = some a → s.upd.dmaBusy = false ∨ s.upd.dmaLeft = 0 ∨ a ≠ s.upd.dmaAt →
      Sys2Proof.Machine.exec (.update i) s = .next s) ∧
    (s.upd.stage = .erasing → Sys2Proof.Machine.exec .stagingEraseDone s = .next { s with
      nvm := { s.nvm with staging := [], relChunks := [], release := none }, upd := { s.upd with stage := .receiving, total := 0 } }) ∧
    (∀ accept : PerLane Bool, s.upd.stage = .verifying →
      (s.stageReason (imageOf s.stagedBytes) = 0 → s.nvm.release = none →
        2 ≤ countMask (maskOf (fun l => l.inMask s.running && accept.get l)) →
        Sys2Proof.Machine.exec (.stagingVerifyDone accept) s = .next { s with upd := { s.upd with
          stage := .staged, image := imageOf s.stagedBytes } }) ∧
      (s.stageReason (imageOf s.stagedBytes) ≠ 0 →
        ∃ t, Sys2Proof.Machine.exec (.stagingVerifyDone accept) s = .next t ∧
          t.upd = { s.upd with stage := .rejected, reason := s.stageReason (imageOf s.stagedBytes) } ∧
          SameBut [.upd, .log, .mail, .host] s t)) ∧
    (∀ (r : Release) (i : Image), s.imageBusy = false → s.upd.stage = .staged → s.upd.image = some i → s.upd.accepted = none →
      releaseDigest r = i.hdr.digest → releaseFor r s.node = true → s.releaseReason i r = 0 →
      (releaseMode r = 1 → Sys2Proof.Machine.exec (.releaseRecord r) s = .next { s with
        nvm := { s.nvm with release := some r }
        upd := { s.upd with apply := .deferred, accepted := some 1, deferTicks := 0, deferAlarm := false } }) ∧
      (releaseMode r = 2 → ∃ t, Sys2Proof.Machine.exec (.releaseRecord r) s = .next t ∧ t.bankRec.state = .fullPending ∧
        t.bankRec.active = s.bankRec.active ∧ t.upd = { s.upd with apply := .fullPending, accepted := some 2 } ∧
        t.nvm.bank0 = s.nvm.bank0 ∧ t.nvm.bank1 = s.nvm.bank1 ∧ SameBut [.nvm, .upd] s t))

/-- R455, R456, R458: an accepted rolling release is copied into the bank that is not ACTIVE while no deferral holds; a
copy that two lanes accept starts the trial; lane C, B, then A is WITHDRAWN, and takes its LANE reset with the trial image
from the second tick after; an unbroken deferral of the image's deferral alarm time is alarmed once. -/
def Obligations.RollingUpdateRuns : Prop :=
  ∀ s : State,
    (s.inTicks = true → s.upd.accepted = some 1 → s.upd.copying = false → s.bankRec.state = .stable → s.upd.stage = .staged →
      (s.deferred = false → ∃ t, Sys2Proof.Machine.exec .bankCopyStart s = .next t ∧ t.bankImg s.trialBank = none ∧
        t.bankImg s.bankRec.active = s.bankImg s.bankRec.active ∧
        t.upd = { s.upd with copying := true, apply := .copying, deferTicks := 0, deferAlarm := false } ∧ SameBut [.nvm, .upd] s t) ∧
      (s.deferred = true → Sys2Proof.Machine.exec .bankCopyStart s = .next s)) ∧
    (∀ ok : PerLane Bool, s.upd.copying = true →
      (2 ≤ countMask (maskOf (fun l => l.inMask s.running && ok.get l)) →
        ∃ t, Sys2Proof.Machine.exec (.bankCopyDone ok) s = .next t ∧ t.bankRec.state = .rollingTrial ∧
          t.bankRec.active = s.bankRec.active ∧ t.bankImg s.trialBank = s.upd.image ∧ t.upd.apply = .rolling ∧ t.upd.copying = false ∧
          (∀ l : Lane, t.lane l = { s.lane l with runsNew := false, trialCnt := 0 }) ∧ SameBut [.nvm, .upd, .lanes] s t) ∧
      (countMask (maskOf (fun l => l.inMask s.running && ok.get l)) < 2 →
        Sys2Proof.Machine.exec (.bankCopyDone ok) s = .next { s with upd := { s.upd with copying := false, apply := .deferred } })) ∧
    (∀ l : Lane, s.ms.mode = .run → s.ms.voting = 7#3 → s.aon.latch = false → s.allIn = true → s.bankRec.state = .rollingTrial →
      s.upd.apply = .rolling → s.nextTrialLane = some l → s.deferred = false →
      ∃ t, Sys2Proof.Machine.exec (.rollingUpdateWithdrawal l) s = .next t ∧ (t.lane l).svc = .withdrawn ∧
        (t.lane l).lastCause = 0xA ∧ (t.lane l).region = (s.lane l).region ∧ (t.lane l).held = [] ∧
        t.upd.taken = some (l, s.ms.tick) ∧ t.ms.mode = .run2 ∧
        (∀ m : Lane, m ≠ l → t.lane m = s.lane m) ∧ (∀ m : Lane, m.inMask t.ms.voting = decide (m ≠ l)) ∧
        t.nvm = s.nvm ∧ t.fuses = s.fuses ∧ t.pending = s.pending) ∧
    (∀ (l : Lane) (w : Tick), s.upd.taken = some (l, w) → s.upd.apply = .rolling → (s.lane l).svc = .withdrawn →
      (0 < (s.ms.tick - (w + 1)).toInt → (s.takenTick.lane l).svc = .reset ∧ (s.takenTick.lane l).runsNew = true ∧
        (s.takenTick.lane l).trialCnt = 0 ∧ (s.takenTick.lane l).region = Carried.reset ∧ s.takenTick.upd.taken = none) ∧
      (¬ 0 < (s.ms.tick - (w + 1)).toInt → s.takenTick = s)) ∧
    ((s.upd.accepted = some 1 ∧ s.upd.copying = false ∧ s.bankRec.state = .stable ∧ s.upd.stage = .staged) ∨
        (s.bankRec.state = .rollingTrial ∧ s.upd.apply = .rolling ∧ s.upd.taken = none ∧ s.nextTrialLane ≠ none) →
      (s.upd.deferAlarm = false → s.area.params.deferH * 3600000000 ≤ s.upd.deferTicks * s.ms.tUs.toNat →
        ∃ t, Sys2Proof.Machine.exec .deferralAlarm s = .next t ∧ t.upd = { s.upd with deferAlarm := true } ∧
          SameBut [.upd, .log, .mail, .host] s t) ∧
      (s.upd.deferAlarm = true ∨ s.upd.deferTicks * s.ms.tUs.toNat < s.area.params.deferH * 3600000000 →
        Sys2Proof.Machine.exec .deferralAlarm s = .next s))

/-- R439, R440, R458, R460, R461: until each lane has voted its 10,000 ticks in the trial nothing changes; after the last, and
after 600 s of a full restart's trial, the trial bank becomes ACTIVE and STABLE, the security floor rises to the
image's, revocations only add, and the image is in force. -/
def Obligations.TrialsAreConfirmed : Prop :=
  ∀ s : State,
    (∀ l m : Lane, (s.lane m).trialCnt ≠ 10000 → Sys2Proof.Machine.exec (.rollingCountComplete l) s = .next s) ∧
    (∀ i : Image, s.bankImg s.trialBank = some i →
      (∀ c, (c = .rollingCountComplete .a ∧ s.bankRec.state = .rollingTrial ∧ s.upd.apply = .rolling ∧
          (∀ l : Lane, (s.lane l).runsNew = true ∧ (s.lane l).trialCnt = 10000)) ∨
        (c = .fullTrialConfirmation ∧ s.bankRec.state = .fullTrial ∧ s.upd.apply = .fullTrial ∧ s.inTicks = true ∧
          600000000 ≤ s.upd.confirmUs) →
        ∃ t, Sys2Proof.Machine.exec c s = .next t ∧ t.bankRec.active = s.trialBank ∧ t.bankRec.state = .stable ∧
          t.upd.img = some i ∧ t.upd.bank = s.trialBank ∧ t.upd.apply = .none ∧ t.upd.accepted = none ∧
          t.fuses.secFloor = max s.fuses.secFloor (min 63 i.hdr.secVer) ∧ t.fuses.slots = s.fuses.slots ∧
          (∀ k : Fin 4, s.fuses.revoked.getLsbD k.val = true → t.fuses.revoked.getLsbD k.val = true) ∧
          (∀ k : Fin 4, i.hdr.revoke.getLsbD k.val = false → t.fuses.revoked.getLsbD k.val = s.fuses.revoked.getLsbD k.val) ∧
          t.fuses.commissioned = (s.fuses.commissioned || i.hdr.lcReq == .service || i.hdr.lcReq == .field) ∧
          (∀ l : Lane, (t.lane l).runsNew = false ∧ (t.lane l).trialCnt = 0 ∧ (t.lane l).region = (s.lane l).region) ∧
          t.nvm.bank0 = s.nvm.bank0 ∧ t.nvm.bank1 = s.nvm.bank1 ∧ t.ms = s.ms ∧ t.sh = s.sh ∧ t.pending = s.pending))

/-! ### The block as a whole -/

/-- A step takes the command at the front of the queue and runs it with the rest of the queue; an empty queue leaves the
block as it is (the model's choice, assumption 1). -/
def Obligations.StepRunsTheFrontCommand : Prop :=
  (∀ (c : Instr) (s : State),
    Sys2Proof.Machine.step { s with pending := c :: s.pending } = Sys2Proof.Machine.exec c s) ∧
  (∀ (c : Instr) (rest : List Instr) (s : State), s.pending = c :: rest →
    Sys2Proof.Machine.step s = Sys2Proof.Machine.exec c { s with pending := rest }) ∧
  (∀ s : State, s.pending = [] → Sys2Proof.Machine.step s = .next s)

/-- Every command of every state answers a next state, and leaves the queue to the step: the block has no fault and no
refusal. -/
def Obligations.EveryCommandAnswersANextState : Prop :=
  ∀ (c : Instr) (s : State), ∃ t, Sys2Proof.Machine.exec c s = .next t ∧ t.pending = s.pending

/-- R43, R46, R51, R248, R402, R411, R470: after reset the module is in BOOT with the output hold set and no lane
voting; every lock is free, every mailbox empty and every interface without a token; the lanes are in reset with the
restart region; the latch is clear with blank latch records, and nothing waits. At reset the invariants hold: a fused
slot is unrevoked (the slots' values are the model's choice, assumption 17), the latch is what its records give, and the
stores are canonical. -/
def Obligations.ResetLeavesTheBlockInBoot : Prop :=
  (State.reset.ms.mode = .boot ∧ State.reset.ms.outHold = true ∧ State.reset.ms.voting = 0 ∧ State.reset.aon.timeNs = 0 ∧
  State.reset.aon.latch = false ∧ State.reset.nvm.latchLog.newest = none ∧
  (∀ i : Fin 64, State.reset.sh.locks[i] = ⟨0, false⟩) ∧ State.reset.sh.orphan = 0 ∧
  (∀ (b : Bool) (ch : Fin 8), (State.reset.mbx b ch).inFull = false ∧ (State.reset.mbx b ch).outFull = false ∧
    (State.reset.mbx b ch).queue = []) ∧
  (∀ (l : Lane) (b : Bank), (State.reset.iface l b).token = none) ∧
  (∀ l : Lane, (State.reset.lane l).svc = .reset ∧ (State.reset.lane l).region = Carried.reset) ∧
  State.reset.pending = []) ∧
  (State.reset.fuses.sound ∧ LatchRecorded State.reset ∧ StoresCanonical State.reset)

/-- R439, R440, R447: every step keeps a fused slot unrevoked and a retired module without its key-encryption key, and
burns fuses without ever restoring one: slots and revocations stay, the security floor never falls, COMMISSIONED and
RETIRED are final. -/
def Obligations.StepsOnlyBurnFuses : Prop :=
  ∀ s t : State, Sys2Proof.Machine.step s = .next t →
    s.fuses.leads t.fuses ∧ (s.fuses.sound → t.fuses.sound)

/-- R46, R482: every step keeps the lockout latch in AON equal to what the last latch record gives, so that a loss of
power at any point restores it, or shows that the record waits for NVM1, which the essential commit of a power loss then
writes. -/
def Obligations.LatchAlwaysMatchesItsRecord : Prop :=
  (∀ s t : State, LatchRecorded s → Sys2Proof.Machine.step s = .next t → LatchRecorded t) ∧
  (∀ s : State, LatchRecorded s → s.pwr.phase = .normal → s.ms.porHeld = false →
    ∃ t, Sys2Proof.Machine.exec .vinFail s = .next t ∧ t.aon.latrecPend = false ∧ t.aon.latch = s.aon.latch ∧
      latchOf t.nvm.latchLog.newest = (t.aon.latch, t.aon.latchCause, t.aon.latchTick))

/-- R46, R51, R56: no command but one that brings a reset request takes the lockout latch or the output hold back,
whatever resets, power losses and wakes happen. A latch whose record still waits for NVM1 is lost only where the power goes
without the essential commit that would write it (R480, R482). -/
def Obligations.LatchAndHoldFallOnlyByRequest : Prop :=
  ∀ (c : Instr) (s t : State), LatchRecorded s → clearsByRequest c = false → Sys2Proof.Machine.exec c s = .next t →
    (s.aon.latch = true → s.aon.latrecPend = false ∨ (c ≠ .por ∧ c ≠ .commitEnd) → t.aon.latch = true) ∧
    (s.ms.outHold = true → t.ms.outHold = true)

/-- Every step keeps the addressed stores in their one form, so that equal contents are equal data. -/
def Obligations.StepsKeepStoresCanonical : Prop :=
  ∀ s t : State, StoresCanonical s → Sys2Proof.Machine.step s = .next t → StoresCanonical t

/-- R448: an access to the IEEE 1149.1 port or a start of the host self-test engine that R446 does not open is ignored
and counted in IGN_CNT; the refused start raises its vector and shows REFUSED. -/
def Obligations.ClosedTestAccessIsCounted : Prop :=
  ∀ s : State, s.lifeCycle = .retired ∨ s.lifeCycle = .field ∨
      ((s.lifeCycle = .commission ∨ s.lifeCycle = .service) ∧ s.ms.mode ≠ .lockout) →
    Sys2Proof.Machine.exec (.testPortAccess .jtag) s = .next { s with upd := { s.upd with
      ignCnt := if s.upd.ignCnt < 65535 then s.upd.ignCnt + 1 else 65535 } } ∧
    (s.pwr.dom.getLsbD 3 = true →
      ∃ t, Sys2Proof.Machine.exec .bistGo s = .next t ∧
        t.upd = { s.upd with ignCnt := if s.upd.ignCnt < 65535 then s.upd.ignCnt + 1 else 65535 } ∧
        t.prf = { s.prf with bistRefused := true } ∧ SameBut [.upd, .prf, .host] s t) ∧
    (∃ t, Sys2Proof.Machine.exec (.testPortAccess .bist) s = .next t ∧
      t.upd = { s.upd with ignCnt := if s.upd.ignCnt < 65535 then s.upd.ignCnt + 1 else 65535 } ∧
      t.prf = { s.prf with bistRefused := true } ∧ SameBut [.upd, .prf, .host] s t)

end Statements
end

