-- ==== Sys2Proof/Laws/Basics.lean ====
section
/-!
SUPPORT. Laws of the containers: an entry of a fixed file after a change of one, the three lanes, sparse tables, and how two
states agree outside the parts listed.
-/

namespace Sys2Proof

@[simp] theorem PerLane.get_set_self {α : Type} (p : PerLane α) (l : Lane) (x : α) : (p.set l x).get l = x := by
  cases l <;> rfl

theorem PerLane.get_set_ne {α : Type} (p : PerLane α) (l m : Lane) (x : α) (h : m ≠ l) : (p.set l x).get m = p.get m := by
  cases l <;> cases m <;> first | rfl | exact absurd rfl h

theorem PerLane.get_set {α : Type} (p : PerLane α) (l m : Lane) (x : α) :
    (p.set l x).get m = if m = l then x else p.get m := by
  cases l <;> cases m <;> rfl

@[simp] theorem PerLane.get_map {α β : Type} (f : α → β) (p : PerLane α) (l : Lane) : (p.map f).get l = f (p.get l) := by
  cases l <;> rfl

@[simp] theorem PerLane.get_mapL {α β : Type} (f : Lane → α → β) (p : PerLane α) (l : Lane) :
    (p.mapL f).get l = f l (p.get l) := by
  cases l <;> rfl

@[simp] theorem PerLane.get_ofFn {α : Type} (f : Lane → α) (l : Lane) : (PerLane.ofFn f).get l = f l := by
  cases l <;> rfl

end Sys2Proof

namespace Sys2Proof.Machine

@[simp] theorem vmod_self {α : Type} {n : Nat} (v : Vector α n) (i : Fin n) (f : α → α) :
    (vmod v i f)[i.val] = f v[i.val] := by
  simp [vmod]

theorem vmod_ne {α : Type} {n : Nat} (v : Vector α n) (i j : Fin n) (f : α → α) (h : j ≠ i) :
    (vmod v i f)[j.val] = v[j.val] := by
  have : i.val ≠ j.val := fun e => h (Fin.ext e.symm)
  simp [vmod, this]

theorem vmod_get {α : Type} {n : Nat} (v : Vector α n) (i : Fin n) (f : α → α) (j : Nat) (h : j < n) :
    (vmod v i f)[j] = if i.val = j then f v[j] else v[j] := by
  by_cases e : i.val = j
  · subst e; simp
  · simp [vmod, e]

theorem vmapIdx_get {α β : Type} {n : Nat} (v : Vector α n) (f : Fin n → α → β) (j : Nat) (h : j < n) :
    (vmapIdx v f)[j] = f ⟨j, h⟩ v[j] := by
  simp [vmapIdx]

/-- Reading a sparse table where it was just written. -/
@[simp] theorem AMap.get?_set_self {α : Type} (m : AMap α) (k : Nat) (v : α) : (m.set k v).get? k = some v := by
  induction m with
  | nil => simp [AMap.set, AMap.get?]
  | cons p r ih =>
    obtain ⟨j, w⟩ := p
    by_cases h : k < j
    · simp [AMap.set, AMap.get?, h]
    · by_cases e : k = j
      · simp [AMap.set, AMap.get?, e]
      · simp [AMap.set, AMap.get?, h, e, Ne.symm e, ih]

/-- Reading a sparse table elsewhere. -/
theorem AMap.get?_set_ne {α : Type} (m : AMap α) (k j : Nat) (v : α) (h : j ≠ k) : (m.set k v).get? j = m.get? j := by
  induction m with
  | nil => simp [AMap.set, AMap.get?, Ne.symm h]
  | cons p r ih =>
    obtain ⟨i, w⟩ := p
    by_cases c : k < i
    · simp [AMap.set, AMap.get?, c, Ne.symm h]
    · by_cases e : k = i
      · subst e; simp [AMap.set, AMap.get?, Ne.symm h]
      · simp [AMap.set, AMap.get?, c, e, ih]

/-- The lane that was replaced. -/
@[simp] theorem State.lane_setLane_self (s : State) (l : Lane) (x : LaneSt) : (s.setLane l x).lane l = x := by
  simp [State.setLane, State.lane]

theorem State.lane_setLane_ne (s : State) (l m : Lane) (x : LaneSt) (h : m ≠ l) : (s.setLane l x).lane m = s.lane m := by
  simp [State.setLane, State.lane, PerLane.get_set_ne, h]

@[simp] theorem State.lane_modLaneSt_self (s : State) (l : Lane) (f : LaneSt → LaneSt) :
    (s.modLaneSt l f).lane l = f (s.lane l) := by
  simp [State.modLaneSt]

theorem State.lane_modLaneSt_ne (s : State) (l m : Lane) (f : LaneSt → LaneSt) (h : m ≠ l) :
    (s.modLaneSt l f).lane m = s.lane m := by
  simp [State.modLaneSt, State.lane_setLane_ne, h]

/-- Where every part but those listed is the same. -/
theorem sameBut_of (ps : List Part) (s t : State) (h : ∀ p, p ∈ ps ∨ p.agree s t) : SameBut ps s t :=
  fun p hp => (h p).resolve_left hp

end Sys2Proof.Machine
end

