-- ==== Sys2Proof/Laws/State.lean ====
section
/-!
SUPPORT. Each part of State through an `if` and through a fold: a part that every turn leaves as it was is as it was.
-/

namespace Sys2Proof.Machine

@[simp] theorem State.ms_ite (c : Prop) [Decidable c] (s t : State) :
    (if c then s else t).ms = if c then s.ms else t.ms := apply_ite State.ms c s t

@[simp] theorem State.ms_foldl {α : Type} {f : State → α → State} (h : ∀ s a, (f s a).ms = s.ms) (l : List α)
    (s : State) : (l.foldl f s).ms = s.ms := by
  induction l generalizing s with
  | nil => rfl
  | cons a r ih => rw [List.foldl_cons, ih, h]

@[simp] theorem State.ms_foldl_fst {α β : Type} {f : State × β → α → State × β} (h : ∀ x a, (f x a).1.ms = x.1.ms)
    (l : List α) (x : State × β) : (l.foldl f x).1.ms = x.1.ms := by
  induction l generalizing x with
  | nil => rfl
  | cons a r ih => rw [List.foldl_cons, ih, h]

@[simp] theorem State.rrq_ite (c : Prop) [Decidable c] (s t : State) :
    (if c then s else t).rrq = if c then s.rrq else t.rrq := apply_ite State.rrq c s t

@[simp] theorem State.rrq_foldl {α : Type} {f : State → α → State} (h : ∀ s a, (f s a).rrq = s.rrq) (l : List α)
    (s : State) : (l.foldl f s).rrq = s.rrq := by
  induction l generalizing s with
  | nil => rfl
  | cons a r ih => rw [List.foldl_cons, ih, h]

@[simp] theorem State.rrq_foldl_fst {α β : Type} {f : State × β → α → State × β} (h : ∀ x a, (f x a).1.rrq = x.1.rrq)
    (l : List α) (x : State × β) : (l.foldl f x).1.rrq = x.1.rrq := by
  induction l generalizing x with
  | nil => rfl
  | cons a r ih => rw [List.foldl_cons, ih, h]

@[simp] theorem State.lanes_ite (c : Prop) [Decidable c] (s t : State) :
    (if c then s else t).lanes = if c then s.lanes else t.lanes := apply_ite State.lanes c s t

@[simp] theorem State.lanes_foldl {α : Type} {f : State → α → State} (h : ∀ s a, (f s a).lanes = s.lanes) (l : List α)
    (s : State) : (l.foldl f s).lanes = s.lanes := by
  induction l generalizing s with
  | nil => rfl
  | cons a r ih => rw [List.foldl_cons, ih, h]

@[simp] theorem State.lanes_foldl_fst {α β : Type} {f : State × β → α → State × β} (h : ∀ x a, (f x a).1.lanes = x.1.lanes)
    (l : List α) (x : State × β) : (l.foldl f x).1.lanes = x.1.lanes := by
  induction l generalizing x with
  | nil => rfl
  | cons a r ih => rw [List.foldl_cons, ih, h]

@[simp] theorem State.fld_ite (c : Prop) [Decidable c] (s t : State) :
    (if c then s else t).fld = if c then s.fld else t.fld := apply_ite State.fld c s t

@[simp] theorem State.fld_foldl {α : Type} {f : State → α → State} (h : ∀ s a, (f s a).fld = s.fld) (l : List α)
    (s : State) : (l.foldl f s).fld = s.fld := by
  induction l generalizing s with
  | nil => rfl
  | cons a r ih => rw [List.foldl_cons, ih, h]

@[simp] theorem State.fld_foldl_fst {α β : Type} {f : State × β → α → State × β} (h : ∀ x a, (f x a).1.fld = x.1.fld)
    (l : List α) (x : State × β) : (l.foldl f x).1.fld = x.1.fld := by
  induction l generalizing x with
  | nil => rfl
  | cons a r ih => rw [List.foldl_cons, ih, h]

@[simp] theorem State.vot_ite (c : Prop) [Decidable c] (s t : State) :
    (if c then s else t).vot = if c then s.vot else t.vot := apply_ite State.vot c s t

@[simp] theorem State.vot_foldl {α : Type} {f : State → α → State} (h : ∀ s a, (f s a).vot = s.vot) (l : List α)
    (s : State) : (l.foldl f s).vot = s.vot := by
  induction l generalizing s with
  | nil => rfl
  | cons a r ih => rw [List.foldl_cons, ih, h]

@[simp] theorem State.vot_foldl_fst {α β : Type} {f : State × β → α → State × β} (h : ∀ x a, (f x a).1.vot = x.1.vot)
    (l : List α) (x : State × β) : (l.foldl f x).1.vot = x.1.vot := by
  induction l generalizing x with
  | nil => rfl
  | cons a r ih => rw [List.foldl_cons, ih, h]

@[simp] theorem State.pair_ite (c : Prop) [Decidable c] (s t : State) :
    (if c then s else t).pair = if c then s.pair else t.pair := apply_ite State.pair c s t

@[simp] theorem State.pair_foldl {α : Type} {f : State → α → State} (h : ∀ s a, (f s a).pair = s.pair) (l : List α)
    (s : State) : (l.foldl f s).pair = s.pair := by
  induction l generalizing s with
  | nil => rfl
  | cons a r ih => rw [List.foldl_cons, ih, h]

@[simp] theorem State.pair_foldl_fst {α β : Type} {f : State × β → α → State × β} (h : ∀ x a, (f x a).1.pair = x.1.pair)
    (l : List α) (x : State × β) : (l.foldl f x).1.pair = x.1.pair := by
  induction l generalizing x with
  | nil => rfl
  | cons a r ih => rw [List.foldl_cons, ih, h]

@[simp] theorem State.aon_ite (c : Prop) [Decidable c] (s t : State) :
    (if c then s else t).aon = if c then s.aon else t.aon := apply_ite State.aon c s t

@[simp] theorem State.aon_foldl {α : Type} {f : State → α → State} (h : ∀ s a, (f s a).aon = s.aon) (l : List α)
    (s : State) : (l.foldl f s).aon = s.aon := by
  induction l generalizing s with
  | nil => rfl
  | cons a r ih => rw [List.foldl_cons, ih, h]

@[simp] theorem State.aon_foldl_fst {α β : Type} {f : State × β → α → State × β} (h : ∀ x a, (f x a).1.aon = x.1.aon)
    (l : List α) (x : State × β) : (l.foldl f x).1.aon = x.1.aon := by
  induction l generalizing x with
  | nil => rfl
  | cons a r ih => rw [List.foldl_cons, ih, h]

@[simp] theorem State.pwr_ite (c : Prop) [Decidable c] (s t : State) :
    (if c then s else t).pwr = if c then s.pwr else t.pwr := apply_ite State.pwr c s t

@[simp] theorem State.pwr_foldl {α : Type} {f : State → α → State} (h : ∀ s a, (f s a).pwr = s.pwr) (l : List α)
    (s : State) : (l.foldl f s).pwr = s.pwr := by
  induction l generalizing s with
  | nil => rfl
  | cons a r ih => rw [List.foldl_cons, ih, h]

@[simp] theorem State.pwr_foldl_fst {α β : Type} {f : State × β → α → State × β} (h : ∀ x a, (f x a).1.pwr = x.1.pwr)
    (l : List α) (x : State × β) : (l.foldl f x).1.pwr = x.1.pwr := by
  induction l generalizing x with
  | nil => rfl
  | cons a r ih => rw [List.foldl_cons, ih, h]

@[simp] theorem State.sh_ite (c : Prop) [Decidable c] (s t : State) :
    (if c then s else t).sh = if c then s.sh else t.sh := apply_ite State.sh c s t

@[simp] theorem State.sh_foldl {α : Type} {f : State → α → State} (h : ∀ s a, (f s a).sh = s.sh) (l : List α)
    (s : State) : (l.foldl f s).sh = s.sh := by
  induction l generalizing s with
  | nil => rfl
  | cons a r ih => rw [List.foldl_cons, ih, h]

@[simp] theorem State.sh_foldl_fst {α β : Type} {f : State × β → α → State × β} (h : ∀ x a, (f x a).1.sh = x.1.sh)
    (l : List α) (x : State × β) : (l.foldl f x).1.sh = x.1.sh := by
  induction l generalizing x with
  | nil => rfl
  | cons a r ih => rw [List.foldl_cons, ih, h]

@[simp] theorem State.crc_ite (c : Prop) [Decidable c] (s t : State) :
    (if c then s else t).crc = if c then s.crc else t.crc := apply_ite State.crc c s t

@[simp] theorem State.crc_foldl {α : Type} {f : State → α → State} (h : ∀ s a, (f s a).crc = s.crc) (l : List α)
    (s : State) : (l.foldl f s).crc = s.crc := by
  induction l generalizing s with
  | nil => rfl
  | cons a r ih => rw [List.foldl_cons, ih, h]

@[simp] theorem State.crc_foldl_fst {α β : Type} {f : State × β → α → State × β} (h : ∀ x a, (f x a).1.crc = x.1.crc)
    (l : List α) (x : State × β) : (l.foldl f x).1.crc = x.1.crc := by
  induction l generalizing x with
  | nil => rfl
  | cons a r ih => rw [List.foldl_cons, ih, h]

@[simp] theorem State.mail_ite (c : Prop) [Decidable c] (s t : State) :
    (if c then s else t).mail = if c then s.mail else t.mail := apply_ite State.mail c s t

@[simp] theorem State.mail_foldl {α : Type} {f : State → α → State} (h : ∀ s a, (f s a).mail = s.mail) (l : List α)
    (s : State) : (l.foldl f s).mail = s.mail := by
  induction l generalizing s with
  | nil => rfl
  | cons a r ih => rw [List.foldl_cons, ih, h]

@[simp] theorem State.mail_foldl_fst {α β : Type} {f : State × β → α → State × β} (h : ∀ x a, (f x a).1.mail = x.1.mail)
    (l : List α) (x : State × β) : (l.foldl f x).1.mail = x.1.mail := by
  induction l generalizing x with
  | nil => rfl
  | cons a r ih => rw [List.foldl_cons, ih, h]

@[simp] theorem State.net_ite (c : Prop) [Decidable c] (s t : State) :
    (if c then s else t).net = if c then s.net else t.net := apply_ite State.net c s t

@[simp] theorem State.net_foldl {α : Type} {f : State → α → State} (h : ∀ s a, (f s a).net = s.net) (l : List α)
    (s : State) : (l.foldl f s).net = s.net := by
  induction l generalizing s with
  | nil => rfl
  | cons a r ih => rw [List.foldl_cons, ih, h]

@[simp] theorem State.net_foldl_fst {α β : Type} {f : State × β → α → State × β} (h : ∀ x a, (f x a).1.net = x.1.net)
    (l : List α) (x : State × β) : (l.foldl f x).1.net = x.1.net := by
  induction l generalizing x with
  | nil => rfl
  | cons a r ih => rw [List.foldl_cons, ih, h]

@[simp] theorem State.tim_ite (c : Prop) [Decidable c] (s t : State) :
    (if c then s else t).tim = if c then s.tim else t.tim := apply_ite State.tim c s t

@[simp] theorem State.tim_foldl {α : Type} {f : State → α → State} (h : ∀ s a, (f s a).tim = s.tim) (l : List α)
    (s : State) : (l.foldl f s).tim = s.tim := by
  induction l generalizing s with
  | nil => rfl
  | cons a r ih => rw [List.foldl_cons, ih, h]

@[simp] theorem State.tim_foldl_fst {α β : Type} {f : State × β → α → State × β} (h : ∀ x a, (f x a).1.tim = x.1.tim)
    (l : List α) (x : State × β) : (l.foldl f x).1.tim = x.1.tim := by
  induction l generalizing x with
  | nil => rfl
  | cons a r ih => rw [List.foldl_cons, ih, h]

@[simp] theorem State.gal_ite (c : Prop) [Decidable c] (s t : State) :
    (if c then s else t).gal = if c then s.gal else t.gal := apply_ite State.gal c s t

@[simp] theorem State.gal_foldl {α : Type} {f : State → α → State} (h : ∀ s a, (f s a).gal = s.gal) (l : List α)
    (s : State) : (l.foldl f s).gal = s.gal := by
  induction l generalizing s with
  | nil => rfl
  | cons a r ih => rw [List.foldl_cons, ih, h]

@[simp] theorem State.gal_foldl_fst {α β : Type} {f : State × β → α → State × β} (h : ∀ x a, (f x a).1.gal = x.1.gal)
    (l : List α) (x : State × β) : (l.foldl f x).1.gal = x.1.gal := by
  induction l generalizing x with
  | nil => rfl
  | cons a r ih => rw [List.foldl_cons, ih, h]

@[simp] theorem State.buf_ite (c : Prop) [Decidable c] (s t : State) :
    (if c then s else t).buf = if c then s.buf else t.buf := apply_ite State.buf c s t

@[simp] theorem State.buf_foldl {α : Type} {f : State → α → State} (h : ∀ s a, (f s a).buf = s.buf) (l : List α)
    (s : State) : (l.foldl f s).buf = s.buf := by
  induction l generalizing s with
  | nil => rfl
  | cons a r ih => rw [List.foldl_cons, ih, h]

@[simp] theorem State.buf_foldl_fst {α β : Type} {f : State × β → α → State × β} (h : ∀ x a, (f x a).1.buf = x.1.buf)
    (l : List α) (x : State × β) : (l.foldl f x).1.buf = x.1.buf := by
  induction l generalizing x with
  | nil => rfl
  | cons a r ih => rw [List.foldl_cons, ih, h]

@[simp] theorem State.log_ite (c : Prop) [Decidable c] (s t : State) :
    (if c then s else t).log = if c then s.log else t.log := apply_ite State.log c s t

@[simp] theorem State.log_foldl {α : Type} {f : State → α → State} (h : ∀ s a, (f s a).log = s.log) (l : List α)
    (s : State) : (l.foldl f s).log = s.log := by
  induction l generalizing s with
  | nil => rfl
  | cons a r ih => rw [List.foldl_cons, ih, h]

@[simp] theorem State.log_foldl_fst {α β : Type} {f : State × β → α → State × β} (h : ∀ x a, (f x a).1.log = x.1.log)
    (l : List α) (x : State × β) : (l.foldl f x).1.log = x.1.log := by
  induction l generalizing x with
  | nil => rfl
  | cons a r ih => rw [List.foldl_cons, ih, h]

@[simp] theorem State.fuses_ite (c : Prop) [Decidable c] (s t : State) :
    (if c then s else t).fuses = if c then s.fuses else t.fuses := apply_ite State.fuses c s t

@[simp] theorem State.fuses_foldl {α : Type} {f : State → α → State} (h : ∀ s a, (f s a).fuses = s.fuses) (l : List α)
    (s : State) : (l.foldl f s).fuses = s.fuses := by
  induction l generalizing s with
  | nil => rfl
  | cons a r ih => rw [List.foldl_cons, ih, h]

@[simp] theorem State.fuses_foldl_fst {α β : Type} {f : State × β → α → State × β} (h : ∀ x a, (f x a).1.fuses = x.1.fuses)
    (l : List α) (x : State × β) : (l.foldl f x).1.fuses = x.1.fuses := by
  induction l generalizing x with
  | nil => rfl
  | cons a r ih => rw [List.foldl_cons, ih, h]

@[simp] theorem State.nvm_ite (c : Prop) [Decidable c] (s t : State) :
    (if c then s else t).nvm = if c then s.nvm else t.nvm := apply_ite State.nvm c s t

@[simp] theorem State.nvm_foldl {α : Type} {f : State → α → State} (h : ∀ s a, (f s a).nvm = s.nvm) (l : List α)
    (s : State) : (l.foldl f s).nvm = s.nvm := by
  induction l generalizing s with
  | nil => rfl
  | cons a r ih => rw [List.foldl_cons, ih, h]

@[simp] theorem State.nvm_foldl_fst {α β : Type} {f : State × β → α → State × β} (h : ∀ x a, (f x a).1.nvm = x.1.nvm)
    (l : List α) (x : State × β) : (l.foldl f x).1.nvm = x.1.nvm := by
  induction l generalizing x with
  | nil => rfl
  | cons a r ih => rw [List.foldl_cons, ih, h]

@[simp] theorem State.upd_ite (c : Prop) [Decidable c] (s t : State) :
    (if c then s else t).upd = if c then s.upd else t.upd := apply_ite State.upd c s t

@[simp] theorem State.upd_foldl {α : Type} {f : State → α → State} (h : ∀ s a, (f s a).upd = s.upd) (l : List α)
    (s : State) : (l.foldl f s).upd = s.upd := by
  induction l generalizing s with
  | nil => rfl
  | cons a r ih => rw [List.foldl_cons, ih, h]

@[simp] theorem State.upd_foldl_fst {α β : Type} {f : State × β → α → State × β} (h : ∀ x a, (f x a).1.upd = x.1.upd)
    (l : List α) (x : State × β) : (l.foldl f x).1.upd = x.1.upd := by
  induction l generalizing x with
  | nil => rfl
  | cons a r ih => rw [List.foldl_cons, ih, h]

@[simp] theorem State.prf_ite (c : Prop) [Decidable c] (s t : State) :
    (if c then s else t).prf = if c then s.prf else t.prf := apply_ite State.prf c s t

@[simp] theorem State.prf_foldl {α : Type} {f : State → α → State} (h : ∀ s a, (f s a).prf = s.prf) (l : List α)
    (s : State) : (l.foldl f s).prf = s.prf := by
  induction l generalizing s with
  | nil => rfl
  | cons a r ih => rw [List.foldl_cons, ih, h]

@[simp] theorem State.prf_foldl_fst {α β : Type} {f : State × β → α → State × β} (h : ∀ x a, (f x a).1.prf = x.1.prf)
    (l : List α) (x : State × β) : (l.foldl f x).1.prf = x.1.prf := by
  induction l generalizing x with
  | nil => rfl
  | cons a r ih => rw [List.foldl_cons, ih, h]

@[simp] theorem State.host_ite (c : Prop) [Decidable c] (s t : State) :
    (if c then s else t).host = if c then s.host else t.host := apply_ite State.host c s t

@[simp] theorem State.host_foldl {α : Type} {f : State → α → State} (h : ∀ s a, (f s a).host = s.host) (l : List α)
    (s : State) : (l.foldl f s).host = s.host := by
  induction l generalizing s with
  | nil => rfl
  | cons a r ih => rw [List.foldl_cons, ih, h]

@[simp] theorem State.host_foldl_fst {α β : Type} {f : State × β → α → State × β} (h : ∀ x a, (f x a).1.host = x.1.host)
    (l : List α) (x : State × β) : (l.foldl f x).1.host = x.1.host := by
  induction l generalizing x with
  | nil => rfl
  | cons a r ih => rw [List.foldl_cons, ih, h]

@[simp] theorem State.free_ite (c : Prop) [Decidable c] (s t : State) :
    (if c then s else t).free = if c then s.free else t.free := apply_ite State.free c s t

@[simp] theorem State.free_foldl {α : Type} {f : State → α → State} (h : ∀ s a, (f s a).free = s.free) (l : List α)
    (s : State) : (l.foldl f s).free = s.free := by
  induction l generalizing s with
  | nil => rfl
  | cons a r ih => rw [List.foldl_cons, ih, h]

@[simp] theorem State.free_foldl_fst {α β : Type} {f : State × β → α → State × β} (h : ∀ x a, (f x a).1.free = x.1.free)
    (l : List α) (x : State × β) : (l.foldl f x).1.free = x.1.free := by
  induction l generalizing x with
  | nil => rfl
  | cons a r ih => rw [List.foldl_cons, ih, h]

@[simp] theorem State.pending_ite (c : Prop) [Decidable c] (s t : State) :
    (if c then s else t).pending = if c then s.pending else t.pending := apply_ite State.pending c s t

@[simp] theorem State.pending_foldl {α : Type} {f : State → α → State} (h : ∀ s a, (f s a).pending = s.pending) (l : List α)
    (s : State) : (l.foldl f s).pending = s.pending := by
  induction l generalizing s with
  | nil => rfl
  | cons a r ih => rw [List.foldl_cons, ih, h]

@[simp] theorem State.pending_foldl_fst {α β : Type} {f : State × β → α → State × β} (h : ∀ x a, (f x a).1.pending = x.1.pending)
    (l : List α) (x : State × β) : (l.foldl f x).1.pending = x.1.pending := by
  induction l generalizing x with
  | nil => rfl
  | cons a r ih => rw [List.foldl_cons, ih, h]

end Sys2Proof.Machine
end

