-- ==== Sys2Proof/Laws/FrameOps.lean ====
section
/-!
SUPPORT. The frame of each operation of Machine/Ops.lean: the parts of State that it leaves as they were.
-/

namespace Sys2Proof.Machine

/-! An access through an arbiter leaves of State what the access itself leaves, but for the shared resources. -/

@[simp] theorem State.onPort_ms {s : State} {res : Fin 6} {m : Master} {rs : List Master} {a : HubAccess} {f : State → State}
    (h : ∀ t, (f t).ms = t.ms) : (s.onPort res m rs a f).ms = s.ms := by
  unfold State.onPort
  dsimp only
  (repeat' split) <;> simp [h]

@[simp] theorem State.onPort_rrq {s : State} {res : Fin 6} {m : Master} {rs : List Master} {a : HubAccess} {f : State → State}
    (h : ∀ t, (f t).rrq = t.rrq) : (s.onPort res m rs a f).rrq = s.rrq := by
  unfold State.onPort
  dsimp only
  (repeat' split) <;> simp [h]

@[simp] theorem State.onPort_lanes {s : State} {res : Fin 6} {m : Master} {rs : List Master} {a : HubAccess} {f : State → State}
    (h : ∀ t, (f t).lanes = t.lanes) : (s.onPort res m rs a f).lanes = s.lanes := by
  unfold State.onPort
  dsimp only
  (repeat' split) <;> simp [h]

@[simp] theorem State.onPort_fld {s : State} {res : Fin 6} {m : Master} {rs : List Master} {a : HubAccess} {f : State → State}
    (h : ∀ t, (f t).fld = t.fld) : (s.onPort res m rs a f).fld = s.fld := by
  unfold State.onPort
  dsimp only
  (repeat' split) <;> simp [h]

@[simp] theorem State.onPort_vot {s : State} {res : Fin 6} {m : Master} {rs : List Master} {a : HubAccess} {f : State → State}
    (h : ∀ t, (f t).vot = t.vot) : (s.onPort res m rs a f).vot = s.vot := by
  unfold State.onPort
  dsimp only
  (repeat' split) <;> simp [h]

@[simp] theorem State.onPort_pair {s : State} {res : Fin 6} {m : Master} {rs : List Master} {a : HubAccess} {f : State → State}
    (h : ∀ t, (f t).pair = t.pair) : (s.onPort res m rs a f).pair = s.pair := by
  unfold State.onPort
  dsimp only
  (repeat' split) <;> simp [h]

@[simp] theorem State.onPort_aon {s : State} {res : Fin 6} {m : Master} {rs : List Master} {a : HubAccess} {f : State → State}
    (h : ∀ t, (f t).aon = t.aon) : (s.onPort res m rs a f).aon = s.aon := by
  unfold State.onPort
  dsimp only
  (repeat' split) <;> simp [h]

@[simp] theorem State.onPort_pwr {s : State} {res : Fin 6} {m : Master} {rs : List Master} {a : HubAccess} {f : State → State}
    (h : ∀ t, (f t).pwr = t.pwr) : (s.onPort res m rs a f).pwr = s.pwr := by
  unfold State.onPort
  dsimp only
  (repeat' split) <;> simp [h]

@[simp] theorem State.onPort_crc {s : State} {res : Fin 6} {m : Master} {rs : List Master} {a : HubAccess} {f : State → State}
    (h : ∀ t, (f t).crc = t.crc) : (s.onPort res m rs a f).crc = s.crc := by
  unfold State.onPort
  dsimp only
  (repeat' split) <;> simp [h]

@[simp] theorem State.onPort_mail {s : State} {res : Fin 6} {m : Master} {rs : List Master} {a : HubAccess} {f : State → State}
    (h : ∀ t, (f t).mail = t.mail) : (s.onPort res m rs a f).mail = s.mail := by
  unfold State.onPort
  dsimp only
  (repeat' split) <;> simp [h]

@[simp] theorem State.onPort_net {s : State} {res : Fin 6} {m : Master} {rs : List Master} {a : HubAccess} {f : State → State}
    (h : ∀ t, (f t).net = t.net) : (s.onPort res m rs a f).net = s.net := by
  unfold State.onPort
  dsimp only
  (repeat' split) <;> simp [h]

@[simp] theorem State.onPort_tim {s : State} {res : Fin 6} {m : Master} {rs : List Master} {a : HubAccess} {f : State → State}
    (h : ∀ t, (f t).tim = t.tim) : (s.onPort res m rs a f).tim = s.tim := by
  unfold State.onPort
  dsimp only
  (repeat' split) <;> simp [h]

@[simp] theorem State.onPort_gal {s : State} {res : Fin 6} {m : Master} {rs : List Master} {a : HubAccess} {f : State → State}
    (h : ∀ t, (f t).gal = t.gal) : (s.onPort res m rs a f).gal = s.gal := by
  unfold State.onPort
  dsimp only
  (repeat' split) <;> simp [h]

@[simp] theorem State.onPort_buf {s : State} {res : Fin 6} {m : Master} {rs : List Master} {a : HubAccess} {f : State → State}
    (h : ∀ t, (f t).buf = t.buf) : (s.onPort res m rs a f).buf = s.buf := by
  unfold State.onPort
  dsimp only
  (repeat' split) <;> simp [h]

@[simp] theorem State.onPort_log {s : State} {res : Fin 6} {m : Master} {rs : List Master} {a : HubAccess} {f : State → State}
    (h : ∀ t, (f t).log = t.log) : (s.onPort res m rs a f).log = s.log := by
  unfold State.onPort
  dsimp only
  (repeat' split) <;> simp [h]

@[simp] theorem State.onPort_fuses {s : State} {res : Fin 6} {m : Master} {rs : List Master} {a : HubAccess} {f : State → State}
    (h : ∀ t, (f t).fuses = t.fuses) : (s.onPort res m rs a f).fuses = s.fuses := by
  unfold State.onPort
  dsimp only
  (repeat' split) <;> simp [h]

@[simp] theorem State.onPort_nvm {s : State} {res : Fin 6} {m : Master} {rs : List Master} {a : HubAccess} {f : State → State}
    (h : ∀ t, (f t).nvm = t.nvm) : (s.onPort res m rs a f).nvm = s.nvm := by
  unfold State.onPort
  dsimp only
  (repeat' split) <;> simp [h]

@[simp] theorem State.onPort_upd {s : State} {res : Fin 6} {m : Master} {rs : List Master} {a : HubAccess} {f : State → State}
    (h : ∀ t, (f t).upd = t.upd) : (s.onPort res m rs a f).upd = s.upd := by
  unfold State.onPort
  dsimp only
  (repeat' split) <;> simp [h]

@[simp] theorem State.onPort_prf {s : State} {res : Fin 6} {m : Master} {rs : List Master} {a : HubAccess} {f : State → State}
    (h : ∀ t, (f t).prf = t.prf) : (s.onPort res m rs a f).prf = s.prf := by
  unfold State.onPort
  dsimp only
  (repeat' split) <;> simp [h]

@[simp] theorem State.onPort_host {s : State} {res : Fin 6} {m : Master} {rs : List Master} {a : HubAccess} {f : State → State}
    (h : ∀ t, (f t).host = t.host) : (s.onPort res m rs a f).host = s.host := by
  unfold State.onPort
  dsimp only
  (repeat' split) <;> simp [h]

@[simp] theorem State.onPort_free {s : State} {res : Fin 6} {m : Master} {rs : List Master} {a : HubAccess} {f : State → State}
    (h : ∀ t, (f t).free = t.free) : (s.onPort res m rs a f).free = s.free := by
  unfold State.onPort
  dsimp only
  (repeat' split) <;> simp [h]

@[simp] theorem State.onPort_pending {s : State} {res : Fin 6} {m : Master} {rs : List Master} {a : HubAccess} {f : State → State}
    (h : ∀ t, (f t).pending = t.pending) : (s.onPort res m rs a f).pending = s.pending := by
  unfold State.onPort
  dsimp only
  (repeat' split) <;> simp [h]

@[simp] theorem State.setLane_frame (s : State) (l : Lane) (x : LaneSt) : (s.setLane l x).ms = s.ms ∧
    (s.setLane l x).rrq = s.rrq ∧ (s.setLane l x).fld = s.fld ∧ (s.setLane l x).vot = s.vot ∧
    (s.setLane l x).pair = s.pair ∧ (s.setLane l x).aon = s.aon ∧ (s.setLane l x).pwr = s.pwr ∧
    (s.setLane l x).sh = s.sh ∧ (s.setLane l x).crc = s.crc ∧ (s.setLane l x).mail = s.mail ∧
    (s.setLane l x).net = s.net ∧ (s.setLane l x).tim = s.tim ∧ (s.setLane l x).gal = s.gal ∧
    (s.setLane l x).buf = s.buf ∧ (s.setLane l x).log = s.log ∧ (s.setLane l x).fuses = s.fuses ∧
    (s.setLane l x).nvm = s.nvm ∧ (s.setLane l x).upd = s.upd ∧ (s.setLane l x).prf = s.prf ∧
    (s.setLane l x).host = s.host ∧ (s.setLane l x).free = s.free ∧ (s.setLane l x).pending = s.pending := by
  simp [State.setLane]

@[simp] theorem State.modLaneSt_frame (s : State) (l : Lane) (f : LaneSt → LaneSt) : (s.modLaneSt l f).ms = s.ms ∧
    (s.modLaneSt l f).rrq = s.rrq ∧ (s.modLaneSt l f).fld = s.fld ∧ (s.modLaneSt l f).vot = s.vot ∧
    (s.modLaneSt l f).pair = s.pair ∧ (s.modLaneSt l f).aon = s.aon ∧ (s.modLaneSt l f).pwr = s.pwr ∧
    (s.modLaneSt l f).sh = s.sh ∧ (s.modLaneSt l f).crc = s.crc ∧ (s.modLaneSt l f).mail = s.mail ∧
    (s.modLaneSt l f).net = s.net ∧ (s.modLaneSt l f).tim = s.tim ∧ (s.modLaneSt l f).gal = s.gal ∧
    (s.modLaneSt l f).buf = s.buf ∧ (s.modLaneSt l f).log = s.log ∧ (s.modLaneSt l f).fuses = s.fuses ∧
    (s.modLaneSt l f).nvm = s.nvm ∧ (s.modLaneSt l f).upd = s.upd ∧ (s.modLaneSt l f).prf = s.prf ∧
    (s.modLaneSt l f).host = s.host ∧ (s.modLaneSt l f).free = s.free ∧ (s.modLaneSt l f).pending = s.pending := by
  simp [State.modLaneSt]

@[simp] theorem State.modCheck_frame (s : State) (l : Lane) (f : LaneCheck → LaneCheck) : (s.modCheck l f).ms = s.ms
    ∧ (s.modCheck l f).rrq = s.rrq ∧ (s.modCheck l f).fld = s.fld ∧ (s.modCheck l f).vot = s.vot ∧
    (s.modCheck l f).pair = s.pair ∧ (s.modCheck l f).aon = s.aon ∧ (s.modCheck l f).pwr = s.pwr ∧
    (s.modCheck l f).sh = s.sh ∧ (s.modCheck l f).crc = s.crc ∧ (s.modCheck l f).mail = s.mail ∧
    (s.modCheck l f).net = s.net ∧ (s.modCheck l f).tim = s.tim ∧ (s.modCheck l f).gal = s.gal ∧
    (s.modCheck l f).buf = s.buf ∧ (s.modCheck l f).log = s.log ∧ (s.modCheck l f).fuses = s.fuses ∧
    (s.modCheck l f).nvm = s.nvm ∧ (s.modCheck l f).upd = s.upd ∧ (s.modCheck l f).prf = s.prf ∧
    (s.modCheck l f).host = s.host ∧ (s.modCheck l f).free = s.free ∧ (s.modCheck l f).pending = s.pending := by
  simp [State.modCheck]

@[simp] theorem State.modK_frame (s : State) (l : Lane) (f : LaneK → LaneK) : (s.modK l f).ms = s.ms ∧
    (s.modK l f).rrq = s.rrq ∧ (s.modK l f).fld = s.fld ∧ (s.modK l f).vot = s.vot ∧ (s.modK l f).pair = s.pair ∧
    (s.modK l f).aon = s.aon ∧ (s.modK l f).pwr = s.pwr ∧ (s.modK l f).sh = s.sh ∧ (s.modK l f).crc = s.crc ∧
    (s.modK l f).mail = s.mail ∧ (s.modK l f).net = s.net ∧ (s.modK l f).tim = s.tim ∧ (s.modK l f).gal = s.gal ∧
    (s.modK l f).buf = s.buf ∧ (s.modK l f).log = s.log ∧ (s.modK l f).fuses = s.fuses ∧ (s.modK l f).nvm = s.nvm ∧
    (s.modK l f).upd = s.upd ∧ (s.modK l f).prf = s.prf ∧ (s.modK l f).host = s.host ∧ (s.modK l f).free = s.free ∧
    (s.modK l f).pending = s.pending := by
  simp [State.modK]

@[simp] theorem State.modAllK_frame (s : State) (f : LaneK → LaneK) : (s.modAllK f).ms = s.ms ∧
    (s.modAllK f).rrq = s.rrq ∧ (s.modAllK f).fld = s.fld ∧ (s.modAllK f).vot = s.vot ∧ (s.modAllK f).pair = s.pair
    ∧ (s.modAllK f).aon = s.aon ∧ (s.modAllK f).pwr = s.pwr ∧ (s.modAllK f).sh = s.sh ∧ (s.modAllK f).crc = s.crc ∧
    (s.modAllK f).mail = s.mail ∧ (s.modAllK f).net = s.net ∧ (s.modAllK f).tim = s.tim ∧ (s.modAllK f).gal = s.gal
    ∧ (s.modAllK f).buf = s.buf ∧ (s.modAllK f).log = s.log ∧ (s.modAllK f).fuses = s.fuses ∧
    (s.modAllK f).nvm = s.nvm ∧ (s.modAllK f).upd = s.upd ∧ (s.modAllK f).prf = s.prf ∧ (s.modAllK f).host = s.host
    ∧ (s.modAllK f).free = s.free ∧ (s.modAllK f).pending = s.pending := by
  simp [State.modAllK]

@[simp] theorem State.modMbx_frame (s : State) (secure : Bool) (ch : Fin 8) (f : Mbx → Mbx) :
    (s.modMbx secure ch f).ms = s.ms ∧ (s.modMbx secure ch f).rrq = s.rrq ∧ (s.modMbx secure ch f).lanes = s.lanes ∧
    (s.modMbx secure ch f).fld = s.fld ∧ (s.modMbx secure ch f).vot = s.vot ∧ (s.modMbx secure ch f).pair = s.pair ∧
    (s.modMbx secure ch f).aon = s.aon ∧ (s.modMbx secure ch f).pwr = s.pwr ∧ (s.modMbx secure ch f).sh = s.sh ∧
    (s.modMbx secure ch f).crc = s.crc ∧ (s.modMbx secure ch f).net = s.net ∧ (s.modMbx secure ch f).tim = s.tim ∧
    (s.modMbx secure ch f).gal = s.gal ∧ (s.modMbx secure ch f).buf = s.buf ∧ (s.modMbx secure ch f).log = s.log ∧
    (s.modMbx secure ch f).fuses = s.fuses ∧ (s.modMbx secure ch f).nvm = s.nvm ∧ (s.modMbx secure ch f).upd = s.upd
    ∧ (s.modMbx secure ch f).prf = s.prf ∧ (s.modMbx secure ch f).host = s.host ∧
    (s.modMbx secure ch f).free = s.free ∧ (s.modMbx secure ch f).pending = s.pending := by
  simp [State.modMbx]

@[simp] theorem State.passUs_frame (s : State) (us : Nat) : (s.passUs us).ms = s.ms ∧ (s.passUs us).rrq = s.rrq ∧
    (s.passUs us).lanes = s.lanes ∧ (s.passUs us).fld = s.fld ∧ (s.passUs us).vot = s.vot ∧
    (s.passUs us).pair = s.pair ∧ (s.passUs us).pwr = s.pwr ∧ (s.passUs us).sh = s.sh ∧ (s.passUs us).crc = s.crc ∧
    (s.passUs us).mail = s.mail ∧ (s.passUs us).net = s.net ∧ (s.passUs us).tim = s.tim ∧ (s.passUs us).gal = s.gal
    ∧ (s.passUs us).buf = s.buf ∧ (s.passUs us).log = s.log ∧ (s.passUs us).fuses = s.fuses ∧
    (s.passUs us).nvm = s.nvm ∧ (s.passUs us).upd = s.upd ∧ (s.passUs us).prf = s.prf ∧ (s.passUs us).host = s.host
    ∧ (s.passUs us).free = s.free ∧ (s.passUs us).pending = s.pending := by
  simp [State.passUs]

@[simp] theorem State.raiseVec_frame (s : State) (v : Nat) : (s.raiseVec v).ms = s.ms ∧ (s.raiseVec v).rrq = s.rrq ∧
    (s.raiseVec v).lanes = s.lanes ∧ (s.raiseVec v).fld = s.fld ∧ (s.raiseVec v).vot = s.vot ∧
    (s.raiseVec v).pair = s.pair ∧ (s.raiseVec v).aon = s.aon ∧ (s.raiseVec v).pwr = s.pwr ∧
    (s.raiseVec v).sh = s.sh ∧ (s.raiseVec v).crc = s.crc ∧ (s.raiseVec v).mail = s.mail ∧
    (s.raiseVec v).net = s.net ∧ (s.raiseVec v).tim = s.tim ∧ (s.raiseVec v).gal = s.gal ∧
    (s.raiseVec v).buf = s.buf ∧ (s.raiseVec v).log = s.log ∧ (s.raiseVec v).fuses = s.fuses ∧
    (s.raiseVec v).nvm = s.nvm ∧ (s.raiseVec v).upd = s.upd ∧ (s.raiseVec v).prf = s.prf ∧
    (s.raiseVec v).free = s.free ∧ (s.raiseVec v).pending = s.pending := by
  simp [State.raiseVec]

@[simp] theorem State.bell_frame (s : State) (secure : Bool) (ch : Fin 8) (bit : Nat) :
    (s.bell secure ch bit).ms = s.ms ∧ (s.bell secure ch bit).rrq = s.rrq ∧ (s.bell secure ch bit).lanes = s.lanes ∧
    (s.bell secure ch bit).fld = s.fld ∧ (s.bell secure ch bit).vot = s.vot ∧ (s.bell secure ch bit).pair = s.pair ∧
    (s.bell secure ch bit).aon = s.aon ∧ (s.bell secure ch bit).pwr = s.pwr ∧ (s.bell secure ch bit).sh = s.sh ∧
    (s.bell secure ch bit).crc = s.crc ∧ (s.bell secure ch bit).net = s.net ∧ (s.bell secure ch bit).tim = s.tim ∧
    (s.bell secure ch bit).gal = s.gal ∧ (s.bell secure ch bit).buf = s.buf ∧ (s.bell secure ch bit).log = s.log ∧
    (s.bell secure ch bit).fuses = s.fuses ∧ (s.bell secure ch bit).nvm = s.nvm ∧ (s.bell secure ch bit).upd = s.upd
    ∧ (s.bell secure ch bit).prf = s.prf ∧ (s.bell secure ch bit).free = s.free ∧
    (s.bell secure ch bit).pending = s.pending := by
  simp [State.bell]

@[simp] theorem State.bellAll_frame (s : State) (bit : Nat) : (s.bellAll bit).ms = s.ms ∧
    (s.bellAll bit).rrq = s.rrq ∧ (s.bellAll bit).lanes = s.lanes ∧ (s.bellAll bit).fld = s.fld ∧
    (s.bellAll bit).vot = s.vot ∧ (s.bellAll bit).pair = s.pair ∧ (s.bellAll bit).aon = s.aon ∧
    (s.bellAll bit).pwr = s.pwr ∧ (s.bellAll bit).sh = s.sh ∧ (s.bellAll bit).crc = s.crc ∧
    (s.bellAll bit).net = s.net ∧ (s.bellAll bit).tim = s.tim ∧ (s.bellAll bit).gal = s.gal ∧
    (s.bellAll bit).buf = s.buf ∧ (s.bellAll bit).log = s.log ∧ (s.bellAll bit).fuses = s.fuses ∧
    (s.bellAll bit).nvm = s.nvm ∧ (s.bellAll bit).upd = s.upd ∧ (s.bellAll bit).prf = s.prf ∧
    (s.bellAll bit).free = s.free ∧ (s.bellAll bit).pending = s.pending := by
  simp [State.bellAll]

@[simp] theorem State.logStore_frame (s : State) (r : Record) : (s.logStore r).ms = s.ms ∧
    (s.logStore r).rrq = s.rrq ∧ (s.logStore r).lanes = s.lanes ∧ (s.logStore r).fld = s.fld ∧
    (s.logStore r).vot = s.vot ∧ (s.logStore r).pair = s.pair ∧ (s.logStore r).aon = s.aon ∧
    (s.logStore r).pwr = s.pwr ∧ (s.logStore r).sh = s.sh ∧ (s.logStore r).crc = s.crc ∧ (s.logStore r).net = s.net
    ∧ (s.logStore r).tim = s.tim ∧ (s.logStore r).gal = s.gal ∧ (s.logStore r).buf = s.buf ∧
    (s.logStore r).fuses = s.fuses ∧ (s.logStore r).nvm = s.nvm ∧ (s.logStore r).upd = s.upd ∧
    (s.logStore r).prf = s.prf ∧ (s.logStore r).free = s.free ∧ (s.logStore r).pending = s.pending := by
  simp [State.logStore]

@[simp] theorem State.logPut_frame (s : State) (r : Record) : (s.logPut r).ms = s.ms ∧ (s.logPut r).rrq = s.rrq ∧
    (s.logPut r).lanes = s.lanes ∧ (s.logPut r).fld = s.fld ∧ (s.logPut r).vot = s.vot ∧ (s.logPut r).pair = s.pair
    ∧ (s.logPut r).aon = s.aon ∧ (s.logPut r).pwr = s.pwr ∧ (s.logPut r).sh = s.sh ∧ (s.logPut r).crc = s.crc ∧
    (s.logPut r).net = s.net ∧ (s.logPut r).tim = s.tim ∧ (s.logPut r).gal = s.gal ∧ (s.logPut r).buf = s.buf ∧
    (s.logPut r).fuses = s.fuses ∧ (s.logPut r).nvm = s.nvm ∧ (s.logPut r).upd = s.upd ∧ (s.logPut r).prf = s.prf ∧
    (s.logPut r).free = s.free ∧ (s.logPut r).pending = s.pending := by
  unfold State.logPut
  (repeat' split) <;> simp

@[simp] theorem State.holdLog_frame (s : State) : s.holdLog.ms = s.ms ∧ s.holdLog.rrq = s.rrq ∧
    s.holdLog.lanes = s.lanes ∧ s.holdLog.fld = s.fld ∧ s.holdLog.vot = s.vot ∧ s.holdLog.pair = s.pair ∧
    s.holdLog.aon = s.aon ∧ s.holdLog.pwr = s.pwr ∧ s.holdLog.sh = s.sh ∧ s.holdLog.crc = s.crc ∧
    s.holdLog.mail = s.mail ∧ s.holdLog.net = s.net ∧ s.holdLog.tim = s.tim ∧ s.holdLog.gal = s.gal ∧
    s.holdLog.buf = s.buf ∧ s.holdLog.fuses = s.fuses ∧ s.holdLog.nvm = s.nvm ∧ s.holdLog.upd = s.upd ∧
    s.holdLog.prf = s.prf ∧ s.holdLog.host = s.host ∧ s.holdLog.free = s.free ∧ s.holdLog.pending = s.pending := by
  simp [State.holdLog]

@[simp] theorem State.flushLog_frame (s : State) : s.flushLog.ms = s.ms ∧ s.flushLog.rrq = s.rrq ∧
    s.flushLog.lanes = s.lanes ∧ s.flushLog.fld = s.fld ∧ s.flushLog.vot = s.vot ∧ s.flushLog.pair = s.pair ∧
    s.flushLog.aon = s.aon ∧ s.flushLog.pwr = s.pwr ∧ s.flushLog.sh = s.sh ∧ s.flushLog.crc = s.crc ∧
    s.flushLog.net = s.net ∧ s.flushLog.tim = s.tim ∧ s.flushLog.gal = s.gal ∧ s.flushLog.buf = s.buf ∧
    s.flushLog.fuses = s.fuses ∧ s.flushLog.nvm = s.nvm ∧ s.flushLog.upd = s.upd ∧ s.flushLog.prf = s.prf ∧
    s.flushLog.free = s.free ∧ s.flushLog.pending = s.pending := by
  unfold State.flushLog
  (repeat' split) <;> simp

@[simp] theorem State.raise_frame (s : State) (cls : RecClass) (code : Byte) (kind : ObjKind) (obj : Nat) (detail :
    List Byte) : (s.raise cls code kind obj detail).ms = s.ms ∧ (s.raise cls code kind obj detail).rrq = s.rrq ∧
    (s.raise cls code kind obj detail).lanes = s.lanes ∧ (s.raise cls code kind obj detail).fld = s.fld ∧
    (s.raise cls code kind obj detail).vot = s.vot ∧ (s.raise cls code kind obj detail).pair = s.pair ∧
    (s.raise cls code kind obj detail).aon = s.aon ∧ (s.raise cls code kind obj detail).pwr = s.pwr ∧
    (s.raise cls code kind obj detail).sh = s.sh ∧ (s.raise cls code kind obj detail).crc = s.crc ∧
    (s.raise cls code kind obj detail).net = s.net ∧ (s.raise cls code kind obj detail).tim = s.tim ∧
    (s.raise cls code kind obj detail).gal = s.gal ∧ (s.raise cls code kind obj detail).buf = s.buf ∧
    (s.raise cls code kind obj detail).fuses = s.fuses ∧ (s.raise cls code kind obj detail).nvm = s.nvm ∧
    (s.raise cls code kind obj detail).upd = s.upd ∧ (s.raise cls code kind obj detail).prf = s.prf ∧
    (s.raise cls code kind obj detail).free = s.free ∧ (s.raise cls code kind obj detail).pending = s.pending := by
  simp [State.raise]

@[simp] theorem State.alarmLane_frame (s : State) (code : Byte) (l : Lane) (detail : List Byte) :
    (s.alarmLane code l detail).ms = s.ms ∧ (s.alarmLane code l detail).rrq = s.rrq ∧
    (s.alarmLane code l detail).lanes = s.lanes ∧ (s.alarmLane code l detail).fld = s.fld ∧
    (s.alarmLane code l detail).vot = s.vot ∧ (s.alarmLane code l detail).pair = s.pair ∧
    (s.alarmLane code l detail).aon = s.aon ∧ (s.alarmLane code l detail).pwr = s.pwr ∧
    (s.alarmLane code l detail).sh = s.sh ∧ (s.alarmLane code l detail).crc = s.crc ∧
    (s.alarmLane code l detail).net = s.net ∧ (s.alarmLane code l detail).tim = s.tim ∧
    (s.alarmLane code l detail).gal = s.gal ∧ (s.alarmLane code l detail).buf = s.buf ∧
    (s.alarmLane code l detail).fuses = s.fuses ∧ (s.alarmLane code l detail).nvm = s.nvm ∧
    (s.alarmLane code l detail).upd = s.upd ∧ (s.alarmLane code l detail).prf = s.prf ∧
    (s.alarmLane code l detail).free = s.free ∧ (s.alarmLane code l detail).pending = s.pending := by
  simp [State.alarmLane]

@[simp] theorem State.alarmNode_frame (s : State) (code : Byte) (detail : List Byte) :
    (s.alarmNode code detail).ms = s.ms ∧ (s.alarmNode code detail).rrq = s.rrq ∧
    (s.alarmNode code detail).lanes = s.lanes ∧ (s.alarmNode code detail).fld = s.fld ∧
    (s.alarmNode code detail).vot = s.vot ∧ (s.alarmNode code detail).pair = s.pair ∧
    (s.alarmNode code detail).aon = s.aon ∧ (s.alarmNode code detail).pwr = s.pwr ∧
    (s.alarmNode code detail).sh = s.sh ∧ (s.alarmNode code detail).crc = s.crc ∧
    (s.alarmNode code detail).net = s.net ∧ (s.alarmNode code detail).tim = s.tim ∧
    (s.alarmNode code detail).gal = s.gal ∧ (s.alarmNode code detail).buf = s.buf ∧
    (s.alarmNode code detail).fuses = s.fuses ∧ (s.alarmNode code detail).nvm = s.nvm ∧
    (s.alarmNode code detail).upd = s.upd ∧ (s.alarmNode code detail).prf = s.prf ∧
    (s.alarmNode code detail).free = s.free ∧ (s.alarmNode code detail).pending = s.pending := by
  simp [State.alarmNode]

@[simp] theorem State.alarmChan_frame (s : State) (code : Byte) (k : Chan) (detail : List Byte) :
    (s.alarmChan code k detail).ms = s.ms ∧ (s.alarmChan code k detail).rrq = s.rrq ∧
    (s.alarmChan code k detail).lanes = s.lanes ∧ (s.alarmChan code k detail).fld = s.fld ∧
    (s.alarmChan code k detail).vot = s.vot ∧ (s.alarmChan code k detail).pair = s.pair ∧
    (s.alarmChan code k detail).aon = s.aon ∧ (s.alarmChan code k detail).pwr = s.pwr ∧
    (s.alarmChan code k detail).sh = s.sh ∧ (s.alarmChan code k detail).crc = s.crc ∧
    (s.alarmChan code k detail).net = s.net ∧ (s.alarmChan code k detail).tim = s.tim ∧
    (s.alarmChan code k detail).gal = s.gal ∧ (s.alarmChan code k detail).buf = s.buf ∧
    (s.alarmChan code k detail).fuses = s.fuses ∧ (s.alarmChan code k detail).nvm = s.nvm ∧
    (s.alarmChan code k detail).upd = s.upd ∧ (s.alarmChan code k detail).prf = s.prf ∧
    (s.alarmChan code k detail).free = s.free ∧ (s.alarmChan code k detail).pending = s.pending := by
  simp [State.alarmChan]

@[simp] theorem State.appendLatch_frame (s : State) : s.appendLatch.ms = s.ms ∧ s.appendLatch.rrq = s.rrq ∧
    s.appendLatch.lanes = s.lanes ∧ s.appendLatch.fld = s.fld ∧ s.appendLatch.vot = s.vot ∧
    s.appendLatch.pair = s.pair ∧ s.appendLatch.pwr = s.pwr ∧ s.appendLatch.sh = s.sh ∧ s.appendLatch.crc = s.crc ∧
    s.appendLatch.mail = s.mail ∧ s.appendLatch.net = s.net ∧ s.appendLatch.tim = s.tim ∧ s.appendLatch.gal = s.gal
    ∧ s.appendLatch.buf = s.buf ∧ s.appendLatch.log = s.log ∧ s.appendLatch.fuses = s.fuses ∧
    s.appendLatch.upd = s.upd ∧ s.appendLatch.prf = s.prf ∧ s.appendLatch.host = s.host ∧
    s.appendLatch.free = s.free ∧ s.appendLatch.pending = s.pending := by
  simp [State.appendLatch]

@[simp] theorem State.appendRet_frame (s : State) : s.appendRet.ms = s.ms ∧ s.appendRet.rrq = s.rrq ∧
    s.appendRet.lanes = s.lanes ∧ s.appendRet.fld = s.fld ∧ s.appendRet.vot = s.vot ∧ s.appendRet.pair = s.pair ∧
    s.appendRet.aon = s.aon ∧ s.appendRet.pwr = s.pwr ∧ s.appendRet.sh = s.sh ∧ s.appendRet.crc = s.crc ∧
    s.appendRet.mail = s.mail ∧ s.appendRet.net = s.net ∧ s.appendRet.tim = s.tim ∧ s.appendRet.gal = s.gal ∧
    s.appendRet.buf = s.buf ∧ s.appendRet.log = s.log ∧ s.appendRet.fuses = s.fuses ∧ s.appendRet.upd = s.upd ∧
    s.appendRet.prf = s.prf ∧ s.appendRet.host = s.host ∧ s.appendRet.free = s.free ∧
    s.appendRet.pending = s.pending := by
  simp [State.appendRet]

@[simp] theorem State.appendRetService_frame (s : State) : s.appendRetService.ms = s.ms ∧
    s.appendRetService.rrq = s.rrq ∧ s.appendRetService.lanes = s.lanes ∧ s.appendRetService.fld = s.fld ∧
    s.appendRetService.vot = s.vot ∧ s.appendRetService.pair = s.pair ∧ s.appendRetService.pwr = s.pwr ∧
    s.appendRetService.sh = s.sh ∧ s.appendRetService.crc = s.crc ∧ s.appendRetService.mail = s.mail ∧
    s.appendRetService.net = s.net ∧ s.appendRetService.tim = s.tim ∧ s.appendRetService.gal = s.gal ∧
    s.appendRetService.buf = s.buf ∧ s.appendRetService.log = s.log ∧ s.appendRetService.fuses = s.fuses ∧
    s.appendRetService.upd = s.upd ∧ s.appendRetService.prf = s.prf ∧ s.appendRetService.host = s.host ∧
    s.appendRetService.free = s.free ∧ s.appendRetService.pending = s.pending := by
  simp [State.appendRetService]

@[simp] theorem State.flushAppends_frame (s : State) : s.flushAppends.ms = s.ms ∧ s.flushAppends.rrq = s.rrq ∧
    s.flushAppends.lanes = s.lanes ∧ s.flushAppends.fld = s.fld ∧ s.flushAppends.vot = s.vot ∧
    s.flushAppends.pair = s.pair ∧ s.flushAppends.pwr = s.pwr ∧ s.flushAppends.sh = s.sh ∧
    s.flushAppends.crc = s.crc ∧ s.flushAppends.net = s.net ∧ s.flushAppends.tim = s.tim ∧
    s.flushAppends.gal = s.gal ∧ s.flushAppends.buf = s.buf ∧ s.flushAppends.fuses = s.fuses ∧
    s.flushAppends.upd = s.upd ∧ s.flushAppends.prf = s.prf ∧ s.flushAppends.free = s.free ∧
    s.flushAppends.pending = s.pending := by
  simp [State.flushAppends]

@[simp] theorem State.putBankRec_frame (s : State) (f : BankRec → BankRec) : (s.putBankRec f).ms = s.ms ∧
    (s.putBankRec f).rrq = s.rrq ∧ (s.putBankRec f).lanes = s.lanes ∧ (s.putBankRec f).fld = s.fld ∧
    (s.putBankRec f).vot = s.vot ∧ (s.putBankRec f).pair = s.pair ∧ (s.putBankRec f).aon = s.aon ∧
    (s.putBankRec f).pwr = s.pwr ∧ (s.putBankRec f).sh = s.sh ∧ (s.putBankRec f).crc = s.crc ∧
    (s.putBankRec f).mail = s.mail ∧ (s.putBankRec f).net = s.net ∧ (s.putBankRec f).tim = s.tim ∧
    (s.putBankRec f).gal = s.gal ∧ (s.putBankRec f).buf = s.buf ∧ (s.putBankRec f).log = s.log ∧
    (s.putBankRec f).fuses = s.fuses ∧ (s.putBankRec f).upd = s.upd ∧ (s.putBankRec f).prf = s.prf ∧
    (s.putBankRec f).host = s.host ∧ (s.putBankRec f).free = s.free ∧ (s.putBankRec f).pending = s.pending := by
  simp [State.putBankRec]

@[simp] theorem State.setBank_frame (s : State) (b : Bool) (i : Option Image) : (s.setBank b i).ms = s.ms ∧
    (s.setBank b i).rrq = s.rrq ∧ (s.setBank b i).lanes = s.lanes ∧ (s.setBank b i).fld = s.fld ∧
    (s.setBank b i).vot = s.vot ∧ (s.setBank b i).pair = s.pair ∧ (s.setBank b i).aon = s.aon ∧
    (s.setBank b i).pwr = s.pwr ∧ (s.setBank b i).sh = s.sh ∧ (s.setBank b i).crc = s.crc ∧
    (s.setBank b i).mail = s.mail ∧ (s.setBank b i).net = s.net ∧ (s.setBank b i).tim = s.tim ∧
    (s.setBank b i).gal = s.gal ∧ (s.setBank b i).buf = s.buf ∧ (s.setBank b i).log = s.log ∧
    (s.setBank b i).fuses = s.fuses ∧ (s.setBank b i).upd = s.upd ∧ (s.setBank b i).prf = s.prf ∧
    (s.setBank b i).host = s.host ∧ (s.setBank b i).free = s.free ∧ (s.setBank b i).pending = s.pending := by
  simp [State.setBank]

@[simp] theorem State.endTrial_frame (s : State) (cause : BitVec 4) : (s.endTrial cause).ms = s.ms ∧
    (s.endTrial cause).rrq = s.rrq ∧ (s.endTrial cause).lanes = s.lanes ∧ (s.endTrial cause).fld = s.fld ∧
    (s.endTrial cause).vot = s.vot ∧ (s.endTrial cause).pair = s.pair ∧ (s.endTrial cause).aon = s.aon ∧
    (s.endTrial cause).pwr = s.pwr ∧ (s.endTrial cause).sh = s.sh ∧ (s.endTrial cause).crc = s.crc ∧
    (s.endTrial cause).net = s.net ∧ (s.endTrial cause).tim = s.tim ∧ (s.endTrial cause).gal = s.gal ∧
    (s.endTrial cause).buf = s.buf ∧ (s.endTrial cause).fuses = s.fuses ∧ (s.endTrial cause).prf = s.prf ∧
    (s.endTrial cause).free = s.free ∧ (s.endTrial cause).pending = s.pending := by
  simp [State.endTrial]

@[simp] theorem State.trialFailed_frame (s : State) : s.trialFailed.ms = s.ms ∧ s.trialFailed.rrq = s.rrq ∧
    s.trialFailed.lanes = s.lanes ∧ s.trialFailed.fld = s.fld ∧ s.trialFailed.vot = s.vot ∧
    s.trialFailed.pair = s.pair ∧ s.trialFailed.aon = s.aon ∧ s.trialFailed.pwr = s.pwr ∧ s.trialFailed.sh = s.sh ∧
    s.trialFailed.crc = s.crc ∧ s.trialFailed.net = s.net ∧ s.trialFailed.tim = s.tim ∧ s.trialFailed.gal = s.gal ∧
    s.trialFailed.buf = s.buf ∧ s.trialFailed.fuses = s.fuses ∧ s.trialFailed.prf = s.prf ∧
    s.trialFailed.free = s.free ∧ s.trialFailed.pending = s.pending := by
  simp [State.trialFailed]

@[simp] theorem State.takeTrial_frame (s : State) (l : Lane) : (s.takeTrial l).ms = s.ms ∧
    (s.takeTrial l).rrq = s.rrq ∧ (s.takeTrial l).fld = s.fld ∧ (s.takeTrial l).vot = s.vot ∧
    (s.takeTrial l).pair = s.pair ∧ (s.takeTrial l).aon = s.aon ∧ (s.takeTrial l).pwr = s.pwr ∧
    (s.takeTrial l).sh = s.sh ∧ (s.takeTrial l).crc = s.crc ∧ (s.takeTrial l).mail = s.mail ∧
    (s.takeTrial l).net = s.net ∧ (s.takeTrial l).tim = s.tim ∧ (s.takeTrial l).gal = s.gal ∧
    (s.takeTrial l).buf = s.buf ∧ (s.takeTrial l).log = s.log ∧ (s.takeTrial l).fuses = s.fuses ∧
    (s.takeTrial l).nvm = s.nvm ∧ (s.takeTrial l).prf = s.prf ∧ (s.takeTrial l).host = s.host ∧
    (s.takeTrial l).free = s.free ∧ (s.takeTrial l).pending = s.pending := by
  simp [State.takeTrial]

@[simp] theorem State.restartOld_frame (s : State) (l : Lane) : (s.restartOld l).ms = s.ms ∧
    (s.restartOld l).rrq = s.rrq ∧ (s.restartOld l).fld = s.fld ∧ (s.restartOld l).vot = s.vot ∧
    (s.restartOld l).pair = s.pair ∧ (s.restartOld l).aon = s.aon ∧ (s.restartOld l).pwr = s.pwr ∧
    (s.restartOld l).sh = s.sh ∧ (s.restartOld l).crc = s.crc ∧ (s.restartOld l).mail = s.mail ∧
    (s.restartOld l).net = s.net ∧ (s.restartOld l).tim = s.tim ∧ (s.restartOld l).gal = s.gal ∧
    (s.restartOld l).buf = s.buf ∧ (s.restartOld l).log = s.log ∧ (s.restartOld l).fuses = s.fuses ∧
    (s.restartOld l).prf = s.prf ∧ (s.restartOld l).host = s.host ∧ (s.restartOld l).free = s.free ∧
    (s.restartOld l).pending = s.pending := by
  simp [State.restartOld]

@[simp] theorem State.latchFault_frame (s : State) (src code lane : Byte) (detail : List Word) :
    (s.latchFault src code lane detail).ms = s.ms ∧ (s.latchFault src code lane detail).rrq = s.rrq ∧
    (s.latchFault src code lane detail).lanes = s.lanes ∧ (s.latchFault src code lane detail).fld = s.fld ∧
    (s.latchFault src code lane detail).vot = s.vot ∧ (s.latchFault src code lane detail).pair = s.pair ∧
    (s.latchFault src code lane detail).pwr = s.pwr ∧ (s.latchFault src code lane detail).sh = s.sh ∧
    (s.latchFault src code lane detail).crc = s.crc ∧ (s.latchFault src code lane detail).mail = s.mail ∧
    (s.latchFault src code lane detail).net = s.net ∧ (s.latchFault src code lane detail).tim = s.tim ∧
    (s.latchFault src code lane detail).gal = s.gal ∧ (s.latchFault src code lane detail).buf = s.buf ∧
    (s.latchFault src code lane detail).log = s.log ∧ (s.latchFault src code lane detail).fuses = s.fuses ∧
    (s.latchFault src code lane detail).nvm = s.nvm ∧ (s.latchFault src code lane detail).upd = s.upd ∧
    (s.latchFault src code lane detail).prf = s.prf ∧ (s.latchFault src code lane detail).host = s.host ∧
    (s.latchFault src code lane detail).free = s.free ∧ (s.latchFault src code lane detail).pending = s.pending :=
    by
  simp [State.latchFault]

@[simp] theorem State.setMode_frame (s : State) (m : Mode) : (s.setMode m).rrq = s.rrq ∧
    (s.setMode m).lanes = s.lanes ∧ (s.setMode m).fld = s.fld ∧ (s.setMode m).vot = s.vot ∧
    (s.setMode m).pair = s.pair ∧ (s.setMode m).aon = s.aon ∧ (s.setMode m).pwr = s.pwr ∧ (s.setMode m).sh = s.sh ∧
    (s.setMode m).crc = s.crc ∧ (s.setMode m).net = s.net ∧ (s.setMode m).tim = s.tim ∧ (s.setMode m).gal = s.gal ∧
    (s.setMode m).buf = s.buf ∧ (s.setMode m).fuses = s.fuses ∧ (s.setMode m).nvm = s.nvm ∧
    (s.setMode m).upd = s.upd ∧ (s.setMode m).prf = s.prf ∧ (s.setMode m).free = s.free ∧
    (s.setMode m).pending = s.pending := by
  simp [State.setMode]

@[simp] theorem State.setLatch_frame (s : State) (cause : Byte) : (s.setLatch cause).rrq = s.rrq ∧
    (s.setLatch cause).lanes = s.lanes ∧ (s.setLatch cause).fld = s.fld ∧ (s.setLatch cause).vot = s.vot ∧
    (s.setLatch cause).pair = s.pair ∧ (s.setLatch cause).pwr = s.pwr ∧ (s.setLatch cause).sh = s.sh ∧
    (s.setLatch cause).crc = s.crc ∧ (s.setLatch cause).net = s.net ∧ (s.setLatch cause).tim = s.tim ∧
    (s.setLatch cause).gal = s.gal ∧ (s.setLatch cause).buf = s.buf ∧ (s.setLatch cause).fuses = s.fuses ∧
    (s.setLatch cause).prf = s.prf ∧ (s.setLatch cause).free = s.free ∧ (s.setLatch cause).pending = s.pending := by
  simp [State.setLatch]

@[simp] theorem State.moduleFault_frame (s : State) (cause : Byte) (asking : BitVec 3) :
    (s.moduleFault cause asking).rrq = s.rrq ∧ (s.moduleFault cause asking).lanes = s.lanes ∧
    (s.moduleFault cause asking).fld = s.fld ∧ (s.moduleFault cause asking).vot = s.vot ∧
    (s.moduleFault cause asking).pair = s.pair ∧ (s.moduleFault cause asking).pwr = s.pwr ∧
    (s.moduleFault cause asking).sh = s.sh ∧ (s.moduleFault cause asking).crc = s.crc ∧
    (s.moduleFault cause asking).net = s.net ∧ (s.moduleFault cause asking).tim = s.tim ∧
    (s.moduleFault cause asking).gal = s.gal ∧ (s.moduleFault cause asking).buf = s.buf ∧
    (s.moduleFault cause asking).fuses = s.fuses ∧ (s.moduleFault cause asking).prf = s.prf ∧
    (s.moduleFault cause asking).free = s.free ∧ (s.moduleFault cause asking).pending = s.pending := by
  simp [State.moduleFault]

@[simp] theorem State.modeByVote_frame (s : State) (cause : Byte) : (s.modeByVote cause).rrq = s.rrq ∧
    (s.modeByVote cause).lanes = s.lanes ∧ (s.modeByVote cause).fld = s.fld ∧ (s.modeByVote cause).vot = s.vot ∧
    (s.modeByVote cause).pair = s.pair ∧ (s.modeByVote cause).pwr = s.pwr ∧ (s.modeByVote cause).sh = s.sh ∧
    (s.modeByVote cause).crc = s.crc ∧ (s.modeByVote cause).net = s.net ∧ (s.modeByVote cause).tim = s.tim ∧
    (s.modeByVote cause).gal = s.gal ∧ (s.modeByVote cause).buf = s.buf ∧ (s.modeByVote cause).fuses = s.fuses ∧
    (s.modeByVote cause).prf = s.prf ∧ (s.modeByVote cause).free = s.free ∧ (s.modeByVote cause).pending = s.pending
    := by
  simp [State.modeByVote]

@[simp] theorem State.answer_frame (s : State) (ws : List Word) : (s.answer ws).ms = s.ms ∧
    (s.answer ws).rrq = s.rrq ∧ (s.answer ws).lanes = s.lanes ∧ (s.answer ws).fld = s.fld ∧
    (s.answer ws).vot = s.vot ∧ (s.answer ws).pair = s.pair ∧ (s.answer ws).aon = s.aon ∧ (s.answer ws).pwr = s.pwr
    ∧ (s.answer ws).sh = s.sh ∧ (s.answer ws).crc = s.crc ∧ (s.answer ws).mail = s.mail ∧ (s.answer ws).net = s.net
    ∧ (s.answer ws).tim = s.tim ∧ (s.answer ws).gal = s.gal ∧ (s.answer ws).buf = s.buf ∧ (s.answer ws).log = s.log
    ∧ (s.answer ws).fuses = s.fuses ∧ (s.answer ws).nvm = s.nvm ∧ (s.answer ws).upd = s.upd ∧
    (s.answer ws).prf = s.prf ∧ (s.answer ws).free = s.free ∧ (s.answer ws).pending = s.pending := by
  simp [State.answer]

@[simp] theorem State.orphanLocks_frame (s : State) (m : BitVec 4) : (s.orphanLocks m).ms = s.ms ∧
    (s.orphanLocks m).rrq = s.rrq ∧ (s.orphanLocks m).lanes = s.lanes ∧ (s.orphanLocks m).fld = s.fld ∧
    (s.orphanLocks m).vot = s.vot ∧ (s.orphanLocks m).pair = s.pair ∧ (s.orphanLocks m).aon = s.aon ∧
    (s.orphanLocks m).pwr = s.pwr ∧ (s.orphanLocks m).crc = s.crc ∧ (s.orphanLocks m).mail = s.mail ∧
    (s.orphanLocks m).net = s.net ∧ (s.orphanLocks m).tim = s.tim ∧ (s.orphanLocks m).gal = s.gal ∧
    (s.orphanLocks m).buf = s.buf ∧ (s.orphanLocks m).log = s.log ∧ (s.orphanLocks m).fuses = s.fuses ∧
    (s.orphanLocks m).nvm = s.nvm ∧ (s.orphanLocks m).upd = s.upd ∧ (s.orphanLocks m).prf = s.prf ∧
    (s.orphanLocks m).host = s.host ∧ (s.orphanLocks m).free = s.free ∧ (s.orphanLocks m).pending = s.pending := by
  simp [State.orphanLocks]

@[simp] theorem State.resetIfaces_frame (s : State) (l : Lane) : (s.resetIfaces l).ms = s.ms ∧
    (s.resetIfaces l).rrq = s.rrq ∧ (s.resetIfaces l).lanes = s.lanes ∧ (s.resetIfaces l).vot = s.vot ∧
    (s.resetIfaces l).pair = s.pair ∧ (s.resetIfaces l).aon = s.aon ∧ (s.resetIfaces l).pwr = s.pwr ∧
    (s.resetIfaces l).sh = s.sh ∧ (s.resetIfaces l).crc = s.crc ∧ (s.resetIfaces l).mail = s.mail ∧
    (s.resetIfaces l).net = s.net ∧ (s.resetIfaces l).tim = s.tim ∧ (s.resetIfaces l).gal = s.gal ∧
    (s.resetIfaces l).buf = s.buf ∧ (s.resetIfaces l).log = s.log ∧ (s.resetIfaces l).fuses = s.fuses ∧
    (s.resetIfaces l).nvm = s.nvm ∧ (s.resetIfaces l).upd = s.upd ∧ (s.resetIfaces l).prf = s.prf ∧
    (s.resetIfaces l).host = s.host ∧ (s.resetIfaces l).free = s.free ∧ (s.resetIfaces l).pending = s.pending := by
  simp [State.resetIfaces]

@[simp] theorem State.disableLane_frame (s : State) (l : Lane) : (s.disableLane l).ms = s.ms ∧
    (s.disableLane l).rrq = s.rrq ∧ (s.disableLane l).vot = s.vot ∧ (s.disableLane l).pair = s.pair ∧
    (s.disableLane l).aon = s.aon ∧ (s.disableLane l).sh = s.sh ∧ (s.disableLane l).crc = s.crc ∧
    (s.disableLane l).mail = s.mail ∧ (s.disableLane l).net = s.net ∧ (s.disableLane l).tim = s.tim ∧
    (s.disableLane l).gal = s.gal ∧ (s.disableLane l).buf = s.buf ∧ (s.disableLane l).log = s.log ∧
    (s.disableLane l).fuses = s.fuses ∧ (s.disableLane l).prf = s.prf ∧ (s.disableLane l).host = s.host ∧
    (s.disableLane l).free = s.free ∧ (s.disableLane l).pending = s.pending := by
  simp [State.disableLane]

@[simp] theorem State.exitLane_frame (s : State) (l : Lane) (cause : BitVec 4) : (s.exitLane l cause).ms = s.ms ∧
    (s.exitLane l cause).rrq = s.rrq ∧ (s.exitLane l cause).vot = s.vot ∧ (s.exitLane l cause).pair = s.pair ∧
    (s.exitLane l cause).aon = s.aon ∧ (s.exitLane l cause).sh = s.sh ∧ (s.exitLane l cause).crc = s.crc ∧
    (s.exitLane l cause).net = s.net ∧ (s.exitLane l cause).tim = s.tim ∧ (s.exitLane l cause).gal = s.gal ∧
    (s.exitLane l cause).buf = s.buf ∧ (s.exitLane l cause).fuses = s.fuses ∧ (s.exitLane l cause).prf = s.prf ∧
    (s.exitLane l cause).free = s.free ∧ (s.exitLane l cause).pending = s.pending := by
  simp [State.exitLane]

@[simp] theorem State.unseal_frame (s : State) (l : Lane) : (s.unseal l).ms = s.ms ∧ (s.unseal l).rrq = s.rrq ∧
    (s.unseal l).lanes = s.lanes ∧ (s.unseal l).fld = s.fld ∧ (s.unseal l).vot = s.vot ∧ (s.unseal l).pair = s.pair
    ∧ (s.unseal l).aon = s.aon ∧ (s.unseal l).pwr = s.pwr ∧ (s.unseal l).sh = s.sh ∧ (s.unseal l).crc = s.crc ∧
    (s.unseal l).mail = s.mail ∧ (s.unseal l).net = s.net ∧ (s.unseal l).tim = s.tim ∧ (s.unseal l).gal = s.gal ∧
    (s.unseal l).log = s.log ∧ (s.unseal l).fuses = s.fuses ∧ (s.unseal l).nvm = s.nvm ∧ (s.unseal l).upd = s.upd ∧
    (s.unseal l).prf = s.prf ∧ (s.unseal l).host = s.host ∧ (s.unseal l).free = s.free ∧
    (s.unseal l).pending = s.pending := by
  simp [State.unseal]

@[simp] theorem State.failLane_frame (s : State) (l : Lane) (cause : BitVec 4) : (s.failLane l cause).rrq = s.rrq ∧
    (s.failLane l cause).vot = s.vot ∧ (s.failLane l cause).pair = s.pair ∧ (s.failLane l cause).sh = s.sh ∧
    (s.failLane l cause).crc = s.crc ∧ (s.failLane l cause).net = s.net ∧ (s.failLane l cause).tim = s.tim ∧
    (s.failLane l cause).gal = s.gal ∧ (s.failLane l cause).fuses = s.fuses ∧ (s.failLane l cause).prf = s.prf ∧
    (s.failLane l cause).free = s.free ∧ (s.failLane l cause).pending = s.pending := by
  simp [State.failLane]

@[simp] theorem State.resetLaneCrc_frame (s : State) (l : Lane) : (s.resetLaneCrc l).ms = s.ms ∧
    (s.resetLaneCrc l).rrq = s.rrq ∧ (s.resetLaneCrc l).lanes = s.lanes ∧ (s.resetLaneCrc l).fld = s.fld ∧
    (s.resetLaneCrc l).vot = s.vot ∧ (s.resetLaneCrc l).pair = s.pair ∧ (s.resetLaneCrc l).aon = s.aon ∧
    (s.resetLaneCrc l).pwr = s.pwr ∧ (s.resetLaneCrc l).sh = s.sh ∧ (s.resetLaneCrc l).mail = s.mail ∧
    (s.resetLaneCrc l).net = s.net ∧ (s.resetLaneCrc l).tim = s.tim ∧ (s.resetLaneCrc l).gal = s.gal ∧
    (s.resetLaneCrc l).buf = s.buf ∧ (s.resetLaneCrc l).log = s.log ∧ (s.resetLaneCrc l).fuses = s.fuses ∧
    (s.resetLaneCrc l).nvm = s.nvm ∧ (s.resetLaneCrc l).upd = s.upd ∧ (s.resetLaneCrc l).prf = s.prf ∧
    (s.resetLaneCrc l).host = s.host ∧ (s.resetLaneCrc l).free = s.free ∧ (s.resetLaneCrc l).pending = s.pending :=
    by
  simp [State.resetLaneCrc]

@[simp] theorem State.laneReset_frame (s : State) (l : Lane) : (s.laneReset l).ms = s.ms ∧
    (s.laneReset l).rrq = s.rrq ∧ (s.laneReset l).vot = s.vot ∧ (s.laneReset l).pair = s.pair ∧
    (s.laneReset l).pwr = s.pwr ∧ (s.laneReset l).net = s.net ∧ (s.laneReset l).tim = s.tim ∧
    (s.laneReset l).gal = s.gal ∧ (s.laneReset l).buf = s.buf ∧ (s.laneReset l).log = s.log ∧
    (s.laneReset l).fuses = s.fuses ∧ (s.laneReset l).free = s.free ∧ (s.laneReset l).pending = s.pending := by
  simp [State.laneReset]

@[simp] theorem State.proofFailed_frame (s : State) (l : Lane) (test : Nat) : (s.proofFailed l test).ms = s.ms ∧
    (s.proofFailed l test).rrq = s.rrq ∧ (s.proofFailed l test).vot = s.vot ∧ (s.proofFailed l test).pair = s.pair ∧
    (s.proofFailed l test).net = s.net ∧ (s.proofFailed l test).tim = s.tim ∧ (s.proofFailed l test).gal = s.gal ∧
    (s.proofFailed l test).buf = s.buf ∧ (s.proofFailed l test).fuses = s.fuses ∧
    (s.proofFailed l test).free = s.free ∧ (s.proofFailed l test).pending = s.pending := by
  simp [State.proofFailed]

end Sys2Proof.Machine
end

