-- ==== Sys2Proof/Laws/FrameMbx.lean ====
section
/-!
SUPPORT. The frame of each operation of Machine/Mbx.lean: the parts of State that it leaves as they were.
-/

namespace Sys2Proof.Machine

@[simp] theorem State.queuePut_frame (s : State) (secure : Bool) (ch : Fin 8) (copies : PerLane (Option (List
    Byte))) : (s.queuePut secure ch copies).ms = s.ms ∧ (s.queuePut secure ch copies).rrq = s.rrq ∧
    (s.queuePut secure ch copies).lanes = s.lanes ∧ (s.queuePut secure ch copies).fld = s.fld ∧
    (s.queuePut secure ch copies).vot = s.vot ∧ (s.queuePut secure ch copies).pair = s.pair ∧
    (s.queuePut secure ch copies).aon = s.aon ∧ (s.queuePut secure ch copies).pwr = s.pwr ∧
    (s.queuePut secure ch copies).sh = s.sh ∧ (s.queuePut secure ch copies).crc = s.crc ∧
    (s.queuePut secure ch copies).net = s.net ∧ (s.queuePut secure ch copies).tim = s.tim ∧
    (s.queuePut secure ch copies).gal = s.gal ∧ (s.queuePut secure ch copies).buf = s.buf ∧
    (s.queuePut secure ch copies).log = s.log ∧ (s.queuePut secure ch copies).fuses = s.fuses ∧
    (s.queuePut secure ch copies).nvm = s.nvm ∧ (s.queuePut secure ch copies).upd = s.upd ∧
    (s.queuePut secure ch copies).prf = s.prf ∧ (s.queuePut secure ch copies).free = s.free ∧
    (s.queuePut secure ch copies).pending = s.pending := by
  simp [State.queuePut]

@[simp] theorem State.enqueue_frame (s : State) (secure : Bool) (ch : Fin 8) (copies : PerLane (Option (List Byte)))
    : (s.enqueue secure ch copies).ms = s.ms ∧ (s.enqueue secure ch copies).rrq = s.rrq ∧
    (s.enqueue secure ch copies).lanes = s.lanes ∧ (s.enqueue secure ch copies).fld = s.fld ∧
    (s.enqueue secure ch copies).vot = s.vot ∧ (s.enqueue secure ch copies).pair = s.pair ∧
    (s.enqueue secure ch copies).aon = s.aon ∧ (s.enqueue secure ch copies).pwr = s.pwr ∧
    (s.enqueue secure ch copies).sh = s.sh ∧ (s.enqueue secure ch copies).crc = s.crc ∧
    (s.enqueue secure ch copies).net = s.net ∧ (s.enqueue secure ch copies).tim = s.tim ∧
    (s.enqueue secure ch copies).gal = s.gal ∧ (s.enqueue secure ch copies).buf = s.buf ∧
    (s.enqueue secure ch copies).log = s.log ∧ (s.enqueue secure ch copies).fuses = s.fuses ∧
    (s.enqueue secure ch copies).nvm = s.nvm ∧ (s.enqueue secure ch copies).upd = s.upd ∧
    (s.enqueue secure ch copies).prf = s.prf ∧ (s.enqueue secure ch copies).free = s.free ∧
    (s.enqueue secure ch copies).pending = s.pending := by
  simp [State.enqueue]

@[simp] theorem State.postWaiting_frame (s : State) : s.postWaiting.ms = s.ms ∧ s.postWaiting.rrq = s.rrq ∧
    s.postWaiting.lanes = s.lanes ∧ s.postWaiting.fld = s.fld ∧ s.postWaiting.vot = s.vot ∧
    s.postWaiting.pair = s.pair ∧ s.postWaiting.aon = s.aon ∧ s.postWaiting.pwr = s.pwr ∧ s.postWaiting.sh = s.sh ∧
    s.postWaiting.crc = s.crc ∧ s.postWaiting.net = s.net ∧ s.postWaiting.tim = s.tim ∧ s.postWaiting.gal = s.gal ∧
    s.postWaiting.buf = s.buf ∧ s.postWaiting.log = s.log ∧ s.postWaiting.fuses = s.fuses ∧
    s.postWaiting.nvm = s.nvm ∧ s.postWaiting.upd = s.upd ∧ s.postWaiting.prf = s.prf ∧ s.postWaiting.free = s.free
    ∧ s.postWaiting.pending = s.pending := by
  simp [State.postWaiting]

@[simp] theorem State.syncSeq_frame (s : State) : s.syncSeq.ms = s.ms ∧ s.syncSeq.rrq = s.rrq ∧
    s.syncSeq.lanes = s.lanes ∧ s.syncSeq.fld = s.fld ∧ s.syncSeq.vot = s.vot ∧ s.syncSeq.pair = s.pair ∧
    s.syncSeq.aon = s.aon ∧ s.syncSeq.pwr = s.pwr ∧ s.syncSeq.sh = s.sh ∧ s.syncSeq.crc = s.crc ∧
    s.syncSeq.net = s.net ∧ s.syncSeq.tim = s.tim ∧ s.syncSeq.gal = s.gal ∧ s.syncSeq.buf = s.buf ∧
    s.syncSeq.log = s.log ∧ s.syncSeq.fuses = s.fuses ∧ s.syncSeq.nvm = s.nvm ∧ s.syncSeq.upd = s.upd ∧
    s.syncSeq.prf = s.prf ∧ s.syncSeq.host = s.host ∧ s.syncSeq.free = s.free ∧ s.syncSeq.pending = s.pending := by
  simp (disch := (intros; (repeat' split) <;> simp)) [State.syncSeq]

@[simp] theorem State.setSessBit_frame (s : State) (ch : Fin 8) (on : Bool) : (s.setSessBit ch on).ms = s.ms ∧
    (s.setSessBit ch on).rrq = s.rrq ∧ (s.setSessBit ch on).lanes = s.lanes ∧ (s.setSessBit ch on).fld = s.fld ∧
    (s.setSessBit ch on).vot = s.vot ∧ (s.setSessBit ch on).pair = s.pair ∧ (s.setSessBit ch on).pwr = s.pwr ∧
    (s.setSessBit ch on).sh = s.sh ∧ (s.setSessBit ch on).crc = s.crc ∧ (s.setSessBit ch on).mail = s.mail ∧
    (s.setSessBit ch on).net = s.net ∧ (s.setSessBit ch on).tim = s.tim ∧ (s.setSessBit ch on).gal = s.gal ∧
    (s.setSessBit ch on).buf = s.buf ∧ (s.setSessBit ch on).log = s.log ∧ (s.setSessBit ch on).fuses = s.fuses ∧
    (s.setSessBit ch on).nvm = s.nvm ∧ (s.setSessBit ch on).upd = s.upd ∧ (s.setSessBit ch on).prf = s.prf ∧
    (s.setSessBit ch on).host = s.host ∧ (s.setSessBit ch on).free = s.free ∧
    (s.setSessBit ch on).pending = s.pending := by
  simp [State.setSessBit]

@[simp] theorem State.collect_frame (s : State) (act : BitVec 3) (desks : PerLane Desk) :
    (s.collect act desks).ms = s.ms ∧ (s.collect act desks).rrq = s.rrq ∧ (s.collect act desks).lanes = s.lanes ∧
    (s.collect act desks).fld = s.fld ∧ (s.collect act desks).vot = s.vot ∧ (s.collect act desks).pair = s.pair ∧
    (s.collect act desks).pwr = s.pwr ∧ (s.collect act desks).sh = s.sh ∧ (s.collect act desks).crc = s.crc ∧
    (s.collect act desks).net = s.net ∧ (s.collect act desks).tim = s.tim ∧ (s.collect act desks).gal = s.gal ∧
    (s.collect act desks).buf = s.buf ∧ (s.collect act desks).log = s.log ∧ (s.collect act desks).fuses = s.fuses ∧
    (s.collect act desks).nvm = s.nvm ∧ (s.collect act desks).upd = s.upd ∧ (s.collect act desks).prf = s.prf ∧
    (s.collect act desks).free = s.free ∧ (s.collect act desks).pending = s.pending := by
  unfold State.collect
  (repeat' split) <;> simp

@[simp] theorem State.desk_frame (s : State) (f : Desk → Desk) : (s.desk f).ms = s.ms ∧ (s.desk f).rrq = s.rrq ∧
    (s.desk f).fld = s.fld ∧ (s.desk f).vot = s.vot ∧ (s.desk f).pair = s.pair ∧ (s.desk f).pwr = s.pwr ∧
    (s.desk f).sh = s.sh ∧ (s.desk f).crc = s.crc ∧ (s.desk f).net = s.net ∧ (s.desk f).tim = s.tim ∧
    (s.desk f).gal = s.gal ∧ (s.desk f).buf = s.buf ∧ (s.desk f).log = s.log ∧ (s.desk f).fuses = s.fuses ∧
    (s.desk f).nvm = s.nvm ∧ (s.desk f).upd = s.upd ∧ (s.desk f).prf = s.prf ∧ (s.desk f).free = s.free ∧
    (s.desk f).pending = s.pending := by
  simp [State.desk]

@[simp] theorem State.posts_frame (s : State) (ps : List Post) : (s.posts ps).ms = s.ms ∧ (s.posts ps).rrq = s.rrq ∧
    (s.posts ps).fld = s.fld ∧ (s.posts ps).vot = s.vot ∧ (s.posts ps).pair = s.pair ∧ (s.posts ps).pwr = s.pwr ∧
    (s.posts ps).sh = s.sh ∧ (s.posts ps).crc = s.crc ∧ (s.posts ps).net = s.net ∧ (s.posts ps).tim = s.tim ∧
    (s.posts ps).gal = s.gal ∧ (s.posts ps).buf = s.buf ∧ (s.posts ps).log = s.log ∧ (s.posts ps).fuses = s.fuses ∧
    (s.posts ps).nvm = s.nvm ∧ (s.posts ps).upd = s.upd ∧ (s.posts ps).prf = s.prf ∧ (s.posts ps).free = s.free ∧
    (s.posts ps).pending = s.pending := by
  simp [State.posts]

@[simp] theorem State.moverWrite_frame (s : State) (secure : Bool) (ch : Fin 8) : (s.moverWrite secure ch).ms = s.ms
    ∧ (s.moverWrite secure ch).rrq = s.rrq ∧ (s.moverWrite secure ch).lanes = s.lanes ∧
    (s.moverWrite secure ch).fld = s.fld ∧ (s.moverWrite secure ch).vot = s.vot ∧
    (s.moverWrite secure ch).pair = s.pair ∧ (s.moverWrite secure ch).aon = s.aon ∧
    (s.moverWrite secure ch).pwr = s.pwr ∧ (s.moverWrite secure ch).crc = s.crc ∧
    (s.moverWrite secure ch).net = s.net ∧ (s.moverWrite secure ch).tim = s.tim ∧
    (s.moverWrite secure ch).gal = s.gal ∧ (s.moverWrite secure ch).buf = s.buf ∧
    (s.moverWrite secure ch).log = s.log ∧ (s.moverWrite secure ch).fuses = s.fuses ∧
    (s.moverWrite secure ch).nvm = s.nvm ∧ (s.moverWrite secure ch).upd = s.upd ∧
    (s.moverWrite secure ch).prf = s.prf ∧ (s.moverWrite secure ch).free = s.free ∧
    (s.moverWrite secure ch).pending = s.pending := by
  unfold State.moverWrite
  dsimp only
  (repeat' split) <;> simp (disch := (intros; (repeat' split) <;> simp))

@[simp] theorem State.countMsg_frame (s : State) (m : ReadMsg) (found : MsgCheck) : (s.countMsg m found).ms = s.ms ∧
    (s.countMsg m found).rrq = s.rrq ∧ (s.countMsg m found).fld = s.fld ∧ (s.countMsg m found).vot = s.vot ∧
    (s.countMsg m found).pair = s.pair ∧ (s.countMsg m found).pwr = s.pwr ∧ (s.countMsg m found).sh = s.sh ∧
    (s.countMsg m found).crc = s.crc ∧ (s.countMsg m found).net = s.net ∧ (s.countMsg m found).tim = s.tim ∧
    (s.countMsg m found).gal = s.gal ∧ (s.countMsg m found).buf = s.buf ∧ (s.countMsg m found).fuses = s.fuses ∧
    (s.countMsg m found).nvm = s.nvm ∧ (s.countMsg m found).upd = s.upd ∧ (s.countMsg m found).prf = s.prf ∧
    (s.countMsg m found).free = s.free ∧ (s.countMsg m found).pending = s.pending := by
  unfold State.countMsg
  dsimp only
  (repeat' split) <;> simp (disch := (intros; (repeat' split) <;> simp))

@[simp] theorem State.snapshot_frame (s : State) : s.snapshot.rrq = s.rrq ∧ s.snapshot.fld = s.fld ∧
    s.snapshot.vot = s.vot ∧ s.snapshot.pair = s.pair ∧ s.snapshot.aon = s.aon ∧ s.snapshot.pwr = s.pwr ∧
    s.snapshot.sh = s.sh ∧ s.snapshot.crc = s.crc ∧ s.snapshot.net = s.net ∧ s.snapshot.tim = s.tim ∧
    s.snapshot.gal = s.gal ∧ s.snapshot.buf = s.buf ∧ s.snapshot.log = s.log ∧ s.snapshot.fuses = s.fuses ∧
    s.snapshot.nvm = s.nvm ∧ s.snapshot.upd = s.upd ∧ s.snapshot.prf = s.prf ∧ s.snapshot.free = s.free ∧
    s.snapshot.pending = s.pending := by
  simp [State.snapshot]

@[simp] theorem State.afterHostr_frame (s : State) : s.afterHostr.ms = s.ms ∧ s.afterHostr.rrq = s.rrq ∧
    s.afterHostr.fld = s.fld ∧ s.afterHostr.vot = s.vot ∧ s.afterHostr.pair = s.pair ∧ s.afterHostr.pwr = s.pwr ∧
    s.afterHostr.sh = s.sh ∧ s.afterHostr.crc = s.crc ∧ s.afterHostr.net = s.net ∧ s.afterHostr.tim = s.tim ∧
    s.afterHostr.gal = s.gal ∧ s.afterHostr.buf = s.buf ∧ s.afterHostr.log = s.log ∧ s.afterHostr.fuses = s.fuses ∧
    s.afterHostr.nvm = s.nvm ∧ s.afterHostr.upd = s.upd ∧ s.afterHostr.prf = s.prf ∧ s.afterHostr.free = s.free ∧
    s.afterHostr.pending = s.pending := by
  simp [State.afterHostr]

@[simp] theorem State.inBufWrite_frame (s : State) (secure : Bool) (ch : Fin 8) (word : Fin 16) (val : Word) :
    (s.inBufWrite secure ch word val).ms = s.ms ∧ (s.inBufWrite secure ch word val).rrq = s.rrq ∧
    (s.inBufWrite secure ch word val).lanes = s.lanes ∧ (s.inBufWrite secure ch word val).fld = s.fld ∧
    (s.inBufWrite secure ch word val).vot = s.vot ∧ (s.inBufWrite secure ch word val).pair = s.pair ∧
    (s.inBufWrite secure ch word val).aon = s.aon ∧ (s.inBufWrite secure ch word val).pwr = s.pwr ∧
    (s.inBufWrite secure ch word val).crc = s.crc ∧ (s.inBufWrite secure ch word val).net = s.net ∧
    (s.inBufWrite secure ch word val).tim = s.tim ∧ (s.inBufWrite secure ch word val).gal = s.gal ∧
    (s.inBufWrite secure ch word val).buf = s.buf ∧ (s.inBufWrite secure ch word val).log = s.log ∧
    (s.inBufWrite secure ch word val).fuses = s.fuses ∧ (s.inBufWrite secure ch word val).nvm = s.nvm ∧
    (s.inBufWrite secure ch word val).upd = s.upd ∧ (s.inBufWrite secure ch word val).prf = s.prf ∧
    (s.inBufWrite secure ch word val).host = s.host ∧ (s.inBufWrite secure ch word val).free = s.free ∧
    (s.inBufWrite secure ch word val).pending = s.pending := by
  simp [State.inBufWrite]

@[simp] theorem State.outBufTake_frame (s : State) (secure : Bool) (ch : Fin 8) (word : Fin 16) :
    (s.outBufTake secure ch word).ms = s.ms ∧ (s.outBufTake secure ch word).rrq = s.rrq ∧
    (s.outBufTake secure ch word).lanes = s.lanes ∧ (s.outBufTake secure ch word).fld = s.fld ∧
    (s.outBufTake secure ch word).vot = s.vot ∧ (s.outBufTake secure ch word).pair = s.pair ∧
    (s.outBufTake secure ch word).aon = s.aon ∧ (s.outBufTake secure ch word).pwr = s.pwr ∧
    (s.outBufTake secure ch word).sh = s.sh ∧ (s.outBufTake secure ch word).crc = s.crc ∧
    (s.outBufTake secure ch word).net = s.net ∧ (s.outBufTake secure ch word).tim = s.tim ∧
    (s.outBufTake secure ch word).gal = s.gal ∧ (s.outBufTake secure ch word).buf = s.buf ∧
    (s.outBufTake secure ch word).log = s.log ∧ (s.outBufTake secure ch word).fuses = s.fuses ∧
    (s.outBufTake secure ch word).nvm = s.nvm ∧ (s.outBufTake secure ch word).upd = s.upd ∧
    (s.outBufTake secure ch word).prf = s.prf ∧ (s.outBufTake secure ch word).free = s.free ∧
    (s.outBufTake secure ch word).pending = s.pending := by
  simp [State.outBufTake]

@[simp] theorem State.outBufRead_frame (s : State) (secure : Bool) (ch : Fin 8) (word : Fin 16) :
    (s.outBufRead secure ch word).ms = s.ms ∧ (s.outBufRead secure ch word).rrq = s.rrq ∧
    (s.outBufRead secure ch word).lanes = s.lanes ∧ (s.outBufRead secure ch word).fld = s.fld ∧
    (s.outBufRead secure ch word).vot = s.vot ∧ (s.outBufRead secure ch word).pair = s.pair ∧
    (s.outBufRead secure ch word).aon = s.aon ∧ (s.outBufRead secure ch word).pwr = s.pwr ∧
    (s.outBufRead secure ch word).crc = s.crc ∧ (s.outBufRead secure ch word).net = s.net ∧
    (s.outBufRead secure ch word).tim = s.tim ∧ (s.outBufRead secure ch word).gal = s.gal ∧
    (s.outBufRead secure ch word).buf = s.buf ∧ (s.outBufRead secure ch word).log = s.log ∧
    (s.outBufRead secure ch word).fuses = s.fuses ∧ (s.outBufRead secure ch word).nvm = s.nvm ∧
    (s.outBufRead secure ch word).upd = s.upd ∧ (s.outBufRead secure ch word).prf = s.prf ∧
    (s.outBufRead secure ch word).free = s.free ∧ (s.outBufRead secure ch word).pending = s.pending := by
  simp [State.outBufRead]

@[simp] theorem State.abortedClear_frame (s : State) (secure : Bool) (ch : Fin 8) (val : Word) :
    (s.abortedClear secure ch val).ms = s.ms ∧ (s.abortedClear secure ch val).rrq = s.rrq ∧
    (s.abortedClear secure ch val).lanes = s.lanes ∧ (s.abortedClear secure ch val).fld = s.fld ∧
    (s.abortedClear secure ch val).vot = s.vot ∧ (s.abortedClear secure ch val).pair = s.pair ∧
    (s.abortedClear secure ch val).aon = s.aon ∧ (s.abortedClear secure ch val).pwr = s.pwr ∧
    (s.abortedClear secure ch val).crc = s.crc ∧ (s.abortedClear secure ch val).net = s.net ∧
    (s.abortedClear secure ch val).tim = s.tim ∧ (s.abortedClear secure ch val).gal = s.gal ∧
    (s.abortedClear secure ch val).buf = s.buf ∧ (s.abortedClear secure ch val).log = s.log ∧
    (s.abortedClear secure ch val).fuses = s.fuses ∧ (s.abortedClear secure ch val).nvm = s.nvm ∧
    (s.abortedClear secure ch val).upd = s.upd ∧ (s.abortedClear secure ch val).prf = s.prf ∧
    (s.abortedClear secure ch val).host = s.host ∧ (s.abortedClear secure ch val).free = s.free ∧
    (s.abortedClear secure ch val).pending = s.pending := by
  simp [State.abortedClear]

@[simp] theorem State.m2hClear_frame (s : State) (secure : Bool) (ch : Fin 8) (val : Word) :
    (s.m2hClear secure ch val).ms = s.ms ∧ (s.m2hClear secure ch val).rrq = s.rrq ∧
    (s.m2hClear secure ch val).lanes = s.lanes ∧ (s.m2hClear secure ch val).fld = s.fld ∧
    (s.m2hClear secure ch val).vot = s.vot ∧ (s.m2hClear secure ch val).pair = s.pair ∧
    (s.m2hClear secure ch val).aon = s.aon ∧ (s.m2hClear secure ch val).pwr = s.pwr ∧
    (s.m2hClear secure ch val).crc = s.crc ∧ (s.m2hClear secure ch val).net = s.net ∧
    (s.m2hClear secure ch val).tim = s.tim ∧ (s.m2hClear secure ch val).gal = s.gal ∧
    (s.m2hClear secure ch val).buf = s.buf ∧ (s.m2hClear secure ch val).log = s.log ∧
    (s.m2hClear secure ch val).fuses = s.fuses ∧ (s.m2hClear secure ch val).nvm = s.nvm ∧
    (s.m2hClear secure ch val).upd = s.upd ∧ (s.m2hClear secure ch val).prf = s.prf ∧
    (s.m2hClear secure ch val).free = s.free ∧ (s.m2hClear secure ch val).pending = s.pending := by
  simp [State.m2hClear]

@[simp] theorem State.dbmaskPut_frame (s : State) (secure : Bool) (ch : Fin 8) (val : Word) :
    (s.dbmaskPut secure ch val).ms = s.ms ∧ (s.dbmaskPut secure ch val).rrq = s.rrq ∧
    (s.dbmaskPut secure ch val).lanes = s.lanes ∧ (s.dbmaskPut secure ch val).fld = s.fld ∧
    (s.dbmaskPut secure ch val).vot = s.vot ∧ (s.dbmaskPut secure ch val).pair = s.pair ∧
    (s.dbmaskPut secure ch val).aon = s.aon ∧ (s.dbmaskPut secure ch val).pwr = s.pwr ∧
    (s.dbmaskPut secure ch val).sh = s.sh ∧ (s.dbmaskPut secure ch val).crc = s.crc ∧
    (s.dbmaskPut secure ch val).net = s.net ∧ (s.dbmaskPut secure ch val).tim = s.tim ∧
    (s.dbmaskPut secure ch val).gal = s.gal ∧ (s.dbmaskPut secure ch val).buf = s.buf ∧
    (s.dbmaskPut secure ch val).log = s.log ∧ (s.dbmaskPut secure ch val).fuses = s.fuses ∧
    (s.dbmaskPut secure ch val).nvm = s.nvm ∧ (s.dbmaskPut secure ch val).upd = s.upd ∧
    (s.dbmaskPut secure ch val).prf = s.prf ∧ (s.dbmaskPut secure ch val).free = s.free ∧
    (s.dbmaskPut secure ch val).pending = s.pending := by
  simp [State.dbmaskPut]

@[simp] theorem State.dbmaskWrite_frame (s : State) (secure : Bool) (ch : Fin 8) (val : Word) :
    (s.dbmaskWrite secure ch val).ms = s.ms ∧ (s.dbmaskWrite secure ch val).rrq = s.rrq ∧
    (s.dbmaskWrite secure ch val).lanes = s.lanes ∧ (s.dbmaskWrite secure ch val).fld = s.fld ∧
    (s.dbmaskWrite secure ch val).vot = s.vot ∧ (s.dbmaskWrite secure ch val).pair = s.pair ∧
    (s.dbmaskWrite secure ch val).aon = s.aon ∧ (s.dbmaskWrite secure ch val).pwr = s.pwr ∧
    (s.dbmaskWrite secure ch val).crc = s.crc ∧ (s.dbmaskWrite secure ch val).net = s.net ∧
    (s.dbmaskWrite secure ch val).tim = s.tim ∧ (s.dbmaskWrite secure ch val).gal = s.gal ∧
    (s.dbmaskWrite secure ch val).buf = s.buf ∧ (s.dbmaskWrite secure ch val).log = s.log ∧
    (s.dbmaskWrite secure ch val).fuses = s.fuses ∧ (s.dbmaskWrite secure ch val).nvm = s.nvm ∧
    (s.dbmaskWrite secure ch val).upd = s.upd ∧ (s.dbmaskWrite secure ch val).prf = s.prf ∧
    (s.dbmaskWrite secure ch val).free = s.free ∧ (s.dbmaskWrite secure ch val).pending = s.pending := by
  simp [State.dbmaskWrite]

end Sys2Proof.Machine
end

