-- ==== Sys2Proof/Laws/FrameLanes.lean ====
section
/-!
SUPPORT. The frame of each operation of Machine/Lanes.lean: the parts of State that it leaves as they were.
-/

namespace Sys2Proof.Machine

@[simp] theorem State.modRunK_frame (s : State) (f : LaneK → LaneK) : (s.modRunK f).ms = s.ms ∧
    (s.modRunK f).rrq = s.rrq ∧ (s.modRunK f).fld = s.fld ∧ (s.modRunK f).vot = s.vot ∧ (s.modRunK f).pair = s.pair
    ∧ (s.modRunK f).aon = s.aon ∧ (s.modRunK f).pwr = s.pwr ∧ (s.modRunK f).sh = s.sh ∧ (s.modRunK f).crc = s.crc ∧
    (s.modRunK f).mail = s.mail ∧ (s.modRunK f).net = s.net ∧ (s.modRunK f).tim = s.tim ∧ (s.modRunK f).gal = s.gal
    ∧ (s.modRunK f).buf = s.buf ∧ (s.modRunK f).log = s.log ∧ (s.modRunK f).fuses = s.fuses ∧
    (s.modRunK f).nvm = s.nvm ∧ (s.modRunK f).upd = s.upd ∧ (s.modRunK f).prf = s.prf ∧ (s.modRunK f).host = s.host
    ∧ (s.modRunK f).free = s.free ∧ (s.modRunK f).pending = s.pending := by
  simp [State.modRunK]

@[simp] theorem State.putRec_frame (s : State) (r : RecItem) : (s.putRec r).ms = s.ms ∧ (s.putRec r).rrq = s.rrq ∧
    (s.putRec r).lanes = s.lanes ∧ (s.putRec r).fld = s.fld ∧ (s.putRec r).vot = s.vot ∧ (s.putRec r).pair = s.pair
    ∧ (s.putRec r).aon = s.aon ∧ (s.putRec r).pwr = s.pwr ∧ (s.putRec r).sh = s.sh ∧ (s.putRec r).crc = s.crc ∧
    (s.putRec r).net = s.net ∧ (s.putRec r).tim = s.tim ∧ (s.putRec r).gal = s.gal ∧ (s.putRec r).buf = s.buf ∧
    (s.putRec r).fuses = s.fuses ∧ (s.putRec r).nvm = s.nvm ∧ (s.putRec r).upd = s.upd ∧ (s.putRec r).prf = s.prf ∧
    (s.putRec r).free = s.free ∧ (s.putRec r).pending = s.pending := by
  simp [State.putRec]

@[simp] theorem State.putRecs_frame (s : State) (rs : List RecItem) : (s.putRecs rs).ms = s.ms ∧
    (s.putRecs rs).rrq = s.rrq ∧ (s.putRecs rs).lanes = s.lanes ∧ (s.putRecs rs).fld = s.fld ∧
    (s.putRecs rs).vot = s.vot ∧ (s.putRecs rs).pair = s.pair ∧ (s.putRecs rs).aon = s.aon ∧
    (s.putRecs rs).pwr = s.pwr ∧ (s.putRecs rs).sh = s.sh ∧ (s.putRecs rs).crc = s.crc ∧ (s.putRecs rs).net = s.net
    ∧ (s.putRecs rs).tim = s.tim ∧ (s.putRecs rs).gal = s.gal ∧ (s.putRecs rs).buf = s.buf ∧
    (s.putRecs rs).fuses = s.fuses ∧ (s.putRecs rs).nvm = s.nvm ∧ (s.putRecs rs).upd = s.upd ∧
    (s.putRecs rs).prf = s.prf ∧ (s.putRecs rs).free = s.free ∧ (s.putRecs rs).pending = s.pending := by
  simp [State.putRecs]

@[simp] theorem State.locRegs_frame (s : State) (x : Loc) : (s.locRegs x).ms = s.ms ∧ (s.locRegs x).rrq = s.rrq ∧
    (s.locRegs x).lanes = s.lanes ∧ (s.locRegs x).pair = s.pair ∧ (s.locRegs x).aon = s.aon ∧
    (s.locRegs x).pwr = s.pwr ∧ (s.locRegs x).sh = s.sh ∧ (s.locRegs x).crc = s.crc ∧ (s.locRegs x).mail = s.mail ∧
    (s.locRegs x).net = s.net ∧ (s.locRegs x).tim = s.tim ∧ (s.locRegs x).gal = s.gal ∧ (s.locRegs x).buf = s.buf ∧
    (s.locRegs x).log = s.log ∧ (s.locRegs x).fuses = s.fuses ∧ (s.locRegs x).nvm = s.nvm ∧
    (s.locRegs x).upd = s.upd ∧ (s.locRegs x).prf = s.prf ∧ (s.locRegs x).host = s.host ∧
    (s.locRegs x).free = s.free ∧ (s.locRegs x).pending = s.pending := by
  simp [State.locRegs]

@[simp] theorem State.voterFaults_frame (s : State) (vs : List (Chan × Nat)) (asking : BitVec 3) :
    (s.voterFaults vs asking).rrq = s.rrq ∧ (s.voterFaults vs asking).lanes = s.lanes ∧
    (s.voterFaults vs asking).fld = s.fld ∧ (s.voterFaults vs asking).pair = s.pair ∧
    (s.voterFaults vs asking).pwr = s.pwr ∧ (s.voterFaults vs asking).sh = s.sh ∧
    (s.voterFaults vs asking).crc = s.crc ∧ (s.voterFaults vs asking).net = s.net ∧
    (s.voterFaults vs asking).tim = s.tim ∧ (s.voterFaults vs asking).gal = s.gal ∧
    (s.voterFaults vs asking).buf = s.buf ∧ (s.voterFaults vs asking).fuses = s.fuses ∧
    (s.voterFaults vs asking).prf = s.prf ∧ (s.voterFaults vs asking).free = s.free ∧
    (s.voterFaults vs asking).pending = s.pending := by
  unfold State.voterFaults
  (repeat' split) <;> simp

@[simp] theorem State.lockRegs_frame (s : State) (k : LaneK) : (s.lockRegs k).ms = s.ms ∧ (s.lockRegs k).rrq = s.rrq
    ∧ (s.lockRegs k).lanes = s.lanes ∧ (s.lockRegs k).vot = s.vot ∧ (s.lockRegs k).pair = s.pair ∧
    (s.lockRegs k).aon = s.aon ∧ (s.lockRegs k).pwr = s.pwr ∧ (s.lockRegs k).sh = s.sh ∧ (s.lockRegs k).crc = s.crc
    ∧ (s.lockRegs k).mail = s.mail ∧ (s.lockRegs k).net = s.net ∧ (s.lockRegs k).tim = s.tim ∧
    (s.lockRegs k).gal = s.gal ∧ (s.lockRegs k).buf = s.buf ∧ (s.lockRegs k).log = s.log ∧
    (s.lockRegs k).fuses = s.fuses ∧ (s.lockRegs k).nvm = s.nvm ∧ (s.lockRegs k).upd = s.upd ∧
    (s.lockRegs k).prf = s.prf ∧ (s.lockRegs k).host = s.host ∧ (s.lockRegs k).free = s.free ∧
    (s.lockRegs k).pending = s.pending := by
  simp [State.lockRegs]

@[simp] theorem State.locStep_frame (s : State) (f : Loc → Loc) : (s.locStep f).rrq = s.rrq ∧
    (s.locStep f).pair = s.pair ∧ (s.locStep f).pwr = s.pwr ∧ (s.locStep f).sh = s.sh ∧ (s.locStep f).crc = s.crc ∧
    (s.locStep f).net = s.net ∧ (s.locStep f).tim = s.tim ∧ (s.locStep f).gal = s.gal ∧ (s.locStep f).buf = s.buf ∧
    (s.locStep f).fuses = s.fuses ∧ (s.locStep f).prf = s.prf ∧ (s.locStep f).free = s.free ∧
    (s.locStep f).pending = s.pending := by
  simp [State.locStep]

@[simp] theorem State.checkReset_frame (s : State) (l : Lane) : (s.checkReset l).ms = s.ms ∧
    (s.checkReset l).rrq = s.rrq ∧ (s.checkReset l).vot = s.vot ∧ (s.checkReset l).pair = s.pair ∧
    (s.checkReset l).net = s.net ∧ (s.checkReset l).tim = s.tim ∧ (s.checkReset l).gal = s.gal ∧
    (s.checkReset l).buf = s.buf ∧ (s.checkReset l).fuses = s.fuses ∧ (s.checkReset l).free = s.free ∧
    (s.checkReset l).pending = s.pending := by
  simp [State.checkReset]

@[simp] theorem State.laneFault_frame (s : State) (l : Lane) (src : BitVec 4) (diff : Option CmpDiff) :
    (s.laneFault l src diff).rrq = s.rrq ∧ (s.laneFault l src diff).vot = s.vot ∧
    (s.laneFault l src diff).pair = s.pair ∧ (s.laneFault l src diff).net = s.net ∧
    (s.laneFault l src diff).tim = s.tim ∧ (s.laneFault l src diff).gal = s.gal ∧
    (s.laneFault l src diff).fuses = s.fuses ∧ (s.laneFault l src diff).free = s.free ∧
    (s.laneFault l src diff).pending = s.pending := by
  simp [State.laneFault]

@[simp] theorem State.watchdogReset_frame (s : State) (l : Lane) : (s.watchdogReset l).ms = s.ms ∧
    (s.watchdogReset l).rrq = s.rrq ∧ (s.watchdogReset l).vot = s.vot ∧ (s.watchdogReset l).pair = s.pair ∧
    (s.watchdogReset l).net = s.net ∧ (s.watchdogReset l).tim = s.tim ∧ (s.watchdogReset l).gal = s.gal ∧
    (s.watchdogReset l).buf = s.buf ∧ (s.watchdogReset l).fuses = s.fuses ∧ (s.watchdogReset l).free = s.free ∧
    (s.watchdogReset l).pending = s.pending := by
  simp [State.watchdogReset]

@[simp] theorem State.copyFailed_frame (s : State) (l : Lane) : (s.copyFailed l).ms = s.ms ∧
    (s.copyFailed l).rrq = s.rrq ∧ (s.copyFailed l).fld = s.fld ∧ (s.copyFailed l).vot = s.vot ∧
    (s.copyFailed l).pair = s.pair ∧ (s.copyFailed l).aon = s.aon ∧ (s.copyFailed l).pwr = s.pwr ∧
    (s.copyFailed l).sh = s.sh ∧ (s.copyFailed l).crc = s.crc ∧ (s.copyFailed l).net = s.net ∧
    (s.copyFailed l).tim = s.tim ∧ (s.copyFailed l).gal = s.gal ∧ (s.copyFailed l).buf = s.buf ∧
    (s.copyFailed l).fuses = s.fuses ∧ (s.copyFailed l).prf = s.prf ∧ (s.copyFailed l).free = s.free ∧
    (s.copyFailed l).pending = s.pending := by
  simp [State.copyFailed]

@[simp] theorem State.eccFault_frame (s : State) (l : Lane) (r : EccRead) : (s.eccFault l r).rrq = s.rrq ∧
    (s.eccFault l r).vot = s.vot ∧ (s.eccFault l r).pair = s.pair ∧ (s.eccFault l r).net = s.net ∧
    (s.eccFault l r).tim = s.tim ∧ (s.eccFault l r).gal = s.gal ∧ (s.eccFault l r).fuses = s.fuses ∧
    (s.eccFault l r).free = s.free ∧ (s.eccFault l r).pending = s.pending := by
  simp [State.eccFault]

@[simp] theorem State.lateTick_frame (s : State) (l : Lane) : (s.lateTick l).ms = s.ms ∧ (s.lateTick l).rrq = s.rrq
    ∧ (s.lateTick l).fld = s.fld ∧ (s.lateTick l).vot = s.vot ∧ (s.lateTick l).pair = s.pair ∧
    (s.lateTick l).aon = s.aon ∧ (s.lateTick l).pwr = s.pwr ∧ (s.lateTick l).sh = s.sh ∧ (s.lateTick l).crc = s.crc
    ∧ (s.lateTick l).net = s.net ∧ (s.lateTick l).tim = s.tim ∧ (s.lateTick l).gal = s.gal ∧
    (s.lateTick l).buf = s.buf ∧ (s.lateTick l).fuses = s.fuses ∧ (s.lateTick l).nvm = s.nvm ∧
    (s.lateTick l).upd = s.upd ∧ (s.lateTick l).prf = s.prf ∧ (s.lateTick l).free = s.free ∧
    (s.lateTick l).pending = s.pending := by
  simp [State.lateTick]

@[simp] theorem State.release_frame (s : State) (l : Lane) (w : GateWrite) : (s.release l w).ms = s.ms ∧
    (s.release l w).rrq = s.rrq ∧ (s.release l w).lanes = s.lanes ∧ (s.release l w).vot = s.vot ∧
    (s.release l w).pair = s.pair ∧ (s.release l w).aon = s.aon ∧ (s.release l w).pwr = s.pwr ∧
    (s.release l w).sh = s.sh ∧ (s.release l w).crc = s.crc ∧ (s.release l w).mail = s.mail ∧
    (s.release l w).net = s.net ∧ (s.release l w).tim = s.tim ∧ (s.release l w).gal = s.gal ∧
    (s.release l w).log = s.log ∧ (s.release l w).fuses = s.fuses ∧ (s.release l w).nvm = s.nvm ∧
    (s.release l w).upd = s.upd ∧ (s.release l w).prf = s.prf ∧ (s.release l w).host = s.host ∧
    (s.release l w).free = s.free ∧ (s.release l w).pending = s.pending := by
  unfold State.release
  (repeat' split) <;> simp

@[simp] theorem State.gateRelease_frame (s : State) (l : Lane) : (s.gateRelease l).ms = s.ms ∧
    (s.gateRelease l).rrq = s.rrq ∧ (s.gateRelease l).vot = s.vot ∧ (s.gateRelease l).pair = s.pair ∧
    (s.gateRelease l).aon = s.aon ∧ (s.gateRelease l).pwr = s.pwr ∧ (s.gateRelease l).sh = s.sh ∧
    (s.gateRelease l).crc = s.crc ∧ (s.gateRelease l).mail = s.mail ∧ (s.gateRelease l).net = s.net ∧
    (s.gateRelease l).tim = s.tim ∧ (s.gateRelease l).gal = s.gal ∧ (s.gateRelease l).log = s.log ∧
    (s.gateRelease l).fuses = s.fuses ∧ (s.gateRelease l).nvm = s.nvm ∧ (s.gateRelease l).upd = s.upd ∧
    (s.gateRelease l).prf = s.prf ∧ (s.gateRelease l).host = s.host ∧ (s.gateRelease l).free = s.free ∧
    (s.gateRelease l).pending = s.pending := by
  simp [State.gateRelease]

@[simp] theorem State.countCe_frame (s : State) (l : Lane) (n : Nat) : (s.countCe l n).ms = s.ms ∧
    (s.countCe l n).rrq = s.rrq ∧ (s.countCe l n).fld = s.fld ∧ (s.countCe l n).vot = s.vot ∧
    (s.countCe l n).pair = s.pair ∧ (s.countCe l n).aon = s.aon ∧ (s.countCe l n).pwr = s.pwr ∧
    (s.countCe l n).sh = s.sh ∧ (s.countCe l n).crc = s.crc ∧ (s.countCe l n).net = s.net ∧
    (s.countCe l n).tim = s.tim ∧ (s.countCe l n).gal = s.gal ∧ (s.countCe l n).buf = s.buf ∧
    (s.countCe l n).fuses = s.fuses ∧ (s.countCe l n).nvm = s.nvm ∧ (s.countCe l n).upd = s.upd ∧
    (s.countCe l n).prf = s.prf ∧ (s.countCe l n).free = s.free ∧ (s.countCe l n).pending = s.pending := by
  simp [State.countCe]

@[simp] theorem State.tested_frame (s : State) (l : Lane) (result : ProofResult) (hw : Checker) :
    (s.tested l result hw).ms = s.ms ∧ (s.tested l result hw).rrq = s.rrq ∧ (s.tested l result hw).fld = s.fld ∧
    (s.tested l result hw).vot = s.vot ∧ (s.tested l result hw).pair = s.pair ∧ (s.tested l result hw).aon = s.aon ∧
    (s.tested l result hw).pwr = s.pwr ∧ (s.tested l result hw).sh = s.sh ∧ (s.tested l result hw).crc = s.crc ∧
    (s.tested l result hw).mail = s.mail ∧ (s.tested l result hw).net = s.net ∧ (s.tested l result hw).tim = s.tim ∧
    (s.tested l result hw).gal = s.gal ∧ (s.tested l result hw).buf = s.buf ∧ (s.tested l result hw).log = s.log ∧
    (s.tested l result hw).fuses = s.fuses ∧ (s.tested l result hw).nvm = s.nvm ∧ (s.tested l result hw).upd = s.upd
    ∧ (s.tested l result hw).prf = s.prf ∧ (s.tested l result hw).host = s.host ∧
    (s.tested l result hw).free = s.free ∧ (s.tested l result hw).pending = s.pending := by
  simp [State.tested]

@[simp] theorem State.restartLane_frame (s : State) (l : Lane) : (s.restartLane l).ms = s.ms ∧
    (s.restartLane l).rrq = s.rrq ∧ (s.restartLane l).fld = s.fld ∧ (s.restartLane l).vot = s.vot ∧
    (s.restartLane l).pair = s.pair ∧ (s.restartLane l).aon = s.aon ∧ (s.restartLane l).pwr = s.pwr ∧
    (s.restartLane l).sh = s.sh ∧ (s.restartLane l).crc = s.crc ∧ (s.restartLane l).mail = s.mail ∧
    (s.restartLane l).net = s.net ∧ (s.restartLane l).tim = s.tim ∧ (s.restartLane l).gal = s.gal ∧
    (s.restartLane l).buf = s.buf ∧ (s.restartLane l).log = s.log ∧ (s.restartLane l).fuses = s.fuses ∧
    (s.restartLane l).nvm = s.nvm ∧ (s.restartLane l).upd = s.upd ∧ (s.restartLane l).prf = s.prf ∧
    (s.restartLane l).host = s.host ∧ (s.restartLane l).free = s.free ∧ (s.restartLane l).pending = s.pending := by
  unfold State.restartLane
  (repeat' split) <;> simp

@[simp] theorem State.rollFailed_frame (s : State) (l : Lane) (test : Nat) : (s.rollFailed l test).ms = s.ms ∧
    (s.rollFailed l test).rrq = s.rrq ∧ (s.rollFailed l test).fld = s.fld ∧ (s.rollFailed l test).pair = s.pair ∧
    (s.rollFailed l test).aon = s.aon ∧ (s.rollFailed l test).pwr = s.pwr ∧ (s.rollFailed l test).sh = s.sh ∧
    (s.rollFailed l test).crc = s.crc ∧ (s.rollFailed l test).mail = s.mail ∧ (s.rollFailed l test).net = s.net ∧
    (s.rollFailed l test).tim = s.tim ∧ (s.rollFailed l test).gal = s.gal ∧ (s.rollFailed l test).buf = s.buf ∧
    (s.rollFailed l test).log = s.log ∧ (s.rollFailed l test).fuses = s.fuses ∧ (s.rollFailed l test).nvm = s.nvm ∧
    (s.rollFailed l test).upd = s.upd ∧ (s.rollFailed l test).host = s.host ∧ (s.rollFailed l test).free = s.free ∧
    (s.rollFailed l test).pending = s.pending := by
  simp [State.rollFailed]

end Sys2Proof.Machine
end

