-- ==== Sys2Proof/Laws/FrameLantern.lean ====
section
/-!
SUPPORT. The frame of each operation of Machine/Lantern.lean: the parts of State that it leaves as they were.
-/

namespace Sys2Proof.Machine

@[simp] theorem State.modIface_frame (s : State) (l : Lane) (b : Bank) (f : Iface → Iface) :
    (s.modIface l b f).ms = s.ms ∧ (s.modIface l b f).rrq = s.rrq ∧ (s.modIface l b f).lanes = s.lanes ∧
    (s.modIface l b f).vot = s.vot ∧ (s.modIface l b f).pair = s.pair ∧ (s.modIface l b f).aon = s.aon ∧
    (s.modIface l b f).pwr = s.pwr ∧ (s.modIface l b f).sh = s.sh ∧ (s.modIface l b f).crc = s.crc ∧
    (s.modIface l b f).mail = s.mail ∧ (s.modIface l b f).net = s.net ∧ (s.modIface l b f).tim = s.tim ∧
    (s.modIface l b f).gal = s.gal ∧ (s.modIface l b f).buf = s.buf ∧ (s.modIface l b f).log = s.log ∧
    (s.modIface l b f).fuses = s.fuses ∧ (s.modIface l b f).nvm = s.nvm ∧ (s.modIface l b f).upd = s.upd ∧
    (s.modIface l b f).prf = s.prf ∧ (s.modIface l b f).host = s.host ∧ (s.modIface l b f).free = s.free ∧
    (s.modIface l b f).pending = s.pending := by
  simp [State.modIface]

@[simp] theorem State.modStage_frame (s : State) (k : Chan) (f : Stage → Stage) : (s.modStage k f).ms = s.ms ∧
    (s.modStage k f).rrq = s.rrq ∧ (s.modStage k f).lanes = s.lanes ∧ (s.modStage k f).vot = s.vot ∧
    (s.modStage k f).pair = s.pair ∧ (s.modStage k f).aon = s.aon ∧ (s.modStage k f).pwr = s.pwr ∧
    (s.modStage k f).sh = s.sh ∧ (s.modStage k f).crc = s.crc ∧ (s.modStage k f).mail = s.mail ∧
    (s.modStage k f).net = s.net ∧ (s.modStage k f).tim = s.tim ∧ (s.modStage k f).gal = s.gal ∧
    (s.modStage k f).buf = s.buf ∧ (s.modStage k f).log = s.log ∧ (s.modStage k f).fuses = s.fuses ∧
    (s.modStage k f).nvm = s.nvm ∧ (s.modStage k f).upd = s.upd ∧ (s.modStage k f).prf = s.prf ∧
    (s.modStage k f).host = s.host ∧ (s.modStage k f).free = s.free ∧ (s.modStage k f).pending = s.pending := by
  simp [State.modStage]

@[simp] theorem State.modRep_frame (s : State) (l : Lane) (k : Chan) (f : Replica → Replica) :
    (s.modRep l k f).ms = s.ms ∧ (s.modRep l k f).rrq = s.rrq ∧ (s.modRep l k f).lanes = s.lanes ∧
    (s.modRep l k f).vot = s.vot ∧ (s.modRep l k f).pair = s.pair ∧ (s.modRep l k f).aon = s.aon ∧
    (s.modRep l k f).pwr = s.pwr ∧ (s.modRep l k f).sh = s.sh ∧ (s.modRep l k f).crc = s.crc ∧
    (s.modRep l k f).mail = s.mail ∧ (s.modRep l k f).net = s.net ∧ (s.modRep l k f).tim = s.tim ∧
    (s.modRep l k f).gal = s.gal ∧ (s.modRep l k f).buf = s.buf ∧ (s.modRep l k f).log = s.log ∧
    (s.modRep l k f).fuses = s.fuses ∧ (s.modRep l k f).nvm = s.nvm ∧ (s.modRep l k f).upd = s.upd ∧
    (s.modRep l k f).prf = s.prf ∧ (s.modRep l k f).host = s.host ∧ (s.modRep l k f).free = s.free ∧
    (s.modRep l k f).pending = s.pending := by
  simp [State.modRep]

end Sys2Proof.Machine
end

