-- ==== Sys2Proof/Laws/FrameShared.lean ====
section
/-!
SUPPORT. The frame of each operation of Machine/Shared.lean: the parts of State that it leaves as they were.
-/

namespace Sys2Proof.Machine

@[simp] theorem State.lckTake_frame (s : State) (m : Master) (i : Fin 64) : (s.lckTake m i).ms = s.ms ∧
    (s.lckTake m i).rrq = s.rrq ∧ (s.lckTake m i).lanes = s.lanes ∧ (s.lckTake m i).fld = s.fld ∧
    (s.lckTake m i).vot = s.vot ∧ (s.lckTake m i).pair = s.pair ∧ (s.lckTake m i).aon = s.aon ∧
    (s.lckTake m i).pwr = s.pwr ∧ (s.lckTake m i).crc = s.crc ∧ (s.lckTake m i).mail = s.mail ∧
    (s.lckTake m i).net = s.net ∧ (s.lckTake m i).tim = s.tim ∧ (s.lckTake m i).gal = s.gal ∧
    (s.lckTake m i).buf = s.buf ∧ (s.lckTake m i).log = s.log ∧ (s.lckTake m i).fuses = s.fuses ∧
    (s.lckTake m i).nvm = s.nvm ∧ (s.lckTake m i).upd = s.upd ∧ (s.lckTake m i).prf = s.prf ∧
    (s.lckTake m i).free = s.free ∧ (s.lckTake m i).pending = s.pending := by
  simp [State.lckTake]

@[simp] theorem State.lckRead_frame (s : State) (m : Master) (i : Fin 64) (rivals : List Master) :
    (s.lckRead m i rivals).ms = s.ms ∧ (s.lckRead m i rivals).rrq = s.rrq ∧ (s.lckRead m i rivals).lanes = s.lanes ∧
    (s.lckRead m i rivals).fld = s.fld ∧ (s.lckRead m i rivals).vot = s.vot ∧ (s.lckRead m i rivals).pair = s.pair ∧
    (s.lckRead m i rivals).aon = s.aon ∧ (s.lckRead m i rivals).pwr = s.pwr ∧ (s.lckRead m i rivals).crc = s.crc ∧
    (s.lckRead m i rivals).mail = s.mail ∧ (s.lckRead m i rivals).net = s.net ∧ (s.lckRead m i rivals).tim = s.tim ∧
    (s.lckRead m i rivals).gal = s.gal ∧ (s.lckRead m i rivals).buf = s.buf ∧ (s.lckRead m i rivals).log = s.log ∧
    (s.lckRead m i rivals).fuses = s.fuses ∧ (s.lckRead m i rivals).nvm = s.nvm ∧ (s.lckRead m i rivals).upd = s.upd
    ∧ (s.lckRead m i rivals).prf = s.prf ∧ (s.lckRead m i rivals).free = s.free ∧
    (s.lckRead m i rivals).pending = s.pending := by
  simp [State.lckRead]

@[simp] theorem State.lckWrite_frame (s : State) (m : Master) (i : Fin 64) (val : Word) (rivals : List Master) :
    (s.lckWrite m i val rivals).ms = s.ms ∧ (s.lckWrite m i val rivals).rrq = s.rrq ∧
    (s.lckWrite m i val rivals).lanes = s.lanes ∧ (s.lckWrite m i val rivals).fld = s.fld ∧
    (s.lckWrite m i val rivals).vot = s.vot ∧ (s.lckWrite m i val rivals).pair = s.pair ∧
    (s.lckWrite m i val rivals).aon = s.aon ∧ (s.lckWrite m i val rivals).pwr = s.pwr ∧
    (s.lckWrite m i val rivals).crc = s.crc ∧ (s.lckWrite m i val rivals).mail = s.mail ∧
    (s.lckWrite m i val rivals).net = s.net ∧ (s.lckWrite m i val rivals).tim = s.tim ∧
    (s.lckWrite m i val rivals).gal = s.gal ∧ (s.lckWrite m i val rivals).buf = s.buf ∧
    (s.lckWrite m i val rivals).log = s.log ∧ (s.lckWrite m i val rivals).fuses = s.fuses ∧
    (s.lckWrite m i val rivals).nvm = s.nvm ∧ (s.lckWrite m i val rivals).upd = s.upd ∧
    (s.lckWrite m i val rivals).prf = s.prf ∧ (s.lckWrite m i val rivals).host = s.host ∧
    (s.lckWrite m i val rivals).free = s.free ∧ (s.lckWrite m i val rivals).pending = s.pending := by
  simp [State.lckWrite]

@[simp] theorem State.orphanClear_frame (s : State) (hi : Bool) (val : Word) : (s.orphanClear hi val).ms = s.ms ∧
    (s.orphanClear hi val).rrq = s.rrq ∧ (s.orphanClear hi val).lanes = s.lanes ∧ (s.orphanClear hi val).fld = s.fld
    ∧ (s.orphanClear hi val).vot = s.vot ∧ (s.orphanClear hi val).pair = s.pair ∧ (s.orphanClear hi val).aon = s.aon
    ∧ (s.orphanClear hi val).pwr = s.pwr ∧ (s.orphanClear hi val).crc = s.crc ∧ (s.orphanClear hi val).mail = s.mail
    ∧ (s.orphanClear hi val).net = s.net ∧ (s.orphanClear hi val).tim = s.tim ∧ (s.orphanClear hi val).gal = s.gal ∧
    (s.orphanClear hi val).buf = s.buf ∧ (s.orphanClear hi val).log = s.log ∧ (s.orphanClear hi val).fuses = s.fuses
    ∧ (s.orphanClear hi val).nvm = s.nvm ∧ (s.orphanClear hi val).upd = s.upd ∧ (s.orphanClear hi val).prf = s.prf ∧
    (s.orphanClear hi val).host = s.host ∧ (s.orphanClear hi val).free = s.free ∧
    (s.orphanClear hi val).pending = s.pending := by
  simp [State.orphanClear]

@[simp] theorem State.modCrc_frame (s : State) (ch : Fin 16) (f : Crc → Crc) : (s.modCrc ch f).ms = s.ms ∧
    (s.modCrc ch f).rrq = s.rrq ∧ (s.modCrc ch f).lanes = s.lanes ∧ (s.modCrc ch f).fld = s.fld ∧
    (s.modCrc ch f).vot = s.vot ∧ (s.modCrc ch f).pair = s.pair ∧ (s.modCrc ch f).aon = s.aon ∧
    (s.modCrc ch f).pwr = s.pwr ∧ (s.modCrc ch f).sh = s.sh ∧ (s.modCrc ch f).mail = s.mail ∧
    (s.modCrc ch f).net = s.net ∧ (s.modCrc ch f).tim = s.tim ∧ (s.modCrc ch f).gal = s.gal ∧
    (s.modCrc ch f).buf = s.buf ∧ (s.modCrc ch f).log = s.log ∧ (s.modCrc ch f).fuses = s.fuses ∧
    (s.modCrc ch f).nvm = s.nvm ∧ (s.modCrc ch f).upd = s.upd ∧ (s.modCrc ch f).prf = s.prf ∧
    (s.modCrc ch f).host = s.host ∧ (s.modCrc ch f).free = s.free ∧ (s.modCrc ch f).pending = s.pending := by
  simp [State.modCrc]

@[simp] theorem State.crcDenied_frame (s : State) (m : Master) : (s.crcDenied m).ms = s.ms ∧
    (s.crcDenied m).rrq = s.rrq ∧ (s.crcDenied m).lanes = s.lanes ∧ (s.crcDenied m).fld = s.fld ∧
    (s.crcDenied m).vot = s.vot ∧ (s.crcDenied m).pair = s.pair ∧ (s.crcDenied m).aon = s.aon ∧
    (s.crcDenied m).pwr = s.pwr ∧ (s.crcDenied m).sh = s.sh ∧ (s.crcDenied m).mail = s.mail ∧
    (s.crcDenied m).net = s.net ∧ (s.crcDenied m).tim = s.tim ∧ (s.crcDenied m).gal = s.gal ∧
    (s.crcDenied m).buf = s.buf ∧ (s.crcDenied m).log = s.log ∧ (s.crcDenied m).fuses = s.fuses ∧
    (s.crcDenied m).nvm = s.nvm ∧ (s.crcDenied m).upd = s.upd ∧ (s.crcDenied m).prf = s.prf ∧
    (s.crcDenied m).host = s.host ∧ (s.crcDenied m).free = s.free ∧ (s.crcDenied m).pending = s.pending := by
  simp [State.crcDenied]

@[simp] theorem State.crcWait_frame (s : State) (m : Master) (ch : Fin 16) (w : CrcWrite) :
    (s.crcWait m ch w).ms = s.ms ∧ (s.crcWait m ch w).rrq = s.rrq ∧ (s.crcWait m ch w).lanes = s.lanes ∧
    (s.crcWait m ch w).fld = s.fld ∧ (s.crcWait m ch w).vot = s.vot ∧ (s.crcWait m ch w).pair = s.pair ∧
    (s.crcWait m ch w).aon = s.aon ∧ (s.crcWait m ch w).pwr = s.pwr ∧ (s.crcWait m ch w).crc = s.crc ∧
    (s.crcWait m ch w).mail = s.mail ∧ (s.crcWait m ch w).net = s.net ∧ (s.crcWait m ch w).tim = s.tim ∧
    (s.crcWait m ch w).gal = s.gal ∧ (s.crcWait m ch w).buf = s.buf ∧ (s.crcWait m ch w).log = s.log ∧
    (s.crcWait m ch w).fuses = s.fuses ∧ (s.crcWait m ch w).nvm = s.nvm ∧ (s.crcWait m ch w).upd = s.upd ∧
    (s.crcWait m ch w).prf = s.prf ∧ (s.crcWait m ch w).host = s.host ∧ (s.crcWait m ch w).free = s.free ∧
    (s.crcWait m ch w).pending = s.pending := by
  simp [State.crcWait]

@[simp] theorem State.crcMeet_frame (s : State) (m : Master) (ch : Fin 16) (w : CrcWrite) (rivals : List Master) :
    (s.crcMeet m ch w rivals).ms = s.ms ∧ (s.crcMeet m ch w rivals).rrq = s.rrq ∧
    (s.crcMeet m ch w rivals).lanes = s.lanes ∧ (s.crcMeet m ch w rivals).fld = s.fld ∧
    (s.crcMeet m ch w rivals).vot = s.vot ∧ (s.crcMeet m ch w rivals).pair = s.pair ∧
    (s.crcMeet m ch w rivals).aon = s.aon ∧ (s.crcMeet m ch w rivals).pwr = s.pwr ∧
    (s.crcMeet m ch w rivals).mail = s.mail ∧ (s.crcMeet m ch w rivals).net = s.net ∧
    (s.crcMeet m ch w rivals).tim = s.tim ∧ (s.crcMeet m ch w rivals).gal = s.gal ∧
    (s.crcMeet m ch w rivals).buf = s.buf ∧ (s.crcMeet m ch w rivals).log = s.log ∧
    (s.crcMeet m ch w rivals).fuses = s.fuses ∧ (s.crcMeet m ch w rivals).nvm = s.nvm ∧
    (s.crcMeet m ch w rivals).upd = s.upd ∧ (s.crcMeet m ch w rivals).prf = s.prf ∧
    (s.crcMeet m ch w rivals).host = s.host ∧ (s.crcMeet m ch w rivals).free = s.free ∧
    (s.crcMeet m ch w rivals).pending = s.pending := by
  unfold State.crcMeet
  (repeat' split) <;> simp

@[simp] theorem State.crcGoOn_frame (s : State) (w : HubWait) : (s.crcGoOn w).ms = s.ms ∧ (s.crcGoOn w).rrq = s.rrq
    ∧ (s.crcGoOn w).lanes = s.lanes ∧ (s.crcGoOn w).fld = s.fld ∧ (s.crcGoOn w).vot = s.vot ∧
    (s.crcGoOn w).pair = s.pair ∧ (s.crcGoOn w).aon = s.aon ∧ (s.crcGoOn w).pwr = s.pwr ∧
    (s.crcGoOn w).mail = s.mail ∧ (s.crcGoOn w).net = s.net ∧ (s.crcGoOn w).tim = s.tim ∧ (s.crcGoOn w).gal = s.gal
    ∧ (s.crcGoOn w).buf = s.buf ∧ (s.crcGoOn w).log = s.log ∧ (s.crcGoOn w).fuses = s.fuses ∧
    (s.crcGoOn w).nvm = s.nvm ∧ (s.crcGoOn w).upd = s.upd ∧ (s.crcGoOn w).prf = s.prf ∧ (s.crcGoOn w).host = s.host
    ∧ (s.crcGoOn w).free = s.free ∧ (s.crcGoOn w).pending = s.pending := by
  unfold State.crcGoOn
  (repeat' split) <;> simp

@[simp] theorem State.crcDrain_frame (s : State) : s.crcDrain.ms = s.ms ∧ s.crcDrain.rrq = s.rrq ∧
    s.crcDrain.lanes = s.lanes ∧ s.crcDrain.fld = s.fld ∧ s.crcDrain.vot = s.vot ∧ s.crcDrain.pair = s.pair ∧
    s.crcDrain.aon = s.aon ∧ s.crcDrain.pwr = s.pwr ∧ s.crcDrain.mail = s.mail ∧ s.crcDrain.net = s.net ∧
    s.crcDrain.tim = s.tim ∧ s.crcDrain.gal = s.gal ∧ s.crcDrain.buf = s.buf ∧ s.crcDrain.log = s.log ∧
    s.crcDrain.fuses = s.fuses ∧ s.crcDrain.nvm = s.nvm ∧ s.crcDrain.upd = s.upd ∧ s.crcDrain.prf = s.prf ∧
    s.crcDrain.host = s.host ∧ s.crcDrain.free = s.free ∧ s.crcDrain.pending = s.pending := by
  simp [State.crcDrain]

@[simp] theorem State.crcPut_frame (s : State) (m : Master) (ch : Fin 16) (w : CrcWrite) (rivals : List Master) :
    (s.crcPut m ch w rivals).ms = s.ms ∧ (s.crcPut m ch w rivals).rrq = s.rrq ∧
    (s.crcPut m ch w rivals).lanes = s.lanes ∧ (s.crcPut m ch w rivals).fld = s.fld ∧
    (s.crcPut m ch w rivals).vot = s.vot ∧ (s.crcPut m ch w rivals).pair = s.pair ∧
    (s.crcPut m ch w rivals).aon = s.aon ∧ (s.crcPut m ch w rivals).pwr = s.pwr ∧
    (s.crcPut m ch w rivals).mail = s.mail ∧ (s.crcPut m ch w rivals).net = s.net ∧
    (s.crcPut m ch w rivals).tim = s.tim ∧ (s.crcPut m ch w rivals).gal = s.gal ∧
    (s.crcPut m ch w rivals).buf = s.buf ∧ (s.crcPut m ch w rivals).log = s.log ∧
    (s.crcPut m ch w rivals).fuses = s.fuses ∧ (s.crcPut m ch w rivals).nvm = s.nvm ∧
    (s.crcPut m ch w rivals).upd = s.upd ∧ (s.crcPut m ch w rivals).prf = s.prf ∧
    (s.crcPut m ch w rivals).host = s.host ∧ (s.crcPut m ch w rivals).free = s.free ∧
    (s.crcPut m ch w rivals).pending = s.pending := by
  simp [State.crcPut]

@[simp] theorem State.crcBus_frame (s : State) (m : Master) (ch : Fin 16) (w : CrcWrite) :
    (s.crcBus m ch w).ms = s.ms ∧ (s.crcBus m ch w).rrq = s.rrq ∧ (s.crcBus m ch w).lanes = s.lanes ∧
    (s.crcBus m ch w).fld = s.fld ∧ (s.crcBus m ch w).vot = s.vot ∧ (s.crcBus m ch w).pair = s.pair ∧
    (s.crcBus m ch w).aon = s.aon ∧ (s.crcBus m ch w).pwr = s.pwr ∧ (s.crcBus m ch w).mail = s.mail ∧
    (s.crcBus m ch w).net = s.net ∧ (s.crcBus m ch w).tim = s.tim ∧ (s.crcBus m ch w).gal = s.gal ∧
    (s.crcBus m ch w).buf = s.buf ∧ (s.crcBus m ch w).log = s.log ∧ (s.crcBus m ch w).fuses = s.fuses ∧
    (s.crcBus m ch w).nvm = s.nvm ∧ (s.crcBus m ch w).upd = s.upd ∧ (s.crcBus m ch w).prf = s.prf ∧
    (s.crcBus m ch w).host = s.host ∧ (s.crcBus m ch w).free = s.free ∧ (s.crcBus m ch w).pending = s.pending := by
  simp [State.crcBus]

@[simp] theorem State.crcStart_frame (s : State) (m : Master) (ch : Fin 16) (cfg : Word) (seed : Option DWord) :
    (s.crcStart m ch cfg seed).ms = s.ms ∧ (s.crcStart m ch cfg seed).rrq = s.rrq ∧
    (s.crcStart m ch cfg seed).lanes = s.lanes ∧ (s.crcStart m ch cfg seed).fld = s.fld ∧
    (s.crcStart m ch cfg seed).vot = s.vot ∧ (s.crcStart m ch cfg seed).pair = s.pair ∧
    (s.crcStart m ch cfg seed).aon = s.aon ∧ (s.crcStart m ch cfg seed).pwr = s.pwr ∧
    (s.crcStart m ch cfg seed).mail = s.mail ∧ (s.crcStart m ch cfg seed).net = s.net ∧
    (s.crcStart m ch cfg seed).tim = s.tim ∧ (s.crcStart m ch cfg seed).gal = s.gal ∧
    (s.crcStart m ch cfg seed).buf = s.buf ∧ (s.crcStart m ch cfg seed).log = s.log ∧
    (s.crcStart m ch cfg seed).fuses = s.fuses ∧ (s.crcStart m ch cfg seed).nvm = s.nvm ∧
    (s.crcStart m ch cfg seed).upd = s.upd ∧ (s.crcStart m ch cfg seed).prf = s.prf ∧
    (s.crcStart m ch cfg seed).host = s.host ∧ (s.crcStart m ch cfg seed).free = s.free ∧
    (s.crcStart m ch cfg seed).pending = s.pending := by
  simp [State.crcStart]

@[simp] theorem State.crcResult_frame (s : State) (ch : Fin 16) : (s.crcResult ch).ms = s.ms ∧
    (s.crcResult ch).rrq = s.rrq ∧ (s.crcResult ch).lanes = s.lanes ∧ (s.crcResult ch).fld = s.fld ∧
    (s.crcResult ch).vot = s.vot ∧ (s.crcResult ch).pair = s.pair ∧ (s.crcResult ch).aon = s.aon ∧
    (s.crcResult ch).pwr = s.pwr ∧ (s.crcResult ch).mail = s.mail ∧ (s.crcResult ch).net = s.net ∧
    (s.crcResult ch).tim = s.tim ∧ (s.crcResult ch).gal = s.gal ∧ (s.crcResult ch).buf = s.buf ∧
    (s.crcResult ch).log = s.log ∧ (s.crcResult ch).fuses = s.fuses ∧ (s.crcResult ch).nvm = s.nvm ∧
    (s.crcResult ch).upd = s.upd ∧ (s.crcResult ch).prf = s.prf ∧ (s.crcResult ch).free = s.free ∧
    (s.crcResult ch).pending = s.pending := by
  simp [State.crcResult]

@[simp] theorem State.crcResLo_frame (s : State) (m : Master) (ch : Fin 16) : (s.crcResLo m ch).ms = s.ms ∧
    (s.crcResLo m ch).rrq = s.rrq ∧ (s.crcResLo m ch).lanes = s.lanes ∧ (s.crcResLo m ch).fld = s.fld ∧
    (s.crcResLo m ch).vot = s.vot ∧ (s.crcResLo m ch).pair = s.pair ∧ (s.crcResLo m ch).aon = s.aon ∧
    (s.crcResLo m ch).pwr = s.pwr ∧ (s.crcResLo m ch).mail = s.mail ∧ (s.crcResLo m ch).net = s.net ∧
    (s.crcResLo m ch).tim = s.tim ∧ (s.crcResLo m ch).gal = s.gal ∧ (s.crcResLo m ch).buf = s.buf ∧
    (s.crcResLo m ch).log = s.log ∧ (s.crcResLo m ch).fuses = s.fuses ∧ (s.crcResLo m ch).nvm = s.nvm ∧
    (s.crcResLo m ch).upd = s.upd ∧ (s.crcResLo m ch).prf = s.prf ∧ (s.crcResLo m ch).free = s.free ∧
    (s.crcResLo m ch).pending = s.pending := by
  simp [State.crcResLo]

@[simp] theorem State.timNowLo_frame (s : State) : s.timNowLo.ms = s.ms ∧ s.timNowLo.rrq = s.rrq ∧
    s.timNowLo.lanes = s.lanes ∧ s.timNowLo.fld = s.fld ∧ s.timNowLo.vot = s.vot ∧ s.timNowLo.pair = s.pair ∧
    s.timNowLo.pwr = s.pwr ∧ s.timNowLo.sh = s.sh ∧ s.timNowLo.crc = s.crc ∧ s.timNowLo.mail = s.mail ∧
    s.timNowLo.net = s.net ∧ s.timNowLo.tim = s.tim ∧ s.timNowLo.gal = s.gal ∧ s.timNowLo.buf = s.buf ∧
    s.timNowLo.log = s.log ∧ s.timNowLo.fuses = s.fuses ∧ s.timNowLo.nvm = s.nvm ∧ s.timNowLo.upd = s.upd ∧
    s.timNowLo.prf = s.prf ∧ s.timNowLo.free = s.free ∧ s.timNowLo.pending = s.pending := by
  simp [State.timNowLo]

@[simp] theorem State.timTbaseLo_frame (s : State) : s.timTbaseLo.ms = s.ms ∧ s.timTbaseLo.rrq = s.rrq ∧
    s.timTbaseLo.lanes = s.lanes ∧ s.timTbaseLo.fld = s.fld ∧ s.timTbaseLo.vot = s.vot ∧ s.timTbaseLo.pair = s.pair
    ∧ s.timTbaseLo.aon = s.aon ∧ s.timTbaseLo.pwr = s.pwr ∧ s.timTbaseLo.sh = s.sh ∧ s.timTbaseLo.crc = s.crc ∧
    s.timTbaseLo.mail = s.mail ∧ s.timTbaseLo.net = s.net ∧ s.timTbaseLo.gal = s.gal ∧ s.timTbaseLo.buf = s.buf ∧
    s.timTbaseLo.log = s.log ∧ s.timTbaseLo.fuses = s.fuses ∧ s.timTbaseLo.nvm = s.nvm ∧ s.timTbaseLo.upd = s.upd ∧
    s.timTbaseLo.prf = s.prf ∧ s.timTbaseLo.free = s.free ∧ s.timTbaseLo.pending = s.pending := by
  simp [State.timTbaseLo]

end Sys2Proof.Machine
end

