-- ==== Sys2Proof/Laws/FrameGalleries.lean ====
section
/-!
SUPPORT. The frame of each operation of Machine/Galleries.lean: the parts of State that it leaves as they were.
-/

namespace Sys2Proof.Machine

@[simp] theorem State.loadGalleries_frame (s : State) (part : NodePart) : (s.loadGalleries part).ms = s.ms ∧
    (s.loadGalleries part).rrq = s.rrq ∧ (s.loadGalleries part).lanes = s.lanes ∧ (s.loadGalleries part).fld = s.fld
    ∧ (s.loadGalleries part).vot = s.vot ∧ (s.loadGalleries part).pair = s.pair ∧ (s.loadGalleries part).aon = s.aon
    ∧ (s.loadGalleries part).pwr = s.pwr ∧ (s.loadGalleries part).sh = s.sh ∧ (s.loadGalleries part).crc = s.crc ∧
    (s.loadGalleries part).mail = s.mail ∧ (s.loadGalleries part).net = s.net ∧ (s.loadGalleries part).tim = s.tim ∧
    (s.loadGalleries part).buf = s.buf ∧ (s.loadGalleries part).log = s.log ∧ (s.loadGalleries part).fuses = s.fuses
    ∧ (s.loadGalleries part).nvm = s.nvm ∧ (s.loadGalleries part).upd = s.upd ∧ (s.loadGalleries part).prf = s.prf ∧
    (s.loadGalleries part).host = s.host ∧ (s.loadGalleries part).free = s.free ∧
    (s.loadGalleries part).pending = s.pending := by
  simp [State.loadGalleries]

@[simp] theorem State.modGallery_frame (s : State) (g : Fin 8) (f : Gallery → Gallery) :
    (s.modGallery g f).ms = s.ms ∧ (s.modGallery g f).rrq = s.rrq ∧ (s.modGallery g f).lanes = s.lanes ∧
    (s.modGallery g f).fld = s.fld ∧ (s.modGallery g f).vot = s.vot ∧ (s.modGallery g f).pair = s.pair ∧
    (s.modGallery g f).aon = s.aon ∧ (s.modGallery g f).pwr = s.pwr ∧ (s.modGallery g f).sh = s.sh ∧
    (s.modGallery g f).crc = s.crc ∧ (s.modGallery g f).mail = s.mail ∧ (s.modGallery g f).net = s.net ∧
    (s.modGallery g f).tim = s.tim ∧ (s.modGallery g f).buf = s.buf ∧ (s.modGallery g f).log = s.log ∧
    (s.modGallery g f).fuses = s.fuses ∧ (s.modGallery g f).nvm = s.nvm ∧ (s.modGallery g f).upd = s.upd ∧
    (s.modGallery g f).prf = s.prf ∧ (s.modGallery g f).host = s.host ∧ (s.modGallery g f).free = s.free ∧
    (s.modGallery g f).pending = s.pending := by
  simp [State.modGallery]

@[simp] theorem State.galDrop_frame (s : State) (m : Master) (g : Fin 8) : (s.galDrop m g).ms = s.ms ∧
    (s.galDrop m g).rrq = s.rrq ∧ (s.galDrop m g).lanes = s.lanes ∧ (s.galDrop m g).fld = s.fld ∧
    (s.galDrop m g).vot = s.vot ∧ (s.galDrop m g).pair = s.pair ∧ (s.galDrop m g).aon = s.aon ∧
    (s.galDrop m g).pwr = s.pwr ∧ (s.galDrop m g).sh = s.sh ∧ (s.galDrop m g).crc = s.crc ∧
    (s.galDrop m g).mail = s.mail ∧ (s.galDrop m g).net = s.net ∧ (s.galDrop m g).tim = s.tim ∧
    (s.galDrop m g).buf = s.buf ∧ (s.galDrop m g).log = s.log ∧ (s.galDrop m g).fuses = s.fuses ∧
    (s.galDrop m g).nvm = s.nvm ∧ (s.galDrop m g).upd = s.upd ∧ (s.galDrop m g).prf = s.prf ∧
    (s.galDrop m g).host = s.host ∧ (s.galDrop m g).free = s.free ∧ (s.galDrop m g).pending = s.pending := by
  simp [State.galDrop]

@[simp] theorem State.galEntryPut_frame (s : State) (m : Master) (g : Fin 8) (p : Port) (idx : Fin 4096) (entry :
    DWord) : (s.galEntryPut m g p idx entry).ms = s.ms ∧ (s.galEntryPut m g p idx entry).rrq = s.rrq ∧
    (s.galEntryPut m g p idx entry).lanes = s.lanes ∧ (s.galEntryPut m g p idx entry).fld = s.fld ∧
    (s.galEntryPut m g p idx entry).vot = s.vot ∧ (s.galEntryPut m g p idx entry).pair = s.pair ∧
    (s.galEntryPut m g p idx entry).aon = s.aon ∧ (s.galEntryPut m g p idx entry).pwr = s.pwr ∧
    (s.galEntryPut m g p idx entry).sh = s.sh ∧ (s.galEntryPut m g p idx entry).crc = s.crc ∧
    (s.galEntryPut m g p idx entry).mail = s.mail ∧ (s.galEntryPut m g p idx entry).net = s.net ∧
    (s.galEntryPut m g p idx entry).tim = s.tim ∧ (s.galEntryPut m g p idx entry).buf = s.buf ∧
    (s.galEntryPut m g p idx entry).log = s.log ∧ (s.galEntryPut m g p idx entry).fuses = s.fuses ∧
    (s.galEntryPut m g p idx entry).nvm = s.nvm ∧ (s.galEntryPut m g p idx entry).upd = s.upd ∧
    (s.galEntryPut m g p idx entry).prf = s.prf ∧ (s.galEntryPut m g p idx entry).host = s.host ∧
    (s.galEntryPut m g p idx entry).free = s.free ∧ (s.galEntryPut m g p idx entry).pending = s.pending := by
  simp [State.galEntryPut]

@[simp] theorem State.galCommitPut_frame (s : State) (m : Master) (g : Fin 8) (digest : DWord) :
    (s.galCommitPut m g digest).ms = s.ms ∧ (s.galCommitPut m g digest).rrq = s.rrq ∧
    (s.galCommitPut m g digest).lanes = s.lanes ∧ (s.galCommitPut m g digest).fld = s.fld ∧
    (s.galCommitPut m g digest).vot = s.vot ∧ (s.galCommitPut m g digest).pair = s.pair ∧
    (s.galCommitPut m g digest).aon = s.aon ∧ (s.galCommitPut m g digest).pwr = s.pwr ∧
    (s.galCommitPut m g digest).sh = s.sh ∧ (s.galCommitPut m g digest).crc = s.crc ∧
    (s.galCommitPut m g digest).mail = s.mail ∧ (s.galCommitPut m g digest).net = s.net ∧
    (s.galCommitPut m g digest).tim = s.tim ∧ (s.galCommitPut m g digest).buf = s.buf ∧
    (s.galCommitPut m g digest).log = s.log ∧ (s.galCommitPut m g digest).fuses = s.fuses ∧
    (s.galCommitPut m g digest).nvm = s.nvm ∧ (s.galCommitPut m g digest).upd = s.upd ∧
    (s.galCommitPut m g digest).prf = s.prf ∧ (s.galCommitPut m g digest).host = s.host ∧
    (s.galCommitPut m g digest).free = s.free ∧ (s.galCommitPut m g digest).pending = s.pending := by
  simp [State.galCommitPut]

@[simp] theorem State.startSwitch_frame (s : State) (g : Fin 8) (q : Request) : (s.startSwitch g q).ms = s.ms ∧
    (s.startSwitch g q).rrq = s.rrq ∧ (s.startSwitch g q).lanes = s.lanes ∧ (s.startSwitch g q).fld = s.fld ∧
    (s.startSwitch g q).vot = s.vot ∧ (s.startSwitch g q).pair = s.pair ∧ (s.startSwitch g q).aon = s.aon ∧
    (s.startSwitch g q).pwr = s.pwr ∧ (s.startSwitch g q).sh = s.sh ∧ (s.startSwitch g q).crc = s.crc ∧
    (s.startSwitch g q).mail = s.mail ∧ (s.startSwitch g q).net = s.net ∧ (s.startSwitch g q).tim = s.tim ∧
    (s.startSwitch g q).buf = s.buf ∧ (s.startSwitch g q).log = s.log ∧ (s.startSwitch g q).fuses = s.fuses ∧
    (s.startSwitch g q).nvm = s.nvm ∧ (s.startSwitch g q).upd = s.upd ∧ (s.startSwitch g q).prf = s.prf ∧
    (s.startSwitch g q).host = s.host ∧ (s.startSwitch g q).free = s.free ∧ (s.startSwitch g q).pending = s.pending
    := by
  simp [State.startSwitch]

@[simp] theorem State.announced_frame (s : State) (g : Fin 8) (n a : Tick) (unit : BitVec 12) :
    (s.announced g n a unit).ms = s.ms ∧ (s.announced g n a unit).rrq = s.rrq ∧
    (s.announced g n a unit).lanes = s.lanes ∧ (s.announced g n a unit).fld = s.fld ∧
    (s.announced g n a unit).vot = s.vot ∧ (s.announced g n a unit).pair = s.pair ∧
    (s.announced g n a unit).aon = s.aon ∧ (s.announced g n a unit).pwr = s.pwr ∧ (s.announced g n a unit).sh = s.sh
    ∧ (s.announced g n a unit).crc = s.crc ∧ (s.announced g n a unit).mail = s.mail ∧
    (s.announced g n a unit).net = s.net ∧ (s.announced g n a unit).tim = s.tim ∧
    (s.announced g n a unit).buf = s.buf ∧ (s.announced g n a unit).log = s.log ∧
    (s.announced g n a unit).fuses = s.fuses ∧ (s.announced g n a unit).nvm = s.nvm ∧
    (s.announced g n a unit).upd = s.upd ∧ (s.announced g n a unit).prf = s.prf ∧
    (s.announced g n a unit).host = s.host ∧ (s.announced g n a unit).free = s.free ∧
    (s.announced g n a unit).pending = s.pending := by
  simp [State.announced]

@[simp] theorem State.galSilence_frame (s : State) : s.galSilence.ms = s.ms ∧ s.galSilence.rrq = s.rrq ∧
    s.galSilence.lanes = s.lanes ∧ s.galSilence.fld = s.fld ∧ s.galSilence.vot = s.vot ∧ s.galSilence.pair = s.pair
    ∧ s.galSilence.aon = s.aon ∧ s.galSilence.pwr = s.pwr ∧ s.galSilence.sh = s.sh ∧ s.galSilence.crc = s.crc ∧
    s.galSilence.buf = s.buf ∧ s.galSilence.fuses = s.fuses ∧ s.galSilence.nvm = s.nvm ∧ s.galSilence.upd = s.upd ∧
    s.galSilence.prf = s.prf ∧ s.galSilence.free = s.free ∧ s.galSilence.pending = s.pending := by
  simp [State.galSilence]

@[simp] theorem State.unlockPrevious_frame (s : State) : s.unlockPrevious.ms = s.ms ∧ s.unlockPrevious.rrq = s.rrq ∧
    s.unlockPrevious.lanes = s.lanes ∧ s.unlockPrevious.fld = s.fld ∧ s.unlockPrevious.vot = s.vot ∧
    s.unlockPrevious.pair = s.pair ∧ s.unlockPrevious.aon = s.aon ∧ s.unlockPrevious.pwr = s.pwr ∧
    s.unlockPrevious.sh = s.sh ∧ s.unlockPrevious.crc = s.crc ∧ s.unlockPrevious.mail = s.mail ∧
    s.unlockPrevious.net = s.net ∧ s.unlockPrevious.tim = s.tim ∧ s.unlockPrevious.buf = s.buf ∧
    s.unlockPrevious.log = s.log ∧ s.unlockPrevious.fuses = s.fuses ∧ s.unlockPrevious.nvm = s.nvm ∧
    s.unlockPrevious.upd = s.upd ∧ s.unlockPrevious.prf = s.prf ∧ s.unlockPrevious.host = s.host ∧
    s.unlockPrevious.free = s.free ∧ s.unlockPrevious.pending = s.pending := by
  simp [State.unlockPrevious]

end Sys2Proof.Machine
end

