-- ==== Sys2Proof/Laws/FrameEngine.lean ====
section
/-!
SUPPORT. The frame of each operation of Machine/Engine.lean: the parts of State that it leaves as they were.
-/

namespace Sys2Proof.Machine

@[simp] theorem State.modPort_frame (s : State) (p : Port) (f : PortSt → PortSt) : (s.modPort p f).ms = s.ms ∧
    (s.modPort p f).rrq = s.rrq ∧ (s.modPort p f).lanes = s.lanes ∧ (s.modPort p f).fld = s.fld ∧
    (s.modPort p f).vot = s.vot ∧ (s.modPort p f).pair = s.pair ∧ (s.modPort p f).aon = s.aon ∧
    (s.modPort p f).pwr = s.pwr ∧ (s.modPort p f).sh = s.sh ∧ (s.modPort p f).crc = s.crc ∧
    (s.modPort p f).mail = s.mail ∧ (s.modPort p f).tim = s.tim ∧ (s.modPort p f).gal = s.gal ∧
    (s.modPort p f).buf = s.buf ∧ (s.modPort p f).log = s.log ∧ (s.modPort p f).fuses = s.fuses ∧
    (s.modPort p f).nvm = s.nvm ∧ (s.modPort p f).upd = s.upd ∧ (s.modPort p f).prf = s.prf ∧
    (s.modPort p f).host = s.host ∧ (s.modPort p f).free = s.free ∧ (s.modPort p f).pending = s.pending := by
  simp [State.modPort]

@[simp] theorem State.alarmPort_frame (s : State) (code : Byte) (p : Port) (detail : List Byte) :
    (s.alarmPort code p detail).ms = s.ms ∧ (s.alarmPort code p detail).rrq = s.rrq ∧
    (s.alarmPort code p detail).lanes = s.lanes ∧ (s.alarmPort code p detail).fld = s.fld ∧
    (s.alarmPort code p detail).vot = s.vot ∧ (s.alarmPort code p detail).pair = s.pair ∧
    (s.alarmPort code p detail).aon = s.aon ∧ (s.alarmPort code p detail).pwr = s.pwr ∧
    (s.alarmPort code p detail).sh = s.sh ∧ (s.alarmPort code p detail).crc = s.crc ∧
    (s.alarmPort code p detail).net = s.net ∧ (s.alarmPort code p detail).tim = s.tim ∧
    (s.alarmPort code p detail).gal = s.gal ∧ (s.alarmPort code p detail).buf = s.buf ∧
    (s.alarmPort code p detail).fuses = s.fuses ∧ (s.alarmPort code p detail).nvm = s.nvm ∧
    (s.alarmPort code p detail).upd = s.upd ∧ (s.alarmPort code p detail).prf = s.prf ∧
    (s.alarmPort code p detail).free = s.free ∧ (s.alarmPort code p detail).pending = s.pending := by
  simp [State.alarmPort]

@[simp] theorem State.send_frame (s : State) (p : Port) (bs : List Byte) : (s.send p bs).ms = s.ms ∧
    (s.send p bs).rrq = s.rrq ∧ (s.send p bs).lanes = s.lanes ∧ (s.send p bs).fld = s.fld ∧
    (s.send p bs).vot = s.vot ∧ (s.send p bs).pair = s.pair ∧ (s.send p bs).aon = s.aon ∧ (s.send p bs).pwr = s.pwr
    ∧ (s.send p bs).sh = s.sh ∧ (s.send p bs).crc = s.crc ∧ (s.send p bs).mail = s.mail ∧ (s.send p bs).tim = s.tim
    ∧ (s.send p bs).gal = s.gal ∧ (s.send p bs).buf = s.buf ∧ (s.send p bs).log = s.log ∧
    (s.send p bs).fuses = s.fuses ∧ (s.send p bs).nvm = s.nvm ∧ (s.send p bs).upd = s.upd ∧
    (s.send p bs).prf = s.prf ∧ (s.send p bs).host = s.host ∧ (s.send p bs).free = s.free ∧
    (s.send p bs).pending = s.pending := by
  simp [State.send]

@[simp] theorem State.fullSilence_frame (s : State) (code : BitVec 3) : (s.fullSilence code).ms = s.ms ∧
    (s.fullSilence code).rrq = s.rrq ∧ (s.fullSilence code).lanes = s.lanes ∧ (s.fullSilence code).fld = s.fld ∧
    (s.fullSilence code).vot = s.vot ∧ (s.fullSilence code).pair = s.pair ∧ (s.fullSilence code).aon = s.aon ∧
    (s.fullSilence code).pwr = s.pwr ∧ (s.fullSilence code).crc = s.crc ∧ (s.fullSilence code).tim = s.tim ∧
    (s.fullSilence code).gal = s.gal ∧ (s.fullSilence code).buf = s.buf ∧ (s.fullSilence code).fuses = s.fuses ∧
    (s.fullSilence code).nvm = s.nvm ∧ (s.fullSilence code).upd = s.upd ∧ (s.fullSilence code).prf = s.prf ∧
    (s.fullSilence code).free = s.free ∧ (s.fullSilence code).pending = s.pending := by
  simp [State.fullSilence]

@[simp] theorem State.guard_frame (s : State) : s.guard.ms = s.ms ∧ s.guard.rrq = s.rrq ∧ s.guard.lanes = s.lanes ∧
    s.guard.fld = s.fld ∧ s.guard.vot = s.vot ∧ s.guard.pair = s.pair ∧ s.guard.aon = s.aon ∧ s.guard.pwr = s.pwr ∧
    s.guard.sh = s.sh ∧ s.guard.crc = s.crc ∧ s.guard.gal = s.gal ∧ s.guard.buf = s.buf ∧ s.guard.fuses = s.fuses ∧
    s.guard.nvm = s.nvm ∧ s.guard.upd = s.upd ∧ s.guard.prf = s.prf ∧ s.guard.free = s.free ∧
    s.guard.pending = s.pending := by
  simp [State.guard]

@[simp] theorem State.accepted_frame (s : State) (devNs : Int) : (s.accepted devNs).ms = s.ms ∧
    (s.accepted devNs).rrq = s.rrq ∧ (s.accepted devNs).lanes = s.lanes ∧ (s.accepted devNs).fld = s.fld ∧
    (s.accepted devNs).vot = s.vot ∧ (s.accepted devNs).pair = s.pair ∧ (s.accepted devNs).aon = s.aon ∧
    (s.accepted devNs).pwr = s.pwr ∧ (s.accepted devNs).sh = s.sh ∧ (s.accepted devNs).crc = s.crc ∧
    (s.accepted devNs).gal = s.gal ∧ (s.accepted devNs).buf = s.buf ∧ (s.accepted devNs).fuses = s.fuses ∧
    (s.accepted devNs).nvm = s.nvm ∧ (s.accepted devNs).upd = s.upd ∧ (s.accepted devNs).prf = s.prf ∧
    (s.accepted devNs).free = s.free ∧ (s.accepted devNs).pending = s.pending := by
  simp [State.accepted]

@[simp] theorem State.retreat_frame (s : State) : s.retreat.ms = s.ms ∧ s.retreat.rrq = s.rrq ∧
    s.retreat.lanes = s.lanes ∧ s.retreat.fld = s.fld ∧ s.retreat.vot = s.vot ∧ s.retreat.pair = s.pair ∧
    s.retreat.aon = s.aon ∧ s.retreat.pwr = s.pwr ∧ s.retreat.sh = s.sh ∧ s.retreat.crc = s.crc ∧
    s.retreat.tim = s.tim ∧ s.retreat.gal = s.gal ∧ s.retreat.buf = s.buf ∧ s.retreat.fuses = s.fuses ∧
    s.retreat.nvm = s.nvm ∧ s.retreat.upd = s.upd ∧ s.retreat.prf = s.prf ∧ s.retreat.free = s.free ∧
    s.retreat.pending = s.pending := by
  simp [State.retreat]

@[simp] theorem State.bad_frame (s : State) (p : Port) (corrupt : Bool) : (s.bad p corrupt).ms = s.ms ∧
    (s.bad p corrupt).rrq = s.rrq ∧ (s.bad p corrupt).lanes = s.lanes ∧ (s.bad p corrupt).fld = s.fld ∧
    (s.bad p corrupt).vot = s.vot ∧ (s.bad p corrupt).pair = s.pair ∧ (s.bad p corrupt).aon = s.aon ∧
    (s.bad p corrupt).pwr = s.pwr ∧ (s.bad p corrupt).sh = s.sh ∧ (s.bad p corrupt).crc = s.crc ∧
    (s.bad p corrupt).tim = s.tim ∧ (s.bad p corrupt).gal = s.gal ∧ (s.bad p corrupt).buf = s.buf ∧
    (s.bad p corrupt).fuses = s.fuses ∧ (s.bad p corrupt).nvm = s.nvm ∧ (s.bad p corrupt).upd = s.upd ∧
    (s.bad p corrupt).prf = s.prf ∧ (s.bad p corrupt).free = s.free ∧ (s.bad p corrupt).pending = s.pending := by
  simp [State.bad]

@[simp] theorem State.edgeDrop_frame (s : State) (p : Port) : (s.edgeDrop p).ms = s.ms ∧ (s.edgeDrop p).rrq = s.rrq
    ∧ (s.edgeDrop p).lanes = s.lanes ∧ (s.edgeDrop p).fld = s.fld ∧ (s.edgeDrop p).vot = s.vot ∧
    (s.edgeDrop p).pair = s.pair ∧ (s.edgeDrop p).aon = s.aon ∧ (s.edgeDrop p).pwr = s.pwr ∧
    (s.edgeDrop p).sh = s.sh ∧ (s.edgeDrop p).crc = s.crc ∧ (s.edgeDrop p).tim = s.tim ∧ (s.edgeDrop p).gal = s.gal
    ∧ (s.edgeDrop p).buf = s.buf ∧ (s.edgeDrop p).fuses = s.fuses ∧ (s.edgeDrop p).nvm = s.nvm ∧
    (s.edgeDrop p).upd = s.upd ∧ (s.edgeDrop p).prf = s.prf ∧ (s.edgeDrop p).free = s.free ∧
    (s.edgeDrop p).pending = s.pending := by
  simp [State.edgeDrop]

@[simp] theorem State.sendOn_frame (s : State) (q : Port) (resNs : Nat) (bs : List Byte) :
    (s.sendOn q resNs bs).ms = s.ms ∧ (s.sendOn q resNs bs).rrq = s.rrq ∧ (s.sendOn q resNs bs).lanes = s.lanes ∧
    (s.sendOn q resNs bs).fld = s.fld ∧ (s.sendOn q resNs bs).vot = s.vot ∧ (s.sendOn q resNs bs).pair = s.pair ∧
    (s.sendOn q resNs bs).aon = s.aon ∧ (s.sendOn q resNs bs).pwr = s.pwr ∧ (s.sendOn q resNs bs).crc = s.crc ∧
    (s.sendOn q resNs bs).tim = s.tim ∧ (s.sendOn q resNs bs).gal = s.gal ∧ (s.sendOn q resNs bs).buf = s.buf ∧
    (s.sendOn q resNs bs).fuses = s.fuses ∧ (s.sendOn q resNs bs).nvm = s.nvm ∧ (s.sendOn q resNs bs).upd = s.upd ∧
    (s.sendOn q resNs bs).prf = s.prf ∧ (s.sendOn q resNs bs).free = s.free ∧
    (s.sendOn q resNs bs).pending = s.pending := by
  simp [State.sendOn]

@[simp] theorem State.forward_frame (s : State) (p : Port) (resNs : Nat) (body : List Byte) :
    (s.forward p resNs body).ms = s.ms ∧ (s.forward p resNs body).rrq = s.rrq ∧
    (s.forward p resNs body).lanes = s.lanes ∧ (s.forward p resNs body).fld = s.fld ∧
    (s.forward p resNs body).vot = s.vot ∧ (s.forward p resNs body).pair = s.pair ∧
    (s.forward p resNs body).aon = s.aon ∧ (s.forward p resNs body).pwr = s.pwr ∧
    (s.forward p resNs body).crc = s.crc ∧ (s.forward p resNs body).tim = s.tim ∧
    (s.forward p resNs body).gal = s.gal ∧ (s.forward p resNs body).buf = s.buf ∧
    (s.forward p resNs body).fuses = s.fuses ∧ (s.forward p resNs body).nvm = s.nvm ∧
    (s.forward p resNs body).upd = s.upd ∧ (s.forward p resNs body).prf = s.prf ∧
    (s.forward p resNs body).free = s.free ∧ (s.forward p resNs body).pending = s.pending := by
  unfold State.forward
  (repeat' split) <;> simp

@[simp] theorem State.bridge_frame (s : State) (e : DWord) (body : List Byte) : (s.bridge e body).ms = s.ms ∧
    (s.bridge e body).rrq = s.rrq ∧ (s.bridge e body).lanes = s.lanes ∧ (s.bridge e body).fld = s.fld ∧
    (s.bridge e body).vot = s.vot ∧ (s.bridge e body).pair = s.pair ∧ (s.bridge e body).aon = s.aon ∧
    (s.bridge e body).pwr = s.pwr ∧ (s.bridge e body).sh = s.sh ∧ (s.bridge e body).crc = s.crc ∧
    (s.bridge e body).mail = s.mail ∧ (s.bridge e body).net = s.net ∧ (s.bridge e body).tim = s.tim ∧
    (s.bridge e body).gal = s.gal ∧ (s.bridge e body).log = s.log ∧ (s.bridge e body).fuses = s.fuses ∧
    (s.bridge e body).nvm = s.nvm ∧ (s.bridge e body).upd = s.upd ∧ (s.bridge e body).prf = s.prf ∧
    (s.bridge e body).host = s.host ∧ (s.bridge e body).free = s.free ∧ (s.bridge e body).pending = s.pending := by
  simp [State.bridge]

@[simp] theorem State.seeDuplicate_frame (s : State) : s.seeDuplicate.ms = s.ms ∧ s.seeDuplicate.rrq = s.rrq ∧
    s.seeDuplicate.lanes = s.lanes ∧ s.seeDuplicate.fld = s.fld ∧ s.seeDuplicate.vot = s.vot ∧
    s.seeDuplicate.aon = s.aon ∧ s.seeDuplicate.pwr = s.pwr ∧ s.seeDuplicate.sh = s.sh ∧ s.seeDuplicate.crc = s.crc
    ∧ s.seeDuplicate.net = s.net ∧ s.seeDuplicate.tim = s.tim ∧ s.seeDuplicate.gal = s.gal ∧
    s.seeDuplicate.buf = s.buf ∧ s.seeDuplicate.fuses = s.fuses ∧ s.seeDuplicate.nvm = s.nvm ∧
    s.seeDuplicate.upd = s.upd ∧ s.seeDuplicate.prf = s.prf ∧ s.seeDuplicate.free = s.free ∧
    s.seeDuplicate.pending = s.pending := by
  simp [State.seeDuplicate]

@[simp] theorem State.deliver_frame (s : State) (body : List Byte) : (s.deliver body).ms = s.ms ∧
    (s.deliver body).rrq = s.rrq ∧ (s.deliver body).lanes = s.lanes ∧ (s.deliver body).fld = s.fld ∧
    (s.deliver body).vot = s.vot ∧ (s.deliver body).pair = s.pair ∧ (s.deliver body).aon = s.aon ∧
    (s.deliver body).pwr = s.pwr ∧ (s.deliver body).sh = s.sh ∧ (s.deliver body).crc = s.crc ∧
    (s.deliver body).mail = s.mail ∧ (s.deliver body).net = s.net ∧ (s.deliver body).tim = s.tim ∧
    (s.deliver body).gal = s.gal ∧ (s.deliver body).log = s.log ∧ (s.deliver body).fuses = s.fuses ∧
    (s.deliver body).nvm = s.nvm ∧ (s.deliver body).upd = s.upd ∧ (s.deliver body).prf = s.prf ∧
    (s.deliver body).host = s.host ∧ (s.deliver body).free = s.free ∧ (s.deliver body).pending = s.pending := by
  simp [State.deliver]

@[simp] theorem State.watchId_frame (s : State) (body : List Byte) : (s.watchId body).ms = s.ms ∧
    (s.watchId body).rrq = s.rrq ∧ (s.watchId body).lanes = s.lanes ∧ (s.watchId body).fld = s.fld ∧
    (s.watchId body).vot = s.vot ∧ (s.watchId body).aon = s.aon ∧ (s.watchId body).pwr = s.pwr ∧
    (s.watchId body).sh = s.sh ∧ (s.watchId body).crc = s.crc ∧ (s.watchId body).net = s.net ∧
    (s.watchId body).tim = s.tim ∧ (s.watchId body).gal = s.gal ∧ (s.watchId body).buf = s.buf ∧
    (s.watchId body).fuses = s.fuses ∧ (s.watchId body).nvm = s.nvm ∧ (s.watchId body).upd = s.upd ∧
    (s.watchId body).prf = s.prf ∧ (s.watchId body).free = s.free ∧ (s.watchId body).pending = s.pending := by
  simp [State.watchId]

@[simp] theorem State.blockStart_frame (s : State) : s.blockStart.ms = s.ms ∧ s.blockStart.rrq = s.rrq ∧
    s.blockStart.lanes = s.lanes ∧ s.blockStart.fld = s.fld ∧ s.blockStart.vot = s.vot ∧ s.blockStart.pair = s.pair
    ∧ s.blockStart.aon = s.aon ∧ s.blockStart.pwr = s.pwr ∧ s.blockStart.crc = s.crc ∧ s.blockStart.tim = s.tim ∧
    s.blockStart.gal = s.gal ∧ s.blockStart.buf = s.buf ∧ s.blockStart.fuses = s.fuses ∧ s.blockStart.nvm = s.nvm ∧
    s.blockStart.upd = s.upd ∧ s.blockStart.prf = s.prf ∧ s.blockStart.free = s.free ∧
    s.blockStart.pending = s.pending := by
  simp [State.blockStart]

@[simp] theorem State.sendAt_frame (s : State) (p : Port) (e : DWord) (devNs : Int) (bs : List Byte) :
    (s.sendAt p e devNs bs).ms = s.ms ∧ (s.sendAt p e devNs bs).rrq = s.rrq ∧
    (s.sendAt p e devNs bs).lanes = s.lanes ∧ (s.sendAt p e devNs bs).fld = s.fld ∧
    (s.sendAt p e devNs bs).vot = s.vot ∧ (s.sendAt p e devNs bs).pair = s.pair ∧
    (s.sendAt p e devNs bs).aon = s.aon ∧ (s.sendAt p e devNs bs).pwr = s.pwr ∧ (s.sendAt p e devNs bs).crc = s.crc
    ∧ (s.sendAt p e devNs bs).tim = s.tim ∧ (s.sendAt p e devNs bs).gal = s.gal ∧
    (s.sendAt p e devNs bs).buf = s.buf ∧ (s.sendAt p e devNs bs).fuses = s.fuses ∧
    (s.sendAt p e devNs bs).nvm = s.nvm ∧ (s.sendAt p e devNs bs).upd = s.upd ∧ (s.sendAt p e devNs bs).prf = s.prf
    ∧ (s.sendAt p e devNs bs).free = s.free ∧ (s.sendAt p e devNs bs).pending = s.pending := by
  simp [State.sendAt]

@[simp] theorem State.sendStream_frame (s : State) (p : Port) (e : DWord) (devNs : Int) :
    (s.sendStream p e devNs).ms = s.ms ∧ (s.sendStream p e devNs).rrq = s.rrq ∧
    (s.sendStream p e devNs).lanes = s.lanes ∧ (s.sendStream p e devNs).fld = s.fld ∧
    (s.sendStream p e devNs).vot = s.vot ∧ (s.sendStream p e devNs).pair = s.pair ∧
    (s.sendStream p e devNs).aon = s.aon ∧ (s.sendStream p e devNs).pwr = s.pwr ∧
    (s.sendStream p e devNs).crc = s.crc ∧ (s.sendStream p e devNs).tim = s.tim ∧
    (s.sendStream p e devNs).gal = s.gal ∧ (s.sendStream p e devNs).fuses = s.fuses ∧
    (s.sendStream p e devNs).nvm = s.nvm ∧ (s.sendStream p e devNs).upd = s.upd ∧
    (s.sendStream p e devNs).prf = s.prf ∧ (s.sendStream p e devNs).free = s.free ∧
    (s.sendStream p e devNs).pending = s.pending := by
  unfold State.sendStream
  dsimp only
  (repeat' split) <;> simp (disch := (intros; (repeat' split) <;> simp))

@[simp] theorem State.sendBulk_frame (s : State) (p : Port) (e : DWord) (devNs : Int) (c : StreamCfg) (dst : BitVec
    12) (items : Nat) : (s.sendBulk p e devNs c dst items).ms = s.ms ∧
    (s.sendBulk p e devNs c dst items).rrq = s.rrq ∧ (s.sendBulk p e devNs c dst items).lanes = s.lanes ∧
    (s.sendBulk p e devNs c dst items).fld = s.fld ∧ (s.sendBulk p e devNs c dst items).vot = s.vot ∧
    (s.sendBulk p e devNs c dst items).pair = s.pair ∧ (s.sendBulk p e devNs c dst items).aon = s.aon ∧
    (s.sendBulk p e devNs c dst items).pwr = s.pwr ∧ (s.sendBulk p e devNs c dst items).crc = s.crc ∧
    (s.sendBulk p e devNs c dst items).tim = s.tim ∧ (s.sendBulk p e devNs c dst items).gal = s.gal ∧
    (s.sendBulk p e devNs c dst items).buf = s.buf ∧ (s.sendBulk p e devNs c dst items).fuses = s.fuses ∧
    (s.sendBulk p e devNs c dst items).nvm = s.nvm ∧ (s.sendBulk p e devNs c dst items).upd = s.upd ∧
    (s.sendBulk p e devNs c dst items).prf = s.prf ∧ (s.sendBulk p e devNs c dst items).free = s.free ∧
    (s.sendBulk p e devNs c dst items).pending = s.pending := by
  simp [State.sendBulk]

@[simp] theorem State.sendSlot_frame (s : State) (p : Port) (e : DWord) (devNs : Int) :
    (s.sendSlot p e devNs).ms = s.ms ∧ (s.sendSlot p e devNs).rrq = s.rrq ∧ (s.sendSlot p e devNs).lanes = s.lanes ∧
    (s.sendSlot p e devNs).fld = s.fld ∧ (s.sendSlot p e devNs).vot = s.vot ∧ (s.sendSlot p e devNs).pair = s.pair ∧
    (s.sendSlot p e devNs).aon = s.aon ∧ (s.sendSlot p e devNs).pwr = s.pwr ∧ (s.sendSlot p e devNs).crc = s.crc ∧
    (s.sendSlot p e devNs).tim = s.tim ∧ (s.sendSlot p e devNs).gal = s.gal ∧ (s.sendSlot p e devNs).fuses = s.fuses
    ∧ (s.sendSlot p e devNs).nvm = s.nvm ∧ (s.sendSlot p e devNs).upd = s.upd ∧ (s.sendSlot p e devNs).prf = s.prf ∧
    (s.sendSlot p e devNs).free = s.free ∧ (s.sendSlot p e devNs).pending = s.pending := by
  unfold State.sendSlot
  (repeat' split) <;> simp

end Sys2Proof.Machine
end

