-- ==== Sys2Proof/Laws/FrameBoot.lean ====
section
/-!
SUPPORT. The frame of each operation of Machine/Boot.lean: the parts of State that it leaves as they were.
-/

namespace Sys2Proof.Machine

@[simp] theorem State.bootStart_frame (s : State) : s.bootStart.rrq = s.rrq ∧ s.bootStart.lanes = s.lanes ∧
    s.bootStart.fld = s.fld ∧ s.bootStart.vot = s.vot ∧ s.bootStart.pair = s.pair ∧ s.bootStart.pwr = s.pwr ∧
    s.bootStart.sh = s.sh ∧ s.bootStart.crc = s.crc ∧ s.bootStart.mail = s.mail ∧ s.bootStart.net = s.net ∧
    s.bootStart.tim = s.tim ∧ s.bootStart.gal = s.gal ∧ s.bootStart.buf = s.buf ∧ s.bootStart.log = s.log ∧
    s.bootStart.fuses = s.fuses ∧ s.bootStart.upd = s.upd ∧ s.bootStart.prf = s.prf ∧ s.bootStart.host = s.host ∧
    s.bootStart.free = s.free ∧ s.bootStart.pending = s.pending := by
  simp [State.bootStart]

@[simp] theorem State.moduleReset_frame (s : State) (kind warm : BitVec 4) :
    (s.moduleReset kind warm).fuses = s.fuses ∧ (s.moduleReset kind warm).free = s.free ∧
    (s.moduleReset kind warm).pending = s.pending := by
  simp [State.moduleReset]

@[simp] theorem State.warmReset_frame (s : State) (src : BitVec 4) : (s.warmReset src).fuses = s.fuses ∧
    (s.warmReset src).free = s.free ∧ (s.warmReset src).pending = s.pending := by
  simp [State.warmReset]

@[simp] theorem State.restoreLog_frame (s : State) : s.restoreLog.ms = s.ms ∧ s.restoreLog.rrq = s.rrq ∧
    s.restoreLog.lanes = s.lanes ∧ s.restoreLog.fld = s.fld ∧ s.restoreLog.vot = s.vot ∧ s.restoreLog.pair = s.pair
    ∧ s.restoreLog.aon = s.aon ∧ s.restoreLog.pwr = s.pwr ∧ s.restoreLog.sh = s.sh ∧ s.restoreLog.crc = s.crc ∧
    s.restoreLog.net = s.net ∧ s.restoreLog.tim = s.tim ∧ s.restoreLog.gal = s.gal ∧ s.restoreLog.buf = s.buf ∧
    s.restoreLog.fuses = s.fuses ∧ s.restoreLog.upd = s.upd ∧ s.restoreLog.prf = s.prf ∧ s.restoreLog.free = s.free
    ∧ s.restoreLog.pending = s.pending := by
  unfold State.restoreLog
  (repeat' split) <;> simp

@[simp] theorem State.reportStore_frame (s : State) : s.reportStore.ms = s.ms ∧ s.reportStore.rrq = s.rrq ∧
    s.reportStore.lanes = s.lanes ∧ s.reportStore.fld = s.fld ∧ s.reportStore.vot = s.vot ∧
    s.reportStore.pair = s.pair ∧ s.reportStore.aon = s.aon ∧ s.reportStore.pwr = s.pwr ∧ s.reportStore.sh = s.sh ∧
    s.reportStore.crc = s.crc ∧ s.reportStore.net = s.net ∧ s.reportStore.tim = s.tim ∧ s.reportStore.gal = s.gal ∧
    s.reportStore.buf = s.buf ∧ s.reportStore.fuses = s.fuses ∧ s.reportStore.upd = s.upd ∧
    s.reportStore.prf = s.prf ∧ s.reportStore.free = s.free ∧ s.reportStore.pending = s.pending := by
  unfold State.reportStore
  (repeat' split) <;> simp

@[simp] theorem State.powerOn_frame (s : State) : s.powerOn.fuses = s.fuses ∧ s.powerOn.free = s.free ∧
    s.powerOn.pending = s.pending := by
  simp [State.powerOn]

@[simp] theorem State.hostRegsReset_frame (s : State) : s.hostRegsReset.ms = s.ms ∧ s.hostRegsReset.rrq = s.rrq ∧
    s.hostRegsReset.lanes = s.lanes ∧ s.hostRegsReset.fld = s.fld ∧ s.hostRegsReset.vot = s.vot ∧
    s.hostRegsReset.pair = s.pair ∧ s.hostRegsReset.aon = s.aon ∧ s.hostRegsReset.pwr = s.pwr ∧
    s.hostRegsReset.sh = s.sh ∧ s.hostRegsReset.net = s.net ∧ s.hostRegsReset.tim = s.tim ∧
    s.hostRegsReset.buf = s.buf ∧ s.hostRegsReset.fuses = s.fuses ∧ s.hostRegsReset.nvm = s.nvm ∧
    s.hostRegsReset.free = s.free ∧ s.hostRegsReset.pending = s.pending := by
  simp [State.hostRegsReset]

@[simp] theorem State.hostReset_frame (s : State) : s.hostReset.ms = s.ms ∧ s.hostReset.rrq = s.rrq ∧
    s.hostReset.fld = s.fld ∧ s.hostReset.vot = s.vot ∧ s.hostReset.pair = s.pair ∧ s.hostReset.net = s.net ∧
    s.hostReset.tim = s.tim ∧ s.hostReset.buf = s.buf ∧ s.hostReset.fuses = s.fuses ∧ s.hostReset.nvm = s.nvm ∧
    s.hostReset.free = s.free ∧ s.hostReset.pending = s.pending := by
  simp [State.hostReset]

@[simp] theorem State.loadChcfg_frame (s : State) : s.loadChcfg.ms = s.ms ∧ s.loadChcfg.rrq = s.rrq ∧
    s.loadChcfg.lanes = s.lanes ∧ s.loadChcfg.vot = s.vot ∧ s.loadChcfg.pair = s.pair ∧ s.loadChcfg.aon = s.aon ∧
    s.loadChcfg.pwr = s.pwr ∧ s.loadChcfg.sh = s.sh ∧ s.loadChcfg.crc = s.crc ∧ s.loadChcfg.mail = s.mail ∧
    s.loadChcfg.net = s.net ∧ s.loadChcfg.tim = s.tim ∧ s.loadChcfg.gal = s.gal ∧ s.loadChcfg.buf = s.buf ∧
    s.loadChcfg.log = s.log ∧ s.loadChcfg.fuses = s.fuses ∧ s.loadChcfg.nvm = s.nvm ∧ s.loadChcfg.upd = s.upd ∧
    s.loadChcfg.prf = s.prf ∧ s.loadChcfg.host = s.host ∧ s.loadChcfg.free = s.free ∧
    s.loadChcfg.pending = s.pending := by
  simp [State.loadChcfg]

@[simp] theorem State.enterListen_frame (s : State) : s.enterListen.ms = s.ms ∧ s.enterListen.rrq = s.rrq ∧
    s.enterListen.lanes = s.lanes ∧ s.enterListen.fld = s.fld ∧ s.enterListen.vot = s.vot ∧
    s.enterListen.pair = s.pair ∧ s.enterListen.aon = s.aon ∧ s.enterListen.pwr = s.pwr ∧ s.enterListen.sh = s.sh ∧
    s.enterListen.crc = s.crc ∧ s.enterListen.mail = s.mail ∧ s.enterListen.tim = s.tim ∧ s.enterListen.gal = s.gal
    ∧ s.enterListen.buf = s.buf ∧ s.enterListen.log = s.log ∧ s.enterListen.fuses = s.fuses ∧
    s.enterListen.nvm = s.nvm ∧ s.enterListen.upd = s.upd ∧ s.enterListen.prf = s.prf ∧ s.enterListen.host = s.host
    ∧ s.enterListen.free = s.free ∧ s.enterListen.pending = s.pending := by
  simp [State.enterListen]

@[simp] theorem State.tornRec_frame (s : State) : s.tornRec.ms = s.ms ∧ s.tornRec.rrq = s.rrq ∧
    s.tornRec.lanes = s.lanes ∧ s.tornRec.fld = s.fld ∧ s.tornRec.vot = s.vot ∧ s.tornRec.pair = s.pair ∧
    s.tornRec.aon = s.aon ∧ s.tornRec.pwr = s.pwr ∧ s.tornRec.sh = s.sh ∧ s.tornRec.crc = s.crc ∧
    s.tornRec.mail = s.mail ∧ s.tornRec.net = s.net ∧ s.tornRec.tim = s.tim ∧ s.tornRec.gal = s.gal ∧
    s.tornRec.buf = s.buf ∧ s.tornRec.log = s.log ∧ s.tornRec.fuses = s.fuses ∧ s.tornRec.upd = s.upd ∧
    s.tornRec.prf = s.prf ∧ s.tornRec.host = s.host ∧ s.tornRec.free = s.free ∧ s.tornRec.pending = s.pending := by
  simp [State.tornRec]

@[simp] theorem State.bootRecords_frame (s : State) : s.bootRecords.ms = s.ms ∧ s.bootRecords.rrq = s.rrq ∧
    s.bootRecords.lanes = s.lanes ∧ s.bootRecords.fld = s.fld ∧ s.bootRecords.vot = s.vot ∧
    s.bootRecords.pair = s.pair ∧ s.bootRecords.aon = s.aon ∧ s.bootRecords.pwr = s.pwr ∧ s.bootRecords.sh = s.sh ∧
    s.bootRecords.crc = s.crc ∧ s.bootRecords.net = s.net ∧ s.bootRecords.tim = s.tim ∧ s.bootRecords.gal = s.gal ∧
    s.bootRecords.buf = s.buf ∧ s.bootRecords.fuses = s.fuses ∧ s.bootRecords.prf = s.prf ∧
    s.bootRecords.free = s.free ∧ s.bootRecords.pending = s.pending := by
  simp [State.bootRecords]

@[simp] theorem State.bootCopy_frame (s : State) (lockLow : Bool) : (s.bootCopy lockLow).ms = s.ms ∧
    (s.bootCopy lockLow).rrq = s.rrq ∧ (s.bootCopy lockLow).lanes = s.lanes ∧ (s.bootCopy lockLow).fld = s.fld ∧
    (s.bootCopy lockLow).vot = s.vot ∧ (s.bootCopy lockLow).pair = s.pair ∧ (s.bootCopy lockLow).aon = s.aon ∧
    (s.bootCopy lockLow).pwr = s.pwr ∧ (s.bootCopy lockLow).sh = s.sh ∧ (s.bootCopy lockLow).crc = s.crc ∧
    (s.bootCopy lockLow).mail = s.mail ∧ (s.bootCopy lockLow).net = s.net ∧ (s.bootCopy lockLow).tim = s.tim ∧
    (s.bootCopy lockLow).gal = s.gal ∧ (s.bootCopy lockLow).buf = s.buf ∧ (s.bootCopy lockLow).log = s.log ∧
    (s.bootCopy lockLow).fuses = s.fuses ∧ (s.bootCopy lockLow).upd = s.upd ∧ (s.bootCopy lockLow).prf = s.prf ∧
    (s.bootCopy lockLow).host = s.host ∧ (s.bootCopy lockLow).free = s.free ∧
    (s.bootCopy lockLow).pending = s.pending := by
  simp [State.bootCopy]

@[simp] theorem State.migrate_frame (s : State) (i : Image) (trial : Bool) (can : PerStore Bool) :
    (s.migrate i trial can).ms = s.ms ∧ (s.migrate i trial can).rrq = s.rrq ∧
    (s.migrate i trial can).lanes = s.lanes ∧ (s.migrate i trial can).fld = s.fld ∧
    (s.migrate i trial can).vot = s.vot ∧ (s.migrate i trial can).pair = s.pair ∧
    (s.migrate i trial can).aon = s.aon ∧ (s.migrate i trial can).pwr = s.pwr ∧ (s.migrate i trial can).sh = s.sh ∧
    (s.migrate i trial can).crc = s.crc ∧ (s.migrate i trial can).net = s.net ∧ (s.migrate i trial can).tim = s.tim
    ∧ (s.migrate i trial can).gal = s.gal ∧ (s.migrate i trial can).buf = s.buf ∧
    (s.migrate i trial can).fuses = s.fuses ∧ (s.migrate i trial can).prf = s.prf ∧
    (s.migrate i trial can).free = s.free ∧ (s.migrate i trial can).pending = s.pending := by
  simp [State.migrate]

@[simp] theorem State.bootRun_frame (s : State) (i : Image) (b fallback : Bool) (can : PerStore Bool) (lanes :
    BitVec 3) : (s.bootRun i b fallback can lanes).rrq = s.rrq ∧ (s.bootRun i b fallback can lanes).vot = s.vot ∧
    (s.bootRun i b fallback can lanes).pair = s.pair ∧ (s.bootRun i b fallback can lanes).aon = s.aon ∧
    (s.bootRun i b fallback can lanes).sh = s.sh ∧ (s.bootRun i b fallback can lanes).crc = s.crc ∧
    (s.bootRun i b fallback can lanes).net = s.net ∧ (s.bootRun i b fallback can lanes).tim = s.tim ∧
    (s.bootRun i b fallback can lanes).buf = s.buf ∧ (s.bootRun i b fallback can lanes).fuses = s.fuses ∧
    (s.bootRun i b fallback can lanes).prf = s.prf ∧ (s.bootRun i b fallback can lanes).free = s.free ∧
    (s.bootRun i b fallback can lanes).pending = s.pending := by
  simp [State.bootRun]

@[simp] theorem State.bootEnd_frame (s : State) : s.bootEnd.rrq = s.rrq ∧ s.bootEnd.fld = s.fld ∧
    s.bootEnd.vot = s.vot ∧ s.bootEnd.pair = s.pair ∧ s.bootEnd.aon = s.aon ∧ s.bootEnd.pwr = s.pwr ∧
    s.bootEnd.sh = s.sh ∧ s.bootEnd.crc = s.crc ∧ s.bootEnd.tim = s.tim ∧ s.bootEnd.gal = s.gal ∧
    s.bootEnd.buf = s.buf ∧ s.bootEnd.fuses = s.fuses ∧ s.bootEnd.prf = s.prf ∧ s.bootEnd.free = s.free ∧
    s.bootEnd.pending = s.pending := by
  simp [State.bootEnd]

@[simp] theorem State.loadImgRegs_frame (s : State) (h : ImageHdr) : (s.loadImgRegs h).ms = s.ms ∧
    (s.loadImgRegs h).rrq = s.rrq ∧ (s.loadImgRegs h).lanes = s.lanes ∧ (s.loadImgRegs h).fld = s.fld ∧
    (s.loadImgRegs h).vot = s.vot ∧ (s.loadImgRegs h).pair = s.pair ∧ (s.loadImgRegs h).aon = s.aon ∧
    (s.loadImgRegs h).pwr = s.pwr ∧ (s.loadImgRegs h).sh = s.sh ∧ (s.loadImgRegs h).crc = s.crc ∧
    (s.loadImgRegs h).mail = s.mail ∧ (s.loadImgRegs h).net = s.net ∧ (s.loadImgRegs h).tim = s.tim ∧
    (s.loadImgRegs h).gal = s.gal ∧ (s.loadImgRegs h).buf = s.buf ∧ (s.loadImgRegs h).log = s.log ∧
    (s.loadImgRegs h).fuses = s.fuses ∧ (s.loadImgRegs h).nvm = s.nvm ∧ (s.loadImgRegs h).prf = s.prf ∧
    (s.loadImgRegs h).host = s.host ∧ (s.loadImgRegs h).free = s.free ∧ (s.loadImgRegs h).pending = s.pending := by
  unfold State.loadImgRegs
  simp

@[simp] theorem State.bootFailed_frame (s : State) : s.bootFailed.rrq = s.rrq ∧ s.bootFailed.lanes = s.lanes ∧
    s.bootFailed.fld = s.fld ∧ s.bootFailed.vot = s.vot ∧ s.bootFailed.pair = s.pair ∧ s.bootFailed.pwr = s.pwr ∧
    s.bootFailed.sh = s.sh ∧ s.bootFailed.crc = s.crc ∧ s.bootFailed.mail = s.mail ∧ s.bootFailed.net = s.net ∧
    s.bootFailed.tim = s.tim ∧ s.bootFailed.gal = s.gal ∧ s.bootFailed.buf = s.buf ∧ s.bootFailed.log = s.log ∧
    s.bootFailed.fuses = s.fuses ∧ s.bootFailed.nvm = s.nvm ∧ s.bootFailed.upd = s.upd ∧ s.bootFailed.prf = s.prf ∧
    s.bootFailed.host = s.host ∧ s.bootFailed.free = s.free ∧ s.bootFailed.pending = s.pending := by
  simp [State.bootFailed]

@[simp] theorem State.bootLoad_frame (s : State) (loaded0 loaded1 : PerLane Bool) (c : Bool) (can : PerStore Bool) :
    (s.bootLoad loaded0 loaded1 c can).rrq = s.rrq ∧ (s.bootLoad loaded0 loaded1 c can).vot = s.vot ∧
    (s.bootLoad loaded0 loaded1 c can).pair = s.pair ∧ (s.bootLoad loaded0 loaded1 c can).sh = s.sh ∧
    (s.bootLoad loaded0 loaded1 c can).crc = s.crc ∧ (s.bootLoad loaded0 loaded1 c can).tim = s.tim ∧
    (s.bootLoad loaded0 loaded1 c can).buf = s.buf ∧ (s.bootLoad loaded0 loaded1 c can).prf = s.prf ∧
    (s.bootLoad loaded0 loaded1 c can).free = s.free ∧ (s.bootLoad loaded0 loaded1 c can).pending = s.pending := by
  unfold State.bootLoad
  dsimp only
  (repeat' split) <;> simp (disch := (intros; (repeat' split) <;> simp))

@[simp] theorem State.kat_frame (s : State) (l : Lane) (k : KatRead) : (s.kat l k).ms = s.ms ∧
    (s.kat l k).rrq = s.rrq ∧ (s.kat l k).fld = s.fld ∧ (s.kat l k).vot = s.vot ∧ (s.kat l k).pair = s.pair ∧
    (s.kat l k).aon = s.aon ∧ (s.kat l k).pwr = s.pwr ∧ (s.kat l k).sh = s.sh ∧ (s.kat l k).net = s.net ∧
    (s.kat l k).tim = s.tim ∧ (s.kat l k).gal = s.gal ∧ (s.kat l k).buf = s.buf ∧ (s.kat l k).fuses = s.fuses ∧
    (s.kat l k).nvm = s.nvm ∧ (s.kat l k).upd = s.upd ∧ (s.kat l k).prf = s.prf ∧ (s.kat l k).free = s.free ∧
    (s.kat l k).pending = s.pending := by
  simp [State.kat]

@[simp] theorem State.proveLane_frame (s : State) (l : Lane) (o : ProveObs) : (s.proveLane l o).ms = s.ms ∧
    (s.proveLane l o).rrq = s.rrq ∧ (s.proveLane l o).vot = s.vot ∧ (s.proveLane l o).pair = s.pair ∧
    (s.proveLane l o).net = s.net ∧ (s.proveLane l o).tim = s.tim ∧ (s.proveLane l o).gal = s.gal ∧
    (s.proveLane l o).buf = s.buf ∧ (s.proveLane l o).fuses = s.fuses ∧ (s.proveLane l o).free = s.free ∧
    (s.proveLane l o).pending = s.pending := by
  unfold State.proveLane
  dsimp only
  (repeat' split) <;> simp (disch := (intros; (repeat' split) <;> simp))

@[simp] theorem State.lockAtRest_frame (s : State) (cs : List (Chan × BitVec 4)) : (s.lockAtRest cs).rrq = s.rrq ∧
    (s.lockAtRest cs).pair = s.pair ∧ (s.lockAtRest cs).pwr = s.pwr ∧ (s.lockAtRest cs).sh = s.sh ∧
    (s.lockAtRest cs).crc = s.crc ∧ (s.lockAtRest cs).net = s.net ∧ (s.lockAtRest cs).tim = s.tim ∧
    (s.lockAtRest cs).gal = s.gal ∧ (s.lockAtRest cs).buf = s.buf ∧ (s.lockAtRest cs).fuses = s.fuses ∧
    (s.lockAtRest cs).prf = s.prf ∧ (s.lockAtRest cs).free = s.free ∧ (s.lockAtRest cs).pending = s.pending := by
  simp [State.lockAtRest]

@[simp] theorem State.proveMajority_frame (s : State) (maj : List MajRead) (echo : List (Chan × EchoItem)) :
    (s.proveMajority maj echo).rrq = s.rrq ∧ (s.proveMajority maj echo).pair = s.pair ∧
    (s.proveMajority maj echo).pwr = s.pwr ∧ (s.proveMajority maj echo).sh = s.sh ∧
    (s.proveMajority maj echo).crc = s.crc ∧ (s.proveMajority maj echo).net = s.net ∧
    (s.proveMajority maj echo).tim = s.tim ∧ (s.proveMajority maj echo).gal = s.gal ∧
    (s.proveMajority maj echo).buf = s.buf ∧ (s.proveMajority maj echo).fuses = s.fuses ∧
    (s.proveMajority maj echo).prf = s.prf ∧ (s.proveMajority maj echo).free = s.free ∧
    (s.proveMajority maj echo).pending = s.pending := by
  unfold State.proveMajority
  dsimp only
  (repeat' split) <;> simp (disch := (intros; (repeat' split) <;> simp))

@[simp] theorem State.enterJoin_frame (s : State) : s.enterJoin.rrq = s.rrq ∧ s.enterJoin.lanes = s.lanes ∧
    s.enterJoin.fld = s.fld ∧ s.enterJoin.vot = s.vot ∧ s.enterJoin.pair = s.pair ∧ s.enterJoin.aon = s.aon ∧
    s.enterJoin.pwr = s.pwr ∧ s.enterJoin.sh = s.sh ∧ s.enterJoin.crc = s.crc ∧ s.enterJoin.tim = s.tim ∧
    s.enterJoin.gal = s.gal ∧ s.enterJoin.buf = s.buf ∧ s.enterJoin.fuses = s.fuses ∧ s.enterJoin.nvm = s.nvm ∧
    s.enterJoin.upd = s.upd ∧ s.enterJoin.prf = s.prf ∧ s.enterJoin.free = s.free ∧ s.enterJoin.pending = s.pending
    := by
  simp [State.enterJoin]

end Sys2Proof.Machine
end

