-- ==== Sys2Proof/Laws/FramePower.lean ====
section
/-!
SUPPORT. The frame of each operation of Machine/Power.lean: the parts of State that it leaves as they were.
-/

namespace Sys2Proof.Machine

@[simp] theorem State.domainsOff_frame (s : State) : s.domainsOff.rrq = s.rrq ∧ s.domainsOff.vot = s.vot ∧
    s.domainsOff.pair = s.pair ∧ s.domainsOff.fuses = s.fuses ∧ s.domainsOff.free = s.free ∧
    s.domainsOff.pending = s.pending := by
  simp [State.domainsOff]

@[simp] theorem State.essential_frame (s : State) (ms : Nat) : (s.essential ms).ms = s.ms ∧
    (s.essential ms).rrq = s.rrq ∧ (s.essential ms).lanes = s.lanes ∧ (s.essential ms).fld = s.fld ∧
    (s.essential ms).vot = s.vot ∧ (s.essential ms).pair = s.pair ∧ (s.essential ms).pwr = s.pwr ∧
    (s.essential ms).sh = s.sh ∧ (s.essential ms).crc = s.crc ∧ (s.essential ms).mail = s.mail ∧
    (s.essential ms).net = s.net ∧ (s.essential ms).tim = s.tim ∧ (s.essential ms).gal = s.gal ∧
    (s.essential ms).buf = s.buf ∧ (s.essential ms).log = s.log ∧ (s.essential ms).fuses = s.fuses ∧
    (s.essential ms).upd = s.upd ∧ (s.essential ms).prf = s.prf ∧ (s.essential ms).host = s.host ∧
    (s.essential ms).free = s.free ∧ (s.essential ms).pending = s.pending := by
  simp [State.essential]

@[simp] theorem State.archive_frame (s : State) (n : Nat) : (s.archive n).ms = s.ms ∧ (s.archive n).rrq = s.rrq ∧
    (s.archive n).lanes = s.lanes ∧ (s.archive n).fld = s.fld ∧ (s.archive n).vot = s.vot ∧
    (s.archive n).pair = s.pair ∧ (s.archive n).aon = s.aon ∧ (s.archive n).pwr = s.pwr ∧ (s.archive n).sh = s.sh ∧
    (s.archive n).crc = s.crc ∧ (s.archive n).mail = s.mail ∧ (s.archive n).net = s.net ∧ (s.archive n).tim = s.tim
    ∧ (s.archive n).gal = s.gal ∧ (s.archive n).buf = s.buf ∧ (s.archive n).log = s.log ∧
    (s.archive n).fuses = s.fuses ∧ (s.archive n).upd = s.upd ∧ (s.archive n).prf = s.prf ∧
    (s.archive n).host = s.host ∧ (s.archive n).free = s.free ∧ (s.archive n).pending = s.pending := by
  simp [State.archive]

@[simp] theorem State.abortCopy_frame (s : State) : s.abortCopy.ms = s.ms ∧ s.abortCopy.rrq = s.rrq ∧
    s.abortCopy.lanes = s.lanes ∧ s.abortCopy.fld = s.fld ∧ s.abortCopy.vot = s.vot ∧ s.abortCopy.pair = s.pair ∧
    s.abortCopy.aon = s.aon ∧ s.abortCopy.pwr = s.pwr ∧ s.abortCopy.crc = s.crc ∧ s.abortCopy.net = s.net ∧
    s.abortCopy.tim = s.tim ∧ s.abortCopy.gal = s.gal ∧ s.abortCopy.buf = s.buf ∧ s.abortCopy.fuses = s.fuses ∧
    s.abortCopy.prf = s.prf ∧ s.abortCopy.free = s.free ∧ s.abortCopy.pending = s.pending := by
  simp [State.abortCopy]

@[simp] theorem State.testIgnored_frame (s : State) : s.testIgnored.ms = s.ms ∧ s.testIgnored.rrq = s.rrq ∧
    s.testIgnored.lanes = s.lanes ∧ s.testIgnored.fld = s.fld ∧ s.testIgnored.vot = s.vot ∧
    s.testIgnored.pair = s.pair ∧ s.testIgnored.aon = s.aon ∧ s.testIgnored.pwr = s.pwr ∧ s.testIgnored.sh = s.sh ∧
    s.testIgnored.crc = s.crc ∧ s.testIgnored.mail = s.mail ∧ s.testIgnored.net = s.net ∧ s.testIgnored.tim = s.tim
    ∧ s.testIgnored.gal = s.gal ∧ s.testIgnored.buf = s.buf ∧ s.testIgnored.log = s.log ∧
    s.testIgnored.fuses = s.fuses ∧ s.testIgnored.nvm = s.nvm ∧ s.testIgnored.prf = s.prf ∧
    s.testIgnored.host = s.host ∧ s.testIgnored.free = s.free ∧ s.testIgnored.pending = s.pending := by
  simp [State.testIgnored]

end Sys2Proof.Machine
end

