-- ==== Sys2Proof/Laws/FrameResets.lean ====
section
/-!
SUPPORT. The frame of each operation of Machine/Resets.lean: the parts of State that it leaves as they were.
-/

namespace Sys2Proof.Machine

@[simp] theorem State.clearConds_frame (s : State) (o : ResetOrigin) (begun : Tick) :
    (s.clearConds o begun).1.rrq = s.rrq ∧ (s.clearConds o begun).1.fld = s.fld ∧
    (s.clearConds o begun).1.vot = s.vot ∧ (s.clearConds o begun).1.pair = s.pair ∧
    (s.clearConds o begun).1.aon = s.aon ∧ (s.clearConds o begun).1.pwr = s.pwr ∧ (s.clearConds o begun).1.sh = s.sh
    ∧ (s.clearConds o begun).1.crc = s.crc ∧ (s.clearConds o begun).1.mail = s.mail ∧
    (s.clearConds o begun).1.net = s.net ∧ (s.clearConds o begun).1.tim = s.tim ∧
    (s.clearConds o begun).1.gal = s.gal ∧ (s.clearConds o begun).1.buf = s.buf ∧
    (s.clearConds o begun).1.log = s.log ∧ (s.clearConds o begun).1.fuses = s.fuses ∧
    (s.clearConds o begun).1.nvm = s.nvm ∧ (s.clearConds o begun).1.upd = s.upd ∧
    (s.clearConds o begun).1.prf = s.prf ∧ (s.clearConds o begun).1.host = s.host ∧
    (s.clearConds o begun).1.free = s.free ∧ (s.clearConds o begun).1.pending = s.pending := by
  simp [State.clearConds]

@[simp] theorem State.countClear_frame (s : State) (o : ResetOrigin) (did : Bool) : (s.countClear o did).ms = s.ms ∧
    (s.countClear o did).lanes = s.lanes ∧ (s.countClear o did).fld = s.fld ∧ (s.countClear o did).vot = s.vot ∧
    (s.countClear o did).pair = s.pair ∧ (s.countClear o did).aon = s.aon ∧ (s.countClear o did).pwr = s.pwr ∧
    (s.countClear o did).sh = s.sh ∧ (s.countClear o did).crc = s.crc ∧ (s.countClear o did).net = s.net ∧
    (s.countClear o did).tim = s.tim ∧ (s.countClear o did).gal = s.gal ∧ (s.countClear o did).buf = s.buf ∧
    (s.countClear o did).fuses = s.fuses ∧ (s.countClear o did).nvm = s.nvm ∧ (s.countClear o did).upd = s.upd ∧
    (s.countClear o did).prf = s.prf ∧ (s.countClear o did).free = s.free ∧ (s.countClear o did).pending = s.pending
    := by
  unfold State.countClear
  (repeat' split) <;> simp

@[simp] theorem State.clearLatch_frame (s : State) : s.clearLatch.ms = s.ms ∧ s.clearLatch.rrq = s.rrq ∧
    s.clearLatch.lanes = s.lanes ∧ s.clearLatch.fld = s.fld ∧ s.clearLatch.vot = s.vot ∧ s.clearLatch.pair = s.pair
    ∧ s.clearLatch.pwr = s.pwr ∧ s.clearLatch.sh = s.sh ∧ s.clearLatch.crc = s.crc ∧ s.clearLatch.mail = s.mail ∧
    s.clearLatch.net = s.net ∧ s.clearLatch.tim = s.tim ∧ s.clearLatch.gal = s.gal ∧ s.clearLatch.buf = s.buf ∧
    s.clearLatch.log = s.log ∧ s.clearLatch.fuses = s.fuses ∧ s.clearLatch.upd = s.upd ∧ s.clearLatch.prf = s.prf ∧
    s.clearLatch.host = s.host ∧ s.clearLatch.free = s.free ∧ s.clearLatch.pending = s.pending := by
  simp [State.clearLatch]

@[simp] theorem State.qualified_frame (s : State) (o : ResetOrigin) (begun : Tick) :
    (s.qualified o begun).1.fuses = s.fuses ∧ (s.qualified o begun).1.free = s.free ∧
    (s.qualified o begun).1.pending = s.pending := by
  unfold State.qualified
  dsimp only
  (repeat' split) <;> simp (disch := (intros; (repeat' split) <;> simp))

@[simp] theorem State.countShort_frame (s : State) : s.countShort.ms = s.ms ∧ s.countShort.lanes = s.lanes ∧
    s.countShort.fld = s.fld ∧ s.countShort.vot = s.vot ∧ s.countShort.pair = s.pair ∧ s.countShort.aon = s.aon ∧
    s.countShort.pwr = s.pwr ∧ s.countShort.sh = s.sh ∧ s.countShort.crc = s.crc ∧ s.countShort.mail = s.mail ∧
    s.countShort.net = s.net ∧ s.countShort.tim = s.tim ∧ s.countShort.gal = s.gal ∧ s.countShort.buf = s.buf ∧
    s.countShort.log = s.log ∧ s.countShort.fuses = s.fuses ∧ s.countShort.nvm = s.nvm ∧ s.countShort.upd = s.upd ∧
    s.countShort.prf = s.prf ∧ s.countShort.host = s.host ∧ s.countShort.free = s.free ∧
    s.countShort.pending = s.pending := by
  simp [State.countShort]

end Sys2Proof.Machine
end

