-- ==== Sys2Proof/Laws/FramePayload.lean ====
section
/-!
SUPPORT. The frame of each operation of Machine/Payload.lean: the parts of State that it leaves as they were.
-/

namespace Sys2Proof.Machine

@[simp] theorem State.reseal_frame (s : State) : s.reseal.ms = s.ms ∧ s.reseal.rrq = s.rrq ∧ s.reseal.fld = s.fld ∧
    s.reseal.vot = s.vot ∧ s.reseal.aon = s.aon ∧ s.reseal.pwr = s.pwr ∧ s.reseal.sh = s.sh ∧ s.reseal.crc = s.crc ∧
    s.reseal.mail = s.mail ∧ s.reseal.net = s.net ∧ s.reseal.tim = s.tim ∧ s.reseal.log = s.log ∧
    s.reseal.fuses = s.fuses ∧ s.reseal.nvm = s.nvm ∧ s.reseal.upd = s.upd ∧ s.reseal.prf = s.prf ∧
    s.reseal.host = s.host ∧ s.reseal.free = s.free ∧ s.reseal.pending = s.pending := by
  simp [State.reseal]

end Sys2Proof.Machine
end

