-- ==== Sys2Proof/Laws/FrameRequested.lean ====
section
/-!
SUPPORT. The frame of each operation of Machine/Requested.lean: the parts of State that it leaves as they were.
-/

namespace Sys2Proof.Machine

@[simp] theorem State.countRetained_frame (s : State) (cs : List (Fin 9)) : (s.countRetained cs).ms = s.ms ∧
    (s.countRetained cs).rrq = s.rrq ∧ (s.countRetained cs).lanes = s.lanes ∧ (s.countRetained cs).fld = s.fld ∧
    (s.countRetained cs).vot = s.vot ∧ (s.countRetained cs).pair = s.pair ∧ (s.countRetained cs).pwr = s.pwr ∧
    (s.countRetained cs).sh = s.sh ∧ (s.countRetained cs).crc = s.crc ∧ (s.countRetained cs).mail = s.mail ∧
    (s.countRetained cs).net = s.net ∧ (s.countRetained cs).tim = s.tim ∧ (s.countRetained cs).gal = s.gal ∧
    (s.countRetained cs).buf = s.buf ∧ (s.countRetained cs).log = s.log ∧ (s.countRetained cs).fuses = s.fuses ∧
    (s.countRetained cs).upd = s.upd ∧ (s.countRetained cs).prf = s.prf ∧ (s.countRetained cs).host = s.host ∧
    (s.countRetained cs).free = s.free ∧ (s.countRetained cs).pending = s.pending := by
  simp [State.countRetained]

@[simp] theorem State.takeResets_frame (s : State) (rs : List (Option Chan × Tick × Byte × Request)) :
    (s.takeResets rs).fuses = s.fuses ∧ (s.takeResets rs).free = s.free ∧ (s.takeResets rs).pending = s.pending :=
    by
  unfold State.takeResets
  dsimp only
  simp (disch := (intros; (repeat' split) <;> simp))

@[simp] theorem State.effects_frame (s : State) (v : Ev) : (s.effects v).fuses = s.fuses ∧
    (s.effects v).free = s.free ∧ (s.effects v).pending = s.pending := by
  unfold State.effects
  dsimp only
  (repeat' split) <;> simp (disch := (intros; (repeat' split) <;> simp))

@[simp] theorem State.switchReq_frame (s : State) (v : Ev) : (s.switchReq v).ms = s.ms ∧ (s.switchReq v).rrq = s.rrq
    ∧ (s.switchReq v).lanes = s.lanes ∧ (s.switchReq v).fld = s.fld ∧ (s.switchReq v).vot = s.vot ∧
    (s.switchReq v).pair = s.pair ∧ (s.switchReq v).aon = s.aon ∧ (s.switchReq v).pwr = s.pwr ∧
    (s.switchReq v).sh = s.sh ∧ (s.switchReq v).crc = s.crc ∧ (s.switchReq v).mail = s.mail ∧
    (s.switchReq v).net = s.net ∧ (s.switchReq v).tim = s.tim ∧ (s.switchReq v).buf = s.buf ∧
    (s.switchReq v).log = s.log ∧ (s.switchReq v).fuses = s.fuses ∧ (s.switchReq v).nvm = s.nvm ∧
    (s.switchReq v).upd = s.upd ∧ (s.switchReq v).prf = s.prf ∧ (s.switchReq v).host = s.host ∧
    (s.switchReq v).free = s.free ∧ (s.switchReq v).pending = s.pending := by
  unfold State.switchReq
  (repeat' split) <;> simp

@[simp] theorem State.evaluated_frame (s : State) (f : Ev → Ev) : (s.evaluated f).fuses = s.fuses ∧
    (s.evaluated f).free = s.free ∧ (s.evaluated f).pending = s.pending := by
  unfold State.evaluated
  dsimp only
  (repeat' split) <;> simp (disch := (intros; (repeat' split) <;> simp))

@[simp] theorem State.requested_frame (s : State) (code : Byte) (q : Request) : (s.requested code q).fuses = s.fuses
    ∧ (s.requested code q).free = s.free ∧ (s.requested code q).pending = s.pending := by
  unfold State.requested
  (repeat' split) <;> simp

@[simp] theorem State.bndItem_frame (s : State) (i : BndItem) (op : BitVec 4) (f : Ev → SlotCfg → Ev) :
    (s.bndItem i op f).fuses = s.fuses ∧ (s.bndItem i op f).free = s.free ∧ (s.bndItem i op f).pending = s.pending
    := by
  simp [State.bndItem]

end Sys2Proof.Machine
end

