-- ==== Sys2Proof/Laws/FrameLogs.lean ====
section
/-!
SUPPORT. The frame of each operation of Machine/Logs.lean: the parts of State that it leaves as they were.
-/

namespace Sys2Proof.Machine

@[simp] theorem State.logForwarded_frame (s : State) (src : BitVec 12) (r : Record) :
    (s.logForwarded src r).ms = s.ms ∧ (s.logForwarded src r).rrq = s.rrq ∧ (s.logForwarded src r).fld = s.fld ∧
    (s.logForwarded src r).vot = s.vot ∧ (s.logForwarded src r).pair = s.pair ∧ (s.logForwarded src r).aon = s.aon ∧
    (s.logForwarded src r).pwr = s.pwr ∧ (s.logForwarded src r).sh = s.sh ∧ (s.logForwarded src r).crc = s.crc ∧
    (s.logForwarded src r).net = s.net ∧ (s.logForwarded src r).tim = s.tim ∧ (s.logForwarded src r).gal = s.gal ∧
    (s.logForwarded src r).buf = s.buf ∧ (s.logForwarded src r).fuses = s.fuses ∧ (s.logForwarded src r).nvm = s.nvm
    ∧ (s.logForwarded src r).upd = s.upd ∧ (s.logForwarded src r).prf = s.prf ∧ (s.logForwarded src r).free = s.free
    ∧ (s.logForwarded src r).pending = s.pending := by
  simp [State.logForwarded]

@[simp] theorem State.lostAlarm_frame (s : State) : s.lostAlarm.ms = s.ms ∧ s.lostAlarm.rrq = s.rrq ∧
    s.lostAlarm.lanes = s.lanes ∧ s.lostAlarm.fld = s.fld ∧ s.lostAlarm.vot = s.vot ∧ s.lostAlarm.pair = s.pair ∧
    s.lostAlarm.aon = s.aon ∧ s.lostAlarm.pwr = s.pwr ∧ s.lostAlarm.sh = s.sh ∧ s.lostAlarm.crc = s.crc ∧
    s.lostAlarm.net = s.net ∧ s.lostAlarm.tim = s.tim ∧ s.lostAlarm.gal = s.gal ∧ s.lostAlarm.buf = s.buf ∧
    s.lostAlarm.fuses = s.fuses ∧ s.lostAlarm.nvm = s.nvm ∧ s.lostAlarm.upd = s.upd ∧ s.lostAlarm.prf = s.prf ∧
    s.lostAlarm.free = s.free ∧ s.lostAlarm.pending = s.pending := by
  simp [State.lostAlarm]

@[simp] theorem State.ringPut_frame (s : State) (r : Record) : (s.ringPut r).ms = s.ms ∧ (s.ringPut r).rrq = s.rrq ∧
    (s.ringPut r).lanes = s.lanes ∧ (s.ringPut r).fld = s.fld ∧ (s.ringPut r).vot = s.vot ∧
    (s.ringPut r).pair = s.pair ∧ (s.ringPut r).aon = s.aon ∧ (s.ringPut r).pwr = s.pwr ∧ (s.ringPut r).sh = s.sh ∧
    (s.ringPut r).crc = s.crc ∧ (s.ringPut r).mail = s.mail ∧ (s.ringPut r).net = s.net ∧ (s.ringPut r).tim = s.tim
    ∧ (s.ringPut r).gal = s.gal ∧ (s.ringPut r).buf = s.buf ∧ (s.ringPut r).fuses = s.fuses ∧
    (s.ringPut r).nvm = s.nvm ∧ (s.ringPut r).upd = s.upd ∧ (s.ringPut r).prf = s.prf ∧ (s.ringPut r).free = s.free
    ∧ (s.ringPut r).pending = s.pending := by
  simp [State.ringPut]

end Sys2Proof.Machine
end

