-- ==== Sys2Proof/Laws/FrameLink.lean ====
section
/-!
SUPPORT. The frame of each operation of Machine/Link.lean: the parts of State that it leaves as they were.
-/

namespace Sys2Proof.Machine

@[simp] theorem State.timing_frame (s : State) (f : RxTiming) (type : Byte) : (s.timing f type).1.ms = s.ms ∧
    (s.timing f type).1.rrq = s.rrq ∧ (s.timing f type).1.lanes = s.lanes ∧ (s.timing f type).1.fld = s.fld ∧
    (s.timing f type).1.vot = s.vot ∧ (s.timing f type).1.pair = s.pair ∧ (s.timing f type).1.aon = s.aon ∧
    (s.timing f type).1.pwr = s.pwr ∧ (s.timing f type).1.crc = s.crc ∧ (s.timing f type).1.tim = s.tim ∧
    (s.timing f type).1.gal = s.gal ∧ (s.timing f type).1.buf = s.buf ∧ (s.timing f type).1.fuses = s.fuses ∧
    (s.timing f type).1.nvm = s.nvm ∧ (s.timing f type).1.upd = s.upd ∧ (s.timing f type).1.prf = s.prf ∧
    (s.timing f type).1.free = s.free ∧ (s.timing f type).1.pending = s.pending := by
  unfold State.timing
  dsimp only
  (repeat' split) <;> simp (disch := (intros; (repeat' split) <;> simp))

@[simp] theorem State.timeWarm_frame (s : State) : s.timeWarm.fuses = s.fuses ∧ s.timeWarm.free = s.free ∧
    s.timeWarm.pending = s.pending := by
  simp [State.timeWarm]

@[simp] theorem State.forwardCycle_frame (s : State) (p : Port) (body : List Byte) (c : Cycle) (resNs : Nat) :
    (s.forwardCycle p body c resNs).ms = s.ms ∧ (s.forwardCycle p body c resNs).rrq = s.rrq ∧
    (s.forwardCycle p body c resNs).lanes = s.lanes ∧ (s.forwardCycle p body c resNs).fld = s.fld ∧
    (s.forwardCycle p body c resNs).vot = s.vot ∧ (s.forwardCycle p body c resNs).pair = s.pair ∧
    (s.forwardCycle p body c resNs).aon = s.aon ∧ (s.forwardCycle p body c resNs).pwr = s.pwr ∧
    (s.forwardCycle p body c resNs).crc = s.crc ∧ (s.forwardCycle p body c resNs).tim = s.tim ∧
    (s.forwardCycle p body c resNs).gal = s.gal ∧ (s.forwardCycle p body c resNs).buf = s.buf ∧
    (s.forwardCycle p body c resNs).fuses = s.fuses ∧ (s.forwardCycle p body c resNs).nvm = s.nvm ∧
    (s.forwardCycle p body c resNs).upd = s.upd ∧ (s.forwardCycle p body c resNs).prf = s.prf ∧
    (s.forwardCycle p body c resNs).free = s.free ∧ (s.forwardCycle p body c resNs).pending = s.pending := by
  unfold State.forwardCycle
  (repeat' split) <;> simp

@[simp] theorem State.hearCycle_frame (s : State) (c : Cycle) (rxNs : Nat) : (s.hearCycle c rxNs).ms = s.ms ∧
    (s.hearCycle c rxNs).rrq = s.rrq ∧ (s.hearCycle c rxNs).lanes = s.lanes ∧ (s.hearCycle c rxNs).fld = s.fld ∧
    (s.hearCycle c rxNs).vot = s.vot ∧ (s.hearCycle c rxNs).pair = s.pair ∧ (s.hearCycle c rxNs).aon = s.aon ∧
    (s.hearCycle c rxNs).pwr = s.pwr ∧ (s.hearCycle c rxNs).sh = s.sh ∧ (s.hearCycle c rxNs).crc = s.crc ∧
    (s.hearCycle c rxNs).mail = s.mail ∧ (s.hearCycle c rxNs).tim = s.tim ∧ (s.hearCycle c rxNs).gal = s.gal ∧
    (s.hearCycle c rxNs).buf = s.buf ∧ (s.hearCycle c rxNs).log = s.log ∧ (s.hearCycle c rxNs).fuses = s.fuses ∧
    (s.hearCycle c rxNs).nvm = s.nvm ∧ (s.hearCycle c rxNs).upd = s.upd ∧ (s.hearCycle c rxNs).prf = s.prf ∧
    (s.hearCycle c rxNs).host = s.host ∧ (s.hearCycle c rxNs).free = s.free ∧
    (s.hearCycle c rxNs).pending = s.pending := by
  unfold State.hearCycle
  (repeat' split) <;> simp

@[simp] theorem State.sample_frame (s : State) (p : Port) (c : Cycle) (rxNs : Nat) :
    (s.sample p c rxNs).fuses = s.fuses ∧ (s.sample p c rxNs).free = s.free ∧
    (s.sample p c rxNs).pending = s.pending := by
  simp [State.sample]

@[simp] theorem State.galleryDiffers_frame (s : State) (g : Fin 8) : (s.galleryDiffers g).ms = s.ms ∧
    (s.galleryDiffers g).rrq = s.rrq ∧ (s.galleryDiffers g).lanes = s.lanes ∧ (s.galleryDiffers g).fld = s.fld ∧
    (s.galleryDiffers g).vot = s.vot ∧ (s.galleryDiffers g).pair = s.pair ∧ (s.galleryDiffers g).aon = s.aon ∧
    (s.galleryDiffers g).pwr = s.pwr ∧ (s.galleryDiffers g).sh = s.sh ∧ (s.galleryDiffers g).crc = s.crc ∧
    (s.galleryDiffers g).buf = s.buf ∧ (s.galleryDiffers g).fuses = s.fuses ∧ (s.galleryDiffers g).nvm = s.nvm ∧
    (s.galleryDiffers g).upd = s.upd ∧ (s.galleryDiffers g).prf = s.prf ∧ (s.galleryDiffers g).free = s.free ∧
    (s.galleryDiffers g).pending = s.pending := by
  simp [State.galleryDiffers]

@[simp] theorem State.separate_frame (s : State) : s.separate.ms = s.ms ∧ s.separate.rrq = s.rrq ∧
    s.separate.lanes = s.lanes ∧ s.separate.fld = s.fld ∧ s.separate.vot = s.vot ∧ s.separate.pair = s.pair ∧
    s.separate.aon = s.aon ∧ s.separate.pwr = s.pwr ∧ s.separate.sh = s.sh ∧ s.separate.crc = s.crc ∧
    s.separate.tim = s.tim ∧ s.separate.gal = s.gal ∧ s.separate.buf = s.buf ∧ s.separate.fuses = s.fuses ∧
    s.separate.nvm = s.nvm ∧ s.separate.upd = s.upd ∧ s.separate.prf = s.prf ∧ s.separate.free = s.free ∧
    s.separate.pending = s.pending := by
  simp [State.separate]

@[simp] theorem State.parentCycle_frame (s : State) (p : Port) (c : Cycle) (rxNs : Nat) :
    (s.parentCycle p c rxNs).ms = s.ms ∧ (s.parentCycle p c rxNs).rrq = s.rrq ∧
    (s.parentCycle p c rxNs).lanes = s.lanes ∧ (s.parentCycle p c rxNs).fld = s.fld ∧
    (s.parentCycle p c rxNs).vot = s.vot ∧ (s.parentCycle p c rxNs).pair = s.pair ∧
    (s.parentCycle p c rxNs).aon = s.aon ∧ (s.parentCycle p c rxNs).pwr = s.pwr ∧ (s.parentCycle p c rxNs).sh = s.sh
    ∧ (s.parentCycle p c rxNs).crc = s.crc ∧ (s.parentCycle p c rxNs).gal = s.gal ∧
    (s.parentCycle p c rxNs).buf = s.buf ∧ (s.parentCycle p c rxNs).fuses = s.fuses ∧
    (s.parentCycle p c rxNs).nvm = s.nvm ∧ (s.parentCycle p c rxNs).upd = s.upd ∧
    (s.parentCycle p c rxNs).prf = s.prf ∧ (s.parentCycle p c rxNs).free = s.free ∧
    (s.parentCycle p c rxNs).pending = s.pending := by
  simp [State.parentCycle]

@[simp] theorem State.takeCycle_frame (s : State) (p : Port) (c : Cycle) (body : List Byte) (rxNs : Nat) :
    (s.takeCycle p c body rxNs).fuses = s.fuses ∧ (s.takeCycle p c body rxNs).free = s.free ∧
    (s.takeCycle p c body rxNs).pending = s.pending := by
  simp [State.takeCycle]

@[simp] theorem State.takeHeld_frame (s : State) : s.takeHeld.fuses = s.fuses ∧ s.takeHeld.free = s.free ∧
    s.takeHeld.pending = s.pending := by
  unfold State.takeHeld
  (repeat' split) <;> simp

@[simp] theorem State.ownCycle_frame (s : State) (p : Port) (c : Cycle) (body : List Byte) (rxNs : Nat) :
    (s.ownCycle p c body rxNs).fuses = s.fuses ∧ (s.ownCycle p c body rxNs).free = s.free ∧
    (s.ownCycle p c body rxNs).pending = s.pending := by
  simp [State.ownCycle]

@[simp] theorem State.sendCycleAt_frame (s : State) (c : Cycle) (p : Port) : (s.sendCycleAt c p).ms = s.ms ∧
    (s.sendCycleAt c p).rrq = s.rrq ∧ (s.sendCycleAt c p).lanes = s.lanes ∧ (s.sendCycleAt c p).fld = s.fld ∧
    (s.sendCycleAt c p).vot = s.vot ∧ (s.sendCycleAt c p).pair = s.pair ∧ (s.sendCycleAt c p).aon = s.aon ∧
    (s.sendCycleAt c p).pwr = s.pwr ∧ (s.sendCycleAt c p).crc = s.crc ∧ (s.sendCycleAt c p).tim = s.tim ∧
    (s.sendCycleAt c p).gal = s.gal ∧ (s.sendCycleAt c p).buf = s.buf ∧ (s.sendCycleAt c p).fuses = s.fuses ∧
    (s.sendCycleAt c p).nvm = s.nvm ∧ (s.sendCycleAt c p).upd = s.upd ∧ (s.sendCycleAt c p).prf = s.prf ∧
    (s.sendCycleAt c p).free = s.free ∧ (s.sendCycleAt c p).pending = s.pending := by
  unfold State.sendCycleAt
  (repeat' split) <;> simp

@[simp] theorem State.sendCycle_frame (s : State) : s.sendCycle.ms = s.ms ∧ s.sendCycle.rrq = s.rrq ∧
    s.sendCycle.lanes = s.lanes ∧ s.sendCycle.fld = s.fld ∧ s.sendCycle.vot = s.vot ∧ s.sendCycle.pair = s.pair ∧
    s.sendCycle.aon = s.aon ∧ s.sendCycle.pwr = s.pwr ∧ s.sendCycle.crc = s.crc ∧ s.sendCycle.tim = s.tim ∧
    s.sendCycle.gal = s.gal ∧ s.sendCycle.buf = s.buf ∧ s.sendCycle.fuses = s.fuses ∧ s.sendCycle.nvm = s.nvm ∧
    s.sendCycle.upd = s.upd ∧ s.sendCycle.prf = s.prf ∧ s.sendCycle.free = s.free ∧ s.sendCycle.pending = s.pending
    := by
  simp [State.sendCycle]

@[simp] theorem State.sendColdstart_frame (s : State) (base : DWord) : (s.sendColdstart base).ms = s.ms ∧
    (s.sendColdstart base).rrq = s.rrq ∧ (s.sendColdstart base).lanes = s.lanes ∧ (s.sendColdstart base).fld = s.fld
    ∧ (s.sendColdstart base).vot = s.vot ∧ (s.sendColdstart base).pair = s.pair ∧ (s.sendColdstart base).aon = s.aon
    ∧ (s.sendColdstart base).pwr = s.pwr ∧ (s.sendColdstart base).sh = s.sh ∧ (s.sendColdstart base).crc = s.crc ∧
    (s.sendColdstart base).mail = s.mail ∧ (s.sendColdstart base).gal = s.gal ∧ (s.sendColdstart base).buf = s.buf ∧
    (s.sendColdstart base).log = s.log ∧ (s.sendColdstart base).fuses = s.fuses ∧ (s.sendColdstart base).nvm = s.nvm
    ∧ (s.sendColdstart base).upd = s.upd ∧ (s.sendColdstart base).prf = s.prf ∧ (s.sendColdstart base).host = s.host
    ∧ (s.sendColdstart base).free = s.free ∧ (s.sendColdstart base).pending = s.pending := by
  simp [State.sendColdstart]

@[simp] theorem State.listenEnd_frame (s : State) : s.listenEnd.ms = s.ms ∧ s.listenEnd.rrq = s.rrq ∧
    s.listenEnd.lanes = s.lanes ∧ s.listenEnd.fld = s.fld ∧ s.listenEnd.vot = s.vot ∧ s.listenEnd.pair = s.pair ∧
    s.listenEnd.pwr = s.pwr ∧ s.listenEnd.sh = s.sh ∧ s.listenEnd.crc = s.crc ∧ s.listenEnd.mail = s.mail ∧
    s.listenEnd.net = s.net ∧ s.listenEnd.tim = s.tim ∧ s.listenEnd.gal = s.gal ∧ s.listenEnd.buf = s.buf ∧
    s.listenEnd.log = s.log ∧ s.listenEnd.fuses = s.fuses ∧ s.listenEnd.nvm = s.nvm ∧ s.listenEnd.upd = s.upd ∧
    s.listenEnd.prf = s.prf ∧ s.listenEnd.host = s.host ∧ s.listenEnd.free = s.free ∧
    s.listenEnd.pending = s.pending := by
  simp [State.listenEnd]

@[simp] theorem State.stepTo_frame (s : State) (o : SeenCycle) : (s.stepTo o).rrq = s.rrq ∧
    (s.stepTo o).lanes = s.lanes ∧ (s.stepTo o).fld = s.fld ∧ (s.stepTo o).vot = s.vot ∧ (s.stepTo o).pair = s.pair
    ∧ (s.stepTo o).pwr = s.pwr ∧ (s.stepTo o).sh = s.sh ∧ (s.stepTo o).crc = s.crc ∧ (s.stepTo o).mail = s.mail ∧
    (s.stepTo o).net = s.net ∧ (s.stepTo o).gal = s.gal ∧ (s.stepTo o).buf = s.buf ∧ (s.stepTo o).log = s.log ∧
    (s.stepTo o).fuses = s.fuses ∧ (s.stepTo o).nvm = s.nvm ∧ (s.stepTo o).upd = s.upd ∧ (s.stepTo o).prf = s.prf ∧
    (s.stepTo o).host = s.host ∧ (s.stepTo o).free = s.free ∧ (s.stepTo o).pending = s.pending := by
  simp [State.stepTo]

@[simp] theorem State.joinParent_frame (s : State) (o : SeenCycle) : (s.joinParent o).rrq = s.rrq ∧
    (s.joinParent o).lanes = s.lanes ∧ (s.joinParent o).fld = s.fld ∧ (s.joinParent o).vot = s.vot ∧
    (s.joinParent o).pair = s.pair ∧ (s.joinParent o).pwr = s.pwr ∧ (s.joinParent o).sh = s.sh ∧
    (s.joinParent o).crc = s.crc ∧ (s.joinParent o).mail = s.mail ∧ (s.joinParent o).gal = s.gal ∧
    (s.joinParent o).buf = s.buf ∧ (s.joinParent o).log = s.log ∧ (s.joinParent o).fuses = s.fuses ∧
    (s.joinParent o).nvm = s.nvm ∧ (s.joinParent o).upd = s.upd ∧ (s.joinParent o).prf = s.prf ∧
    (s.joinParent o).host = s.host ∧ (s.joinParent o).free = s.free ∧ (s.joinParent o).pending = s.pending := by
  simp [State.joinParent]

@[simp] theorem State.integrate_frame (s : State) (o : SeenCycle) : (s.integrate o).rrq = s.rrq ∧
    (s.integrate o).lanes = s.lanes ∧ (s.integrate o).fld = s.fld ∧ (s.integrate o).vot = s.vot ∧
    (s.integrate o).pair = s.pair ∧ (s.integrate o).pwr = s.pwr ∧ (s.integrate o).sh = s.sh ∧
    (s.integrate o).crc = s.crc ∧ (s.integrate o).mail = s.mail ∧ (s.integrate o).buf = s.buf ∧
    (s.integrate o).log = s.log ∧ (s.integrate o).fuses = s.fuses ∧ (s.integrate o).nvm = s.nvm ∧
    (s.integrate o).upd = s.upd ∧ (s.integrate o).prf = s.prf ∧ (s.integrate o).host = s.host ∧
    (s.integrate o).free = s.free ∧ (s.integrate o).pending = s.pending := by
  simp [State.integrate]

@[simp] theorem State.judgeIdentity_frame (s : State) (p : Port) : (s.judgeIdentity p).ms = s.ms ∧
    (s.judgeIdentity p).rrq = s.rrq ∧ (s.judgeIdentity p).lanes = s.lanes ∧ (s.judgeIdentity p).fld = s.fld ∧
    (s.judgeIdentity p).vot = s.vot ∧ (s.judgeIdentity p).aon = s.aon ∧ (s.judgeIdentity p).pwr = s.pwr ∧
    (s.judgeIdentity p).sh = s.sh ∧ (s.judgeIdentity p).crc = s.crc ∧ (s.judgeIdentity p).net = s.net ∧
    (s.judgeIdentity p).tim = s.tim ∧ (s.judgeIdentity p).gal = s.gal ∧ (s.judgeIdentity p).buf = s.buf ∧
    (s.judgeIdentity p).fuses = s.fuses ∧ (s.judgeIdentity p).nvm = s.nvm ∧ (s.judgeIdentity p).upd = s.upd ∧
    (s.judgeIdentity p).prf = s.prf ∧ (s.judgeIdentity p).free = s.free ∧ (s.judgeIdentity p).pending = s.pending :=
    by
  simp [State.judgeIdentity]

@[simp] theorem State.neighbour_frame (s : State) (p : Port) (n : BitVec 12) : (s.neighbour p n).ms = s.ms ∧
    (s.neighbour p n).rrq = s.rrq ∧ (s.neighbour p n).lanes = s.lanes ∧ (s.neighbour p n).fld = s.fld ∧
    (s.neighbour p n).vot = s.vot ∧ (s.neighbour p n).aon = s.aon ∧ (s.neighbour p n).pwr = s.pwr ∧
    (s.neighbour p n).sh = s.sh ∧ (s.neighbour p n).crc = s.crc ∧ (s.neighbour p n).tim = s.tim ∧
    (s.neighbour p n).gal = s.gal ∧ (s.neighbour p n).buf = s.buf ∧ (s.neighbour p n).fuses = s.fuses ∧
    (s.neighbour p n).nvm = s.nvm ∧ (s.neighbour p n).upd = s.upd ∧ (s.neighbour p n).prf = s.prf ∧
    (s.neighbour p n).free = s.free ∧ (s.neighbour p n).pending = s.pending := by
  simp [State.neighbour]

@[simp] theorem State.sendDelay_frame (s : State) (p : Port) (atNs : Nat) (bs : List Byte) :
    (s.sendDelay p atNs bs).ms = s.ms ∧ (s.sendDelay p atNs bs).rrq = s.rrq ∧
    (s.sendDelay p atNs bs).lanes = s.lanes ∧ (s.sendDelay p atNs bs).fld = s.fld ∧
    (s.sendDelay p atNs bs).vot = s.vot ∧ (s.sendDelay p atNs bs).pair = s.pair ∧
    (s.sendDelay p atNs bs).aon = s.aon ∧ (s.sendDelay p atNs bs).pwr = s.pwr ∧ (s.sendDelay p atNs bs).crc = s.crc
    ∧ (s.sendDelay p atNs bs).tim = s.tim ∧ (s.sendDelay p atNs bs).gal = s.gal ∧
    (s.sendDelay p atNs bs).buf = s.buf ∧ (s.sendDelay p atNs bs).fuses = s.fuses ∧
    (s.sendDelay p atNs bs).nvm = s.nvm ∧ (s.sendDelay p atNs bs).upd = s.upd ∧ (s.sendDelay p atNs bs).prf = s.prf
    ∧ (s.sendDelay p atNs bs).free = s.free ∧ (s.sendDelay p atNs bs).pending = s.pending := by
  unfold State.sendDelay
  (repeat' split) <;> simp

@[simp] theorem State.putResult_frame (s : State) (p : Port) (d : Int) : (s.putResult p d).ms = s.ms ∧
    (s.putResult p d).rrq = s.rrq ∧ (s.putResult p d).lanes = s.lanes ∧ (s.putResult p d).fld = s.fld ∧
    (s.putResult p d).vot = s.vot ∧ (s.putResult p d).aon = s.aon ∧ (s.putResult p d).pwr = s.pwr ∧
    (s.putResult p d).sh = s.sh ∧ (s.putResult p d).crc = s.crc ∧ (s.putResult p d).tim = s.tim ∧
    (s.putResult p d).gal = s.gal ∧ (s.putResult p d).buf = s.buf ∧ (s.putResult p d).fuses = s.fuses ∧
    (s.putResult p d).nvm = s.nvm ∧ (s.putResult p d).upd = s.upd ∧ (s.putResult p d).prf = s.prf ∧
    (s.putResult p d).free = s.free ∧ (s.putResult p d).pending = s.pending := by
  simp [State.putResult]

@[simp] theorem State.dropLink_frame (s : State) (p : Port) : (s.dropLink p).ms = s.ms ∧ (s.dropLink p).rrq = s.rrq
    ∧ (s.dropLink p).lanes = s.lanes ∧ (s.dropLink p).fld = s.fld ∧ (s.dropLink p).vot = s.vot ∧
    (s.dropLink p).pair = s.pair ∧ (s.dropLink p).aon = s.aon ∧ (s.dropLink p).pwr = s.pwr ∧
    (s.dropLink p).sh = s.sh ∧ (s.dropLink p).crc = s.crc ∧ (s.dropLink p).mail = s.mail ∧
    (s.dropLink p).tim = s.tim ∧ (s.dropLink p).gal = s.gal ∧ (s.dropLink p).buf = s.buf ∧
    (s.dropLink p).log = s.log ∧ (s.dropLink p).fuses = s.fuses ∧ (s.dropLink p).nvm = s.nvm ∧
    (s.dropLink p).upd = s.upd ∧ (s.dropLink p).prf = s.prf ∧ (s.dropLink p).host = s.host ∧
    (s.dropLink p).free = s.free ∧ (s.dropLink p).pending = s.pending := by
  simp [State.dropLink]

@[simp] theorem State.loseLink_frame (s : State) (p : Port) : (s.loseLink p).ms = s.ms ∧ (s.loseLink p).rrq = s.rrq
    ∧ (s.loseLink p).lanes = s.lanes ∧ (s.loseLink p).fld = s.fld ∧ (s.loseLink p).vot = s.vot ∧
    (s.loseLink p).pair = s.pair ∧ (s.loseLink p).aon = s.aon ∧ (s.loseLink p).pwr = s.pwr ∧
    (s.loseLink p).sh = s.sh ∧ (s.loseLink p).crc = s.crc ∧ (s.loseLink p).tim = s.tim ∧ (s.loseLink p).gal = s.gal
    ∧ (s.loseLink p).buf = s.buf ∧ (s.loseLink p).fuses = s.fuses ∧ (s.loseLink p).nvm = s.nvm ∧
    (s.loseLink p).upd = s.upd ∧ (s.loseLink p).prf = s.prf ∧ (s.loseLink p).free = s.free ∧
    (s.loseLink p).pending = s.pending := by
  simp [State.loseLink]

@[simp] theorem State.useDelay_frame (s : State) (p : Port) (d : Int) : (s.useDelay p d).ms = s.ms ∧
    (s.useDelay p d).rrq = s.rrq ∧ (s.useDelay p d).lanes = s.lanes ∧ (s.useDelay p d).fld = s.fld ∧
    (s.useDelay p d).vot = s.vot ∧ (s.useDelay p d).pair = s.pair ∧ (s.useDelay p d).aon = s.aon ∧
    (s.useDelay p d).pwr = s.pwr ∧ (s.useDelay p d).sh = s.sh ∧ (s.useDelay p d).crc = s.crc ∧
    (s.useDelay p d).tim = s.tim ∧ (s.useDelay p d).gal = s.gal ∧ (s.useDelay p d).buf = s.buf ∧
    (s.useDelay p d).fuses = s.fuses ∧ (s.useDelay p d).nvm = s.nvm ∧ (s.useDelay p d).upd = s.upd ∧
    (s.useDelay p d).prf = s.prf ∧ (s.useDelay p d).free = s.free ∧ (s.useDelay p d).pending = s.pending := by
  simp [State.useDelay]

@[simp] theorem State.startServo_frame (s : State) (p : Port) (d : Int) : (s.startServo p d).rrq = s.rrq ∧
    (s.startServo p d).lanes = s.lanes ∧ (s.startServo p d).fld = s.fld ∧ (s.startServo p d).vot = s.vot ∧
    (s.startServo p d).pair = s.pair ∧ (s.startServo p d).pwr = s.pwr ∧ (s.startServo p d).sh = s.sh ∧
    (s.startServo p d).crc = s.crc ∧ (s.startServo p d).mail = s.mail ∧ (s.startServo p d).buf = s.buf ∧
    (s.startServo p d).log = s.log ∧ (s.startServo p d).fuses = s.fuses ∧ (s.startServo p d).nvm = s.nvm ∧
    (s.startServo p d).upd = s.upd ∧ (s.startServo p d).prf = s.prf ∧ (s.startServo p d).host = s.host ∧
    (s.startServo p d).free = s.free ∧ (s.startServo p d).pending = s.pending := by
  simp [State.startServo]

@[simp] theorem State.ppsLost_frame (s : State) : s.ppsLost.ms = s.ms ∧ s.ppsLost.rrq = s.rrq ∧
    s.ppsLost.lanes = s.lanes ∧ s.ppsLost.fld = s.fld ∧ s.ppsLost.vot = s.vot ∧ s.ppsLost.pair = s.pair ∧
    s.ppsLost.aon = s.aon ∧ s.ppsLost.pwr = s.pwr ∧ s.ppsLost.sh = s.sh ∧ s.ppsLost.crc = s.crc ∧
    s.ppsLost.net = s.net ∧ s.ppsLost.gal = s.gal ∧ s.ppsLost.buf = s.buf ∧ s.ppsLost.fuses = s.fuses ∧
    s.ppsLost.nvm = s.nvm ∧ s.ppsLost.upd = s.upd ∧ s.ppsLost.prf = s.prf ∧ s.ppsLost.free = s.free ∧
    s.ppsLost.pending = s.pending := by
  simp [State.ppsLost]

end Sys2Proof.Machine
end

