-- ==== Sys2Proof/Laws/FramePair.lean ====
section
/-!
SUPPORT. The frame of each operation of Machine/Pair.lean: the parts of State that it leaves as they were.
-/

namespace Sys2Proof.Machine

@[simp] theorem State.seeDual_frame (s : State) : s.seeDual.ms = s.ms ∧ s.seeDual.rrq = s.rrq ∧
    s.seeDual.lanes = s.lanes ∧ s.seeDual.fld = s.fld ∧ s.seeDual.vot = s.vot ∧ s.seeDual.aon = s.aon ∧
    s.seeDual.pwr = s.pwr ∧ s.seeDual.sh = s.sh ∧ s.seeDual.crc = s.crc ∧ s.seeDual.net = s.net ∧
    s.seeDual.tim = s.tim ∧ s.seeDual.gal = s.gal ∧ s.seeDual.buf = s.buf ∧ s.seeDual.fuses = s.fuses ∧
    s.seeDual.nvm = s.nvm ∧ s.seeDual.upd = s.upd ∧ s.seeDual.prf = s.prf ∧ s.seeDual.free = s.free ∧
    s.seeDual.pending = s.pending := by
  simp [State.seeDual]

@[simp] theorem State.takeER_frame (s : State) (c : Carried) (removed : List Nat) : (s.takeER c removed).ms = s.ms ∧
    (s.takeER c removed).rrq = s.rrq ∧ (s.takeER c removed).fld = s.fld ∧ (s.takeER c removed).vot = s.vot ∧
    (s.takeER c removed).aon = s.aon ∧ (s.takeER c removed).pwr = s.pwr ∧ (s.takeER c removed).sh = s.sh ∧
    (s.takeER c removed).crc = s.crc ∧ (s.takeER c removed).mail = s.mail ∧ (s.takeER c removed).net = s.net ∧
    (s.takeER c removed).tim = s.tim ∧ (s.takeER c removed).gal = s.gal ∧ (s.takeER c removed).buf = s.buf ∧
    (s.takeER c removed).log = s.log ∧ (s.takeER c removed).fuses = s.fuses ∧ (s.takeER c removed).nvm = s.nvm ∧
    (s.takeER c removed).upd = s.upd ∧ (s.takeER c removed).prf = s.prf ∧ (s.takeER c removed).host = s.host ∧
    (s.takeER c removed).free = s.free ∧ (s.takeER c removed).pending = s.pending := by
  simp [State.takeER]

@[simp] theorem State.adopt_frame (s : State) (sh : Shadow) : (s.adopt sh).ms = s.ms ∧ (s.adopt sh).rrq = s.rrq ∧
    (s.adopt sh).fld = s.fld ∧ (s.adopt sh).vot = s.vot ∧ (s.adopt sh).aon = s.aon ∧ (s.adopt sh).pwr = s.pwr ∧
    (s.adopt sh).sh = s.sh ∧ (s.adopt sh).crc = s.crc ∧ (s.adopt sh).net = s.net ∧ (s.adopt sh).tim = s.tim ∧
    (s.adopt sh).gal = s.gal ∧ (s.adopt sh).buf = s.buf ∧ (s.adopt sh).fuses = s.fuses ∧ (s.adopt sh).nvm = s.nvm ∧
    (s.adopt sh).upd = s.upd ∧ (s.adopt sh).prf = s.prf ∧ (s.adopt sh).free = s.free ∧
    (s.adopt sh).pending = s.pending := by
  unfold State.adopt
  dsimp only
  (repeat' split) <;> simp (disch := (intros; (repeat' split) <;> simp))

@[simp] theorem State.copyPairFailed_frame (s : State) : s.copyPairFailed.ms = s.ms ∧ s.copyPairFailed.rrq = s.rrq ∧
    s.copyPairFailed.lanes = s.lanes ∧ s.copyPairFailed.fld = s.fld ∧ s.copyPairFailed.vot = s.vot ∧
    s.copyPairFailed.aon = s.aon ∧ s.copyPairFailed.pwr = s.pwr ∧ s.copyPairFailed.sh = s.sh ∧
    s.copyPairFailed.crc = s.crc ∧ s.copyPairFailed.net = s.net ∧ s.copyPairFailed.tim = s.tim ∧
    s.copyPairFailed.gal = s.gal ∧ s.copyPairFailed.buf = s.buf ∧ s.copyPairFailed.fuses = s.fuses ∧
    s.copyPairFailed.nvm = s.nvm ∧ s.copyPairFailed.upd = s.upd ∧ s.copyPairFailed.prf = s.prf ∧
    s.copyPairFailed.free = s.free ∧ s.copyPairFailed.pending = s.pending := by
  simp [State.copyPairFailed]

@[simp] theorem State.takeCopy_frame (s : State) (items : List CopyItem) : (s.takeCopy items).ms = s.ms ∧
    (s.takeCopy items).rrq = s.rrq ∧ (s.takeCopy items).fld = s.fld ∧ (s.takeCopy items).vot = s.vot ∧
    (s.takeCopy items).aon = s.aon ∧ (s.takeCopy items).pwr = s.pwr ∧ (s.takeCopy items).sh = s.sh ∧
    (s.takeCopy items).crc = s.crc ∧ (s.takeCopy items).net = s.net ∧ (s.takeCopy items).tim = s.tim ∧
    (s.takeCopy items).gal = s.gal ∧ (s.takeCopy items).buf = s.buf ∧ (s.takeCopy items).fuses = s.fuses ∧
    (s.takeCopy items).nvm = s.nvm ∧ (s.takeCopy items).upd = s.upd ∧ (s.takeCopy items).prf = s.prf ∧
    (s.takeCopy items).free = s.free ∧ (s.takeCopy items).pending = s.pending := by
  unfold State.takeCopy
  dsimp only
  (repeat' split) <;> simp (disch := (intros; (repeat' split) <;> simp))

@[simp] theorem State.gaveUp_frame (s : State) (cause : BitVec 4) (claim : BitVec 2) (sync : BitVec 2) :
    (s.gaveUp cause claim sync).rrq = s.rrq ∧ (s.gaveUp cause claim sync).lanes = s.lanes ∧
    (s.gaveUp cause claim sync).fld = s.fld ∧ (s.gaveUp cause claim sync).vot = s.vot ∧
    (s.gaveUp cause claim sync).aon = s.aon ∧ (s.gaveUp cause claim sync).pwr = s.pwr ∧
    (s.gaveUp cause claim sync).sh = s.sh ∧ (s.gaveUp cause claim sync).crc = s.crc ∧
    (s.gaveUp cause claim sync).net = s.net ∧ (s.gaveUp cause claim sync).tim = s.tim ∧
    (s.gaveUp cause claim sync).gal = s.gal ∧ (s.gaveUp cause claim sync).buf = s.buf ∧
    (s.gaveUp cause claim sync).fuses = s.fuses ∧ (s.gaveUp cause claim sync).nvm = s.nvm ∧
    (s.gaveUp cause claim sync).upd = s.upd ∧ (s.gaveUp cause claim sync).prf = s.prf ∧
    (s.gaveUp cause claim sync).free = s.free ∧ (s.gaveUp cause claim sync).pending = s.pending := by
  simp [State.gaveUp]

@[simp] theorem State.readPeer_frame (s : State) (sh : Shadow) : (s.readPeer sh).rrq = s.rrq ∧
    (s.readPeer sh).lanes = s.lanes ∧ (s.readPeer sh).fld = s.fld ∧ (s.readPeer sh).vot = s.vot ∧
    (s.readPeer sh).aon = s.aon ∧ (s.readPeer sh).pwr = s.pwr ∧ (s.readPeer sh).sh = s.sh ∧
    (s.readPeer sh).crc = s.crc ∧ (s.readPeer sh).net = s.net ∧ (s.readPeer sh).tim = s.tim ∧
    (s.readPeer sh).gal = s.gal ∧ (s.readPeer sh).buf = s.buf ∧ (s.readPeer sh).fuses = s.fuses ∧
    (s.readPeer sh).nvm = s.nvm ∧ (s.readPeer sh).upd = s.upd ∧ (s.readPeer sh).prf = s.prf ∧
    (s.readPeer sh).free = s.free ∧ (s.readPeer sh).pending = s.pending := by
  simp [State.readPeer]

@[simp] theorem State.claimActive_frame (s : State) : s.claimActive.rrq = s.rrq ∧ s.claimActive.lanes = s.lanes ∧
    s.claimActive.fld = s.fld ∧ s.claimActive.vot = s.vot ∧ s.claimActive.aon = s.aon ∧ s.claimActive.pwr = s.pwr ∧
    s.claimActive.sh = s.sh ∧ s.claimActive.crc = s.crc ∧ s.claimActive.mail = s.mail ∧ s.claimActive.net = s.net ∧
    s.claimActive.tim = s.tim ∧ s.claimActive.gal = s.gal ∧ s.claimActive.buf = s.buf ∧ s.claimActive.log = s.log ∧
    s.claimActive.fuses = s.fuses ∧ s.claimActive.nvm = s.nvm ∧ s.claimActive.upd = s.upd ∧
    s.claimActive.prf = s.prf ∧ s.claimActive.host = s.host ∧ s.claimActive.free = s.free ∧
    s.claimActive.pending = s.pending := by
  simp [State.claimActive]

@[simp] theorem State.promote_frame (s : State) (cause : Byte) : (s.promote cause).rrq = s.rrq ∧
    (s.promote cause).fld = s.fld ∧ (s.promote cause).vot = s.vot ∧ (s.promote cause).aon = s.aon ∧
    (s.promote cause).pwr = s.pwr ∧ (s.promote cause).sh = s.sh ∧ (s.promote cause).crc = s.crc ∧
    (s.promote cause).net = s.net ∧ (s.promote cause).tim = s.tim ∧ (s.promote cause).gal = s.gal ∧
    (s.promote cause).buf = s.buf ∧ (s.promote cause).fuses = s.fuses ∧ (s.promote cause).nvm = s.nvm ∧
    (s.promote cause).upd = s.upd ∧ (s.promote cause).prf = s.prf ∧ (s.promote cause).free = s.free ∧
    (s.promote cause).pending = s.pending := by
  simp [State.promote]

@[simp] theorem State.yieldBy_frame (s : State) (cause : BitVec 4) : (s.yieldBy cause).rrq = s.rrq ∧
    (s.yieldBy cause).lanes = s.lanes ∧ (s.yieldBy cause).fld = s.fld ∧ (s.yieldBy cause).vot = s.vot ∧
    (s.yieldBy cause).aon = s.aon ∧ (s.yieldBy cause).pwr = s.pwr ∧ (s.yieldBy cause).sh = s.sh ∧
    (s.yieldBy cause).crc = s.crc ∧ (s.yieldBy cause).net = s.net ∧ (s.yieldBy cause).tim = s.tim ∧
    (s.yieldBy cause).gal = s.gal ∧ (s.yieldBy cause).buf = s.buf ∧ (s.yieldBy cause).fuses = s.fuses ∧
    (s.yieldBy cause).nvm = s.nvm ∧ (s.yieldBy cause).upd = s.upd ∧ (s.yieldBy cause).prf = s.prf ∧
    (s.yieldBy cause).free = s.free ∧ (s.yieldBy cause).pending = s.pending := by
  simp [State.yieldBy]

@[simp] theorem State.pairClaims_frame (s : State) : s.pairClaims.rrq = s.rrq ∧ s.pairClaims.fld = s.fld ∧
    s.pairClaims.vot = s.vot ∧ s.pairClaims.aon = s.aon ∧ s.pairClaims.pwr = s.pwr ∧ s.pairClaims.sh = s.sh ∧
    s.pairClaims.crc = s.crc ∧ s.pairClaims.net = s.net ∧ s.pairClaims.tim = s.tim ∧ s.pairClaims.gal = s.gal ∧
    s.pairClaims.buf = s.buf ∧ s.pairClaims.fuses = s.fuses ∧ s.pairClaims.nvm = s.nvm ∧ s.pairClaims.upd = s.upd ∧
    s.pairClaims.prf = s.prf ∧ s.pairClaims.free = s.free ∧ s.pairClaims.pending = s.pending := by
  unfold State.pairClaims
  (repeat' split) <;> simp

end Sys2Proof.Machine
end

