-- ==== Sys2Proof/Laws/FrameUpdate.lean ====
section
/-!
SUPPORT. The frame of each operation of Machine/Update.lean: the parts of State that it leaves as they were.
-/

namespace Sys2Proof.Machine

@[simp] theorem State.updReject_frame (s : State) (reason : BitVec 4) : (s.updReject reason).ms = s.ms ∧
    (s.updReject reason).rrq = s.rrq ∧ (s.updReject reason).lanes = s.lanes ∧ (s.updReject reason).fld = s.fld ∧
    (s.updReject reason).vot = s.vot ∧ (s.updReject reason).pair = s.pair ∧ (s.updReject reason).aon = s.aon ∧
    (s.updReject reason).pwr = s.pwr ∧ (s.updReject reason).sh = s.sh ∧ (s.updReject reason).crc = s.crc ∧
    (s.updReject reason).net = s.net ∧ (s.updReject reason).tim = s.tim ∧ (s.updReject reason).gal = s.gal ∧
    (s.updReject reason).buf = s.buf ∧ (s.updReject reason).fuses = s.fuses ∧ (s.updReject reason).nvm = s.nvm ∧
    (s.updReject reason).prf = s.prf ∧ (s.updReject reason).free = s.free ∧ (s.updReject reason).pending = s.pending
    := by
  simp [State.updReject]

@[simp] theorem State.tryRelease_frame (s : State) : s.tryRelease.ms = s.ms ∧ s.tryRelease.rrq = s.rrq ∧
    s.tryRelease.lanes = s.lanes ∧ s.tryRelease.vot = s.vot ∧ s.tryRelease.pair = s.pair ∧ s.tryRelease.aon = s.aon
    ∧ s.tryRelease.pwr = s.pwr ∧ s.tryRelease.sh = s.sh ∧ s.tryRelease.crc = s.crc ∧ s.tryRelease.net = s.net ∧
    s.tryRelease.tim = s.tim ∧ s.tryRelease.gal = s.gal ∧ s.tryRelease.fuses = s.fuses ∧ s.tryRelease.prf = s.prf ∧
    s.tryRelease.free = s.free ∧ s.tryRelease.pending = s.pending := by
  unfold State.tryRelease
  (repeat' split) <;> simp

@[simp] theorem State.stageHeld_frame (s : State) : s.stageHeld.ms = s.ms ∧ s.stageHeld.rrq = s.rrq ∧
    s.stageHeld.lanes = s.lanes ∧ s.stageHeld.fld = s.fld ∧ s.stageHeld.vot = s.vot ∧ s.stageHeld.pair = s.pair ∧
    s.stageHeld.aon = s.aon ∧ s.stageHeld.pwr = s.pwr ∧ s.stageHeld.sh = s.sh ∧ s.stageHeld.crc = s.crc ∧
    s.stageHeld.mail = s.mail ∧ s.stageHeld.net = s.net ∧ s.stageHeld.tim = s.tim ∧ s.stageHeld.gal = s.gal ∧
    s.stageHeld.buf = s.buf ∧ s.stageHeld.log = s.log ∧ s.stageHeld.fuses = s.fuses ∧ s.stageHeld.nvm = s.nvm ∧
    s.stageHeld.prf = s.prf ∧ s.stageHeld.host = s.host ∧ s.stageHeld.free = s.free ∧
    s.stageHeld.pending = s.pending := by
  simp [State.stageHeld]

@[simp] theorem State.putChunk_frame (s : State) (c : Nat) (data : List Byte) : (s.putChunk c data).ms = s.ms ∧
    (s.putChunk c data).rrq = s.rrq ∧ (s.putChunk c data).lanes = s.lanes ∧ (s.putChunk c data).fld = s.fld ∧
    (s.putChunk c data).vot = s.vot ∧ (s.putChunk c data).pair = s.pair ∧ (s.putChunk c data).aon = s.aon ∧
    (s.putChunk c data).pwr = s.pwr ∧ (s.putChunk c data).sh = s.sh ∧ (s.putChunk c data).crc = s.crc ∧
    (s.putChunk c data).mail = s.mail ∧ (s.putChunk c data).net = s.net ∧ (s.putChunk c data).tim = s.tim ∧
    (s.putChunk c data).gal = s.gal ∧ (s.putChunk c data).buf = s.buf ∧ (s.putChunk c data).log = s.log ∧
    (s.putChunk c data).fuses = s.fuses ∧ (s.putChunk c data).prf = s.prf ∧ (s.putChunk c data).host = s.host ∧
    (s.putChunk c data).free = s.free ∧ (s.putChunk c data).pending = s.pending := by
  simp [State.putChunk]

@[simp] theorem State.putRelease_frame (s : State) (c : Nat) (data : List Byte) : (s.putRelease c data).ms = s.ms ∧
    (s.putRelease c data).rrq = s.rrq ∧ (s.putRelease c data).lanes = s.lanes ∧ (s.putRelease c data).vot = s.vot ∧
    (s.putRelease c data).pair = s.pair ∧ (s.putRelease c data).aon = s.aon ∧ (s.putRelease c data).pwr = s.pwr ∧
    (s.putRelease c data).sh = s.sh ∧ (s.putRelease c data).crc = s.crc ∧ (s.putRelease c data).net = s.net ∧
    (s.putRelease c data).tim = s.tim ∧ (s.putRelease c data).gal = s.gal ∧ (s.putRelease c data).fuses = s.fuses ∧
    (s.putRelease c data).prf = s.prf ∧ (s.putRelease c data).free = s.free ∧
    (s.putRelease c data).pending = s.pending := by
  unfold State.putRelease
  dsimp only
  split
  · split <;> simp
  · simp

@[simp] theorem State.takeUpdate_frame (s : State) (i : UpdItem) : (s.takeUpdate i).ms = s.ms ∧
    (s.takeUpdate i).rrq = s.rrq ∧ (s.takeUpdate i).lanes = s.lanes ∧ (s.takeUpdate i).vot = s.vot ∧
    (s.takeUpdate i).pair = s.pair ∧ (s.takeUpdate i).aon = s.aon ∧ (s.takeUpdate i).pwr = s.pwr ∧
    (s.takeUpdate i).sh = s.sh ∧ (s.takeUpdate i).crc = s.crc ∧ (s.takeUpdate i).net = s.net ∧
    (s.takeUpdate i).tim = s.tim ∧ (s.takeUpdate i).gal = s.gal ∧ (s.takeUpdate i).fuses = s.fuses ∧
    (s.takeUpdate i).prf = s.prf ∧ (s.takeUpdate i).free = s.free ∧ (s.takeUpdate i).pending = s.pending := by
  unfold State.takeUpdate
  (repeat' split) <;> simp

@[simp] theorem State.deliverBulk_frame (s : State) (e : DWord) (fr : Frame) : (s.deliverBulk e fr).ms = s.ms ∧
    (s.deliverBulk e fr).rrq = s.rrq ∧ (s.deliverBulk e fr).lanes = s.lanes ∧ (s.deliverBulk e fr).vot = s.vot ∧
    (s.deliverBulk e fr).pair = s.pair ∧ (s.deliverBulk e fr).aon = s.aon ∧ (s.deliverBulk e fr).pwr = s.pwr ∧
    (s.deliverBulk e fr).sh = s.sh ∧ (s.deliverBulk e fr).crc = s.crc ∧ (s.deliverBulk e fr).net = s.net ∧
    (s.deliverBulk e fr).tim = s.tim ∧ (s.deliverBulk e fr).gal = s.gal ∧ (s.deliverBulk e fr).fuses = s.fuses ∧
    (s.deliverBulk e fr).prf = s.prf ∧ (s.deliverBulk e fr).free = s.free ∧ (s.deliverBulk e fr).pending = s.pending
    := by
  cases h : fr.records.bind updItems <;> simp (disch := (intros; try simp)) [State.deliverBulk, h]

@[simp] theorem State.withdraw_frame (s : State) (l : Lane) : (s.withdraw l).rrq = s.rrq ∧
    (s.withdraw l).vot = s.vot ∧ (s.withdraw l).pair = s.pair ∧ (s.withdraw l).sh = s.sh ∧
    (s.withdraw l).crc = s.crc ∧ (s.withdraw l).net = s.net ∧ (s.withdraw l).tim = s.tim ∧
    (s.withdraw l).gal = s.gal ∧ (s.withdraw l).buf = s.buf ∧ (s.withdraw l).fuses = s.fuses ∧
    (s.withdraw l).prf = s.prf ∧ (s.withdraw l).free = s.free ∧ (s.withdraw l).pending = s.pending := by
  simp [State.withdraw]

@[simp] theorem State.takeLane_frame (s : State) (l : Lane) : (s.takeLane l).rrq = s.rrq ∧
    (s.takeLane l).vot = s.vot ∧ (s.takeLane l).pair = s.pair ∧ (s.takeLane l).sh = s.sh ∧
    (s.takeLane l).crc = s.crc ∧ (s.takeLane l).net = s.net ∧ (s.takeLane l).tim = s.tim ∧
    (s.takeLane l).gal = s.gal ∧ (s.takeLane l).buf = s.buf ∧ (s.takeLane l).fuses = s.fuses ∧
    (s.takeLane l).prf = s.prf ∧ (s.takeLane l).free = s.free ∧ (s.takeLane l).pending = s.pending := by
  simp [State.takeLane]

@[simp] theorem State.loadGallery_frame (s : State) (g : Fin 8) : (s.loadGallery g).ms = s.ms ∧
    (s.loadGallery g).rrq = s.rrq ∧ (s.loadGallery g).lanes = s.lanes ∧ (s.loadGallery g).fld = s.fld ∧
    (s.loadGallery g).vot = s.vot ∧ (s.loadGallery g).pair = s.pair ∧ (s.loadGallery g).aon = s.aon ∧
    (s.loadGallery g).pwr = s.pwr ∧ (s.loadGallery g).sh = s.sh ∧ (s.loadGallery g).crc = s.crc ∧
    (s.loadGallery g).mail = s.mail ∧ (s.loadGallery g).net = s.net ∧ (s.loadGallery g).tim = s.tim ∧
    (s.loadGallery g).buf = s.buf ∧ (s.loadGallery g).log = s.log ∧ (s.loadGallery g).fuses = s.fuses ∧
    (s.loadGallery g).nvm = s.nvm ∧ (s.loadGallery g).upd = s.upd ∧ (s.loadGallery g).prf = s.prf ∧
    (s.loadGallery g).host = s.host ∧ (s.loadGallery g).free = s.free ∧ (s.loadGallery g).pending = s.pending := by
  unfold State.loadGallery
  (repeat' split) <;> simp

@[simp] theorem State.loadGalQueue_frame (s : State) : s.loadGalQueue.ms = s.ms ∧ s.loadGalQueue.rrq = s.rrq ∧
    s.loadGalQueue.lanes = s.lanes ∧ s.loadGalQueue.fld = s.fld ∧ s.loadGalQueue.vot = s.vot ∧
    s.loadGalQueue.pair = s.pair ∧ s.loadGalQueue.aon = s.aon ∧ s.loadGalQueue.pwr = s.pwr ∧
    s.loadGalQueue.sh = s.sh ∧ s.loadGalQueue.crc = s.crc ∧ s.loadGalQueue.mail = s.mail ∧
    s.loadGalQueue.net = s.net ∧ s.loadGalQueue.tim = s.tim ∧ s.loadGalQueue.buf = s.buf ∧
    s.loadGalQueue.log = s.log ∧ s.loadGalQueue.fuses = s.fuses ∧ s.loadGalQueue.nvm = s.nvm ∧
    s.loadGalQueue.prf = s.prf ∧ s.loadGalQueue.host = s.host ∧ s.loadGalQueue.free = s.free ∧
    s.loadGalQueue.pending = s.pending := by
  simp (disch := (intros; (repeat' split) <;> simp)) [State.loadGalQueue]

@[simp] theorem State.confirmImage_frame (s : State) (rolling : Bool) : (s.confirmImage rolling).ms = s.ms ∧
    (s.confirmImage rolling).rrq = s.rrq ∧ (s.confirmImage rolling).fld = s.fld ∧
    (s.confirmImage rolling).vot = s.vot ∧ (s.confirmImage rolling).pair = s.pair ∧
    (s.confirmImage rolling).aon = s.aon ∧ (s.confirmImage rolling).pwr = s.pwr ∧ (s.confirmImage rolling).sh = s.sh
    ∧ (s.confirmImage rolling).crc = s.crc ∧ (s.confirmImage rolling).net = s.net ∧
    (s.confirmImage rolling).tim = s.tim ∧ (s.confirmImage rolling).buf = s.buf ∧
    (s.confirmImage rolling).prf = s.prf ∧ (s.confirmImage rolling).free = s.free ∧
    (s.confirmImage rolling).pending = s.pending := by
  unfold State.confirmImage
  (repeat' split) <;> simp

@[simp] theorem State.dmaEnds_frame (s : State) (err : Bool) : (s.dmaEnds err).ms = s.ms ∧
    (s.dmaEnds err).rrq = s.rrq ∧ (s.dmaEnds err).lanes = s.lanes ∧ (s.dmaEnds err).fld = s.fld ∧
    (s.dmaEnds err).vot = s.vot ∧ (s.dmaEnds err).pair = s.pair ∧ (s.dmaEnds err).aon = s.aon ∧
    (s.dmaEnds err).pwr = s.pwr ∧ (s.dmaEnds err).sh = s.sh ∧ (s.dmaEnds err).crc = s.crc ∧
    (s.dmaEnds err).mail = s.mail ∧ (s.dmaEnds err).net = s.net ∧ (s.dmaEnds err).tim = s.tim ∧
    (s.dmaEnds err).gal = s.gal ∧ (s.dmaEnds err).buf = s.buf ∧ (s.dmaEnds err).log = s.log ∧
    (s.dmaEnds err).fuses = s.fuses ∧ (s.dmaEnds err).nvm = s.nvm ∧ (s.dmaEnds err).prf = s.prf ∧
    (s.dmaEnds err).free = s.free ∧ (s.dmaEnds err).pending = s.pending := by
  simp [State.dmaEnds]

@[simp] theorem State.dmaGo_frame (s : State) : s.dmaGo.ms = s.ms ∧ s.dmaGo.rrq = s.rrq ∧ s.dmaGo.lanes = s.lanes ∧
    s.dmaGo.fld = s.fld ∧ s.dmaGo.vot = s.vot ∧ s.dmaGo.pair = s.pair ∧ s.dmaGo.aon = s.aon ∧ s.dmaGo.pwr = s.pwr ∧
    s.dmaGo.sh = s.sh ∧ s.dmaGo.crc = s.crc ∧ s.dmaGo.mail = s.mail ∧ s.dmaGo.net = s.net ∧ s.dmaGo.tim = s.tim ∧
    s.dmaGo.gal = s.gal ∧ s.dmaGo.buf = s.buf ∧ s.dmaGo.log = s.log ∧ s.dmaGo.fuses = s.fuses ∧ s.dmaGo.nvm = s.nvm
    ∧ s.dmaGo.prf = s.prf ∧ s.dmaGo.free = s.free ∧ s.dmaGo.pending = s.pending := by
  simp [State.dmaGo]

@[simp] theorem State.dmaAbort_frame (s : State) : s.dmaAbort.ms = s.ms ∧ s.dmaAbort.rrq = s.rrq ∧
    s.dmaAbort.lanes = s.lanes ∧ s.dmaAbort.fld = s.fld ∧ s.dmaAbort.vot = s.vot ∧ s.dmaAbort.pair = s.pair ∧
    s.dmaAbort.aon = s.aon ∧ s.dmaAbort.pwr = s.pwr ∧ s.dmaAbort.sh = s.sh ∧ s.dmaAbort.crc = s.crc ∧
    s.dmaAbort.mail = s.mail ∧ s.dmaAbort.net = s.net ∧ s.dmaAbort.tim = s.tim ∧ s.dmaAbort.gal = s.gal ∧
    s.dmaAbort.buf = s.buf ∧ s.dmaAbort.log = s.log ∧ s.dmaAbort.fuses = s.fuses ∧ s.dmaAbort.nvm = s.nvm ∧
    s.dmaAbort.prf = s.prf ∧ s.dmaAbort.free = s.free ∧ s.dmaAbort.pending = s.pending := by
  simp [State.dmaAbort]

end Sys2Proof.Machine
end

