-- ==== Sys2Proof/Laws/FrameProofs.lean ====
section
/-!
SUPPORT. The frame of each operation of Machine/Proofs.lean: the parts of State that it leaves as they were.
-/

namespace Sys2Proof.Machine

@[simp] theorem State.modRp_frame (s : State) (l : Lane) (f : RpLane → RpLane) : (s.modRp l f).ms = s.ms ∧
    (s.modRp l f).rrq = s.rrq ∧ (s.modRp l f).fld = s.fld ∧ (s.modRp l f).vot = s.vot ∧ (s.modRp l f).pair = s.pair
    ∧ (s.modRp l f).aon = s.aon ∧ (s.modRp l f).pwr = s.pwr ∧ (s.modRp l f).sh = s.sh ∧ (s.modRp l f).crc = s.crc ∧
    (s.modRp l f).mail = s.mail ∧ (s.modRp l f).net = s.net ∧ (s.modRp l f).tim = s.tim ∧ (s.modRp l f).gal = s.gal
    ∧ (s.modRp l f).buf = s.buf ∧ (s.modRp l f).log = s.log ∧ (s.modRp l f).fuses = s.fuses ∧
    (s.modRp l f).nvm = s.nvm ∧ (s.modRp l f).upd = s.upd ∧ (s.modRp l f).host = s.host ∧
    (s.modRp l f).free = s.free ∧ (s.modRp l f).pending = s.pending := by
  simp [State.modRp]

@[simp] theorem State.countFail_frame (s : State) : s.countFail.ms = s.ms ∧ s.countFail.rrq = s.rrq ∧
    s.countFail.fld = s.fld ∧ s.countFail.vot = s.vot ∧ s.countFail.pair = s.pair ∧ s.countFail.aon = s.aon ∧
    s.countFail.pwr = s.pwr ∧ s.countFail.sh = s.sh ∧ s.countFail.crc = s.crc ∧ s.countFail.mail = s.mail ∧
    s.countFail.net = s.net ∧ s.countFail.tim = s.tim ∧ s.countFail.gal = s.gal ∧ s.countFail.buf = s.buf ∧
    s.countFail.log = s.log ∧ s.countFail.fuses = s.fuses ∧ s.countFail.nvm = s.nvm ∧ s.countFail.upd = s.upd ∧
    s.countFail.host = s.host ∧ s.countFail.free = s.free ∧ s.countFail.pending = s.pending := by
  unfold State.countFail
  (repeat' split) <;> simp

@[simp] theorem State.dissentFailed_frame (s : State) (side : Side) (cs : List Chan) :
    (s.dissentFailed side cs).rrq = s.rrq ∧ (s.dissentFailed side cs).fld = s.fld ∧
    (s.dissentFailed side cs).pair = s.pair ∧ (s.dissentFailed side cs).pwr = s.pwr ∧
    (s.dissentFailed side cs).sh = s.sh ∧ (s.dissentFailed side cs).crc = s.crc ∧
    (s.dissentFailed side cs).net = s.net ∧ (s.dissentFailed side cs).tim = s.tim ∧
    (s.dissentFailed side cs).gal = s.gal ∧ (s.dissentFailed side cs).buf = s.buf ∧
    (s.dissentFailed side cs).fuses = s.fuses ∧ (s.dissentFailed side cs).free = s.free ∧
    (s.dissentFailed side cs).pending = s.pending := by
  simp [State.dissentFailed]

@[simp] theorem State.baseline_frame (s : State) (die : Nat) (ro : List Nat) : (s.baseline die ro).ms = s.ms ∧
    (s.baseline die ro).rrq = s.rrq ∧ (s.baseline die ro).lanes = s.lanes ∧ (s.baseline die ro).fld = s.fld ∧
    (s.baseline die ro).vot = s.vot ∧ (s.baseline die ro).pair = s.pair ∧ (s.baseline die ro).aon = s.aon ∧
    (s.baseline die ro).pwr = s.pwr ∧ (s.baseline die ro).sh = s.sh ∧ (s.baseline die ro).crc = s.crc ∧
    (s.baseline die ro).mail = s.mail ∧ (s.baseline die ro).net = s.net ∧ (s.baseline die ro).tim = s.tim ∧
    (s.baseline die ro).gal = s.gal ∧ (s.baseline die ro).buf = s.buf ∧ (s.baseline die ro).log = s.log ∧
    (s.baseline die ro).fuses = s.fuses ∧ (s.baseline die ro).upd = s.upd ∧ (s.baseline die ro).prf = s.prf ∧
    (s.baseline die ro).host = s.host ∧ (s.baseline die ro).free = s.free ∧ (s.baseline die ro).pending = s.pending
    := by
  simp [State.baseline]

@[simp] theorem State.estimate_frame (s : State) : s.estimate.ms = s.ms ∧ s.estimate.rrq = s.rrq ∧
    s.estimate.lanes = s.lanes ∧ s.estimate.fld = s.fld ∧ s.estimate.vot = s.vot ∧ s.estimate.pair = s.pair ∧
    s.estimate.aon = s.aon ∧ s.estimate.pwr = s.pwr ∧ s.estimate.sh = s.sh ∧ s.estimate.crc = s.crc ∧
    s.estimate.net = s.net ∧ s.estimate.tim = s.tim ∧ s.estimate.gal = s.gal ∧ s.estimate.buf = s.buf ∧
    s.estimate.fuses = s.fuses ∧ s.estimate.nvm = s.nvm ∧ s.estimate.upd = s.upd ∧ s.estimate.free = s.free ∧
    s.estimate.pending = s.pending := by
  simp [State.estimate]

@[simp] theorem State.bistGo_frame (s : State) : s.bistGo.rrq = s.rrq ∧ s.bistGo.vot = s.vot ∧
    s.bistGo.pair = s.pair ∧ s.bistGo.sh = s.sh ∧ s.bistGo.crc = s.crc ∧ s.bistGo.net = s.net ∧ s.bistGo.tim = s.tim
    ∧ s.bistGo.gal = s.gal ∧ s.bistGo.buf = s.buf ∧ s.bistGo.fuses = s.fuses ∧ s.bistGo.free = s.free ∧
    s.bistGo.pending = s.pending := by
  simp [State.bistGo]

end Sys2Proof.Machine
end

