-- ==== Sys2Proof/Laws/FrameStreams.lean ====
section
/-!
SUPPORT. The frame of each operation of Machine/Streams.lean: the parts of State that it leaves as they were.
-/

namespace Sys2Proof.Machine

@[simp] theorem State.switchEdge_frame (s : State) : s.switchEdge.ms = s.ms ∧ s.switchEdge.rrq = s.rrq ∧
    s.switchEdge.lanes = s.lanes ∧ s.switchEdge.fld = s.fld ∧ s.switchEdge.vot = s.vot ∧ s.switchEdge.pair = s.pair
    ∧ s.switchEdge.aon = s.aon ∧ s.switchEdge.pwr = s.pwr ∧ s.switchEdge.sh = s.sh ∧ s.switchEdge.crc = s.crc ∧
    s.switchEdge.buf = s.buf ∧ s.switchEdge.fuses = s.fuses ∧ s.switchEdge.nvm = s.nvm ∧ s.switchEdge.upd = s.upd ∧
    s.switchEdge.prf = s.prf ∧ s.switchEdge.free = s.free ∧ s.switchEdge.pending = s.pending := by
  unfold State.switchEdge
  (repeat' split) <;> simp

end Sys2Proof.Machine
end

