-- ==== Sys2Proof/Laws/FrameSeal.lean ====
section
/-!
SUPPORT. The frame of each operation of Machine/Seal.lean: the parts of State that it leaves as they were.
-/

namespace Sys2Proof.Machine

theorem State.exportOne_frame {s : State} {p : Record × State} (h : s.exportOne = some p) : p.2.ms = s.ms ∧ p.2.rrq
    = s.rrq ∧ p.2.lanes = s.lanes ∧ p.2.fld = s.fld ∧ p.2.vot = s.vot ∧ p.2.pair = s.pair ∧ p.2.aon = s.aon ∧
    p.2.pwr = s.pwr ∧ p.2.sh = s.sh ∧ p.2.crc = s.crc ∧ p.2.net = s.net ∧ p.2.tim = s.tim ∧ p.2.gal = s.gal ∧
    p.2.buf = s.buf ∧ p.2.fuses = s.fuses ∧ p.2.nvm = s.nvm ∧ p.2.upd = s.upd ∧ p.2.prf = s.prf ∧ p.2.free = s.free
    ∧ p.2.pending = s.pending := by
  unfold State.exportOne at h
  dsimp only at h
  split at h
  · cases h
  · cases h
    simp

@[simp] theorem State.takeLogs_frame (s : State) (n : Nat) (only : Bool) : (s.takeLogs n only).2.ms = s.ms ∧
    (s.takeLogs n only).2.rrq = s.rrq ∧ (s.takeLogs n only).2.lanes = s.lanes ∧ (s.takeLogs n only).2.fld = s.fld ∧
    (s.takeLogs n only).2.vot = s.vot ∧ (s.takeLogs n only).2.pair = s.pair ∧ (s.takeLogs n only).2.aon = s.aon ∧
    (s.takeLogs n only).2.pwr = s.pwr ∧ (s.takeLogs n only).2.sh = s.sh ∧ (s.takeLogs n only).2.crc = s.crc ∧
    (s.takeLogs n only).2.net = s.net ∧ (s.takeLogs n only).2.tim = s.tim ∧ (s.takeLogs n only).2.gal = s.gal ∧
    (s.takeLogs n only).2.buf = s.buf ∧ (s.takeLogs n only).2.fuses = s.fuses ∧ (s.takeLogs n only).2.nvm = s.nvm ∧
    (s.takeLogs n only).2.upd = s.upd ∧ (s.takeLogs n only).2.prf = s.prf ∧ (s.takeLogs n only).2.free = s.free ∧
    (s.takeLogs n only).2.pending = s.pending := by
  induction n generalizing s with
  | zero => simp [State.takeLogs]
  | succ k ih =>
    unfold State.takeLogs
    split
    · simp
    · rename_i r s1 h
      split
      · simp
      · have e := State.exportOne_frame h
        have i := ih s1
        dsimp only at e ⊢
        simp only [i, e, and_self]

@[simp] theorem State.logReserve_frame (s : State) (used : Nat) : (s.logReserve used).2.ms = s.ms ∧ (s.logReserve
    used).2.rrq = s.rrq ∧ (s.logReserve used).2.lanes = s.lanes ∧ (s.logReserve used).2.fld = s.fld ∧ (s.logReserve
    used).2.vot = s.vot ∧ (s.logReserve used).2.pair = s.pair ∧ (s.logReserve used).2.aon = s.aon ∧ (s.logReserve
    used).2.pwr = s.pwr ∧ (s.logReserve used).2.sh = s.sh ∧ (s.logReserve used).2.crc = s.crc ∧ (s.logReserve
    used).2.net = s.net ∧ (s.logReserve used).2.tim = s.tim ∧ (s.logReserve used).2.gal = s.gal ∧ (s.logReserve
    used).2.buf = s.buf ∧ (s.logReserve used).2.fuses = s.fuses ∧ (s.logReserve used).2.nvm = s.nvm ∧ (s.logReserve
    used).2.upd = s.upd ∧ (s.logReserve used).2.prf = s.prf ∧ (s.logReserve used).2.free = s.free ∧ (s.logReserve
    used).2.pending = s.pending := by
  simp [State.logReserve]

@[simp] theorem State.ringCopy_frame (s : State) (r : Record) : (s.ringCopy r).ms = s.ms ∧
    (s.ringCopy r).rrq = s.rrq ∧ (s.ringCopy r).lanes = s.lanes ∧ (s.ringCopy r).fld = s.fld ∧
    (s.ringCopy r).vot = s.vot ∧ (s.ringCopy r).pair = s.pair ∧ (s.ringCopy r).aon = s.aon ∧
    (s.ringCopy r).pwr = s.pwr ∧ (s.ringCopy r).sh = s.sh ∧ (s.ringCopy r).crc = s.crc ∧
    (s.ringCopy r).mail = s.mail ∧ (s.ringCopy r).net = s.net ∧ (s.ringCopy r).tim = s.tim ∧
    (s.ringCopy r).gal = s.gal ∧ (s.ringCopy r).buf = s.buf ∧ (s.ringCopy r).fuses = s.fuses ∧
    (s.ringCopy r).nvm = s.nvm ∧ (s.ringCopy r).upd = s.upd ∧ (s.ringCopy r).prf = s.prf ∧
    (s.ringCopy r).free = s.free ∧ (s.ringCopy r).pending = s.pending := by
  simp [State.ringCopy]

@[simp] theorem State.holdCopy_frame (s : State) (l : Lane) (stream : BitVec 12) (x : Sealed) :
    (s.holdCopy l stream x).ms = s.ms ∧ (s.holdCopy l stream x).rrq = s.rrq ∧ (s.holdCopy l stream x).fld = s.fld ∧
    (s.holdCopy l stream x).vot = s.vot ∧ (s.holdCopy l stream x).pair = s.pair ∧
    (s.holdCopy l stream x).aon = s.aon ∧ (s.holdCopy l stream x).pwr = s.pwr ∧ (s.holdCopy l stream x).sh = s.sh ∧
    (s.holdCopy l stream x).crc = s.crc ∧ (s.holdCopy l stream x).mail = s.mail ∧
    (s.holdCopy l stream x).net = s.net ∧ (s.holdCopy l stream x).tim = s.tim ∧ (s.holdCopy l stream x).gal = s.gal
    ∧ (s.holdCopy l stream x).buf = s.buf ∧ (s.holdCopy l stream x).log = s.log ∧
    (s.holdCopy l stream x).fuses = s.fuses ∧ (s.holdCopy l stream x).nvm = s.nvm ∧
    (s.holdCopy l stream x).upd = s.upd ∧ (s.holdCopy l stream x).prf = s.prf ∧
    (s.holdCopy l stream x).host = s.host ∧ (s.holdCopy l stream x).free = s.free ∧
    (s.holdCopy l stream x).pending = s.pending := by
  simp [State.holdCopy]

@[simp] theorem State.sealAll_frame (s : State) (who : BitVec 3) (outs : PerLane LaneOut) :
    (s.sealAll who outs).ms = s.ms ∧ (s.sealAll who outs).rrq = s.rrq ∧ (s.sealAll who outs).fld = s.fld ∧
    (s.sealAll who outs).vot = s.vot ∧ (s.sealAll who outs).aon = s.aon ∧ (s.sealAll who outs).pwr = s.pwr ∧
    (s.sealAll who outs).sh = s.sh ∧ (s.sealAll who outs).crc = s.crc ∧ (s.sealAll who outs).net = s.net ∧
    (s.sealAll who outs).tim = s.tim ∧ (s.sealAll who outs).fuses = s.fuses ∧ (s.sealAll who outs).nvm = s.nvm ∧
    (s.sealAll who outs).upd = s.upd ∧ (s.sealAll who outs).prf = s.prf ∧ (s.sealAll who outs).free = s.free ∧
    (s.sealAll who outs).pending = s.pending := by
  unfold State.sealAll
  (repeat' split) <;> simp

@[simp] theorem State.decideSwitch_frame (s : State) : s.decideSwitch.ms = s.ms ∧ s.decideSwitch.rrq = s.rrq ∧
    s.decideSwitch.fld = s.fld ∧ s.decideSwitch.vot = s.vot ∧ s.decideSwitch.pwr = s.pwr ∧ s.decideSwitch.sh = s.sh
    ∧ s.decideSwitch.crc = s.crc ∧ s.decideSwitch.net = s.net ∧ s.decideSwitch.tim = s.tim ∧
    s.decideSwitch.fuses = s.fuses ∧ s.decideSwitch.nvm = s.nvm ∧ s.decideSwitch.upd = s.upd ∧
    s.decideSwitch.prf = s.prf ∧ s.decideSwitch.free = s.free ∧ s.decideSwitch.pending = s.pending := by
  unfold State.decideSwitch
  (repeat' split) <;> simp

end Sys2Proof.Machine
end

