-- ==== Sys2Proof/Laws/FramePhases.lean ====
section
/-!
SUPPORT. The frame of each operation of Machine/Phases.lean: the parts of State that it leaves as they were.
-/

namespace Sys2Proof.Machine

@[simp] theorem State.leaves_frame (s : State) (l : Lane) (cause : BitVec 4) : (s.leaves l cause).ms = s.ms ∧
    (s.leaves l cause).rrq = s.rrq ∧ (s.leaves l cause).vot = s.vot ∧ (s.leaves l cause).pair = s.pair ∧
    (s.leaves l cause).aon = s.aon ∧ (s.leaves l cause).sh = s.sh ∧ (s.leaves l cause).crc = s.crc ∧
    (s.leaves l cause).net = s.net ∧ (s.leaves l cause).tim = s.tim ∧ (s.leaves l cause).gal = s.gal ∧
    (s.leaves l cause).buf = s.buf ∧ (s.leaves l cause).fuses = s.fuses ∧ (s.leaves l cause).prf = s.prf ∧
    (s.leaves l cause).free = s.free ∧ (s.leaves l cause).pending = s.pending := by
  unfold State.leaves
  (repeat' split) <;> simp

@[simp] theorem State.voted_frame (s : State) (l : Lane) : (s.voted l).ms = s.ms ∧ (s.voted l).rrq = s.rrq ∧
    (s.voted l).fld = s.fld ∧ (s.voted l).vot = s.vot ∧ (s.voted l).pair = s.pair ∧ (s.voted l).aon = s.aon ∧
    (s.voted l).pwr = s.pwr ∧ (s.voted l).sh = s.sh ∧ (s.voted l).crc = s.crc ∧ (s.voted l).net = s.net ∧
    (s.voted l).tim = s.tim ∧ (s.voted l).gal = s.gal ∧ (s.voted l).buf = s.buf ∧ (s.voted l).fuses = s.fuses ∧
    (s.voted l).nvm = s.nvm ∧ (s.voted l).upd = s.upd ∧ (s.voted l).prf = s.prf ∧ (s.voted l).free = s.free ∧
    (s.voted l).pending = s.pending := by
  unfold State.voted
  (repeat' split) <;> simp

@[simp] theorem State.tickMode_frame (s : State) (able : BitVec 3) (split : Bool) :
    (s.tickMode able split).rrq = s.rrq ∧ (s.tickMode able split).lanes = s.lanes ∧
    (s.tickMode able split).fld = s.fld ∧ (s.tickMode able split).vot = s.vot ∧
    (s.tickMode able split).pair = s.pair ∧ (s.tickMode able split).pwr = s.pwr ∧ (s.tickMode able split).sh = s.sh
    ∧ (s.tickMode able split).crc = s.crc ∧ (s.tickMode able split).net = s.net ∧
    (s.tickMode able split).tim = s.tim ∧ (s.tickMode able split).gal = s.gal ∧ (s.tickMode able split).buf = s.buf
    ∧ (s.tickMode able split).fuses = s.fuses ∧ (s.tickMode able split).prf = s.prf ∧
    (s.tickMode able split).free = s.free ∧ (s.tickMode able split).pending = s.pending := by
  simp [State.tickMode]

@[simp] theorem State.vote_frame (s : State) (obs : TickObs) (v : Verdict) : (s.vote obs v).rrq = s.rrq ∧
    (s.vote obs v).vot = s.vot ∧ (s.vote obs v).pair = s.pair ∧ (s.vote obs v).sh = s.sh ∧
    (s.vote obs v).crc = s.crc ∧ (s.vote obs v).net = s.net ∧ (s.vote obs v).tim = s.tim ∧
    (s.vote obs v).gal = s.gal ∧ (s.vote obs v).buf = s.buf ∧ (s.vote obs v).fuses = s.fuses ∧
    (s.vote obs v).prf = s.prf ∧ (s.vote obs v).free = s.free ∧ (s.vote obs v).pending = s.pending := by
  simp [State.vote]

@[simp] theorem State.transFaults_frame (s : State) (ts : List (Chan × Side)) : (s.transFaults ts).rrq = s.rrq ∧
    (s.transFaults ts).lanes = s.lanes ∧ (s.transFaults ts).fld = s.fld ∧ (s.transFaults ts).pair = s.pair ∧
    (s.transFaults ts).pwr = s.pwr ∧ (s.transFaults ts).sh = s.sh ∧ (s.transFaults ts).crc = s.crc ∧
    (s.transFaults ts).net = s.net ∧ (s.transFaults ts).tim = s.tim ∧ (s.transFaults ts).gal = s.gal ∧
    (s.transFaults ts).buf = s.buf ∧ (s.transFaults ts).fuses = s.fuses ∧ (s.transFaults ts).prf = s.prf ∧
    (s.transFaults ts).free = s.free ∧ (s.transFaults ts).pending = s.pending := by
  simp [State.transFaults]

@[simp] theorem State.tokenFaults_frame (s : State) (cs : List Chan) : (s.tokenFaults cs).rrq = s.rrq ∧
    (s.tokenFaults cs).lanes = s.lanes ∧ (s.tokenFaults cs).fld = s.fld ∧ (s.tokenFaults cs).pair = s.pair ∧
    (s.tokenFaults cs).pwr = s.pwr ∧ (s.tokenFaults cs).sh = s.sh ∧ (s.tokenFaults cs).crc = s.crc ∧
    (s.tokenFaults cs).net = s.net ∧ (s.tokenFaults cs).tim = s.tim ∧ (s.tokenFaults cs).gal = s.gal ∧
    (s.tokenFaults cs).buf = s.buf ∧ (s.tokenFaults cs).fuses = s.fuses ∧ (s.tokenFaults cs).prf = s.prf ∧
    (s.tokenFaults cs).free = s.free ∧ (s.tokenFaults cs).pending = s.pending := by
  simp [State.tokenFaults]

@[simp] theorem State.supplyFault_frame (s : State) (bs : List Bank) : (s.supplyFault bs).rrq = s.rrq ∧
    (s.supplyFault bs).lanes = s.lanes ∧ (s.supplyFault bs).vot = s.vot ∧ (s.supplyFault bs).pair = s.pair ∧
    (s.supplyFault bs).pwr = s.pwr ∧ (s.supplyFault bs).sh = s.sh ∧ (s.supplyFault bs).crc = s.crc ∧
    (s.supplyFault bs).net = s.net ∧ (s.supplyFault bs).tim = s.tim ∧ (s.supplyFault bs).gal = s.gal ∧
    (s.supplyFault bs).buf = s.buf ∧ (s.supplyFault bs).fuses = s.fuses ∧ (s.supplyFault bs).prf = s.prf ∧
    (s.supplyFault bs).free = s.free ∧ (s.supplyFault bs).pending = s.pending := by
  simp [State.supplyFault]

@[simp] theorem State.tickFaults_frame (s : State) (obs : TickObs) (o : LaneOut) : (s.tickFaults obs o).rrq = s.rrq
    ∧ (s.tickFaults obs o).lanes = s.lanes ∧ (s.tickFaults obs o).pair = s.pair ∧ (s.tickFaults obs o).pwr = s.pwr ∧
    (s.tickFaults obs o).sh = s.sh ∧ (s.tickFaults obs o).crc = s.crc ∧ (s.tickFaults obs o).net = s.net ∧
    (s.tickFaults obs o).tim = s.tim ∧ (s.tickFaults obs o).gal = s.gal ∧ (s.tickFaults obs o).buf = s.buf ∧
    (s.tickFaults obs o).fuses = s.fuses ∧ (s.tickFaults obs o).prf = s.prf ∧ (s.tickFaults obs o).free = s.free ∧
    (s.tickFaults obs o).pending = s.pending := by
  simp [State.tickFaults]

@[simp] theorem State.galleryTick_frame (s : State) (r : Reading) : (s.galleryTick r).ms = s.ms ∧
    (s.galleryTick r).rrq = s.rrq ∧ (s.galleryTick r).lanes = s.lanes ∧ (s.galleryTick r).fld = s.fld ∧
    (s.galleryTick r).vot = s.vot ∧ (s.galleryTick r).pair = s.pair ∧ (s.galleryTick r).aon = s.aon ∧
    (s.galleryTick r).pwr = s.pwr ∧ (s.galleryTick r).sh = s.sh ∧ (s.galleryTick r).crc = s.crc ∧
    (s.galleryTick r).mail = s.mail ∧ (s.galleryTick r).net = s.net ∧ (s.galleryTick r).tim = s.tim ∧
    (s.galleryTick r).buf = s.buf ∧ (s.galleryTick r).log = s.log ∧ (s.galleryTick r).fuses = s.fuses ∧
    (s.galleryTick r).nvm = s.nvm ∧ (s.galleryTick r).upd = s.upd ∧ (s.galleryTick r).prf = s.prf ∧
    (s.galleryTick r).host = s.host ∧ (s.galleryTick r).free = s.free ∧ (s.galleryTick r).pending = s.pending := by
  unfold State.galleryTick
  dsimp only
  (repeat' split) <;> simp (disch := (intros; (repeat' split) <;> simp))

end Sys2Proof.Machine
end

