-- ==== Sys2Proof/Laws/FrameTick.lean ====
section
/-!
SUPPORT. The frame of each operation of Machine/Tick.lean: the parts of State that it leaves as they were.
-/

namespace Sys2Proof.Machine

@[simp] theorem State.toEdge_frame (s : State) : s.toEdge.ms = s.ms ∧ s.toEdge.rrq = s.rrq ∧
    s.toEdge.lanes = s.lanes ∧ s.toEdge.fld = s.fld ∧ s.toEdge.vot = s.vot ∧ s.toEdge.pair = s.pair ∧
    s.toEdge.pwr = s.pwr ∧ s.toEdge.sh = s.sh ∧ s.toEdge.crc = s.crc ∧ s.toEdge.mail = s.mail ∧ s.toEdge.net = s.net
    ∧ s.toEdge.tim = s.tim ∧ s.toEdge.gal = s.gal ∧ s.toEdge.buf = s.buf ∧ s.toEdge.log = s.log ∧
    s.toEdge.fuses = s.fuses ∧ s.toEdge.nvm = s.nvm ∧ s.toEdge.upd = s.upd ∧ s.toEdge.prf = s.prf ∧
    s.toEdge.host = s.host ∧ s.toEdge.free = s.free ∧ s.toEdge.pending = s.pending := by
  simp [State.toEdge]

@[simp] theorem State.edgeNet_frame (s : State) : s.edgeNet.rrq = s.rrq ∧ s.edgeNet.lanes = s.lanes ∧
    s.edgeNet.fld = s.fld ∧ s.edgeNet.vot = s.vot ∧ s.edgeNet.pair = s.pair ∧ s.edgeNet.pwr = s.pwr ∧
    s.edgeNet.sh = s.sh ∧ s.edgeNet.crc = s.crc ∧ s.edgeNet.mail = s.mail ∧ s.edgeNet.buf = s.buf ∧
    s.edgeNet.log = s.log ∧ s.edgeNet.fuses = s.fuses ∧ s.edgeNet.nvm = s.nvm ∧ s.edgeNet.upd = s.upd ∧
    s.edgeNet.prf = s.prf ∧ s.edgeNet.host = s.host ∧ s.edgeNet.free = s.free ∧ s.edgeNet.pending = s.pending := by
  simp [State.edgeNet]

@[simp] theorem State.edgeBuf_frame (s : State) : s.edgeBuf.ms = s.ms ∧ s.edgeBuf.rrq = s.rrq ∧
    s.edgeBuf.lanes = s.lanes ∧ s.edgeBuf.fld = s.fld ∧ s.edgeBuf.vot = s.vot ∧ s.edgeBuf.pair = s.pair ∧
    s.edgeBuf.aon = s.aon ∧ s.edgeBuf.pwr = s.pwr ∧ s.edgeBuf.sh = s.sh ∧ s.edgeBuf.crc = s.crc ∧
    s.edgeBuf.mail = s.mail ∧ s.edgeBuf.net = s.net ∧ s.edgeBuf.tim = s.tim ∧ s.edgeBuf.gal = s.gal ∧
    s.edgeBuf.log = s.log ∧ s.edgeBuf.fuses = s.fuses ∧ s.edgeBuf.nvm = s.nvm ∧ s.edgeBuf.upd = s.upd ∧
    s.edgeBuf.prf = s.prf ∧ s.edgeBuf.host = s.host ∧ s.edgeBuf.free = s.free ∧ s.edgeBuf.pending = s.pending := by
  simp [State.edgeBuf]

@[simp] theorem State.edgeMirror_frame (s : State) : s.edgeMirror.ms = s.ms ∧ s.edgeMirror.rrq = s.rrq ∧
    s.edgeMirror.lanes = s.lanes ∧ s.edgeMirror.fld = s.fld ∧ s.edgeMirror.vot = s.vot ∧ s.edgeMirror.pair = s.pair
    ∧ s.edgeMirror.aon = s.aon ∧ s.edgeMirror.pwr = s.pwr ∧ s.edgeMirror.sh = s.sh ∧ s.edgeMirror.crc = s.crc ∧
    s.edgeMirror.mail = s.mail ∧ s.edgeMirror.net = s.net ∧ s.edgeMirror.tim = s.tim ∧ s.edgeMirror.gal = s.gal ∧
    s.edgeMirror.buf = s.buf ∧ s.edgeMirror.log = s.log ∧ s.edgeMirror.fuses = s.fuses ∧ s.edgeMirror.nvm = s.nvm ∧
    s.edgeMirror.upd = s.upd ∧ s.edgeMirror.prf = s.prf ∧ s.edgeMirror.free = s.free ∧
    s.edgeMirror.pending = s.pending := by
  simp [State.edgeMirror]

@[simp] theorem State.edgeCounts_frame (s : State) : s.edgeCounts.ms = s.ms ∧ s.edgeCounts.rrq = s.rrq ∧
    s.edgeCounts.lanes = s.lanes ∧ s.edgeCounts.fld = s.fld ∧ s.edgeCounts.vot = s.vot ∧ s.edgeCounts.pair = s.pair
    ∧ s.edgeCounts.aon = s.aon ∧ s.edgeCounts.pwr = s.pwr ∧ s.edgeCounts.crc = s.crc ∧ s.edgeCounts.net = s.net ∧
    s.edgeCounts.tim = s.tim ∧ s.edgeCounts.buf = s.buf ∧ s.edgeCounts.fuses = s.fuses ∧ s.edgeCounts.nvm = s.nvm ∧
    s.edgeCounts.upd = s.upd ∧ s.edgeCounts.prf = s.prf ∧ s.edgeCounts.free = s.free ∧
    s.edgeCounts.pending = s.pending := by
  simp [State.edgeCounts]

@[simp] theorem State.edgeClear_frame (s : State) : (s.edgeClear).1.fld = s.fld ∧ (s.edgeClear).1.vot = s.vot ∧
    (s.edgeClear).1.pair = s.pair ∧ (s.edgeClear).1.aon = s.aon ∧ (s.edgeClear).1.pwr = s.pwr ∧
    (s.edgeClear).1.sh = s.sh ∧ (s.edgeClear).1.crc = s.crc ∧ (s.edgeClear).1.net = s.net ∧
    (s.edgeClear).1.tim = s.tim ∧ (s.edgeClear).1.gal = s.gal ∧ (s.edgeClear).1.buf = s.buf ∧
    (s.edgeClear).1.fuses = s.fuses ∧ (s.edgeClear).1.nvm = s.nvm ∧ (s.edgeClear).1.upd = s.upd ∧
    (s.edgeClear).1.prf = s.prf ∧ (s.edgeClear).1.free = s.free ∧ (s.edgeClear).1.pending = s.pending := by
  simp (disch := (intros; (repeat' split) <;> simp)) [State.edgeClear]

@[simp] theorem State.edgeCopies_frame (s : State) : s.edgeCopies.ms = s.ms ∧ s.edgeCopies.rrq = s.rrq ∧
    s.edgeCopies.fld = s.fld ∧ s.edgeCopies.vot = s.vot ∧ s.edgeCopies.pair = s.pair ∧ s.edgeCopies.aon = s.aon ∧
    s.edgeCopies.pwr = s.pwr ∧ s.edgeCopies.sh = s.sh ∧ s.edgeCopies.crc = s.crc ∧ s.edgeCopies.net = s.net ∧
    s.edgeCopies.tim = s.tim ∧ s.edgeCopies.gal = s.gal ∧ s.edgeCopies.buf = s.buf ∧ s.edgeCopies.fuses = s.fuses ∧
    s.edgeCopies.prf = s.prf ∧ s.edgeCopies.free = s.free ∧ s.edgeCopies.pending = s.pending := by
  simp [State.edgeCopies]

@[simp] theorem State.edgeSupply_frame (s : State) (obs : TickObs) : (s.edgeSupply obs).ms = s.ms ∧
    (s.edgeSupply obs).rrq = s.rrq ∧ (s.edgeSupply obs).vot = s.vot ∧ (s.edgeSupply obs).pair = s.pair ∧
    (s.edgeSupply obs).aon = s.aon ∧ (s.edgeSupply obs).sh = s.sh ∧ (s.edgeSupply obs).crc = s.crc ∧
    (s.edgeSupply obs).mail = s.mail ∧ (s.edgeSupply obs).net = s.net ∧ (s.edgeSupply obs).tim = s.tim ∧
    (s.edgeSupply obs).gal = s.gal ∧ (s.edgeSupply obs).buf = s.buf ∧ (s.edgeSupply obs).log = s.log ∧
    (s.edgeSupply obs).fuses = s.fuses ∧ (s.edgeSupply obs).upd = s.upd ∧ (s.edgeSupply obs).prf = s.prf ∧
    (s.edgeSupply obs).host = s.host ∧ (s.edgeSupply obs).free = s.free ∧ (s.edgeSupply obs).pending = s.pending :=
    by
  simp [State.edgeSupply]

@[simp] theorem State.tickSources_frame (s : State) : s.tickSources.ms = s.ms ∧ s.tickSources.rrq = s.rrq ∧
    s.tickSources.lanes = s.lanes ∧ s.tickSources.vot = s.vot ∧ s.tickSources.pair = s.pair ∧
    s.tickSources.aon = s.aon ∧ s.tickSources.pwr = s.pwr ∧ s.tickSources.sh = s.sh ∧ s.tickSources.crc = s.crc ∧
    s.tickSources.mail = s.mail ∧ s.tickSources.net = s.net ∧ s.tickSources.tim = s.tim ∧ s.tickSources.gal = s.gal
    ∧ s.tickSources.buf = s.buf ∧ s.tickSources.log = s.log ∧ s.tickSources.fuses = s.fuses ∧
    s.tickSources.nvm = s.nvm ∧ s.tickSources.upd = s.upd ∧ s.tickSources.prf = s.prf ∧ s.tickSources.host = s.host
    ∧ s.tickSources.free = s.free ∧ s.tickSources.pending = s.pending := by
  simp [State.tickSources]

@[simp] theorem State.edge_frame (s : State) : (s.edge).1.fld = s.fld ∧ (s.edge).1.vot = s.vot ∧
    (s.edge).1.pair = s.pair ∧ (s.edge).1.pwr = s.pwr ∧ (s.edge).1.crc = s.crc ∧ (s.edge).1.fuses = s.fuses ∧
    (s.edge).1.prf = s.prf ∧ (s.edge).1.free = s.free ∧ (s.edge).1.pending = s.pending := by
  simp [State.edge]

@[simp] theorem State.takeRole_frame (s : State) : s.takeRole.rrq = s.rrq ∧ s.takeRole.lanes = s.lanes ∧
    s.takeRole.fld = s.fld ∧ s.takeRole.vot = s.vot ∧ s.takeRole.aon = s.aon ∧ s.takeRole.pwr = s.pwr ∧
    s.takeRole.sh = s.sh ∧ s.takeRole.crc = s.crc ∧ s.takeRole.mail = s.mail ∧ s.takeRole.net = s.net ∧
    s.takeRole.tim = s.tim ∧ s.takeRole.gal = s.gal ∧ s.takeRole.buf = s.buf ∧ s.takeRole.log = s.log ∧
    s.takeRole.fuses = s.fuses ∧ s.takeRole.nvm = s.nvm ∧ s.takeRole.upd = s.upd ∧ s.takeRole.prf = s.prf ∧
    s.takeRole.host = s.host ∧ s.takeRole.free = s.free ∧ s.takeRole.pending = s.pending := by
  unfold State.takeRole
  (repeat' split) <;> simp

@[simp] theorem State.leaveJoin_frame (s : State) : s.leaveJoin.fld = s.fld ∧ s.leaveJoin.vot = s.vot ∧
    s.leaveJoin.aon = s.aon ∧ s.leaveJoin.pwr = s.pwr ∧ s.leaveJoin.sh = s.sh ∧ s.leaveJoin.crc = s.crc ∧
    s.leaveJoin.mail = s.mail ∧ s.leaveJoin.net = s.net ∧ s.leaveJoin.tim = s.tim ∧ s.leaveJoin.gal = s.gal ∧
    s.leaveJoin.buf = s.buf ∧ s.leaveJoin.log = s.log ∧ s.leaveJoin.fuses = s.fuses ∧ s.leaveJoin.nvm = s.nvm ∧
    s.leaveJoin.upd = s.upd ∧ s.leaveJoin.prf = s.prf ∧ s.leaveJoin.host = s.host ∧ s.leaveJoin.free = s.free ∧
    s.leaveJoin.pending = s.pending := by
  simp [State.leaveJoin]

@[simp] theorem State.conditions_frame (s : State) (obs : TickObs) (members : BitVec 3) (k : LaneK) :
    (s.conditions obs members k).rrq = s.rrq ∧ (s.conditions obs members k).lanes = s.lanes ∧
    (s.conditions obs members k).fld = s.fld ∧ (s.conditions obs members k).vot = s.vot ∧
    (s.conditions obs members k).pair = s.pair ∧ (s.conditions obs members k).aon = s.aon ∧
    (s.conditions obs members k).pwr = s.pwr ∧ (s.conditions obs members k).sh = s.sh ∧
    (s.conditions obs members k).crc = s.crc ∧ (s.conditions obs members k).mail = s.mail ∧
    (s.conditions obs members k).net = s.net ∧ (s.conditions obs members k).tim = s.tim ∧
    (s.conditions obs members k).gal = s.gal ∧ (s.conditions obs members k).buf = s.buf ∧
    (s.conditions obs members k).log = s.log ∧ (s.conditions obs members k).fuses = s.fuses ∧
    (s.conditions obs members k).nvm = s.nvm ∧ (s.conditions obs members k).prf = s.prf ∧
    (s.conditions obs members k).host = s.host ∧ (s.conditions obs members k).free = s.free ∧
    (s.conditions obs members k).pending = s.pending := by
  simp [State.conditions]

@[simp] theorem State.pairAdopt_frame (s : State) (r : Reading) : (s.pairAdopt r).rrq = s.rrq ∧
    (s.pairAdopt r).fld = s.fld ∧ (s.pairAdopt r).vot = s.vot ∧ (s.pairAdopt r).aon = s.aon ∧
    (s.pairAdopt r).pwr = s.pwr ∧ (s.pairAdopt r).sh = s.sh ∧ (s.pairAdopt r).crc = s.crc ∧
    (s.pairAdopt r).net = s.net ∧ (s.pairAdopt r).tim = s.tim ∧ (s.pairAdopt r).gal = s.gal ∧
    (s.pairAdopt r).buf = s.buf ∧ (s.pairAdopt r).fuses = s.fuses ∧ (s.pairAdopt r).nvm = s.nvm ∧
    (s.pairAdopt r).upd = s.upd ∧ (s.pairAdopt r).prf = s.prf ∧ (s.pairAdopt r).free = s.free ∧
    (s.pairAdopt r).pending = s.pending := by
  unfold State.pairAdopt
  (repeat' split) <;> simp

@[simp] theorem State.agreeReset_frame (s : State) (agreed : Bool) : (s.agreeReset agreed).ms = s.ms ∧
    (s.agreeReset agreed).lanes = s.lanes ∧ (s.agreeReset agreed).fld = s.fld ∧ (s.agreeReset agreed).vot = s.vot ∧
    (s.agreeReset agreed).pair = s.pair ∧ (s.agreeReset agreed).aon = s.aon ∧ (s.agreeReset agreed).pwr = s.pwr ∧
    (s.agreeReset agreed).sh = s.sh ∧ (s.agreeReset agreed).crc = s.crc ∧ (s.agreeReset agreed).mail = s.mail ∧
    (s.agreeReset agreed).net = s.net ∧ (s.agreeReset agreed).tim = s.tim ∧ (s.agreeReset agreed).gal = s.gal ∧
    (s.agreeReset agreed).buf = s.buf ∧ (s.agreeReset agreed).log = s.log ∧ (s.agreeReset agreed).fuses = s.fuses ∧
    (s.agreeReset agreed).nvm = s.nvm ∧ (s.agreeReset agreed).upd = s.upd ∧ (s.agreeReset agreed).prf = s.prf ∧
    (s.agreeReset agreed).host = s.host ∧ (s.agreeReset agreed).free = s.free ∧
    (s.agreeReset agreed).pending = s.pending := by
  simp [State.agreeReset]

@[simp] theorem State.commitLane_frame (s : State) (who : BitVec 3) (l : Lane) (o : LaneOut) (clock : Bool) :
    (s.commitLane who l o clock).ms = s.ms ∧ (s.commitLane who l o clock).rrq = s.rrq ∧
    (s.commitLane who l o clock).fld = s.fld ∧ (s.commitLane who l o clock).vot = s.vot ∧
    (s.commitLane who l o clock).pair = s.pair ∧ (s.commitLane who l o clock).aon = s.aon ∧
    (s.commitLane who l o clock).pwr = s.pwr ∧ (s.commitLane who l o clock).sh = s.sh ∧
    (s.commitLane who l o clock).crc = s.crc ∧ (s.commitLane who l o clock).mail = s.mail ∧
    (s.commitLane who l o clock).net = s.net ∧ (s.commitLane who l o clock).tim = s.tim ∧
    (s.commitLane who l o clock).gal = s.gal ∧ (s.commitLane who l o clock).buf = s.buf ∧
    (s.commitLane who l o clock).log = s.log ∧ (s.commitLane who l o clock).fuses = s.fuses ∧
    (s.commitLane who l o clock).nvm = s.nvm ∧ (s.commitLane who l o clock).upd = s.upd ∧
    (s.commitLane who l o clock).prf = s.prf ∧ (s.commitLane who l o clock).host = s.host ∧
    (s.commitLane who l o clock).free = s.free ∧ (s.commitLane who l o clock).pending = s.pending := by
  simp [State.commitLane]

@[simp] theorem State.chanRegs_frame (s : State) (o : LaneOut) : (s.chanRegs o).ms = s.ms ∧
    (s.chanRegs o).rrq = s.rrq ∧ (s.chanRegs o).lanes = s.lanes ∧ (s.chanRegs o).vot = s.vot ∧
    (s.chanRegs o).pair = s.pair ∧ (s.chanRegs o).aon = s.aon ∧ (s.chanRegs o).pwr = s.pwr ∧
    (s.chanRegs o).sh = s.sh ∧ (s.chanRegs o).crc = s.crc ∧ (s.chanRegs o).mail = s.mail ∧
    (s.chanRegs o).net = s.net ∧ (s.chanRegs o).tim = s.tim ∧ (s.chanRegs o).gal = s.gal ∧
    (s.chanRegs o).buf = s.buf ∧ (s.chanRegs o).log = s.log ∧ (s.chanRegs o).fuses = s.fuses ∧
    (s.chanRegs o).nvm = s.nvm ∧ (s.chanRegs o).upd = s.upd ∧ (s.chanRegs o).prf = s.prf ∧
    (s.chanRegs o).host = s.host ∧ (s.chanRegs o).free = s.free ∧ (s.chanRegs o).pending = s.pending := by
  simp [State.chanRegs]

@[simp] theorem State.bankRegs_frame (s : State) (obs : TickObs) (o : LaneOut) : (s.bankRegs obs o).ms = s.ms ∧
    (s.bankRegs obs o).rrq = s.rrq ∧ (s.bankRegs obs o).lanes = s.lanes ∧ (s.bankRegs obs o).vot = s.vot ∧
    (s.bankRegs obs o).pair = s.pair ∧ (s.bankRegs obs o).aon = s.aon ∧ (s.bankRegs obs o).pwr = s.pwr ∧
    (s.bankRegs obs o).sh = s.sh ∧ (s.bankRegs obs o).crc = s.crc ∧ (s.bankRegs obs o).mail = s.mail ∧
    (s.bankRegs obs o).net = s.net ∧ (s.bankRegs obs o).tim = s.tim ∧ (s.bankRegs obs o).gal = s.gal ∧
    (s.bankRegs obs o).buf = s.buf ∧ (s.bankRegs obs o).log = s.log ∧ (s.bankRegs obs o).fuses = s.fuses ∧
    (s.bankRegs obs o).nvm = s.nvm ∧ (s.bankRegs obs o).upd = s.upd ∧ (s.bankRegs obs o).prf = s.prf ∧
    (s.bankRegs obs o).host = s.host ∧ (s.bankRegs obs o).free = s.free ∧ (s.bankRegs obs o).pending = s.pending :=
    by
  simp [State.bankRegs]

@[simp] theorem State.tickCounts_frame (s : State) (outs : PerLane LaneOut) (o : LaneOut) :
    (s.tickCounts outs o).rrq = s.rrq ∧ (s.tickCounts outs o).lanes = s.lanes ∧ (s.tickCounts outs o).fld = s.fld ∧
    (s.tickCounts outs o).pair = s.pair ∧ (s.tickCounts outs o).aon = s.aon ∧ (s.tickCounts outs o).pwr = s.pwr ∧
    (s.tickCounts outs o).sh = s.sh ∧ (s.tickCounts outs o).crc = s.crc ∧ (s.tickCounts outs o).mail = s.mail ∧
    (s.tickCounts outs o).net = s.net ∧ (s.tickCounts outs o).tim = s.tim ∧ (s.tickCounts outs o).gal = s.gal ∧
    (s.tickCounts outs o).buf = s.buf ∧ (s.tickCounts outs o).log = s.log ∧ (s.tickCounts outs o).fuses = s.fuses ∧
    (s.tickCounts outs o).nvm = s.nvm ∧ (s.tickCounts outs o).upd = s.upd ∧ (s.tickCounts outs o).prf = s.prf ∧
    (s.tickCounts outs o).host = s.host ∧ (s.tickCounts outs o).free = s.free ∧
    (s.tickCounts outs o).pending = s.pending := by
  simp [State.tickCounts]

@[simp] theorem State.linkChecks_frame (s : State) (obs : TickObs) : (s.linkChecks obs).ms = s.ms ∧
    (s.linkChecks obs).rrq = s.rrq ∧ (s.linkChecks obs).lanes = s.lanes ∧ (s.linkChecks obs).fld = s.fld ∧
    (s.linkChecks obs).vot = s.vot ∧ (s.linkChecks obs).pair = s.pair ∧ (s.linkChecks obs).aon = s.aon ∧
    (s.linkChecks obs).pwr = s.pwr ∧ (s.linkChecks obs).sh = s.sh ∧ (s.linkChecks obs).mail = s.mail ∧
    (s.linkChecks obs).net = s.net ∧ (s.linkChecks obs).tim = s.tim ∧ (s.linkChecks obs).gal = s.gal ∧
    (s.linkChecks obs).buf = s.buf ∧ (s.linkChecks obs).log = s.log ∧ (s.linkChecks obs).fuses = s.fuses ∧
    (s.linkChecks obs).nvm = s.nvm ∧ (s.linkChecks obs).upd = s.upd ∧ (s.linkChecks obs).prf = s.prf ∧
    (s.linkChecks obs).host = s.host ∧ (s.linkChecks obs).free = s.free ∧ (s.linkChecks obs).pending = s.pending :=
    by
  simp [State.linkChecks]

@[simp] theorem State.mirrorTick_frame (s : State) (who : BitVec 3) : (s.mirrorTick who).ms = s.ms ∧
    (s.mirrorTick who).rrq = s.rrq ∧ (s.mirrorTick who).lanes = s.lanes ∧ (s.mirrorTick who).fld = s.fld ∧
    (s.mirrorTick who).vot = s.vot ∧ (s.mirrorTick who).pair = s.pair ∧ (s.mirrorTick who).aon = s.aon ∧
    (s.mirrorTick who).pwr = s.pwr ∧ (s.mirrorTick who).sh = s.sh ∧ (s.mirrorTick who).crc = s.crc ∧
    (s.mirrorTick who).mail = s.mail ∧ (s.mirrorTick who).net = s.net ∧ (s.mirrorTick who).tim = s.tim ∧
    (s.mirrorTick who).gal = s.gal ∧ (s.mirrorTick who).buf = s.buf ∧ (s.mirrorTick who).log = s.log ∧
    (s.mirrorTick who).fuses = s.fuses ∧ (s.mirrorTick who).nvm = s.nvm ∧ (s.mirrorTick who).upd = s.upd ∧
    (s.mirrorTick who).prf = s.prf ∧ (s.mirrorTick who).free = s.free ∧ (s.mirrorTick who).pending = s.pending := by
  unfold State.mirrorTick
  (repeat' split) <;> simp

@[simp] theorem State.pairCounts_frame (s : State) (r : Reading) (v : Verdict) : (s.pairCounts r v).rrq = s.rrq ∧
    (s.pairCounts r v).lanes = s.lanes ∧ (s.pairCounts r v).fld = s.fld ∧ (s.pairCounts r v).vot = s.vot ∧
    (s.pairCounts r v).aon = s.aon ∧ (s.pairCounts r v).pwr = s.pwr ∧ (s.pairCounts r v).sh = s.sh ∧
    (s.pairCounts r v).crc = s.crc ∧ (s.pairCounts r v).mail = s.mail ∧ (s.pairCounts r v).net = s.net ∧
    (s.pairCounts r v).tim = s.tim ∧ (s.pairCounts r v).gal = s.gal ∧ (s.pairCounts r v).buf = s.buf ∧
    (s.pairCounts r v).log = s.log ∧ (s.pairCounts r v).fuses = s.fuses ∧ (s.pairCounts r v).nvm = s.nvm ∧
    (s.pairCounts r v).upd = s.upd ∧ (s.pairCounts r v).prf = s.prf ∧ (s.pairCounts r v).host = s.host ∧
    (s.pairCounts r v).free = s.free ∧ (s.pairCounts r v).pending = s.pending := by
  simp [State.pairCounts]

@[simp] theorem State.pairTick_frame (s : State) (r : Reading) (v : Verdict) (claimed : Bool) :
    (s.pairTick r v claimed).rrq = s.rrq ∧ (s.pairTick r v claimed).fld = s.fld ∧
    (s.pairTick r v claimed).vot = s.vot ∧ (s.pairTick r v claimed).aon = s.aon ∧
    (s.pairTick r v claimed).pwr = s.pwr ∧ (s.pairTick r v claimed).sh = s.sh ∧ (s.pairTick r v claimed).crc = s.crc
    ∧ (s.pairTick r v claimed).net = s.net ∧ (s.pairTick r v claimed).tim = s.tim ∧
    (s.pairTick r v claimed).gal = s.gal ∧ (s.pairTick r v claimed).buf = s.buf ∧
    (s.pairTick r v claimed).fuses = s.fuses ∧ (s.pairTick r v claimed).nvm = s.nvm ∧
    (s.pairTick r v claimed).upd = s.upd ∧ (s.pairTick r v claimed).prf = s.prf ∧
    (s.pairTick r v claimed).free = s.free ∧ (s.pairTick r v claimed).pending = s.pending := by
  unfold State.pairTick
  (repeat' split) <;> simp

@[simp] theorem State.writePair_frame (s : State) : s.writePair.ms = s.ms ∧ s.writePair.rrq = s.rrq ∧
    s.writePair.lanes = s.lanes ∧ s.writePair.fld = s.fld ∧ s.writePair.vot = s.vot ∧ s.writePair.aon = s.aon ∧
    s.writePair.pwr = s.pwr ∧ s.writePair.sh = s.sh ∧ s.writePair.crc = s.crc ∧ s.writePair.mail = s.mail ∧
    s.writePair.net = s.net ∧ s.writePair.tim = s.tim ∧ s.writePair.gal = s.gal ∧ s.writePair.buf = s.buf ∧
    s.writePair.log = s.log ∧ s.writePair.fuses = s.fuses ∧ s.writePair.nvm = s.nvm ∧ s.writePair.upd = s.upd ∧
    s.writePair.prf = s.prf ∧ s.writePair.host = s.host ∧ s.writePair.free = s.free ∧
    s.writePair.pending = s.pending := by
  unfold State.writePair
  simp

@[simp] theorem State.eccTick_frame (s : State) (obs : TickObs) (l : Lane) : (s.eccTick obs l).rrq = s.rrq ∧
    (s.eccTick obs l).vot = s.vot ∧ (s.eccTick obs l).pair = s.pair ∧ (s.eccTick obs l).net = s.net ∧
    (s.eccTick obs l).tim = s.tim ∧ (s.eccTick obs l).gal = s.gal ∧ (s.eccTick obs l).fuses = s.fuses ∧
    (s.eccTick obs l).free = s.free ∧ (s.eccTick obs l).pending = s.pending := by
  unfold State.eccTick
  dsimp only
  (repeat' split) <;> simp (disch := (intros; (repeat' split) <;> simp))

@[simp] theorem State.budgetTick_frame (s : State) (ran : BitVec 3) (l : Lane) (o : LaneObs) :
    (s.budgetTick ran l o).ms = s.ms ∧ (s.budgetTick ran l o).rrq = s.rrq ∧ (s.budgetTick ran l o).fld = s.fld ∧
    (s.budgetTick ran l o).vot = s.vot ∧ (s.budgetTick ran l o).pair = s.pair ∧ (s.budgetTick ran l o).aon = s.aon ∧
    (s.budgetTick ran l o).pwr = s.pwr ∧ (s.budgetTick ran l o).sh = s.sh ∧ (s.budgetTick ran l o).crc = s.crc ∧
    (s.budgetTick ran l o).net = s.net ∧ (s.budgetTick ran l o).tim = s.tim ∧ (s.budgetTick ran l o).gal = s.gal ∧
    (s.budgetTick ran l o).buf = s.buf ∧ (s.budgetTick ran l o).fuses = s.fuses ∧ (s.budgetTick ran l o).nvm = s.nvm
    ∧ (s.budgetTick ran l o).upd = s.upd ∧ (s.budgetTick ran l o).prf = s.prf ∧ (s.budgetTick ran l o).free = s.free
    ∧ (s.budgetTick ran l o).pending = s.pending := by
  simp [State.budgetTick]

@[simp] theorem State.trialTick_frame (s : State) : s.trialTick.ms = s.ms ∧ s.trialTick.rrq = s.rrq ∧
    s.trialTick.fld = s.fld ∧ s.trialTick.vot = s.vot ∧ s.trialTick.pair = s.pair ∧ s.trialTick.aon = s.aon ∧
    s.trialTick.pwr = s.pwr ∧ s.trialTick.sh = s.sh ∧ s.trialTick.crc = s.crc ∧ s.trialTick.mail = s.mail ∧
    s.trialTick.net = s.net ∧ s.trialTick.tim = s.tim ∧ s.trialTick.gal = s.gal ∧ s.trialTick.buf = s.buf ∧
    s.trialTick.log = s.log ∧ s.trialTick.fuses = s.fuses ∧ s.trialTick.nvm = s.nvm ∧ s.trialTick.prf = s.prf ∧
    s.trialTick.host = s.host ∧ s.trialTick.free = s.free ∧ s.trialTick.pending = s.pending := by
  simp [State.trialTick]

@[simp] theorem State.takenTick_frame (s : State) : s.takenTick.ms = s.ms ∧ s.takenTick.rrq = s.rrq ∧
    s.takenTick.vot = s.vot ∧ s.takenTick.pair = s.pair ∧ s.takenTick.pwr = s.pwr ∧ s.takenTick.net = s.net ∧
    s.takenTick.tim = s.tim ∧ s.takenTick.gal = s.gal ∧ s.takenTick.buf = s.buf ∧ s.takenTick.log = s.log ∧
    s.takenTick.fuses = s.fuses ∧ s.takenTick.free = s.free ∧ s.takenTick.pending = s.pending := by
  unfold State.takenTick
  (repeat' split) <;> simp

@[simp] theorem State.deferTick_frame (s : State) : s.deferTick.ms = s.ms ∧ s.deferTick.rrq = s.rrq ∧
    s.deferTick.lanes = s.lanes ∧ s.deferTick.fld = s.fld ∧ s.deferTick.vot = s.vot ∧ s.deferTick.pair = s.pair ∧
    s.deferTick.aon = s.aon ∧ s.deferTick.pwr = s.pwr ∧ s.deferTick.sh = s.sh ∧ s.deferTick.crc = s.crc ∧
    s.deferTick.mail = s.mail ∧ s.deferTick.net = s.net ∧ s.deferTick.tim = s.tim ∧ s.deferTick.gal = s.gal ∧
    s.deferTick.buf = s.buf ∧ s.deferTick.log = s.log ∧ s.deferTick.fuses = s.fuses ∧ s.deferTick.nvm = s.nvm ∧
    s.deferTick.prf = s.prf ∧ s.deferTick.host = s.host ∧ s.deferTick.free = s.free ∧
    s.deferTick.pending = s.pending := by
  simp [State.deferTick]

@[simp] theorem State.proofDue_frame (s : State) : s.proofDue.ms = s.ms ∧ s.proofDue.rrq = s.rrq ∧
    s.proofDue.fld = s.fld ∧ s.proofDue.vot = s.vot ∧ s.proofDue.pair = s.pair ∧ s.proofDue.aon = s.aon ∧
    s.proofDue.pwr = s.pwr ∧ s.proofDue.sh = s.sh ∧ s.proofDue.crc = s.crc ∧ s.proofDue.mail = s.mail ∧
    s.proofDue.net = s.net ∧ s.proofDue.tim = s.tim ∧ s.proofDue.gal = s.gal ∧ s.proofDue.buf = s.buf ∧
    s.proofDue.log = s.log ∧ s.proofDue.fuses = s.fuses ∧ s.proofDue.nvm = s.nvm ∧ s.proofDue.upd = s.upd ∧
    s.proofDue.host = s.host ∧ s.proofDue.free = s.free ∧ s.proofDue.pending = s.pending := by
  simp [State.proofDue]

@[simp] theorem State.proofTick_frame (s : State) : s.proofTick.rrq = s.rrq ∧ s.proofTick.pair = s.pair ∧
    s.proofTick.pwr = s.pwr ∧ s.proofTick.net = s.net ∧ s.proofTick.tim = s.tim ∧ s.proofTick.gal = s.gal ∧
    s.proofTick.buf = s.buf ∧ s.proofTick.log = s.log ∧ s.proofTick.fuses = s.fuses ∧ s.proofTick.free = s.free ∧
    s.proofTick.pending = s.pending := by
  unfold State.proofTick
  (repeat' split) <;> simp

@[simp] theorem State.sessionTick_frame (s : State) (r : Reading) (read : List (ReadMsg × MsgCheck)) :
    (s.sessionTick r read).ms = s.ms ∧ (s.sessionTick r read).rrq = s.rrq ∧ (s.sessionTick r read).fld = s.fld ∧
    (s.sessionTick r read).vot = s.vot ∧ (s.sessionTick r read).pair = s.pair ∧ (s.sessionTick r read).pwr = s.pwr ∧
    (s.sessionTick r read).sh = s.sh ∧ (s.sessionTick r read).crc = s.crc ∧ (s.sessionTick r read).net = s.net ∧
    (s.sessionTick r read).tim = s.tim ∧ (s.sessionTick r read).gal = s.gal ∧ (s.sessionTick r read).buf = s.buf ∧
    (s.sessionTick r read).fuses = s.fuses ∧ (s.sessionTick r read).nvm = s.nvm ∧ (s.sessionTick r read).upd = s.upd
    ∧ (s.sessionTick r read).prf = s.prf ∧ (s.sessionTick r read).free = s.free ∧
    (s.sessionTick r read).pending = s.pending := by
  simp (disch := (intros; (repeat' split) <;> simp)) [State.sessionTick]

@[simp] theorem State.logTick_frame (s : State) (r : Reading) : (s.logTick r).ms = s.ms ∧ (s.logTick r).rrq = s.rrq
    ∧ (s.logTick r).fld = s.fld ∧ (s.logTick r).vot = s.vot ∧ (s.logTick r).pair = s.pair ∧
    (s.logTick r).aon = s.aon ∧ (s.logTick r).pwr = s.pwr ∧ (s.logTick r).sh = s.sh ∧ (s.logTick r).crc = s.crc ∧
    (s.logTick r).net = s.net ∧ (s.logTick r).tim = s.tim ∧ (s.logTick r).gal = s.gal ∧ (s.logTick r).buf = s.buf ∧
    (s.logTick r).fuses = s.fuses ∧ (s.logTick r).nvm = s.nvm ∧ (s.logTick r).upd = s.upd ∧
    (s.logTick r).prf = s.prf ∧ (s.logTick r).free = s.free ∧ (s.logTick r).pending = s.pending := by
  simp [State.logTick]

@[simp] theorem State.housekeep_frame (s : State) (obs : TickObs) (o : LaneOut) (late : List Post) (read : List
    (ReadMsg × MsgCheck)) : (s.housekeep obs o late read).rrq = s.rrq ∧ (s.housekeep obs o late read).pair = s.pair
    ∧ (s.housekeep obs o late read).pwr = s.pwr ∧ (s.housekeep obs o late read).net = s.net ∧
    (s.housekeep obs o late read).tim = s.tim ∧ (s.housekeep obs o late read).buf = s.buf ∧
    (s.housekeep obs o late read).fuses = s.fuses ∧ (s.housekeep obs o late read).free = s.free ∧
    (s.housekeep obs o late read).pending = s.pending := by
  simp [State.housekeep]

@[simp] theorem State.laneP5_frame (s : State) (obs : TickObs) (ran : BitVec 3) : (s.laneP5 obs ran).rrq = s.rrq ∧
    (s.laneP5 obs ran).vot = s.vot ∧ (s.laneP5 obs ran).pair = s.pair ∧ (s.laneP5 obs ran).net = s.net ∧
    (s.laneP5 obs ran).tim = s.tim ∧ (s.laneP5 obs ran).gal = s.gal ∧ (s.laneP5 obs ran).fuses = s.fuses ∧
    (s.laneP5 obs ran).free = s.free ∧ (s.laneP5 obs ran).pending = s.pending := by
  simp [State.laneP5]

@[simp] theorem State.closeExhausted_frame (s : State) : s.closeExhausted.ms = s.ms ∧ s.closeExhausted.rrq = s.rrq ∧
    s.closeExhausted.fld = s.fld ∧ s.closeExhausted.vot = s.vot ∧ s.closeExhausted.pair = s.pair ∧
    s.closeExhausted.pwr = s.pwr ∧ s.closeExhausted.sh = s.sh ∧ s.closeExhausted.crc = s.crc ∧
    s.closeExhausted.net = s.net ∧ s.closeExhausted.tim = s.tim ∧ s.closeExhausted.gal = s.gal ∧
    s.closeExhausted.buf = s.buf ∧ s.closeExhausted.log = s.log ∧ s.closeExhausted.fuses = s.fuses ∧
    s.closeExhausted.nvm = s.nvm ∧ s.closeExhausted.upd = s.upd ∧ s.closeExhausted.prf = s.prf ∧
    s.closeExhausted.free = s.free ∧ s.closeExhausted.pending = s.pending := by
  simp [State.closeExhausted]

@[simp] theorem State.sealBlocks_frame (s : State) (ran sound : BitVec 3) : (s.sealBlocks ran sound).ms = s.ms ∧
    (s.sealBlocks ran sound).rrq = s.rrq ∧ (s.sealBlocks ran sound).fld = s.fld ∧
    (s.sealBlocks ran sound).vot = s.vot ∧ (s.sealBlocks ran sound).pair = s.pair ∧
    (s.sealBlocks ran sound).aon = s.aon ∧ (s.sealBlocks ran sound).pwr = s.pwr ∧ (s.sealBlocks ran sound).sh = s.sh
    ∧ (s.sealBlocks ran sound).crc = s.crc ∧ (s.sealBlocks ran sound).mail = s.mail ∧
    (s.sealBlocks ran sound).net = s.net ∧ (s.sealBlocks ran sound).tim = s.tim ∧
    (s.sealBlocks ran sound).gal = s.gal ∧ (s.sealBlocks ran sound).buf = s.buf ∧
    (s.sealBlocks ran sound).log = s.log ∧ (s.sealBlocks ran sound).fuses = s.fuses ∧
    (s.sealBlocks ran sound).nvm = s.nvm ∧ (s.sealBlocks ran sound).upd = s.upd ∧
    (s.sealBlocks ran sound).prf = s.prf ∧ (s.sealBlocks ran sound).host = s.host ∧
    (s.sealBlocks ran sound).free = s.free ∧ (s.sealBlocks ran sound).pending = s.pending := by
  simp [State.sealBlocks]

@[simp] theorem State.phases_frame (s : State) (seen : TickObs) (late : List Post) :
    (s.phases seen late).fuses = s.fuses ∧ (s.phases seen late).free = s.free ∧
    (s.phases seen late).pending = s.pending := by
  simp [State.phases]

@[simp] theorem State.runTick_frame (s : State) (obs : TickObs) : (s.runTick obs).fuses = s.fuses ∧
    (s.runTick obs).free = s.free ∧ (s.runTick obs).pending = s.pending := by
  simp [State.runTick]

end Sys2Proof.Machine
end

