-- ==== Sys2Proof/Laws/FrameHosts.lean ====
section
/-!
SUPPORT. The frame of each operation of Machine/Hosts.lean: the parts of State that it leaves as they were.
-/

namespace Sys2Proof.Machine

@[simp] theorem State.msixWrite_frame (s : State) (i : Nat) (val : Word) : (s.msixWrite i val).ms = s.ms ∧
    (s.msixWrite i val).rrq = s.rrq ∧ (s.msixWrite i val).lanes = s.lanes ∧ (s.msixWrite i val).fld = s.fld ∧
    (s.msixWrite i val).vot = s.vot ∧ (s.msixWrite i val).pair = s.pair ∧ (s.msixWrite i val).aon = s.aon ∧
    (s.msixWrite i val).pwr = s.pwr ∧ (s.msixWrite i val).sh = s.sh ∧ (s.msixWrite i val).crc = s.crc ∧
    (s.msixWrite i val).mail = s.mail ∧ (s.msixWrite i val).net = s.net ∧ (s.msixWrite i val).tim = s.tim ∧
    (s.msixWrite i val).gal = s.gal ∧ (s.msixWrite i val).buf = s.buf ∧ (s.msixWrite i val).log = s.log ∧
    (s.msixWrite i val).fuses = s.fuses ∧ (s.msixWrite i val).nvm = s.nvm ∧ (s.msixWrite i val).upd = s.upd ∧
    (s.msixWrite i val).prf = s.prf ∧ (s.msixWrite i val).free = s.free ∧ (s.msixWrite i val).pending = s.pending :=
    by
  unfold State.msixWrite
  (repeat' split) <;> simp

@[simp] theorem State.clearMod_frame (s : State) (ofs : Nat) : (s.clearMod ofs).fld = s.fld ∧
    (s.clearMod ofs).vot = s.vot ∧ (s.clearMod ofs).pwr = s.pwr ∧ (s.clearMod ofs).sh = s.sh ∧
    (s.clearMod ofs).crc = s.crc ∧ (s.clearMod ofs).mail = s.mail ∧ (s.clearMod ofs).net = s.net ∧
    (s.clearMod ofs).tim = s.tim ∧ (s.clearMod ofs).gal = s.gal ∧ (s.clearMod ofs).buf = s.buf ∧
    (s.clearMod ofs).log = s.log ∧ (s.clearMod ofs).fuses = s.fuses ∧ (s.clearMod ofs).nvm = s.nvm ∧
    (s.clearMod ofs).upd = s.upd ∧ (s.clearMod ofs).prf = s.prf ∧ (s.clearMod ofs).host = s.host ∧
    (s.clearMod ofs).free = s.free ∧ (s.clearMod ofs).pending = s.pending := by
  simp [State.clearMod]

@[simp] theorem State.clearMbx_frame (s : State) (secure : Bool) (ofs : Nat) : (s.clearMbx secure ofs).ms = s.ms ∧
    (s.clearMbx secure ofs).rrq = s.rrq ∧ (s.clearMbx secure ofs).lanes = s.lanes ∧
    (s.clearMbx secure ofs).fld = s.fld ∧ (s.clearMbx secure ofs).vot = s.vot ∧
    (s.clearMbx secure ofs).pair = s.pair ∧ (s.clearMbx secure ofs).aon = s.aon ∧
    (s.clearMbx secure ofs).pwr = s.pwr ∧ (s.clearMbx secure ofs).crc = s.crc ∧ (s.clearMbx secure ofs).net = s.net
    ∧ (s.clearMbx secure ofs).tim = s.tim ∧ (s.clearMbx secure ofs).gal = s.gal ∧
    (s.clearMbx secure ofs).buf = s.buf ∧ (s.clearMbx secure ofs).log = s.log ∧
    (s.clearMbx secure ofs).fuses = s.fuses ∧ (s.clearMbx secure ofs).nvm = s.nvm ∧
    (s.clearMbx secure ofs).upd = s.upd ∧ (s.clearMbx secure ofs).prf = s.prf ∧
    (s.clearMbx secure ofs).host = s.host ∧ (s.clearMbx secure ofs).free = s.free ∧
    (s.clearMbx secure ofs).pending = s.pending := by
  unfold State.clearMbx
  (repeat' split) <;> simp

@[simp] theorem State.clearShared_frame (s : State) (lck : Bool) (ofs : Nat) : (s.clearShared lck ofs).ms = s.ms ∧
    (s.clearShared lck ofs).rrq = s.rrq ∧ (s.clearShared lck ofs).lanes = s.lanes ∧
    (s.clearShared lck ofs).fld = s.fld ∧ (s.clearShared lck ofs).vot = s.vot ∧
    (s.clearShared lck ofs).pair = s.pair ∧ (s.clearShared lck ofs).aon = s.aon ∧
    (s.clearShared lck ofs).pwr = s.pwr ∧ (s.clearShared lck ofs).crc = s.crc ∧
    (s.clearShared lck ofs).mail = s.mail ∧ (s.clearShared lck ofs).net = s.net ∧
    (s.clearShared lck ofs).tim = s.tim ∧ (s.clearShared lck ofs).gal = s.gal ∧ (s.clearShared lck ofs).buf = s.buf
    ∧ (s.clearShared lck ofs).log = s.log ∧ (s.clearShared lck ofs).fuses = s.fuses ∧
    (s.clearShared lck ofs).nvm = s.nvm ∧ (s.clearShared lck ofs).upd = s.upd ∧ (s.clearShared lck ofs).prf = s.prf
    ∧ (s.clearShared lck ofs).host = s.host ∧ (s.clearShared lck ofs).free = s.free ∧
    (s.clearShared lck ofs).pending = s.pending := by
  unfold State.clearShared
  (repeat' split) <;> simp

@[simp] theorem State.clearCrc_frame (s : State) (ofs : Nat) : (s.clearCrc ofs).ms = s.ms ∧
    (s.clearCrc ofs).rrq = s.rrq ∧ (s.clearCrc ofs).lanes = s.lanes ∧ (s.clearCrc ofs).fld = s.fld ∧
    (s.clearCrc ofs).vot = s.vot ∧ (s.clearCrc ofs).pair = s.pair ∧ (s.clearCrc ofs).aon = s.aon ∧
    (s.clearCrc ofs).pwr = s.pwr ∧ (s.clearCrc ofs).sh = s.sh ∧ (s.clearCrc ofs).mail = s.mail ∧
    (s.clearCrc ofs).net = s.net ∧ (s.clearCrc ofs).tim = s.tim ∧ (s.clearCrc ofs).gal = s.gal ∧
    (s.clearCrc ofs).buf = s.buf ∧ (s.clearCrc ofs).log = s.log ∧ (s.clearCrc ofs).fuses = s.fuses ∧
    (s.clearCrc ofs).nvm = s.nvm ∧ (s.clearCrc ofs).upd = s.upd ∧ (s.clearCrc ofs).prf = s.prf ∧
    (s.clearCrc ofs).host = s.host ∧ (s.clearCrc ofs).free = s.free ∧ (s.clearCrc ofs).pending = s.pending := by
  unfold State.clearCrc
  (repeat' split) <;> simp

@[simp] theorem State.clearNet_frame (s : State) (ofs : Nat) : (s.clearNet ofs).ms = s.ms ∧
    (s.clearNet ofs).rrq = s.rrq ∧ (s.clearNet ofs).lanes = s.lanes ∧ (s.clearNet ofs).fld = s.fld ∧
    (s.clearNet ofs).vot = s.vot ∧ (s.clearNet ofs).pair = s.pair ∧ (s.clearNet ofs).aon = s.aon ∧
    (s.clearNet ofs).pwr = s.pwr ∧ (s.clearNet ofs).sh = s.sh ∧ (s.clearNet ofs).crc = s.crc ∧
    (s.clearNet ofs).mail = s.mail ∧ (s.clearNet ofs).tim = s.tim ∧ (s.clearNet ofs).gal = s.gal ∧
    (s.clearNet ofs).buf = s.buf ∧ (s.clearNet ofs).log = s.log ∧ (s.clearNet ofs).fuses = s.fuses ∧
    (s.clearNet ofs).nvm = s.nvm ∧ (s.clearNet ofs).upd = s.upd ∧ (s.clearNet ofs).prf = s.prf ∧
    (s.clearNet ofs).host = s.host ∧ (s.clearNet ofs).free = s.free ∧ (s.clearNet ofs).pending = s.pending := by
  unfold State.clearNet
  (repeat' split) <;> simp

@[simp] theorem State.clearField_frame (s : State) (vot : Bool) (ofs : Nat) : (s.clearField vot ofs).ms = s.ms ∧
    (s.clearField vot ofs).rrq = s.rrq ∧ (s.clearField vot ofs).lanes = s.lanes ∧
    (s.clearField vot ofs).pair = s.pair ∧ (s.clearField vot ofs).aon = s.aon ∧ (s.clearField vot ofs).pwr = s.pwr ∧
    (s.clearField vot ofs).sh = s.sh ∧ (s.clearField vot ofs).crc = s.crc ∧ (s.clearField vot ofs).mail = s.mail ∧
    (s.clearField vot ofs).net = s.net ∧ (s.clearField vot ofs).tim = s.tim ∧ (s.clearField vot ofs).gal = s.gal ∧
    (s.clearField vot ofs).buf = s.buf ∧ (s.clearField vot ofs).log = s.log ∧ (s.clearField vot ofs).fuses = s.fuses
    ∧ (s.clearField vot ofs).nvm = s.nvm ∧ (s.clearField vot ofs).upd = s.upd ∧ (s.clearField vot ofs).prf = s.prf ∧
    (s.clearField vot ofs).host = s.host ∧ (s.clearField vot ofs).free = s.free ∧
    (s.clearField vot ofs).pending = s.pending := by
  unfold State.clearField
  dsimp only
  (repeat' split) <;> simp (disch := (intros; (repeat' split) <;> simp))

@[simp] theorem State.clearDgn_frame (s : State) (ofs : Nat) : (s.clearDgn ofs).ms = s.ms ∧
    (s.clearDgn ofs).rrq = s.rrq ∧ (s.clearDgn ofs).fld = s.fld ∧ (s.clearDgn ofs).vot = s.vot ∧
    (s.clearDgn ofs).pair = s.pair ∧ (s.clearDgn ofs).aon = s.aon ∧ (s.clearDgn ofs).pwr = s.pwr ∧
    (s.clearDgn ofs).sh = s.sh ∧ (s.clearDgn ofs).crc = s.crc ∧ (s.clearDgn ofs).mail = s.mail ∧
    (s.clearDgn ofs).net = s.net ∧ (s.clearDgn ofs).tim = s.tim ∧ (s.clearDgn ofs).gal = s.gal ∧
    (s.clearDgn ofs).buf = s.buf ∧ (s.clearDgn ofs).log = s.log ∧ (s.clearDgn ofs).fuses = s.fuses ∧
    (s.clearDgn ofs).nvm = s.nvm ∧ (s.clearDgn ofs).upd = s.upd ∧ (s.clearDgn ofs).host = s.host ∧
    (s.clearDgn ofs).free = s.free ∧ (s.clearDgn ofs).pending = s.pending := by
  simp [State.clearDgn]

@[simp] theorem State.clearLog_frame (s : State) (ofs : Nat) : (s.clearLog ofs).ms = s.ms ∧
    (s.clearLog ofs).rrq = s.rrq ∧ (s.clearLog ofs).lanes = s.lanes ∧ (s.clearLog ofs).fld = s.fld ∧
    (s.clearLog ofs).vot = s.vot ∧ (s.clearLog ofs).pair = s.pair ∧ (s.clearLog ofs).aon = s.aon ∧
    (s.clearLog ofs).pwr = s.pwr ∧ (s.clearLog ofs).sh = s.sh ∧ (s.clearLog ofs).crc = s.crc ∧
    (s.clearLog ofs).mail = s.mail ∧ (s.clearLog ofs).net = s.net ∧ (s.clearLog ofs).tim = s.tim ∧
    (s.clearLog ofs).gal = s.gal ∧ (s.clearLog ofs).buf = s.buf ∧ (s.clearLog ofs).fuses = s.fuses ∧
    (s.clearLog ofs).nvm = s.nvm ∧ (s.clearLog ofs).upd = s.upd ∧ (s.clearLog ofs).prf = s.prf ∧
    (s.clearLog ofs).host = s.host ∧ (s.clearLog ofs).free = s.free ∧ (s.clearLog ofs).pending = s.pending := by
  simp [State.clearLog]

@[simp] theorem State.bar0Clear_frame (s : State) (ofs : Nat) : (s.bar0Clear ofs).pwr = s.pwr ∧
    (s.bar0Clear ofs).buf = s.buf ∧ (s.bar0Clear ofs).fuses = s.fuses ∧ (s.bar0Clear ofs).nvm = s.nvm ∧
    (s.bar0Clear ofs).host = s.host ∧ (s.bar0Clear ofs).free = s.free ∧ (s.bar0Clear ofs).pending = s.pending := by
  simp [State.bar0Clear]

@[simp] theorem State.plainRead_frame (s : State) (bar : Bar) (ofs : Nat) : (s.plainRead bar ofs).pwr = s.pwr ∧
    (s.plainRead bar ofs).buf = s.buf ∧ (s.plainRead bar ofs).fuses = s.fuses ∧ (s.plainRead bar ofs).nvm = s.nvm ∧
    (s.plainRead bar ofs).free = s.free ∧ (s.plainRead bar ofs).pending = s.pending := by
  unfold State.plainRead
  (repeat' split) <;> simp

@[simp] theorem State.hostRead2_frame (s : State) (ofs : Nat) : (s.hostRead2 ofs).pwr = s.pwr ∧
    (s.hostRead2 ofs).buf = s.buf ∧ (s.hostRead2 ofs).fuses = s.fuses ∧ (s.hostRead2 ofs).nvm = s.nvm ∧
    (s.hostRead2 ofs).free = s.free ∧ (s.hostRead2 ofs).pending = s.pending := by
  unfold State.hostRead2
  (repeat' split) <;> simp

@[simp] theorem State.hostRead0_frame (s : State) (ofs : Nat) : (s.hostRead0 ofs).pwr = s.pwr ∧
    (s.hostRead0 ofs).buf = s.buf ∧ (s.hostRead0 ofs).fuses = s.fuses ∧ (s.hostRead0 ofs).nvm = s.nvm ∧
    (s.hostRead0 ofs).free = s.free ∧ (s.hostRead0 ofs).pending = s.pending := by
  unfold State.hostRead0
  (repeat' split) <;> simp

@[simp] theorem State.hostRead_frame (s : State) (bar : Bar) (ofs : Nat) : (s.hostRead bar ofs).pwr = s.pwr ∧
    (s.hostRead bar ofs).buf = s.buf ∧ (s.hostRead bar ofs).fuses = s.fuses ∧ (s.hostRead bar ofs).nvm = s.nvm ∧
    (s.hostRead bar ofs).free = s.free ∧ (s.hostRead bar ofs).pending = s.pending := by
  unfold State.hostRead
  (repeat' split) <;> simp

@[simp] theorem State.writeMbx_frame (s : State) (secure : Bool) (ofs : Nat) (val : Word) :
    (s.writeMbx secure ofs val).ms = s.ms ∧ (s.writeMbx secure ofs val).rrq = s.rrq ∧
    (s.writeMbx secure ofs val).lanes = s.lanes ∧ (s.writeMbx secure ofs val).fld = s.fld ∧
    (s.writeMbx secure ofs val).vot = s.vot ∧ (s.writeMbx secure ofs val).pair = s.pair ∧
    (s.writeMbx secure ofs val).aon = s.aon ∧ (s.writeMbx secure ofs val).pwr = s.pwr ∧
    (s.writeMbx secure ofs val).crc = s.crc ∧ (s.writeMbx secure ofs val).net = s.net ∧
    (s.writeMbx secure ofs val).tim = s.tim ∧ (s.writeMbx secure ofs val).gal = s.gal ∧
    (s.writeMbx secure ofs val).buf = s.buf ∧ (s.writeMbx secure ofs val).log = s.log ∧
    (s.writeMbx secure ofs val).fuses = s.fuses ∧ (s.writeMbx secure ofs val).nvm = s.nvm ∧
    (s.writeMbx secure ofs val).upd = s.upd ∧ (s.writeMbx secure ofs val).prf = s.prf ∧
    (s.writeMbx secure ofs val).free = s.free ∧ (s.writeMbx secure ofs val).pending = s.pending := by
  unfold State.writeMbx
  dsimp only
  (repeat' split) <;> simp (disch := (intros; (repeat' split) <;> simp))

@[simp] theorem State.writeCrc_frame (s : State) (ofs : Nat) (val : Word) : (s.writeCrc ofs val).ms = s.ms ∧
    (s.writeCrc ofs val).rrq = s.rrq ∧ (s.writeCrc ofs val).lanes = s.lanes ∧ (s.writeCrc ofs val).fld = s.fld ∧
    (s.writeCrc ofs val).vot = s.vot ∧ (s.writeCrc ofs val).pair = s.pair ∧ (s.writeCrc ofs val).aon = s.aon ∧
    (s.writeCrc ofs val).pwr = s.pwr ∧ (s.writeCrc ofs val).mail = s.mail ∧ (s.writeCrc ofs val).net = s.net ∧
    (s.writeCrc ofs val).tim = s.tim ∧ (s.writeCrc ofs val).gal = s.gal ∧ (s.writeCrc ofs val).buf = s.buf ∧
    (s.writeCrc ofs val).log = s.log ∧ (s.writeCrc ofs val).fuses = s.fuses ∧ (s.writeCrc ofs val).nvm = s.nvm ∧
    (s.writeCrc ofs val).upd = s.upd ∧ (s.writeCrc ofs val).prf = s.prf ∧ (s.writeCrc ofs val).host = s.host ∧
    (s.writeCrc ofs val).free = s.free ∧ (s.writeCrc ofs val).pending = s.pending := by
  unfold State.writeCrc
  (repeat' split) <;> simp

@[simp] theorem State.writeLog_frame (s : State) (ofs : Nat) (val : Word) : (s.writeLog ofs val).ms = s.ms ∧
    (s.writeLog ofs val).rrq = s.rrq ∧ (s.writeLog ofs val).lanes = s.lanes ∧ (s.writeLog ofs val).fld = s.fld ∧
    (s.writeLog ofs val).vot = s.vot ∧ (s.writeLog ofs val).pair = s.pair ∧ (s.writeLog ofs val).aon = s.aon ∧
    (s.writeLog ofs val).pwr = s.pwr ∧ (s.writeLog ofs val).sh = s.sh ∧ (s.writeLog ofs val).crc = s.crc ∧
    (s.writeLog ofs val).mail = s.mail ∧ (s.writeLog ofs val).net = s.net ∧ (s.writeLog ofs val).tim = s.tim ∧
    (s.writeLog ofs val).gal = s.gal ∧ (s.writeLog ofs val).buf = s.buf ∧ (s.writeLog ofs val).fuses = s.fuses ∧
    (s.writeLog ofs val).nvm = s.nvm ∧ (s.writeLog ofs val).upd = s.upd ∧ (s.writeLog ofs val).prf = s.prf ∧
    (s.writeLog ofs val).host = s.host ∧ (s.writeLog ofs val).free = s.free ∧
    (s.writeLog ofs val).pending = s.pending := by
  simp [State.writeLog]

@[simp] theorem State.writeUpd_frame (s : State) (ofs : Nat) (val : Word) : (s.writeUpd ofs val).ms = s.ms ∧
    (s.writeUpd ofs val).rrq = s.rrq ∧ (s.writeUpd ofs val).lanes = s.lanes ∧ (s.writeUpd ofs val).fld = s.fld ∧
    (s.writeUpd ofs val).vot = s.vot ∧ (s.writeUpd ofs val).pair = s.pair ∧ (s.writeUpd ofs val).aon = s.aon ∧
    (s.writeUpd ofs val).pwr = s.pwr ∧ (s.writeUpd ofs val).sh = s.sh ∧ (s.writeUpd ofs val).crc = s.crc ∧
    (s.writeUpd ofs val).mail = s.mail ∧ (s.writeUpd ofs val).net = s.net ∧ (s.writeUpd ofs val).tim = s.tim ∧
    (s.writeUpd ofs val).gal = s.gal ∧ (s.writeUpd ofs val).buf = s.buf ∧ (s.writeUpd ofs val).log = s.log ∧
    (s.writeUpd ofs val).fuses = s.fuses ∧ (s.writeUpd ofs val).nvm = s.nvm ∧ (s.writeUpd ofs val).prf = s.prf ∧
    (s.writeUpd ofs val).free = s.free ∧ (s.writeUpd ofs val).pending = s.pending := by
  simp [State.writeUpd]

@[simp] theorem State.writeBist_frame (s : State) (val : Word) : (s.writeBist val).rrq = s.rrq ∧
    (s.writeBist val).vot = s.vot ∧ (s.writeBist val).pair = s.pair ∧ (s.writeBist val).sh = s.sh ∧
    (s.writeBist val).crc = s.crc ∧ (s.writeBist val).net = s.net ∧ (s.writeBist val).tim = s.tim ∧
    (s.writeBist val).gal = s.gal ∧ (s.writeBist val).buf = s.buf ∧ (s.writeBist val).fuses = s.fuses ∧
    (s.writeBist val).free = s.free ∧ (s.writeBist val).pending = s.pending := by
  simp [State.writeBist]

@[simp] theorem State.writeLock_frame (s : State) (m : Master) (k : Nat) (val : Word) :
    (s.writeLock m k val).ms = s.ms ∧ (s.writeLock m k val).rrq = s.rrq ∧ (s.writeLock m k val).lanes = s.lanes ∧
    (s.writeLock m k val).fld = s.fld ∧ (s.writeLock m k val).vot = s.vot ∧ (s.writeLock m k val).pair = s.pair ∧
    (s.writeLock m k val).aon = s.aon ∧ (s.writeLock m k val).pwr = s.pwr ∧ (s.writeLock m k val).crc = s.crc ∧
    (s.writeLock m k val).mail = s.mail ∧ (s.writeLock m k val).net = s.net ∧ (s.writeLock m k val).tim = s.tim ∧
    (s.writeLock m k val).gal = s.gal ∧ (s.writeLock m k val).buf = s.buf ∧ (s.writeLock m k val).log = s.log ∧
    (s.writeLock m k val).fuses = s.fuses ∧ (s.writeLock m k val).nvm = s.nvm ∧ (s.writeLock m k val).upd = s.upd ∧
    (s.writeLock m k val).prf = s.prf ∧ (s.writeLock m k val).host = s.host ∧ (s.writeLock m k val).free = s.free ∧
    (s.writeLock m k val).pending = s.pending := by
  unfold State.writeLock
  (repeat' split) <;> simp

@[simp] theorem State.hostWrite2_frame (s : State) (ofs : Nat) (val : Word) : (s.hostWrite2 ofs val).ms = s.ms ∧
    (s.hostWrite2 ofs val).rrq = s.rrq ∧ (s.hostWrite2 ofs val).lanes = s.lanes ∧ (s.hostWrite2 ofs val).fld = s.fld
    ∧ (s.hostWrite2 ofs val).vot = s.vot ∧ (s.hostWrite2 ofs val).pair = s.pair ∧ (s.hostWrite2 ofs val).aon = s.aon
    ∧ (s.hostWrite2 ofs val).pwr = s.pwr ∧ (s.hostWrite2 ofs val).crc = s.crc ∧ (s.hostWrite2 ofs val).net = s.net ∧
    (s.hostWrite2 ofs val).tim = s.tim ∧ (s.hostWrite2 ofs val).gal = s.gal ∧ (s.hostWrite2 ofs val).buf = s.buf ∧
    (s.hostWrite2 ofs val).log = s.log ∧ (s.hostWrite2 ofs val).fuses = s.fuses ∧ (s.hostWrite2 ofs val).nvm = s.nvm
    ∧ (s.hostWrite2 ofs val).upd = s.upd ∧ (s.hostWrite2 ofs val).prf = s.prf ∧ (s.hostWrite2 ofs val).free = s.free
    ∧ (s.hostWrite2 ofs val).pending = s.pending := by
  simp [State.hostWrite2]

@[simp] theorem State.hostWrite0_frame (s : State) (ofs : Nat) (val : Word) : (s.hostWrite0 ofs val).rrq = s.rrq ∧
    (s.hostWrite0 ofs val).vot = s.vot ∧ (s.hostWrite0 ofs val).pair = s.pair ∧ (s.hostWrite0 ofs val).net = s.net ∧
    (s.hostWrite0 ofs val).tim = s.tim ∧ (s.hostWrite0 ofs val).buf = s.buf ∧ (s.hostWrite0 ofs val).fuses = s.fuses
    ∧ (s.hostWrite0 ofs val).free = s.free ∧ (s.hostWrite0 ofs val).pending = s.pending := by
  simp [State.hostWrite0]

@[simp] theorem State.hostWrite_frame (s : State) (bar : Bar) (ofs : Nat) (val : Word) :
    (s.hostWrite bar ofs val).rrq = s.rrq ∧ (s.hostWrite bar ofs val).vot = s.vot ∧
    (s.hostWrite bar ofs val).pair = s.pair ∧ (s.hostWrite bar ofs val).net = s.net ∧
    (s.hostWrite bar ofs val).tim = s.tim ∧ (s.hostWrite bar ofs val).buf = s.buf ∧
    (s.hostWrite bar ofs val).fuses = s.fuses ∧ (s.hostWrite bar ofs val).free = s.free ∧
    (s.hostWrite bar ofs val).pending = s.pending := by
  unfold State.hostWrite
  (repeat' split) <;> simp

end Sys2Proof.Machine
end

