-- ==== Sys2Proof/Laws/LaneOps.lean ====
section
/-!
SUPPORT. What the shared operations on lanes do: work on the part K of one lane, of every running lane or of every lane, and a
finding outside TICK_EDGE.
-/

namespace Sys2Proof.Machine

/-- `f` on the part K of a lane's record. -/
theorem State.lane_modK (s : State) (l m : Lane) (f : LaneK → LaneK) : (s.modK l f).lane m =
    if m = l then { s.lane l with region := { (s.lane l).region with k := f (s.lane l).region.k } } else s.lane m := by
  by_cases h : m = l
  · subst h; simp [State.modK]
  · simp [State.modK, State.lane_modLaneSt_ne, h]

/-- `f` on part K of the lanes of a list without repeats. -/
theorem State.lane_foldModK (ls : List Lane) (hn : ls.Nodup) (s : State) (l : Lane) (f : LaneK → LaneK) :
    (ls.foldl (fun s m => s.modK m f) s).lane l =
    if l ∈ ls then { s.lane l with region := { (s.lane l).region with k := f (s.lane l).region.k } } else s.lane l := by
  induction ls generalizing s with
  | nil => simp
  | cons m r ih =>
    have hr := List.nodup_cons.mp hn
    rw [List.foldl_cons, ih hr.2]
    by_cases h : l = m
    · subst h; simp [hr.1, State.lane_modK]
    · simp [State.lane_modK, h]

theorem lanesOf_nodup (m : BitVec 3) : (lanesOf m).Nodup := (by decide : lanesList.Nodup).filter _

@[simp] theorem mem_lanesOf (m : BitVec 3) (l : Lane) : l ∈ lanesOf m ↔ l.inMask m = true := by
  cases l <;> simp [lanesOf, lanesList]

theorem mem_lanesList (l : Lane) : l ∈ lanesList := by cases l <;> simp [lanesList]

/-- Every running lane's part K takes `f`, and nothing else of a lane changes. -/
theorem State.lane_modRunK (s : State) (l : Lane) (f : LaneK → LaneK) : (s.modRunK f).lane l =
    if l.inMask s.running then { s.lane l with region := { (s.lane l).region with k := f (s.lane l).region.k } }
    else s.lane l := by
  simp [State.modRunK, State.lane_foldModK _ (lanesOf_nodup _)]

/-- Every lane's part K takes `f`. -/
theorem State.lane_modAllK (s : State) (l : Lane) (f : LaneK → LaneK) : (s.modAllK f).lane l =
    { s.lane l with region := { (s.lane l).region with k := f (s.lane l).region.k } } := by
  rw [State.modAllK, State.lane_foldModK _ (by decide)]
  simp [mem_lanesList]

/-- A lane runs ticks. -/
theorem inMask_running (s : State) (l : Lane) : l.inMask s.running = (s.lane l).svc.running := by
  cases l <;> simp [State.running, maskOf, Lane.inMask, Lane.idx] <;>
    cases (s.lane Lane.a).svc.running <;> cases (s.lane Lane.b).svc.running <;> cases (s.lane Lane.c).svc.running <;> rfl

/-- A finding outside TICK_EDGE: every running lane's part K takes it with the lockouts applied, and requests a lockout where the
finding is a voter fault. -/
theorem State.lane_locStep (s : State) (f : Loc → Loc) (l : Lane) : (s.locStep f).lane l =
    if l.inMask s.running then
      { s.lane l with region := { (s.lane l).region with k :=
          if (f (Loc.start s.leadK)).vflt.isEmpty then (f (Loc.start (s.lane l).region.k)).k.applyLocks s.ms.tick
          else ((f (Loc.start (s.lane l).region.k)).k.applyLocks s.ms.tick).requestLockout } }
    else s.lane l := by
  rw [← State.lane_modRunK s l (fun k => if (f (Loc.start s.leadK)).vflt.isEmpty then
    (f (Loc.start k)).k.applyLocks s.ms.tick else ((f (Loc.start k)).k.applyLocks s.ms.tick).requestLockout)]
  simp [State.locStep, State.lane]

/-- A finding without a voter fault leaves the mode, the latch and the stores as they are. -/
theorem State.locStep_calm (s : State) (f : Loc → Loc) (h : (f (Loc.start s.leadK)).vflt = []) :
    (s.locStep f).ms = s.ms ∧ (s.locStep f).aon = s.aon ∧ (s.locStep f).nvm = s.nvm ∧ (s.locStep f).upd = s.upd := by
  simp [State.locStep, h, State.voterFaults]

theorem lane_of_lanes {s t : State} (h : t.lanes = s.lanes) (l : Lane) : t.lane l = s.lane l := by
  simp [State.lane, h]

end Sys2Proof.Machine
end

