-- ==== Sys2Proof/Laws/Records.lean ====
section
/-!
SUPPORT. The records that the flashes hold (R442, R482, R484): a sealed one passes its check, and a latch record written for AON
reads back what it was written from.
-/

namespace Sys2Proof.Machine

/-- A sealed bank record passes its check. -/
@[simp] theorem BankRec.sealed_valid (r : BankRec) : r.sealed.valid = true := by
  simp [BankRec.sealed, BankRec.valid, BankRec.body]

/-- A sealed latch record passes its check. -/
@[simp] theorem LatchRec.sealed_valid (r : LatchRec) : r.sealed.valid = true := by
  simp [LatchRec.sealed, LatchRec.valid, LatchRec.body]

@[simp] theorem LatchRec.sealed_stateByte (r : LatchRec) : r.sealed.stateByte = r.stateByte := rfl

@[simp] theorem LatchRec.sealed_cause (r : LatchRec) : r.sealed.cause = r.cause := rfl

@[simp] theorem LatchRec.sealed_tick (r : LatchRec) : r.sealed.tick = r.tick := rfl

/-- A sealed retained record passes its check. -/
@[simp] theorem RetRec.sealed_valid (r : RetRec) : r.sealed.valid = true := by
  simp [RetRec.sealed, RetRec.valid, RetRec.body, RetRec.plFlags]

@[simp] theorem RetRec.sealed_restart (r : RetRec) : r.sealed.restart = r.restart := rfl

@[simp] theorem RetRec.sealed_counters (r : RetRec) : r.sealed.counters = r.counters := rfl

@[simp] theorem RetRec.sealed_plossCnt (r : RetRec) : r.sealed.plossCnt = r.plossCnt := rfl

/-- A record sealed with STATE 0x5A loads the latch with its cause and tick (R482). -/
theorem latchOf_set (r : LatchRec) (h : r.stateByte = 0x5A) : latchOf (some r.sealed) = (true, r.cause, r.tick) := by
  simp [latchOf, h]

/-- A record sealed with STATE 0x00 loads a clear latch (R482). -/
theorem latchOf_clear (r : LatchRec) (h : r.stateByte = 0x00) : latchOf (some r.sealed) = (false, 0, 0) := by
  simp [latchOf, h]

/-- Every 64-byte record has its length. -/
theorem LatchRec.bytes_length (r : LatchRec) : r.bytes.length = 64 := by
  simp [LatchRec.bytes, LatchRec.body, leBytes]

end Sys2Proof.Machine
end

