-- ==== Sys2Proof/Laws/Rows.lean ====
section
/-!
SUPPORT. What a row that the lanes evaluate leaves in each lane and elsewhere: the region is what the lane's evaluation gives, but
for the part K that the result records touch; without a reset command, a lock or a switch only results, records and counters change.
-/

namespace Sys2Proof.Machine

/-- Work of a desk on the lanes of a list: part K alone changes. -/
theorem State.lane_foldDesk (ls : List Lane) (g : Lane → LaneK) (s : State) (l : Lane) :
    ∃ k, (ls.foldl (fun s m => s.modK m (fun _ => g m)) s).lane l =
      { s.lane l with region := { (s.lane l).region with k := k } } := by
  induction ls generalizing s with
  | nil => exact ⟨(s.lane l).region.k, rfl⟩
  | cons m r ih =>
    obtain ⟨k, hk⟩ := ih (s.modK m (fun _ => g m))
    rw [List.foldl_cons, hk, State.lane_modK]
    by_cases h : l = m
    · subst h; exact ⟨k, by simp⟩
    · exact ⟨k, by simp [h]⟩

/-- Mailbox work leaves of each lane everything but part K. -/
theorem State.lane_desk (s : State) (f : Desk → Desk) (l : Lane) :
    ∃ k, (s.desk f).lane l = { s.lane l with region := { (s.lane l).region with k := k } } := by
  obtain ⟨k, hk⟩ := State.lane_foldDesk (lanesOf (s.running ||| s.acting))
    (fun m => ((s.lanes.map (fun x => f (Desk.of x.region.k))).get m).k) s l
  exact ⟨k, by rw [← hk]; exact lane_of_lanes (by simp [State.desk]) l⟩

theorem State.lane_foldDesk_ne (ls : List Lane) (g : Lane → LaneK) (s : State) (l : Lane) (h : l ∉ ls) :
    (ls.foldl (fun s m => s.modK m (fun _ => g m)) s).lane l = s.lane l := by
  induction ls generalizing s with
  | nil => rfl
  | cons m r ih =>
    rw [List.mem_cons, not_or] at h
    rw [List.foldl_cons, ih _ h.2, State.lane_modK, if_neg h.1]

/-- A lane that neither runs nor acts takes no part in mailbox work. -/
theorem State.lane_desk_ne (s : State) (f : Desk → Desk) (l : Lane) (h : l.inMask (s.running ||| s.acting) = false) :
    (s.desk f).lane l = s.lane l := by
  rw [← State.lane_foldDesk_ne (lanesOf (s.running ||| s.acting))
    (fun m => ((s.lanes.map (fun x => f (Desk.of x.region.k))).get m).k) s l (by simp [h])]
  exact lane_of_lanes (by simp [State.desk]) l

theorem State.setSessBit_aon (s : State) (ch : Fin 8) (on : Bool) :
    (s.setSessBit ch on).aon = { s.aon with sessBits := (s.setSessBit ch on).aon.sessBits } := by
  simp [State.setSessBit]

/-- A fold whose turns change nothing of AON but the session bits. -/
theorem foldl_sessBits {α : Type} (f : State → α → State)
    (h : ∀ s a, (f s a).aon = { s.aon with sessBits := (f s a).aon.sessBits }) (l : List α) (s : State) :
    (l.foldl f s).aon = { s.aon with sessBits := (l.foldl f s).aon.sessBits } := by
  induction l generalizing s with
  | nil => rfl
  | cons a r ih => rw [List.foldl_cons, ih (f s a), h s a]

theorem State.collect_aon (s : State) (act : BitVec 3) (desks : PerLane Desk) :
    (s.collect act desks).aon = { s.aon with sessBits := (s.collect act desks).aon.sessBits } := by
  unfold State.collect
  dsimp only
  split
  · simp
  · rw [foldl_sessBits]
    · rw [foldl_sessBits]
      · simp
      · intro s p; simp [State.setSessBit]
    · intro s p; simp [State.setSessBit]

theorem State.desk_aon (s : State) (f : Desk → Desk) :
    (s.desk f).aon = { s.aon with sessBits := (s.desk f).aon.sessBits } := by
  have h := State.collect_aon ((lanesOf (s.running ||| s.acting)).foldl (fun s' l => s'.modK l
    (fun _ => ((s.lanes.map (fun x => f (Desk.of x.region.k))).get l).k)) s) s.acting
    (s.lanes.map (fun x => f (Desk.of x.region.k)))
  simp only [State.desk, State.syncSeq_frame]
  rw [h]
  simp

end Sys2Proof.Machine
end

