-- ==== Sys2Proof/Laws/Tables.lean ====
section
/-!
SUPPORT. The sparse tables that hold the block's addressed stores: every operation on one keeps its keys strictly rising, and
what it leaves is read back.
-/

namespace Sys2Proof.Machine

/-- The form of a sparse table, entry by entry: each key lies below every key after it. -/
theorem AMap.wf_cons {α : Type} (k : Nat) (v : α) (r : AMap α) :
    AMap.wf ((k, v) :: r) = true ↔ (∀ p ∈ r, k < p.1) ∧ r.wf = true := by
  induction r generalizing k v with
  | nil => simp [AMap.wf]
  | cons q r ih =>
    obtain ⟨j, w⟩ := q
    constructor
    · intro h
      rw [AMap.wf] at h
      simp only [Bool.and_eq_true, decide_eq_true_eq] at h
      refine ⟨fun p hp => ?_, h.2⟩
      rcases List.mem_cons.1 hp with rfl | hp
      · exact h.1
      · exact Nat.lt_trans h.1 (((ih j w).1 h.2).1 p hp)
    · rintro ⟨h1, h2⟩
      rw [AMap.wf]
      simp only [Bool.and_eq_true, decide_eq_true_eq]
      exact ⟨h1 _ (List.mem_cons_self ..), h2⟩

theorem AMap.mem_set {α : Type} {m : AMap α} {k : Nat} {v : α} {p : Nat × α} (h : p ∈ m.set k v) : p = (k, v) ∨ p ∈ m := by
  induction m with
  | nil => exact .inl (List.mem_singleton.1 h)
  | cons q r ih =>
    obtain ⟨j, w⟩ := q
    rw [AMap.set] at h
    split at h
    · rcases List.mem_cons.1 h with h | h
      · exact .inl h
      · exact .inr h
    · split at h
      · rcases List.mem_cons.1 h with h | h
        · exact .inl h
        · exact .inr (List.mem_cons_of_mem _ h)
      · rcases List.mem_cons.1 h with h | h
        · exact .inr (h ▸ List.mem_cons_self ..)
        · exact (ih h).imp id (List.mem_cons_of_mem _)

/-- Writing a value keeps the form. -/
theorem AMap.set_wf {α : Type} {m : AMap α} (k : Nat) (v : α) (h : m.wf = true) : (m.set k v).wf = true := by
  induction m with
  | nil => rfl
  | cons q r ih =>
    obtain ⟨j, w⟩ := q
    obtain ⟨h1, h2⟩ := (AMap.wf_cons j w r).1 h
    rw [AMap.set]
    split
    · next c =>
      refine (AMap.wf_cons ..).2 ⟨fun p hp => ?_, h⟩
      rcases List.mem_cons.1 hp with rfl | hp
      · exact c
      · exact Nat.lt_trans c (h1 p hp)
    · split
      · next e => exact (AMap.wf_cons ..).2 ⟨fun p hp => e ▸ h1 p hp, h2⟩
      · next c e =>
        refine (AMap.wf_cons ..).2 ⟨fun p hp => ?_, ih h2⟩
        rcases AMap.mem_set hp with rfl | hp
        · show j < k
          omega
        · exact h1 p hp

/-- Leaving out entries keeps the form. -/
theorem AMap.filter_wf {α : Type} {m : AMap α} (f : Nat × α → Bool) (h : m.wf = true) : AMap.wf (m.filter f) = true := by
  induction m with
  | nil => rfl
  | cons q r ih =>
    obtain ⟨j, w⟩ := q
    obtain ⟨h1, h2⟩ := (AMap.wf_cons j w r).1 h
    rw [List.filter_cons]
    split
    · exact (AMap.wf_cons ..).2 ⟨fun p hp => h1 p (List.mem_filter.1 hp).1, ih h2⟩
    · exact ih h2

/-- Taking a value away keeps the form. -/
theorem AMap.del_wf {α : Type} {m : AMap α} (k : Nat) (h : m.wf = true) : (m.del k).wf = true := AMap.filter_wf _ h

/-- Changing values in place keeps the form. -/
theorem AMap.mapV_wf {α β : Type} {m : AMap α} (f : Nat → α → β) (h : m.wf = true) : (m.mapV f).wf = true := by
  induction m with
  | nil => rfl
  | cons q r ih =>
    obtain ⟨j, w⟩ := q
    obtain ⟨h1, h2⟩ := (AMap.wf_cons j w r).1 h
    refine (AMap.wf_cons j (f j w) (AMap.mapV r f)).2 ⟨fun p hp => ?_, ih h2⟩
    obtain ⟨x, hx, rfl⟩ := List.mem_map.1 hp
    exact h1 x hx

theorem AMap.modify_wf {α : Type} {m : AMap α} (k : Nat) (f : α → α) (h : m.wf = true) : (m.modify k f).wf = true := by
  induction m with
  | nil => rfl
  | cons q r ih =>
    obtain ⟨j, w⟩ := q
    obtain ⟨h1, h2⟩ := (AMap.wf_cons j w r).1 h
    have hr : ∀ p ∈ AMap.modify r k f, j < p.1 := by
      intro p hp
      obtain ⟨x, hx, rfl⟩ := List.mem_map.1 hp
      have := h1 x hx
      split <;> exact this
    show AMap.wf ((if j = k then (j, f w) else (j, w)) :: AMap.modify r k f) = true
    split <;> exact (AMap.wf_cons ..).2 ⟨hr, ih h2⟩

/-- A key that was taken away reads as absent, and every other as before. -/
@[simp] theorem AMap.get?_del_self {α : Type} (m : AMap α) (k : Nat) : (m.del k).get? k = none := by
  induction m with
  | nil => rfl
  | cons q r ih =>
    obtain ⟨j, w⟩ := q
    have h0 : AMap.get? (List.filter (fun p : Nat × α => p.1 != k) r) k = none := ih
    rw [AMap.del, List.filter_cons]
    by_cases e : j = k
    · simpa [e] using h0
    · simp [e, AMap.get?, h0]

theorem AMap.get?_del_ne {α : Type} (m : AMap α) (k j : Nat) (h : j ≠ k) : (m.del k).get? j = m.get? j := by
  induction m with
  | nil => rfl
  | cons q r ih =>
    obtain ⟨i, w⟩ := q
    have ih' : AMap.get? (List.filter (fun p : Nat × α => p.1 != k) r) j = AMap.get? r j := ih
    rw [AMap.del, List.filter_cons]
    by_cases e : i = k
    · subst e
      simp [AMap.get?, Ne.symm h, ih']
    · by_cases e' : i = j
      · simp [e', AMap.get?, h]
      · simp [e, e', AMap.get?, ih']

end Sys2Proof.Machine
end

