-- ==== Sys2Proof/WellFormed.lean ====
section
/-!
DEFINITION. Well-formed commands: the conditions on operands that the rules state and the operand types do not. `exec` is total
and does not ask for them; it answers an ill-formed access as the rules say (R532).
-/

namespace Sys2Proof

/-- Register accesses are naturally aligned (R532). -/
def aligned (ofs : BitVec 24) : Bool := ofs.toNat % 4 == 0

/-- A mirror read has 4 to 64 bytes within one 64-byte block (R532). -/
def oneBlock (ofs : BitVec 24) (words : Fin 17) : Bool :=
  decide (1 ≤ words.val) && decide (ofs.toNat % 64 + 4 * words.val ≤ 64)

/-- The two lanes of a WARM request are different (R470). -/
def warmOk : WarmSrc → Bool
  | .lockoutCleared => true
  | .laneRequest l m => l != m

/-- A lane does not wait for itself (R186, R202). -/
def lanePairs (ps : List (Lane × Lane)) : Bool := ps.all (fun p => p.1 != p.2)

/-- A requester meets others, each once (R398). -/
def rivalsOk (m : Master) (rivals : List Master) : Bool := !rivals.contains m && decide rivals.Nodup

/-- A list of channel items names each channel once. -/
def distinctKeys {α β : Type} [DecidableEq α] (l : List (α × β)) : Bool := decide (l.map Prod.fst).Nodup

/-- A read of lane memory asks for a 64-bit word of it, and a word of it comes (R234). -/
def eccReadOk (r : EccRead) : Bool :=
  r.addr.toNat % 8 == 0 && r.came.toNat % 8 == 0 && decide (r.addr.toNat < r.mem.size) && decide (r.came.toNat < r.mem.size)

/-- What one lane meets in a tick names each Echo item, frame and message once; a link packet holds up to 256 bytes beside its check
value (R429); its reads of memory are words, and the scrubber
reads processor SRAM (R236). -/
def laneObsOk (o : LaneObs) : Bool :=
  distinctKeys o.echo && decide (o.frames.map (fun f => f.idx)).Nodup && decide (o.msgs.map (fun m => (m.secure, m.ch))).Nodup &&
  o.packets.all (fun p => decide (p.first.length ≤ 260) && decide (p.again.length ≤ 260)) && decide o.noData.Nodup && o.reads.all eccReadOk && o.scrubbed.all (fun r => eccReadOk r && r.mem == .processor)

def tickObsOk (o : TickObs) : Bool := laneObsOk o.lanes.a && laneObsOk o.lanes.b && laneObsOk o.lanes.c

/-- A COPY item holds words of part E or R, at most seven (R378). -/
def copyItemOk (i : CopyItem) : Bool := (i.part == 1 || i.part == 2) && decide (i.words.length ≤ 7)

/-- A record's DETAIL has at most 8 bytes and its COUNT is 1 or more (R512). -/
def recordOk (r : Record) : Bool := decide (r.detail.length ≤ 8) && decide (1 ≤ r.count)

/-- Bytes of an update item's data (R451) and of a release record (R454). -/
def updateDataLen : Nat := 56
def releaseLen : Nat := 160

/-- Well-formed commands. The operands of every row that is not named here are bounded by their types alone. -/
def Instr.wellFormed (i : Instr) : Bool :=
  match i with
  -- resets, ticks and what the lanes meet in them
  | .warm src => warmOk src
  | .proveComplete _ _ echo => distinctKeys echo
  | .tickEdge obs => tickObsOk obs
  | .p1WaitLimit m | .p3WaitLimit m => lanePairs m
  | .laneCheckFault _ _ (some read) => eccReadOk read
  | .dissentStep _ obs => distinctKeys obs.a && distinctKeys obs.b && distinctKeys obs.c
  | .ageingWindow obs => decide (obs.switches.map (fun x => (x.ch, x.side))).Nodup
  -- accesses to the hub and the host windows
  | .lckRead m _ rivals => rivalsOk m rivals
  | .lckWrite m _ _ rivals => rivalsOk m rivals
  | .crcDataWrite m _ _ _ rivals => rivalsOk m rivals
  | .rcRead _ ofs => aligned ofs
  | .hostRegisterWrite _ ofs _ => aligned ofs
  | .mirrorRead ofs words => aligned ofs && oneBlock ofs words
  -- items and records
  | .boundaryReleaseItem _ op => [0x0, 0x3, 0x8].contains op
  | .pairCopy items => items.all copyItemOk
  | .log _ recs => recs.all recordOk
  | .logRecordArrival copies => copies.all (fun c => recordOk c.2)
  | .update item => item.data.length == updateDataLen
  | .releaseRecord r => r.bytes.length == releaseLen
  | _ => true

end Sys2Proof
end

