-- ==== Sys2Proof/Tests/Slice0.lean ====
section
/-!
SUPPORT. Tests: ill-formed commands that WellFormed refuses; small steps whose results the manual states; and, for each
statement with hypotheses, a state and operands that meet them together, clause by clause.
-/

namespace Sys2Proof.Tests

set_option Elab.async false

open Sys2Proof Sys2Proof.Machine

/-! ### A small module: one image, a manager of a pair with a neighbour and a worker -/

/-- CH1 and CH2 outputs, CH2 with its readback on CH3; CH4 tested by CH5; CH6 an acknowledge input; CH7 watches its wire. -/
def chans : Vector ChanCfg 48 :=
  (((((Vector.replicate 48 ChanCfg.off).set 0 { ChanCfg.off with mode := .output }).set 1
    { ChanCfg.off with mode := .outputFb, link := some 2 }).set 2 { ChanCfg.off with mode := .input, filt := 1 }).set 3
    { ChanCfg.off with mode := .inputTested, link := some 4, filt := 1 }).set 4 { ChanCfg.off with mode := .testSource } |>.set 5
    { ChanCfg.off with mode := .input, ackInput := true } |>.set 6 { ChanCfg.off with mode := .inputWb, filt := 1 }

/-- The key-encryption key, a channel key and the wrapped one of RFC 3394, 4.6, their bytes in the order of R2. -/
def kek : BitVec 256 := 0x1f1e1d1c1b1a191817161514131211100f0e0d0c0b0a09080706050403020100

def key : BitVec 256 := 0x0f0e0d0c0b0a09080706050403020100ffeeddccbbaa99887766554433221100

def wrapped : BitVec 320 := 0x21dd027a9b8b98fb3bf4991ae7f0c7cb26d30ed8e286573f26f887fb5cb3cccbf410b8c404f4c928

def part : NodePart := { NodePart.empty with
  chans := chans
  reflex := [[3, 1, 1, 0, 0, 0, 0, 0, 0, 0, 0, 0, 0, 0, 0, 0, 0, 0, 0, 0, 5, 0, 0, 0]]
  keys := [(0, wrapped)] }

def port (role : PortRole) (nbr : BitVec 12) : PortCfg := ⟨role, nbr, none, 500, 50, 0⟩

def ports : Vector PortCfg 4 := #v[port .ring0 5, port .ring0 7, port .unused 0, port .unused 0]

def routeCfg : RouteCfg where
  entry := none
  approach := [1]
  path := [1]
  pelems := [(2, 1, 0), (11, 1, 0)]
  overlap := []
  flank := []
  flags := []
  zones := []
  waitMs := 10
  setMs := 10
  ovlMs := 10
  apprMs := 10
  emergMs := 10
  follow := false

def yes : PermMask := ⟨true, true, true⟩

def area : AreaCfg where
  elems := [(1, .trackSection [.detector 9] 10 .direct), (2, .point [] [] [] [] 100 []), (3, .signal [(0, []), (1, [])] 4),
    (4, .stop [] [] [] [] 50 []), (5, .gate [] [] none [] [] 50), (6, .movable [⟨0, .channel 2, true⟩, ⟨0, .channel 3, true⟩] none [] 100 [] []),
    (7, .zone [] [] [] none [] 50 (some 10) []), (9, .detCount []), (10, .block false true none), (11, .boundary 2 2)]
  routes := [(1, routeCfg)]
  slots := [(1, ⟨0, 1, .lent 2⟩), (2, ⟨0, 2, .proxy 11⟩)]
  areas := [0x99]
  track := [(1, ⟨100000, .dead, .dead⟩)]
  marks := []
  auth := { AuthCfg.empty with maxAge := 10, validity := 10, lmax := 40000, vmax := 10000, vn := 10 }
  perms := [(0x01, yes), (0x02, yes), (0x03, yes), (0x04, yes), (0x05, yes), (0x06, yes), (0x07, yes), (0x08, yes), (0x09, yes),
    (0x0A, yes), (0x0B, yes), (0x0C, yes), (0x20, yes), (0x21, yes), (0x22, yes), (0x23, yes), (0x30, yes), (0x40, yes)]
  topo := [(0, ⟨.pairUnit, some 0, 0, 0, 0, ports⟩), (1, ⟨.pairUnit, some 1, 1, 0, 1, ports⟩), (5, ⟨.worker, none, 0, 0, 1, ports⟩)]
  gateways := [7]
  requestNodes := []
  params := ⟨24, 8, 16, 8, 16, 64, 64, 24, 24, 20⟩
  expDigest := [(5, 1, 0)]

/-- R436, R454: signatures under the private key 1 with the nonce 1: the public key is the base point, r its first coordinate, and
s is r plus the digest. The image's digest is 1. -/
def hdr : ImageHdr where
  magicOk := true
  layoutOk := true
  imgVer := 1
  areaId := 0x10
  imgLen := 8192
  vmapId := 7
  tUs := 10000
  retFmt := 1
  secVer := 1
  lcReq := .field
  keySlot := 0
  sigKeySlot := 0
  revoke := 0
  decCompat := true
  compatBase := 1
  sectionsOk := true
  sigForm := true
  digest := 1
  keyHash := 0
  pubKey := BitVec.ofNat 768 (p384Gx * 2 ^ 384 + p384Gy)
  sigR := BitVec.ofNat 384 p384Gx
  sigS := BitVec.ofNat 384 (p384Gx + 2 ^ 376)

def img : Image := ⟨hdr, area, [(0, part), (5, part)]⟩

/-- The committed region of a lane with these elements, this route and this part K. -/
def region (elems : AMap Elem) (r : RouteRec) (k : LaneK) : Carried := ⟨elems, [(1, r)], [], [], k⟩

/-- A module in RUN in tick 5,000 with three lanes in service that hold this region; every supply on. -/
def runAt (c : Carried) : State := { State.reset with
  ms := { ModeSt.reset with
    mode := .run, tick := 5000, voting := 7, tUs := 10000, porHeld := false, role := .active }
  lanes := .all { LaneSt.reset with svc := .inService, loaded := true, regionOk := true, region := c }
  pair := { PairSt.reset with claim := 1, idOk := true }
  pwr := { Power.reset with dom := 0x1FFF, perstLow := false, linkUp := true, busMaster := true }
  net := { Net.reset with
    state := .sync, ports := .replicate 4 { PortSt.reset with blockLock := true, linkUp := true, nbrValid := true, nbr := 5 } }
  upd := { Upd.reset with img := some img } }

def rec0 : RouteRec := RouteRec.idle

def run : State := runAt (region [] rec0 LaneK.reset)

/-- The same module in LOCKOUT, its latch set in tick 4,000 with cause 7. -/
def locked : State := { run with
  ms := { run.ms with mode := .lockout }
  aon := { run.aon with latch := true, latchCause := 7, latchTick := 4000 }
  nvm := { run.nvm with latchLog := ⟨[({ magic := 0, seq := 0, stateByte := 0x5A, cause := 7, tick := 4000, check := 0 } : LatchRec).sealed], [], false⟩ } }

theorem all3 : ∀ {P : Lane → Prop}, P .a → P .b → P .c → ∀ l, P l
  | _, ha, hb, hc, l => by cases l <;> assumption

/-! ### Ill-formed commands -/

/-- R532: an access is naturally aligned. -/
theorem test_unaligned_read : (Instr.rcRead .bar0 2).wellFormed = false := by decide

theorem test_unaligned_write : (Instr.hostRegisterWrite .bar0 1 0).wellFormed = false := by decide

/-- R532: a mirror read stays within one 64-byte block, and is no empty one. -/
theorem test_mirror_leaves_block : (Instr.mirrorRead 0x10003C 2).wellFormed = false := by decide

theorem test_mirror_empty : (Instr.mirrorRead 0x100000 0).wellFormed = false := by decide

/-- R470: two different lanes request WARM. -/
theorem test_warm_one_lane : (Instr.warm (.laneRequest .a .a)).wellFormed = false := by decide

theorem test_lane_waits_for_itself : (Instr.p1WaitLimit [(.a, .a)]).wellFormed = false ∧
    (Instr.p3WaitLimit [(.b, .b)]).wellFormed = false := by decide

/-- R398: a requester is no rival of itself, and no rival counts twice. -/
theorem test_rivals : (Instr.lckRead .laneA 0 [.laneA]).wellFormed = false ∧
    (Instr.lckWrite .laneA 0 1 [.laneB, .laneB]).wellFormed = false ∧
    (Instr.crcDataWrite .laneA 0 ⟨true, false, false, false⟩ 0 [.laneA]).wellFormed = false := by decide

def laneObs : LaneObs where
  clockRuns := true
  intervalDevPpm := 0
  t4Us := 100
  xcMiss := none
  vecFlip := none
  reads := []
  scrubbed := []
  noBlockFrom := []
  noDigestFrom := []
  blocks := []
  digests := []
  frames := []
  msgs := []
  noData := []
  vf := .replicate 3 .ok
  vfVal := .replicate 3 480
  iBank := .replicate 3 0
  bankOver := .replicate 3 false
  echo := []
  updLockLow := false
  kat := ⟨0, 0⟩
  packets := []

def tickObs (o : LaneObs) : TickObs := ⟨.all o, [], [], .replicate 3 true, 0, .all false, true⟩

def echoRest : EchoItem := EchoItem.rest

theorem test_echo_item_twice :
    (Instr.tickEdge (tickObs { laneObs with echo := [(0, echoRest), (0, echoRest)] })).wellFormed = false := by decide

theorem test_frame_twice :
    (Instr.tickEdge (tickObs { laneObs with frames := [⟨0, [1], [1]⟩, ⟨0, [2], [2]⟩] })).wellFormed = false := by decide

theorem test_message_twice :
    (Instr.tickEdge (tickObs { laneObs with msgs := [⟨true, 0, [1]⟩, ⟨true, 0, [2]⟩] })).wellFormed = false := by decide

/-- R234, R236: a read of memory asks for a word inside it; the scrubber reads processor SRAM. -/
theorem test_ecc_reads :
    (Instr.tickEdge (tickObs { laneObs with reads := [⟨.stateSram, 262144, 262144, 1⟩] })).wellFormed = false ∧
    (Instr.tickEdge (tickObs { laneObs with reads := [⟨.stateSram, 4, 4, 1⟩] })).wellFormed = false ∧
    (Instr.tickEdge (tickObs { laneObs with scrubbed := [⟨.stateSram, 8, 8, 1⟩] })).wellFormed = false ∧
    (Instr.laneCheckFault .a ⟨[], .sound⟩ (some ⟨.processor, 0, 1, 0⟩)).wellFormed = false := by decide

/-- R429: a link packet holds up to 256 bytes beside its check value. -/
theorem test_link_packet :
    (Instr.tickEdge (tickObs { laneObs with packets := [⟨List.replicate 261 0, [], .other⟩] })).wellFormed = false := by
  decide +kernel

theorem test_bank_twice :
    (Instr.tickEdge (tickObs { laneObs with noData := [0, 0] })).wellFormed = false := by decide

theorem test_prove_item_twice :
    (Instr.proveComplete (.all ⟨none, none, .sound, ⟨0, 0⟩⟩) [] [(0, echoRest), (0, echoRest)]).wellFormed = false := by decide

theorem test_dissent_item_twice :
    (Instr.dissentStep .high (.all [(0, echoRest), (0, echoRest)])).wellFormed = false := by decide

/-- R377: OP of an item that ends a boundary lock. -/
theorem test_release_op : (Instr.boundaryReleaseItem ⟨1, 0, 0, 0, 0⟩ 0x5).wellFormed = false := by decide

/-- R378: COPY items hold at most seven words of part E or R. -/
theorem test_copy_item : (Instr.pairCopy [⟨1, 0, List.replicate 8 0⟩]).wellFormed = false ∧
    (Instr.pairCopy [⟨3, 0, []⟩]).wellFormed = false := by decide

def record (cls : RecClass) (code : Byte) : Record := ⟨cls, .original, 0, false, code, 0, 0, 1, 5000, 5000, 1, [], 0⟩

/-- R512: DETAIL has at most 8 bytes, COUNT is at least 1. -/
theorem test_record : (Instr.log 5 [{ record .event 1 with detail := List.replicate 9 0 }]).wellFormed = false ∧
    (Instr.logRecordArrival [(.a, { record .event 1 with count := 0 })]).wellFormed = false := by decide

/-- R451: an UPDATE item carries 56 bytes. -/
theorem test_update_item : (Instr.update ⟨0, 1, [0], none⟩).wellFormed = false := by decide

/-! ### Hypotheses that hold together: shared resources, mailboxes, the host -/

/-- LCK_5 held by lane B. -/
def lock5 : State := { run with sh := { run.sh with locks := run.sh.locks.set 5 ⟨2, false⟩ } }

theorem witness_LocksAreTakenAndFreed :
    run.hostBlind .laneA = false ∧ (run.sh.round 1 .laneA []).2 = true ∧ run.sh.locks[63].owner = 0 ∧
    lock5.hostBlind .laneB = false ∧ (lock5.sh.round 1 .laneB [.laneC]).2 = true ∧
    lock5.sh.locks[5].owner = Master.laneB.id ∧ (2#32).setWidth 4 = Master.laneB.id ∧
    lock5.sh.locks[5].owner ≠ Master.laneC.id ∧ (lock5.sh.round 1 .laneC []).2 = true ∧
    (run.sh.round 1 .hubMovers []).2 = true := by decide +kernel

/-- Every lane has written a freeze request block for resource 5 and the mask 0xF1. -/
def asksFreeze : State := { run with sh := { run.sh with
  freezeReq := .ofFn (fun l => [run.exBlock .freeze l 0 (freezeBody 5 0xF1)]) } }

/-- Resource 1 is frozen for the host's own window, which waits for a lock. -/
def frozen : State := { run with sh := { run.sh with
  freeze := 2, mask := 0xE0, waiting := [⟨1, .hostNonsecure, .lckRead 5⟩] } }

theorem witness_FreezesAndCheckValues :
    run.pwr.d3hot = false ∧ (run.sh.round 1 .hostNonsecure []).2 = true ∧ run.acting ≠ 0 ∧
    (∀ m : Lane, m.inMask asksFreeze.acting = true → m ≠ .a → ∃ bs ∈ asksFreeze.sh.freezeReq.get m,
      natAt bs 16 1 = (5 : Fin 6).val ∧ BitVec.ofNat 8 (natAt bs 17 1) &&& 0xF1#8 = 0xFF#8 &&& 0xF1#8) ∧
    (Lane.a.inMask run.acting = true ∧ (∀ w ∈ run.sh.waiting, w.res ≠ 5)) ∧
    (({ run with sh := { run.sh with freeze := 1 } } : State).sh.freeze.getLsbD 0 = true) ∧
    (frozen.hostBlind .hostNonsecure = false ∧ Master.hostNonsecure ≠ .hubMovers ∧ frozen.sh.freeze.getLsbD 1 = true ∧
      frozen.sh.heldOff 1 .hostNonsecure = true ∧ frozen.sh.waiting = [⟨1, .hostNonsecure, .lckRead 5⟩] ∧
      frozen.sh.locks[(5 : Fin 64)].owner = 0) ∧
    (run.hostBlind .laneA = false ∧ run.sh.heldOff 1 .laneA = false ∧ run.sh.waiting = [] ∧ crcOwned .laneA 3 = true ∧
      crcOwned .laneA 4 = false ∧ (0x10#32).getLsbD 4 = true) ∧
    (run.sh.round 2 .laneA []).2 = true ∧ (run.sh.round 2 .hostNonsecure [.laneA]).2 = false ∧
    strobed ⟨true, true, false, false⟩ 0x1234 = some [0x34, 0x12] ∧ strobed ⟨true, false, true, false⟩ 0x1234 = none ∧
    ({ run with pwr := { run.pwr with d3hot := true } } : State).hostBlind .hostSecure = true := by
  refine ⟨by decide +kernel, by decide +kernel, by decide +kernel, ?_, by decide +kernel⟩
  exact all3 (fun _ h => absurd rfl h) (by decide +kernel) (by decide +kernel)

def d3 : State := { run with pwr := { run.pwr with d3hot := true } }

theorem witness_MailboxAccesses : run.pwr.d3hot = false ∧
    (∀ b : Bool, run.sh.round 1 (windowMaster b) [] = ((run.sh.round 1 (windowMaster b) []).1, true)) := by decide +kernel

/-- Secure channel 0 with these copies waiting, and message bytes `n` in lane A. -/
def queued (cs : PerLane (Option (List Byte))) : State := { run with
  mail := { run.mail with sec := run.mail.sec.set 0 { Mbx.reset with queue := [⟨cs⟩] } } }

def snapped : State := { run with mail := { run.mail with snapDone := true } }

theorem witness_HubMoversCopyMessages :
    ((queued (.all (some [1]))).mbx true 0).outFull = false ∧
    ((queued (.all (some [1]))).mbx true 0).queue = [⟨.all (some [1])⟩] ∧
    (∃ e : OutMsg, ((queued ⟨some [1], some [2], none⟩).mbx true 0).queue = [e] ∧
      ∀ (l m : Lane) (bs : List Byte), l ≠ m → e.copies.get l = some bs → e.copies.get m ≠ some bs) ∧
    (Lane.a.inMask run.acting = true ∧ run.mail.snapDone = false ∧ run.ms.p5Left.get .a = false) ∧
    snapped.mail.snapDone = true := by
  refine ⟨by decide +kernel, by decide +kernel, ⟨⟨⟨some [1], some [2], none⟩⟩, by decide +kernel, ?_⟩, by decide +kernel,
    by decide +kernel⟩
  intro l m bs hne h1 h2
  cases l <;> cases m <;> simp_all [PerLane.get] <;> (subst h2; simp at h1)

/-- A session open on secure channel 0 in every lane. -/
def session : Session := ⟨7, 0, 0, 0⟩

def opened : State := runAt (region [] rec0 { LaneK.reset with sessions := (Vector.replicate 8 none).set 0 (some session) })

/-- R437, RFC 3394, 4.6: a channel's key is what unwrapping its slot under the key-encryption key gives, and nothing under another. -/
theorem test_unwrap : ({ run with fuses := { run.fuses with kek := some kek } } : State).chanKey 0 = some key ∧
    ({ run with fuses := { run.fuses with kek := some (kek + 1) } } : State).chanKey 0 = none := by decide +kernel

theorem witness_SessionsOpenAndClose :
    ({ run with fuses := { run.fuses with kek := some kek } } : State).chanKey 0 = some key ∧
    run.acting ≠ 0 ∧ opened.acting ≠ 0 ∧ opened.leadK.sessions[(0 : Fin 8)] = some session ∧
    (∀ l : Lane, l.inMask opened.acting = true → (opened.lane l).region.k.sessions[(0 : Fin 8)] = some session) :=
  ⟨by decide +kernel, by decide +kernel, by decide +kernel, by decide +kernel,
    all3 (by decide +kernel) (by decide +kernel) (by decide +kernel)⟩

theorem witness_HostReadsAnswerAndLatch :
    run.pwr.d3hot = false ∧ d3.pwr.d3hot = true ∧
    (0x100000#24).toNat % 4 = 0 ∧ 1 ≤ (16 : Fin 17).val ∧ (0x100000#24).toNat % 64 + 4 * (16 : Fin 17).val ≤ 64 ∧
    0x100000 ≤ (0x100000#24).toNat ∧ (0x19FFC0#24).toNat % 64 + 4 * (16 : Fin 17).val ≤ 64 ∧ (0x19FFC0#24).toNat < 0x1A0000 ∧
    (0x10003C#24).toNat % 64 + 4 * (2 : Fin 17).val > 64 ∧ (0x0FFFC0#24).toNat < 0x100000 := by decide +kernel

def busy : State := { run with upd := { run.upd with dmaBusy := true }, host := { run.host with msixMask := 0 } }

theorem witness_HostWritesAndItsLink :
    run.pwr.d3hot = false ∧ d3.pwr.d3hot = true ∧ run.upd.dmaBusy = false ∧ run.pwr.dom.getLsbD 3 = true ∧
    run.pwr.busMaster = true ∧ busy.upd.dmaBusy = true ∧ busy.upd.dmaLeft = 0 ∧ busy.host.msixMask.getLsbD 18 = false := by decide +kernel

/-! ### Hypotheses that hold together: field dies -/

def prove : State := { run with ms := { run.ms with mode := .prove } }

/-- Every lane drives both switches of CH1: a proof word for it in bank 1. -/
def driven : State := { run with
  fld := { run.fld with ifaces := .all ((Vector.replicate 3 Iface.reset).set 0 { Iface.reset with token := some ⟨5000, 0xFFFF⟩ }) } }

def gated : State := { run with fld := { run.fld with stages := run.fld.stages.set 0 ⟨true, true, false, false⟩ } }

/-- Every lane's gate has released a refresh of every bank. -/
def issuing : State := { run with
  fld := { run.fld with ifaces := .all (Vector.replicate 3 { Iface.reset with issued := some 0 }) } }

theorem witness_InterfacesTakeTokens :
    issuing.laneOn .a = true ∧ issuing.bankOn 2 = true ∧ (issuing.iface .b 2).issued ≠ none ∧ (run.iface .b 2).issued = none ∧
    ((mkToken 5000 Lane.b.num 3 1).extractLsb' 16 12 = tokenChk (mkToken 5000 Lane.b.num 3 1) ∧
      ((mkToken 5000 Lane.b.num 3 1).extractLsb' 30 2).toNat = Lane.b.num ∧
      ((mkToken 5000 Lane.b.num 3 1).extractLsb' 28 2).toNat = (2 : Bank).val + 1 ∧ (issuing.iface .b 2).lastTick = none) ∧
    ¬ ((0#64).extractLsb' 30 2).toNat = Lane.b.num := by decide +kernel

theorem witness_ProofWordsGatesAndTrips :
    prove.laneOn .a = true ∧ prove.bankOn 0 = true ∧ prove.ms.mode = .prove ∧
    ¬ (run.ms.mode = .prove ∨ (run.ms.mode = .run2 ∧ (run.lane .a).svc = .withdrawn)) ∧
    driven.majority 0 .high = true ∧ (driven.fld.stages[(0 : Chan)]).trip = false ∧
    (driven.fld.stages[(0 : Chan)]).gate .high = false ∧ run.majority 0 .high = false ∧ run.majority 0 .low = false ∧
    (gated.fld.stages[(0 : Chan)]).gate .high = true ∧ 40 < 41 ∧ 19 < 20 ∧ 20 ≤ 40 ∧
    (run.chan 0).mode = .output ∧ (run.chan 1).mode = .outputFb := by decide +kernel

/-- Lane state in which CH1's dark pulse of the high side runs since tick 1. -/
def pulseK : LaneK := { LaneK.reset with outs := LaneK.reset.outs.set 0 { OutK.reset with
  dh := ⟨some 1, true, false, false, false⟩, onRun := 9 } }

def pulsing : State := runAt (region [] rec0 pulseK)

/-- Channel registers of CH1, which drives. -/
def drives (s : State) : State := { s with fld := { s.fld with regs := s.fld.regs.set 0 { ChReg.reset with
  cmdOn := true, h := 2, l := 0, gdH := true, gdL := true, value := true } } }

/-- P2 of the tick has commanded CH1 on, or off. -/
def pulsingOn : State := drives (runAt (region [] rec0 { pulseK with partO := pulseK.partO.set 0 1 }))

def pulsingOff : State := drives pulsing

/-- The same pulse, moved once (R496). -/
def movedK : LaneK := { LaneK.reset with outs := LaneK.reset.outs.set 0 { OutK.reset with
  dh := ⟨some 1, true, false, false, true⟩, onRun := 9 } }

/-- The tick after a withdrawal for rolling proof, whose low-side dissent step meets the pulse (R496). -/
def besideDissent : State := { pulsingOn with prf := { pulsingOn.prf with phase := .dissent, rpLane := 3, startTick := 4999 } }

/-- CH7's replica has been active for long, or not yet settled, its bank on since now. -/
def watching (settled : Bool) : State := { run with fld := { run.fld with
  reps := .all (run.fld.reps.a.set 6 { Replica.reset with raw := some .active, out := .active, settled := settled }) } }

theorem witness_TestPulsesAndInputs :
    (run.chan 0).mode = .output ∧ (((pulsing.leadK.outs[(0 : Chan)]).run .darkHigh).since.isSome = true) ∧
    ((pulsing.leadK.outs[(0 : Chan)]).run .darkHigh).overdue = false ∧ ((pulsing.leadK.outs[(0 : Chan)]).run .darkHigh).moved = false ∧
    (besideDissent.meetsDissent 0 .darkHigh = true ∧
      (((runAt (region [] rec0 movedK)).leadK.outs[(0 : Chan)]).run .darkHigh).moved = true ∧
      besideDissent.leadK = pulsingOn.leadK ∧ besideDissent.fld = pulsingOn.fld ∧ besideDissent.aon = pulsingOn.aon ∧
      besideDissent.inTicks = true ∧ besideDissent.ms = pulsingOn.ms) ∧
    (((pulsing.leadK.outs[(0 : Chan)]).run .darkHigh).since = some 1 ∧
      msTicks pulsing.ms.tUs (2 * (pulsing.chan 0).testS * 1000) ≤ (pulsing.ms.tick - 1).toNat) ∧
    ((pulsingOn.chan 0).mode = .output ∧ ((pulsingOn.leadK.outs[(0 : Chan)]).run .darkHigh).due = true ∧
      (∀ p ∈ (pulsingOn.leadK.outs[(0 : Chan)]).pend, p.kind ≠ .darkHigh) ∧ (pulsingOn.leadK.outs[(0 : Chan)]).lock = none ∧
      pulsingOn.aon.latch = false ∧ pulsingOn.inTicks = true ∧ pulsingOn.meetsDissent 0 .darkHigh = false ∧ 0 < pulsingOn.ms.tUs.toNat ∧
      (pulsingOn.fld.regs[(0 : Chan)]).letsPulse .darkHigh = true ∧ 0 < pulsingOn.part.pulseCycle[bankOf 0] ∧
      pulsingOn.ms.tick.toNat % pulsingOn.part.pulseCycle[bankOf 0] = ((pulsingOn.chan 0).place .darkHigh).phase) ∧
    (pulsingOn.leadK.partO[0].getLsbD (0 : Chan).val = decide (PulseKind.darkHigh ≠ .lowSide) ∧
      pulsingOff.leadK.partO[0].getLsbD (0 : Chan).val = decide (PulseKind.darkHigh = .lowSide) ∧
      (pulsingOff.fld.regs[(0 : Chan)]).letsPulse .darkHigh = true) ∧
    ((run.chan 2).mode.isIn = true ∧ run.bankOn (bankOf 2) = true ∧ (run.chan 6).mode = .inputWb ∧
      (∀ a ∈ [(0 : Int), 200], a + (run.chan 2).filt.toNat * 100 ≤ (100 : Nat) ∨ (100 : Nat) ≤ a) ∧
      (((watching true).fld.reps.get .b)[(6 : Chan)]).settled = true ∧
      ((run.fld.reps.get .b)[(2 : Chan)]).since + 100000 * (run.chan 2).filt.toNat ≤ run.nowNs + 1000 * 100) ∧
    ((0 : Int) ∈ [(0 : Int)] ∧ ((99 : Nat) : Int) < 0 + (run.chan 2).filt.toNat * 100 ∧ (0 : Int) < (99 : Nat) ∧
      run.contradicts (run.chan 2) .active 0 = true ∧ (((watching false).fld.reps.get .b)[(6 : Chan)]).settled = false ∧
      (watching false).nowNs + 1000 * 99 <
        (((watching false).fld.reps.get .b)[(6 : Chan)]).since + 100000 * ((watching false).chan 6).filt.toNat) ∧
    (((watching true).fld.reps.get .b)[(6 : Chan)]).raw = some .active ∧
    (({ run with fld := { run.fld with srcGap := some 4 } } : State).fld.srcGap = some 4 ∧
      (run.chan 3).mode = .inputTested ∧ (run.chan 3).link = some 4) := by decide +kernel

theorem pulsing_runs : ∀ d : Chan, d ≠ 0 → ((pulsing.lane .a).region.k.outs[d]).onRun = 0 := by decide +kernel

theorem witness_FindingsOfTheOutputs :
    run.inTicks = true ∧ (run.chan 1).mode = .outputFb ∧ (run.chan 0).mode = .output ∧
    settledOn pulsing.ms.tUs pulsing.leadK.outs[(0 : Chan)] = true ∧ pulsing.inTicks = true ∧
    (((pulsing.lane .a).region.k.outs[(0 : Chan)]).lock = none ∧ 0 < ((pulsing.lane .a).region.k.outs[(0 : Chan)]).onRun ∧
      (pulsing.chan 0).mode.isOut = true ∧ bankOf 0 = 0 ∧
      ∀ d : Chan, bankOf d = 0 → (pulsing.chan d).mode.isOut = true → 0 < ((pulsing.lane .a).region.k.outs[d]).onRun →
        ((pulsing.lane .a).region.k.outs[d]).lock = none → d ≠ 0 →
        tickGt ((pulsing.lane .a).region.k.outs[(0 : Chan)]).onTick ((pulsing.lane .a).region.k.outs[d]).onTick = true) := by
  refine ⟨by decide +kernel, by decide +kernel, by decide +kernel, by decide +kernel, by decide +kernel, by decide +kernel,
    by decide +kernel, by decide +kernel, by decide +kernel, ?_⟩
  intro d _ _ h0 _ hd
  rw [pulsing_runs d hd] at h0
  cases h0

/-! ### Hypotheses that hold together: lanes -/

/-- The module with lane B changed. -/
def withB (s : State) (f : LaneSt → LaneSt) : State := { s with lanes := { s.lanes with b := f s.lanes.b } }

def twoVotes (s : State) : State := { s with ms := { s.ms with mode := .run2, voting := 5 } }

theorem witness_TickLimitsFailLanes :
    run.inTicks = true ∧ (run.lane .b).svc = .inService ∧ run.ms.mode = .run ∧ run.ms.voting = 7 ∧ run.aon.latch = false ∧
    Lane.b.inMask run.acting = true ∧ 1 < countMask run.acting ∧ (Lane.b, Lane.a) ∈ [(Lane.b, Lane.a), (.b, .c)] ∧
    (Lane.b, Lane.c) ∈ [(Lane.b, Lane.a), (.b, .c)] ∧ (Lane.a, Lane.c) ∉ [(Lane.b, Lane.a), (.b, .c)] ∧
    Lane.a.inMask run.running = true ∧ (Lane.a, Lane.b) ∈ [(Lane.a, Lane.b), (.c, .b)] ∧
    (Lane.c, Lane.b) ∈ [(Lane.a, Lane.b), (.c, .b)] ∧ Lane.c.inMask run.ms.voting = true ∧
    (Lane.c, Lane.a) ∉ [(Lane.a, Lane.b), (.c, .b)] := by decide +kernel

/-- Lane B's gate holds a token refresh for FB1 and for FB3, which has no outputs, a SOUND mark and a frame. -/
def holding : State := withB run (fun x => { x with
  held := [.service, .token 0, .token 2, .descriptor 0x014 5000 ⟨[], [], [], 0⟩] })

def gateShut : State := withB run (fun x => { x with check := { x.check with gateClosed := true } })

/-- The last tick of a window of 1,024. -/
def windowEnd : State := { run with ms := { run.ms with tick := 5119 } }

/-- Lane B's rolling proof is due since time 0; two days of area time have passed. -/
def due : State := { run with
  prf := { run.prf with lanes := { run.prf.lanes with b := ⟨some 0, true, false, 0, 0, 0⟩ } }
  aon := { run.aon with timeNs := 172800000000000 } }

def wd (fails : Nat) (served : Bool) : State := withB run (fun x => { x with wdog := ⟨0, 0, false, true, fails, served⟩ })

theorem witness_GatesAndWindows :
    ((holding.lane .b).check.gateClosed = false ∧ (holding.lane .b).check.injMode = false ∧
      GateWrite.token 0 ∈ (holding.lane .b).held ∧ holding.bankOut 0 = true ∧
      GateWrite.token 1 ∉ (holding.lane .b).held ∧ holding.bankOut 2 = false ∧
      GateWrite.descriptor 0x014 5000 ⟨[], [], [], 0⟩ ∈ (holding.lane .b).held) ∧ (gateShut.lane .b).check.gateClosed = true ∧
    ((run.lane .b).svc ≠ .disabled ∧ Checker.aliveOk .sound = true) ∧
    (run.ms.mode = .run ∧ run.ms.voting = 7 ∧ (run.lane .b).svc = .inService ∧ (run.lane .b).check.injMode = false ∧
      Checker.aliveOk { Checker.sound with node := some 0 } = false) ∧
    (run.inTicks = true ∧ (run.lane .b).svc = .inService) ∧ (windowEnd.inTicks = true ∧ windowEnd.ms.tick.toNat % 1024 = 1023) ∧
    ((due.prf.lanes.get .b).dueNs = some 0 ∧ 0 ≤ due.nowNs) ∧ (run.lane .b).wdog.armed = false ∧
    ((wd 2 true).lane .b).wdog.armed = true ∧ ((wd 2 true).lane .b).wdog.served = true ∧
    ((wd 1 false).lane .b).wdog.fails < 2 ∧
    ((wd 2 false).lane .b).wdog.armed = true ∧ ((wd 2 false).lane .b).wdog.served = false ∧
    2 ≤ ((wd 2 false).lane .b).wdog.fails ∧ ((wd 2 false).lane .b).svc ≠ .disabled := by decide +kernel

/-- A cycle in which bit 0 of the leading cores' outputs is `v` and everything else 0. -/
def laneCycle (v : BitVec 346) : LaneCycle :=
  ⟨⟨v, 0, 0, 0, 0, none, none, false, false, 3⟩, ⟨0, 0, 0, 0, 0, none, none, false, false, 3⟩⟩

/-- R220, R221, R223: two cycles after it left the leading core, a difference of pair 0 is source 0x1, found in G0, bit 0. -/
theorem test_lockstep_delay :
    ((run.lane .b).runCycles .sound [laneCycle 1, laneCycle 0]).2 = none ∧
    ((run.lane .b).runCycles .sound [laneCycle 1, laneCycle 0, laneCycle 0]).2 = some (1, some ⟨false, 0, 0, 2⟩) := by decide +kernel

/-- R231: an injection sequence meets 4,220 bits; a bit to which comparator X of pair 0 is blind is missed in its two injections into X
and the two into both. -/
theorem test_injections :
    injTotal = 4220 ∧ Checker.misses .sound = 0 ∧
    Checker.misses { Checker.sound with x0 := ⟨none, 1⟩ } = 4 := by decide +kernel

/-- R235: two wrong bits, or the word of another address, cannot be corrected; one wrong bit is. -/
theorem test_ecc :
    EccRead.outcome ⟨.processor, 8, 8, 3⟩ = .uncorrectable ∧ EccRead.outcome ⟨.processor, 8, 16, 0⟩ = .uncorrectable ∧
    EccRead.outcome ⟨.processor, 8, 8, 4⟩ = .corrected := by decide +kernel

theorem witness_LanesAreReset :
    run.ms.mode = .run ∧ run.ms.voting = 7 ∧ run.aon.latch = false ∧ (run.lane .b).svc = .inService ∧
    (run.lane .b).check.injMode = false ∧
    (((run.lane .b).runCycles .sound [laneCycle 1, laneCycle 0, laneCycle 0]).2 = some (1, some ⟨false, 0, 0, 2⟩) ∧
      Checker.sound.gateOpen = false) ∧
    (((holding.lane .b).runCycles { Checker.sound with gateOpen := true } [laneCycle 1, laneCycle 0, laneCycle 0]).2 ≠ none ∧
      (holding.lane .b).held ≠ []) ∧
    (((run.lane .b).runCycles .sound []).2 = none ∧ EccRead.outcome ⟨.processor, 8, 8, 3⟩ = .uncorrectable) ∧
    EccRead.outcome ⟨.processor, 8, 8, 4⟩ = .corrected ∧
    (run.lane .b).svc ≠ .disabled ∧ lock5.sh.locks[(5 : Fin 64)].owner = BitVec.ofNat 4 Lane.b.num := by decide +kernel

/-- Lane B after a LANE reset, with a count of failed proofs; and lane B that requests a copy, that copies from lane A. -/
def inReset (fails : Nat) : State := twoVotes (withB run (fun x => { x with svc := .reset, proofFails := fails }))

def asking : State := twoVotes (withB run (fun x => { x with svc := .out, copyReq := true }))

/-- Lane B runs an image of another vector map from the bank that is not ACTIVE. -/
def askingOther : State := { withB asking (fun x => { x with runsNew := true }) with nvm := { asking.nvm with
  bank1 := some { img with hdr := { hdr with vmapId := 8 } } } }

def copying : State :=
  let s := twoVotes (withB run (fun x => { x with svc := .resync, donor := some .a }))
  { s with ms := { s.ms with role := .worker } }

/-- Parts that are equal have equal digests. -/
theorem copyEqual_of {s : State} {d : Lane} {copy : CopyObs} {got : List (Option (Nat × List DWord))}
    (hg : got = ((List.range (s.segments d).length).zip (s.segments d)).map
      (fun p => s.segmentTaken d copy (s.segments d).length p.1 p.2))
    (h : (got.all Option.isSome && ((List.range' 1 (s.copyParts d).length).zip (s.copyParts d)).all
      (fun p => copiedPart copy (got.filterMap id) p.1 == p.2)) = true) : s.copyEqual d copy = true := by
  subst hg
  simp only [State.copyEqual, Bool.and_eq_true, List.all_eq_true] at h ⊢
  exact ⟨h.1, fun p hp => by rw [eq_of_beq (h.2 p hp)]; exact beq_self_eq_true _⟩

theorem witness_LanesComeBack :
    ((inReset 0).lane .b).svc = .reset ∧ ((inReset 0).lane .b).hot = false ∧ (inReset 0).ms.mode = .run2 ∧
    (inReset 0).ms.mode ≠ .boot ∧ (inReset 0).ms.mode ≠ .prove ∧ (inReset 0).ms.mode ≠ .join ∧
    ((inReset 0).lane .b).check.injLock = false ∧ Checker.misses .sound = 0 ∧ ((inReset 0).lane .b).proofFails = 0 ∧
    ((inReset 1).lane .b).proofFails ≠ 0 ∧
    ((asking.lane .b).svc = .out ∧ (asking.lane .b).copyReq = true ∧ lanesOf asking.ms.voting = [.a, .c] ∧
      asking.vmapOf .a = asking.vmapOf .b) ∧
    ((askingOther.lane .b).svc = .out ∧ (askingOther.lane .b).copyReq = true ∧ lanesOf askingOther.ms.voting = [.a, .c] ∧
      askingOther.vmapOf .a ≠ askingOther.vmapOf .b) ∧
    (asking.exOk .request .b 0 (asking.requestBody .b) (asking.exBlock .request .b 0 (asking.requestBody .b)) = true ∧
      asking.exOk .request .b 0 (asking.requestBody .b) [] = false) ∧
    (copying.lane .b).svc = .resync ∧ (copying.lane .b).donor = some .a ∧ (copying.lane .a).svc = .inService ∧
    copying.copyEqual .a ⟨none, []⟩ = true ∧ copying.copyEqual .a ⟨none, [⟨0, []⟩]⟩ = false ∧
    (∃ p, (copying.segments .a)[0]? = some p ∧ copying.segmentOk .a (copying.segments .a).length 0 p [] = false) := by
  refine ⟨?_, ?_, ?_, ?_, ?_, ?_, ?_, ?_, ?_, ?_, ?_, ?_, ?_, ?_, ?_, ?_, copyEqual_of rfl ?_, ?_,
    ⟨_, rfl, by simp [State.segmentOk]⟩⟩ <;> decide +kernel

/-- Lane B withdrawn, its dissent steps to come. -/
def dissenting : State := { twoVotes (withB run (fun x => { x with svc := .withdrawn })) with
  prf := { run.prf with phase := .dissent, rpLane := 2, startTick := 4998 } }

/-- The same after its low step. -/
def dissentingHigh : State := { dissenting with prf := { dissenting.prf with stepDone := 1 } }

theorem no_false_result (side : Side) : ∀ c : Chan, dissenting.stepResult side (.all []) c ≠ some false := by
  cases side <;> decide +kernel

theorem no_false_result_high (side : Side) : ∀ c : Chan, dissentingHigh.stepResult side (.all []) c ≠ some false := by
  cases side <;> decide +kernel

theorem witness_RollingProofSteps :
    (due.mayProve .b = true ∧ due.aon.latch = false ∧ due.ms.voting = 7) ∧
    ((due.prf.lanes.get .b).due = true ∧ (due.prf.lanes.get .b).overdue = false ∧ (due.prf.lanes.get .b).dueNs = some 0 ∧
      0 + due.area.params.proofH * 1800000000000 ≤ due.nowNs) ∧
    (dissenting.prf.phase = .dissent ∧ dissenting.prf.stepDone = 0 ∧ tickGe dissenting.ms.tick (dissenting.prf.startTick + 1) = true ∧
      dissenting.provedLane = some .b ∧
      ∀ c : Chan, (dissenting.chan c).mode.isOut = true → dissenting.stepResult .low (.all []) c ≠ some false) ∧
    (dissentingHigh.prf.phase = .dissent ∧ dissentingHigh.prf.stepDone = 1 ∧
      tickGe dissentingHigh.ms.tick (dissentingHigh.prf.startTick + 2) = true ∧ dissentingHigh.provedLane = some .b ∧
      ∀ c : Chan, (dissentingHigh.chan c).mode.isOut = true → dissentingHigh.stepResult .high (.all []) c ≠ some false) :=
  ⟨by decide +kernel, by decide +kernel,
    ⟨by decide +kernel, by decide +kernel, by decide +kernel, by decide +kernel, fun c _ => no_false_result .low c⟩,
    by decide +kernel, by decide +kernel, by decide +kernel, by decide +kernel, fun c _ => no_false_result_high .high c⟩

def run2 : State := twoVotes run

/-- RUN-2 since time 0, two days long. -/
def run2Long : State := { run2 with
  ms := { run2.ms with run2Since := some 0 }, aon := { run2.aon with timeNs := 172800000000000 } }

theorem witness_LatchSetsWithItsCause :
    (run2.aon.latch = false ∧ run2.ms.mode = .run2 ∧ run2.pwr.phase = .normal ∧ run2.nvm.ready = true ∧
      ({ run2 with nvm := { run2.nvm with ready := false } } : State).nvm.ready = false ∧ run2.pwr.dom.getLsbD 2 = true) ∧
    (run2Long.aon.latch = false ∧ run2Long.ms.mode = .run2 ∧ run2Long.ms.run2Since = some 0 ∧
      0 < run2Long.area.params.run2LimitH ∧ 0 + 3600000000000 * run2Long.area.params.run2LimitH ≤ run2Long.nowNs ∧
      run2Long.ms.voting ≠ 0) := by decide +kernel

theorem witness_ExclusionsAndReflexTimeouts :
    (run.chan 2).mode.isIn = true ∧ run.leadK.ins[(2 : Chan)].excl.get .b = false ∧
    run.part.reflexAt 0 = some ⟨.timeout, true, 1, 0, 0, 5⟩ := by decide +kernel

/-! ### Hypotheses that hold together: power, resets, BOOT, PROVE, the tick -/

/-- A module without power history whose last latch record is this. -/
def lastLatch (r : LatchRec) : State := { run with nvm := { run.nvm with latchLog := ⟨[r], [], false⟩ } }

def cleared : State := { locked with aon := { locked.aon with latch := false } }

def latchRec (st : Byte) : LatchRec := { magic := latchMagic, seq := 1, stateByte := st, cause := 7, tick := 9, check := 0 }

theorem witness_ResetsOfTheBlock :
    run.nvm.latchLog.newest = none ∧
    ((lastLatch (latchRec 0x00).sealed).nvm.latchLog.newest = some (latchRec 0x00).sealed ∧ (latchRec 0x00).sealed.valid = true) ∧
    ((lastLatch (latchRec 0x5A).sealed).nvm.latchLog.newest = some (latchRec 0x5A).sealed ∧ (latchRec 0x5A).sealed.valid = true) ∧
    ((lastLatch (latchRec 0xFF)).nvm.latchLog.newest = some (latchRec 0xFF) ∧ (latchRec 0xFF).valid = false) ∧
    (∃ r, validRet run.nvm.retLog = some r) ∧
    run.pwr.phase = .normal ∧ run.ms.porHeld = false ∧ 10 ≤ 10 ∧ Lane.a ≠ Lane.c ∧ Lane.a.inMask run.acting = true ∧
    Lane.c.inMask run.acting = true ∧ cleared.ms.mode = .lockout ∧ cleared.aon.latch = false ∧ cleared.ms.porHeld = false ∧
    State.reset.ms.porHeld = true ∧
    ({ run with sh := { run.sh with locks := run.sh.locks.set 63 ⟨6, false⟩ } } : State).sh.locks[(63 : Fin 64)].owner = 6 := by
  refine ⟨by decide +kernel, by decide +kernel, by decide +kernel, by decide +kernel, Option.isSome_iff_exists.mp (by decide +kernel), ?_⟩
  decide +kernel

/-- BOOT with the image in bank 0, which is ACTIVE. -/
def booting (b : Option Image) : State := { State.reset with
  ms := { ModeSt.reset with porHeld := false }
  nvm := { State.reset.nvm with bank0 := b, rec0 := BankRec.blank.sealed } }

def proving : State := { run with
  ms := { run.ms with mode := .prove }
  lanes := .all { LaneSt.reset with loaded := true, regionOk := true } }

theorem witness_BootAndProve :
    ((booting (some img)).ms.mode = .boot ∧ (booting (some img)).ms.porHeld = false ∧ (booting (some img)).ms.bootFail = false ∧
      (booting (some img)).nvm.rec0.valid = true ∧ (booting (some img)).bankRec.state = .stable ∧
      (booting (some img)).aon.latch = false ∧ (booting (some img)).bankImg (booting (some img)).bankRec.active = some img ∧
      (booting (some img)).bootReason (some img) = 0 ∧ img.hdr.lcReq ≠ .retired ∧
      2 ≤ countMask (maskOf (fun l => (if (booting (some img)).bankRec.active then PerLane.all false else ⟨true, true, false⟩).get l))) ∧
    ((booting none).bankRec.state = .stable ∧ (booting none).bootReason (booting none).nvm.bank0 ≠ 0 ∧
      (booting none).bootReason (booting none).nvm.bank1 ≠ 0) ∧
    (proving.ms.mode = .prove ∧ proving.aon.latch = false ∧
      (∀ l : Lane, (proving.lane l).loaded = true ∧ (proving.lane l).svc ≠ .disabled ∧ (proving.lane l).hot = false ∧
        (proving.lane l).check.injLock = false) ∧
      Checker.misses .sound = 0 ∧ katMatches ⟨crc32c Config.katPacket, crc32 Config.katFrame⟩ = true ∧
      proving.net.fullSilent = false ∧
      ({ proving with net := { proving.net with fullSilent := true } } : State).net.fullSilent = true) :=
  ⟨by decide +kernel, by decide +kernel, by decide +kernel, by decide +kernel,
    all3 (by decide +kernel) (by decide +kernel) (by decide +kernel), by decide +kernel, by simp [katMatches], by decide +kernel,
    by decide +kernel⟩

/-- FIPS 180-4: SHA-384 of "abc" begins cb 00 75 3f. -/
theorem test_sha384 : (sha384 [0x61, 0x62, 0x63]).setWidth 32 = 0x3F7500CB#32 := by decide +kernel

/-- R436: a signature over another digest does not verify. -/
theorem test_signature : sigOk hdr.pubKey 1 hdr.sigR hdr.sigS = true ∧ sigOk hdr.pubKey 2 hdr.sigR hdr.sigS = false := by decide +kernel

def joining : State := { run with ms := { run.ms with mode := .join }, net := { run.net with state := .listen } }

theorem witness_TickEdgeBeginsTheNextTick :
    run.pwr.phase = .normal ∧ run.ms.porHeld = false ∧ run.ms.tUs ≠ 0 ∧ run.ms.mode = .run ∧ locked.ms.mode = .lockout ∧
    run2.ms.mode = .run2 ∧ joining.ms.mode = .join ∧ joining.net.state = .listen ∧ joining.ms.tUs ≠ 0 ∧ proving.ms.mode = .prove := by
  decide +kernel

def losing : State := { run with pwr := { run.pwr with phase := .essential }, aon := { run.aon with vholdAtLoss := true } }

theorem witness_PowerLossCommits :
    run.ms.porHeld = false ∧ run.pwr.phase = .normal ∧ losing.pwr.phase = .essential ∧ losing.aon.vholdAtLoss = true ∧
    losing.nvm.conv = none ∧ ∃ c, ({ losing with nvm := { losing.nvm with conv := some ⟨2, some none, none, none⟩ } } : State).nvm.conv =
      some c ∧ c.log = some none ∧ 1 < (2 : Fin 4).val :=
  ⟨by decide +kernel, by decide +kernel, by decide +kernel, by decide +kernel, by decide +kernel, ⟨_, rfl, rfl, by decide⟩⟩

/-- Two comparators report VHOLD while a bank is copied. -/
def held : State := { run with
  aon := { run.aon with vqual := ⟨true, true, false⟩ }, upd := { run.upd with copying := true, apply := .copying } }

def asleep : State := withB run (fun x => { x with lp := .l2 })

theorem witness_SuppliesSleepAndHeat :
    two run.aon.vqual = false ∧ two (({ run with aon := { run.aon with vqual := .all true } } : State).aon.vqual.set .b false) = true ∧
    held.upd.copying = true ∧ two held.aon.vqual = true ∧ two (held.aon.vqual.set .b false) = false ∧
    run.staysAwake .b = false ∧ 10000 ≤ run.ms.tUs.toNat ∧ 560 ≤ 560 ∧ 90 ≤ 559 ∧ 89 < 90 ∧ 13 ≤ 13 ∧ 12 ≤ 12 ∧
    (asleep.lane .b).lp ≠ .l0 ∧ asleep.pwr.dom.getLsbD 3 = true ∧ 125 < 126 ∧ 140 ≤ 140 ∧ 140 < 141 ∧
    (run.lane .b).svc ≠ .disabled := by decide +kernel

def monitors (slack : Nat) : AgeObs where
  lanes := .all ⟨.replicate 24 1000, (Vector.replicate 16 30).set 5 slack, .replicate 4 40⟩
  hubRo := .replicate 16 1000
  hubPdm := .replicate 8 30
  hubTemp := 40
  fields := .replicate 3 ⟨.replicate 8 1000, .replicate 4 30⟩
  eyeWidth := .replicate 4 0
  eyeHeightMv := .replicate 4 0
  switches := []

def slackOf (obs : AgeObs) : Nat := (lowest (obs.lanes.get .b).pdm.toList).1

def aDay : DailyRec :=
  ⟨.all 20, .all (0, 0), .all 8, 20, 0, 8, .replicate 3 20, .replicate 4 40, .replicate 7 0, .replicate 4 0, .replicate 4 0, 0⟩

def dayEnd : State := { due with prf := { due.prf with day := some aDay } }

theorem witness_MarginPlansAndDailyRecord :
    windowEnd.inTicks = true ∧ windowEnd.ms.tick.toNat % 1024 = 1023 ∧ (windowEnd.lane .b).svc.running = true ∧
    slackOf (monitors 9) < 10 ∧ (windowEnd.lane .b).plan.trim < 12 ∧
    10 ≤ slackOf (monitors 10) ∧ slackOf (monitors 15) < 16 ∧ windowEnd.fuses.commissioned = false ∧
    dayEnd.prf.day = some aDay ∧ dayEnd.prf.dayNs + 86400000000000 ≤ dayEnd.nowNs ∧ dayEnd.nvm.ageing.length < 89 := by decide +kernel

def inField : State := { run with fuses := { run.fuses with commissioned := true } }

def inRetired : State := { run with fuses := { run.fuses with retired := true } }

def testing : State := { locked with prf := { locked.prf with bistBusy := true, bistLast := 5 } }

theorem witness_KeyWriteAndSelfTest :
    (locked.fuses.retired = false ∧ locked.fuses.manufactured = true ∧ locked.fuses.commissioned = false ∧
      locked.ms.mode = .lockout ∧ locked.fuses.kek = none ∧
      ({ locked with fuses := { locked.fuses with kek := some 5 } } : State).fuses.kek ≠ none) ∧
    inField.lifeCycle = .field ∧ inRetired.lifeCycle = .retired ∧ run.lifeCycle = .commission ∧ run.ms.mode ≠ .lockout ∧
    (({ run with fuses := { run.fuses with manufactured := false } } : State).testOpen = true ∧
      ({ run with fuses := { run.fuses with manufactured := false } } : State).lifeCycle ≠ .commission) ∧
    locked.testOpen = true ∧ locked.pwr.dom.getLsbD 3 = true ∧ locked.prf.bistBusy = false ∧
    (locked.lane (bistLane locked.prf.bistBlock)).svc ≠ .disabled ∧
    testing.prf.bistBusy = true ∧ (testing.lane (bistLane testing.prf.bistLast)).svc ≠ .disabled := by decide +kernel

def high (stuck : Bool) (m : Mode) : State := { run with
  ms := { run.ms with mode := m }, rrq := { run.rrq with high := true, stuck := stuck } }

theorem witness_PulsesAreMeasured :
    run.rrq.high = false ∧ (high false .run).rrq.high = true ∧ (high false .run).rrq.stuck = false ∧
    (high true .run).rrq.stuck = true ∧ (high false .lockout).ms.mode ≠ .run ∧ (high false .lockout).ms.mode ≠ .run2 ∧
    49999 < 50000 ∧ (high false .run).ms.mode = .run ∧
    (run.inTicks = true ∧ (run.chan 5).ackInput = true ∧
      needOf run.acting ≤ ((lanesOf run.acting).filter (fun l =>
        decide (50000 ≤ (⟨50000, 2000000, 2000001⟩ : PerLane Nat).get l ∧
          (⟨50000, 2000000, 2000001⟩ : PerLane Nat).get l ≤ 2000000))).length) := by decide +kernel

/-- CH1 locked out since tick 4,000 with cause 7 in every lane. -/
def lockedOut : State :=
  runAt (region [] rec0 { LaneK.reset with outs := LaneK.reset.outs.set 0 { OutK.reset with lock := some ⟨7, 4000⟩ } })

def inHold : State := { run with ms := { run.ms with outHold := true, holdTick := 4000 } }

/-- A request that waits for the edge of the next tick. -/
def clearing (s : State) (o : ResetOrigin) (n : Tick) : State := { s with rrq := { s.rrq with clearNext := [(o, n, none)] } }

theorem witness_ResetRequestsClear :
    (locked.pwr.phase = .normal ∧ locked.ms.porHeld = false ∧ locked.ms.mode = .lockout ∧ locked.aon.latch = true ∧
      locked.nvm.ready = true ∧ ({ locked with nvm := { locked.nvm with ready := false } } : State).nvm.ready = false ∧
      0 < ((4001 : Tick) - locked.aon.latchTick).toInt ∧ ¬ 0 < ((4000 : Tick) - locked.aon.latchTick).toInt) ∧
    (run.pwr.phase = .normal ∧ run.ms.porHeld = false ∧ run.ms.mode = .run) ∧
    ((clearing inHold .rstreq 4001).rrq.clearNext = [(.rstreq, 4001, none)] ∧ (clearing inHold .rstreq 4001).ms.outHold = true ∧
      0 < ((4001 : Tick) - (clearing inHold .rstreq 4001).ms.holdTick).toInt) ∧
    ((clearing lockedOut (.twoStep (some 0)) 4001).rrq.clearNext = [(.twoStep (some 0), 4001, none)] ∧
      ((clearing lockedOut (.twoStep (some 0)) 4001).leadK.outs[(0 : Chan)]).lock = some ⟨7, 4000⟩) ∧
    (∀ l : Lane, l.inMask (clearing lockedOut (.twoStep (some 0)) 4001).running = true →
      (((clearing lockedOut (.twoStep (some 0)) 4001).lane l).region.k.outs[(0 : Chan)]).lock = some ⟨7, 4000⟩) :=
  ⟨by decide +kernel, by decide +kernel, by decide +kernel, by decide +kernel,
    all3 (by decide +kernel) (by decide +kernel) (by decide +kernel)⟩

/-! ### Hypotheses that hold together: requests, timers, boundary items -/

/-- A request of one step, and the confirm of an arm with SEQ 9 (R142, R145). -/
def req (target arg : BitVec 16) : Request := ⟨.secure 0, 1, 1, target, arg, 4990, 5010, 0, true, 10⟩

def conf (target arg : BitVec 16) : Request := ⟨.secure 0, 2, 1, target, arg, 4990, 5010, 9, true, 10⟩

/-- The arm that `conf` confirms, read 299 ticks of 10 ms before its tick's message. -/
def armed (code : Byte) (target arg : BitVec 16) : Arm := ⟨.secure 0, code, target, arg, 9, 4700⟩

/-- Element `id` and these arms, in every lane. -/
def elemAt (id : Nat) (e : Elem) (arms : List Arm) : State := runAt (region [(id, e)] rec0 { LaneK.reset with elemArms := arms })

theorem hears_of {s : State} {l : Lane} {c : Byte} {q : Request} {arm : Option Tick}
    (h : (s.inTicks && decide (s.acting ≠ 0) && l.inMask (s.running ||| s.acting) && (s.view l).area.elems.wf &&
      decide ((s.view l).common c q = 0) && decide (((s.view l).stage c q).2 = .act arm)) = true) : s.hears l c q arm := by
  simp only [Bool.and_eq_true, decide_eq_true_eq] at h
  obtain ⟨⟨⟨⟨⟨h1, h2⟩, h3⟩, h4⟩, h5⟩, h6⟩ := h
  exact ⟨⟨h1, h2, h3, h4⟩, h5, h6⟩

def proved (cmd det : BitVec 4) : Elem := { Elem.zero with status := .proved, cmd := cmd, det := det }

def pointAt : State := elemAt 2 (proved 1 1) []

def pointArmed : State := elemAt 2 { proved 1 1 with status := .blocked } [armed 0x02 2 2]

theorem witness_AcceptedCommandsMoveTheElement :
    (pointAt.hears .a 0x01 (req 2 2) none ∧ (pointAt.view .a).cfg? 2 = some (.point [] [] [] [] 100 []) ∧
      2 ∉ pointAt.mail.seenElem ∧ (pointAt.elemOf .a 2).locked = false ∧ (pointAt.elemOf .a 2).status ≠ .blocked ∧
      (pointAt.elemOf .a 2).timer = 0 ∧ (pointAt.view .a).sectionsClear [] false = true ∧
      ¬ ((pointAt.elemOf .a 2).cmd = 2 ∧ (pointAt.elemOf .a 2).det = 2 ∧ (pointAt.elemOf .a 2).status = .proved)) ∧
    (pointArmed.hears .a 0x02 (conf 2 2) (some 4700) ∧ (pointArmed.elemOf .a 2).locked = false ∧
      (pointArmed.elemOf .a 2).timer = 0 ∧ (pointArmed.view .a).sectionsClear [] true = true ∧
      ¬ ((pointArmed.elemOf .a 2).cmd = 2 ∧ (pointArmed.elemOf .a 2).det = 2)) ∧
    (∀ id ∈ [4, 5, 6], id ∉ (elemAt id (proved 0 0) []).mail.seenElem ∧ ((elemAt id (proved 0 0) []).elemOf .a id).locked = false ∧
      ((elemAt id (proved 0 0) []).elemOf .a id).status ≠ .blocked) ∧
    ((elemAt 6 (proved 0 0) []).hears .a 0x03 (req 6 1) none ∧
      ((elemAt 6 (proved 0 0) []).view .a).cfg? 6 = some (.movable [⟨0, .channel 2, true⟩, ⟨0, .channel 3, true⟩] none [] 100 [] []) ∧
      (1 : BitVec 16).toNat < [(⟨0, .channel 2, true⟩ : RoleIn), ⟨0, .channel 3, true⟩].length ∧
      ((elemAt 6 (proved 0 0) []).view .a).movableReady [] [] = true ∧ ((elemAt 6 (proved 0 0) []).elemOf .a 6).cmd ≠ 1) ∧
    ((elemAt 4 (proved 0 0) []).hears .a 0x04 (req 4 1) none ∧
      ((elemAt 4 (proved 0 0) []).view .a).cfg? 4 = some (.stop [] [] [] [] 50 []) ∧ ((elemAt 4 (proved 0 0) []).elemOf .a 4).cmd ≠ 1) ∧
    ((elemAt 5 (proved 0 0) []).hears .a 0x05 (req 5 1) none ∧
      ((elemAt 5 (proved 0 0) []).view .a).cfg? 5 = some (.gate [] [] none [] [] 50) ∧ ((elemAt 5 (proved 0 0) []).elemOf .a 5).cmd ≠ 1) := by
  refine ⟨⟨hears_of (by decide +kernel), ?_⟩, ⟨hears_of (by decide +kernel), ?_⟩, by decide +kernel,
    ⟨hears_of (by decide +kernel), ?_⟩, ⟨hears_of (by decide +kernel), ?_⟩, hears_of (by decide +kernel), ?_⟩ <;> decide +kernel

def blocked : Elem := { Elem.zero with status := .blocked, lock := .maintenance }

def disturbed : State := elemAt 1 { Elem.zero with status := .disturbed } [armed 0x08 1 0]

/-- The zone with the flag of its condition set. -/
def zoneAt (e : Elem) (arms : List Arm) : State :=
  runAt (region [(7, e), (10, { Elem.zero with det := 1, cmd := 1 })] rec0 { LaneK.reset with elemArms := arms })

theorem witness_GuardRequestsSetTheElement :
    (pointAt.hears .a 0x06 (req 2 0) none ∧ classOk 0x06 (.point [] [] [] [] 100 []) = true ∧ 2 ∉ pointAt.mail.seenElem ∧
      (pointAt.elemOf .a 2).status ≠ .blocked ∧ (pointAt.elemOf .a 2).locked = false) ∧
    ((elemAt 3 (proved 1 0) []).hears .a 0x06 (req 3 0) none ∧
      ((elemAt 3 (proved 1 0) []).view .a).cfg? 3 = some (.signal [(0, []), (1, [])] 4) ∧
      classOk 0x06 (.signal [(0, []), (1, [])] 4) = true) ∧
    ((elemAt 2 blocked []).hears .a 0x06 (req 2 0) none ∧ ((elemAt 2 blocked []).elemOf .a 2).status = .blocked) ∧
    ((elemAt 2 blocked [armed 0x07 2 0]).hears .a 0x07 (conf 2 0) (some 4700) ∧
      classOk 0x07 (.point [] [] [] [] 100 []) = true ∧ ((elemAt 2 blocked [armed 0x07 2 0]).elemOf .a 2).status = .blocked) ∧
    (disturbed.hears .a 0x08 (conf 1 0) (some 4700) ∧ (disturbed.view .a).cfg? 1 = some (.trackSection [.detector 9] 10 .direct) ∧
      (disturbed.elemOf .a 1).status = .disturbed ∧ (disturbed.view .a).countDets [.detector 9] = [9] ∧
      ∀ d, d ∈ (disturbed.view .a).countDets [.detector 9] → (disturbed.elemOf .a d).cmd = 0 ∧ (disturbed.elemOf .a d).phase2 = 0) ∧
    ((zoneAt (proved 0 0) [armed 0x09 7 0]).hears .a 0x09 (conf 7 0) (some 4700) ∧
      ((zoneAt (proved 0 0) [armed 0x09 7 0]).view .a).cfg? 7 = some (.zone [] [] [] none [] 50 (some 10) []) ∧
      ((zoneAt (proved 0 0) [armed 0x09 7 0]).elemOf .a 7).cmd ≠ 1 ∧ ((zoneAt (proved 0 0) [armed 0x09 7 0]).elemOf .a 7).det = 0 ∧
      (((zoneAt (proved 0 0) [armed 0x09 7 0]).view .a).aux 7).stopTick = none) ∧
    ((zoneAt (proved 0 0) []).hears .a 0x0A (req 7 1) none ∧ ((zoneAt (proved 0 0) []).view .a).condSet (some 10) = true ∧
      ((zoneAt (proved 0 0) []).elemOf .a 7).cmd = 0 ∧ ((zoneAt (proved 0 0) []).elemOf .a 7).timer = 0) ∧
    ((zoneAt (proved 2 0) []).hears .a 0x0A (req 7 0) none ∧ ((zoneAt (proved 2 0) []).elemOf .a 7).cmd ≠ 0) ∧
    ((elemAt 3 { Elem.zero with status := .failed } [armed 0x0B 3 0]).hears .a 0x0B (conf 3 0) (some 4700) ∧
      ((elemAt 3 { Elem.zero with status := .failed } [armed 0x0B 3 0]).elemOf .a 3).status = .failed) ∧
    ((elemAt 10 (proved 1 1) []).hears .a 0x0C (req 10 0) none ∧
      ((elemAt 10 (proved 1 1) []).view .a).cfg? 10 = some (.block false true none) ∧
      ((elemAt 10 (proved 1 1) []).elemOf .a 10).cmd ≠ 0) ∧
    ((elemAt 10 (proved 0 0) [armed 0x0C 10 1]).hears .a 0x0C (conf 10 1) (some 4700) ∧
      ((elemAt 10 (proved 0 0) [armed 0x0C 10 1]).elemOf .a 10).cmd ≠ 1) := by
  refine ⟨⟨hears_of (by decide +kernel), ?_⟩, ⟨hears_of (by decide +kernel), ?_⟩, ⟨hears_of (by decide +kernel), ?_⟩,
    ⟨hears_of (by decide +kernel), ?_⟩, ⟨hears_of (by decide +kernel), ?_⟩, ⟨hears_of (by decide +kernel), ?_⟩,
    ⟨hears_of (by decide +kernel), ?_⟩, ⟨hears_of (by decide +kernel), ?_⟩, ⟨hears_of (by decide +kernel), ?_⟩,
    ⟨hears_of (by decide +kernel), ?_⟩, hears_of (by decide +kernel), ?_⟩ <;> decide +kernel

/-- Route 1 in a state, with this arm. -/
def routeAt (st : RState) (arms : List Arm) : State :=
  runAt (region [] { rec0 with state := st, timer := 4 } { LaneK.reset with routeArms := arms })

/-- Route 1 has moved in the tick already. -/
def movedOnce : State := { run with mail := { run.mail with movedRoute := [1] } }

theorem witness_RouteRequestsMoveTheRoute :
    (1 ∉ run.mail.seenRoute ∧ 1 ∉ run.mail.movedRoute ∧ (run.view .a).area.routes.get? 1 = some routeCfg) ∧
    (movedOnce.hears .a 0x20 (req 1 0) none ∧ 1 ∈ movedOnce.mail.movedRoute ∧ 1 ∉ movedOnce.mail.seenRoute ∧ movedOnce.lead = .a ∧
      (movedOnce.routeOf .a 1).state = .idle) ∧
    (run.hears .a 0x20 (req 1 0) none ∧ (run.routeOf .a 1).state = .idle) ∧
    ((routeAt .requested []).hears .a 0x21 (req 1 0) none ∧ ((routeAt .requested []).routeOf .a 1).state = .requested) ∧
    ((routeAt .cleared []).hears .a 0x21 (req 1 0) none ∧ ((routeAt .cleared []).routeOf .a 1).state = .cleared ∧
      ((routeAt .cleared []).view .a).approachFree routeCfg = false) ∧
    ((routeAt .entered [armed 0x22 1 0]).hears .a 0x22 (conf 1 0) (some 4700) ∧
      ((routeAt .entered [armed 0x22 1 0]).routeOf .a 1).state = .entered) := by
  refine ⟨by decide +kernel, ⟨hears_of (by decide +kernel), ?_⟩, ⟨hears_of (by decide +kernel), ?_⟩,
    ⟨hears_of (by decide +kernel), ?_⟩, ⟨hears_of (by decide +kernel), ?_⟩, hears_of (by decide +kernel), ?_⟩ <;> decide +kernel

/-- Vehicle 3, whose last report was measured in tick `n`. -/
def vehicle (n : Tick) : AuthRec :=
  ⟨.frozen, 0, false, false, true, 255, 0, 1, 0, 0, 0, 0, 0, n, n, false, 1, 0, 7⟩

def silentVehicle : State :=
  runAt { region [] rec0 { LaneK.reset with routeArms := [armed 0x30 3 0] } with auths := [(3, vehicle 4989)] }

/-- The point lent over slot 1, its neighbour silent. -/
def lent : State := runAt (region [(2, { proved 1 1 with lock := .boundary, owner := 1 })] rec0
  { LaneK.reset with routeArms := [armed 0x23 1 0] })

theorem witness_VehicleRemoveAndBoundaryRelease :
    (silentVehicle.hears .a 0x30 (conf 3 0) (some 4700) ∧ 3 ∉ silentVehicle.mail.seenVeh ∧
      (silentVehicle.lane .a).region.auths.get? 3 = some (vehicle 4989) ∧
      (silentVehicle.view .a).area.auth.maxAge < (silentVehicle.ms.tick - (vehicle 4989).measTick).toNat) ∧
    (lent.hears .a 0x23 (conf 1 0) (some 4700) ∧ 1 ∉ lent.mail.seenSlot ∧
      (lent.view .a).area.slots.get? 1 = some ⟨0, 1, .lent 2⟩ ∧
      (lent.view .a).cfg? 2 = some (.point [] [] [] [] 100 []) ∧ (lent.view .a).heard 0 = false ∧
      (lent.elemOf .a 2).lock = .boundary ∧ (lent.elemOf .a 2).owner.toNat = 1) := by
  refine ⟨⟨hears_of (by decide +kernel), ?_⟩, hears_of (by decide +kernel), ?_⟩ <;> decide +kernel

/-- The module with this reset arm in every lane. -/
def resetArmed (s : State) (code : Byte) (target : BitVec 16) : State := { s with
  lanes := .all { s.lanes.a with region := region [] rec0 { LaneK.reset with resetArm := some (armed code target 0) } } }

def unlocking : State := { runAt (region [] rec0 { LaneK.reset with lockArm := some (armed 0x41 0 0) }) with
  nvm := { run.nvm with rec0 := BankRec.sealed { BankRec.blank with ownerLock := true } } }

def twoGalleries : State := { run with gal := { run.gal with
  gals := .replicate 8 { Gallery.reset with state := .valid } } }

theorem witness_ModuleRequests :
    (run.lead = .a ∧ (resetArmed run 0x38 0).lead = .a ∧ (resetArmed locked 0x38 0).lead = .a) ∧
    ((resetArmed run 0x38 0).hears .a 0x38 (conf 0 0) (some 4700) ∧ (resetArmed run 0x38 0).ms.mode = .run) ∧
    ((resetArmed locked 0x38 0).hears .a 0x38 (conf 0 0) (some 4700) ∧ (resetArmed locked 0x38 0).ms.mode = .lockout ∧
      (resetArmed locked 0x38 0).aon.latch = true ∧ 0 < ((4700 : Tick) - (resetArmed locked 0x38 0).aon.latchTick).toInt) ∧
    ((resetArmed run 0x39 2).hears .a 0x39 (conf 2 0) (some 4700) ∧ (2 : BitVec 16).toNat = (1 : Chan).val + 1 ∧
      (resetArmed run 0x39 2).ms.mode = .run ∧ (resetArmed run 0x39 2).aon.latch = false) ∧
    (twoGalleries.hears .a 0x40 (req 0 7) none ∧ (twoGalleries.gal.gals[(7 : Fin 8)]).state = .valid ∧ twoGalleries.gal.sw = none ∧
      twoGalleries.gal.pending = none ∧ twoGalleries.gal.active ≠ 7 ∧
      (req 0 7).arg.toNat = (7 : Fin 8).val ∧ (req 0 7).kind = 1 ∧ twoGalleries.lead = .a) ∧
    (run.hears .a 0x41 (req 0 1) none ∧ run.bankRec.ownerLock ≠ true) ∧
    (unlocking.hears .a 0x41 (conf 0 0) (some 4700) ∧ unlocking.bankRec.ownerLock ≠ false) := by
  refine ⟨by decide +kernel, ⟨hears_of (by decide +kernel), ?_⟩, ⟨hears_of (by decide +kernel), ?_⟩,
    ⟨hears_of (by decide +kernel), ?_⟩, ⟨hears_of (by decide +kernel), ?_⟩, ⟨hears_of (by decide +kernel), ?_⟩,
    hears_of (by decide +kernel), ?_⟩ <;> decide +kernel

theorem evaluates_of {s : State} {l : Lane}
    (h : (s.inTicks && decide (s.acting ≠ 0) && l.inMask (s.running ||| s.acting) && (s.view l).area.elems.wf) = true) :
    s.evaluates l := by
  simp only [Bool.and_eq_true, decide_eq_true_eq] at h
  exact ⟨h.1.1.1, h.1.1.2, h.1.2, h.2⟩

def moving (id : Nat) : State := elemAt id { Elem.zero with status := .unproved, cmd := 1, timer := 1 } []

def releasing : State := runAt (region [] { rec0 with state := .cancelling, emerg := true, timer := 1 } LaneK.reset)

theorem witness_TimersExpire :
    (moving 2).evaluates .c ∧ releasing.evaluates .c ∧ (routeAt .requested []).evaluates .c ∧ (routeAt .checking []).evaluates .c ∧
    ((moving 2).area.elems.get? (2 : BitVec 15).toNat ≠ none ∧ ((moving 2).view .c).cfg? 2 = some (.point [] [] [] [] 100 []) ∧
      0 < ((moving 2).elemOf .c 2).timer ∧ ((moving 2).elemOf .c 2).status = .unproved ∧
      ((moving 2).elemOf .c 2).det ≠ ((moving 2).elemOf .c 2).cmd ∧ ((moving 2).elemOf .c 2).cmd ≠ 0 ∧
      ((moving 2).elemOf .c 2).det ≠ 3) ∧
    ((moving 3).evaluates .c ∧ ((moving 3).view .c).cfg? 3 = some (.signal [(0, []), (1, [])] 4) ∧
      ((moving 3).elemOf .c 3).status = .unproved ∧ ((moving 3).elemOf .c 3).det ≠ ((moving 3).elemOf .c 3).cmd) ∧
    ((releasing.view .c).area.routes.get? 1 = some routeCfg ∧ (releasing.routeOf .c 1).timer ≠ 0 ∧
      (releasing.routeOf .c 1).state = .cancelling ∧ (releasing.routeOf .c 1).emerg = true) ∧
    (((elemAt 1 { proved 1 1 with timer := 1 } []).view .c).cfg? 1 = some (.trackSection [.detector 9] 10 .direct) ∧
      0 < ((elemAt 1 { proved 1 1 with timer := 1 } []).elemOf .c 1).timer ∧
      ((elemAt 1 { proved 1 1 with timer := 9 } []).elemOf .c 1).timer < 10 ∧
      (∀ d, SecSrc.detector d ∈ [SecSrc.detector 9] → d = 9) ∧ ((elemAt 1 { proved 1 1 with timer := 9 } []).elemOf .c 9).det = 0 ∧
      10 ≤ ((elemAt 1 { proved 1 1 with timer := 10 } []).elemOf .c 1).timer ∧
      ((elemAt 9 (proved 0 1) []).elemOf .c 9).det ≠ 0 ∧
      ((elemAt 9 { proved 0 0 with timer := 3 } []).view .c).cfg? 9 = some (.detCount []) ∧
      0 < ((elemAt 9 { proved 0 0 with timer := 3 } []).elemOf .c 9).timer) ∧
    (1 ∉ releasing.mail.movedRoute ∧ 1 ∉ (routeAt .requested []).mail.movedRoute ∧ 1 ∉ (routeAt .checking []).mail.movedRoute) ∧
    (((routeAt .requested []).routeOf .c 1).timer ≠ 0 ∧ ((routeAt .requested []).routeOf .c 1).state = .requested) ∧
    (((routeAt .checking []).routeOf .c 1).state = .checking ∧
      ((routeAt .checking []).view .c).allGranted routeCfg ((routeAt .checking []).routeOf .c 1) = false ∧
      (((routeAt .checking []).view .c).area.params.grantWait : Int) ≤
        ((routeAt .checking []).ms.tick - ((routeAt .checking []).routeOf .c 1).stateTick).toInt ∧
      ((5000 : Tick) - 5000).toInt < (((routeAt .checking []).view .c).area.params.grantWait : Int)) := by
  refine ⟨evaluates_of (by decide +kernel), evaluates_of (by decide +kernel), evaluates_of (by decide +kernel),
    evaluates_of (by decide +kernel), ?_, ⟨evaluates_of (by decide +kernel), ?_⟩, ?_,
    ⟨?_, ?_, ?_, by simp, ?_, ?_, ?_, ?_, ?_⟩, ?_, ?_, ?_⟩ <;> decide +kernel

/-- A proxy of slot 2 that waits in the checking route 1. -/
def asked : State := runAt (region [(11, { Elem.zero with lock := .route, owner := 1 })] { rec0 with state := .checking } LaneK.reset)

def proxyHeld : State := runAt (region [(11, { Elem.zero with lock := .boundary, owner := 2 })] rec0 LaneK.reset)

def item (slot : BitVec 11) (req : BitVec 4) (route : BitVec 16) : BndItem := ⟨slot, 0, req, 0, route⟩

def blockedPoint : State := elemAt 2 { Elem.zero with status := .blocked } []

/-- The neighbour has been silent for 15 ticks. -/
def quiet : State := runAt (region [] rec0 { LaneK.reset with peers := .replicate 16 ⟨none, 15, false⟩ })

theorem witness_BoundaryItems :
    (pointAt.evaluates .b ∧ (pointAt.view .b).area.slots.get? 1 = some ⟨0, 1, .lent 2⟩ ∧ (pointAt.view .b).cfg? 2 =
      some (.point [] [] [] [] 100 []) ∧ (ClassCfg.point [] [] [] [] 100 []).code ≠ 3 ∧
      topCommand (.point [] [] [] [] 100 []) = some 2 ∧ (2 : BitVec 4).toNat ≤ 2 ∧ 2 < (3 : BitVec 4).toNat ∧
      (pointAt.elemOf .b 2).lock = .none ∧ (pointAt.elemOf .b 2).status ≠ .blocked ∧
      (pointAt.elemOf .b 2).status ≠ .failed ∧ (pointAt.view .b).flankHolders 2 = [] ∧ (pointAt.view .b).precondition 2 2 = 0) ∧
    (blockedPoint.evaluates .b ∧ (blockedPoint.elemOf .b 2).lock = .none ∧ (blockedPoint.elemOf .b 2).status = .blocked) ∧
    (lent.evaluates .b ∧ (lent.elemOf .b 2).lock = .boundary ∧ (lent.elemOf .b 2).owner.toNat = 1) ∧
    (proxyHeld.evaluates .b ∧ (proxyHeld.view .b).area.slots.get? 2 = some ⟨0, 2, .proxy 11⟩ ∧
      (proxyHeld.view .b).cfg? 11 = some (.boundary 2 2) ∧ (proxyHeld.elemOf .b 11).lock = .boundary) ∧
    (asked.evaluates .b ∧ 1 ∉ asked.mail.movedRoute ∧ (asked.elemOf .b 11).lock = .route ∧
      (asked.elemOf .b 11).owner.toNat = (item 2 1 1).route.toNat ∧
      (asked.view .b).area.routes.get? 1 = some routeCfg ∧ (asked.routeOf .b 1).state = .checking ∧
      (asked.view .b).proxyIdx routeCfg 11 < 8 ∧ routeCfg.reqOf 11 = some (item 2 1 1).reqVal ∧
      ((asked.view .b).proxies routeCfg).length = 1) ∧
    (quiet.evaluates .b ∧ (0 : Fin 16).val < quiet.area.areas.length ∧ 15 ≤ ((quiet.lane .b).region.k.peers[(0 : Fin 16)]).missing ∧
      ((quiet.lane .b).region.k.peers[(0 : Fin 16)]).lost = false ∧
      ((quiet.lane .b).region.k.peers[(0 : Fin 16)]).lastFrame ≠ some quiet.ms.tick) ∧
    (run.evaluates .b ∧ ((run.lane .b).region.k.peers[(0 : Fin 16)]).missing < 15) := by
  refine ⟨⟨evaluates_of (by decide +kernel), ?_⟩, ⟨evaluates_of (by decide +kernel), ?_⟩, ⟨evaluates_of (by decide +kernel), ?_⟩,
    ⟨evaluates_of (by decide +kernel), ?_⟩, ⟨evaluates_of (by decide +kernel), ?_⟩, ⟨evaluates_of (by decide +kernel), ?_⟩,
    evaluates_of (by decide +kernel), ?_⟩ <;> decide +kernel

/-- R371, R373, R374: what the boundary items leave: the lent point's lock, the route's state, the freed locks. -/
theorem test_boundary_items :
    (match exec (.boundaryLockItem (item 1 2 7)) pointAt with
      | .next t => ((t.elemOf .b 2).lock, (t.elemOf .b 2).owner, (t.elemOf .b 2).cmd) | _ => (.none, 0, 0)) = (.boundary, 1, 2) ∧
    (match exec (.boundaryGrantedItem (item 2 1 1)) asked with
      | .next t => (t.routeOf .b 1).state | _ => .idle) = .locked ∧
    (match exec (.boundaryRefusedItem (item 2 1 1)) asked with
      | .next t => ((t.routeOf .b 1).state, (t.routeOf .b 1).reason) | _ => (.idle, 0)) = (.rejected, 0x5D) ∧
    (match exec (.boundaryReleaseItem (item 2 1 1) 0x8) proxyHeld with
      | .next t => (t.elemOf .b 11).lock | _ => .route) = .none ∧
    (match exec (.boundaryReleaseItem (item 1 2 7) 0x0) lent with
      | .next t => (t.elemOf .b 2).lock | _ => .route) = .none := by decide +kernel

/-! ### Hypotheses that hold together: the link -/

/-- An entry word of a kind (0 END to 6) with its ID, 800 ns after the edge, for a frame of 4 × `nq` bytes. -/
def entry (kind id nq : Nat) : DWord := fields64 [(61, kind), (48, id), (34, nq), (0, 100)]

/-- Port 0: a received stream, an own stream 0x101, a bridge slot of group 3, the cycle start, the link window. -/
def slots : AMap DWord := [(0, entry 2 0x100 16), (1, entry 1 0x101 16), (2, entry 4 3 20), (3, entry 6 0 16), (4, entry 5 0 16)]

def onAir : State := { run with gal := { run.gal with gals := run.gal.gals.set 0 { Gallery.reset with
  state := .valid, guard := 100, tables := (Vector.replicate 4 []).set 0 slots } } }

/-- A SAFE frame of node 5 without FCS: 20 bytes of payload, the safety block of tick 4,999. -/
def safeBody : List Byte :=
  headBytes 0x10 false 5 0 0x100 20 8 0x10 ++ List.replicate 20 0 ++ leBytes 4 1 ++ leBytes 4 4999 ++ List.replicate 16 0

def safeFrame (dev : Int) : RxFrame := ⟨0, 0, 800 + dev, 656, withFcs safeBody⟩

def corrupt : RxFrame := ⟨0, 0, 0, 640, safeBody ++ [1, 2, 3, 4]⟩

/-- Two forwarded frames of the tick have been cut off. -/
def lateTwice : State := { onAir with net := { onAir.net with fwdLate := 2 } }

theorem witness_SafeFramesAreDeliveredOnce :
    (onAir.portOpen (safeFrame 0).port = true ∧ stripFcs (safeFrame 0).bytes = some safeBody ∧
      (Frame.ofBytes safeBody).type = 0x10 ∧ safeBody.length = frameLen safeBody ∧
      onAir.knownArea (Frame.ofBytes safeBody).area = true ∧ entryKind (onAir.slotEntry 0 0) = .rx ∧
      (safeFrame 400).ofsNs - onAir.expectedNs 0 (onAir.slotEntry 0 0) = 400 ∧ onAir.inAccept 0 0 400 = true ∧ (Frame.ofBytes safeBody).src ≠ onAir.node ∧
      ((Frame.ofBytes safeBody).key, (Frame.ofBytes safeBody).tick) ∉ onAir.buf.rxSeen ∧
      onAir.otherPort 0 = some 1 ∧ onAir.portOpen 1 = true ∧ (onAir.portCfg 1).nbr ≠ (Frame.ofBytes safeBody).src ∧
      (Int.ofNat (safeFrame 0).resNs - 640).natAbs ≤ 16) ∧
    (16 < (Int.ofNat 657 - 640).natAbs ∧ onAir.net.fwdLate ≠ 2 ∧ lateTwice.net.fwdLate = 2 ∧ lateTwice.net.fullSilent = false ∧
      lateTwice.pwr.dom.getLsbD 2 = true) ∧
    (onAir.inAccept 0 0 401 = false) ∧
    (stripFcs corrupt.bytes = none ∧ onAir.net.state ≠ .coldstart ∧
      ({ onAir with net := { onAir.net with state := .coldstart } } : State).portOpen corrupt.port = true) := by decide +kernel

def chamberBody : List Byte := headBytes 0x11 false 5 0xFFF 3 60 0 0x10 ++ safeBody

def updBody (dst : BitVec 12) : List Byte :=
  headBytes 0x20 false 5 dst 0x200 68 0 0x10 ++ recBytes 0x0C 0 [List.replicate 64 0]

/-- A state that has received this frame of the tick. -/
def heardBefore (s : State) (key : Nat × Tick) : State := { s with buf := { s.buf with rxSeen := [key] } }

theorem witness_ChambersAndBulkFrames :
    (onAir.portOpen 0 = true ∧ entryKind (onAir.slotEntry 0 0) = .rx ∧ onAir.inAccept 0 0 0 = true ∧
      (safeFrame 0).ofsNs - onAir.expectedNs 0 (onAir.slotEntry 0 0) = 0) ∧
    (stripFcs (withFcs chamberBody) = some chamberBody ∧ (Frame.ofBytes chamberBody).type = 0x11 ∧
      chamberBody.length = frameLen chamberBody ∧ onAir.knownArea (Frame.ofBytes chamberBody).area = true ∧
      (Frame.ofBytes chamberBody).src ≠ onAir.node ∧
      innerFrames chamberBody.length (Frame.ofBytes chamberBody).payload = ([safeBody], false) ∧
      onAir.addressed (Frame.ofBytes safeBody).dst = true ∧ onAir.ownFrame (Frame.ofBytes safeBody) = false ∧
      ((Frame.ofBytes safeBody).key, (Frame.ofBytes safeBody).tick) ∉ onAir.buf.rxSeen) ∧
    (stripFcs (withFcs (updBody 7)) = some (updBody 7) ∧ (Frame.ofBytes (updBody 7)).type = 0x20 ∧
      (updBody 7).length = frameLen (updBody 7) ∧ (Frame.ofBytes (updBody 7)).dst ≠ onAir.node ∧
      (Frame.ofBytes (updBody 7)).dst ≠ 0xFFF ∧ (Frame.ofBytes (updBody 7)).src ≠ onAir.node ∧
      onAir.knownArea (Frame.ofBytes (updBody 7)).area = true) ∧
    (stripFcs (withFcs (updBody 0xFFF)) = some (updBody 0xFFF) ∧ (Frame.ofBytes (updBody 0xFFF)).dst = 0xFFF ∧
      (Frame.ofBytes (updBody 0xFFF)).records.bind updItems = some [⟨0, 0, List.replicate 56 0, none⟩] ∧
      ((Frame.ofBytes (updBody 0xFFF)).key, onAir.ms.tick) ∉ onAir.buf.rxSeen ∧
      ((Frame.ofBytes (updBody 0xFFF)).key, onAir.ms.tick) ∈
        (heardBefore onAir ((Frame.ofBytes (updBody 0xFFF)).key, onAir.ms.tick)).buf.rxSeen) := by decide +kernel

def sealedA : Sealed := ⟨headBytes 0x10 false 0 0xFFF 0x101 20 8 0x10, List.replicate 20 0, List.replicate 12 0, 7⟩

def sealedFrame (c : Option Sealed) : TxFrame := ⟨0x101, 5000, ⟨some sealedA, some { sealedA with code := 8 }, c⟩, false⟩

def sending : State := { onAir with buf := { onAir.buf with tx := [sealedFrame none], bridge := [(3, safeBody)] } }

/-- Stream 0x101 is a BULK stream of one item per tick, with a chunk held or none. -/
def distributing (held : Bool) : State := { onAir with
  nvm := { onAir.nvm with stageTag := some 7, staging := if held then [(0, List.replicate 56 1)] else [] }
  upd := { onAir.upd with stage := .receiving, img := some { img with parts := [(0, { part with
    streams := [⟨.bulk 0xFFF 1, 0x101, 1⟩] })] } } }

theorem whole_of {s : State} {e : DWord} {dev : Int} {n : Nat}
    (h : (s.inWindow e dev && decide (Int.ofNat (lineTime n) + 10 * dev ≤ s.windowEnd e)) = true) : WholeInWindow s e dev n := by
  simp only [Bool.and_eq_true, decide_eq_true_eq] at h
  exact h

/-- The link of port 0 has been measured in this tick window. -/
def measured : State := { onAir with net := { onAir.net with ports := onAir.net.ports.set 0 { onAir.net.ports[(0 : Port)] with
  fresh := true } } }

theorem witness_SlotsSendWhatTwoLanesSealed :
    (sending.net.state = .sync ∧ sending.portOpen 0 = true ∧ sending.pair.idOk = true ∧ entryKind (sending.slotEntry 0 1) = .tx ∧
      (sending.part.streams.find? (fun x => x.stream == entryStream (sending.slotEntry 0 1)) = none) ∧
      sending.buf.tx.find? (fun x => x.stream == entryStream (sending.slotEntry 0 1) && x.tick == sending.ms.tick) =
        some (sealedFrame none) ∧ sending.storeFull (sealedFrame none) = false ∧ (sealedFrame none).choose = some (sealedA, 3)) ∧
    WholeInWindow sending (sending.slotEntry 0 1) 200 (sending.frameBytes (sealedFrame none) sealedA 3 (sending.dirOf 0)).length ∧
    (sending.inWindow (sending.slotEntry 0 1) 201 = true ∧ sending.windowEnd (sending.slotEntry 0 1) <
      Int.ofNat (lineTime (sending.frameBytes (sealedFrame none) sealedA 3 (sending.dirOf 0)).length) + 10 * 201) ∧
    (∀ x, x ∈ onAir.buf.tx → x.stream = entryStream (onAir.slotEntry 0 1) → x.tick ≠ onAir.ms.tick) ∧
    (sending.inWindow (sending.slotEntry 0 1) (-201) = false ∧ sending.net.blockedTick ≠ 2 ∧
      ({ sending with net := { sending.net with blockedTick := 2 } } : State).net.blockedTick = 2 ∧
      sending.net.fullSilent = false ∧ sending.pwr.dom.getLsbD 2 = true) ∧
    ({ sending with pair := { sending.pair with idOk := false } } : State).pair.idOk = false ∧
    ((distributing true).part.streams.find? (fun x => x.stream == entryStream ((distributing true).slotEntry 0 1)) =
        some ⟨.bulk 0xFFF 1, 0x101, 1⟩ ∧ entryKind ((distributing true).slotEntry 0 1) = .tx ∧
      (distributing true).net.state = .sync ∧ (distributing true).portOpen 0 = true ∧ (distributing true).pair.idOk = true ∧
      (distributing true).bulkItems 1 ≠ [] ∧ (distributing false).bulkItems 1 = []) ∧
    WholeInWindow (distributing true) ((distributing true).slotEntry 0 1) 0 ((distributing true).bulkFrame 0
      ((distributing true).slotEntry 0 1) ⟨.bulk 0xFFF 1, 0x101, 1⟩ 0xFFF ((distributing true).bulkItems 1)).length ∧
    (entryKind (onAir.slotEntry 0 4) = .link ∧ onAir.delayOpen 0 = true ∧ onAir.initiates 0 false = true ∧ onAir.measures 0 = true ∧
      measured.measures 0 = false) ∧ WholeInWindow onAir (onAir.slotEntry 0 4) 0 64 ∧
    (entryKind (sending.slotEntry 0 2) = .brg ∧
      (sending.buf.bridge.filter (fun x => x.1 == entryGroup (sending.slotEntry 0 2))).map (fun x => x.2) = [safeBody] ∧
      ∀ x, x ∈ onAir.buf.bridge → x.1 ≠ entryGroup (onAir.slotEntry 0 2)) ∧
    WholeInWindow sending (sending.slotEntry 0 2) 0 (withFcs (stampHead (headBytes 0x11 sending.standby sending.node 0xFFF
      (BitVec.ofNat 12 (entryGroup (sending.slotEntry 0 2))) safeBody.length 1 sending.areaId)
      (sending.dirOf 0) sending.gal.active.val ++ safeBody)).length ∧
    entryKind (onAir.slotEntry 0 0) ≠ .tx ∧ entryKind (onAir.slotEntry 0 0) ≠ .link ∧ entryKind (onAir.slotEntry 0 0) ≠ .brg :=
  ⟨by decide +kernel, whole_of (by decide +kernel), by decide +kernel, by decide +kernel, by decide +kernel, by decide +kernel,
    by decide +kernel, whole_of (by decide +kernel), by decide +kernel, whole_of (by decide +kernel),
    by decide +kernel, whole_of (by decide +kernel), by decide +kernel⟩

/-- Port 0 with three results, the median of which is `ns` ns, in a network state. -/
def threeResults (ns : Int) (nbr : BitVec 12) (st : NetState) : State := { run with
  net := { run.net with state := st, ports := run.net.ports.set 0 { run.net.ports[(0 : Port)] with
    nbr := nbr, nbrOk := true, results := [8 * ns, 0, 8 * 900] } } }

theorem witness_SilenceAndLinks :
    run.pwr.dom.getLsbD 2 = true ∧ run.net.fullSilent = false ∧
    ({ run with sh := { run.sh with locks := run.sh.locks.set 0 ⟨4, false⟩ } } : State).sh.locks[(0 : Fin 64)].owner = 4 ∧
    (run.portCfg 0).role ≠ .unused ∧ (run.net.ports[(0 : Port)]).linkUp = true ∧
    ((threeResults 551 5 .sync).delayOpen 0 = true ∧ 3 ≤ ((threeResults 551 5 .sync).gained 0 none none none).length ∧
      ¬ ((threeResults 551 5 .sync).net.state = .sync ∧ ((threeResults 551 5 .sync).net.ports[(0 : Port)]).nbrValid = true ∧
        ((threeResults 551 5 .sync).net.ports[(0 : Port)]).nbr ≠ ((threeResults 551 5 .sync).portCfg 0).nbr) ∧
      8 * (run.portCfg 0).tolNs <
        (medianOf ((threeResults 551 5 .sync).gained 0 none none none) - 8 * Int.ofNat (run.portCfg 0).delayNs).natAbs ∧
      ¬ 8 * (run.portCfg 0).tolNs <
        (medianOf ((threeResults 550 5 .sync).gained 0 none none none) - 8 * Int.ofNat (run.portCfg 0).delayNs).natAbs) ∧
    ((threeResults 500 5 .integrate).delayOpen 0 = true ∧ (threeResults 500 5 .integrate).net.state = .integrate ∧
      (threeResults 500 5 .integrate).net.servo = false ∧ 0 = (threeResults 500 5 .integrate).syncPortCfg) ∧
    ((threeResults 500 6 .sync).net.state = .sync ∧ ((threeResults 500 6 .sync).net.ports[(0 : Port)]).nbrValid = true ∧
      ((threeResults 500 6 .sync).net.ports[(0 : Port)]).nbr ≠ ((threeResults 500 6 .sync).portCfg 0).nbr) := by decide +kernel

/-- A timing frame of node `src` without FCS, with its body from byte 16 (R337). -/
def timingBody (type : Byte) (src : BitVec 12) (body : List Byte) : List Byte :=
  headBytes type false src 0xFFF 0 44 0 0x10 ++ body ++ List.replicate (44 - body.length) 0

def timed (rxNs : Nat) (body : List Byte) : RxTiming := ⟨0, rxNs, withFcs body⟩

theorem timing_of {s : State} {f : RxTiming} {type : Byte} {body : List Byte}
    (h : ((s.net.state == .off || s.net.state == .fullSilence || (s.portCfg f.port).role == .unused || !(s.port f.port).blockLock ||
        !((type != 1 && type != 2) || (s.port f.port).linkUp)) = false ∧ stripFcs f.bytes = some body ∧
      ((Frame.ofBytes body).type != type || body.length != 60) = false ∧ (!s.knownArea (Frame.ofBytes body).area) = false ∧
      ((Frame.ofBytes body).area != s.areaId) = false)) : s.timing f type = (s, some body) := by
  obtain ⟨h1, h2, h3, h4, h5⟩ := h
  simp only [State.timing, h1, h2, h3, h4, h5, Bool.false_and, Bool.false_eq_true, if_false]

def dlyReqBody : List Byte := timingBody 3 5 (leBytes 2 5)

def dlyRspBody : List Byte := timingBody 4 5 (leBytes 8 1500 ++ leBytes 8 2500 ++ leBytes 2 5120 ++ leBytes 2 5)

def dlyFupBody : List Byte := timingBody 5 5 (leBytes 8 1000 ++ leBytes 8 3000 ++ leBytes 4 4000)

/-- The module on the air in a network state, with a DLY_REQ sent at instant 1,000 where `asked_`. -/
def exchanging (st : NetState) (asked_ : Bool) : State := { onAir with
  net := { onAir.net with state := st, ports := onAir.net.ports.set 0 { onAir.net.ports[(0 : Port)] with
    t1 := if asked_ then some 1000 else none } } }

theorem delay_of {s : State} {f : RxTiming} {type : Byte} {body : List Byte}
    (h : s.net.state ≠ .off ∧ s.net.state ≠ .fullSilence ∧ (s.portCfg f.port).role ≠ .unused ∧
      (s.net.ports[f.port]).blockLock = true ∧ stripFcs f.bytes = some body ∧ (Frame.ofBytes body).type = type ∧ body.length = 60 ∧
      s.knownArea (Frame.ofBytes body).area = true) : DelayFrame s f type body := h

theorem witness_DelayExchange :
    (∀ st ∈ [NetState.coldstart, .listen, .integrate, .sync, .silent],
      DelayFrame (exchanging st false) (timed 500 dlyReqBody) 3 dlyReqBody) ∧
    DelayFrame (exchanging .sync false) (timed 500 dlyRspBody) 4 dlyRspBody ∧
    DelayFrame (exchanging .sync true) (timed 500 dlyRspBody) 4 dlyRspBody ∧
    DelayFrame (exchanging .sync false) (timed 500 dlyFupBody) 5 dlyFupBody ∧
    ((exchanging .sync false).net.ports[(0 : Port)]).t1 = none ∧ ((exchanging .sync true).net.ports[(0 : Port)]).t1 = some 1000 ∧
    (exchanging .sync true).findEntry 0 .link = some (4, entry 5 0 16) ∧
    WholeInWindow (exchanging .sync true) (entry 5 0 16)
      ((exchanging .sync true).planDev (Int.ofNat (entryNs (entry 5 0 16))) (500 + 300)) 64 := by
  refine ⟨?_, delay_of (by decide +kernel), delay_of (by decide +kernel), delay_of (by decide +kernel), by decide +kernel,
    by decide +kernel, by decide +kernel, whole_of (by decide +kernel)⟩
  have h : ∀ st ∈ [NetState.coldstart, .listen, .integrate, .sync, .silent],
      ((exchanging st false).net.state ≠ .off ∧ (exchanging st false).net.state ≠ .fullSilence ∧
        ((exchanging st false).portCfg (timed 500 dlyReqBody).port).role ≠ .unused ∧
        ((exchanging st false).net.ports[(timed 500 dlyReqBody).port]).blockLock = true ∧
        stripFcs (timed 500 dlyReqBody).bytes = some dlyReqBody ∧ (Frame.ofBytes dlyReqBody).type = 3 ∧ dlyReqBody.length = 60 ∧
        (exchanging st false).knownArea (Frame.ofBytes dlyReqBody).area = true) := by decide +kernel
  exact fun st hs => delay_of (h st hs)

/-- The cycle start of tick 5,000 by node 5 as the reference, origin 1,000 ns. -/
def cycle (tick : Tick) : List Byte := timingBody 1 5 (cycleBody ⟨5, false, 1000, 0, tick, 0, 0, 1⟩)

def contending : State := { run with net := { run.net with state := .coldstart } }

def listening : State := { run with net := { run.net with state := .listen, listenUs := 9 } }

def seenCycle : SeenCycle := ⟨5, 0, 0, 4999, 2000, 1000, 1, true⟩

def integrating : State := { onAir with net := { onAir.net with state := .integrate, servo := true, lockRun := 8 } }

def coldBody : List Byte := timingBody 2 5 (leBytes 8 0 ++ [1])

theorem witness_CycleStartAndColdstart :
    (onAir.timing (timed 800 (cycle 5000)) 1 = (onAir, some (cycle 5000)) ∧ (cycleOf onAir.areaId (cycle 5000)).parent = false ∧
      onAir.net.isRef = false ∧ onAir.net.state = .sync ∧ (onAir.cycleDev 0 800).natAbs ≤ onAir.cycleWindow 0 ∧
      (cycleOf onAir.areaId (cycle 5000)).tick = onAir.ms.tick ∧ (cycleOf onAir.areaId (cycle 5000)).base = onAir.tim.tbase ∧
      onAir.net.cycleThisTick = false ∧ 0 = onAir.syncPortCfg ∧
      onAir.gal.active = Fin.ofNat 8 (cycleOf onAir.areaId (cycle 5000)).gal.toNat ∧
      10 * (onAir.thetaOf 0 (cycleOf onAir.areaId (cycle 5000)) 800).natAbs ≤ 3072 * onAir.ms.tUs.toNat) ∧
    ((onAir.cycleDev 0 1200).natAbs ≤ onAir.cycleWindow 0 ∧ onAir.cycleWindow 0 < (onAir.cycleDev 0 1201).natAbs) ∧
    (integrating.timing (timed 800 (cycle 5001)) 1 = (integrating, some (cycle 5001)) ∧
      (cycleOf integrating.areaId (cycle 5001)).parent = false ∧ integrating.net.isRef = false ∧ integrating.net.state = .integrate ∧
      (integrating.cycleDev 0 800).natAbs ≤ integrating.cycleWindow 0 ∧
      (cycleOf integrating.areaId (cycle 5001)).tick ≠ integrating.ms.tick ∧ integrating.pwr.phase = .normal ∧
      integrating.ms.porHeld = false) ∧
    (contending.timing (timed 0 coldBody) 2 = (contending, some coldBody) ∧ (Frame.ofBytes coldBody).src ≠ contending.node ∧
      contending.net.state = .coldstart) ∧
    (listening.timing (timed 0 coldBody) 2 = (listening, some coldBody) ∧ listening.net.state = .listen) ∧
    (listening.net.listenUs ≠ 0 ∧ listening.ownRank.isSome = true ∧ listening.tim.ppsQual = false) ∧
    (({ listening with net := { listening.net with seen := some seenCycle } } : State).net.seen = some seenCycle ∧
      listening.net.seenParent.filter (fun x => x.full) = none ∧ seenCycle.full = true ∧
      ({ listening with net := { listening.net with seenParent := some seenCycle } } : State).net.seenParent = some seenCycle) := by
  refine ⟨⟨timing_of (by decide +kernel), ?_⟩, by decide +kernel, ⟨timing_of (by decide +kernel), ?_⟩,
    ⟨timing_of (by decide +kernel), ?_⟩, ⟨timing_of (by decide +kernel), ?_⟩, ?_, ?_⟩ <;> decide +kernel

/-- The module of a child area: rank 0, with the passage toward the parent on port 3. -/
def child : State := { run with
  net := { run.net with isRef := true }
  upd := { run.upd with img := some { img with area := { area with topo := [(0, ⟨.pairUnit, some 0, 0, 0, 0,
    ports.set 3 ⟨.chainUp, 9, some 0x99, 0, 0, 0⟩⟩)] } } } }

/-- The module that has passed `n` edges without its reference. -/
def missing (st : NetState) (n : Nat) : State := { run with net := { run.net with state := st, missEdges := n } }

/-- The cycle-start entry of port 0 lies at the edge itself; no other port holds one. -/
def reaches : State := { missing .sync 2 with gal := { onAir.gal with gals := onAir.gal.gals.set 0 { Gallery.reset with
  state := .valid, guard := 100, tables := (Vector.replicate 4 []).set 0 [(0, fields64 [(61, 6), (34, 16)])] } } }

theorem reaches_window : ∀ p i e, reaches.portOpen p = true → (reaches.portCfg p).passage = none →
    reaches.findEntry p .cs = some (i, e) → WholeInWindow reaches e (-Int.ofNat (entryNs e)) 64 := by
  have h : ∀ p, reaches.findEntry p .cs = if p = 0 then some (0, fields64 [(61, 6), (34, 16)]) else none := by decide +kernel
  intro p i e _ _ he
  rw [h p] at he
  split at he
  · obtain ⟨_, rfl⟩ := Prod.mk.inj (Option.some.inj he)
    exact whole_of (by decide +kernel)
  · cases he

theorem witness_TimeIsKeptOrLost :
    (integrating.net.state = .integrate ∧ integrating.pair.idOk = true ∧ integrating.net.servo = true ∧ 8 ≤ integrating.net.lockRun) ∧
    (({ integrating with pair := { integrating.pair with idOk := false } } : State).pair.idOk = false ∧
      ({ integrating with net := { integrating.net with lockRun := 7 } } : State).net.lockRun < 8) ∧
    ((missing .sync 64).net.state = .sync ∧ (missing .sync 64).net.isRef = false ∧ 64 ≤ (missing .sync 64).net.missEdges ∧
      (missing .sync 63).net.missEdges < 64) ∧
    ((missing .sync 2).ownRank = some 0 ∧ 2 + (0 : Fin 4).val ≤ (missing .sync 2).net.missEdges ∧
      (missing .sync 1).net.missEdges < 2 + (0 : Fin 4).val) ∧
    (reaches.net.state = .sync ∧ reaches.net.isRef = false ∧ reaches.ownRank = some 0 ∧ 2 + (0 : Fin 4).val ≤ reaches.net.missEdges ∧
      reaches.portOpen 0 = true ∧ (reaches.findEntry 0 .cs).isSome = true) ∧
    ((missing .silent 1024).net.state = .silent ∧ 1024 ≤ (missing .silent 1024).net.missEdges ∧
      (missing .silent 1023).net.missEdges < 1024 ∧ (missing .silent 1024).pwr.phase = .normal ∧
      (missing .silent 1024).ms.porHeld = false) ∧
    (child.net.isRef = true ∧ child.childPassage = true ∧ child.net.separated = false) ∧ joining.ms.mode = .join := by decide +kernel

/-- The pulse before came at instant 0. -/
def pulsed : State := { run with tim := { run.tim with ppsLast := some 0, ppsRun := 3 } }

theorem witness_PpsQualifiesAfterFourPulses :
    run.pwr.dom.getLsbD 2 = true ∧ run.net.isRef = false ∧ run.tim.ppsLast = none ∧ pulsed.pwr.dom.getLsbD 2 = true ∧
    pulsed.tim.ppsLast = some 0 ∧ 999990000 ≤ Int.ofNat 999990000 - Int.ofNat 0 ∧ Int.ofNat 1000010000 - Int.ofNat 0 ≤ 1000010000 ∧
    Int.ofNat 999989999 - Int.ofNat 0 < 999990000 ∧ 1000010000 < Int.ofNat 1000010001 - Int.ofNat 0 := by decide +kernel

theorem witness_NodeIdentifierIsLatched :
    State.reset.ms.porHeld = true ∧ run.ms.porHeld = false ∧ run.pwr.phase = .normal ∧ 10 ≤ 10 ∧ Lane.a ≠ Lane.b ∧
    Lane.a.inMask run.acting = true ∧ Lane.b.inMask run.acting = true ∧ (5 : BitVec 12) ≠ run.pair.strapId ∧
    run.pair.strapChanged = false ∧ (0 : BitVec 12) = run.pair.strapId := by decide +kernel

/-! ### Hypotheses that hold together: galleries, manager data, manager pairs -/

theorem witness_GalleryWrites :
    galMaster .laneA = true ∧ galMaster .updateMover = true ∧ (run.sh.round 3 .laneA []).2 = true ∧
    (run.sh.round 3 .updateMover []).2 = true ∧ run.galLocked 7 = false ∧ run.galLocked 0 = true := by decide +kernel

def switch (own : Bool) (decision : BitVec 2) (nacks : List (BitVec 12 × BitVec 4)) : Switch :=
  ⟨1, 5001, 4993, 1, own, none, [], nacks, 0, 0, 0, decision⟩

def switching (own : Bool) (decision : BitVec 2) (nacks : List (BitVec 12 × BitVec 4)) : State := { twoGalleries with
  gal := { twoGalleries.gal with pending := some 1, sw := some (switch own decision nacks) } }

/-- A HEADER frame of unit 1 in tick 5,000 that announces GO (ANN 2) for gallery 1 at edge 5,001. -/
def headerFrame : List Byte :=
  headBytes 0x10 false 1 0xFFF 1 28 8 0x10 ++ recBytes 0x01 0 [[0, 2, 1, 0] ++ leBytes 4 5001 ++ List.replicate 16 0] ++
  leBytes 4 1 ++ leBytes 4 5000 ++ List.replicate 16 0

/-- A standby unit that follows the announcement of unit 1, with these frames of the tick. -/
def following (fs : List StoredFrame) : State := { switching false 0 [] with
  ms := { run.ms with role := .standby }, buf := { run.buf with rxCur := fs } }

/-- The unit's header of tick 5,000 is sealed. -/
def told (s : State) : State := { s with buf := { s.buf with tx := [⟨1, 5000, ⟨some sealedA, some sealedA, none⟩, false⟩] } }

/-- The same frame with CANCEL (ANN 3). -/
def cancelFrame : List Byte :=
  headBytes 0x10 false 1 0xFFF 1 28 8 0x10 ++ recBytes 0x01 0 [[0, 3, 1, 0] ++ leBytes 4 5001 ++ List.replicate 16 0] ++
  leBytes 4 1 ++ leBytes 4 5000 ++ List.replicate 16 0

theorem witness_GallerySwitches :
    (twoGalleries.inTicks = true ∧ (5 : BitVec 12) ≠ twoGalleries.node ∧ 0 ∉ twoGalleries.pair.unitsNow ∧ twoGalleries.gal.sw = none ∧
      twoGalleries.gal.pending = none ∧ 0 < ((5002 : Tick) - (twoGalleries.ms.tick + 1)).toInt ∧
      ¬ 0 < ((5001 : Tick) - (twoGalleries.ms.tick + 1)).toInt ∧ (twoGalleries.gal.gals[(1 : Fin 8)]).state = .valid ∧
      run.gal.sw = none ∧ run.gal.pending = none ∧ (run.gal.gals[(1 : Fin 8)]).state = .empty) ∧
    (({ twoGalleries with gal := { twoGalleries.gal with pending := some 1 } } : State).gal.pending ≠ none) ∧
    ((switching true 0 []).gal.sw = some (switch true 0 []) ∧ (switch true 0 []).own = true ∧ (switch true 0 []).decision = 0 ∧
      (switch true 0 []).n = (switching true 0 []).ms.tick + 1 ∧ (switching true 0 []).ms.role = .active ∧
      (switch true 0 [(5, 3)]).nacks ≠ [] ∧ (switch false 0 []).own = false) ∧
    ((told (switching true 1 [])).gal.sw = some (switch true 1 []) ∧ (told (switching true 1 [])).gal.pending = some (switch true 1 []).g ∧
      (switch true 1 []).n = (told (switching true 1 [])).ms.tick + 1 ∧
      (told (switching true 1 [])).buf.tx.any (fun x => x.stream == 1 && x.tick == (told (switching true 1 [])).ms.tick) = true) ∧
    ((following [⟨headerFrame⟩]).gal.sw = some (switch false 0 []) ∧
      (following [⟨headerFrame⟩]).gal.pending = some (switch false 0 []).g ∧ (following [⟨headerFrame⟩]).ms.role ≠ .active ∧
      (following [⟨headerFrame⟩]).buf.tx = [] ∧
      (following [⟨headerFrame⟩]).headerAnns = [(2, (switch false 0 []).g.val, (switch false 0 []).n, (switch false 0 []).unit)]) ∧
    ((told (switching true 2 [])).gal.sw = some (switch true 2 []) ∧ (switch true 3 []).decision = 3 ∧
      (told (switching false 0 [])).gal.sw = some (switch false 0 []) ∧ (told (switching false 0 [])).ms.role = .active ∧
      (following [⟨cancelFrame⟩]).headerAnns = [(3, (switch false 0 []).g.val, (switch false 0 []).n, (switch false 0 []).unit)]) ∧
    ((following []).gal.sw = some (switch false 0 []) ∧ (following []).headerAnns = [] ∧ (following []).ms.role ≠ .active ∧
      (following []).buf.tx = [] ∧ (following []).net.state = .sync) ∧
    (run.headerAnns = [] ∧ ({ run with buf := { run.buf with rxCur := [⟨headerFrame⟩] } } : State).headerAnns = [(2, 1, run.ms.tick + 1, 1)]) ∧
    (0 ≤ ((run.ms.tick) - run.gal.prevTick).toInt ∧
      (run.ms.tick - ({ run with gal := { run.gal with prevTick := 5001 } } : State).gal.prevTick).toInt < 0) := by
  refine ⟨?_, ?_, ?_, ?_, ?_, ?_, ?_, ?_, ?_⟩ <;> decide +kernel

def report : PosReport := ⟨7, 3, 4, 0, 1, 1, 5000, 0, 100, 0, 4999⟩

def stale : State := runAt { region [] rec0 LaneK.reset with
  auths := [(3, vehicle 4999)], k := { LaneK.reset with tickBase := ⟨[], [(3, vehicle 4999)], [], []⟩ } }

def worker : State := { run with
  ms := { run.ms with role := .worker }, pair := { run.pair with strapId := 5, pins := 5, claim := 0 } }

def command : CmdItem := ⟨0, false, 5000, 16, 1, 5⟩

/-- A manager unit has been read in the tick. -/
def heardUnit (u : BitVec 12) : State := { worker with pair := { worker.pair with unitsNow := [u] } }

def workerHolding (n : Tick) : State := { worker with lanes := .all { worker.lanes.a with
  region := region [] rec0 { LaneK.reset with held := some ⟨n, 16, 0, 0⟩ } } }

/-- A report of vehicle 3 has been read in the tick already; its record before the tick was this. -/
def reported (q : PosReport) : State := runAt (region [] rec0 { LaneK.reset with tickBase := ⟨[q], [], [], []⟩ })

def later (n : Tick) (ofs : Word) : PosReport := { report with measTick := n, rearOfs := ofs }

theorem witness_ReportsAndCommands :
    (run.inTicks = true ∧ run.isManager = true ∧ run.area.gateways.contains report.gateway = true ∧
      Lane.a.inMask (run.running ||| run.acting) = true ∧ (run.lane .a).region.k.tickBase.reports = [] ∧
      (run.view .a).reportOk report ((run.lane .a).region.k.tickBase.auths.get? (vehicleOf report)) = true) ∧
    ((stale.lane .a).region.k.tickBase.reports = [] ∧
      (stale.view .a).reportOk report ((stale.lane .a).region.k.tickBase.auths.get? (vehicleOf report)) = false) ∧
    (((reported report).lane .a).region.k.tickBase.reports.filter (fun x => vehicleOf x == vehicleOf report) = [report] ∧
      ((reported report).view .a).reportOk report none = true ∧ ((reported report).view .a).reportOk (later 5000 0) none = true ∧
      0 < ((later 5000 0).measTick - report.measTick).toInt ∧ ((reported report).view .a).reportOk (later 4999 1) none = true ∧
      (later 4999 1).measTick = report.measTick ∧ sameReport report (later 4999 1) = false) ∧
    (worker.inTicks = true ∧ worker.cmdFits command = true ∧ command.unit = 0 ∧ worker.pair.unitsNow = [] ∧
      Lane.a.inMask worker.running = true ∧
      (worker.lane .a).region.k.held = none ∧ 0 < (command.tick - (⟨4999, 16, 0, 0⟩ : HeldCmd).tick).toInt ∧
      ((workerHolding 4999).lane .a).region.k.held = some ⟨4999, 16, 0, 0⟩ ∧ (workerHolding 4999).cmdFits command = true ∧
      (command.tick - (⟨5001, 16, 0, 0⟩ : HeldCmd).tick).toInt < 0 ∧ (workerHolding 5001).cmdFits command = true) ∧
    ((heardUnit 1).cmdFits command = true ∧ (heardUnit 1).pair.unitsNow = [1] ∧ 0 ∉ (heardUnit 1).pair.unitsNow ∧
      (heardUnit 0).cmdFits { command with unit := 1 } = true ∧ (0 : BitVec 12) ∈ (heardUnit 0).pair.unitsNow) ∧
    (worker.ms.role = .worker ∧ (worker.lane .a).region.k.command worker.ms.tick = none ∧
      ((workerHolding 4999).lane .a).region.k.command (workerHolding 4999).ms.tick ≠ none) := by decide +kernel

def pairUnit (id : BitVec 12) (claim sync : BitVec 2) (f : PairSt → PairSt) : State := { run with
  pair := f { run.pair with strapId := id, pins := id, claim := claim, sync := sync } }

def peer (claim sync : BitVec 2) : PairStat := ⟨claim, sync, false, true, 0, 1, 0, 0, 0, 0, 0, 0, 7⟩

def copyingPair (n : Tick) : State := pairUnit 1 0 3 (fun p => { p with copyTick := some n })

def waiting (seen : Bool) (own miss : Nat) : State :=
  pairUnit 1 0 1 (fun p => { p with view := 1, seenActive := seen, ownTicks := own, peerMiss := miss })

def yielding (m : Mode) (low : Nat) : State := { pairUnit 0 1 1 (fun p => { p with
  viewLow := low, viewUnder := low, run2Run := low, peerSync := 1, peerValid := true, peerVoting := 7 }) with
  ms := { run.ms with mode := m } }

theorem witness_ManagerPairs :
    (run.inTicks = true ∧ run.isPairUnit = true ∧ run.pair.claim = 1 ∧ (peer 1 0).claim = 1 ∧ run.node = 0) ∧
    ((pairUnit 1 1 0 id).isPairUnit = true ∧ (pairUnit 1 1 0 id).pair.claim = 1 ∧ (pairUnit 1 1 0 id).node ≠ 0) ∧
    ((copyingPair 4936).isPairUnit = true ∧ (copyingPair 4936).pair.claim = 0 ∧ (copyingPair 4936).pair.sync = 3 ∧
      (copyingPair 4936).pair.copyTick = some 4936 ∧
      covered ((copyingPair 4936).pair.copyGot ++ [⟨1, 0, [0]⟩]) 1 (topKey (copyingPair 4936).area.elems) = false ∧
      ((copyingPair 4936).ms.tick - 4936).toNat ≤ 64 ∧ 64 < ((copyingPair 4935).ms.tick - 4935).toNat) ∧
    ((waiting false 10 0).isPairUnit = true ∧ (waiting false 10 0).ms.mode ≠ .lockout ∧
      (waiting false 10 0).quorum ≤ (waiting false 10 0).pair.view ∧ (waiting false 10 0).pair.seenActive = false ∧
      (waiting false 10 0).area.params.lloss + (if (waiting false 10 0).node = 0 then 0 else 2) ≤ (waiting false 10 0).pair.ownTicks) ∧
    ((waiting true 0 8).pair.seenActive = true ∧ (waiting true 0 8).area.params.lloss ≤ (waiting true 0 8).pair.peerMiss ∧
      (waiting true 0 8).pair.sync = 1 ∧ (waiting true 0 8).pair.ahRun < (waiting true 0 8).area.auth.validity ∧
      (pairUnit 1 0 2 (fun p => { p with view := 1, seenActive := true, peerMiss := 8 })).pair.sync ≠ 1) ∧
    ((yielding .lockout 0).inTicks = true ∧ (yielding .lockout 0).isPairUnit = true ∧ (yielding .lockout 0).pair.claim = 1 ∧
      (yielding .lockout 0).ms.mode = .lockout) ∧
    (16 ≤ (yielding .run 16).pair.viewLow ∧ (yielding .run 16).pair.peerSync = 1 ∧ (yielding .run 16).pair.peerValid = true ∧
      16 ≤ (yielding .run 16).pair.run2Run ∧ (yielding .run 16).pair.peerVoting = 7 ∧
      (yielding .run 16).area.params.lloss ≤ (yielding .run 16).pair.viewUnder ∧
      (missing .silent 0).net.state = .silent ∧ (missing .silent 0).pair.claim = 1) ∧
    ((pairUnit 1 0 1 (fun p => { p with view := 1, peerValid := true, peerClaim := 3 })).pair.peerClaim = 3 ∧
      (pairUnit 1 0 1 (fun p => { p with view := 1, peerValid := true, peerClaim := 2 })).pair.peerClaim = 2 ∧
      (pairUnit 1 0 1 (fun p => { p with view := 1, peerValid := true, peerClaim := 2 })).pair.sync = 1) := by decide +kernel

/-! ### Hypotheses that hold together: the log and the update -/

def copies (r : Record) : List (Lane × Record) := [(.a, r), (.c, r)]

/-- The log holds a record of the key, and its summary. -/
def summed : State := { run with log := { run.log with
  recs := [record .alarm 0xD7, { record .alarm 0xD7 with form := .summary }] } }

def tracing : State := { run with log := { run.log with filter := true, rate := 2, traceTick := 2 } }

theorem witness_RecordsArrive :
    (run.single = false ∧ run.log.late = none ∧ Lane.a ≠ Lane.c ∧ Lane.a.inMask (run.running ||| run.acting) = true ∧
      Lane.c.inMask (run.running ||| run.acting) = true ∧
      (∀ r : Record, (recCopies (copies r)).get .a = some r ∧ (recCopies (copies r)).get .c = some r) ∧
      (record .event 1).cls = .event ∧ run.log.recs.length < 16384 ∧ (record .alarm 0xD7).cls = .alarm ∧ run.log.recs = []) ∧
    (∃ x, x ∈ summed.log.recs ∧ sameKey x { record .alarm 0xD7 with single := false } = true ∧ x.form ≠ .original) ∧
    (tracing.log.filter = true ∧ tracing.log.rate ≤ tracing.log.traceTick ∧ (record .trace 0xC0).cls = .trace) ∧
    (∀ (l m : Lane) (r : Record), l ≠ m → (recCopies [(.a, record .event 1), (.b, record .event 2)]).get l = some r →
      (recCopies [(.a, record .event 1), (.b, record .event 2)]).get m ≠ some r) := by
  refine ⟨⟨by decide +kernel, by decide +kernel, by decide +kernel, by decide +kernel, by decide +kernel,
    fun r => ⟨rfl, rfl⟩, by decide +kernel, by decide +kernel, by decide +kernel, by decide +kernel⟩,
    ⟨_, List.mem_cons_of_mem _ (List.mem_singleton.2 rfl), by decide +kernel, by decide +kernel⟩, by decide +kernel, ?_⟩
  intro l m r hne h1 h2
  have ha : (recCopies [(.a, record .event 1), (.b, record .event 2)]).get .a = some (record .event 1) := rfl
  have hb : (recCopies [(.a, record .event 1), (.b, record .event 2)]).get .b = some (record .event 2) := rfl
  have hc : (recCopies [(.a, record .event 1), (.b, record .event 2)]).get .c = none := rfl
  have hd : record .event 1 ≠ record .event 2 := by decide +kernel
  cases l <;> cases m <;> simp_all

def logged : State := { run with log := { run.log with en := true, recs := [record .event 1] } }

def loggedWorker : State := { worker with log := { worker.log with recs := [record .event 1] } }

/-- Node 5's last LSEQ was 3. -/
def sequenced : State := runAt (region [] rec0 { LaneK.reset with logSeq := [(5, 3)] })

def full : State := { run with log := { run.log with en := true, head := 1023, tail := 0, fullRun := 1024 } }

/-- A worker in LOCKOUT with a record of this class. -/
def lockedWorker (r : Record) : State := { loggedWorker with
  aon := { loggedWorker.aon with latch := true }, log := { loggedWorker.log with recs := [r] } }

theorem witness_RecordsLeaveTheLog :
    (logged.log.recs[logged.log.nextExport]? = some (record .event 1) ∧ logged.log.newLostA = 0 ∧ logged.log.newLostE = 0 ∧
      logged.log.restored = 0 ∧ logged.ms.role = .active ∧ logged.log.en = true ∧ logged.log.full = false ∧
      logged.pwr.busMaster = true ∧ (record .event 1).srcNode = logged.node) ∧
    (loggedWorker.log.recs[loggedWorker.log.nextExport]? = some (record .event 1) ∧ loggedWorker.ms.role = .worker ∧
      loggedWorker.inTicks = true ∧ loggedWorker.aon.latch = false ∧ (record .event 1).srcNode ≠ loggedWorker.node) ∧
    ((lockedWorker (record .event 1)).log.recs[(lockedWorker (record .event 1)).log.nextExport]? = some (record .event 1) ∧
      (lockedWorker (record .event 1)).aon.latch = true ∧ (lockedWorker (record .event 1)).inTicks = true ∧
      (record .event 1).cls ≠ .alarm ∧
      (lockedWorker (record .alarm 0xD7)).log.recs[(lockedWorker (record .alarm 0xD7)).log.nextExport]? =
        some (record .alarm 0xD7)) ∧
    (sequenced.inTicks = true ∧ sequenced.ms.role = .active ∧ sequenced.leadK.logSeq.get? (5 : BitVec 12).toNat = some 3 ∧
      (({ record .event 1 with lseq := 5 } : Record).lseq - 3 - 1).toNat ≠ 0 ∧
      (({ record .event 1 with lseq := 5 } : Record).lseq - 3 - 1).toNat < 2147483648) ∧
    (full.log.en = true ∧ full.log.full = true ∧ full.log.fullRun = 1024 ∧ run.log.fullRun ≠ 1024) := by decide +kernel

def upd (st : Stg) (tag : Option Word) (f : State → State) : State := f { run with
  nvm := { run.nvm with stageTag := tag, rec0 := BankRec.blank.sealed }, upd := { run.upd with stage := st } }

def chunk (n : Word) : UpdItem := ⟨n, 7, List.replicate 56 1, none⟩

def withChunk (s : State) : State := { s with nvm := { s.nvm with staging := [(0, List.replicate 56 1)] } }

def bank (st : BankState) (s : State) : State := { s with nvm := { s.nvm with rec0 := BankRec.sealed { s.nvm.rec0 with state := st } } }

/-- The image staged: node 0 in its parts, in force already. -/
def stagedImg (s : State) : State := { s with upd := { s.upd with image := some img } }

/-- A release record for `img` (its digest is 1) and nodes 0 to 4 (R454), signed as the image is: s for each MODE. -/
def release (mode : Byte) : Release :=
  ⟨leBytes 4 0x4C455258 ++ leBytes 48 1 ++ leBytes 2 0 ++ leBytes 2 4 ++ [mode] ++ List.replicate 7 0 ++ (leBytes 48 p384Gx).reverse ++
    (leBytes 48 (if mode = 1 then
      0xfce6de98e87eb9de7795958c0d4611ca38e953753e43216e488bc3a3b50137950e6fd5088fa13cd5a028f18ebca18faf
    else 0x566fd4956212463f4a7c287696390a7d68f2ea5aeb776dc856bd0c4677280b85e0cadbf3d66395f28c68e8a42319591d)).reverse⟩

/-- The host DMA fetches the item at this address next. -/
def fetching (s : State) : State := { s with upd := { s.upd with dmaBusy := true, dmaAt := 64, dmaLeft := 1 } }

theorem witness_ImagesAreStagedAndReleased :
    ((upd .idle none id).pwr.phase = .normal ∧ (chunk 0).host = none ∧ (upd .idle none id).nvm.stageTag ≠ some (chunk 0).imgTag ∧
      (upd .idle none id).imageBusy = false ∧ (upd .idle none (bank .fullTrial)).imageBusy = true ∧
      (upd .idle none id).upd.stage ≠ .erasing) ∧
    ((fetching (upd .idle none id)).upd.dmaBusy = true ∧ 0 < (fetching (upd .idle none id)).upd.dmaLeft ∧
      ({ chunk 0 with host := some 64 } : UpdItem).host = some (fetching (upd .idle none id)).upd.dmaAt ∧
      (128 : DWord) ≠ (fetching (upd .idle none id)).upd.dmaAt) ∧
    ((upd .receiving (some 7) id).nvm.stageTag = some (chunk 0).imgTag ∧ (upd .receiving (some 7) id).upd.stage = .receiving ∧
      (chunk 2359295).chunk.toNat < 2359296 ∧ (upd .receiving (some 7) id).upd.total = 0 ∧
      (upd .receiving (some 7) id).nvm.staging.has 0 = false ∧
      (upd .receiving (some 7) withChunk).nvm.staging.has (chunk 0).chunk.toNat = true) ∧
    (upd .erasing (some 7) id).upd.stage = .erasing ∧
    ((upd .verifying (some 7) id).upd.stage = .verifying ∧ (upd .verifying (some 7) id).nvm.release = none ∧
      (upd .verifying (some 7) id).stageReason (some img) = 0 ∧ (upd .verifying (some 7) id).stageReason none ≠ 0 ∧
      2 ≤ countMask (maskOf (fun l => l.inMask (upd .verifying (some 7) id).running && (⟨true, true, false⟩ : PerLane Bool).get l))) ∧
    ((upd .staged (some 7) stagedImg).imageBusy = false ∧ (upd .staged (some 7) stagedImg).upd.stage = .staged ∧
      (upd .staged (some 7) stagedImg).upd.image = some img ∧ (upd .staged (some 7) stagedImg).upd.accepted = none) ∧
    (∀ m ∈ [1, 2], releaseDigest (release m) = img.hdr.digest ∧
        releaseFor (release m) (upd .staged (some 7) stagedImg).node = true) ∧
    releaseMode (release 1) = 1 ∧ releaseMode (release 2) = 2 ∧
    (upd .staged (some 7) stagedImg).releaseReason img (release 1) = 0 ∧
    (upd .staged (some 7) stagedImg).releaseReason img (release 2) = 0 :=
  ⟨by decide +kernel, by decide +kernel, by decide +kernel, by decide +kernel, by decide +kernel, by decide +kernel, by decide +kernel,
    by decide +kernel, by decide +kernel, by decide +kernel, by decide +kernel⟩

def accepted (s : State) : State := { s with upd := { s.upd with accepted := some 1, apply := .deferred } }

def inCopy : State := { run with upd := { run.upd with copying := true } }

def owned (s : State) : State := { s with nvm := { s.nvm with rec0 := BankRec.sealed { s.nvm.rec0 with ownerLock := true } } }

def rolling (f : Lane → LaneSt → LaneSt) : State := { bank .rollingTrial (upd .idle none id) with
  upd := { run.upd with apply := .rolling }
  lanes := ⟨f .a run.lanes.a, f .b run.lanes.b, f .c run.lanes.c⟩ }

/-- Lane C withdrawn for the rolling update in tick `n`. -/
def takenC (n : Tick) : State := { rolling (fun l x => if l = .c then { x with svc := .withdrawn } else x) with
  upd := { run.upd with apply := .rolling, taken := some (.c, n) } }

/-- A release that has been deferred for 24 hours of 10 ms ticks. -/
def waitingLong : State := { owned (accepted (upd .staged (some 7) id)) with
  upd := { (owned (accepted (upd .staged (some 7) id))).upd with deferTicks := 8640000 } }

theorem witness_RollingUpdateRuns :
    ((accepted (upd .staged (some 7) id)).inTicks = true ∧ (accepted (upd .staged (some 7) id)).upd.accepted = some 1 ∧
      (accepted (upd .staged (some 7) id)).upd.copying = false ∧ (accepted (upd .staged (some 7) id)).bankRec.state = .stable ∧
      (accepted (upd .staged (some 7) id)).upd.stage = .staged ∧ (accepted (upd .staged (some 7) id)).deferred = false ∧
      (owned (accepted (upd .staged (some 7) id))).deferred = true) ∧
    (inCopy.upd.copying = true ∧
      2 ≤ countMask (maskOf (fun l => l.inMask inCopy.running && (⟨true, false, true⟩ : PerLane Bool).get l)) ∧
      countMask (maskOf (fun l => l.inMask inCopy.running && (⟨true, false, false⟩ : PerLane Bool).get l)) < 2) ∧
    ((rolling (fun _ x => x)).ms.mode = .run ∧ (rolling (fun _ x => x)).ms.voting = 7 ∧ (rolling (fun _ x => x)).aon.latch = false ∧
      (rolling (fun _ x => x)).allIn = true ∧ (rolling (fun _ x => x)).bankRec.state = .rollingTrial ∧
      (rolling (fun _ x => x)).upd.apply = .rolling ∧ (rolling (fun _ x => x)).nextTrialLane = some .c ∧
      (rolling (fun _ x => x)).deferred = false) ∧
    ((takenC 4998).upd.taken = some (.c, 4998) ∧ (takenC 4998).upd.apply = .rolling ∧ ((takenC 4998).lane .c).svc = .withdrawn ∧
      0 < ((takenC 4998).ms.tick - ((4998 : Tick) + 1)).toInt ∧ ¬ 0 < ((takenC 4999).ms.tick - ((4999 : Tick) + 1)).toInt) ∧
    ((accepted run).upd.apply = .deferred ∧ (accepted run).upd.deferAlarm = false ∧
      (accepted run).upd.deferTicks * (accepted run).ms.tUs.toNat < (accepted run).area.params.deferH * 3600000000 ∧
      (waitingLong.upd.accepted = some 1 ∧ waitingLong.upd.copying = false ∧ waitingLong.bankRec.state = .stable ∧
        waitingLong.upd.stage = .staged ∧ waitingLong.upd.deferAlarm = false ∧
        (rolling (fun _ x => x)).upd.taken = none ∧ (rolling (fun _ x => x)).nextTrialLane ≠ none ∧
        waitingLong.area.params.deferH * 3600000000 ≤ waitingLong.upd.deferTicks * waitingLong.ms.tUs.toNat)) := by decide +kernel

def trialC : State := rolling (fun l x => if l = .c then { x with runsNew := true } else x)

/-- Every lane runs the trial image and has voted its ticks in it. -/
def trialA : State := { rolling (fun _ x => { x with runsNew := true, trialCnt := 10000 }) with
  nvm := { trialC.nvm with bank1 := some img } }

def fullTrial : State := { bank .fullTrial (upd .idle none id) with
  nvm := { (bank .fullTrial (upd .idle none id)).nvm with bank1 := some img }, upd := { run.upd with apply := .fullTrial, confirmUs := 600000000 } }

theorem witness_TrialsAreConfirmed :
    (trialC.lane .c).trialCnt ≠ 10000 ∧
    (trialA.bankImg trialA.trialBank = some img ∧ trialA.bankRec.state = .rollingTrial ∧ trialA.upd.apply = .rolling ∧
      ∀ l : Lane, (trialA.lane l).runsNew = true ∧ (trialA.lane l).trialCnt = 10000) ∧
    (fullTrial.bankImg fullTrial.trialBank = some img ∧ fullTrial.bankRec.state = .fullTrial ∧ fullTrial.upd.apply = .fullTrial ∧
      fullTrial.inTicks = true ∧ 600000000 ≤ fullTrial.upd.confirmUs) :=
  ⟨by decide +kernel, ⟨by decide +kernel, by decide +kernel, by decide +kernel,
    all3 (by decide +kernel) (by decide +kernel) (by decide +kernel)⟩, by decide +kernel⟩

/-! ### Hypotheses that hold together: the block as a whole -/

/-- A module with RSTREQ's rising at the front of its queue. -/
def queueing (s : State) : State := { s with pending := [.rstreqRising, .timNowLoRead] }

theorem witness_StepRunsTheFrontCommand :
    (queueing run).pending = .rstreqRising :: [.timNowLoRead] ∧ run.pending = [] := by decide +kernel

theorem witness_StepsOnlyBurnFuses : ∃ t, Sys2Proof.Machine.step (queueing run) = .next t ∧ (queueing run).fuses.sound :=
  ⟨_, rfl, ⟨0, by decide +kernel, by decide +kernel⟩, (fun h => by revert h; decide +kernel), by decide +kernel⟩

theorem witness_LatchAlwaysMatchesItsRecord :
    (∃ t, LatchRecorded (queueing locked) ∧ Sys2Proof.Machine.step (queueing locked) = .next t) ∧
    LatchRecorded locked ∧ locked.pwr.phase = .normal ∧ locked.ms.porHeld = false :=
  ⟨⟨_, .inr (by decide +kernel), rfl⟩, .inr (by decide +kernel), rfl, rfl⟩

theorem witness_LatchAndHoldFallOnlyByRequest :
    ∃ t, LatchRecorded locked ∧ clearsByRequest .rstreqRising = false ∧
      Sys2Proof.Machine.exec .rstreqRising locked = .next t ∧ locked.aon.latch = true ∧ locked.aon.latrecPend = false ∧
      Instr.rstreqRising ≠ .por ∧ Instr.rstreqRising ≠ .commitEnd ∧ locked.ms.outHold = true :=
  ⟨_, .inr (by decide +kernel), rfl, rfl, rfl, rfl, by decide, by decide, rfl⟩

theorem witness_StepsKeepStoresCanonical :
    ∃ t, StoresCanonical (withChunk run) ∧ Sys2Proof.Machine.step (withChunk run) = .next t :=
  ⟨_, ⟨by decide +kernel, by decide +kernel, by decide +kernel⟩, rfl⟩

theorem witness_ClosedTestAccessIsCounted :
    inRetired.lifeCycle = .retired ∧ inField.lifeCycle = .field ∧ run.lifeCycle = .commission ∧ run.ms.mode ≠ .lockout ∧
    run.pwr.dom.getLsbD 3 = true := by decide +kernel

/-! ### Small steps whose results the manual states -/

/-- What `f` shows after a command. -/
def after {α : Type} (o : Host.Outcome State Fault Refusal) (f : State → α) : Option α :=
  match o with
  | .next t => some (f t)
  | _ => none

/-- What `f` shows after two commands. -/
def afterTwo {α : Type} (c d : Instr) (s : State) (f : State → α) : Option α :=
  match exec c s with
  | .next t => after (exec d t) f
  | _ => none

/-- Reset column of MOD_MODE (R64): OUT_HOLD and ROLE 0b11. -/
theorem test_mod_mode_reset : State.reset.modMode = 0x00002300 := by decide +kernel

theorem test_no_table_bits : decodeTableWord 32 0 = none := rfl

theorem test_withFetchWord_is_identity : run.withFetchWord 32 0 = run := rfl

/-- R404: lane B takes the free LCK_5 against the host, which then reads the winner. -/
theorem test_lock_race : after (exec (.lckRead .laneB 5 [.hostNonsecure]) run) (fun t => t.host.rdata) = some [0x80000002] ∧
    afterTwo (.lckRead .laneB 5 [.hostNonsecure]) (.lckRead .hostNonsecure 5 []) run (fun t => t.host.rdata) =
      some [0x00000002] := by decide +kernel

/-- R398: the host loses the round against lane B. -/
theorem test_lock_round_lost :
    after (exec (.lckRead .hostNonsecure 5 [.laneB]) run) (fun t => t.sh.locks[(5 : Fin 64)].owner) = some 0 := by decide +kernel

/-- R407: byte 60-63 sets FULL; a write over it sets COLLISION. -/
theorem test_mailbox_collision : after (exec (.mbxInBufWrite true 0 15 1) run) (fun t => (t.mbx true 0).inFull) = some true ∧
    afterTwo (.mbxInBufWrite true 0 15 1) (.mbxInBufWrite true 0 0 1) run (fun t => (t.mbx true 0).inColl) = some true := by
  decide +kernel

/-- R419: the check values of the four algorithms. -/
theorem test_check_values : crcOut 0 ((List.range 9).foldl (fun r i => crcFeed 0 r (BitVec.ofNat 8 (0x31 + i))) (crcInit 0)) = 0xCBF43926 ∧
    crcOut 1 ((List.range 9).foldl (fun r i => crcFeed 1 r (BitVec.ofNat 8 (0x31 + i))) (crcInit 1)) = 0xE3069283 ∧
    crcOut 2 ((List.range 9).foldl (fun r i => crcFeed 2 r (BitVec.ofNat 8 (0x31 + i))) (crcInit 2)) = 0x29B1 ∧
    crcOut 3 ((List.range 9).foldl (fun r i => crcFeed 3 r (BitVec.ofNat 8 (0x31 + i))) (crcInit 3)) = 0x995DC9BBDF1939FA := by
  decide +kernel

/-- The worked computation of channel 13: START with SEL 0b01 and the first word; one channel away nothing moves. -/
theorem test_crc_start_and_feed :
    afterTwo (.crcStart .hostNonsecure 13 0x11 none) (.crcDataWrite .hostNonsecure 13 ⟨true, true, true, true⟩ 0x34333231 []) run
      (fun t => (t.crc.chans[(13 : Fin 16)].cnt, t.crc.chans[(12 : Fin 16)].cnt)) = some (4, 0) := by decide +kernel

/-- R245: TICK 5,000 of lane B for FB3 with CH33 on; CHK computed apart from the model. -/
theorem test_token : mkToken 5000 2 3 1 = 0x1388B9550001 := by decide +kernel

/-- R246: the token is taken by its interface, and discarded by another. -/
theorem test_token_taken : after (exec (.lanternToken .b 2 0x1388B9550001) { issuing with ms := { run.ms with outHold := false } })
      (fun t => (t.iface .b 2).token) = some (some ⟨5000, 1⟩) ∧
    after (exec (.lanternToken .a 2 0x1388B9550001) issuing) (fun t => ((t.iface .a 2).token, (t.iface .a 2).discarded)) =
      some (none, 1) := by decide +kernel

/-- R248: under output hold ON_MASK is 0. -/
theorem test_token_under_hold : after (exec (.lanternToken .b 2 0x1388B9550001) issuing) (fun t => (t.iface .b 2).token) =
    some (some ⟨5000, 0⟩) := by decide +kernel

/-- R79, R87: a throw limit of 100 ms at T = 10 ms loads 10 + 2 ticks. -/
theorem test_throw : after (exec (.throw (req 2 2)) pointAt)
    (fun t => ((t.elemOf .a 2).cmd, (t.elemOf .a 2).timer, (t.elemOf .a 2).status)) = some (2, 12, .unproved) := by decide +kernel

/-- R87: a locked point keeps its position (0x42). -/
theorem test_throw_locked : after (exec (.throw (req 2 2)) lent) (fun t => (t.elemOf .a 2).cmd) = some 1 := by decide +kernel

/-- R115, R133: SET ROUTE with a wait of 10 ms at T = 10 ms. -/
theorem test_set_route : after (exec (.setRoute (req 1 0)) run) (fun t => ((t.routeOf .a 1).state, (t.routeOf .a 1).timer)) =
    some (.requested, 1) := by decide +kernel

/-- R28: an edge lies at a whole multiple of T, 10 ms here. -/
theorem test_tick_edge : after (exec (.tickEdge (tickObs laneObs)) joining) (fun t => t.aon.timeNs) = some 10000000 := by decide +kernel

/-- R48: the RUN-2 limit latches with cause 0x08. -/
theorem test_run2_limit : after (exec .run2LimitExpiry run2Long) (fun t => (t.ms.mode, t.aon.latchCause)) = some (.lockout, 8) := by
  decide +kernel

/-- R57: a request that began in the tick in which the latch was set is ignored. -/
theorem test_request_not_later : after (exec (.qualifiedResetRequest .rstreq 4000) locked) (fun t => (t.ms.mode, t.rrq.ignored)) =
    some (.lockout, 1) := by decide +kernel

/-- R319: the fourth pulse qualifies. -/
theorem test_pps : after (exec (.ppsIn 1000000000) pulsed) (fun t => t.tim.ppsQual) = some true ∧
    after (exec (.ppsIn 1000010001) pulsed) (fun t => t.tim.ppsRun) = some 1 := by decide +kernel

/-- R480: the essential commit leaves AON and HUB on. -/
theorem test_vin_fail : after (exec .vinFail run) (fun t => (t.pwr.dom, t.aon.ploss)) = some (3, true) := by decide +kernel

/-- R532: an offset without a register reads 0. -/
theorem test_unused_offset : after (exec (.rcRead .bar0 0x00FFFC) run) (fun t => t.host.rdata) = some [0] := by decide +kernel

/-- R482: the record of a latch set in tick 9 with cause 7, its CRC-32 by an independent program. -/
theorem test_latch_record : (latchRec 0x5A).sealed.check = 0xE1E633FF ∧ (latchRec 0x5A).bytes.take 12 =
    [0x58, 0x4C, 0x43, 0x4B, 1, 0, 0, 0, 0x5A, 7, 9, 0] := by decide +kernel

/-- R484: the retained record of a blank module holds. -/
theorem test_retained_record : State.reset.nvm.retLog.newest.map (fun r => (r.valid, r.bytes.length)) = some (true, 64) := by decide +kernel

/-- R496: a pulse beside a dissent step is moved. -/
theorem test_pulse_moved : after (exec (.testPulse 0 .darkHigh (.all ⟨false, [], [], []⟩)) besideDissent)
    (fun t => ((t.leadK.outs[(0 : Chan)]).dh.moved, (t.leadK.outs[(0 : Chan)]).pend.length)) = some (true, 0) := by decide +kernel

end Sys2Proof.Tests
end

section
/-!
SUPPORT. PPS (R319, R320): what disqualification does, and what a pulse does by the interval since the pulse before.
-/

namespace Sys2Proof.Machine

/-! ### The log, the parts that agree, and the interval of two pulses -/

/-- What a record does to the log, the log alone decides. -/
theorem State.logPut_log_congr {s t : State} (h : t.log = s.log) (r : Record) : (t.logPut r).log = (s.logPut r).log := by
  unfold State.logPut State.logStore
  rw [h]
  cases s.log.late with
  | some l => rfl
  | none => simp

/-- An ALARM of the node reads nothing of the TIM registers. -/
@[simp] theorem State.alarmNode_log_of_tim (s : State) (x : Tim) (code : Byte) (detail : List Byte) :
    (({ s with tim := x } : State).alarmNode code detail).log = (s.alarmNode code detail).log :=
  State.logPut_log_congr (s := s) (t := { s with tim := x }) rfl (s.record .alarm code .node s.node.toNat 0 detail)

theorem SameBut.refl (ps : List Part) (s : State) : SameBut ps s s := by
  intro p _
  cases p <;> rfl

/-- A further change of the TIM registers alone, where these may differ. -/
theorem SameBut.with_tim {ps : List Part} {s t : State} (h : SameBut ps s t) (hps : .tim ∈ ps) (x : Tim) :
    SameBut ps s { t with tim := x } := by
  intro p hp
  cases p with
  | tim => exact absurd hps hp
  | _ => exact h _ hp

/-- Within 10 µs of 1 s (R319), as a distance and as two bounds. -/
theorem absI_sub_second_le_iff (d : Int) :
    absI (d - 1000000000) ≤ 10000 ↔ 999990000 ≤ d ∧ d ≤ 1000010000 := by
  unfold absI
  omega

/-- The count of good pulses shows four from the fourth on. -/
theorem satInc_four_beq_four (n : Nat) : (satInc 4 n == 4) = decide (3 ≤ n) := by
  rw [Bool.eq_iff_iff, beq_iff_eq, decide_eq_true_iff]
  unfold satInc
  split <;> omega

/-! ### Disqualification (R319) -/

@[simp] theorem State.ppsLost_tim (s : State) :
    s.ppsLost.tim = { s.tim with ppsQual := false, ppsUsed := false } := by
  simp [State.ppsLost]

@[simp] theorem State.ppsLost_log (s : State) :
    s.ppsLost.log = if s.tim.ppsQual && s.net.isRef then (s.alarmNode 0xD7 []).log else s.log := by
  simp [State.ppsLost]

theorem State.ppsLost_sameBut (s : State) : SameBut [.tim, .log, .mail, .host] s s.ppsLost :=
  sameBut_of _ _ _ fun p => by cases p <;> simp [Part.agree]

/-- A pulse that stays away (R319). -/
theorem exec_ppsMissing (s : State) :
    exec .ppsMissing s = .next ({ s with tim := { s.tim with ppsRun := 0, ppsLast := none } } : State).ppsLost := rfl

/-! ### A pulse (R319, R320) -/

/-- The state after a pulse at `atNs` that is the `run`-th in a row, where `u` already shows whether PPS was lost. -/
def State.notePulse (u : State) (atNs run : Nat) : State :=
  let qual := u.tim.ppsQual || run == 4
  let used := qual && u.net.isRef
  { u with tim := { u.tim with
    ppsRun := run, ppsQual := qual, ppsUsed := used, ppsLast := some atNs
    rate := if used then clampRate 100000 (Config.servoRate u.tim.rate.toInt (secondPhase atNs)) else u.tim.rate
    pulseCnt := satInc 255 u.tim.pulseCnt, phase := BitVec.ofInt 24 (ppsPhase atNs) } }

/-- The first pulse begins a row of one. -/
theorem exec_ppsIn_first {s : State} (hon : s.pwr.dom.getLsbD 2 = true) (atNs : Nat) (hlast : s.tim.ppsLast = none) :
    exec (.ppsIn atNs) s = .next (s.notePulse atNs 1) := by
  show execPpsIn atNs s = _
  simp [execPpsIn, hon, hlast, State.notePulse]

/-- A pulse 1 s ± 10 µs after the one before lengthens the row. -/
theorem exec_ppsIn_onTime {s : State} (hon : s.pwr.dom.getLsbD 2 = true) {atNs b : Nat} (hlast : s.tim.ppsLast = some b)
    (hgood : absI (Int.ofNat atNs - Int.ofNat b - 1000000000) ≤ 10000) :
    exec (.ppsIn atNs) s = .next (s.notePulse atNs (satInc 4 s.tim.ppsRun)) := by
  show execPpsIn atNs s = _
  simp only [execPpsIn, hon, hlast, hgood, State.notePulse]
  rfl

/-- A pulse outside that interval disqualifies PPS and begins a new row. -/
theorem exec_ppsIn_offTime {s : State} (hon : s.pwr.dom.getLsbD 2 = true) {atNs b : Nat} (hlast : s.tim.ppsLast = some b)
    (hbad : ¬ absI (Int.ofNat atNs - Int.ofNat b - 1000000000) ≤ 10000) :
    exec (.ppsIn atNs) s = .next (s.ppsLost.notePulse atNs 1) := by
  show execPpsIn atNs s = _
  simp only [execPpsIn, hon, hlast, hbad, State.notePulse]
  rfl

@[simp] theorem State.notePulse_ppsLast (u : State) (atNs run : Nat) : (u.notePulse atNs run).tim.ppsLast = some atNs := rfl

@[simp] theorem State.notePulse_ppsRun (u : State) (atNs run : Nat) : (u.notePulse atNs run).tim.ppsRun = run := rfl

@[simp] theorem State.notePulse_ppsQual (u : State) (atNs run : Nat) :
    (u.notePulse atNs run).tim.ppsQual = (u.tim.ppsQual || run == 4) := rfl

@[simp] theorem State.notePulse_ppsUsed (u : State) (atNs run : Nat) :
    (u.notePulse atNs run).tim.ppsUsed = ((u.notePulse atNs run).tim.ppsQual && u.net.isRef) := rfl

@[simp] theorem State.notePulse_log (u : State) (atNs run : Nat) : (u.notePulse atNs run).log = u.log := rfl

/-- Only the reference steers its rate by PPS. -/
theorem State.notePulse_rate_of_not_ref {u : State} (h : u.net.isRef = false) (atNs run : Nat) :
    (u.notePulse atNs run).tim.rate = u.tim.rate := by
  simp [State.notePulse, h]

theorem State.notePulse_sameBut {s u : State} (h : SameBut [.tim, .log, .mail, .host] s u) (atNs run : Nat) :
    SameBut [.tim, .log, .mail, .host] s (u.notePulse atNs run) :=
  h.with_tim (by simp) _

/-! ### The statement -/

/-- Settles O42, by the three intervals a pulse can have (none before it, 1 s ± 10 µs, any other) and the pulse that
stays away. -/
theorem ppsQualifiesAfterFourPulses : Obligations.PpsQualifiesAfterFourPulses := by
  intro s hon
  refine ⟨fun atNs => ?pulse, ⟨_, exec_ppsMissing s, by simp, by simp, ?missing⟩⟩
  case missing => exact sameBut_of _ _ _ fun p => by cases p <;> simp [Part.agree]
  case pulse =>
    cases hlast : s.tim.ppsLast with
    | none =>
      refine ⟨_, exec_ppsIn_first hon atNs hlast, by simp, by simp, fun href => State.notePulse_rate_of_not_ref href _ _,
        by simp, by simp, by simp, State.notePulse_sameBut (.refl _ s) _ _⟩
    | some b =>
      by_cases hgood : absI (Int.ofNat atNs - Int.ofNat b - 1000000000) ≤ 10000
      · have hin := (absI_sub_second_le_iff _).mp hgood
        refine ⟨_, exec_ppsIn_onTime hon hlast hgood, by simp, by simp,
          fun href => State.notePulse_rate_of_not_ref href _ _, by simp, ?onTime, ?offTime,
          State.notePulse_sameBut (.refl _ s) _ _⟩
        case onTime =>
          rintro _ - - -
          exact ⟨rfl, congrArg (s.tim.ppsQual || ·) (satInc_four_beq_four _), rfl⟩
        case offTime =>
          rintro _ ⟨⟩ hout
          omega
      · have hout := mt (absI_sub_second_le_iff _).mpr hgood
        refine ⟨_, exec_ppsIn_offTime hon hlast hgood, by simp, by simp, fun href => ?_, by simp, ?onTime, ?offTime,
          State.notePulse_sameBut s.ppsLost_sameBut _ _⟩
        · rw [State.notePulse_rate_of_not_ref (by simpa using href)]
          simp
        case onTime =>
          rintro _ ⟨⟩ hlow hhigh
          exact absurd ⟨hlow, hhigh⟩ hout
        case offTime => simp

end Sys2Proof.Machine
end

section
/-!
SUPPORT. The node identifier (R359): which resets latch it, and what a later change of the straps does.
-/

namespace Sys2Proof.Machine

/-! ### The straps are latched (R359, R470) -/

/-- A PIN or WARM reset latches the straps; of the pair's state nothing else is kept. -/
@[simp] theorem State.moduleReset_pair (s : State) (kind warm : BitVec 4) :
    (s.moduleReset kind warm).pair = { PairSt.reset with strapId := s.pair.pins, pins := s.pair.pins } := by
  simp [State.moduleReset, State.reset]

/-- The release of POR (R359, R466). -/
theorem exec_porRelease {s : State} (hheld : s.ms.porHeld = true) :
    exec .porRelease s = .next { s with
      ms := { s.ms with porHeld := false }, pwr := { s.pwr with vinOk := true }
      pair := { s.pair with strapId := s.pair.pins } } :=
  if_pos hheld

/-- RESET_N low for 10 µs or longer (R470-R472). -/
theorem exec_pin {s : State} (hheld : s.ms.porHeld = false) (hphase : s.pwr.phase = .normal) {us : Nat} (hus : 10 ≤ us) :
    exec (.pin us) s = .next ((s.passUs us).moduleReset 2 0) := by
  show execPin us s = _
  simp [execPin, hheld, hphase, Nat.not_lt.mpr hus]

/-- Two different lanes of the agreement set request a WARM reset (R470). -/
theorem exec_warm_laneRequest {s : State} (hheld : s.ms.porHeld = false) (hphase : s.pwr.phase = .normal) {l m : Lane}
    (hne : l ≠ m) (hl : l.inMask s.acting = true) (hm : m.inMask s.acting = true) :
    exec (.warm (.laneRequest l m)) s = .next (s.moduleReset 3 2) := by
  show execWarm (.laneRequest l m) s = _
  simp [execWarm, State.warmReset, hne, hl, hm, hheld, hphase]

/-! ### A later change of the straps (R359) -/

/-- An ALARM of the node reads of the pair's state only the identifier. -/
@[simp] theorem State.alarmNode_log_of_pair (s : State) {x : PairSt} (hid : x.strapId = s.pair.strapId)
    (code : Byte) (detail : List Byte) :
    (({ s with pair := x } : State).alarmNode code detail).log = (s.alarmNode code detail).log := by
  have hnode : ({ s with pair := x } : State).node = s.node := hid
  have hrecord : ({ s with pair := x } : State).record .alarm code .node s.node.toNat 0 detail =
      s.record .alarm code .node s.node.toNat 0 detail := by
    unfold State.record
    rw [hnode]
    rfl
  unfold State.alarmNode State.raise
  rw [hnode, hrecord]
  exact State.logPut_log_congr (s := s) (t := { s with pair := x }) rfl _

/-- Straps that read as latched, or a change after one already shown, leave only the reading. -/
theorem exec_nodeIdStrapChange_of_shown {s : State} {id : BitVec 12}
    (h : id = s.pair.strapId ∨ s.pair.strapChanged = true) :
    exec (.nodeIdStrapChange id) s = .next { s with pair := { s.pair with pins := id } } :=
  if_pos (by rcases h with h | h <;> simp [h])

/-- The first change after BOOT is shown and alarmed. -/
theorem exec_nodeIdStrapChange_of_first {s : State} {id : BitVec 12} (hheld : s.ms.porHeld = false)
    (hid : id ≠ s.pair.strapId) (hnew : s.pair.strapChanged = false) :
    exec (.nodeIdStrapChange id) s =
      .next (({ s with pair := { s.pair with pins := id, strapChanged := true } } : State).alarmNode 0xE1 []) :=
  if_neg (by simp [hheld, hid, hnew])

/-! ### The statement -/

/-- Settles O43: the three resets that latch the straps, then a change that is the first or is not. -/
theorem nodeIdentifierIsLatched : Obligations.NodeIdentifierIsLatched := by
  intro s
  refine ⟨?release, ?pin, ?warm, fun hheld id => ?change⟩
  case release => exact fun hheld => ⟨_, exec_porRelease hheld, rfl⟩
  case pin => exact fun hheld hphase us hus => ⟨_, exec_pin hheld hphase hus, by simp, by simp [PairSt.reset]⟩
  case warm =>
    exact fun hheld hphase l m hne hl hm =>
      ⟨_, exec_warm_laneRequest hheld hphase hne hl hm, by simp, by simp [PairSt.reset]⟩
  case change =>
    by_cases hshown : id = s.pair.strapId ∨ s.pair.strapChanged = true
    · refine ⟨_, exec_nodeIdStrapChange_of_shown hshown, ?pair, fun hid hnew => ?alarm, fun _ => rfl, ?frame⟩
      case pair => rcases hshown with h | h <;> simp [← h]
      case alarm => simp [hid, hnew] at hshown
      case frame => exact sameBut_of _ _ _ fun p => by cases p <;> simp [Part.agree]
    · obtain ⟨hid, hnew⟩ := not_or.mp hshown
      rw [Bool.not_eq_true] at hnew
      refine ⟨_, exec_nodeIdStrapChange_of_first hheld hid hnew, by simp [hid], fun _ _ => by simp,
        fun h => absurd h hshown, ?frame⟩
      exact sameBut_of _ _ _ fun p => by cases p <;> simp [Part.agree]

end Sys2Proof.Machine
end

section
/-!
SUPPORT. Locks (R402, R403): what a round of the arbiter leaves of the shared resources, what a granted access is, and what
a read and a write of a lock do to it.
-/

namespace Sys2Proof.Machine

/-! ### A round and its grant (R398-R401) -/

/-- A round of an arbiter changes its own counts alone. -/
theorem Shared.round_fst_eq (h : Shared) (res : Fin 6) (m : Master) (rivals : List Master) :
    (h.round res m rivals).1 = { h with
      lost := (h.round res m rivals).1.lost, grants := (h.round res m rivals).1.grants
      maxLost := (h.round res m rivals).1.maxLost, frozenCnt := (h.round res m rivals).1.frozenCnt } := by
  unfold Shared.round
  dsimp only
  generalize (h.first res (requesters m rivals)).any (h.heldOff res) = withheld
  generalize h.first res ((requesters m rivals).filter fun r => !h.heldOff res r) = winner
  cases winner with
  | none => cases withheld <;> rfl
  | some w => cases withheld <;> rfl

section
variable (h : Shared) (res : Fin 6) (m : Master) (rivals : List Master)

@[simp] theorem Shared.round_locks : (h.round res m rivals).1.locks = h.locks := by rw [Shared.round_fst_eq]

@[simp] theorem Shared.round_orphan : (h.round res m rivals).1.orphan = h.orphan := by rw [Shared.round_fst_eq]

@[simp] theorem Shared.round_ignCnt : (h.round res m rivals).1.ignCnt = h.ignCnt := by rw [Shared.round_fst_eq]

@[simp] theorem Shared.round_freeze : (h.round res m rivals).1.freeze = h.freeze := by rw [Shared.round_fst_eq]

@[simp] theorem Shared.round_mask : (h.round res m rivals).1.mask = h.mask := by rw [Shared.round_fst_eq]

end

/-- An access that is granted is made after its round. -/
theorem State.onPort_of_granted {s : State} {res : Fin 6} {m : Master} {rivals : List Master}
    (hgrant : (s.sh.round res m rivals).2 = true) (a : HubAccess) (f : State → State) :
    s.onPort res m rivals a f = f { s with sh := (s.sh.round res m rivals).1 } :=
  if_pos hgrant

/-! ### A read of a lock (R402) -/

/-- A word of one field at bit 0. -/
theorem fields32_zero_eq_setWidth {w : Nat} (v : BitVec w) : fields32 [(0, v.toNat)] = v.setWidth 32 := by
  simp [fields32]

/-- GRANTED, PREV_ORPHANED and OWNER of the master that has taken a lock. -/
theorem fields32_granted (m : Master) (orphaned : Bool) :
    fields32 [(31, 1), (30, b2n orphaned), (0, m.id.toNat)] =
      0x80000000#32 ||| (if orphaned then 0x40000000#32 else 0) ||| m.id.setWidth 32 := by
  cases orphaned <;> cases m <;> rfl

/-- A free lock is taken, by any master but the hub movers. -/
theorem Lck.read_of_free {k : Lck} {m : Master} (hm : m ≠ .hubMovers) (hfree : k.owner = 0) :
    k.read m = (⟨m.id, false⟩,
      0x80000000#32 ||| (if k.orphanPend then 0x40000000#32 else 0) ||| m.id.setWidth 32) := by
  simp [Lck.read, hm, hfree, fields32_granted]

/-- A lock that is held, or that the hub movers read, stays as it was and shows its owner. -/
theorem Lck.read_of_held {k : Lck} {m : Master} (h : k.owner ≠ 0 ∨ m = .hubMovers) :
    k.read m = (k, k.owner.setWidth 32) := by
  rw [← fields32_zero_eq_setWidth]
  exact if_neg (by simpa [imp_iff_not_or] using h)

/-- A read of a lock in a round that grants it. -/
theorem exec_lckRead_of_granted {s : State} {m : Master} {rivals : List Master} (hseen : s.hostBlind m = false)
    (hgrant : (s.sh.round 1 m rivals).2 = true) (i : Fin 64) :
    exec (.lckRead m i rivals) s = .next
      (({ s with sh := { (s.sh.round 1 m rivals).1 with
          locks := vmod s.sh.locks i fun _ => (s.sh.locks[i].read m).1 } } : State).answer [(s.sh.locks[i].read m).2]) := by
  show execLckRead m i rivals s = _
  simp [execLckRead, State.lckRead, hseen, State.onPort_of_granted hgrant, State.lckTake]

/-! ### A write to a lock (R403) -/

/-- The holder's own identifier frees the lock. -/
theorem Shared.lockWrite_of_holder {h : Shared} {m : Master} {i : Fin 64} {val : Word} (hown : h.locks[i].owner = m.id)
    (hval : val.setWidth 4 = m.id) :
    h.lockWrite m i val = { h with locks := vmod h.locks i fun k => { k with owner := 0 } } :=
  if_pos (by simpa [hval] using hown)

/-- A write by another master, or with another identifier, is ignored and counted. -/
theorem Shared.lockWrite_of_foreign {h : Shared} {m : Master} {i : Fin 64} {val : Word}
    (hforeign : h.locks[i].owner ≠ m.id ∨ val.setWidth 4 ≠ m.id) :
    h.lockWrite m i val = { h with ignMaster := m.id, ignCnt := satInc 65535 h.ignCnt } :=
  if_neg (by simpa [← not_and_or] using hforeign)

/-- Whoever writes to a lock, the other locks, the orphan marks and the freezes stay. -/
theorem Shared.lockWrite_frame (h : Shared) (m : Master) (i : Fin 64) (val : Word) :
    (∀ j : Fin 64, j ≠ i → (h.lockWrite m i val).locks[j] = h.locks[j]) ∧ (h.lockWrite m i val).orphan = h.orphan ∧
    (h.lockWrite m i val).freeze = h.freeze ∧ (h.lockWrite m i val).mask = h.mask := by
  by_cases hholder : h.locks[i].owner = m.id ∧ val.setWidth 4 = m.id
  · obtain ⟨hown, hval⟩ := hholder
    rw [Shared.lockWrite_of_holder hown hval]
    exact ⟨fun j hj => vmod_ne _ _ _ _ hj, rfl, rfl, rfl⟩
  · rw [Shared.lockWrite_of_foreign (not_and_or.mp hholder)]
    exact ⟨fun _ _ => rfl, rfl, rfl, rfl⟩

/-- A write to a lock in a round that grants it. -/
theorem exec_lckWrite_of_granted {s : State} {m : Master} {rivals : List Master} (hseen : s.hostBlind m = false)
    (hgrant : (s.sh.round 1 m rivals).2 = true) (i : Fin 64) (val : Word) :
    exec (.lckWrite m i val rivals) s = .next { s with sh := (s.sh.round 1 m rivals).1.lockWrite m i val } := by
  show execLckWrite m i val rivals s = _
  simp [execLckWrite, State.lckWrite, hseen, State.onPort_of_granted hgrant]

/-! ### The statement -/

/-- Settles O1, by whether the lock read is free and who reads it, and by whether the write is its holder's own. -/
theorem locksAreTakenAndFreed : Obligations.LocksAreTakenAndFreed := by
  refine ⟨fun s m i rivals hseen hgrant => ?read, fun s m i val rivals hseen hgrant => ?write⟩
  case read =>
    refine ⟨_, exec_lckRead_of_granted hseen hgrant i, fun hm hfree => ?free, fun hheld => ?held, fun hm hfree => ?movers,
      fun j hj => vmod_ne _ _ _ _ hj, rfl, rfl, ?frame⟩
    case free =>
      rw [Lck.read_of_free hm hfree]
      exact ⟨vmod_self _ _ _, rfl⟩
    case held =>
      rw [Lck.read_of_held (.inl hheld)]
      exact ⟨vmod_self _ _ _, rfl⟩
    case movers =>
      rw [Lck.read_of_held (.inr hm), hfree]
      exact ⟨vmod_self _ _ _, rfl⟩
    case frame => exact sameBut_of _ _ _ fun p => by cases p <;> simp [Part.agree, State.answer]
  case write =>
    obtain ⟨hothers, horphan, hfreeze, hmask⟩ := (s.sh.round 1 m rivals).1.lockWrite_frame m i val
    refine ⟨_, exec_lckWrite_of_granted hseen hgrant i val, fun hown hval => ?holder, fun hforeign => ?foreign,
      by simpa using hothers, by simpa using horphan, by simpa using hfreeze, by simpa using hmask, ?frame⟩
    case holder =>
      rw [Shared.lockWrite_of_holder (by simpa using hown) hval]
      simp
    case foreign =>
      rw [Shared.lockWrite_of_foreign (by simpa using hforeign)]
      simp [satInc]
    case frame => exact sameBut_of _ _ _ fun p => by cases p <;> simp [Part.agree]

end Sys2Proof.Machine
end

section
/-!
SUPPORT. The host self-test engine and the IEEE 1149.1 port where R446 does not open them (R446, R448, R509): when they are
closed, and what a refused start of the self-test leaves.
-/

namespace Sys2Proof.Machine

/-! ### Where the test access is closed (R446) -/

/-- RETIRED and FIELD open it in no mode, COMMISSION and SERVICE in LOCKOUT alone. -/
theorem State.testOpen_eq_false {s : State}
    (hclosed : s.lifeCycle = .retired ∨ s.lifeCycle = .field ∨
      ((s.lifeCycle = .commission ∨ s.lifeCycle = .service) ∧ s.ms.mode ≠ .lockout)) :
    s.testOpen = false := by
  unfold State.testOpen
  obtain hretired | hfield | ⟨hcommission | hservice, hmode⟩ := hclosed
  · rw [hretired]
  · rw [hfield]
  · simpa [hcommission] using hmode
  · simpa [hservice] using hmode

/-! ### A start of the self-test that is refused (R448, R509) -/

/-- The state after a refused start: REFUSED shows, the access is counted and the vector of the self-test is raised. -/
def State.testRefused (s : State) : State :=
  ({ s with prf := { s.prf with bistRefused := true } } : State).testIgnored.raiseVec 19

@[simp] theorem State.testRefused_upd (s : State) :
    s.testRefused.upd = { s.upd with ignCnt := satInc 65535 s.upd.ignCnt } := by
  simp [State.testRefused, State.testIgnored]

@[simp] theorem State.testRefused_prf (s : State) : s.testRefused.prf = { s.prf with bistRefused := true } := by
  simp [State.testRefused, State.testIgnored]

theorem State.testRefused_sameBut (s : State) : SameBut [.upd, .prf, .host] s s.testRefused :=
  sameBut_of _ _ _ fun p => by cases p <;> simp [Part.agree, State.testRefused, State.testIgnored]

/-! ### The commands where the access is closed (R448) -/

section
variable {s : State} (hclosed : s.testOpen = false)
include hclosed

theorem exec_testPortAccess_jtag_of_closed : exec (.testPortAccess .jtag) s = .next s.testIgnored :=
  if_neg (by simp [hclosed])

theorem exec_testPortAccess_bist_of_closed : exec (.testPortAccess .bist) s = .next s.testRefused :=
  if_neg (by simp [hclosed])

/-- GO is written to BIST_CTL, whose domain HST is on. -/
theorem exec_bistGo_of_closed (hon : s.pwr.dom.getLsbD 3 = true) : exec .bistGo s = .next s.testRefused := by
  show Host.Outcome.next s.bistGo = _
  simp [State.bistGo, State.testRefused, hclosed, hon]

end

/-! ### The statement -/

/-- Settles O60: R446 opens none of these states, where the port's access is counted and both starts are refused alike. -/
theorem closedTestAccessIsCounted : Obligations.ClosedTestAccessIsCounted := by
  intro s hstate
  have hclosed := State.testOpen_eq_false hstate
  exact ⟨exec_testPortAccess_jtag_of_closed hclosed,
    fun hon => ⟨_, exec_bistGo_of_closed hclosed hon, s.testRefused_upd, s.testRefused_prf, s.testRefused_sameBut⟩,
    ⟨_, exec_testPortAccess_bist_of_closed hclosed, s.testRefused_upd, s.testRefused_prf, s.testRefused_sameBut⟩⟩

end Sys2Proof.Machine
end

section
/-!
SUPPORT. The latch record of a power loss (R46, R480, R482) where a clear record waits beside a cause in AON: the record that the
essential commit writes gives no cause, so AON and its record differ.
-/

namespace Sys2Proof.Machine

/-- The newest record of a store is the one appended last. -/
@[simp] theorem Sectors.newest_append {α : Type} (t : Sectors α) (r : α) : (t.append r).newest = some r := by
  unfold Sectors.append Sectors.newest
  split <;> split <;> simp_all

/-- A record that NVM1 takes for a clear latch gives neither cause nor tick. -/
theorem State.appendLatch_of_clear {s : State} (hready : s.nvm.ready = true) (hclear : s.aon.latch = false) :
    s.appendLatch.aon = { s.aon with latrecPend := false } ∧ latchOf s.appendLatch.nvm.latchLog.newest = (false, 0, 0) := by
  simp [State.appendLatch, hready, hclear, latchOf_clear]

/-- The essential commit writes the clear record that waits (R480), and leaves the cause in AON. -/
theorem State.essential_of_clear {s : State} (hwaits : s.aon.latrecPend = true) (hclear : s.aon.latch = false) (ms : Nat) :
    (s.essential ms).aon.latchCause = s.aon.latchCause ∧ latchOf (s.essential ms).nvm.latchLog.newest = (false, 0, 0) := by
  obtain ⟨haon, hrecord⟩ := State.appendLatch_of_clear (s := { s with nvm := { s.nvm with ready := true } }) rfl hclear
  simp [State.essential, State.appendRet, Nvm.putRet, hwaits, haon, hrecord]

/-- A loss of power with a clear record that waits (R480, R482). -/
theorem exec_vinFail_of_clear {s : State} (hphase : s.pwr.phase = .normal) (hheld : s.ms.porHeld = false)
    (hwaits : s.aon.latrecPend = true) (hclear : s.aon.latch = false) :
    ∃ t, exec .vinFail s = .next t ∧ t.aon.latchCause = s.aon.latchCause ∧ latchOf t.nvm.latchLog.newest = (false, 0, 0) := by
  have haon : s.domainsOff.aon = s.aon := by
    simp [State.domainsOff, State.hostRegsReset, State.orphanLocks]
  refine ⟨_, if_neg (by simp [hphase, hheld]), ?_⟩
  generalize s.domainsOff = u at haon
  have hu : u.aon.latrecPend = true ∧ u.aon.latch = false := by rw [haon]; exact ⟨hwaits, hclear⟩
  rw [← haon]
  exact State.essential_of_clear (s := { u with aon := { u.aon with
    ploss := true, vholdAtLoss := two u.aon.vqual, essDone := false, fullDone := false, commitMs := 0
    plossCnt := satInc 255 u.aon.plossCnt } }) hu.1 hu.2 _

/-- A module out of reset that is not latched, whose clear record waits for NVM1, and whose AON holds cause 5: no command of the
block leaves it so, but `LatchRecorded` admits it. -/
def waitingClear : State := { State.reset with
  ms := { State.reset.ms with porHeld := false }
  aon := { State.reset.aon with latrecPend := true, latchCause := 5 } }

/-- Refutes O57: `LatchRecorded` admits a clear record that waits beside a cause in AON, and the essential commit of `waitingClear`
writes a record that gives no cause. -/
theorem not_latchAlwaysMatchesItsRecord : ¬ Obligations.LatchAlwaysMatchesItsRecord := by
  rintro ⟨-, hloss⟩
  obtain ⟨t, hexec, -, -, hmatch⟩ := hloss waitingClear (.inl rfl) rfl rfl
  obtain ⟨u, hexec', hcause, hrecord⟩ := exec_vinFail_of_clear (s := waitingClear) rfl rfl rfl rfl
  obtain rfl : t = u := by simpa [hexec] using hexec'
  have hzero : (0 : Byte) = t.aon.latchCause := congrArg (fun x => x.2.1) (hrecord.symm.trans hmatch)
  rw [hcause] at hzero
  exact absurd hzero (by decide)

end Sys2Proof.Machine
end

section
/-!
SUPPORT. What the operations of one lane's evaluation leave of what the lane reads (area, node, tick) and of the requests whose effect
is the module's (R273, R353, R455).
-/

namespace Sys2Proof.Machine

/-- `w` reads what `v` reads, and has accepted no further request whose effect lies outside the region. -/
abbrev Ev.SameSetting (v w : Ev) : Prop :=
  w.area = v.area ∧ w.node = v.node ∧ w.tick = v.tick ∧ w.tUs = v.tUs ∧ w.gone = v.gone ∧ w.resets = v.resets ∧
  w.lockSet = v.lockSet ∧ w.galReq = v.galReq

theorem Ev.SameSetting.refl (v : Ev) : v.SameSetting v := ⟨rfl, rfl, rfl, rfl, rfl, rfl, rfl, rfl⟩

theorem Ev.SameSetting.trans {u v w : Ev} (h : u.SameSetting v) (g : v.SameSetting w) : u.SameSetting w := by
  obtain ⟨h1, h2, h3, h4, h5, h6, h7, h8⟩ := h
  simpa only [Ev.SameSetting, h1, h2, h3, h4, h5, h6, h7, h8] using g

theorem Ev.SameSetting.ite {u v w : Ev} (c : Prop) [Decidable c] (h : u.SameSetting v) (g : u.SameSetting w) :
    u.SameSetting (if c then v else w) := by
  split
  · exact h
  · exact g

/-- Work on each entry of a list. -/
theorem Ev.each_setting {α : Type} {f : Ev → α → Ev} (h : ∀ v a, Ev.SameSetting v (f v a)) (l : List α) (v : Ev) :
    v.SameSetting (v.each l f) := by
  unfold Ev.each
  induction l generalizing v with
  | nil => exact .refl v
  | cons a r ih => exact (h v a).trans (ih (f v a))

@[simp] theorem Ev.raise_setting (v : Ev) (cls : RecClass) (code : Byte) (kind : ObjKind) (obj : Nat) (detail : List Byte) :
    v.SameSetting (v.raise cls code kind obj detail) := by
  simp [Ev.SameSetting, Ev.raise]

@[simp] theorem Ev.fault_setting (v : Ev) (id : Nat) (code : Byte) : v.SameSetting (v.fault id code) := by
  simp [Ev.SameSetting, Ev.fault]

@[simp] theorem Ev.setElem_setting (v : Ev) (id : Nat) (e : Elem) : v.SameSetting (v.setElem id e) := by
  simp [Ev.SameSetting, Ev.setElem]

@[simp] theorem Ev.modElem_setting (v : Ev) (id : Nat) (f : Elem → Elem) : v.SameSetting (v.modElem id f) := by
  simp [Ev.SameSetting, Ev.modElem]

@[simp] theorem Ev.setAux_setting (v : Ev) (id : Nat) (a : ElemAux) : v.SameSetting (v.setAux id a) := by
  simp [Ev.SameSetting, Ev.setAux]

@[simp] theorem Ev.modAux_setting (v : Ev) (id : Nat) (f : ElemAux → ElemAux) : v.SameSetting (v.modAux id f) := by
  simp [Ev.SameSetting, Ev.modAux]

@[simp] theorem Ev.lasting_setting (v : Ev) (id : Nat) (code : Byte) (now : Bool) : v.SameSetting (v.lasting id code now) := by
  unfold Ev.lasting
  dsimp only
  (repeat' split) <;> simp [Ev.SameSetting]

@[simp] theorem Ev.setRoute_setting (v : Ev) (r : Nat) (x : RouteRec) : v.SameSetting (v.setRoute r x) := by
  simp [Ev.SameSetting, Ev.setRoute]

@[simp] theorem Ev.modRoute_setting (v : Ev) (r : Nat) (f : RouteRec → RouteRec) : v.SameSetting (v.modRoute r f) := by
  simp [Ev.SameSetting, Ev.modRoute]

@[simp] theorem Ev.statusSection_setting (v : Ev) (id : Nat) (srcs : List SecSrc) (rec : Recovery) :
    v.SameSetting (v.statusSection id srcs rec) := by
  unfold Ev.statusSection
  dsimp only
  (repeat' split) <;> simp [Ev.SameSetting]

@[simp] theorem Ev.statusPoint_setting (v : Ev) (id : Nat) (x : Bool) : v.SameSetting (v.statusPoint id x) := by
  unfold Ev.statusPoint
  dsimp only
  (repeat' split) <;> simp [Ev.SameSetting]

@[simp] theorem Ev.statusSignal_setting (v : Ev) (id lampTicks : Nat) (x : Bool) : v.SameSetting (v.statusSignal id lampTicks x) := by
  unfold Ev.statusSignal
  dsimp only
  (repeat' split) <;> simp [Ev.SameSetting]

@[simp] theorem Ev.statusStopGate_setting (v : Ev) (id : Nat) (cfg : ClassCfg) (gate x : Bool) :
    v.SameSetting (v.statusStopGate id cfg gate x) := by
  unfold Ev.statusStopGate
  dsimp only
  (repeat' split) <;> simp [Ev.SameSetting]

@[simp] theorem Ev.statusMovable_setting (v : Ev) (id : Nat) (x : Bool) : v.SameSetting (v.statusMovable id x) := by
  unfold Ev.statusMovable
  dsimp only
  (repeat' split) <;> simp [Ev.SameSetting]

@[simp] theorem Ev.zoneStop_setting (v : Ev) (id settleMs : Nat) : v.SameSetting (v.zoneStop id settleMs) := by
  simp [Ev.SameSetting, Ev.zoneStop]

@[simp] theorem Ev.statusZone_setting (v : Ev) (id settleMs : Nat) (cond : Option Nat) :
    v.SameSetting (v.statusZone id settleMs cond) := by
  unfold Ev.statusZone
  dsimp only
  (repeat' split) <;> simp [Ev.SameSetting]

@[simp] theorem Ev.status_setting (v : Ev) (id : Nat) (cfg : ClassCfg) (x : Bool) : v.SameSetting (v.status id cfg x) := by
  cases cfg <;> simp [Ev.SameSetting, Ev.status]

@[simp] theorem Ev.proxy_setting (v : Ev) (id : Nat) (cls : BitVec 4) (slot : BitVec 11) : v.SameSetting (v.proxy id cls slot) := by
  unfold Ev.proxy
  (repeat' split) <;> simp [Ev.SameSetting]

@[simp] theorem Ev.command_setting (v : Ev) (id : Nat) (val : BitVec 4) : v.SameSetting (v.command id val) := by
  unfold Ev.command
  dsimp only
  (repeat' split) <;> simp [Ev.SameSetting]

@[simp] theorem Ev.signalCmd_setting (v : Ev) (id lampTicks : Nat) : v.SameSetting (v.signalCmd id lampTicks) := by
  unfold Ev.signalCmd
  dsimp only
  (repeat' split) <;> simp [Ev.SameSetting]

@[simp] theorem Ev.signals_setting (v : Ev) : v.SameSetting v.signals := by
  refine Ev.each_setting (fun v p => ?_) _ v
  split <;> simp [Ev.SameSetting]

@[simp] theorem Ev.syncFlank_setting (v : Ev) : v.SameSetting v.syncFlank := by
  refine Ev.each_setting (fun v p => ?_) _ v
  (repeat' split) <;> simp [Ev.SameSetting]

@[simp] theorem Ev.setGranted_setting (v : Ev) (slot : Nat) (q : Option (BitVec 4)) : v.SameSetting (v.setGranted slot q) := by
  simp [Ev.SameSetting, Ev.setGranted]

@[simp] theorem Ev.lockRoute_setting (v : Ev) (r : Nat) (rc : RouteCfg) : v.SameSetting (v.lockRoute r rc) := by
  exact (Ev.each_setting (fun v id => Ev.modElem_setting ..) _ v).trans
    (Ev.each_setting (fun v id => Ev.modElem_setting ..) _ _)

@[simp] theorem Ev.unlock_setting (v : Ev) (r : Nat) (id : Nat) : v.SameSetting (v.unlock r id) := by
  unfold Ev.unlock
  dsimp only
  (repeat' split) <;> simp [Ev.SameSetting]

@[simp] theorem Ev.unlockAll_setting (v : Ev) (r : Nat) (rc : RouteCfg) : v.SameSetting (v.unlockAll r rc) := by
  refine (Ev.each_setting (fun v id => Ev.unlock_setting ..) _ v).trans (Ev.each_setting (fun v f => ?_) _ _)
  (repeat' split) <;> simp [Ev.SameSetting]

@[simp] theorem Ev.go_setting (v : Ev) (r : Nat) (st : RState) (f : RouteRec → RouteRec) : v.SameSetting (v.go r st f) := by
  simp [Ev.SameSetting, Ev.go]

@[simp] theorem Ev.goIdle_setting (v : Ev) (r : Nat) : v.SameSetting (v.goIdle r) := by
  simp [Ev.SameSetting, Ev.goIdle]

@[simp] theorem Ev.goRejected_setting (v : Ev) (r : Nat) (rc : RouteCfg) (code : Byte) : v.SameSetting (v.goRejected r rc code) := by
  unfold Ev.goRejected
  dsimp only
  (repeat' split) <;> simp [Ev.SameSetting]

@[simp] theorem Ev.replaced_setting (v : Ev) (r : Nat) (code : Byte) : v.SameSetting (v.replaced r code) := by
  simp [Ev.SameSetting, Ev.replaced]

@[simp] theorem Ev.releaseSec_setting (v : Ev) (r : Nat) (rc : RouteCfg) (k : Nat) : v.SameSetting (v.releaseSec r rc k) := by
  refine Ev.SameSetting.trans (.trans ?path (Ev.each_setting (fun v p => ?elems) _ _)) (Ev.modRoute_setting ..)
  case elems => (repeat' split) <;> simp [Ev.SameSetting]
  case path =>
    split
    · refine (Ev.each_setting (fun v f => ?_) _ v).trans (Ev.unlock_setting ..)
      (repeat' split) <;> simp [Ev.SameSetting]
    · refine Ev.each_setting (fun v f => ?_) _ v
      (repeat' split) <;> simp [Ev.SameSetting]

@[simp] theorem Ev.releaseOvl_setting (v : Ev) (r : Nat) (rc : RouteCfg) : v.SameSetting (v.releaseOvl r rc) := by
  unfold Ev.releaseOvl
  refine Ev.SameSetting.trans (.trans (Ev.each_setting (fun v f => ?flank) _ v) (Ev.each_setting (fun v p => Ev.unlock_setting ..) _ _))
    (Ev.modRoute_setting ..)
  (repeat' split) <;> simp [Ev.SameSetting]

@[simp] theorem Ev.releases_setting (v : Ev) (r : Nat) (rc : RouteCfg) (fuel : Nat) : v.SameSetting (v.releases r rc fuel) := by
  induction fuel generalizing v with
  | zero => exact .refl v
  | succ n ih =>
    unfold Ev.releases
    dsimp only
    (repeat' split) <;> simp [Ev.SameSetting, ih]

@[simp] theorem Ev.runEntered_setting (v : Ev) (r : Nat) (rc : RouteCfg) (expired : Bool) :
    v.SameSetting (v.runEntered r rc expired) := by
  unfold Ev.runEntered
  dsimp only
  (repeat' split) <;> simp [Ev.SameSetting]

@[simp] theorem Ev.enter_setting (v : Ev) (r : Nat) (rc : RouteCfg) : v.SameSetting (v.enter r rc) := by
  unfold Ev.enter
  dsimp only
  (repeat' split) <;> simp [Ev.SameSetting]

@[simp] theorem Ev.commandRoute_setting (v : Ev) (rc : RouteCfg) : v.SameSetting (v.commandRoute rc) := by
  refine Ev.each_setting (fun v p => ?_) _ v
  split <;> simp [Ev.SameSetting]

@[simp] theorem Ev.autoRoute_setting (v : Ev) (r : Nat) (rc : RouteCfg) (x : Bool) : v.SameSetting (v.autoRoute r rc x) := by
  unfold Ev.autoRoute
  dsimp only
  (repeat' split) <;> simp [Ev.SameSetting]

@[simp] theorem Ev.checkRoute_setting (v : Ev) (r : Nat) (rc : RouteCfg) (x : Bool) : v.SameSetting (v.checkRoute r rc x) := by
  unfold Ev.checkRoute
  dsimp only
  (repeat' split) <;> simp [Ev.SameSetting]

@[simp] theorem Ev.proxyItem_setting (v : Ev) (slot : Nat) (elem : Nat) (it : BndItem) (op : BitVec 4) :
    v.SameSetting (v.proxyItem slot elem it op) := by
  unfold Ev.proxyItem
  dsimp only
  (repeat' split) <;> simp [Ev.SameSetting]

@[simp] theorem Ev.freeSlot_setting (v : Ev) (slot elem : Nat) : v.SameSetting (v.freeSlot slot elem) := by
  simp [Ev.SameSetting, Ev.freeSlot]

@[simp] theorem Ev.lentFree_setting (v : Ev) (slot : Nat) (elem : Nat) (op : BitVec 4) (q : BitVec 4) :
    v.SameSetting (v.lentFree slot elem op q) := by
  unfold Ev.lentFree
  dsimp only
  (repeat' split) <;> simp [Ev.SameSetting]

@[simp] theorem Ev.lentLock_setting (v : Ev) (slot : Nat) (elem : Nat) (q : BitVec 4) : v.SameSetting (v.lentLock slot elem q) := by
  unfold Ev.lentLock
  dsimp only
  (repeat' split) <;> simp [Ev.SameSetting]

@[simp] theorem Ev.report_setting (v : Ev) (veh : Nat) (rs : List PosReport) : v.SameSetting (v.report veh rs) := by
  unfold Ev.report
  dsimp only
  (repeat' split) <;> simp [Ev.SameSetting]

@[simp] theorem Ev.putLimit_setting (v : Ev) (veh : Nat) (x : AuthRec) (l : Limit) : v.SameSetting (v.putLimit veh x l) := by
  simp [Ev.SameSetting, Ev.putLimit]

@[simp] theorem Ev.limit_setting (v : Ev) (veh : Nat) (a : AuthRec) : v.SameSetting (v.limit veh a) := by
  exact .ite _ (Ev.putLimit_setting ..) (.ite _ ((Ev.putLimit_setting ..).trans (Ev.raise_setting ..)) (Ev.putLimit_setting ..))

@[simp] theorem Ev.relimit_setting (v : Ev) : v.SameSetting v.relimit := by
  exact Ev.each_setting (fun v p => Ev.limit_setting ..) _ v

@[simp] theorem Ev.oneReport_setting (v : Ev) (r : PosReport) : v.SameSetting (v.oneReport r) := by
  simp [Ev.SameSetting, Ev.oneReport]

@[simp] theorem Ev.stage_setting (v : Ev) (c : Byte) (q : Request) : v.SameSetting (v.stage c q).1 := by
  unfold Ev.stage
  dsimp only
  (repeat' split) <;> simp [Ev.SameSetting]

@[simp] theorem Ev.retain_setting (v : Ev) (c : Byte) (kind : ObjKind) (obj state released : Nat) :
    v.SameSetting (v.retain c kind obj state released) := by
  unfold Ev.retain
  dsimp only
  (repeat' split) <;> simp [Ev.SameSetting]

@[simp] theorem Ev.reqThrow_setting (v : Ev) (id : Nat) (secs : List Nat) (arg : BitVec 4) (sup : Bool) :
    v.SameSetting (v.reqThrow id secs arg sup).1 := by
  unfold Ev.reqThrow
  dsimp only
  (repeat' split) <;> simp [Ev.SameSetting]

@[simp] theorem Ev.reqSet_setting (v : Ev) (id : Nat) (arg : BitVec 4) : v.SameSetting (v.reqSet id arg).1 := by
  unfold Ev.reqSet
  dsimp only
  (repeat' split) <;> simp [Ev.SameSetting]

@[simp] theorem Ev.reqMove_setting (v : Ev) (id : Nat) (npos : Nat) (deck guards : List Nat) (arg : BitVec 4) :
    v.SameSetting (v.reqMove id npos deck guards arg).1 := by
  unfold Ev.reqMove
  dsimp only
  (repeat' split) <;> simp [Ev.SameSetting]

@[simp] theorem Ev.reqBlock_setting (v : Ev) (id : Nat) : v.SameSetting (v.reqBlock id).1 := by
  unfold Ev.reqBlock
  dsimp only
  (repeat' split) <;> simp [Ev.SameSetting]

@[simp] theorem Ev.reqUnblock_setting (v : Ev) (id : Nat) (cfg : ClassCfg) : v.SameSetting (v.reqUnblock id cfg).1 := by
  unfold Ev.reqUnblock
  dsimp only
  (repeat' split) <;> simp [Ev.SameSetting]

@[simp] theorem Ev.reqSectionReset_setting (v : Ev) (id : Nat) (srcs : List SecSrc) (rec : Recovery) :
    v.SameSetting (v.reqSectionReset id srcs rec).1 := by
  unfold Ev.reqSectionReset
  dsimp only
  (repeat' split)
  case h_2.isFalse.isFalse => exact (Ev.each_setting (fun v d => by simp [Ev.SameSetting]) _ v).trans (Ev.modElem_setting ..)
  case h_3.isFalse => exact (Ev.each_setting (fun v d => by simp [Ev.SameSetting]) _ v).trans (Ev.modAux_setting ..)
  all_goals exact .refl v

@[simp] theorem Ev.reqZoneReset_setting (v : Ev) (id : Nat) (r : Tick) : v.SameSetting (v.reqZoneReset id r).1 := by
  unfold Ev.reqZoneReset
  dsimp only
  (repeat' split) <;> simp [Ev.SameSetting]

@[simp] theorem Ev.reqZoneAccess_setting (v : Ev) (id settleMs : Nat) (cond : Option Nat) (arg : BitVec 4) :
    v.SameSetting (v.reqZoneAccess id settleMs cond arg).1 := by
  unfold Ev.reqZoneAccess
  dsimp only
  (repeat' split) <;> simp [Ev.SameSetting]

@[simp] theorem Ev.reqRestore_setting (v : Ev) (id lampTicks : Nat) : v.SameSetting (v.reqRestore id lampTicks).1 := by
  unfold Ev.reqRestore
  dsimp only
  (repeat' split) <;> simp [Ev.SameSetting]

@[simp] theorem Ev.reqFlag_setting (v : Ev) (id : Nat) (settable : Bool) (arg : BitVec 4) :
    v.SameSetting (v.reqFlag id settable arg).1 := by
  unfold Ev.reqFlag
  dsimp only
  (repeat' split) <;> simp [Ev.SameSetting]

@[simp] theorem Ev.elemAct_setting (v : Ev) (c : Byte) (id : Nat) (cfg : ClassCfg) (arg : BitVec 4) (armTick : Option Tick) :
    v.SameSetting (v.elemAct c id cfg arg armTick).1 := by
  unfold Ev.elemAct
  (repeat' split) <;> simp [Ev.SameSetting]

@[simp] theorem Ev.elemReq_setting (v : Ev) (c : Byte) (q : Request) : v.SameSetting (v.elemReq c q).1 := by
  unfold Ev.elemReq
  dsimp only
  (repeat' split) <;> simp [Ev.SameSetting]

@[simp] theorem Ev.reqSetRoute_setting (v : Ev) (r : Nat) (rc : RouteCfg) (q : Request) : v.SameSetting (v.reqSetRoute r rc q).1 := by
  unfold Ev.reqSetRoute
  dsimp only
  (repeat' split) <;> simp [Ev.SameSetting]

@[simp] theorem Ev.reqCancel_setting (v : Ev) (r : Nat) (rc : RouteCfg) : v.SameSetting (v.reqCancel r rc).1 := by
  unfold Ev.reqCancel
  dsimp only
  (repeat' split) <;> simp [Ev.SameSetting]

@[simp] theorem Ev.reqEmergency_setting (v : Ev) (r : Nat) (rc : RouteCfg) : v.SameSetting (v.reqEmergency r rc).1 := by
  unfold Ev.reqEmergency
  dsimp only
  (repeat' split) <;> simp [Ev.SameSetting]

@[simp] theorem Ev.routeReq_setting (v : Ev) (c : Byte) (q : Request) : v.SameSetting (v.routeReq c q).1 := by
  unfold Ev.routeReq
  dsimp only
  (repeat' split) <;> simp [Ev.SameSetting]

@[simp] theorem Ev.slotReq_setting (v : Ev) (c : Byte) (q : Request) : v.SameSetting (v.slotReq c q).1 := by
  unfold Ev.slotReq
  dsimp only
  (repeat' split) <;> simp [Ev.SameSetting]

@[simp] theorem Ev.vehicleReq_setting (v : Ev) (c : Byte) (q : Request) : v.SameSetting (v.vehicleReq c q).1 := by
  unfold Ev.vehicleReq
  dsimp only
  (repeat' split) <;> simp [Ev.SameSetting]

@[simp] theorem Ev.settle_setting (v : Ev) : v.SameSetting v.settle := by
  simp [Ev.SameSetting, Ev.settle]

@[simp] theorem Ev.timerOut_setting (v : Ev) (id : Nat) (cfg : ClassCfg) : v.SameSetting (v.timerOut id cfg) := by
  unfold Ev.timerOut
  (repeat' split) <;> simp [Ev.SameSetting]

@[simp] theorem Ev.hearSlot_setting (v : Ev) (sc : SlotCfg) (i : BndItem) (op : BitVec 4) : v.SameSetting (v.hearSlot sc i op) := by
  unfold Ev.hearSlot
  dsimp only
  (repeat' split) <;> simp [Ev.SameSetting]

@[simp] theorem Ev.proxyRoute_setting (v : Ev) (slot elem : Nat) (i : BndItem) (op : BitVec 4) :
    v.SameSetting (v.proxyRoute slot elem i op) := by
  unfold Ev.proxyRoute
  dsimp only
  (repeat' split) <;> simp [Ev.SameSetting]

end Sys2Proof.Machine
end

section
/-!
SUPPORT. What each operation leaves of the addressed stores (the staging area, the chunks of a release, the host's ring), of the
lockout latch in AON, and of the output hold, where it changes the part of State that holds them.
-/

namespace Sys2Proof.Machine

/-! ### Through an `if` and through a fold -/

theorem foldl_keeps {α β : Type} {g : State → β} {f : State → α → State} (h : ∀ s a, g (f s a) = g s) (l : List α) (s : State) :
    g (l.foldl f s) = g s := by
  induction l generalizing s with
  | nil => rfl
  | cons a r ih => rw [List.foldl_cons, ih, h]

theorem foldl_fst_keeps {α β γ : Type} {g : State → γ} {f : State × β → α → State × β} (h : ∀ x a, g (f x a).1 = g x.1)
    (l : List α) (x : State × β) : g (l.foldl f x).1 = g x.1 := by
  induction l generalizing x with
  | nil => rfl
  | cons a r ih => rw [List.foldl_cons, ih, h]

@[simp] theorem Log.ring_ite (c : Prop) [Decidable c] (g h : Log) : (if c then g else h).ring = if c then g.ring else h.ring :=
  apply_ite _ c g h

@[simp] theorem Nvm.staging_ite (c : Prop) [Decidable c] (v w : Nvm) :
    (if c then v else w).staging = if c then v.staging else w.staging := apply_ite _ c v w

@[simp] theorem Nvm.relChunks_ite (c : Prop) [Decidable c] (v w : Nvm) :
    (if c then v else w).relChunks = if c then v.relChunks else w.relChunks := apply_ite _ c v w

@[simp] theorem Aon.latch_ite (c : Prop) [Decidable c] (a b : Aon) : (if c then a else b).latch = if c then a.latch else b.latch :=
  apply_ite _ c a b

@[simp] theorem ModeSt.outHold_ite (c : Prop) [Decidable c] (m n : ModeSt) :
    (if c then m else n).outHold = if c then m.outHold else n.outHold := apply_ite _ c m n

@[simp] theorem State.onPort_ring {s : State} {res : Fin 6} {m : Master} {rs : List Master} {a : HubAccess} {f : State → State}
    (h : ∀ t, (f t).log.ring = t.log.ring) : (s.onPort res m rs a f).log.ring = s.log.ring := by
  unfold State.onPort
  dsimp only
  (repeat' split) <;> simp [h]

@[simp] theorem State.onPort_latch {s : State} {res : Fin 6} {m : Master} {rs : List Master} {a : HubAccess} {f : State → State}
    (h : ∀ t, (f t).aon.latch = t.aon.latch) : (s.onPort res m rs a f).aon.latch = s.aon.latch := by
  unfold State.onPort
  dsimp only
  (repeat' split) <;> simp [h]

@[simp] theorem State.onPort_outHold {s : State} {res : Fin 6} {m : Master} {rs : List Master} {a : HubAccess} {f : State → State}
    (h : ∀ t, (f t).ms.outHold = t.ms.outHold) : (s.onPort res m rs a f).ms.outHold = s.ms.outHold := by
  unfold State.onPort
  dsimp only
  (repeat' split) <;> simp [h]

section
variable {α β : Type}

@[simp] theorem State.ring_foldl {f : State → α → State} (h : ∀ s a, (f s a).log.ring = s.log.ring) (l : List α) (s : State) :
    (l.foldl f s).log.ring = s.log.ring := foldl_keeps (g := fun s => s.log.ring) h l s

@[simp] theorem State.ring_foldl_fst {f : State × β → α → State × β} (h : ∀ x a, (f x a).1.log.ring = x.1.log.ring)
    (l : List α) (x : State × β) : (l.foldl f x).1.log.ring = x.1.log.ring := foldl_fst_keeps (g := fun s => s.log.ring) h l x

@[simp] theorem State.staging_foldl {f : State → α → State} (h : ∀ s a, (f s a).nvm.staging = s.nvm.staging) (l : List α)
    (s : State) : (l.foldl f s).nvm.staging = s.nvm.staging := foldl_keeps (g := fun s => s.nvm.staging) h l s

@[simp] theorem State.relChunks_foldl {f : State → α → State} (h : ∀ s a, (f s a).nvm.relChunks = s.nvm.relChunks) (l : List α)
    (s : State) : (l.foldl f s).nvm.relChunks = s.nvm.relChunks := foldl_keeps (g := fun s => s.nvm.relChunks) h l s

@[simp] theorem State.latch_foldl {f : State → α → State} (h : ∀ s a, (f s a).aon.latch = s.aon.latch) (l : List α)
    (s : State) : (l.foldl f s).aon.latch = s.aon.latch := foldl_keeps (g := fun s => s.aon.latch) h l s

@[simp] theorem State.outHold_foldl {f : State → α → State} (h : ∀ s a, (f s a).ms.outHold = s.ms.outHold) (l : List α)
    (s : State) : (l.foldl f s).ms.outHold = s.ms.outHold := foldl_keeps (g := fun s => s.ms.outHold) h l s

/-- A latch that no turn of a fold takes back. -/
theorem State.latched_foldl {f : State → α → State} (h : ∀ s a, s.aon.latch = true → (f s a).aon.latch = true) (l : List α)
    (s : State) (hs : s.aon.latch = true) : (l.foldl f s).aon.latch = true := by
  induction l generalizing s with
  | nil => exact hs
  | cons a r ih => exact ih _ (h _ _ hs)

end

/-! ### The log and the flash -/

@[simp] theorem Log.occ_ring (g : Log) (cls : RecClass) (n : Nat) : (g.occ cls n).ring = g.ring := by
  cases cls <;> rfl

theorem Log.cutFirst_ring {g h : Log} {f : Record → Bool} (hcut : g.cutFirst f = some h) : h.ring = g.ring := by
  obtain ⟨i, -, rfl⟩ := Option.map_eq_some_iff.mp hcut
  rfl

theorem Log.room_ring {g h : Log} (hroom : g.room = some h) : h.ring = g.ring := by
  have hevict {f : Record → Bool} {h : Log}
      (he : (g.cutFirst f).map (fun x => { x with tdrop := satInc 0xFFFFFFFF x.tdrop }) = some h) : h.ring = g.ring := by
    obtain ⟨x, hx, rfl⟩ := Option.map_eq_some_iff.mp he
    exact (rfl : _ = x.ring).trans (Log.cutFirst_ring hx)
  unfold Log.room at hroom
  dsimp only at hroom
  split at hroom
  · cases hroom
    rfl
  · split at hroom
    next x hx => exact hevict (Option.some.inj hroom ▸ hx)
    next => exact hevict hroom

@[simp] theorem Log.store_ring (g : Log) (r : Record) (form : RecForm) : (g.store r form).1.ring = g.ring := by
  unfold Log.store
  split
  next h hroom => simp [Log.room_ring hroom]
  next => split <;> rfl

@[simp] theorem Log.merge_ring (g : Log) (r : Record) : (g.merge r).ring = g.ring := by
  simp [Log.merge]

@[simp] theorem Log.replaceLast_ring (g : Log) (r : Record) : (g.replaceLast r).ring = g.ring := by
  cases hcut : g.cutFirst (fun x => sameKey x r && x.form == .last) with
  | none => simp [Log.replaceLast, hcut]
  | some h => simp [Log.replaceLast, hcut, Log.cutFirst_ring hcut]

@[simp] theorem Log.drop_ring (g : Log) : g.drop.ring = g.ring := rfl

@[simp] theorem Log.place_ring (g : Log) (r : Record) : (g.place r).1.ring = g.ring := by
  unfold Log.place
  dsimp only
  (repeat' split) <;> simp

@[simp] theorem Nvm.putRet_stores (v : Nvm) (r : RetRec) :
    (v.putRet r).staging = v.staging ∧ (v.putRet r).relChunks = v.relChunks := ⟨rfl, rfl⟩

@[simp] theorem Nvm.putAgeing_stores (v : Nvm) (d : DailyRec) :
    (v.putAgeing d).staging = v.staging ∧ (v.putAgeing d).relChunks = v.relChunks := ⟨rfl, rfl⟩

@[simp] theorem Nvm.convert_stores (v : Nvm) (fmt : BitVec 16) (which : PerStore Bool) :
    (v.convert fmt which).staging = v.staging ∧ (v.convert fmt which).relChunks = v.relChunks := ⟨rfl, rfl⟩

@[simp] theorem Nvm.putLog_stores (v : Nvm) (g : Log) :
    (v.putLog g).staging = v.staging ∧ (v.putLog g).relChunks = v.relChunks := by
  unfold Nvm.putLog
  (repeat' split) <;> simp

@[simp] theorem Nvm.adoptConv_stores (v : Nvm) :
    v.adoptConv.staging = v.staging ∧ v.adoptConv.relChunks = v.relChunks := by
  unfold Nvm.adoptConv
  split <;> exact ⟨rfl, rfl⟩

/-! ### The operations of State -/

@[simp] theorem State.passUs_keeps (s : State) (us : Nat) : (s.passUs us).aon.latch = s.aon.latch := by
  simp [State.passUs]

@[simp] theorem State.logStore_keeps (s : State) (r : Record) : (s.logStore r).log.ring = s.log.ring := by
  simp [State.logStore]

@[simp] theorem State.logPut_keeps (s : State) (r : Record) : (s.logPut r).log.ring = s.log.ring := by
  unfold State.logPut
  (repeat' split) <;> simp

@[simp] theorem State.holdLog_keeps (s : State) : s.holdLog.log.ring = s.log.ring := by
  simp [State.holdLog]

@[simp] theorem State.flushLog_keeps (s : State) : s.flushLog.log.ring = s.log.ring := by
  unfold State.flushLog
  (repeat' split) <;> simp

@[simp] theorem State.raise_keeps (s : State) (cls : RecClass) (code : Byte) (kind : ObjKind) (obj : Nat) (detail : List Byte) :
    (s.raise cls code kind obj detail).log.ring = s.log.ring := by
  simp [State.raise]

@[simp] theorem State.alarmLane_keeps (s : State) (code : Byte) (l : Lane) (detail : List Byte) :
    (s.alarmLane code l detail).log.ring = s.log.ring := by
  simp [State.alarmLane]

@[simp] theorem State.alarmNode_keeps (s : State) (code : Byte) (detail : List Byte) :
    (s.alarmNode code detail).log.ring = s.log.ring := by
  simp [State.alarmNode]

@[simp] theorem State.alarmChan_keeps (s : State) (code : Byte) (k : Chan) (detail : List Byte) :
    (s.alarmChan code k detail).log.ring = s.log.ring := by
  simp [State.alarmChan]

@[simp] theorem State.appendLatch_keeps (s : State) :
    s.appendLatch.nvm.staging = s.nvm.staging ∧ s.appendLatch.nvm.relChunks = s.nvm.relChunks ∧
    s.appendLatch.aon.latch = s.aon.latch := by
  simp [State.appendLatch]

@[simp] theorem State.appendRet_keeps (s : State) :
    s.appendRet.nvm.staging = s.nvm.staging ∧ s.appendRet.nvm.relChunks = s.nvm.relChunks := by
  simp [State.appendRet]

@[simp] theorem State.appendRetService_keeps (s : State) :
    s.appendRetService.nvm.staging = s.nvm.staging ∧ s.appendRetService.nvm.relChunks = s.nvm.relChunks ∧
    s.appendRetService.aon.latch = s.aon.latch := by
  simp [State.appendRetService]

@[simp] theorem State.flushAppends_keeps (s : State) :
    s.flushAppends.log.ring = s.log.ring ∧ s.flushAppends.nvm.staging = s.nvm.staging ∧
    s.flushAppends.nvm.relChunks = s.nvm.relChunks := by
  simp [State.flushAppends]

@[simp] theorem State.putBankRec_keeps (s : State) (f : BankRec → BankRec) :
    (s.putBankRec f).nvm.staging = s.nvm.staging ∧ (s.putBankRec f).nvm.relChunks = s.nvm.relChunks := by
  simp [State.putBankRec]

@[simp] theorem State.setBank_keeps (s : State) (b : Bool) (i : Option Image) :
    (s.setBank b i).nvm.staging = s.nvm.staging ∧ (s.setBank b i).nvm.relChunks = s.nvm.relChunks := by
  simp [State.setBank]

@[simp] theorem State.endTrial_keeps (s : State) (cause : BitVec 4) :
    (s.endTrial cause).log.ring = s.log.ring ∧ (s.endTrial cause).nvm.staging = s.nvm.staging ∧
    (s.endTrial cause).nvm.relChunks = s.nvm.relChunks := by
  simp [State.endTrial]

@[simp] theorem State.trialFailed_keeps (s : State) :
    s.trialFailed.log.ring = s.log.ring ∧ s.trialFailed.nvm.staging = s.nvm.staging ∧
    s.trialFailed.nvm.relChunks = s.nvm.relChunks := by
  simp [State.trialFailed]

@[simp] theorem State.restartOld_keeps (s : State) (l : Lane) :
    (s.restartOld l).nvm.staging = s.nvm.staging ∧ (s.restartOld l).nvm.relChunks = s.nvm.relChunks := by
  simp [State.restartOld]

@[simp] theorem State.latchFault_keeps (s : State) (src code lane : Byte) (detail : List Word) :
    (s.latchFault src code lane detail).aon.latch = s.aon.latch := by
  simp [State.latchFault]

@[simp] theorem State.setMode_keeps (s : State) (m : Mode) :
    (s.setMode m).log.ring = s.log.ring ∧ (s.setMode m).ms.outHold = s.ms.outHold := by
  simp [State.setMode]

@[simp] theorem State.setLatch_keeps (s : State) (cause : Byte) :
    (s.setLatch cause).log.ring = s.log.ring ∧ (s.setLatch cause).nvm.staging = s.nvm.staging ∧
    (s.setLatch cause).nvm.relChunks = s.nvm.relChunks ∧ (s.setLatch cause).ms.outHold = s.ms.outHold := by
  simp [State.setLatch]

@[simp] theorem State.setLatch_latched (s : State) (cause : Byte) (hs : s.aon.latch = true) : (s.setLatch cause).aon.latch = true := by
  simp [State.setLatch, hs]

@[simp] theorem State.moduleFault_keeps (s : State) (cause : Byte) (asking : BitVec 3) :
    (s.moduleFault cause asking).log.ring = s.log.ring ∧ (s.moduleFault cause asking).nvm.staging = s.nvm.staging ∧
    (s.moduleFault cause asking).nvm.relChunks = s.nvm.relChunks ∧ (s.moduleFault cause asking).ms.outHold = s.ms.outHold := by
  simp [State.moduleFault]

@[simp] theorem State.moduleFault_latched (s : State) (cause : Byte) (asking : BitVec 3) (hs : s.aon.latch = true) :
    (s.moduleFault cause asking).aon.latch = true := by
  simp [State.moduleFault, hs]

@[simp] theorem State.modeByVote_keeps (s : State) (cause : Byte) :
    (s.modeByVote cause).log.ring = s.log.ring ∧ (s.modeByVote cause).nvm.staging = s.nvm.staging ∧
    (s.modeByVote cause).nvm.relChunks = s.nvm.relChunks ∧ (s.modeByVote cause).ms.outHold = s.ms.outHold := by
  simp [State.modeByVote]

@[simp] theorem State.modeByVote_latched (s : State) (cause : Byte) (hs : s.aon.latch = true) :
    (s.modeByVote cause).aon.latch = true := by
  simp [State.modeByVote, hs]

@[simp] theorem State.disableLane_keeps (s : State) (l : Lane) :
    (s.disableLane l).nvm.staging = s.nvm.staging ∧ (s.disableLane l).nvm.relChunks = s.nvm.relChunks := by
  simp [State.disableLane]

@[simp] theorem State.exitLane_keeps (s : State) (l : Lane) (cause : BitVec 4) :
    (s.exitLane l cause).log.ring = s.log.ring ∧ (s.exitLane l cause).nvm.staging = s.nvm.staging ∧
    (s.exitLane l cause).nvm.relChunks = s.nvm.relChunks := by
  simp [State.exitLane]

@[simp] theorem State.failLane_keeps (s : State) (l : Lane) (cause : BitVec 4) :
    (s.failLane l cause).log.ring = s.log.ring ∧ (s.failLane l cause).nvm.staging = s.nvm.staging ∧
    (s.failLane l cause).nvm.relChunks = s.nvm.relChunks ∧ (s.failLane l cause).ms.outHold = s.ms.outHold := by
  simp [State.failLane]

@[simp] theorem State.failLane_latched (s : State) (l : Lane) (cause : BitVec 4) (hs : s.aon.latch = true) :
    (s.failLane l cause).aon.latch = true := by
  simp [State.failLane, hs]

@[simp] theorem State.laneReset_keeps (s : State) (l : Lane) :
    (s.laneReset l).nvm.staging = s.nvm.staging ∧ (s.laneReset l).nvm.relChunks = s.nvm.relChunks := by
  simp [State.laneReset]

@[simp] theorem State.laneReset_latched (s : State) (l : Lane) (hs : s.aon.latch = true) : (s.laneReset l).aon.latch = true := by
  simp [State.laneReset, hs]

@[simp] theorem State.proofFailed_keeps (s : State) (l : Lane) (test : Nat) :
    (s.proofFailed l test).log.ring = s.log.ring ∧ (s.proofFailed l test).nvm.staging = s.nvm.staging ∧
    (s.proofFailed l test).nvm.relChunks = s.nvm.relChunks := by
  simp [State.proofFailed]

@[simp] theorem State.proofFailed_latched (s : State) (l : Lane) (test : Nat) (hs : s.aon.latch = true) :
    (s.proofFailed l test).aon.latch = true := by
  simp [State.proofFailed, hs]

@[simp] theorem State.setSessBit_keeps (s : State) (ch : Fin 8) (on : Bool) : (s.setSessBit ch on).aon.latch = s.aon.latch := by
  simp [State.setSessBit]

@[simp] theorem State.collect_keeps (s : State) (act : BitVec 3) (desks : PerLane Desk) :
    (s.collect act desks).aon.latch = s.aon.latch := by
  unfold State.collect
  (repeat' split) <;> simp

@[simp] theorem State.desk_keeps (s : State) (f : Desk → Desk) : (s.desk f).aon.latch = s.aon.latch := by
  simp [State.desk]

@[simp] theorem State.posts_keeps (s : State) (ps : List Post) : (s.posts ps).aon.latch = s.aon.latch := by
  simp [State.posts]

@[simp] theorem State.countMsg_keeps (s : State) (m : ReadMsg) (found : MsgCheck) : (s.countMsg m found).log.ring = s.log.ring := by
  unfold State.countMsg
  dsimp only
  (repeat' split) <;> simp (disch := (intros; (repeat' split) <;> simp))

@[simp] theorem State.snapshot_keeps (s : State) : s.snapshot.ms.outHold = s.ms.outHold := by
  simp [State.snapshot]

@[simp] theorem State.afterHostr_keeps (s : State) : s.afterHostr.aon.latch = s.aon.latch := by
  simp [State.afterHostr]

@[simp] theorem State.putRec_keeps (s : State) (r : RecItem) : (s.putRec r).log.ring = s.log.ring := by
  simp [State.putRec]

@[simp] theorem State.putRecs_keeps (s : State) (rs : List RecItem) : (s.putRecs rs).log.ring = s.log.ring := by
  simp [State.putRecs]

@[simp] theorem State.voterFaults_keeps (s : State) (vs : List (Chan × Nat)) (asking : BitVec 3) :
    (s.voterFaults vs asking).log.ring = s.log.ring ∧ (s.voterFaults vs asking).nvm.staging = s.nvm.staging ∧
    (s.voterFaults vs asking).nvm.relChunks = s.nvm.relChunks ∧ (s.voterFaults vs asking).ms.outHold = s.ms.outHold := by
  unfold State.voterFaults
  (repeat' split) <;> simp

@[simp] theorem State.voterFaults_latched (s : State) (vs : List (Chan × Nat)) (asking : BitVec 3) (hs : s.aon.latch = true) :
    (s.voterFaults vs asking).aon.latch = true := by
  unfold State.voterFaults
  (repeat' split) <;> simp [hs]

@[simp] theorem State.locStep_keeps (s : State) (f : Loc → Loc) :
    (s.locStep f).log.ring = s.log.ring ∧ (s.locStep f).nvm.staging = s.nvm.staging ∧ (s.locStep f).nvm.relChunks = s.nvm.relChunks ∧
    (s.locStep f).ms.outHold = s.ms.outHold := by
  simp [State.locStep]

@[simp] theorem State.locStep_latched (s : State) (f : Loc → Loc) (hs : s.aon.latch = true) : (s.locStep f).aon.latch = true := by
  simp [State.locStep, hs]

@[simp] theorem State.checkReset_keeps (s : State) (l : Lane) :
    (s.checkReset l).log.ring = s.log.ring ∧ (s.checkReset l).nvm.staging = s.nvm.staging ∧
    (s.checkReset l).nvm.relChunks = s.nvm.relChunks := by
  simp [State.checkReset]

@[simp] theorem State.checkReset_latched (s : State) (l : Lane) (hs : s.aon.latch = true) : (s.checkReset l).aon.latch = true := by
  simp [State.checkReset, hs]

@[simp] theorem State.laneFault_keeps (s : State) (l : Lane) (src : BitVec 4) (diff : Option CmpDiff) :
    (s.laneFault l src diff).log.ring = s.log.ring ∧ (s.laneFault l src diff).nvm.staging = s.nvm.staging ∧
    (s.laneFault l src diff).nvm.relChunks = s.nvm.relChunks ∧ (s.laneFault l src diff).ms.outHold = s.ms.outHold := by
  simp [State.laneFault]

@[simp] theorem State.laneFault_latched (s : State) (l : Lane) (src : BitVec 4) (diff : Option CmpDiff) (hs : s.aon.latch = true) :
    (s.laneFault l src diff).aon.latch = true := by
  simp [State.laneFault, hs]

@[simp] theorem State.watchdogReset_keeps (s : State) (l : Lane) :
    (s.watchdogReset l).log.ring = s.log.ring ∧ (s.watchdogReset l).nvm.staging = s.nvm.staging ∧
    (s.watchdogReset l).nvm.relChunks = s.nvm.relChunks := by
  simp [State.watchdogReset]

@[simp] theorem State.watchdogReset_latched (s : State) (l : Lane) (hs : s.aon.latch = true) :
    (s.watchdogReset l).aon.latch = true := by
  simp [State.watchdogReset, hs]

@[simp] theorem State.copyFailed_keeps (s : State) (l : Lane) :
    (s.copyFailed l).log.ring = s.log.ring ∧ (s.copyFailed l).nvm.staging = s.nvm.staging ∧
    (s.copyFailed l).nvm.relChunks = s.nvm.relChunks := by
  simp [State.copyFailed]

@[simp] theorem State.eccFault_keeps (s : State) (l : Lane) (r : EccRead) :
    (s.eccFault l r).log.ring = s.log.ring ∧ (s.eccFault l r).nvm.staging = s.nvm.staging ∧
    (s.eccFault l r).nvm.relChunks = s.nvm.relChunks ∧ (s.eccFault l r).ms.outHold = s.ms.outHold := by
  simp [State.eccFault]

@[simp] theorem State.eccFault_latched (s : State) (l : Lane) (r : EccRead) (hs : s.aon.latch = true) :
    (s.eccFault l r).aon.latch = true := by
  simp [State.eccFault, hs]

@[simp] theorem State.lateTick_keeps (s : State) (l : Lane) : (s.lateTick l).log.ring = s.log.ring := by
  simp [State.lateTick]

@[simp] theorem State.countCe_keeps (s : State) (l : Lane) (n : Nat) : (s.countCe l n).log.ring = s.log.ring := by
  simp [State.countCe]

@[simp] theorem State.timNowLo_keeps (s : State) : s.timNowLo.aon.latch = s.aon.latch := by
  simp [State.timNowLo]

@[simp] theorem State.galSilence_keeps (s : State) : s.galSilence.log.ring = s.log.ring := by
  simp [State.galSilence]

@[simp] theorem State.alarmPort_keeps (s : State) (code : Byte) (p : Port) (detail : List Byte) :
    (s.alarmPort code p detail).log.ring = s.log.ring := by
  simp [State.alarmPort]

@[simp] theorem State.fullSilence_keeps (s : State) (code : BitVec 3) : (s.fullSilence code).log.ring = s.log.ring := by
  simp [State.fullSilence]

@[simp] theorem State.guard_keeps (s : State) : s.guard.log.ring = s.log.ring := by
  simp [State.guard]

@[simp] theorem State.accepted_keeps (s : State) (devNs : Int) : (s.accepted devNs).log.ring = s.log.ring := by
  simp [State.accepted]

@[simp] theorem State.retreat_keeps (s : State) : s.retreat.log.ring = s.log.ring := by
  simp [State.retreat]

@[simp] theorem State.bad_keeps (s : State) (p : Port) (corrupt : Bool) : (s.bad p corrupt).log.ring = s.log.ring := by
  simp [State.bad]

@[simp] theorem State.edgeDrop_keeps (s : State) (p : Port) : (s.edgeDrop p).log.ring = s.log.ring := by
  simp [State.edgeDrop]

@[simp] theorem State.sendOn_keeps (s : State) (q : Port) (resNs : Nat) (bs : List Byte) :
    (s.sendOn q resNs bs).log.ring = s.log.ring := by
  simp [State.sendOn]

@[simp] theorem State.forward_keeps (s : State) (p : Port) (resNs : Nat) (body : List Byte) :
    (s.forward p resNs body).log.ring = s.log.ring := by
  unfold State.forward
  (repeat' split) <;> simp

@[simp] theorem State.seeDuplicate_keeps (s : State) : s.seeDuplicate.log.ring = s.log.ring := by
  simp [State.seeDuplicate]

@[simp] theorem State.watchId_keeps (s : State) (body : List Byte) : (s.watchId body).log.ring = s.log.ring := by
  simp [State.watchId]

@[simp] theorem State.blockStart_keeps (s : State) : s.blockStart.log.ring = s.log.ring := by
  simp [State.blockStart]

@[simp] theorem State.sendAt_keeps (s : State) (p : Port) (e : DWord) (devNs : Int) (bs : List Byte) :
    (s.sendAt p e devNs bs).log.ring = s.log.ring := by
  simp [State.sendAt]

@[simp] theorem State.sendStream_keeps (s : State) (p : Port) (e : DWord) (devNs : Int) :
    (s.sendStream p e devNs).log.ring = s.log.ring := by
  unfold State.sendStream
  dsimp only
  (repeat' split) <;> simp (disch := (intros; (repeat' split) <;> simp))

@[simp] theorem State.sendBulk_keeps (s : State) (p : Port) (e : DWord) (devNs : Int) (c : StreamCfg) (dst : BitVec 12) (items : Nat) :
    (s.sendBulk p e devNs c dst items).log.ring = s.log.ring := by
  simp [State.sendBulk]

@[simp] theorem State.sendSlot_keeps (s : State) (p : Port) (e : DWord) (devNs : Int) :
    (s.sendSlot p e devNs).log.ring = s.log.ring := by
  unfold State.sendSlot
  (repeat' split) <;> simp

@[simp] theorem State.bootStart_keeps (s : State) :
    s.bootStart.nvm.staging = s.nvm.staging ∧ s.bootStart.nvm.relChunks = s.nvm.relChunks ∧ s.bootStart.aon.latch = s.aon.latch ∧
    s.bootStart.ms.outHold = s.ms.outHold := by
  simp [State.bootStart]

@[simp] theorem State.moduleReset_keeps (s : State) (kind warm : BitVec 4) :
    (s.moduleReset kind warm).log.ring = s.log.ring ∧ (s.moduleReset kind warm).nvm.staging = s.nvm.staging ∧
    (s.moduleReset kind warm).nvm.relChunks = s.nvm.relChunks ∧ (s.moduleReset kind warm).aon.latch = s.aon.latch := by
  simp [State.moduleReset]

@[simp] theorem State.moduleReset_outHold (s : State) (kind warm : BitVec 4) : (s.moduleReset kind warm).ms.outHold = true := by
  simp [State.moduleReset, State.reset, ModeSt.reset]

@[simp] theorem State.warmReset_keeps (s : State) (src : BitVec 4) :
    (s.warmReset src).log.ring = s.log.ring ∧ (s.warmReset src).nvm.staging = s.nvm.staging ∧
    (s.warmReset src).nvm.relChunks = s.nvm.relChunks ∧ (s.warmReset src).aon.latch = s.aon.latch := by
  simp [State.warmReset]

@[simp] theorem State.warmReset_held (s : State) (src : BitVec 4) (hs : s.ms.outHold = true) : (s.warmReset src).ms.outHold = true := by
  unfold State.warmReset
  split
  · simp
  · exact hs

@[simp] theorem State.restoreLog_keeps (s : State) :
    s.restoreLog.log.ring = s.log.ring ∧ s.restoreLog.nvm.staging = s.nvm.staging ∧ s.restoreLog.nvm.relChunks = s.nvm.relChunks := by
  unfold State.restoreLog
  (repeat' split) <;> simp

@[simp] theorem State.reportStore_keeps (s : State) :
    s.reportStore.log.ring = s.log.ring ∧ s.reportStore.nvm.staging = s.nvm.staging ∧
    s.reportStore.nvm.relChunks = s.nvm.relChunks := by
  unfold State.reportStore
  (repeat' split) <;> simp

@[simp] theorem State.powerOn_keeps (s : State) :
    s.powerOn.log.ring = s.log.ring ∧ s.powerOn.nvm.staging = s.nvm.staging ∧ s.powerOn.nvm.relChunks = s.nvm.relChunks := by
  simp [State.powerOn]

@[simp] theorem State.hostRegsReset_keeps (s : State) : s.hostRegsReset.log.ring = s.log.ring := by
  simp [State.hostRegsReset]

@[simp] theorem State.hostReset_keeps (s : State) : s.hostReset.log.ring = s.log.ring ∧ s.hostReset.aon.latch = s.aon.latch := by
  simp [State.hostReset]

@[simp] theorem State.tornRec_keeps (s : State) :
    s.tornRec.nvm.staging = s.nvm.staging ∧ s.tornRec.nvm.relChunks = s.nvm.relChunks := by
  simp [State.tornRec]

@[simp] theorem State.bootRecords_keeps (s : State) :
    s.bootRecords.log.ring = s.log.ring ∧ s.bootRecords.nvm.staging = s.nvm.staging ∧
    s.bootRecords.nvm.relChunks = s.nvm.relChunks := by
  simp [State.bootRecords]

@[simp] theorem State.bootCopy_keeps (s : State) (lockLow : Bool) :
    (s.bootCopy lockLow).nvm.staging = s.nvm.staging ∧ (s.bootCopy lockLow).nvm.relChunks = s.nvm.relChunks := by
  simp [State.bootCopy]

@[simp] theorem State.migrate_keeps (s : State) (i : Image) (trial : Bool) (can : PerStore Bool) :
    (s.migrate i trial can).log.ring = s.log.ring ∧ (s.migrate i trial can).nvm.staging = s.nvm.staging ∧
    (s.migrate i trial can).nvm.relChunks = s.nvm.relChunks := by
  simp [State.migrate]

@[simp] theorem State.bootRun_keeps (s : State) (i : Image) (b fallback : Bool) (can : PerStore Bool) (lanes : BitVec 3) :
    (s.bootRun i b fallback can lanes).log.ring = s.log.ring ∧ (s.bootRun i b fallback can lanes).nvm.staging = s.nvm.staging ∧
    (s.bootRun i b fallback can lanes).nvm.relChunks = s.nvm.relChunks ∧
    (s.bootRun i b fallback can lanes).ms.outHold = s.ms.outHold := by
  simp [State.bootRun]

@[simp] theorem State.bootEnd_keeps (s : State) :
    s.bootEnd.log.ring = s.log.ring ∧ s.bootEnd.nvm.staging = s.nvm.staging ∧ s.bootEnd.nvm.relChunks = s.nvm.relChunks ∧
    s.bootEnd.ms.outHold = s.ms.outHold := by
  simp [State.bootEnd]

@[simp] theorem State.bootFailed_keeps (s : State) : s.bootFailed.aon.latch = s.aon.latch ∧ s.bootFailed.ms.outHold = s.ms.outHold := by
  simp [State.bootFailed]

@[simp] theorem State.bootLoad_keeps (s : State) (loaded0 loaded1 : PerLane Bool) (c : Bool) (can : PerStore Bool) :
    (s.bootLoad loaded0 loaded1 c can).log.ring = s.log.ring ∧ (s.bootLoad loaded0 loaded1 c can).nvm.staging = s.nvm.staging ∧
    (s.bootLoad loaded0 loaded1 c can).nvm.relChunks = s.nvm.relChunks ∧
    (s.bootLoad loaded0 loaded1 c can).ms.outHold = s.ms.outHold := by
  unfold State.bootLoad
  dsimp only
  (repeat' split) <;> simp (disch := (intros; (repeat' split) <;> simp))

@[simp] theorem State.bootLoad_latched (s : State) (loaded0 loaded1 : PerLane Bool) (c : Bool) (can : PerStore Bool) (hs : s.aon.latch = true) :
    (s.bootLoad loaded0 loaded1 c can).aon.latch = true := by
  unfold State.bootLoad
  dsimp only
  split
  · simpa only [State.bootFailed_keeps] using hs
  · split
    · simpa only [State.bootFailed_keeps] using hs
    · split
      · simpa only [State.bootFailed_keeps] using hs
      · simp only [State.bootEnd_frame]
        split
        · exact State.setLatch_latched _ _ (by simpa only [State.loadImgRegs_frame, State.bootRun_frame] using hs)
        · simpa only [State.loadImgRegs_frame, State.bootRun_frame] using hs

@[simp] theorem State.kat_keeps (s : State) (l : Lane) (k : KatRead) : (s.kat l k).log.ring = s.log.ring := by
  simp [State.kat]

@[simp] theorem State.proveLane_keeps (s : State) (l : Lane) (o : ProveObs) :
    (s.proveLane l o).log.ring = s.log.ring ∧ (s.proveLane l o).nvm.staging = s.nvm.staging ∧
    (s.proveLane l o).nvm.relChunks = s.nvm.relChunks := by
  unfold State.proveLane
  dsimp only
  (repeat' split) <;> simp (disch := (intros; (repeat' split) <;> simp))

@[simp] theorem State.proveLane_latched (s : State) (l : Lane) (o : ProveObs) (hs : s.aon.latch = true) :
    (s.proveLane l o).aon.latch = true := by
  unfold State.proveLane
  dsimp only
  (repeat' split) <;> simp [hs]

@[simp] theorem State.lockAtRest_keeps (s : State) (cs : List (Chan × BitVec 4)) :
    (s.lockAtRest cs).log.ring = s.log.ring ∧ (s.lockAtRest cs).nvm.staging = s.nvm.staging ∧
    (s.lockAtRest cs).nvm.relChunks = s.nvm.relChunks ∧ (s.lockAtRest cs).ms.outHold = s.ms.outHold := by
  simp [State.lockAtRest]

@[simp] theorem State.lockAtRest_latched (s : State) (cs : List (Chan × BitVec 4)) (hs : s.aon.latch = true) :
    (s.lockAtRest cs).aon.latch = true := by
  exact State.latched_foldl (fun s p h => State.locStep_latched s _ h) cs s hs

@[simp] theorem State.proveMajority_keeps (s : State) (maj : List MajRead) (echo : List (Chan × EchoItem)) :
    (s.proveMajority maj echo).log.ring = s.log.ring ∧ (s.proveMajority maj echo).nvm.staging = s.nvm.staging ∧
    (s.proveMajority maj echo).nvm.relChunks = s.nvm.relChunks ∧ (s.proveMajority maj echo).ms.outHold = s.ms.outHold := by
  unfold State.proveMajority
  dsimp only
  split <;> simp

@[simp] theorem State.proveMajority_latched (s : State) (maj : List MajRead) (echo : List (Chan × EchoItem)) (hs : s.aon.latch = true) :
    (s.proveMajority maj echo).aon.latch = true := by
  unfold State.proveMajority
  dsimp only
  split
  · simp [hs]
  · simp [State.setLatch]

@[simp] theorem State.enterJoin_keeps (s : State) : s.enterJoin.log.ring = s.log.ring ∧ s.enterJoin.ms.outHold = s.ms.outHold := by
  simp [State.enterJoin]

@[simp] theorem State.domainsOff_keeps (s : State) :
    s.domainsOff.log.ring = s.log.ring ∧ s.domainsOff.nvm.staging = s.nvm.staging ∧ s.domainsOff.nvm.relChunks = s.nvm.relChunks ∧
    s.domainsOff.aon.latch = s.aon.latch ∧ s.domainsOff.ms.outHold = s.ms.outHold := by
  simp [State.domainsOff]

@[simp] theorem State.essential_keeps (s : State) (ms : Nat) :
    (s.essential ms).nvm.staging = s.nvm.staging ∧ (s.essential ms).nvm.relChunks = s.nvm.relChunks ∧
    (s.essential ms).aon.latch = s.aon.latch := by
  simp [State.essential]

@[simp] theorem State.archive_keeps (s : State) (n : Nat) :
    (s.archive n).nvm.staging = s.nvm.staging ∧ (s.archive n).nvm.relChunks = s.nvm.relChunks := by
  simp [State.archive]

@[simp] theorem State.abortCopy_keeps (s : State) :
    s.abortCopy.log.ring = s.log.ring ∧ s.abortCopy.nvm.staging = s.nvm.staging ∧ s.abortCopy.nvm.relChunks = s.nvm.relChunks := by
  simp [State.abortCopy]

@[simp] theorem State.countClear_keeps (s : State) (o : ResetOrigin) (did : Bool) : (s.countClear o did).log.ring = s.log.ring := by
  unfold State.countClear
  (repeat' split) <;> simp

@[simp] theorem State.clearLatch_keeps (s : State) :
    s.clearLatch.nvm.staging = s.nvm.staging ∧ s.clearLatch.nvm.relChunks = s.nvm.relChunks := by
  simp [State.clearLatch]

@[simp] theorem State.qualified_keeps (s : State) (o : ResetOrigin) (begun : Tick) :
    (s.qualified o begun).1.log.ring = s.log.ring ∧ (s.qualified o begun).1.nvm.staging = s.nvm.staging ∧
    (s.qualified o begun).1.nvm.relChunks = s.nvm.relChunks := by
  unfold State.qualified
  dsimp only
  (repeat' split) <;> simp (disch := (intros; (repeat' split) <;> simp))

@[simp] theorem State.countRetained_keeps (s : State) (cs : List (Fin 9)) :
    (s.countRetained cs).nvm.staging = s.nvm.staging ∧ (s.countRetained cs).nvm.relChunks = s.nvm.relChunks ∧
    (s.countRetained cs).aon.latch = s.aon.latch := by
  simp [State.countRetained]

@[simp] theorem State.takeResets_keeps (s : State) (rs : List (Option Chan × Tick × Byte × Request)) :
    (s.takeResets rs).log.ring = s.log.ring ∧ (s.takeResets rs).nvm.staging = s.nvm.staging ∧
    (s.takeResets rs).nvm.relChunks = s.nvm.relChunks := by
  unfold State.takeResets
  refine ⟨foldl_keeps (g := fun s => s.log.ring) (fun s r => ?_) rs s, foldl_keeps (g := fun s => s.nvm.staging) (fun s r => ?_) rs s,
    foldl_keeps (g := fun s => s.nvm.relChunks) (fun s r => ?_) rs s⟩ <;> dsimp only <;> (repeat' split) <;> simp

@[simp] theorem State.effects_keeps (s : State) (v : Ev) :
    (s.effects v).log.ring = s.log.ring ∧ (s.effects v).nvm.staging = s.nvm.staging ∧
    (s.effects v).nvm.relChunks = s.nvm.relChunks := by
  unfold State.effects
  dsimp only
  (repeat' split) <;> simp (disch := (intros; (repeat' split) <;> simp))

@[simp] theorem State.evaluated_keeps (s : State) (f : Ev → Ev) :
    (s.evaluated f).log.ring = s.log.ring ∧ (s.evaluated f).nvm.staging = s.nvm.staging ∧
    (s.evaluated f).nvm.relChunks = s.nvm.relChunks := by
  unfold State.evaluated
  dsimp only
  (repeat' split) <;> simp (disch := (intros; (repeat' split) <;> simp))

@[simp] theorem State.requested_keeps (s : State) (code : Byte) (q : Request) :
    (s.requested code q).log.ring = s.log.ring ∧ (s.requested code q).nvm.staging = s.nvm.staging ∧
    (s.requested code q).nvm.relChunks = s.nvm.relChunks := by
  unfold State.requested
  (repeat' split) <;> simp

@[simp] theorem State.bndItem_keeps (s : State) (i : BndItem) (op : BitVec 4) (f : Ev → SlotCfg → Ev) :
    (s.bndItem i op f).log.ring = s.log.ring ∧ (s.bndItem i op f).nvm.staging = s.nvm.staging ∧
    (s.bndItem i op f).nvm.relChunks = s.nvm.relChunks := by
  simp [State.bndItem]

@[simp] theorem State.logForwarded_keeps (s : State) (src : BitVec 12) (r : Record) : (s.logForwarded src r).log.ring = s.log.ring := by
  simp [State.logForwarded]

@[simp] theorem State.lostAlarm_keeps (s : State) : s.lostAlarm.log.ring = s.log.ring := by
  simp [State.lostAlarm]

@[simp] theorem State.timing_keeps (s : State) (f : RxTiming) (type : Byte) : (s.timing f type).1.log.ring = s.log.ring := by
  unfold State.timing
  dsimp only
  (repeat' split) <;> simp (disch := (intros; (repeat' split) <;> simp))

@[simp] theorem State.timeWarm_keeps (s : State) :
    s.timeWarm.log.ring = s.log.ring ∧ s.timeWarm.nvm.staging = s.nvm.staging ∧ s.timeWarm.nvm.relChunks = s.nvm.relChunks ∧
    s.timeWarm.aon.latch = s.aon.latch := by
  simp [State.timeWarm]

@[simp] theorem State.timeWarm_held (s : State) (hs : s.ms.outHold = true) : s.timeWarm.ms.outHold = true := by
  simp [State.timeWarm, hs]

@[simp] theorem State.forwardCycle_keeps (s : State) (p : Port) (body : List Byte) (c : Cycle) (resNs : Nat) :
    (s.forwardCycle p body c resNs).log.ring = s.log.ring := by
  unfold State.forwardCycle
  (repeat' split) <;> simp

@[simp] theorem State.sample_keeps (s : State) (p : Port) (c : Cycle) (rxNs : Nat) :
    (s.sample p c rxNs).log.ring = s.log.ring ∧ (s.sample p c rxNs).nvm.staging = s.nvm.staging ∧
    (s.sample p c rxNs).nvm.relChunks = s.nvm.relChunks ∧ (s.sample p c rxNs).aon.latch = s.aon.latch := by
  simp [State.sample]

@[simp] theorem State.sample_held (s : State) (p : Port) (c : Cycle) (rxNs : Nat) (hs : s.ms.outHold = true) :
    (s.sample p c rxNs).ms.outHold = true := by
  simp [State.sample, hs]

@[simp] theorem State.galleryDiffers_keeps (s : State) (g : Fin 8) : (s.galleryDiffers g).log.ring = s.log.ring := by
  simp [State.galleryDiffers]

@[simp] theorem State.separate_keeps (s : State) : s.separate.log.ring = s.log.ring := by
  simp [State.separate]

@[simp] theorem State.parentCycle_keeps (s : State) (p : Port) (c : Cycle) (rxNs : Nat) :
    (s.parentCycle p c rxNs).log.ring = s.log.ring := by
  simp [State.parentCycle]

@[simp] theorem State.takeCycle_keeps (s : State) (p : Port) (c : Cycle) (body : List Byte) (rxNs : Nat) :
    (s.takeCycle p c body rxNs).log.ring = s.log.ring ∧ (s.takeCycle p c body rxNs).nvm.staging = s.nvm.staging ∧
    (s.takeCycle p c body rxNs).nvm.relChunks = s.nvm.relChunks ∧ (s.takeCycle p c body rxNs).aon.latch = s.aon.latch := by
  simp [State.takeCycle]

@[simp] theorem State.takeCycle_held (s : State) (p : Port) (c : Cycle) (body : List Byte) (rxNs : Nat) (hs : s.ms.outHold = true) :
    (s.takeCycle p c body rxNs).ms.outHold = true := by
  simp [State.takeCycle, hs]

@[simp] theorem State.takeHeld_keeps (s : State) :
    s.takeHeld.log.ring = s.log.ring ∧ s.takeHeld.nvm.staging = s.nvm.staging ∧ s.takeHeld.nvm.relChunks = s.nvm.relChunks := by
  unfold State.takeHeld
  (repeat' split) <;> simp

@[simp] theorem State.ownCycle_keeps (s : State) (p : Port) (c : Cycle) (body : List Byte) (rxNs : Nat) :
    (s.ownCycle p c body rxNs).log.ring = s.log.ring ∧ (s.ownCycle p c body rxNs).nvm.staging = s.nvm.staging ∧
    (s.ownCycle p c body rxNs).nvm.relChunks = s.nvm.relChunks ∧ (s.ownCycle p c body rxNs).aon.latch = s.aon.latch := by
  simp [State.ownCycle]

@[simp] theorem State.ownCycle_held (s : State) (p : Port) (c : Cycle) (body : List Byte) (rxNs : Nat) (hs : s.ms.outHold = true) :
    (s.ownCycle p c body rxNs).ms.outHold = true := by
  simp [State.ownCycle, hs]

@[simp] theorem State.sendCycleAt_keeps (s : State) (c : Cycle) (p : Port) : (s.sendCycleAt c p).log.ring = s.log.ring := by
  unfold State.sendCycleAt
  (repeat' split) <;> simp

@[simp] theorem State.sendCycle_keeps (s : State) : s.sendCycle.log.ring = s.log.ring := by
  simp [State.sendCycle]

@[simp] theorem State.listenEnd_keeps (s : State) : s.listenEnd.aon.latch = s.aon.latch := by
  simp [State.listenEnd]

@[simp] theorem State.stepTo_keeps (s : State) (o : SeenCycle) :
    (s.stepTo o).aon.latch = s.aon.latch ∧ (s.stepTo o).ms.outHold = s.ms.outHold := by
  simp [State.stepTo]

@[simp] theorem State.joinParent_keeps (s : State) (o : SeenCycle) :
    (s.joinParent o).aon.latch = s.aon.latch ∧ (s.joinParent o).ms.outHold = s.ms.outHold := by
  simp [State.joinParent]

@[simp] theorem State.integrate_keeps (s : State) (o : SeenCycle) :
    (s.integrate o).aon.latch = s.aon.latch ∧ (s.integrate o).ms.outHold = s.ms.outHold := by
  simp [State.integrate]

@[simp] theorem State.judgeIdentity_keeps (s : State) (p : Port) : (s.judgeIdentity p).log.ring = s.log.ring := by
  simp [State.judgeIdentity]

@[simp] theorem State.neighbour_keeps (s : State) (p : Port) (n : BitVec 12) : (s.neighbour p n).log.ring = s.log.ring := by
  simp [State.neighbour]

@[simp] theorem State.sendDelay_keeps (s : State) (p : Port) (atNs : Nat) (bs : List Byte) :
    (s.sendDelay p atNs bs).log.ring = s.log.ring := by
  unfold State.sendDelay
  (repeat' split) <;> simp

@[simp] theorem State.putResult_keeps (s : State) (p : Port) (d : Int) : (s.putResult p d).log.ring = s.log.ring := by
  simp [State.putResult]

@[simp] theorem State.loseLink_keeps (s : State) (p : Port) : (s.loseLink p).log.ring = s.log.ring := by
  simp [State.loseLink]

@[simp] theorem State.useDelay_keeps (s : State) (p : Port) (d : Int) : (s.useDelay p d).log.ring = s.log.ring := by
  simp [State.useDelay]

@[simp] theorem State.startServo_keeps (s : State) (p : Port) (d : Int) :
    (s.startServo p d).aon.latch = s.aon.latch ∧ (s.startServo p d).ms.outHold = s.ms.outHold := by
  simp [State.startServo]

@[simp] theorem State.ppsLost_keeps (s : State) : s.ppsLost.log.ring = s.log.ring := by
  simp [State.ppsLost]

@[simp] theorem State.seeDual_keeps (s : State) : s.seeDual.log.ring = s.log.ring := by
  simp [State.seeDual]

@[simp] theorem State.adopt_keeps (s : State) (sh : Shadow) : (s.adopt sh).log.ring = s.log.ring := by
  unfold State.adopt
  dsimp only
  (repeat' split) <;> simp (disch := (intros; (repeat' split) <;> simp))

@[simp] theorem State.copyPairFailed_keeps (s : State) : s.copyPairFailed.log.ring = s.log.ring := by
  simp [State.copyPairFailed]

@[simp] theorem State.takeCopy_keeps (s : State) (items : List CopyItem) : (s.takeCopy items).log.ring = s.log.ring := by
  unfold State.takeCopy
  dsimp only
  (repeat' split) <;> simp (disch := (intros; (repeat' split) <;> simp))

@[simp] theorem State.gaveUp_keeps (s : State) (cause : BitVec 4) (claim : BitVec 2) (sync : BitVec 2) :
    (s.gaveUp cause claim sync).log.ring = s.log.ring ∧ (s.gaveUp cause claim sync).ms.outHold = s.ms.outHold := by
  simp [State.gaveUp]

@[simp] theorem State.readPeer_keeps (s : State) (sh : Shadow) :
    (s.readPeer sh).log.ring = s.log.ring ∧ (s.readPeer sh).ms.outHold = s.ms.outHold := by
  simp [State.readPeer]

@[simp] theorem State.claimActive_keeps (s : State) : s.claimActive.ms.outHold = s.ms.outHold := by
  simp [State.claimActive]

@[simp] theorem State.promote_keeps (s : State) (cause : Byte) :
    (s.promote cause).log.ring = s.log.ring ∧ (s.promote cause).ms.outHold = s.ms.outHold := by
  simp [State.promote]

@[simp] theorem State.yieldBy_keeps (s : State) (cause : BitVec 4) :
    (s.yieldBy cause).log.ring = s.log.ring ∧ (s.yieldBy cause).ms.outHold = s.ms.outHold := by
  simp [State.yieldBy]

@[simp] theorem State.pairClaims_keeps (s : State) : s.pairClaims.log.ring = s.log.ring := by
  unfold State.pairClaims
  (repeat' split) <;> simp

@[simp] theorem State.updReject_keeps (s : State) (reason : BitVec 4) : (s.updReject reason).log.ring = s.log.ring := by
  simp [State.updReject]

@[simp] theorem State.tryRelease_keeps (s : State) : s.tryRelease.log.ring = s.log.ring := by
  unfold State.tryRelease
  (repeat' split) <;> simp

@[simp] theorem State.putRelease_keeps (s : State) (c : Nat) (data : List Byte) : (s.putRelease c data).log.ring = s.log.ring := by
  unfold State.putRelease
  dsimp only
  split
  · split <;> simp
  · simp

@[simp] theorem State.takeUpdate_keeps (s : State) (i : UpdItem) : (s.takeUpdate i).log.ring = s.log.ring := by
  unfold State.takeUpdate
  (repeat' split) <;> simp

@[simp] theorem State.deliverBulk_keeps (s : State) (e : DWord) (fr : Frame) : (s.deliverBulk e fr).log.ring = s.log.ring := by
  cases h : fr.records.bind updItems <;> simp (disch := (intros; try simp)) [State.deliverBulk, h]

@[simp] theorem State.withdraw_keeps (s : State) (l : Lane) :
    (s.withdraw l).log.ring = s.log.ring ∧ (s.withdraw l).nvm.staging = s.nvm.staging ∧
    (s.withdraw l).nvm.relChunks = s.nvm.relChunks ∧ (s.withdraw l).ms.outHold = s.ms.outHold := by
  simp [State.withdraw]

@[simp] theorem State.withdraw_latched (s : State) (l : Lane) (hs : s.aon.latch = true) : (s.withdraw l).aon.latch = true := by
  simp [State.withdraw, hs]

@[simp] theorem State.takeLane_keeps (s : State) (l : Lane) :
    (s.takeLane l).log.ring = s.log.ring ∧ (s.takeLane l).nvm.staging = s.nvm.staging ∧
    (s.takeLane l).nvm.relChunks = s.nvm.relChunks ∧ (s.takeLane l).ms.outHold = s.ms.outHold := by
  simp [State.takeLane]

@[simp] theorem State.takeLane_latched (s : State) (l : Lane) (hs : s.aon.latch = true) : (s.takeLane l).aon.latch = true := by
  simp [State.takeLane, hs]

@[simp] theorem State.confirmImage_keeps (s : State) (rolling : Bool) :
    (s.confirmImage rolling).log.ring = s.log.ring ∧ (s.confirmImage rolling).nvm.staging = s.nvm.staging ∧
    (s.confirmImage rolling).nvm.relChunks = s.nvm.relChunks := by
  unfold State.confirmImage
  (repeat' split) <;> simp

@[simp] theorem State.dissentFailed_keeps (s : State) (side : Side) (cs : List Chan) :
    (s.dissentFailed side cs).log.ring = s.log.ring ∧ (s.dissentFailed side cs).nvm.staging = s.nvm.staging ∧
    (s.dissentFailed side cs).nvm.relChunks = s.nvm.relChunks ∧ (s.dissentFailed side cs).ms.outHold = s.ms.outHold := by
  simp [State.dissentFailed]

@[simp] theorem State.dissentFailed_latched (s : State) (side : Side) (cs : List Chan) (hs : s.aon.latch = true) :
    (s.dissentFailed side cs).aon.latch = true := by
  simp [State.dissentFailed, hs]

@[simp] theorem State.baseline_keeps (s : State) (die : Nat) (ro : List Nat) :
    (s.baseline die ro).nvm.staging = s.nvm.staging ∧ (s.baseline die ro).nvm.relChunks = s.nvm.relChunks := by
  simp [State.baseline]

@[simp] theorem State.estimate_keeps (s : State) : s.estimate.log.ring = s.log.ring := by
  simp [State.estimate]

@[simp] theorem State.bistGo_keeps (s : State) :
    s.bistGo.log.ring = s.log.ring ∧ s.bistGo.nvm.staging = s.nvm.staging ∧ s.bistGo.nvm.relChunks = s.nvm.relChunks ∧
    s.bistGo.ms.outHold = s.ms.outHold := by
  simp [State.bistGo]

@[simp] theorem State.bistGo_latched (s : State) (hs : s.aon.latch = true) : s.bistGo.aon.latch = true := by
  simp [State.bistGo, hs]

@[simp] theorem State.switchEdge_keeps (s : State) : s.switchEdge.log.ring = s.log.ring := by
  unfold State.switchEdge
  (repeat' split) <;> simp

@[simp] theorem State.exportOne_keeps {s : State} {p : Record × State} (h : s.exportOne = some p) : p.2.log.ring = s.log.ring := by
  unfold State.exportOne at h
  dsimp only at h
  split at h
  · cases h
  · cases h
    simp [Log.cut]

@[simp] theorem State.takeLogs_keeps (s : State) (n : Nat) (only : Bool) : (s.takeLogs n only).2.log.ring = s.log.ring := by
  induction n generalizing s with
  | zero => rfl
  | succ k ih =>
    unfold State.takeLogs
    split
    · rfl
    next r s1 h =>
      split
      · rfl
      · exact (ih s1).trans (State.exportOne_keeps h)

@[simp] theorem State.logReserve_keeps (s : State) (used : Nat) : (s.logReserve used).2.log.ring = s.log.ring := by
  simp [State.logReserve]

@[simp] theorem State.decideSwitch_keeps (s : State) :
    s.decideSwitch.log.ring = s.log.ring ∧ s.decideSwitch.aon.latch = s.aon.latch := by
  unfold State.decideSwitch
  (repeat' split) <;> simp

@[simp] theorem State.leaves_keeps (s : State) (l : Lane) (cause : BitVec 4) :
    (s.leaves l cause).log.ring = s.log.ring ∧ (s.leaves l cause).nvm.staging = s.nvm.staging ∧
    (s.leaves l cause).nvm.relChunks = s.nvm.relChunks := by
  unfold State.leaves
  (repeat' split) <;> simp

@[simp] theorem State.voted_keeps (s : State) (l : Lane) : (s.voted l).log.ring = s.log.ring := by
  unfold State.voted
  (repeat' split) <;> simp

@[simp] theorem State.tickMode_keeps (s : State) (able : BitVec 3) (split : Bool) :
    (s.tickMode able split).log.ring = s.log.ring ∧ (s.tickMode able split).nvm.staging = s.nvm.staging ∧
    (s.tickMode able split).nvm.relChunks = s.nvm.relChunks := by
  simp [State.tickMode]

@[simp] theorem State.vote_keeps (s : State) (obs : TickObs) (v : Verdict) :
    (s.vote obs v).log.ring = s.log.ring ∧ (s.vote obs v).nvm.staging = s.nvm.staging ∧
    (s.vote obs v).nvm.relChunks = s.nvm.relChunks := by
  simp [State.vote]

@[simp] theorem State.transFaults_keeps (s : State) (ts : List (Chan × Side)) :
    (s.transFaults ts).log.ring = s.log.ring ∧ (s.transFaults ts).nvm.staging = s.nvm.staging ∧
    (s.transFaults ts).nvm.relChunks = s.nvm.relChunks := by
  simp [State.transFaults]

@[simp] theorem State.tokenFaults_keeps (s : State) (cs : List Chan) :
    (s.tokenFaults cs).log.ring = s.log.ring ∧ (s.tokenFaults cs).nvm.staging = s.nvm.staging ∧
    (s.tokenFaults cs).nvm.relChunks = s.nvm.relChunks := by
  simp [State.tokenFaults]

@[simp] theorem State.supplyFault_keeps (s : State) (bs : List Bank) :
    (s.supplyFault bs).log.ring = s.log.ring ∧ (s.supplyFault bs).nvm.staging = s.nvm.staging ∧
    (s.supplyFault bs).nvm.relChunks = s.nvm.relChunks := by
  simp [State.supplyFault]

@[simp] theorem State.tickFaults_keeps (s : State) (obs : TickObs) (o : LaneOut) :
    (s.tickFaults obs o).log.ring = s.log.ring ∧ (s.tickFaults obs o).nvm.staging = s.nvm.staging ∧
    (s.tickFaults obs o).nvm.relChunks = s.nvm.relChunks := by
  simp [State.tickFaults]

@[simp] theorem State.edgeCounts_keeps (s : State) : s.edgeCounts.log.ring = s.log.ring := by
  simp [State.edgeCounts]

@[simp] theorem State.edgeClear_keeps (s : State) : (s.edgeClear).1.log.ring = s.log.ring := by
  simp (disch := (intros; (repeat' split) <;> simp)) [State.edgeClear]

@[simp] theorem State.edgeCopies_keeps (s : State) :
    s.edgeCopies.log.ring = s.log.ring ∧ s.edgeCopies.nvm.staging = s.nvm.staging ∧ s.edgeCopies.nvm.relChunks = s.nvm.relChunks := by
  simp [State.edgeCopies]

@[simp] theorem State.edgeSupply_keeps (s : State) (obs : TickObs) :
    (s.edgeSupply obs).nvm.staging = s.nvm.staging ∧ (s.edgeSupply obs).nvm.relChunks = s.nvm.relChunks := by
  simp [State.edgeSupply]

@[simp] theorem State.edge_keeps (s : State) :
    (s.edge).1.log.ring = s.log.ring ∧ (s.edge).1.nvm.staging = s.nvm.staging ∧ (s.edge).1.nvm.relChunks = s.nvm.relChunks := by
  simp [State.edge]

@[simp] theorem State.pairAdopt_keeps (s : State) (r : Reading) : (s.pairAdopt r).log.ring = s.log.ring := by
  unfold State.pairAdopt
  (repeat' split) <;> simp

@[simp] theorem State.pairTick_keeps (s : State) (r : Reading) (v : Verdict) (claimed : Bool) :
    (s.pairTick r v claimed).log.ring = s.log.ring := by
  unfold State.pairTick
  (repeat' split) <;> simp

@[simp] theorem State.eccTick_keeps (s : State) (obs : TickObs) (l : Lane) :
    (s.eccTick obs l).log.ring = s.log.ring ∧ (s.eccTick obs l).nvm.staging = s.nvm.staging ∧
    (s.eccTick obs l).nvm.relChunks = s.nvm.relChunks := by
  unfold State.eccTick
  dsimp only
  (repeat' split) <;> simp (disch := (intros; (repeat' split) <;> simp))

@[simp] theorem State.budgetTick_keeps (s : State) (ran : BitVec 3) (l : Lane) (o : LaneObs) :
    (s.budgetTick ran l o).log.ring = s.log.ring := by
  simp [State.budgetTick]

@[simp] theorem State.takenTick_keeps (s : State) :
    s.takenTick.nvm.staging = s.nvm.staging ∧ s.takenTick.nvm.relChunks = s.nvm.relChunks := by
  unfold State.takenTick
  (repeat' split) <;> simp

@[simp] theorem State.proofTick_keeps (s : State) :
    s.proofTick.nvm.staging = s.nvm.staging ∧ s.proofTick.nvm.relChunks = s.nvm.relChunks := by
  unfold State.proofTick
  (repeat' split) <;> simp

@[simp] theorem State.sessionTick_keeps (s : State) (r : Reading) (read : List (ReadMsg × MsgCheck)) :
    (s.sessionTick r read).log.ring = s.log.ring := by
  unfold State.sessionTick
  refine (State.ring_foldl (fun s ch => ?_) _ _).trans ((State.ring_foldl (fun s p => ?_) _ _).trans (State.ring_foldl (fun s x => ?_) _ _))
  · split <;> simp
  · split <;> simp
  · simp

@[simp] theorem State.logTick_keeps (s : State) (r : Reading) : (s.logTick r).log.ring = s.log.ring := by
  simp [State.logTick]

@[simp] theorem State.housekeep_keeps (s : State) (obs : TickObs) (o : LaneOut) (late : List Post) (read : List (ReadMsg × MsgCheck)) :
    (s.housekeep obs o late read).log.ring = s.log.ring ∧ (s.housekeep obs o late read).nvm.staging = s.nvm.staging ∧
    (s.housekeep obs o late read).nvm.relChunks = s.nvm.relChunks := by
  simp [State.housekeep]

@[simp] theorem State.laneP5_keeps (s : State) (obs : TickObs) (ran : BitVec 3) :
    (s.laneP5 obs ran).log.ring = s.log.ring ∧ (s.laneP5 obs ran).nvm.staging = s.nvm.staging ∧
    (s.laneP5 obs ran).nvm.relChunks = s.nvm.relChunks := by
  simp [State.laneP5]

@[simp] theorem State.phases_keeps (s : State) (seen : TickObs) (late : List Post) :
    (s.phases seen late).nvm.staging = s.nvm.staging ∧ (s.phases seen late).nvm.relChunks = s.nvm.relChunks := by
  simp [State.phases]

@[simp] theorem State.runTick_keeps (s : State) (obs : TickObs) :
    (s.runTick obs).nvm.staging = s.nvm.staging ∧ (s.runTick obs).nvm.relChunks = s.nvm.relChunks := by
  simp [State.runTick]

@[simp] theorem State.clearMod_keeps (s : State) (ofs : Nat) :
    (s.clearMod ofs).aon.latch = s.aon.latch ∧ (s.clearMod ofs).ms.outHold = s.ms.outHold := by
  simp [State.clearMod]

@[simp] theorem State.clearLog_keeps (s : State) (ofs : Nat) : (s.clearLog ofs).log.ring = s.log.ring := by
  simp [State.clearLog]

@[simp] theorem State.bar0Clear_keeps (s : State) (ofs : Nat) :
    (s.bar0Clear ofs).log.ring = s.log.ring ∧ (s.bar0Clear ofs).aon.latch = s.aon.latch ∧
    (s.bar0Clear ofs).ms.outHold = s.ms.outHold := by
  simp [State.bar0Clear]

@[simp] theorem State.plainRead_keeps (s : State) (bar : Bar) (ofs : Nat) :
    (s.plainRead bar ofs).log.ring = s.log.ring ∧ (s.plainRead bar ofs).aon.latch = s.aon.latch ∧
    (s.plainRead bar ofs).ms.outHold = s.ms.outHold := by
  unfold State.plainRead
  (repeat' split) <;> simp

@[simp] theorem State.hostRead2_keeps (s : State) (ofs : Nat) :
    (s.hostRead2 ofs).log.ring = s.log.ring ∧ (s.hostRead2 ofs).aon.latch = s.aon.latch ∧
    (s.hostRead2 ofs).ms.outHold = s.ms.outHold := by
  unfold State.hostRead2
  (repeat' split) <;> simp

@[simp] theorem State.hostRead0_keeps (s : State) (ofs : Nat) :
    (s.hostRead0 ofs).log.ring = s.log.ring ∧ (s.hostRead0 ofs).aon.latch = s.aon.latch ∧
    (s.hostRead0 ofs).ms.outHold = s.ms.outHold := by
  unfold State.hostRead0
  (repeat' split) <;> simp

@[simp] theorem State.hostRead_keeps (s : State) (bar : Bar) (ofs : Nat) :
    (s.hostRead bar ofs).log.ring = s.log.ring ∧ (s.hostRead bar ofs).aon.latch = s.aon.latch ∧
    (s.hostRead bar ofs).ms.outHold = s.ms.outHold := by
  unfold State.hostRead
  (repeat' split) <;> simp

@[simp] theorem State.writeLog_keeps (s : State) (ofs : Nat) (val : Word) : (s.writeLog ofs val).log.ring = s.log.ring := by
  simp [State.writeLog]

@[simp] theorem State.writeBist_keeps (s : State) (val : Word) :
    (s.writeBist val).log.ring = s.log.ring ∧ (s.writeBist val).nvm.staging = s.nvm.staging ∧
    (s.writeBist val).nvm.relChunks = s.nvm.relChunks ∧ (s.writeBist val).ms.outHold = s.ms.outHold := by
  simp [State.writeBist]

@[simp] theorem State.writeBist_latched (s : State) (val : Word) (hs : s.aon.latch = true) : (s.writeBist val).aon.latch = true := by
  simp [State.writeBist, hs]

@[simp] theorem State.hostWrite0_keeps (s : State) (ofs : Nat) (val : Word) :
    (s.hostWrite0 ofs val).log.ring = s.log.ring ∧ (s.hostWrite0 ofs val).nvm.staging = s.nvm.staging ∧
    (s.hostWrite0 ofs val).nvm.relChunks = s.nvm.relChunks ∧ (s.hostWrite0 ofs val).ms.outHold = s.ms.outHold := by
  simp [State.hostWrite0]

@[simp] theorem State.hostWrite0_latched (s : State) (ofs : Nat) (val : Word) (hs : s.aon.latch = true) :
    (s.hostWrite0 ofs val).aon.latch = true := by
  simp [State.hostWrite0, hs]

@[simp] theorem State.hostWrite_keeps (s : State) (bar : Bar) (ofs : Nat) (val : Word) :
    (s.hostWrite bar ofs val).log.ring = s.log.ring ∧ (s.hostWrite bar ofs val).nvm.staging = s.nvm.staging ∧
    (s.hostWrite bar ofs val).nvm.relChunks = s.nvm.relChunks ∧ (s.hostWrite bar ofs val).ms.outHold = s.ms.outHold := by
  unfold State.hostWrite
  (repeat' split) <;> simp

@[simp] theorem State.hostWrite_latched (s : State) (bar : Bar) (ofs : Nat) (val : Word) (hs : s.aon.latch = true) :
    (s.hostWrite bar ofs val).aon.latch = true := by
  unfold State.hostWrite
  (repeat' split) <;> simp [hs]

end Sys2Proof.Machine
end

section
/-!
SUPPORT. The operations of State that need more than their own equation: those that write an addressed store, and those through which a
reset request reaches the lockout latch and the output hold.
-/

namespace Sys2Proof.Machine

/-! ### The addressed stores (StoresCanonical) -/

theorem foldl_invariant {α β : Type} {p : β → Prop} {f : β → α → β} (h : ∀ b a, p b → p (f b a)) (l : List α) {b : β} (hb : p b) :
    p (l.foldl f b) := by
  induction l generalizing b with
  | nil => exact hb
  | cons a r ih => exact ih (h b a hb)

theorem StoresCanonical.of_eq {s t : State} (hs : StoresCanonical s) (hring : t.log.ring = s.log.ring)
    (hstaging : t.nvm.staging = s.nvm.staging) (hchunks : t.nvm.relChunks = s.nvm.relChunks) : StoresCanonical t := by
  simpa only [StoresCanonical, hring, hstaging, hchunks] using hs

theorem State.ringPut_ring (s : State) (r : Record) : (s.ringPut r).log.ring = s.log.ring.set s.log.head r := by
  unfold State.ringPut
  dsimp only
  split <;> simp

theorem State.ringPut_canonical {s : State} (r : Record) (hs : StoresCanonical s) : StoresCanonical (s.ringPut r) := by
  obtain ⟨hstaging, hchunks, hring⟩ := hs
  refine ⟨?_, ?_, ?_⟩
  · simpa using hstaging
  · simpa using hchunks
  · rw [State.ringPut_ring]
    exact AMap.set_wf _ _ hring

theorem State.ringCopy_canonical {s : State} (r : Record) (hs : StoresCanonical s) : StoresCanonical (s.ringCopy r) := by
  unfold State.ringCopy
  split
  · exact State.ringPut_canonical r hs
  · exact hs

theorem State.modRunK_canonical {s : State} (f : LaneK → LaneK) (hs : StoresCanonical s) : StoresCanonical (s.modRunK f) :=
  hs.of_eq (by simp) (by simp) (by simp)

theorem State.sealAll_canonical {s : State} (who : BitVec 3) (outs : PerLane LaneOut) (hs : StoresCanonical s) :
    StoresCanonical (s.sealAll who outs) := by
  unfold State.sealAll
  split
  · exact hs
  · extract_lets logs _ s1 one s2 s3 _ _
    have hlogs : StoresCanonical logs.2 := by
      dsimp only [logs]
      split
      · exact hs.of_eq (by simp) (by simp) (by simp)
      · exact hs
    have hone (t : State) (c : StreamCfg) (ht : StoresCanonical t) : StoresCanonical (one t c) := by
      dsimp only [one]
      split
      · exact ht
      · exact ht.of_eq (by simp) (by simp) (by simp)
    have hs2 : StoresCanonical s2 := foldl_invariant hone _ (show StoresCanonical s1 from hlogs)
    have hs3 : StoresCanonical s3 := State.modRunK_canonical _ (foldl_invariant (fun t r => State.ringCopy_canonical r) _ hs2)
    exact hs3

theorem State.phases_canonical {s : State} (seen : TickObs) (late : List Post) (hs : StoresCanonical s) :
    StoresCanonical (s.phases seen late) := by
  unfold State.phases
  extract_lets obs members blocks echoes agrs rds first read claimed s1 _ _ s2 evaluate outs0 v s3 lead yields _ outs o s4 who s5
    checked _ _ s6 s7 s8 s9 s10 s11 s12 s13
  have h5 : StoresCanonical s5 := by
    refine foldl_invariant (fun t l ht => ?_) _ (hs.of_eq (by simp [s4, s3, s2, s1]) (by simp [s4, s3, s2, s1]) (by simp [s4, s3, s2, s1]))
    split
    · exact ht.of_eq (by simp) (by simp) (by simp)
    · exact ht
  have h6 : StoresCanonical s6 := h5.of_eq (by simp [s6, checked]) (by simp [s6, checked]) (by simp [s6, checked])
  have h7 : StoresCanonical s7 := by
    dsimp only [s7]
    split
    · exact h6
    · exact h6.of_eq (by simp) (by simp) (by simp)
  have h8 : StoresCanonical s8 := h7.of_eq (by simp [s8]) (by simp [s8]) (by simp [s8])
  have h9 : StoresCanonical s9 := by
    dsimp only [s9]
    split
    · exact h8.of_eq (by simp) (by simp) (by simp)
    · exact h8
  have h10 : StoresCanonical s10 := h9.of_eq (by simp [s10]) (by simp [s10]) (by simp [s10])
  have h11 : StoresCanonical s11 := by
    have hflush {t : State} (ht : StoresCanonical t) : StoresCanonical t.writePair.flushLog :=
      ht.of_eq (by simp) (by simp) (by simp)
    refine hflush (State.sealAll_canonical _ _ ?_)
    split
    · exact h10.of_eq (by simp) (by simp) (by simp)
    · exact h10.of_eq (by simp) (by simp) (by simp)
  refine h11.of_eq ?_ ?_ ?_ <;> dsimp only [s13, s12] <;> split <;> simp

theorem State.runTick_canonical {s : State} (obs : TickObs) (hs : StoresCanonical s) : StoresCanonical (s.runTick obs) := by
  have hsources (t : State) (ht : StoresCanonical t) : StoresCanonical t.tickSources := ht.of_eq (by simp) (by simp) (by simp)
  unfold State.runTick
  extract_lets e s1 role s2
  have h1 : StoresCanonical s1 := hs.of_eq (by simp [s1, e]) (by simp [s1, e]) (by simp [s1, e])
  split
  · split
    · exact hsources _ (State.phases_canonical _ _ (h1.of_eq (by simp) (by simp) (by simp)))
    · exact h1.of_eq (by simp) (by simp) (by simp)
  · refine hsources _ (State.phases_canonical _ _ (h1.of_eq ?_ ?_ ?_)) <;> dsimp only [s2] <;> split <;> simp [role]

theorem State.tryRelease_canonical {s : State} (hs : StoresCanonical s) : StoresCanonical s.tryRelease := by
  obtain ⟨hstaging, hchunks, hring⟩ := id hs
  unfold State.tryRelease
  split
  · dsimp only
    split
    · exact hs
    · split
      · exact hs
      · split
        · refine ⟨?_, ?_, ?_⟩
          · simpa using hstaging
          · simp [AMap.wf]
          · simpa using hring
        · split
          · exact hs.of_eq (by simp) (by simp) (by simp)
          · exact hs
  · exact hs

theorem State.putChunk_canonical {s : State} (c : Nat) (data : List Byte) (hs : StoresCanonical s) :
    StoresCanonical (s.putChunk c data) := by
  obtain ⟨hstaging, hchunks, hring⟩ := id hs
  unfold State.putChunk
  split
  · split
    · exact hs.of_eq (by simp) (by simp) (by simp)
    · exact hs
  · split
    · exact hs
    · refine StoresCanonical.of_eq (s := { s with nvm := { s.nvm with staging := s.nvm.staging.set c (padTo 56 data) } }) ?_
        (by simp) (by simp) (by simp)
      exact ⟨AMap.set_wf _ _ hstaging, hchunks, hring⟩

theorem State.putRelease_canonical {s : State} (c : Nat) (data : List Byte) (hs : StoresCanonical s) :
    StoresCanonical (s.putRelease c data) := by
  obtain ⟨hstaging, hchunks, hring⟩ := id hs
  have hset (o : AMap (List Byte)) (ho : o.wf = true) : StoresCanonical { s with nvm := { s.nvm with relChunks := o.set c (padTo 56 data) } } :=
    ⟨hstaging, AMap.set_wf _ _ ho, hring⟩
  have hs1 := hset (if (s.nvm.relChunks.get? c).any (fun d => d != padTo 56 data) then [] else s.nvm.relChunks)
    (by split <;> [rfl; exact hchunks])
  unfold State.putRelease
  dsimp only
  split
  · split
    · exact hs1
    · exact State.tryRelease_canonical (hs1.of_eq rfl rfl rfl)
  · exact hs1

theorem State.takeUpdate_canonical {s : State} (i : UpdItem) (hs : StoresCanonical s) : StoresCanonical (s.takeUpdate i) := by
  obtain ⟨hstaging, hchunks, hring⟩ := id hs
  unfold State.takeUpdate
  split
  · exact hs
  · split
    · split
      · exact hs
      · exact ⟨hstaging, rfl, hring⟩
    · split
      · exact State.putRelease_canonical _ _ hs
      · split
        · exact State.putChunk_canonical _ _ hs
        · exact hs

theorem State.deliverBulk_canonical {s : State} (e : DWord) (fr : Frame) (hs : StoresCanonical s) :
    StoresCanonical (s.deliverBulk e fr) := by
  unfold State.deliverBulk
  extract_lets key _ s1
  split
  · exact hs
  · split
    · exact foldl_invariant (fun t i ht => State.takeUpdate_canonical i ht) _ (show StoresCanonical s1 from hs)
    · exact hs

/-! ### Requests whose effect is the module's (R52, R56, R272, R273) -/

theorem Ev.galleryReq_resets (v : Ev) (q : Request) : (v.galleryReq q).1.resets = v.resets := by
  unfold Ev.galleryReq
  dsimp only
  (repeat' split) <;> rfl

theorem Ev.lockReq_resets (v : Ev) (c : Byte) (q : Request) : (v.lockReq c q).1.resets = v.resets := by
  have hstage := (v.stage_setting c q).2.2.2.2.2.1
  unfold Ev.lockReq
  dsimp only
  (repeat' split) <;> exact hstage

/-- A CHANNEL RESET that passes the common test names a channel (R272). -/
theorem Ev.channel_of_common {v : Ev} {q : Request} (h : v.common 0x39 q = 0) : q.target.toNat - 1 < 48 := by
  have harg : v.argOk 0x39 q = true := by
    by_contra hbad
    simp [Ev.common] at h
    grind
  simp [Ev.argOk] at harg
  by_contra hbig
  simp [Vector.getElem?_eq_none (Nat.le_of_not_lt hbig)] at harg

/-- The accepted requests that could clear the latch: those for the whole module. -/
def Ev.channelsOnly (v : Ev) : Prop := ∀ r ∈ v.resets, r.1.isSome = true

theorem Ev.channelsOnly_of_resets {v w : Ev} (h : w.resets = v.resets) (hv : v.channelsOnly) : w.channelsOnly := by
  simpa only [Ev.channelsOnly, h] using hv

theorem Ev.channelsOnly_resetReq {v : Ev} {c : Byte} {q : Request} (hc : c ≠ 0x38) (hreset : isResetCode c = true)
    (hcommon : v.common c q = 0) (hv : v.channelsOnly) : (v.resetReq c q).1.channelsOnly := by
  obtain rfl : c = 0x39 := Or.resolve_left (by simpa [isResetCode] using hreset) hc
  have hch := Ev.channel_of_common hcommon
  have hstage : (v.stage 0x39 q).1.channelsOnly := Ev.channelsOnly_of_resets (by simp) hv
  unfold Ev.resetReq
  dsimp only
  split
  · exact hstage
  · intro r hr
    simp only [List.mem_append, List.mem_singleton] at hr
    rcases hr with hold | rfl
    · exact hstage r hold
    · simp [hch]

/-- No request but MODULE RESET asks for more than a channel. -/
theorem Ev.channelsOnly_request {v : Ev} {c : Byte} (q : Request) (hc : c ≠ 0x38) (hv : v.channelsOnly) :
    (v.request c q).channelsOnly := by
  have hkeep {w : Ev} (h : w.resets = v.resets) : w.channelsOnly := Ev.channelsOnly_of_resets h hv
  unfold Ev.request
  extract_lets pre r
  have hr : r.1.channelsOnly := by
    dsimp only [r]
    split
    · exact hv
    next hpre =>
      have hcommon : v.common c q = 0 := by simpa [pre] using hpre
      split
      · exact hkeep (by simp)
      · split
        · exact hkeep (by simp)
        · split
          next hreset => exact Ev.channelsOnly_resetReq hc hreset hcommon hv
          next =>
            split
            · exact hkeep (by simp)
            · split
              · exact hkeep (by simp)
              · split
                · exact hkeep (Ev.galleryReq_resets v q)
                · exact hkeep (Ev.lockReq_resets v c q)
  split <;> exact hr

/-! ### The latch and the hold under a request (R46, R51, R56, R57) -/

/-- Only a request for the whole module clears the latch. -/
theorem State.qualified_channel_latched {s : State} (ch : Chan) (begun : Tick) (hs : s.aon.latch = true) :
    (s.qualified (.twoStep (some ch)) begun).1.aon.latch = true := by
  unfold State.qualified
  split <;> simp [hs]

theorem State.qualified_held {s : State} (o : ResetOrigin) (begun : Tick) (hs : s.ms.outHold = true) :
    (s.qualified o begun).1.ms.outHold = true := by
  unfold State.qualified
  split
  · exact hs
  · exact hs
  · dsimp only
    (repeat' split) <;> simp [hs]
  · simpa using hs

theorem State.takeResets_latched {s : State} {rs : List (Option Chan × Tick × Byte × Request)} (hrs : ∀ r ∈ rs, r.1.isSome = true)
    (hs : s.aon.latch = true) : (s.takeResets rs).aon.latch = true := by
  unfold State.takeResets
  induction rs generalizing s with
  | nil => exact hs
  | cons r rest ih =>
    obtain ⟨ch, hch⟩ := Option.isSome_iff_exists.mp (hrs r (by simp))
    refine ih (fun x hx => hrs x (by simp [hx])) ?_
    have hq := State.qualified_channel_latched ch r.2.1 hs
    rw [← hch] at hq
    dsimp only
    split
    · split
      · exact hq
      · exact hq
    · exact hs

theorem State.takeResets_held {s : State} (rs : List (Option Chan × Tick × Byte × Request)) (hs : s.ms.outHold = true) :
    (s.takeResets rs).ms.outHold = true := by
  refine foldl_invariant (p := fun t : State => t.ms.outHold = true) (fun t r ht => ?_) rs hs
  have hq := State.qualified_held (.twoStep r.1) r.2.1 ht
  dsimp only
  split
  · split
    · exact hq
    · exact hq
  · exact ht

theorem State.effects_latched {s : State} {v : Ev} (hv : v.channelsOnly) (hs : s.aon.latch = true) :
    (s.effects v).aon.latch = true := by
  unfold State.effects
  refine State.takeResets_latched hv ?_
  dsimp only
  split <;> simpa using hs

theorem State.effects_held {s : State} (v : Ev) (hs : s.ms.outHold = true) : (s.effects v).ms.outHold = true := by
  unfold State.effects
  refine State.takeResets_held _ ?_
  dsimp only
  split <;> simpa using hs

theorem State.evaluated_latched {s : State} {f : Ev → Ev} (hf : ∀ v, v.channelsOnly → (f v).channelsOnly) (hs : s.aon.latch = true) :
    (s.evaluated f).aon.latch = true := by
  unfold State.evaluated
  refine State.effects_latched ?_ ?_
  · rw [PerLane.get_ofFn]
    exact hf _ (by simp [Ev.channelsOnly, State.evOf])
  · split <;> simpa using hs

theorem State.evaluated_held {s : State} (f : Ev → Ev) (hs : s.ms.outHold = true) : (s.evaluated f).ms.outHold = true := by
  unfold State.evaluated
  refine State.effects_held _ ?_
  split <;> simpa using hs

theorem State.requested_latched {s : State} {code : Byte} (q : Request) (hcode : code ≠ 0x38) (hs : s.aon.latch = true) :
    (s.requested code q).aon.latch = true := by
  unfold State.requested
  split
  · split
    · exact hs
    · exact State.evaluated_latched
        (fun v hv => Ev.channelsOnly_of_resets (by simp) (Ev.channelsOnly_request q hcode hv)) hs
  · exact hs

theorem State.requested_held {s : State} (code : Byte) (q : Request) (hs : s.ms.outHold = true) :
    (s.requested code q).ms.outHold = true := by
  unfold State.requested
  split
  · split
    · exact hs
    · exact State.evaluated_held _ hs
  · exact hs

theorem State.bndItem_latched {s : State} (i : BndItem) (op : BitVec 4) {f : Ev → SlotCfg → Ev} (hf : ∀ v sc, (f v sc).resets = v.resets)
    (hs : s.aon.latch = true) : (s.bndItem i op f).aon.latch = true := by
  unfold State.bndItem
  split
  · exact hs
  · refine State.evaluated_latched (fun v hv => ?_) hs
    split
    · exact hv
    · split
      · exact Ev.channelsOnly_of_resets (by simp [hf]) hv
      · exact hv

theorem State.bndItem_held {s : State} (i : BndItem) (op : BitVec 4) (f : Ev → SlotCfg → Ev) (hs : s.ms.outHold = true) :
    (s.bndItem i op f).ms.outHold = true := by
  unfold State.bndItem
  split
  · exact hs
  · exact State.evaluated_held _ hs

/-! ### Where the power comes back (R46, R51, R482) -/

@[simp] theorem State.powerOn_outHold (s : State) : s.powerOn.ms.outHold = true := by
  simp [State.powerOn, State.reset, ModeSt.reset]

theorem State.powerOn_latch (s : State) : s.powerOn.aon.latch = (latchOf s.nvm.latchLog.newest).1 := by
  simp [State.powerOn]

/-- A latch whose record stands in NVM1 outlives the loss of the power. -/
theorem State.powerOn_latched {s : State} (hrec : LatchRecorded s) (hpend : s.aon.latrecPend = false) (hs : s.aon.latch = true) :
    s.powerOn.aon.latch = true := by
  rw [State.powerOn_latch]
  rcases hrec with hwaits | heq
  · simp [hpend] at hwaits
  · rw [heq]
    exact hs

end Sys2Proof.Machine
end

section
/-!
SUPPORT. What every command of the block keeps: the queue, the fuses, the form of the addressed stores, and the lockout latch and the output
hold.
-/

namespace Sys2Proof.Machine

@[simp] theorem nexts_next (t : State) (P : State → Prop) : Nexts (.next t) P ↔ P t := by
  simp [Nexts]

/-- `t` keeps of `s` what no request, no burning of a fuse and no loss of the power may take. -/
structure Keeps (s t : State) : Prop where
  queue : t.pending = s.pending
  fuses : t.fuses = s.fuses
  stores : StoresCanonical s → StoresCanonical t
  latch : s.aon.latch = true → t.aon.latch = true
  hold : s.ms.outHold = true → t.ms.outHold = true

theorem Keeps.refl (s : State) : Keeps s s := ⟨rfl, rfl, id, id, id⟩

theorem Keeps.trans {s t u : State} (h : Keeps s t) (g : Keeps t u) : Keeps s u :=
  ⟨g.queue.trans h.queue, g.fuses.trans h.fuses, g.stores ∘ h.stores, g.latch ∘ h.latch, g.hold ∘ h.hold⟩

theorem Nexts.mono {o : Host.Outcome State Fault Refusal} {P Q : State → Prop} (h : ∀ t, P t → Q t) (ho : Nexts o P) : Nexts o Q :=
  ho.imp fun t ht => ⟨ht.1, h t ht.2⟩

/-- A command whose further work starts at a state that has kept everything so far. -/
theorem Keeps.then {s s1 : State} {o : Host.Outcome State Fault Refusal} (h : Keeps s s1) (ho : Nexts o (Keeps s1)) : Nexts o (Keeps s) :=
  ho.mono fun _ => h.trans

/-- A state that leaves the queue, the fuses and the addressed stores as they are. -/
theorem keeps_of {s t : State} (hsame : t.pending = s.pending ∧ t.fuses = s.fuses ∧ t.log.ring = s.log.ring ∧
    t.nvm.staging = s.nvm.staging ∧ t.nvm.relChunks = s.nvm.relChunks) (hlatch : s.aon.latch = true → t.aon.latch = true)
    (hhold : s.ms.outHold = true → t.ms.outHold = true) : Keeps s t := by
  obtain ⟨hqueue, hfuses, hring, hstaging, hchunks⟩ := hsame
  exact ⟨hqueue, hfuses, fun hs => hs.of_eq hring hstaging hchunks, hlatch, hhold⟩

theorem keeps_next {s t : State} (hsame : t.pending = s.pending ∧ t.fuses = s.fuses ∧ t.log.ring = s.log.ring ∧
    t.nvm.staging = s.nvm.staging ∧ t.nvm.relChunks = s.nvm.relChunks) (hlatch : s.aon.latch = true → t.aon.latch = true)
    (hhold : s.ms.outHold = true → t.ms.outHold = true) : Nexts (.next t) (Keeps s) := ⟨t, rfl, keeps_of hsame hlatch hhold⟩

theorem keeps_self (s : State) : Nexts (.next s) (Keeps s) := ⟨s, rfl, .refl s⟩

/-- A state that writes an addressed store, with the fuses, the latch and the hold as they are. -/
theorem keeps_next_stores {s t : State} (hstores : StoresCanonical s → StoresCanonical t)
    (hsame : t.pending = s.pending ∧ t.fuses = s.fuses ∧ t.aon.latch = s.aon.latch ∧ t.ms.outHold = s.ms.outHold) :
    Nexts (.next t) (Keeps s) := by
  obtain ⟨hqueue, hfuses, hlatch, hhold⟩ := hsame
  exact ⟨t, rfl, hqueue, hfuses, hstores, hlatch.trans, hhold.trans⟩

/-! ### What a frame or a fetched record leaves behind -/

theorem State.keeps_drop {s s1 : State} {f : RxFrame} {types : List Byte} (h : s.take f types = .drop s1) : Keeps s s1 := by
  unfold State.take at h
  dsimp only at h
  (repeat' split at h) <;> cases h <;> refine keeps_of ?_ ?_ ?_ <;> simp

theorem State.keeps_take {s s1 : State} {f : RxFrame} {types body : List Byte} {e : DWord} (h : s.take f types = .take body e s1) :
    Keeps s s1 := by
  unfold State.take at h
  dsimp only at h
  (repeat' split at h) <;> cases h
  refine keeps_of ?_ ?_ ?_ <;> simp

theorem State.keeps_timing {s s1 : State} {f : RxTiming} {type : Byte} {o : Option (List Byte)} (h : s.timing f type = (s1, o)) :
    Keeps s s1 := by
  obtain rfl : (s.timing f type).1 = s1 := by rw [h]
  refine keeps_of ?_ ?_ ?_ <;> simp

theorem State.keeps_traceFilter {s s1 : State} {r : Record} (h : s.traceFilter r = some s1) : Keeps s s1 := by
  unfold State.traceFilter at h
  dsimp only at h
  (repeat' split at h) <;> cases h <;> refine keeps_of ?_ ?_ ?_ <;> simp

theorem State.keeps_exportOne {s s1 : State} {r : Record} (h : s.exportOne = some (r, s1)) : Keeps s s1 := by
  have hframe := State.exportOne_frame h
  have hring := State.exportOne_keeps h
  dsimp only at hframe hring
  refine keeps_of ?_ ?_ ?_ <;> simp [hframe, hring]

theorem Keeps.foldl {α : Type} {f : State → α → State} (h : ∀ s a, Keeps s (f s a)) (l : List α) (s : State) : Keeps s (l.foldl f s) :=
  foldl_invariant (fun t a ht => ht.trans (h t a)) l (.refl s)

theorem State.keeps_perform (s : State) (m : Master) (a : HubAccess) : Keeps s (s.perform m a) := by
  unfold State.perform
  split
  · exact .refl s
  · cases a <;> refine keeps_of ?_ ?_ ?_ <;> simp

theorem State.keeps_thaw (s : State) (res : Fin 6) : Keeps s (s.thaw res) := by
  unfold State.thaw
  dsimp only
  refine Keeps.trans ?_ (Keeps.foldl (fun t w => ?_) _ _)
  · exact keeps_of ⟨rfl, rfl, rfl, rfl, rfl⟩ id id
  · refine Keeps.trans ?_ (State.keeps_perform _ _ _)
    exact keeps_of ⟨rfl, rfl, rfl, rfl, rfl⟩ id id

theorem State.keeps_dailyAlarm {s : State} (key : Byte) (on : Bool) {f : State → State} (hf : ∀ t, Keeps t (f t)) :
    Keeps s (s.dailyAlarm key on f) := by
  unfold State.dailyAlarm
  split
  · refine Keeps.trans ?_ (hf _)
    exact keeps_of ⟨rfl, rfl, rfl, rfl, rfl⟩ id id
  · exact .refl s

theorem State.keeps_lanePlan (s : State) (l : Lane) (o : LaneMon) : Keeps s (s.lanePlan l o) := by
  unfold State.lanePlan
  dsimp only
  (repeat' split) <;> refine keeps_of ?_ ?_ ?_ <;> simp

theorem State.keeps_ageWindow (s : State) (obs : AgeObs) : Keeps s (s.ageWindow obs) := by
  have hraise (t : State) (cls : RecClass) (code : Byte) (kind : ObjKind) (obj : Nat) (detail : List Byte) :
      Keeps t (t.raise cls code kind obj detail) := by
    refine keeps_of ?_ ?_ ?_ <;> simp
  have hbaseline (t : State) (die : Nat) (ro : List Nat) : Keeps t (t.baseline die ro) := by
    refine keeps_of ?_ ?_ ?_ <;> simp
  unfold State.ageWindow
  extract_lets measured s0 s1 hub slack fieldLow switches worst ofLane eyeLow day _ _ _ s2 s3 s4 s5
  have h1 : Keeps s s1 :=
    (Keeps.foldl (fun t l => State.keeps_lanePlan t l _) measured s).trans
      ((hbaseline s0 _ _).trans (Keeps.foldl (fun t b => hbaseline t _ _) _ _))
  have h2 : Keeps s1 s2 := keeps_of ⟨rfl, rfl, rfl, rfl, rfl⟩ id id
  have h3 : Keeps s2 s3 := State.keeps_dailyAlarm _ _ fun t => hraise t _ _ _ _ _
  have h4 : Keeps s3 s4 := Keeps.foldl (fun t b => State.keeps_dailyAlarm _ _ fun t => hraise t _ _ _ _ _) _ _
  have h5 : Keeps s4 s5 := Keeps.foldl (fun t b => State.keeps_dailyAlarm _ _ fun t => hraise t _ _ _ _ _) _ _
  refine h1.trans (h2.trans (h3.trans (h4.trans (h5.trans (Keeps.foldl (fun t b => ?_) _ _)))))
  exact State.keeps_dailyAlarm _ _ fun t => hraise t _ _ _ _ _

theorem State.requested_nexts {code : Byte} (q : Request) (hcode : code ≠ 0x38) (s : State) :
    Nexts (.next (s.requested code q)) (Keeps s) :=
  keeps_next (by simp) (State.requested_latched q hcode) (State.requested_held code q)

theorem State.evaluated_nexts {f : Ev → Ev} (hf : ∀ v, (f v).resets = v.resets) (s : State) :
    Nexts (.next (s.evaluated f)) (Keeps s) :=
  keeps_next (by simp) (State.evaluated_latched fun v => Ev.channelsOnly_of_resets (hf v)) (State.evaluated_held f)

theorem State.bndItem_nexts (i : BndItem) (op : BitVec 4) {f : Ev → SlotCfg → Ev} (hf : ∀ v sc, (f v sc).resets = v.resets) (s : State) :
    Nexts (.next (s.bndItem i op f)) (Keeps s) :=
  keeps_next (by simp) (State.bndItem_latched i op hf) (State.bndItem_held i op f)

@[simp] theorem execOpenSession_keeps (ch : Fin 8) (hnonce : BitVec 128) (s : State) :
    Nexts (execOpenSession ch hnonce s) (Keeps s) := by
  dsimp only [execOpenSession]
  (repeat' split) <;> refine keeps_next ?_ ?_ ?_ <;> simp +contextual

@[simp] theorem execCloseSession_keeps (ch : Fin 8) (s : State) : Nexts (execCloseSession ch s) (Keeps s) := by
  dsimp only [execCloseSession]
  (repeat' split) <;> refine keeps_next ?_ ?_ ?_ <;> simp +contextual

@[simp] theorem execMailboxSnapshot_keeps (l : Lane) (s : State) : Nexts (execMailboxSnapshot l s) (Keeps s) := by
  dsimp only [execMailboxSnapshot]
  (repeat' split) <;> refine keeps_next ?_ ?_ ?_ <;> simp +contextual

@[simp] theorem execOutboundMoverWrite_keeps (secure : Bool) (ch : Fin 8) (s : State) :
    Nexts (execOutboundMoverWrite secure ch s) (Keeps s) := by
  refine keeps_next ?_ ?_ ?_ <;> simp +contextual

@[simp] theorem execMbxInBufWrite_keeps (secure : Bool) (ch : Fin 8) (word : Fin 16) (val : Word) (s : State) :
    Nexts (execMbxInBufWrite secure ch word val s) (Keeps s) := by
  refine keeps_next ?_ ?_ ?_ <;> simp +contextual

@[simp] theorem execMbxOutBufRead_keeps (secure : Bool) (ch : Fin 8) (word : Fin 16) (s : State) :
    Nexts (execMbxOutBufRead secure ch word s) (Keeps s) := by
  refine keeps_next ?_ ?_ ?_ <;> simp +contextual

@[simp] theorem execMbxInStatAbortedClear_keeps (secure : Bool) (ch : Fin 8) (val : Word) (s : State) :
    Nexts (execMbxInStatAbortedClear secure ch val s) (Keeps s) := by
  refine keeps_next ?_ ?_ ?_ <;> simp +contextual

@[simp] theorem execMbxDbM2hClear_keeps (secure : Bool) (ch : Fin 8) (val : Word) (s : State) :
    Nexts (execMbxDbM2hClear secure ch val s) (Keeps s) := by
  refine keeps_next ?_ ?_ ?_ <;> simp +contextual

@[simp] theorem execMbxDbmaskWrite_keeps (secure : Bool) (ch : Fin 8) (val : Word) (s : State) :
    Nexts (execMbxDbmaskWrite secure ch val s) (Keeps s) := by
  refine keeps_next ?_ ?_ ?_ <;> simp +contextual

@[simp] theorem execCommitDeadline_keeps (l : Lane) (s : State) : Nexts (execCommitDeadline l s) (Keeps s) := by
  dsimp only [execCommitDeadline]
  (repeat' split) <;> refine keeps_next ?_ ?_ ?_ <;> simp +contextual

@[simp] theorem execP1WaitLimit_keeps (missing : List (Lane × Lane)) (s : State) : Nexts (execP1WaitLimit missing s) (Keeps s) := by
  unfold execP1WaitLimit
  dsimp only
  split
  · exact keeps_next (by simp) (State.latched_foldl (fun t l => State.failLane_latched t l 5) _ s) (by simp)
  · exact keeps_self s

@[simp] theorem execP3WaitLimit_keeps (missing : List (Lane × Lane)) (s : State) : Nexts (execP3WaitLimit missing s) (Keeps s) := by
  unfold execP3WaitLimit
  dsimp only
  split
  · exact keeps_next (by simp) (fun hs => State.latched_foldl (fun t l => State.failLane_latched t l 7) _ _
      (State.latched_foldl (fun t l => State.failLane_latched t l 1) _ s hs)) (by simp)
  · exact keeps_self s

@[simp] theorem execP5Suspension_keeps (l : Lane) (s : State) : Nexts (execP5Suspension l s) (Keeps s) := by
  dsimp only [execP5Suspension]
  (repeat' split) <;> refine keeps_next ?_ ?_ ?_ <;> simp +contextual

@[simp] theorem execLaneCheckFault_keeps (l : Lane) (run : CheckRun) (read : Option EccRead) (s : State) :
    Nexts (execLaneCheckFault l run read s) (Keeps s) := by
  dsimp only [execLaneCheckFault]
  (repeat' split) <;> refine keeps_next ?_ ?_ ?_ <;> simp +contextual

@[simp] theorem execCommitGateRelease_keeps (l : Lane) (s : State) : Nexts (execCommitGateRelease l s) (Keeps s) := by
  dsimp only [execCommitGateRelease]
  (repeat' split) <;> refine keeps_next ?_ ?_ ?_ <;> simp +contextual

@[simp] theorem execAliveCheck_keeps (l : Lane) (hw : Checker) (s : State) : Nexts (execAliveCheck l hw s) (Keeps s) := by
  dsimp only [execAliveCheck]
  (repeat' split) <;> refine keeps_next ?_ ?_ ?_ <;> simp +contextual

@[simp] theorem execWatchdogWindowEnd_keeps (l : Lane) (byTimeout : Bool) (s : State) :
    Nexts (execWatchdogWindowEnd l byTimeout s) (Keeps s) := by
  dsimp only [execWatchdogWindowEnd]
  (repeat' split) <;> refine keeps_next ?_ ?_ ?_ <;> simp +contextual

@[simp] theorem execCopyRequestTimeout_keeps (l : Lane) (s : State) : Nexts (execCopyRequestTimeout l s) (Keeps s) := by
  dsimp only [execCopyRequestTimeout]
  (repeat' split) <;> refine keeps_next ?_ ?_ ?_ <;> simp +contextual

@[simp] theorem execLane_keeps (l : Lane) (s : State) : Nexts (execLane l s) (Keeps s) := by
  refine keeps_next ?_ ?_ ?_ <;> simp +contextual

@[simp] theorem execLaneProofDone_keeps (l : Lane) (result : ProofResult) (hw : Checker) (s : State) :
    Nexts (execLaneProofDone l result hw s) (Keeps s) := by
  dsimp only [execLaneProofDone]
  (repeat' split) <;> refine keeps_next ?_ ?_ ?_ <;> simp +contextual

@[simp] theorem execRun2LimitExpiry_keeps (s : State) : Nexts (execRun2LimitExpiry s) (Keeps s) := by
  dsimp only [execRun2LimitExpiry]
  (repeat' split) <;> refine keeps_next ?_ ?_ ?_ <;> simp +contextual

@[simp] theorem execHubNoAgreeingDigests_keeps (s : State) : Nexts (execHubNoAgreeingDigests s) (Keeps s) := by
  dsimp only [execHubNoAgreeingDigests]
  (repeat' split) <;> refine keeps_next ?_ ?_ ?_ <;> simp +contextual

@[simp] theorem execDissentRunExclusion_keeps (l : Lane) (ch : Chan) (s : State) :
    Nexts (execDissentRunExclusion l ch s) (Keeps s) := by
  dsimp only [execDissentRunExclusion]
  (repeat' split) <;> refine keeps_next ?_ ?_ ?_ <;> simp +contextual

@[simp] theorem execReflexTimeout_keeps (entry : Fin 64) (s : State) : Nexts (execReflexTimeout entry s) (Keeps s) := by
  dsimp only [execReflexTimeout]
  (repeat' split) <;> refine keeps_next ?_ ?_ ?_ <;> simp +contextual

@[simp] theorem execLanternToken_keeps (l : Lane) (b : Bank) (token : DWord) (s : State) :
    Nexts (execLanternToken l b token s) (Keeps s) := by
  dsimp only [execLanternToken]
  (repeat' split) <;> refine keeps_next ?_ ?_ ?_ <;> simp +contextual

@[simp] theorem execProofWord_keeps (l : Lane) (b : Bank) (side : Side) (mask : BitVec 16) (s : State) :
    Nexts (execProofWord l b side mask s) (Keeps s) := by
  dsimp only [execProofWord]
  (repeat' split) <;> refine keeps_next ?_ ?_ ?_ <;> simp +contextual

@[simp] theorem execTokenExpiry_keeps (l : Lane) (b : Bank) (s : State) : Nexts (execTokenExpiry l b s) (Keeps s) := by
  refine keeps_next ?_ ?_ ?_ <;> simp +contextual

@[simp] theorem execGateDriveLost_keeps (ch : Chan) (side : Side) (dropoutUs : Nat) (s : State) :
    Nexts (execGateDriveLost ch side dropoutUs s) (Keeps s) := by
  dsimp only [execGateDriveLost]
  (repeat' split) <;> refine keeps_next ?_ ?_ ?_ <;> simp +contextual

@[simp] theorem execGateDriveReached_keeps (ch : Chan) (side : Side) (s : State) :
    Nexts (execGateDriveReached ch side s) (Keeps s) := by
  dsimp only [execGateDriveReached]
  (repeat' split) <;> refine keeps_next ?_ ?_ ?_ <;> simp +contextual

@[simp] theorem execInrushWindowEnd_keeps (ch : Chan) (s : State) : Nexts (execInrushWindowEnd ch s) (Keeps s) := by
  refine keeps_next ?_ ?_ ?_ <;> simp +contextual

@[simp] theorem execTripLatchSet_keeps (ch : Chan) (s : State) : Nexts (execTripLatchSet ch s) (Keeps s) := by
  dsimp only [execTripLatchSet]
  (repeat' split) <;> refine keeps_next ?_ ?_ ?_ <;> simp +contextual

@[simp] theorem execTripLatchClear_keeps (ch : Chan) (s : State) : Nexts (execTripLatchClear ch s) (Keeps s) := by
  dsimp only [execTripLatchClear]
  (repeat' split) <;> refine keeps_next ?_ ?_ ?_ <;> simp +contextual

@[simp] theorem execPhaseMark_keeps (arrived : PerLane Bool) (s : State) : Nexts (execPhaseMark arrived s) (Keeps s) := by
  dsimp only [execPhaseMark]
  refine keeps_next ?_ ?_ ?_ <;> simp +contextual

@[simp] theorem execTestPulseDue_keeps (ch : Chan) (kind : PulseKind) (s : State) : Nexts (execTestPulseDue ch kind s) (Keeps s) := by
  dsimp only [execTestPulseDue]
  (repeat' split) <;> refine keeps_next ?_ ?_ ?_ <;> simp +contextual

@[simp] theorem execTestPulseOverdue_keeps (ch : Chan) (kind : PulseKind) (s : State) :
    Nexts (execTestPulseOverdue ch kind s) (Keeps s) := by
  dsimp only [execTestPulseOverdue]
  (repeat' split) <;> refine keeps_next ?_ ?_ ?_ <;> simp +contextual

@[simp] theorem execTestPulse_keeps (ch : Chan) (kind : PulseKind) (obs : PerLane PulseObs) (s : State) :
    Nexts (execTestPulse ch kind obs s) (Keeps s) := by
  dsimp only [execTestPulse]
  (repeat' split) <;> refine keeps_next ?_ ?_ ?_ <;> simp +contextual

@[simp] theorem execTestSourceGap_keeps (src : Chan) (obs : PerLane GapObs) (s : State) :
    Nexts (execTestSourceGap src obs s) (Keeps s) := by
  dsimp only [execTestSourceGap]
  (repeat' split) <;> refine keeps_next ?_ ?_ ?_ <;> simp +contextual

@[simp] theorem execReplicaFilterChange_keeps (l : Lane) (ch : Chan) (level : RawLevel) (run : FilterRun) (s : State) :
    Nexts (execReplicaFilterChange l ch level run s) (Keeps s) := by
  dsimp only [execReplicaFilterChange]
  (repeat' split) <;> refine keeps_next ?_ ?_ ?_ <;> simp +contextual

@[simp] theorem execEchoSplitMismatch_keeps (ch : Chan) (s : State) : Nexts (execEchoSplitMismatch ch s) (Keeps s) := by
  dsimp only [execEchoSplitMismatch]
  (repeat' split) <;> refine keeps_next ?_ ?_ ?_ <;> simp +contextual

@[simp] theorem execFeedbackMismatchWindow_keeps (ch : Chan) (s : State) : Nexts (execFeedbackMismatchWindow ch s) (Keeps s) := by
  dsimp only [execFeedbackMismatchWindow]
  (repeat' split) <;> refine keeps_next ?_ ?_ ?_ <;> simp +contextual

@[simp] theorem execOverloadTimeout_keeps (ch : Chan) (s : State) : Nexts (execOverloadTimeout ch s) (Keeps s) := by
  dsimp only [execOverloadTimeout]
  (repeat' split) <;> refine keeps_next ?_ ?_ ?_ <;> simp +contextual

@[simp] theorem execBankOverload_keeps (b : Bank) (s : State) : Nexts (execBankOverload b s) (Keeps s) := by
  dsimp only [execBankOverload]
  (repeat' split) <;> refine keeps_next ?_ ?_ ?_ <;> simp +contextual

@[simp] theorem execLckRead_keeps (m : Master) (i : Fin 64) (rivals : List Master) (s : State) :
    Nexts (execLckRead m i rivals s) (Keeps s) := by
  refine keeps_next ?_ ?_ ?_ <;> simp +contextual

@[simp] theorem execLckWrite_keeps (m : Master) (i : Fin 64) (val : Word) (rivals : List Master) (s : State) :
    Nexts (execLckWrite m i val rivals s) (Keeps s) := by
  refine keeps_next ?_ ?_ ?_ <;> simp +contextual

@[simp] theorem execLckOrphanClear_keeps (hi : Bool) (val : Word) (s : State) : Nexts (execLckOrphanClear hi val s) (Keeps s) := by
  refine keeps_next ?_ ?_ ?_ <;> simp +contextual

@[simp] theorem execCrcStart_keeps (m : Master) (ch : Fin 16) (cfg : Word) (seed : Option DWord) (s : State) :
    Nexts (execCrcStart m ch cfg seed s) (Keeps s) := by
  refine keeps_next ?_ ?_ ?_ <;> simp +contextual

@[simp] theorem execCrcDataWrite_keeps (m : Master) (ch : Fin 16) (strb : Strobes) (val : Word) (rivals : List Master) (s : State) :
    Nexts (execCrcDataWrite m ch strb val rivals s) (Keeps s) := by
  refine keeps_next ?_ ?_ ?_ <;> simp +contextual

@[simp] theorem execCrcResLoRead_keeps (r : CrcRead) (s : State) : Nexts (execCrcResLoRead r s) (Keeps s) := by
  refine keeps_next ?_ ?_ ?_ <;> simp +contextual

@[simp] theorem execTimNowLoRead_keeps (s : State) : Nexts (execTimNowLoRead s) (Keeps s) := by
  refine keeps_next ?_ ?_ ?_ <;> simp +contextual

@[simp] theorem execTimTbaseLoRead_keeps (s : State) : Nexts (execTimTbaseLoRead s) (Keeps s) := by
  refine keeps_next ?_ ?_ ?_ <;> simp +contextual

@[simp] theorem execGalleryEntryWrite_keeps (m : Master) (g : Fin 8) (p : Port) (idx : Fin 4096) (entry : DWord) (s : State) :
    Nexts (execGalleryEntryWrite m g p idx entry s) (Keeps s) := by
  dsimp only [execGalleryEntryWrite]
  (repeat' split) <;> refine keeps_next ?_ ?_ ?_ <;> simp +contextual

@[simp] theorem execGalleryCommitWrite_keeps (m : Master) (g : Fin 8) (digest : DWord) (s : State) :
    Nexts (execGalleryCommitWrite m g digest s) (Keeps s) := by
  dsimp only [execGalleryCommitWrite]
  (repeat' split) <;> refine keeps_next ?_ ?_ ?_ <;> simp +contextual

@[simp] theorem execGalleryPreviousUnlock_keeps (s : State) : Nexts (execGalleryPreviousUnlock s) (Keeps s) := by
  refine keeps_next ?_ ?_ ?_ <;> simp +contextual

@[simp] theorem execSafe_keeps (f : RxFrame) (s : State) : Nexts (execSafe f s) (Keeps s) := by
  unfold execSafe
  split
  next s1 h => exact (State.keeps_drop h).then (keeps_self s1)
  next body e s1 h =>
    refine (State.keeps_take h).then ?_
    dsimp only
    (repeat' split) <;> refine keeps_next ?_ ?_ ?_ <;> simp +contextual

@[simp] theorem execChamber_keeps (f : RxFrame) (s : State) : Nexts (execChamber f s) (Keeps s) := by
  unfold execChamber
  split
  next s1 h => exact (State.keeps_drop h).then (keeps_self s1)
  next body e s1 h =>
    refine (State.keeps_take h).then ?_
    dsimp only
    (repeat' split) <;> refine keeps_next ?_ ?_ ?_ <;> simp +contextual

@[simp] theorem execTransmitSlot_keeps (p : Port) (slot : Nat) (start : SlotStart) (s : State) :
    Nexts (execTransmitSlot p slot start s) (Keeps s) := by
  dsimp only [execTransmitSlot]
  (repeat' split) <;> refine keeps_next ?_ ?_ ?_ <;> simp +contextual

@[simp] theorem execBridgeSlot_keeps (p : Port) (start : BridgeStart) (s : State) : Nexts (execBridgeSlot p start s) (Keeps s) := by
  dsimp only [execBridgeSlot]
  (repeat' split) <;> refine keeps_next ?_ ?_ ?_ <;> simp +contextual

@[simp] theorem execFullSilence_keeps (cause : SilenceCause) (s : State) : Nexts (execFullSilence cause s) (Keeps s) := by
  dsimp only [execFullSilence]
  (repeat' split) <;> refine keeps_next ?_ ?_ ?_ <;> simp +contextual

@[simp] theorem execHubDieFault_keeps (s : State) : Nexts (execHubDieFault s) (Keeps s) := by
  refine keeps_next ?_ ?_ ?_ <;> simp +contextual

@[simp] theorem execPin_keeps (lowUs : Nat) (s : State) : Nexts (execPin lowUs s) (Keeps s) := by
  dsimp only [execPin]
  (repeat' split) <;> refine keeps_next ?_ ?_ ?_ <;> simp +contextual

@[simp] theorem execWarm_keeps (src : WarmSrc) (s : State) : Nexts (execWarm src s) (Keeps s) := by
  dsimp only [execWarm]
  (repeat' split) <;> refine keeps_next ?_ ?_ ?_ <;> simp +contextual

@[simp] theorem execPorRelease_keeps (s : State) : Nexts (execPorRelease s) (Keeps s) := by
  dsimp only [execPorRelease]
  (repeat' split) <;> refine keeps_next ?_ ?_ ?_ <;> simp +contextual

@[simp] theorem execHostr_keeps (s : State) : Nexts (execHostr s) (Keeps s) := by
  dsimp only [execHostr]
  (repeat' split) <;> refine keeps_next ?_ ?_ ?_ <;> simp +contextual

@[simp] theorem execProveComplete_keeps (obs : PerLane ProveObs) (maj : List MajRead) (echo : List (Chan × EchoItem)) (s : State) :
    Nexts (execProveComplete obs maj echo s) (Keeps s) := by
  have hlanes (hs : s.aon.latch = true) : (lanesList.foldl (fun s l => s.proveLane l (obs.get l)) s).aon.latch = true :=
    State.latched_foldl (fun t l => State.proveLane_latched t l _) _ s hs
  dsimp only [execProveComplete]
  (repeat' split) <;> refine keeps_next ?_ ?_ ?_ <;> simp +contextual [hlanes]

@[simp] theorem execVinFail_keeps (s : State) : Nexts (execVinFail s) (Keeps s) := by
  dsimp only [execVinFail]
  (repeat' split) <;> refine keeps_next ?_ ?_ ?_ <;> simp +contextual

@[simp] theorem execFullCommit_keeps (ms : Nat) (s : State) : Nexts (execFullCommit ms s) (Keeps s) := by
  dsimp only [execFullCommit]
  (repeat' split) <;> refine keeps_next ?_ ?_ ?_ <;> simp +contextual

@[simp] theorem execFullCommitAbort_keeps (store : Fin 4) (s : State) : Nexts (execFullCommitAbort store s) (Keeps s) := by
  dsimp only [execFullCommitAbort]
  (repeat' split) <;> refine keeps_next ?_ ?_ ?_ <;> simp +contextual

@[simp] theorem execVholdQualified_keeps (l : Lane) (s : State) : Nexts (execVholdQualified l s) (Keeps s) := by
  refine keeps_next ?_ ?_ ?_ <;> simp +contextual

@[simp] theorem execVholdDisqualified_keeps (l : Lane) (s : State) : Nexts (execVholdDisqualified l s) (Keeps s) := by
  dsimp only [execVholdDisqualified]
  (repeat' split) <;> refine keeps_next ?_ ?_ ?_ <;> simp +contextual

@[simp] theorem execLowPowerEntry_keeps (l : Lane) (gapUs : Nat) (s : State) : Nexts (execLowPowerEntry l gapUs s) (Keeps s) := by
  dsimp only [execLowPowerEntry]
  (repeat' split) <;> refine keeps_next ?_ ?_ ?_ <;> simp +contextual

@[simp] theorem execLowPowerWake_keeps (l : Lane) (sleptUs : Nat) (late : Bool) (s : State) :
    Nexts (execLowPowerWake l sleptUs late s) (Keeps s) := by
  dsimp only [execLowPowerWake]
  (repeat' split) <;> refine keeps_next ?_ ?_ ?_ <;> simp +contextual

@[simp] theorem execPerstNRelease_keeps (s : State) : Nexts (execPerstNRelease s) (Keeps s) := by
  refine keeps_next ?_ ?_ ?_ <;> simp +contextual

@[simp] theorem execTestPortAccess_keeps (via : TestAccess) (s : State) : Nexts (execTestPortAccess via s) (Keeps s) := by
  dsimp only [execTestPortAccess]
  (repeat' split) <;> refine keeps_next ?_ ?_ ?_ <;> simp +contextual

@[simp] theorem execRstreqRising_keeps (s : State) : Nexts (execRstreqRising s) (Keeps s) := by
  dsimp only [execRstreqRising]
  (repeat' split) <;> refine keeps_next ?_ ?_ ?_ <;> simp +contextual

@[simp] theorem execRstreqStuck_keeps (s : State) : Nexts (execRstreqStuck s) (Keeps s) := by
  dsimp only [execRstreqStuck]
  (repeat' split) <;> refine keeps_next ?_ ?_ ?_ <;> simp +contextual

@[simp] theorem execRstreqStuckClear_keeps (s : State) : Nexts (execRstreqStuckClear s) (Keeps s) := by
  dsimp only [execRstreqStuckClear]
  (repeat' split) <;> refine keeps_next ?_ ?_ ?_ <;> simp +contextual

@[simp] theorem execZoneAckPulse_keeps (ch : Chan) (highUs : PerLane Nat) (s : State) :
    Nexts (execZoneAckPulse ch highUs s) (Keeps s) := by
  dsimp only [execZoneAckPulse]
  (repeat' split) <;> refine keeps_next ?_ ?_ ?_ <;> simp +contextual

@[simp] theorem execResyncCopyStart_keeps (q : CopyReq) (s : State) : Nexts (execResyncCopyStart q s) (Keeps s) := by
  dsimp only [execResyncCopyStart]
  (repeat' split) <;> refine keeps_next ?_ ?_ ?_ <;> simp +contextual

@[simp] theorem execResyncCopyDone_keeps (l : Lane) (inTime : Bool) (copy : CopyObs) (s : State) :
    Nexts (execResyncCopyDone l inTime copy s) (Keeps s) := by
  dsimp only [execResyncCopyDone]
  (repeat' split) <;> refine keeps_next ?_ ?_ ?_ <;> simp +contextual

@[simp] theorem execCycleStart_keeps (r : RxCycle) (s : State) : Nexts (execCycleStart r s) (Keeps s) := by
  unfold execCycleStart
  split
  next s1 h => exact (State.keeps_timing h).then (keeps_self s1)
  next s1 body h =>
    refine (State.keeps_timing h).then ?_
    dsimp only
    (repeat' split) <;> refine keeps_next ?_ ?_ ?_ <;> simp +contextual

@[simp] theorem execColdstart_keeps (f : RxTiming) (s : State) : Nexts (execColdstart f s) (Keeps s) := by
  unfold execColdstart
  split
  next s1 h => exact (State.keeps_timing h).then (keeps_self s1)
  next s1 body h =>
    refine (State.keeps_timing h).then ?_
    dsimp only
    (repeat' split) <;> refine keeps_next ?_ ?_ ?_ <;> simp +contextual

@[simp] theorem execListenTimeout_keeps (s : State) : Nexts (execListenTimeout s) (Keeps s) := by
  dsimp only [execListenTimeout]
  (repeat' split) <;> refine keeps_next ?_ ?_ ?_ <;> simp +contextual

@[simp] theorem execContentionWindowEnd_keeps (s : State) : Nexts (execContentionWindowEnd s) (Keeps s) := by
  dsimp only [execContentionWindowEnd]
  (repeat' split) <;> refine keeps_next ?_ ?_ ?_ <;> simp +contextual

@[simp] theorem execFullValidCycle_keeps (s : State) : Nexts (execFullValidCycle s) (Keeps s) := by
  dsimp only [execFullValidCycle]
  (repeat' split) <;> refine keeps_next ?_ ?_ ?_ <;> simp +contextual

@[simp] theorem execDlyReq_keeps (f : RxTiming) (turnNs : Nat) (s : State) : Nexts (execDlyReq f turnNs s) (Keeps s) := by
  unfold execDlyReq
  split
  next s1 h => exact (State.keeps_timing h).then (keeps_self s1)
  next s1 body h =>
    refine (State.keeps_timing h).then ?_
    dsimp only
    (repeat' split) <;> refine keeps_next ?_ ?_ ?_ <;> simp +contextual

@[simp] theorem execDlyRsp_keeps (r : RxDelay) (s : State) : Nexts (execDlyRsp r s) (Keeps s) := by
  unfold execDlyRsp
  split
  next s1 h => exact (State.keeps_timing h).then (keeps_self s1)
  next s1 body h =>
    refine (State.keeps_timing h).then ?_
    dsimp only
    (repeat' split) <;> refine keeps_next ?_ ?_ ?_ <;> simp +contextual

@[simp] theorem execDlyFup_keeps (f : RxTiming) (s : State) : Nexts (execDlyFup f s) (Keeps s) := by
  unfold execDlyFup
  split
  next s1 h => exact (State.keeps_timing h).then (keeps_self s1)
  next s1 body h =>
    refine (State.keeps_timing h).then ?_
    refine keeps_next ?_ ?_ ?_ <;> simp +contextual

@[simp] theorem execLinkDelayMeasurement_keeps (p : Port) (r0 r1 r2 : Option Int) (s : State) :
    Nexts (execLinkDelayMeasurement p r0 r1 r2 s) (Keeps s) := by
  dsimp only [execLinkDelayMeasurement]
  (repeat' split) <;> refine keeps_next ?_ ?_ ?_ <;> simp +contextual

@[simp] theorem execLinkLoss_keeps (p : Port) (s : State) : Nexts (execLinkLoss p s) (Keeps s) := by
  dsimp only [execLinkLoss]
  (repeat' split) <;> refine keeps_next ?_ ?_ ?_ <;> simp +contextual

@[simp] theorem execLinkUp_keeps (p : Port) (s : State) : Nexts (execLinkUp p s) (Keeps s) := by
  dsimp only [execLinkUp]
  (repeat' split) <;> refine keeps_next ?_ ?_ ?_ <;> simp +contextual

@[simp] theorem execNodeIdStrapChange_keeps (id : BitVec 12) (s : State) : Nexts (execNodeIdStrapChange id s) (Keeps s) := by
  dsimp only [execNodeIdStrapChange]
  (repeat' split) <;> refine keeps_next ?_ ?_ ?_ <;> simp +contextual

@[simp] theorem execSyncLock_keeps (s : State) : Nexts (execSyncLock s) (Keeps s) := by
  dsimp only [execSyncLock]
  (repeat' split) <;> refine keeps_next ?_ ?_ ?_ <;> simp +contextual

@[simp] theorem execCycleStartMissing_keeps (s : State) : Nexts (execCycleStartMissing s) (Keeps s) := by
  dsimp only [execCycleStartMissing]
  (repeat' split) <;> refine keeps_next ?_ ?_ ?_ <;> simp +contextual

@[simp] theorem execReferenceTakeover_keeps (s : State) : Nexts (execReferenceTakeover s) (Keeps s) := by
  dsimp only [execReferenceTakeover]
  (repeat' split) <;> refine keeps_next ?_ ?_ ?_ <;> simp +contextual

@[simp] theorem execSilentTimeout_keeps (s : State) : Nexts (execSilentTimeout s) (Keeps s) := by
  dsimp only [execSilentTimeout]
  (repeat' split) <;> refine keeps_next ?_ ?_ ?_ <;> simp +contextual

@[simp] theorem execAreaSeparation_keeps (s : State) : Nexts (execAreaSeparation s) (Keeps s) := by
  dsimp only [execAreaSeparation]
  (repeat' split) <;> refine keeps_next ?_ ?_ ?_ <;> simp +contextual

@[simp] theorem execJoinTimeout_keeps (s : State) : Nexts (execJoinTimeout s) (Keeps s) := by
  dsimp only [execJoinTimeout]
  (repeat' split) <;> refine keeps_next ?_ ?_ ?_ <;> simp +contextual

@[simp] theorem execPpsIn_keeps (atNs : Nat) (s : State) : Nexts (execPpsIn atNs s) (Keeps s) := by
  unfold execPpsIn
  split
  · exact keeps_self s
  · extract_lets good s1 _ _ _ _ _ _
    have hs1 : Keeps s s1 := by
      dsimp only [s1]
      split
      · exact .refl s
      · refine keeps_of ?_ ?_ ?_ <;> simp
    exact hs1.then (keeps_next ⟨rfl, rfl, rfl, rfl, rfl⟩ id id)

@[simp] theorem execPpsMissing_keeps (s : State) : Nexts (execPpsMissing s) (Keeps s) := by
  refine keeps_next ?_ ?_ ?_ <;> simp +contextual

@[simp] theorem execThrow_keeps (q : Request) (s : State) : Nexts (execThrow q s) (Keeps s) := by
  exact State.requested_nexts q (by decide) s

@[simp] theorem execSupervisedThrow_keeps (q : Request) (s : State) : Nexts (execSupervisedThrow q s) (Keeps s) := by
  exact State.requested_nexts q (by decide) s

@[simp] theorem execMove_keeps (q : Request) (s : State) : Nexts (execMove q s) (Keeps s) := by
  exact State.requested_nexts q (by decide) s

@[simp] theorem execSetStop_keeps (q : Request) (s : State) : Nexts (execSetStop q s) (Keeps s) := by
  exact State.requested_nexts q (by decide) s

@[simp] theorem execSetGate_keeps (q : Request) (s : State) : Nexts (execSetGate q s) (Keeps s) := by
  exact State.requested_nexts q (by decide) s

@[simp] theorem execBlock_keeps (q : Request) (s : State) : Nexts (execBlock q s) (Keeps s) := by
  exact State.requested_nexts q (by decide) s

@[simp] theorem execUnblock_keeps (q : Request) (s : State) : Nexts (execUnblock q s) (Keeps s) := by
  exact State.requested_nexts q (by decide) s

@[simp] theorem execSectionReset_keeps (q : Request) (s : State) : Nexts (execSectionReset q s) (Keeps s) := by
  exact State.requested_nexts q (by decide) s

@[simp] theorem execZoneReset_keeps (q : Request) (s : State) : Nexts (execZoneReset q s) (Keeps s) := by
  exact State.requested_nexts q (by decide) s

@[simp] theorem execZoneAccess_keeps (q : Request) (s : State) : Nexts (execZoneAccess q s) (Keeps s) := by
  exact State.requested_nexts q (by decide) s

@[simp] theorem execSignalRestore_keeps (q : Request) (s : State) : Nexts (execSignalRestore q s) (Keeps s) := by
  exact State.requested_nexts q (by decide) s

@[simp] theorem execSetFlag_keeps (q : Request) (s : State) : Nexts (execSetFlag q s) (Keeps s) := by
  exact State.requested_nexts q (by decide) s

@[simp] theorem execSetRoute_keeps (q : Request) (s : State) : Nexts (execSetRoute q s) (Keeps s) := by
  exact State.requested_nexts q (by decide) s

@[simp] theorem execCancelRoute_keeps (q : Request) (s : State) : Nexts (execCancelRoute q s) (Keeps s) := by
  exact State.requested_nexts q (by decide) s

@[simp] theorem execEmergencyRelease_keeps (q : Request) (s : State) : Nexts (execEmergencyRelease q s) (Keeps s) := by
  exact State.requested_nexts q (by decide) s

@[simp] theorem execBoundaryRelease_keeps (q : Request) (s : State) : Nexts (execBoundaryRelease q s) (Keeps s) := by
  exact State.requested_nexts q (by decide) s

@[simp] theorem execVehicleRemove_keeps (q : Request) (s : State) : Nexts (execVehicleRemove q s) (Keeps s) := by
  exact State.requested_nexts q (by decide) s

@[simp] theorem execChannelReset_keeps (q : Request) (s : State) : Nexts (execChannelReset q s) (Keeps s) := by
  exact State.requested_nexts q (by decide) s

@[simp] theorem execGallerySwitch_keeps (q : Request) (s : State) : Nexts (execGallerySwitch q s) (Keeps s) := by
  exact State.requested_nexts q (by decide) s

@[simp] theorem execUpdateLock_keeps (q : Request) (s : State) : Nexts (execUpdateLock q s) (Keeps s) := by
  exact State.requested_nexts q (by decide) s

@[simp] theorem execElementTimerExpiry_keeps (e : BitVec 15) (s : State) : Nexts (execElementTimerExpiry e s) (Keeps s) := by
  unfold execElementTimerExpiry
  dsimp only
  split
  · exact keeps_self s
  · split
    · exact keeps_self s
    · refine State.evaluated_nexts (fun v => ?_) s
      split <;> simp

@[simp] theorem execRouteTimerExpiry_keeps (r : BitVec 14) (s : State) : Nexts (execRouteTimerExpiry r s) (Keeps s) := by
  unfold execRouteTimerExpiry
  dsimp only
  split
  · exact keeps_self s
  · refine State.evaluated_nexts (fun v => ?_) s
    (repeat' split) <;> simp

@[simp] theorem execBoundaryGrantWaitExpiry_keeps (r : BitVec 14) (s : State) : Nexts (execBoundaryGrantWaitExpiry r s) (Keeps s) := by
  unfold execBoundaryGrantWaitExpiry
  dsimp only
  split
  · exact keeps_self s
  · refine State.evaluated_nexts (fun v => ?_) s
    (repeat' split) <;> simp

@[simp] theorem execGalleryAnnounce_keeps (g : Fin 8) (n a : Tick) (unit : BitVec 12) (s : State) :
    Nexts (execGalleryAnnounce g n a unit s) (Keeps s) := by
  dsimp only [execGalleryAnnounce]
  (repeat' split) <;> refine keeps_next ?_ ?_ ?_ <;> simp +contextual

@[simp] theorem execBoundaryLockItem_keeps (i : BndItem) (s : State) : Nexts (execBoundaryLockItem i s) (Keeps s) := by
  refine State.bndItem_nexts i _ (fun v sc => ?_) s
  split <;> simp

@[simp] theorem execBoundaryGrantedItem_keeps (i : BndItem) (s : State) : Nexts (execBoundaryGrantedItem i s) (Keeps s) := by
  refine State.bndItem_nexts i _ (fun v sc => ?_) s
  split <;> simp

@[simp] theorem execBoundaryRefusedItem_keeps (i : BndItem) (s : State) : Nexts (execBoundaryRefusedItem i s) (Keeps s) := by
  refine State.bndItem_nexts i _ (fun v sc => ?_) s
  split <;> simp

@[simp] theorem execBoundaryReleaseItem_keeps (i : BndItem) (op : BitVec 4) (s : State) :
    Nexts (execBoundaryReleaseItem i op s) (Keeps s) := by
  unfold execBoundaryReleaseItem
  split
  · exact keeps_self s
  · refine State.bndItem_nexts i _ (fun v sc => ?_) s
    split <;> simp

@[simp] theorem execBoundaryPeerLost_keeps (area : Fin 16) (s : State) : Nexts (execBoundaryPeerLost area s) (Keeps s) := by
  unfold execBoundaryPeerLost
  split
  · exact keeps_self s
  · refine State.evaluated_nexts (fun v => ?_) s
    dsimp only
    split <;> simp

@[simp] theorem execCommands_keeps (i : CmdItem) (s : State) : Nexts (execCommands i s) (Keeps s) := by
  dsimp only [execCommands]
  (repeat' split) <;> refine keeps_next ?_ ?_ ?_ <;> simp +contextual

@[simp] theorem execCommandHoldExpiry_keeps (s : State) : Nexts (execCommandHoldExpiry s) (Keeps s) := by
  dsimp only [execCommandHoldExpiry]
  (repeat' split) <;> refine keeps_next ?_ ?_ ?_ <;> simp +contextual

@[simp] theorem execPositionReport_keeps (r : PosReport) (s : State) : Nexts (execPositionReport r s) (Keeps s) := by
  unfold execPositionReport
  split
  · exact State.evaluated_nexts (fun v => by simp) s
  · exact keeps_self s

@[simp] theorem execPairCopy_keeps (items : List CopyItem) (s : State) : Nexts (execPairCopy items s) (Keeps s) := by
  dsimp only [execPairCopy]
  (repeat' split) <;> refine keeps_next ?_ ?_ ?_ <;> simp +contextual

@[simp] theorem execPairStatus_keeps (p : PairStat) (s : State) : Nexts (execPairStatus p s) (Keeps s) := by
  dsimp only [execPairStatus]
  (repeat' split) <;> refine keeps_next ?_ ?_ ?_ <;> simp +contextual

@[simp] theorem execActiveClaim_keeps (s : State) : Nexts (execActiveClaim s) (Keeps s) := by
  dsimp only [execActiveClaim]
  (repeat' split) <;> refine keeps_next ?_ ?_ ?_ <;> simp +contextual

@[simp] theorem execStandbyPromotion_keeps (cause : PromoteCause) (s : State) : Nexts (execStandbyPromotion cause s) (Keeps s) := by
  dsimp only [execStandbyPromotion]
  (repeat' split) <;> refine keeps_next ?_ ?_ ?_ <;> simp +contextual

@[simp] theorem execYield_keeps (cause : Fin 7) (s : State) : Nexts (execYield cause s) (Keeps s) := by
  dsimp only [execYield]
  (repeat' split) <;> refine keeps_next ?_ ?_ ?_ <;> simp +contextual

@[simp] theorem execUpdate_keeps (i : UpdItem) (s : State) : Nexts (execUpdate i s) (Keeps s) := by
  unfold execUpdate
  split
  · exact keeps_next_stores (State.takeUpdate_canonical i) (by simp)
  · split
    · exact keeps_next_stores (fun hs => State.takeUpdate_canonical i hs) (by simp)
    · exact keeps_self s

@[simp] theorem execBulk_keeps (f : RxFrame) (s : State) : Nexts (execBulk f s) (Keeps s) := by
  unfold execBulk
  split
  next s1 h => exact (State.keeps_drop h).then (keeps_self s1)
  next body e s1 h =>
    refine (State.keeps_take h).then ?_
    dsimp only
    split
    · exact keeps_next_stores (fun hs => State.deliverBulk_canonical e _ (hs.of_eq (by simp) (by simp) (by simp))) (by simp)
    · refine keeps_next ?_ ?_ ?_ <;> simp +contextual

@[simp] theorem execStagingEraseDone_keeps (s : State) : Nexts (execStagingEraseDone s) (Keeps s) := by
  unfold execStagingEraseDone
  split
  · exact keeps_next_stores (fun hs => ⟨rfl, rfl, hs.2.2⟩) (by simp)
  · exact keeps_self s

@[simp] theorem execStagingVerifyDone_keeps (accept : PerLane Bool) (s : State) : Nexts (execStagingVerifyDone accept s) (Keeps s) := by
  unfold execStagingVerifyDone
  split
  · exact keeps_self s
  · extract_lets img why lanes
    clear_value img why
    split
    · exact keeps_next_stores (fun hs => State.tryRelease_canonical (hs.of_eq rfl rfl rfl)) (by simp)
    · refine keeps_next ?_ ?_ ?_ <;> simp

@[simp] theorem execReleaseRecord_keeps (r : Release) (s : State) : Nexts (execReleaseRecord r s) (Keeps s) := by
  unfold execReleaseRecord
  split
  · exact keeps_self s
  · exact keeps_next_stores (fun hs => State.tryRelease_canonical (hs.of_eq rfl rfl rfl)) (by simp)

@[simp] theorem execBankCopyStart_keeps (s : State) : Nexts (execBankCopyStart s) (Keeps s) := by
  dsimp only [execBankCopyStart]
  (repeat' split) <;> refine keeps_next ?_ ?_ ?_ <;> simp +contextual

@[simp] theorem execBankCopyDone_keeps (digestOk : PerLane Bool) (s : State) : Nexts (execBankCopyDone digestOk s) (Keeps s) := by
  dsimp only [execBankCopyDone]
  (repeat' split) <;> refine keeps_next ?_ ?_ ?_ <;> simp +contextual

@[simp] theorem execRollingUpdateWithdrawal_keeps (l : Lane) (s : State) : Nexts (execRollingUpdateWithdrawal l s) (Keeps s) := by
  dsimp only [execRollingUpdateWithdrawal]
  (repeat' split) <;> refine keeps_next ?_ ?_ ?_ <;> simp +contextual

@[simp] theorem execDeferralAlarm_keeps (s : State) : Nexts (execDeferralAlarm s) (Keeps s) := by
  dsimp only [execDeferralAlarm]
  (repeat' split) <;> refine keeps_next ?_ ?_ ?_ <;> simp +contextual

@[simp] theorem execUpdDmaGo_keeps (s : State) : Nexts (execUpdDmaGo s) (Keeps s) := by
  refine keeps_next ?_ ?_ ?_ <;> simp +contextual

@[simp] theorem execUpdDmaAbort_keeps (s : State) : Nexts (execUpdDmaAbort s) (Keeps s) := by
  refine keeps_next ?_ ?_ ?_ <;> simp +contextual

@[simp] theorem execUpdDmaEnd_keeps (err : Bool) (s : State) : Nexts (execUpdDmaEnd err s) (Keeps s) := by
  dsimp only [execUpdDmaEnd]
  (repeat' split) <;> refine keeps_next ?_ ?_ ?_ <;> simp +contextual

@[simp] theorem execRollingProofDue_keeps (l : Lane) (s : State) : Nexts (execRollingProofDue l s) (Keeps s) := by
  dsimp only [execRollingProofDue]
  (repeat' split) <;> refine keeps_next ?_ ?_ ?_ <;> simp +contextual

@[simp] theorem execRollingProofWithdrawal_keeps (l : Lane) (s : State) : Nexts (execRollingProofWithdrawal l s) (Keeps s) := by
  dsimp only [execRollingProofWithdrawal]
  (repeat' split) <;> refine keeps_next ?_ ?_ ?_ <;> simp +contextual

@[simp] theorem execRollingProofOverdue_keeps (l : Lane) (s : State) : Nexts (execRollingProofOverdue l s) (Keeps s) := by
  dsimp only [execRollingProofOverdue]
  (repeat' split) <;> refine keeps_next ?_ ?_ ?_ <;> simp +contextual

@[simp] theorem execDissentStep_keeps (side : Side) (obs : PerLane (List (Chan × EchoItem))) (s : State) :
    Nexts (execDissentStep side obs s) (Keeps s) := by
  dsimp only [execDissentStep]
  (repeat' split) <;> refine keeps_next ?_ ?_ ?_ <;> simp +contextual

@[simp] theorem execBudgetWindowEnd_keeps (s : State) : Nexts (execBudgetWindowEnd s) (Keeps s) := by
  dsimp only [execBudgetWindowEnd]
  (repeat' split) <;> refine keeps_next ?_ ?_ ?_ <;> simp +contextual

@[simp] theorem execAgeingWindow_keeps (obs : AgeObs) (s : State) : Nexts (execAgeingWindow obs s) (Keeps s) := by
  unfold execAgeingWindow
  split
  · exact ⟨_, rfl, s.keeps_ageWindow obs⟩
  · exact keeps_self s

@[simp] theorem execDailyRecord_keeps (s : State) : Nexts (execDailyRecord s) (Keeps s) := by
  dsimp only [execDailyRecord]
  (repeat' split) <;> refine keeps_next ?_ ?_ ?_ <;> simp +contextual

@[simp] theorem execOvertemperature_keeps (die : HotDie) (celsius : Nat) (s : State) :
    Nexts (execOvertemperature die celsius s) (Keeps s) := by
  dsimp only [execOvertemperature]
  (repeat' split) <;> refine keeps_next ?_ ?_ ?_ <;> simp +contextual

@[simp] theorem execThermalRecovery_keeps (l : Lane) (s : State) : Nexts (execThermalRecovery l s) (Keeps s) := by
  refine keeps_next ?_ ?_ ?_ <;> simp +contextual

@[simp] theorem execBistGo_keeps (s : State) : Nexts (execBistGo s) (Keeps s) := by
  refine keeps_next ?_ ?_ ?_ <;> simp +contextual

@[simp] theorem execBistDone_keeps (pass : Bool) (durUs : Nat) (s : State) : Nexts (execBistDone pass durUs s) (Keeps s) := by
  dsimp only [execBistDone]
  (repeat' split) <;> refine keeps_next ?_ ?_ ?_ <;> simp +contextual

@[simp] theorem execRcRead_keeps (bar : Bar) (ofs : BitVec 24) (s : State) : Nexts (execRcRead bar ofs s) (Keeps s) := by
  refine keeps_next ?_ ?_ ?_ <;> simp +contextual

@[simp] theorem execMirrorRead_keeps (ofs : BitVec 24) (words : Fin 17) (s : State) : Nexts (execMirrorRead ofs words s) (Keeps s) := by
  dsimp only [execMirrorRead]
  (repeat' split) <;> refine keeps_next ?_ ?_ ?_ <;> simp +contextual

@[simp] theorem execHostRegisterWrite_keeps (bar : Bar) (ofs : BitVec 24) (val : Word) (s : State) :
    Nexts (execHostRegisterWrite bar ofs val s) (Keeps s) := by
  refine keeps_next ?_ ?_ ?_ <;> simp +contextual

@[simp] theorem execConfigurationRequest_keeps (r : CfgReq) (s : State) : Nexts (execConfigurationRequest r s) (Keeps s) := by
  dsimp only [execConfigurationRequest]
  (repeat' split) <;> refine keeps_next ?_ ?_ ?_ <;> simp +contextual

@[simp] theorem execArbFreezeExpiry_keeps (res : Fin 6) (s : State) : Nexts (execArbFreezeExpiry res s) (Keeps s) := by
  unfold execArbFreezeExpiry
  split
  · refine ⟨_, rfl, Keeps.trans ?_ (State.keeps_thaw _ res)⟩
    exact keeps_of ⟨rfl, rfl, rfl, rfl, rfl⟩ id id
  · exact keeps_self s

@[simp] theorem execArbFreezeRequest_keeps (l : Lane) (res : Fin 6) (mask : Byte) (freeze : Bool) (s : State) :
    Nexts (execArbFreezeRequest l res mask freeze s) (Keeps s) := by
  unfold execArbFreezeRequest
  dsimp only
  split
  · split <;> refine keeps_next ?_ ?_ ?_ <;> simp
  · split
    · exact ⟨_, rfl, s.keeps_thaw res⟩
    · exact keeps_self s

@[simp] theorem execLogRecordArrival_keeps (copies : List (Lane × Record)) (s : State) :
    Nexts (execLogRecordArrival copies s) (Keeps s) := by
  unfold execLogRecordArrival
  split
  · exact keeps_self s
  · split
    next s1 h => exact (State.keeps_traceFilter h).then (by refine keeps_next ?_ ?_ ?_ <;> simp)
    next =>
      split
      · exact keeps_next (by simp) id id
      · exact keeps_self s

@[simp] theorem execLog_keeps (src : BitVec 12) (recs : List Record) (s : State) : Nexts (execLog src recs s) (Keeps s) := by
  dsimp only [execLog]
  (repeat' split) <;> refine keeps_next ?_ ?_ ?_ <;> simp +contextual

@[simp] theorem execLogExport_keeps (s : State) : Nexts (execLogExport s) (Keeps s) := by
  unfold execLogExport
  split
  · split
    · exact keeps_self s
    · split
      next r s1 h => exact (State.keeps_exportOne h).then (keeps_next_stores (State.ringPut_canonical r) (by simp))
      next => exact keeps_self s
  · split
    · split
      next r s1 h =>
        split
        · exact keeps_self s
        · exact (State.keeps_exportOne h).then (keeps_next (by simp) id id)
      next => exact keeps_self s
    · exact keeps_self s

@[simp] theorem execHostRingFullAlarm_keeps (s : State) : Nexts (execHostRingFullAlarm s) (Keeps s) := by
  dsimp only [execHostRingFullAlarm]
  (repeat' split) <;> refine keeps_next ?_ ?_ ?_ <;> simp +contextual

@[simp] theorem execGallerySwitchEdge_keeps (s : State) : Nexts (execGallerySwitchEdge s) (Keeps s) := by
  refine keeps_next ?_ ?_ ?_ <;> simp +contextual

@[simp] theorem execGallerySwitchDecision_keeps (s : State) : Nexts (execGallerySwitchDecision s) (Keeps s) := by
  refine keeps_next ?_ ?_ ?_ <;> simp +contextual

end Sys2Proof.Machine
end

section
/-!
The invariants of every command (O54, O56, O58, O59), and the two small statements about the step and the reset state (O53, O55).
-/

namespace Sys2Proof.Machine

/-! ### Fuses are only burned (R438-R440, R446, R447) -/

/-- What burning does to the fuses: nothing falls, and soundness is kept. -/
def Fuses.burned (f g : Fuses) : Prop := f.leads g ∧ (f.sound → g.sound)

theorem Fuses.burned_refl (f : Fuses) : f.burned f := ⟨⟨rfl, fun _ h => h, le_refl _, rfl, id, id⟩, id⟩

/-- A key slot that is fused and that the word `r` does not revoke. -/
def Fuses.keyLeft (f : Fuses) (r : BitVec 4) : Prop := ∃ k : Fin 4, f.slots[k].isSome = true ∧ r.getLsbD k.val = false

/-- One revocation of an image's: taken only where a fused slot is left. -/
def Fuses.revokeStep (f : Fuses) (h : ImageHdr) (acc : BitVec 4 × List Nat) (k : Nat) : BitVec 4 × List Nat :=
  let next := acc.1 ||| (1#4 <<< k)
  let left := (List.range 4).any (fun j => (f.slots.toList[j]?.bind id).isSome && !next.getLsbD j)
  if h.revoke.getLsbD k && k != h.keySlot.toNat && !acc.1.getLsbD k && left then (next, acc.2 ++ [k]) else acc

theorem Fuses.confirm_fst (f : Fuses) (h : ImageHdr) : (f.confirm h).1 = { f with
    revoked := ([0, 1, 2, 3].foldl (f.revokeStep h) (f.revoked, [])).1, secFloor := max f.secFloor (min 63 h.secVer)
    commissioned := f.commissioned || h.lcReq == .service || h.lcReq == .field } := rfl

theorem Fuses.revokeStep_keeps (f : Fuses) (h : ImageHdr) (acc : BitVec 4 × List Nat) (k : Nat) :
    (∀ j : Fin 4, acc.1.getLsbD j.val = true → (f.revokeStep h acc k).1.getLsbD j.val = true) ∧
    (f.keyLeft acc.1 → f.keyLeft (f.revokeStep h acc k).1) := by
  unfold Fuses.revokeStep
  dsimp only
  split
  next hgo =>
    simp only [Bool.and_eq_true, List.any_eq_true, List.mem_range] at hgo
    obtain ⟨-, j, hj, hfused, hleft⟩ := hgo
    refine ⟨fun i hi => by simp [hi], fun _ => ⟨⟨j, hj⟩, ?_, Bool.not_eq_true' _ ▸ hleft⟩⟩
    simpa [hj] using hfused
  next => exact ⟨fun _ h => h, id⟩

theorem Fuses.confirm_burned (f : Fuses) (h : ImageHdr) : f.burned (f.confirm h).1 := by
  have hrevoked : (∀ j : Fin 4, f.revoked.getLsbD j.val = true → (f.confirm h).1.revoked.getLsbD j.val = true) ∧
      (f.keyLeft f.revoked → f.keyLeft (f.confirm h).1.revoked) := by
    rw [Fuses.confirm_fst]
    refine foldl_invariant (p := fun acc : BitVec 4 × List Nat => (∀ j : Fin 4, f.revoked.getLsbD j.val = true →
      acc.1.getLsbD j.val = true) ∧ (f.keyLeft f.revoked → f.keyLeft acc.1)) (fun acc k hacc => ?_) [0, 1, 2, 3] ⟨fun _ h => h, id⟩
    obtain ⟨hbits, hkey⟩ := f.revokeStep_keeps h acc k
    exact ⟨fun j hj => hbits j (hacc.1 j hj), hkey ∘ hacc.2⟩
  obtain ⟨hbits, hkey⟩ := hrevoked
  refine ⟨⟨rfl, hbits, ?_, rfl, fun hc => ?_, id⟩, fun hsound => ?_⟩
  · simp [Fuses.confirm_fst]
  · simp [Fuses.confirm_fst, hc]
  · obtain ⟨hslot, hkek, hfloor⟩ := hsound
    refine ⟨hkey hslot, hkek, ?_⟩
    simp [Fuses.confirm_fst, hfloor]

/-- A confirmed image burns its own revocations and floor, and nothing else does. -/
theorem State.confirmImage_burned (s : State) (rolling : Bool) : s.fuses.burned (s.confirmImage rolling).fuses := by
  unfold State.confirmImage
  split
  · exact s.fuses.burned_refl
  · simpa using s.fuses.confirm_burned _

theorem State.bootLoad_burned (s : State) (loaded0 loaded1 : PerLane Bool) (c : Bool) (can : PerStore Bool) :
    s.fuses.burned (s.bootLoad loaded0 loaded1 c can).fuses := by
  unfold State.bootLoad
  dsimp only
  split
  · simpa only [State.bootFailed_frame] using s.fuses.burned_refl
  · split
    · simpa only [State.bootFailed_frame] using s.fuses.burned_refl
    · split
      · simp only [State.bootFailed_frame]
        exact ⟨⟨rfl, fun _ h => h, le_refl _, rfl, id, fun _ => rfl⟩, fun h => ⟨h.1, fun _ => rfl, h.2.2⟩⟩
      · split <;> simpa only [State.bootEnd_frame, State.setLatch_frame, State.loadImgRegs_frame, State.bootRun_frame] using s.fuses.burned_refl

theorem State.lifeCycle_retired {s : State} (h : s.fuses.retired = true) : s.lifeCycle = .retired := by
  simp [State.lifeCycle, h]

/-! ### What every command keeps -/

/-- What a command `c` that takes `s` to `t` keeps. -/
structure Orderly (c : Instr) (s t : State) : Prop where
  queue : t.pending = s.pending
  fuses : s.fuses.burned t.fuses
  stores : StoresCanonical s → StoresCanonical t
  latch : LatchRecorded s → clearsByRequest c = false → s.aon.latrecPend = false ∨ (c ≠ .por ∧ c ≠ .commitEnd) →
    s.aon.latch = true → t.aon.latch = true
  hold : clearsByRequest c = false → s.ms.outHold = true → t.ms.outHold = true

theorem Keeps.orderly {c : Instr} {s t : State} (h : Keeps s t) : Orderly c s t where
  queue := h.queue
  fuses := h.fuses ▸ s.fuses.burned_refl
  stores := h.stores
  latch := fun _ _ _ => h.latch
  hold := fun _ => h.hold

/-- A command that brings a reset request may clear the latch and the hold. -/
theorem orderly_of_request {c : Instr} {s t : State} (hc : clearsByRequest c = true) (hqueue : t.pending = s.pending)
    (hfuses : t.fuses = s.fuses) (hstores : StoresCanonical s → StoresCanonical t) : Orderly c s t where
  queue := hqueue
  fuses := hfuses ▸ s.fuses.burned_refl
  stores := hstores
  latch := fun _ h => by simp [hc] at h
  hold := fun h => by simp [hc] at h

/-- A command that burns fuses. -/
theorem orderly_of_burned {c : Instr} {s t : State} (hfuses : s.fuses.burned t.fuses)
    (hsame : t.pending = s.pending ∧ t.log.ring = s.log.ring ∧ t.nvm.staging = s.nvm.staging ∧ t.nvm.relChunks = s.nvm.relChunks)
    (hlatch : s.aon.latch = true → t.aon.latch = true) (hhold : s.ms.outHold = true → t.ms.outHold = true) : Orderly c s t where
  queue := hsame.1
  fuses := hfuses
  stores := fun hs => hs.of_eq hsame.2.1 hsame.2.2.1 hsame.2.2.2
  latch := fun _ _ _ => hlatch
  hold := fun _ => hhold

/-- The loss of the power that keeps no record in wait (R482). -/
theorem State.powerOn_orderly {c : Instr} (hc : c = .por ∨ c = .commitEnd) (s : State) : Orderly c s s.powerOn where
  queue := by simp
  fuses := by simpa using s.fuses.burned_refl
  stores := fun hs => hs.of_eq (by simp) (by simp) (by simp)
  latch := fun hrec _ hpend hs => by
    refine State.powerOn_latched hrec (hpend.resolve_right fun hne => ?_) hs
    rcases hc with rfl | rfl
    · exact hne.1 rfl
    · exact hne.2 rfl
  hold := fun _ _ => by simp

theorem execPor_orderly (s : State) : Nexts (execPor s) (Orderly .por s) := ⟨_, rfl, s.powerOn_orderly (.inl rfl)⟩

theorem execCommitEnd_orderly (s : State) : Nexts (execCommitEnd s) (Orderly .commitEnd s) := by
  unfold execCommitEnd
  split
  · exact ⟨s, rfl, (Keeps.refl s).orderly⟩
  · exact ⟨_, rfl, s.powerOn_orderly (.inr rfl)⟩

theorem execBootComplete_orderly (loaded0 loaded1 : PerLane Bool) (obs : BootObs) (ms : Nat) (s : State) :
    Nexts (execBootComplete loaded0 loaded1 obs ms s) (Orderly (.bootComplete loaded0 loaded1 obs ms) s) := by
  have hrecords (t : State) : Keeps t (if obs.torn && t.aon.kind == 1 then t.tornRec else t).bootRecords := by
    split <;> refine keeps_of ?_ ?_ ?_ <;> simp
  have hcopy (t : State) : Keeps t (t.bootCopy obs.lockLow) := by
    refine keeps_of ?_ ?_ ?_ <;> simp
  have hpass : Keeps s (s.passUs (1000 * ms)) := by
    refine keeps_of ?_ ?_ ?_ <;> simp
  unfold execBootComplete
  split
  · exact ⟨s, rfl, (Keeps.refl s).orderly⟩
  · extract_lets s0 s1 before s2 c _ _ s3
    have h0 : Keeps s s0 := hpass
    have h1 : Keeps s0 s1 := hrecords s0
    have h2 : Keeps s1 s2 := hcopy s1
    clear_value s0 s1 before s2 c
    have h3 : Keeps s2 s3 := keeps_of ⟨rfl, rfl, rfl, rfl, rfl⟩ id id
    clear_value s3
    replace h3 : Keeps s s3 := h0.trans (h1.trans (h2.trans h3))
    have hfuses := s3.bootLoad_burned loaded0 loaded1 c obs.converted
    rw [h3.fuses] at hfuses
    exact ⟨_, rfl, by simpa using h3.queue, hfuses, fun hs => (h3.stores hs).of_eq (by simp) (by simp) (by simp),
      fun _ _ _ hs => State.bootLoad_latched _ _ _ _ _ (h3.latch hs), fun _ hs => by simpa using h3.hold hs⟩

theorem execKeyEncryptionKeyWrite_orderly (key : BitVec 256) (s : State) :
    Nexts (execKeyEncryptionKeyWrite key s) (Orderly (.keyEncryptionKeyWrite key) s) := by
  unfold execKeyEncryptionKeyWrite
  split
  · exact ⟨_, rfl, Keeps.orderly (by refine keeps_of ?_ ?_ ?_ <;> simp)⟩
  · split
    · exact ⟨s, rfl, (Keeps.refl s).orderly⟩
    next hlc =>
      split
      · exact ⟨s, rfl, (Keeps.refl s).orderly⟩
      · have hin : s.fuses.retired ≠ true := fun h => by simp [State.lifeCycle_retired h] at hlc
        refine ⟨_, rfl, orderly_of_burned ?_ ⟨rfl, rfl, rfl, rfl⟩ id id⟩
        exact ⟨⟨rfl, fun _ h => h, le_refl _, rfl, id, id⟩, fun h => ⟨h.1, fun hr => absurd hr hin, h.2.2⟩⟩

theorem State.confirmImage_orderly (c : Instr) (s : State) (rolling : Bool) : Orderly c s (s.confirmImage rolling) :=
  orderly_of_burned (s.confirmImage_burned rolling) (by simp) (by simp) (by simp)

theorem execRollingCountComplete_orderly (l : Lane) (s : State) :
    Nexts (execRollingCountComplete l s) (Orderly (.rollingCountComplete l) s) := by
  unfold execRollingCountComplete
  split
  · exact ⟨s, rfl, (Keeps.refl s).orderly⟩
  · split
    · exact ⟨_, rfl, s.confirmImage_orderly _ true⟩
    · exact ⟨s, rfl, (Keeps.refl s).orderly⟩

theorem execFullTrialConfirmation_orderly (s : State) : Nexts (execFullTrialConfirmation s) (Orderly .fullTrialConfirmation s) := by
  unfold execFullTrialConfirmation
  split
  · exact ⟨_, rfl, s.confirmImage_orderly _ false⟩
  · exact ⟨s, rfl, (Keeps.refl s).orderly⟩

theorem execQualifiedResetRequest_orderly (origin : ResetOrigin) (begun : Tick) (s : State) :
    Nexts (execQualifiedResetRequest origin begun s) (Orderly (.qualifiedResetRequest origin begun) s) := by
  unfold execQualifiedResetRequest
  split
  · exact ⟨s, rfl, (Keeps.refl s).orderly⟩
  · exact ⟨_, rfl, orderly_of_request rfl (by simp) (by simp) fun hs => hs.of_eq (by simp) (by simp) (by simp)⟩

theorem execRstreqFalling_orderly (highUs : PerLane Nat) (hubUs : Nat) (s : State) :
    Nexts (execRstreqFalling highUs hubUs s) (Orderly (.rstreqFalling highUs hubUs) s) := by
  unfold execRstreqFalling
  dsimp only
  (repeat' split) <;>
    exact ⟨_, rfl, orderly_of_request rfl (by simp) (by simp) fun hs => hs.of_eq (by simp) (by simp) (by simp)⟩

theorem execModuleReset_orderly (q : Request) (s : State) : Nexts (execModuleReset q s) (Orderly (.moduleReset q) s) :=
  ⟨_, rfl, orderly_of_request rfl (by simp) (by simp) fun hs => hs.of_eq (by simp) (by simp) (by simp)⟩

theorem execTickEdge_orderly (obs : TickObs) (s : State) : Nexts (execTickEdge obs s) (Orderly (.tickEdge obs) s) := by
  have htake : StoresCanonical s → StoresCanonical s.takeHeld := fun hs => hs.of_eq (by simp) (by simp) (by simp)
  unfold execTickEdge
  split
  · exact ⟨s, rfl, (Keeps.refl s).orderly⟩
  · split
    · exact ⟨_, rfl, orderly_of_request rfl (by simp) (by simp) fun hs => hs.of_eq (by simp) (by simp) (by simp)⟩
    · split
      · exact ⟨_, rfl, orderly_of_request rfl (by simp) (by simp) htake⟩
      · exact ⟨_, rfl, orderly_of_request rfl (by simp) (by simp) fun hs => State.runTick_canonical obs (htake hs)⟩

/-- Every command answers a next state, and keeps what the block always keeps. -/
theorem exec_orderly (c : Instr) (s : State) : Nexts (exec c s) (Orderly c s) := by
  cases c
  case por => exact execPor_orderly s
  case commitEnd => exact execCommitEnd_orderly s
  case bootComplete => exact execBootComplete_orderly _ _ _ _ s
  case keyEncryptionKeyWrite => exact execKeyEncryptionKeyWrite_orderly _ s
  case rollingCountComplete => exact execRollingCountComplete_orderly _ s
  case fullTrialConfirmation => exact execFullTrialConfirmation_orderly s
  case qualifiedResetRequest => exact execQualifiedResetRequest_orderly _ _ s
  case rstreqFalling => exact execRstreqFalling_orderly _ _ s
  case moduleReset => exact execModuleReset_orderly _ s
  case tickEdge => exact execTickEdge_orderly _ s
  all_goals exact Nexts.mono (fun _ => Keeps.orderly) (by simp only [exec]; simp)

theorem orderly_of_exec {c : Instr} {s t : State} (h : exec c s = .next t) : Orderly c s t := by
  obtain ⟨u, hu, ho⟩ := exec_orderly c s
  rw [hu] at h
  cases h
  exact ho

/-- A step runs the front command of the queue with the rest in the queue, or leaves a block without commands. -/
theorem step_cases {s t : State} (h : step s = .next t) :
    t = s ∨ ∃ c rest, s.pending = c :: rest ∧ Orderly c { s with pending := rest } t := by
  unfold step at h
  split at h
  · cases h
    exact .inl rfl
  next c rest hp => exact .inr ⟨c, rest, hp, orderly_of_exec h⟩

/-- Settles O54: the queue of `exec_orderly`. -/
theorem everyCommandAnswersANextState : Obligations.EveryCommandAnswersANextState := by
  intro c s
  exact (exec_orderly c s).imp fun t ht => ⟨ht.1, ht.2.queue⟩

/-- Settles O56, by the fuses of `exec_orderly`: only a confirmed image, the loading of a RETIRED one and the write of the key-encryption key
burn any. -/
theorem stepsOnlyBurnFuses : Obligations.StepsOnlyBurnFuses := by
  intro s t h
  rcases step_cases h with rfl | ⟨c, rest, -, ho⟩
  · exact t.fuses.burned_refl
  · exact ho.fuses

/-- Settles O58: only the four commands that bring a reset request reach the operations that clear the latch or the hold. -/
theorem latchAndHoldFallOnlyByRequest : Obligations.LatchAndHoldFallOnlyByRequest := by
  intro c s t hrec hc h
  have ho := orderly_of_exec h
  exact ⟨fun hs hpend => ho.latch hrec hc hpend hs, ho.hold hc⟩

/-- Settles O59: the stores are only written by `AMap.set` or emptied. -/
theorem stepsKeepStoresCanonical : Obligations.StepsKeepStoresCanonical := by
  intro s t hs h
  rcases step_cases h with rfl | ⟨c, rest, -, ho⟩
  · exact hs
  · exact ho.stores hs

/-- Settles O53, the three cases of the step. -/
theorem stepRunsTheFrontCommand : Obligations.StepRunsTheFrontCommand := by
  refine ⟨fun c s => rfl, fun c rest s h => ?_, fun s h => ?_⟩
  · simp [step, h]
  · simp [step, h]

theorem State.reset_mbx (b : Bool) (ch : Fin 8) : State.reset.mbx b ch = .reset := by
  cases b <;> simp [State.mbx, State.reset, Mail.reset]

/-- Settles O55, by evaluation of the reset state. -/
theorem resetLeavesTheBlockInBoot : Obligations.ResetLeavesTheBlockInBoot := by
  refine ⟨⟨rfl, rfl, rfl, rfl, rfl, rfl, fun i => ?_, rfl, fun b ch => ?_, fun l b => ?_, fun l => ?_, rfl⟩, ?_, ?_, ?_, ?_, ?_⟩
  · simp [State.reset, Shared.reset]
  · rw [State.reset_mbx]
    exact ⟨rfl, rfl, rfl⟩
  · cases l <;> simp [State.iface, PerLane.get, State.reset, Field.reset, PerLane.all, Iface.reset]
  · cases l <;> exact ⟨rfl, rfl⟩
  · exact ⟨⟨0, rfl, rfl⟩, fun _ => rfl, by decide⟩
  · exact .inr rfl
  · exact rfl
  · exact rfl
  · exact rfl

end Sys2Proof.Machine
end

section
/-!
SUPPORT and O2. A round without rivals, a freeze and its end, and the check-value channels.
-/

namespace Sys2Proof.Machine

/-! ### Rounds (R398-R401) -/

section
variable (h : Shared) (res : Fin 6) (m : Master) (rivals : List Master)

@[simp] theorem Shared.round_waiting : (h.round res m rivals).1.waiting = h.waiting := by rw [Shared.round_fst_eq]

@[simp] theorem Shared.round_heldOff (r : Fin 6) (n : Master) : (h.round res m rivals).1.heldOff r n = h.heldOff r n := by
  simp [Shared.heldOff]

end

/-- A freeze withholds the grant of a master that it holds off. -/
theorem Shared.round_of_heldOff {h : Shared} {res : Fin 6} {m : Master} (hheld : h.heldOff res m = true) (rivals : List Master) :
    (h.round res m rivals).2 = false := by
  unfold Shared.round
  dsimp only
  split
  · rfl
  next w hw =>
    have hlive := List.mem_of_find?_eq_some hw
    have hne : w ≠ m := by
      rintro rfl
      simp [hheld] at hlive
    simpa using hne

/-- A master that no freeze holds off and that meets nobody is granted, and starts again at its base priority. -/
theorem Shared.round_alone {h : Shared} {res : Fin 6} {m : Master} (hfree : h.heldOff res m = false) :
    h.round res m [] = ({ h with
      grants := vmod h.grants res fun _ => m.id
      lost := h.lost.filter fun p => p.1 / 16 != res.val
      maxLost := vmod h.maxLost res fun x => min 255 x }, true) := by
  simp [Shared.round, requesters, Shared.first, hfree]

theorem vmod_twice {α : Type} {n : Nat} (v : Vector α n) (i : Fin n) {f : α → α} (hf : ∀ x, f (f x) = f x) :
    vmod (vmod v i f) i f = vmod v i f := by
  simp [vmod, hf]

/-- A second round in a row changes nothing more. -/
theorem Shared.round_alone_twice {h : Shared} {res : Fin 6} {m : Master} (hfree : h.heldOff res m = false) :
    (h.round res m []).1.round res m [] = ((h.round res m []).1, true) := by
  rw [Shared.round_alone (by simpa using hfree), Shared.round_alone hfree]
  simp [vmod_twice]

theorem State.onPort_of_heldOff {s : State} {res : Fin 6} {m : Master} (hheld : s.sh.heldOff res m = true) (rivals : List Master)
    (a : HubAccess) (f : State → State) :
    s.onPort res m rivals a f = { s with sh := { (s.sh.round res m rivals).1 with waiting := s.sh.waiting ++ [⟨res, m, a⟩] } } := by
  simp [State.onPort, Shared.round_of_heldOff hheld, hheld]

/-! ### Orphan marks and freezes (R401, R405) -/

theorem exec_lckOrphanClear_of_granted {s : State} (hup : s.pwr.d3hot = false) (hgrant : (s.sh.round 1 .hostNonsecure []).2 = true)
    (hi : Bool) (val : Word) :
    exec (.lckOrphanClear hi val) s = .next { s with sh := { (s.sh.round 1 .hostNonsecure []).1 with
      orphan := s.sh.orphan &&& ~~~(if hi then val ++ 0#32 else 0#32 ++ val) } } := by
  have hword : (if hi then val.setWidth 64 <<< 32 else val.setWidth 64 : DWord) = if hi then val ++ 0#32 else 0#32 ++ val := by
    refine BitVec.eq_of_getLsbD_eq fun i hi64 => ?_
    by_cases hlow : i < 32
    · cases hi <;> simp only [Bool.false_eq_true, if_false, if_true, BitVec.getLsbD_append, BitVec.getLsbD_shiftLeft,
        BitVec.getLsbD_setWidth, BitVec.getLsbD_zero, hlow, hi64] <;> simp
    · have htop : val.getLsbD i = false := BitVec.getLsbD_of_ge _ _ (Nat.le_of_not_lt hlow)
      have hshift : i - 32 < 64 := by omega
      cases hi <;> simp only [Bool.false_eq_true, if_false, if_true, BitVec.getLsbD_append, BitVec.getLsbD_shiftLeft,
        BitVec.getLsbD_setWidth, BitVec.getLsbD_zero, hlow, hi64, hshift, htop] <;> simp
  show execLckOrphanClear hi val s = _
  simp [execLckOrphanClear, State.orphanClear, hup, State.onPort_of_granted hgrant, Shared.orphanWrite, hword]

/-- A freeze request block as a lane finds it: the resource and the mask after the head (R195). -/
theorem State.exBlock_freeze (s : State) (l : Lane) (res : Fin 6) (mask : Byte) :
    natAt (s.exBlock .freeze l 0 (freezeBody res mask)) 16 1 = res.val ∧
    BitVec.ofNat 8 (natAt (s.exBlock .freeze l 0 (freezeBody res mask)) 17 1) = mask := by
  have hres : res.val % 256 = res.val := Nat.mod_eq_of_lt (by omega)
  constructor
  · simp [natAt, bytesAt, leNat, State.exBlock, exHead, freezeBody, leBytes, hres]
  · simp [natAt, bytesAt, leNat, State.exBlock, exHead, freezeBody, leBytes]

theorem State.thaw_of_none_waiting {s : State} {res : Fin 6} (hnone : ∀ w ∈ s.sh.waiting, w.res ≠ res) :
    s.thaw res = { s with sh := s.sh.unfreeze res } := by
  have hstay : s.sh.waiting.filter (fun w => w.res != res) = s.sh.waiting :=
    List.filter_eq_self.mpr fun w hw => by simpa using hnone w hw
  have hgo : s.sh.waiting.filter (fun w => w.res == res) = [] :=
    List.filter_eq_nil_iff.mpr fun w hw => by simpa using hnone w hw
  simp [State.thaw, hstay, hgo, Shared.unfreeze]

theorem exec_arbFreezeRequest_of_all {s : State} {l : Lane} {res : Fin 6} {mask : Byte} (hacting : s.acting ≠ 0)
    (hasked : ∀ m : Lane, m.inMask s.acting = true → m ≠ l → ∃ bs ∈ s.sh.freezeReq.get m,
      natAt bs 16 1 = res.val ∧ BitVec.ofNat 8 (natAt bs 17 1) &&& 0xF1#8 = mask &&& 0xF1#8) :
    exec (.arbFreezeRequest l res mask true) s = .next { s.modLaneSt l (fun x => x.sealedBlock .freeze) with
      sh := { s.sh with
        freezeReq := s.sh.freezeReq.set l (s.sh.freezeReq.get l ++ [s.exBlock .freeze l 0 (freezeBody res mask)])
        freeze := s.sh.freeze ||| (1#6 <<< res.val), mask := mask &&& 0xF1#8 } } := by
  obtain ⟨hres, hmask⟩ := s.exBlock_freeze l res mask
  show execArbFreezeRequest l res mask true s = _
  unfold execArbFreezeRequest
  rw [if_pos rfl]
  dsimp only
  rw [if_pos]
  · rfl
  · simp only [Bool.and_eq_true, List.all_eq_true, bne_iff_ne, ne_eq, hacting, not_false_eq_true, and_true]
    intro m hm
    rw [List.any_eq_true]
    by_cases hl : m = l
    · subst hl
      exact ⟨s.exBlock .freeze m 0 (freezeBody res mask), by simp [PerLane.modify], by simp [hres, hmask]⟩
    · obtain ⟨bs, hbs, hr, hb⟩ := hasked m (by simpa using hm) hl
      exact ⟨bs, by simpa [PerLane.modify, PerLane.get_set_ne _ _ _ _ hl] using hbs, by simp [hr, hb]⟩

theorem exec_arbFreezeExpiry_of_frozen {s : State} {res : Fin 6} (hfrozen : s.sh.freeze.getLsbD res.val = true) :
    exec (.arbFreezeExpiry res) s = .next
      (({ s with sh := { s.sh with expireCnt := satInc 255 s.sh.expireCnt } } : State).thaw res) :=
  if_pos hfrozen

/-- A read of a free lock that waited for the end of a freeze takes it then. -/
theorem State.thaw_lckRead {s : State} {m : Master} {i : Fin 64} (hseen : s.hostBlind m = false)
    (hwait : s.sh.waiting = [⟨1, m, .lckRead i⟩]) :
    s.thaw 1 = ({ s with sh := ({ s.sh.unfreeze 1 with waiting := [] }.round 1 m []).1 } : State).lckTake m i := by
  have hblind (h : Shared) : ({ s with sh := h } : State).hostBlind m = false := hseen
  simp [State.thaw, hwait, State.perform, hblind]

/-! ### Check-value channels (R421-R427) -/

theorem State.crcDrain_of_none {s : State} (hnone : s.sh.waiting = []) : s.crcDrain = s := by
  have hsame : ({ s with sh := { s.sh with waiting := [] } } : State) = s := by rw [← hnone]
  rw [State.crcDrain, hnone, List.foldl_nil, hsame]

theorem Shared.crcWaits_of_none {h : Shared} (hnone : h.waiting = []) (ch : Fin 16) : h.crcWaits ch = false := by
  simp [Shared.crcWaits, hnone]

section
variable {s : State} {m : Master} {ch : Fin 16}

/-- A write of a register of the writer's own channel on the register bus. -/
theorem State.crcBus_of_owned {w : CrcWrite} (hseen : s.hostBlind m = false) (hfree : s.sh.heldOff 1 m = false)
    (hnone : s.sh.waiting = []) (hown : crcOwned m ch = true) (hw : ∀ t v, w ≠ .data t v) :
    s.crcBus m ch w = ({ s with sh := (s.sh.round 1 m []).1 } : State).modCrc ch (fun c => c.write w) := by
  have hnone' : (s.sh.round 1 m []).1.waiting = [] := by simpa using hnone
  have hblind : ({ s with sh := (s.sh.round 1 m []).1 } : State).hostBlind m = false := hseen
  rw [State.crcBus, if_neg (by simp [hseen]), State.onPort_of_granted (by rw [Shared.round_alone hfree]), State.crcPut,
    if_neg (by simp [hblind]), if_neg (by simp [hown]), State.crcDrain_of_none hnone', State.crcMeet.eq_def,
    if_neg (by simp [Shared.crcWaits_of_none hnone'])]
  · cases w with
    | data t v => exact absurd rfl (hw t v)
    | _ => rfl

/-- A write of a register of a foreign channel is discarded and counted. -/
theorem State.crcBus_of_foreign {w : CrcWrite} (hseen : s.hostBlind m = false) (hfree : s.sh.heldOff 1 m = false)
    (hforeign : crcOwned m ch = false) :
    s.crcBus m ch w = ({ s with sh := (s.sh.round 1 m []).1 } : State).crcDenied m := by
  have hblind : ({ s with sh := (s.sh.round 1 m []).1 } : State).hostBlind m = false := hseen
  rw [State.crcBus, if_neg (by simp [hseen]), State.onPort_of_granted (by rw [Shared.round_alone hfree]), State.crcPut,
    if_neg (by simp [hblind]), if_pos (by simp [hforeign])]

end

/-- The two halves of a seed, written one after the other. -/
theorem seed_halves (x v : DWord) :
    (((x &&& 0xFFFFFFFF00000000#64) ||| (v.extractLsb' 0 32).setWidth 64) &&& 0x00000000FFFFFFFF#64) |||
      ((v.extractLsb' 32 32).setWidth 64 <<< 32) = v := by
  show (((x &&& (BitVec.allOnes 32 ++ 0#32)) ||| (v.extractLsb' 0 32).setWidth 64) &&& (0#32 ++ BitVec.allOnes 32)) |||
      ((v.extractLsb' 32 32).setWidth 64 <<< 32) = v
  refine BitVec.eq_of_getLsbD_eq fun i hi => ?_
  by_cases hlow : i < 32
  · simp only [BitVec.getLsbD_or, BitVec.getLsbD_and, BitVec.getLsbD_append, BitVec.getLsbD_allOnes, BitVec.getLsbD_zero,
      BitVec.getLsbD_shiftLeft, BitVec.getLsbD_setWidth, BitVec.getLsbD_extractLsb', hlow, hi]
    simp
  · have hhigh : i - 32 < 32 := by omega
    have hshift : i - 32 < 64 := by omega
    simp only [BitVec.getLsbD_or, BitVec.getLsbD_and, BitVec.getLsbD_append, BitVec.getLsbD_allOnes, BitVec.getLsbD_zero,
      BitVec.getLsbD_shiftLeft, BitVec.getLsbD_setWidth, BitVec.getLsbD_extractLsb', hlow, hi, hhigh, hshift,
      Nat.add_sub_cancel' (Nat.le_of_not_lt hlow)]
    simp

section
variable {s : State} {m : Master} {ch : Fin 16}

/-- CRC_START of the writer's own channel: every write is granted, and the rounds after the first change nothing more. -/
theorem exec_crcStart_of_owned (hseen : s.hostBlind m = false) (hfree : s.sh.heldOff 1 m = false) (hnone : s.sh.waiting = [])
    (hown : crcOwned m ch = true) (cfg : Word) (seed : Option DWord) :
    exec (.crcStart m ch cfg seed) s = .next (({ s with sh := (s.sh.round 1 m []).1 } : State).modCrc ch fun c =>
      { c with seed := seed.getD c.seed }.writeCfg cfg) := by
  have hsh := Shared.round_alone_twice hfree
  have hbus (f : Crc → Crc) (w : CrcWrite) (hw : ∀ t v, w ≠ .data t v) :
      (({ s with sh := (s.sh.round 1 m []).1 } : State).modCrc ch f).crcBus m ch w =
        ({ s with sh := (s.sh.round 1 m []).1 } : State).modCrc ch fun c => (f c).write w := by
    rw [State.crcBus_of_owned (by exact hseen) (by simpa using hfree) (by simpa using hnone) hown hw]
    simp [State.modCrc, hsh, vmod]
  show execCrcStart m ch cfg seed s = _
  cases seed with
  | none =>
    simp only [execCrcStart, State.crcStart, List.nil_append, List.foldl_cons, List.foldl_nil,
      State.crcBus_of_owned (w := .cfg cfg) hseen hfree hnone hown (by simp)]
    rfl
  | some v =>
    simp only [execCrcStart, State.crcStart, List.cons_append, List.nil_append, List.foldl_cons, List.foldl_nil]
    rw [State.crcBus_of_owned hseen hfree hnone hown (by simp), hbus _ _ (by simp), hbus _ _ (by simp)]
    simp only [Crc.write, seed_halves]
    rfl

/-- A read of CRC_RES_LO that is granted, with no write in wait. -/
theorem exec_crcResLoRead_of_granted (hseen : s.hostBlind m = false) (hfree : s.sh.heldOff 1 m = false) (hnone : s.sh.waiting = []) :
    exec (.crcResLoRead ⟨m, ch⟩) s = .next ((({ s with sh := (s.sh.round 1 m []).1 } : State).modCrc ch fun c =>
      { c with resHi := BitVec.ofNat 32 (s.crc.chans[ch].result / 4294967296) }).answer [BitVec.ofNat 32 s.crc.chans[ch].result]) := by
  show execCrcResLoRead ⟨m, ch⟩ s = _
  rw [execCrcResLoRead, State.crcResLo, if_neg (by simp [hseen]), State.onPort_of_granted (by rw [Shared.round_alone hfree]),
    State.crcResult, State.crcDrain_of_none (by simpa using hnone)]

/-- CRC_START of a foreign channel: each write is discarded and counts. -/
theorem exec_crcStart_of_foreign (hseen : s.hostBlind m = false) (hfree : s.sh.heldOff 1 m = false) (hforeign : crcOwned m ch = false)
    (cfg : Word) (seed : Option DWord) :
    exec (.crcStart m ch cfg seed) s = .next { s with sh := (s.sh.round 1 m []).1, crc := { s.crc with
      denyCnt := min 65535 (s.crc.denyCnt + if seed = none then 1 else 3), denyMaster := m.id } } := by
  have hsh := Shared.round_alone_twice hfree
  have hbus (k : CrcBlock) (w : CrcWrite) :
      ({ s with sh := (s.sh.round 1 m []).1, crc := k } : State).crcBus m ch w =
        ({ s with sh := (s.sh.round 1 m []).1, crc := k } : State).crcDenied m := by
    rw [State.crcBus_of_foreign (by exact hseen) (by simpa using hfree) hforeign, hsh]
  have hinc (n : Nat) : satInc 65535 n = min 65535 (n + 1) := by
    unfold satInc
    split <;> omega
  show execCrcStart m ch cfg seed s = _
  cases seed with
  | none =>
    simp only [execCrcStart, State.crcStart, List.nil_append, List.foldl_cons, List.foldl_nil,
      State.crcBus_of_foreign hseen hfree hforeign]
    simp [State.crcDenied, hinc]
  | some v =>
    simp only [execCrcStart, State.crcStart, List.cons_append, List.nil_append, List.foldl_cons, List.foldl_nil,
      State.crcBus_of_foreign hseen hfree hforeign]
    simp only [State.crcDenied, hbus, hinc]
    have hthree : min 65535 (min 65535 (min 65535 (s.crc.denyCnt + 1) + 1) + 1) = min 65535 (s.crc.denyCnt + 3) := by omega
    simp [hthree]

/-- A beat of the feed port meets its round with no write in wait. -/
theorem exec_crcDataWrite_of_owned {rivals : List Master} (hseen : s.hostBlind m = false) (hnone : s.sh.waiting = [])
    (hown : crcOwned m ch = true) (strb : Strobes) (val : Word) :
    exec (.crcDataWrite m ch strb val rivals) s = .next (
      if (s.sh.round 2 m rivals).2 then
        ({ s with sh := (s.sh.round 2 m rivals).1 } : State).modCrc ch fun c => c.feed strb val
      else { s with sh := { (s.sh.round 2 m rivals).1 with waiting := [⟨2, m, .crc ch (.data strb val)⟩] } }) := by
  show execCrcDataWrite m ch strb val rivals s = _
  rw [execCrcDataWrite, State.crcPut, if_neg (by simp [hseen]), if_neg (by simp [hown]), State.crcDrain_of_none hnone, State.crcMeet.eq_def,
    if_neg (by simp [Shared.crcWaits_of_none hnone])]
  simp [State.crcWait, hnone, Crc.write]

end

/-! ### The statement -/

theorem sameBut_sh_crc (s : State) (h : Shared) (k : CrcBlock) : SameBut [.crc, .sh] s { s with sh := h, crc := k } :=
  sameBut_of _ _ _ fun p => by cases p <;> simp [Part.agree]

/-- Settles O2, by whether a round grants the access, and by whom the freeze or the channel belongs to. -/
theorem freezesAndCheckValues : Obligations.FreezesAndCheckValues := by
  refine ⟨⟨fun s hi val hup hgrant => exec_lckOrphanClear_of_granted hup hgrant hi val, ?freeze, ?release, ?expiry, ?lock⟩,
    ?start, ?feed, fun s m ch cfg seed hseen hfree hforeign => exec_crcStart_of_foreign hseen hfree hforeign cfg seed, ?result⟩
  case freeze =>
    intro s l res mask hacting hasked
    refine ⟨_, exec_arbFreezeRequest_of_all hacting hasked, rfl, State.lane_modLaneSt_self s l (fun x => x.sealedBlock .freeze),
      fun m hm => State.lane_modLaneSt_ne s l m (fun x => x.sealedBlock .freeze) hm, ?_⟩
    exact sameBut_of _ _ _ fun p => by cases p <;> simp [Part.agree]
  case release =>
    intro s l res mask hl hnone
    refine ⟨s.thaw res, if_pos hl, ?_⟩
    rw [State.thaw_of_none_waiting hnone]
    exact ⟨rfl, rfl, rfl, rfl, rfl, sameBut_of _ _ _ fun p => by cases p <;> simp [Part.agree]⟩
  case expiry =>
    intro s res hfrozen hnone
    refine ⟨_, exec_arbFreezeExpiry_of_frozen hfrozen, ?_⟩
    rw [State.thaw_of_none_waiting (by exact hnone)]
    exact ⟨rfl, rfl, rfl, rfl, rfl, rfl, rfl, sameBut_of _ _ _ fun p => by cases p <;> simp [Part.agree]⟩
  case lock =>
    intro s m i rivals hseen hm hfrozen
    refine ⟨fun hheld => ?_, fun hwait hfree => ?_⟩
    · show execLckRead m i rivals s = _
      rw [execLckRead, State.lckRead, if_neg (by simp [hseen]), State.onPort_of_heldOff hheld]
    · refine ⟨_, exec_arbFreezeExpiry_of_frozen hfrozen, ?_⟩
      rw [State.thaw_lckRead (by exact hseen) (by exact hwait)]
      refine ⟨?_, ?_, fun j hj => ?_, sameBut_of _ _ _ fun p => by cases p <;> simp [Part.agree]⟩
      · have hread := congrArg Prod.fst (Lck.read_of_free hm hfree)
        simpa [State.lckTake, State.answer, Shared.unfreeze] using hread
      · simp [State.lckTake, State.answer]
      · simp [State.lckTake, State.answer, Shared.unfreeze, vmod_ne _ _ _ _ hj]
  case start =>
    intro s m ch cfg seed hseen hfree hnone hown hgo
    refine ⟨_, exec_crcStart_of_owned hseen hfree hnone hown cfg seed, ?_⟩
    simp only [State.modCrc, Fin.getElem_fin, vmod_self, Crc.writeCfg, hgo, if_true, Crc.start, true_and]
    exact ⟨fun j hj => vmod_ne _ _ _ _ hj, sameBut_sh_crc s _ _⟩
  case feed =>
    intro s m ch strb val rivals hseen hnone hown
    refine ⟨fun hlost => ?_, fun hgrant => ?_⟩
    · rw [exec_crcDataWrite_of_owned hseen hnone hown, if_neg (by simp [hlost])]
    · refine ⟨_, exec_crcDataWrite_of_owned hseen hnone hown strb val, ?_⟩
      rw [if_pos hgrant]
      refine ⟨fun bs hbs => ?_, fun hbad => ?_, rfl, fun j hj => vmod_ne _ _ _ _ hj, rfl, sameBut_sh_crc s _ _⟩
      · simp [State.modCrc, Crc.feed, hbs, satAdd]
      · simp [State.modCrc, Crc.feed, hbad, satInc]
  case result =>
    intro s m ch
    refine ⟨fun hblind => ?_, fun hseen hfree hnone => ?_⟩
    · show execCrcResLoRead ⟨m, ch⟩ s = _
      rw [execCrcResLoRead, State.crcResLo, if_pos hblind]
      rfl
    · refine ⟨_, exec_crcResLoRead_of_granted hseen hfree hnone, rfl, vmod_self _ _ _, fun j hj => vmod_ne _ _ _ _ hj, rfl, ?_⟩
      exact sameBut_of _ _ _ fun p => by cases p <;> simp [Part.agree]

end Sys2Proof.Machine
end

section
/-!
SUPPORT and O3. The mailbox buffers, and the host's accesses to them.
-/

namespace Sys2Proof.Machine

/-! ### Mailbox buffers -/

@[simp] theorem State.mbx_modMbx_self (s : State) (secure : Bool) (ch : Fin 8) (f : Mbx → Mbx) :
    (s.modMbx secure ch f).mbx secure ch = f (s.mbx secure ch) := by
  cases secure <;> simp [State.modMbx, State.mbx]

theorem State.mbx_modMbx_ne (s : State) {secure b : Bool} {ch k : Fin 8} (f : Mbx → Mbx) (h : (b, k) ≠ (secure, ch)) :
    (s.modMbx secure ch f).mbx b k = s.mbx b k := by
  have hk : b = secure → k ≠ ch := fun hb hc => h (by rw [hb, hc])
  cases secure <;> cases b <;> simp_all [State.modMbx, State.mbx, vmod_ne]

/-- The buffers stand in MAIL alone. -/
theorem State.mbx_of_mail {s t : State} (h : t.mail = s.mail) (b : Bool) (k : Fin 8) : t.mbx b k = s.mbx b k := by
  simp [State.mbx, h]

@[simp] theorem State.mbx_raiseVec (s : State) (v : Nat) (b : Bool) (k : Fin 8) : (s.raiseVec v).mbx b k = s.mbx b k :=
  State.mbx_of_mail (by simp) b k

theorem State.raiseVec_host_of_host {s t : State} (h : t.host = s.host) (v : Nat) : (t.raiseVec v).host = (s.raiseVec v).host := by
  unfold State.raiseVec
  rw [h]
  split <;> rfl

/-! ### The host's accesses (R407, R410-R412) -/

section
variable {s : State} {secure : Bool} {g : Shared}

/-- A host access to a mailbox register, granted by the register bus. -/
theorem State.onPort_of_round {res : Fin 6} {m : Master} {rivals : List Master} (hgrant : s.sh.round res m rivals = (g, true))
    (a : HubAccess) (f : State → State) : s.onPort res m rivals a f = f { s with sh := g } := by
  rw [State.onPort_of_granted (by rw [hgrant]), hgrant]

/-- A change of one buffer by a granted access leaves the other buffers and the other parts. -/
theorem modMbx_frame (s : State) (g : Shared) (secure : Bool) (ch : Fin 8) (f : Mbx → Mbx) :
    (∀ (b : Bool) (k : Fin 8), (b, k) ≠ (secure, ch) → (({ s with sh := g } : State).modMbx secure ch f).mbx b k = s.mbx b k) ∧
    (({ s with sh := g } : State).modMbx secure ch f).sh = g ∧
    SameBut [.mail, .sh] s (({ s with sh := g } : State).modMbx secure ch f) :=
  ⟨fun _ _ h => State.mbx_modMbx_ne _ f h, by simp, sameBut_of _ _ _ fun p => by cases p <;> simp [Part.agree]⟩

end

theorem word_eq_last (word : Fin 16) : (word.val == 15) = decide (word = 15) := by
  rw [Bool.eq_iff_iff]
  simp [Fin.ext_iff]

/-- Settles O3, one access after the other. -/
theorem mailboxAccesses : Obligations.MailboxAccesses := by
  refine ⟨fun s secure ch word val g hup hgrant => ⟨?inBuf, ?outBuf⟩, fun s secure ch val g hup hgrant => ⟨?inStat, ?bell, ?mask⟩⟩
  case inBuf =>
    refine ⟨_, rfl, ?_⟩
    rw [State.inBufWrite, if_neg (by simp [hup]), State.onPort_of_round hgrant]
    refine ⟨?_, modMbx_frame s g secure ch _⟩
    rw [State.mbx_modMbx_self]
    simp [Mbx.inWrite, vmod, word_eq_last, Fin.ext_iff, State.mbx]
  case outBuf =>
    refine ⟨_, rfl, ?_⟩
    rw [State.outBufRead, if_neg (by simp [hup]), State.onPort_of_round hgrant]
    obtain ⟨hothers, hsh, -⟩ := modMbx_frame s g secure ch fun m => { m with outFull := m.outFull && word.val != 15 }
    refine ⟨?_, ?_, hothers, hsh, sameBut_of _ _ _ fun p => by cases p <;> simp [Part.agree]⟩
    · refine (State.mbx_modMbx_self _ secure ch _).trans ?_
      simp [State.mbx, bne, word_eq_last]
    · cases secure <;> rfl
  case inStat =>
    refine ⟨_, rfl, ?_⟩
    rw [State.abortedClear, if_neg (by simp [hup]), State.onPort_of_round hgrant]
    exact ⟨State.mbx_modMbx_self _ secure ch _, modMbx_frame s g secure ch _⟩
  case bell =>
    refine ⟨_, rfl, ?_⟩
    rw [State.m2hClear, if_neg (by simp [hup]), State.onPort_of_round hgrant]
    exact ⟨State.mbx_modMbx_self _ secure ch _, modMbx_frame s g secure ch _⟩
  case mask =>
    refine ⟨_, rfl, ?_⟩
    rw [State.dbmaskWrite, if_neg (by simp [hup]), State.onPort_of_round hgrant]
    obtain ⟨hothers, hsh, hframe⟩ := modMbx_frame s g secure ch fun m => { m with mask := val }
    have hhost : (({ s with sh := g } : State).modMbx secure ch fun m => { m with mask := val }).host = s.host := by simp
    have hold : ({ s with sh := g } : State).mbx secure ch = s.mbx secure ch := State.mbx_of_mail rfl secure ch
    unfold State.dbmaskPut
    dsimp only
    rw [hold]
    split
    · exact ⟨State.mbx_modMbx_self _ secure ch _, hothers, hhost, hsh, fun p hp => hframe p (by simp_all)⟩
    · refine ⟨?_, fun b k h => ?_, State.raiseVec_host_of_host hhost _, by simp, ?_⟩
      · rw [State.mbx_raiseVec]
        exact State.mbx_modMbx_self _ secure ch _
      · rw [State.mbx_raiseVec]
        exact hothers b k h
      · exact sameBut_of _ _ _ fun p => by cases p <;> simp [Part.agree]

end Sys2Proof.Machine
end

section
/-!
SUPPORT and O4. The hub movers: the copy of an outbound entry, and the snapshot of the inbound buffers.
-/

namespace Sys2Proof.Machine

/-! ### Buffers under the movers' steps -/

theorem State.mbx_modMbx (s : State) (secure b : Bool) (ch k : Fin 8) (f : Mbx → Mbx) :
    (s.modMbx secure ch f).mbx b k = if (b, k) = (secure, ch) then f (s.mbx b k) else s.mbx b k := by
  split
  next h =>
    obtain ⟨rfl, rfl⟩ := Prod.mk.inj h
    exact State.mbx_modMbx_self ..
  next h => exact State.mbx_modMbx_ne s f h

theorem State.mbx_bell (s : State) (secure b : Bool) (ch k : Fin 8) (bit : Nat) : (s.bell secure ch bit).mbx b k =
    if (b, k) = (secure, ch) then { s.mbx b k with m2h := (s.mbx b k).m2h ||| (1#32 <<< bit) } else s.mbx b k := by
  rw [← State.mbx_modMbx s secure b ch k fun m => { m with m2h := m.m2h ||| (1#32 <<< bit) }]
  unfold State.bell
  dsimp only
  split
  · exact State.mbx_raiseVec ..
  · rfl

/-! ### The copy that two lanes share (R409) -/

theorem agree2_of_equal {p : PerLane (Option (List Byte))} {l m : Lane} {bs : List Byte} (hne : l ≠ m) (hl : p.get l = some bs)
    (hm : p.get m = some bs) : State.moverWrite.agree2 p = some bs := by
  cases l <;> cases m <;> simp_all [State.moverWrite.agree2, PerLane.get]

theorem agree2_of_none {p : PerLane (Option (List Byte))}
    (hnone : ∀ (l m : Lane) (bs : List Byte), l ≠ m → p.get l = some bs → p.get m ≠ some bs) :
    State.moverWrite.agree2 p = none := by
  have hpair (l m : Lane) (hne : l ≠ m) : ((p.get l).isSome && p.get l == p.get m) = false := by
    cases hl : p.get l with
    | none => rfl
    | some bs => simpa using fun h => hnone l m bs hne hl h.symm
  have hab := hpair .a .b (by decide)
  have hac := hpair .a .c (by decide)
  have hbc := hpair .b .c (by decide)
  simp only [PerLane.get] at hab hac hbc
  simp [State.moverWrite.agree2, hab, hac, hbc]

theorem hubMovers_granted (h : Shared) : (h.round 1 .hubMovers []).2 = true := by
  rw [Shared.round_alone]
  simp [Shared.heldOff, Master.id]

/-- The mover takes the oldest entry: it writes the copy that two lanes share, and discards and counts one without. -/
theorem State.moverWrite_of_entry {s : State} {secure : Bool} {ch : Fin 8} {e : OutMsg} {rest : List OutMsg}
    (hempty : (s.mbx secure ch).outFull = false) (hqueue : (s.mbx secure ch).queue = e :: rest) :
    s.moverWrite secure ch =
      match State.moverWrite.agree2 e.copies with
      | some bs => ((({ s with sh := (s.sh.round 1 .hubMovers []).1 } : State).modMbx secure ch fun m => { m with queue := rest }).modMbx
          secure ch fun m => { m with
            outBuf := Vector.ofFn (fun i => BitVec.ofNat 32 (natAt bs (4 * i.val) 4)), outFull := true }).bell secure ch 0
      | none => (({ s with sh := (s.sh.round 1 .hubMovers []).1 } : State).modMbx secure ch fun m => { m with queue := rest }).modMbx
          secure ch fun m => { m with qdrop := satInc 255 m.qdrop } := by
  unfold State.moverWrite
  simp only [hempty, hqueue, hubMovers_granted]
  rfl

/-! ### The snapshot (R408) and the posts that waited for it (R29, R35) -/

/-- An inbound buffer after the snapshot. -/
def Mbx.emptied (m : Mbx) : Mbx := { m with inFull := false, inColl := false, h2m := 0 }

theorem State.mbx_foldl_emptied (chs : List (Fin 8)) (s : State) (b : Bool) (k : Fin 8) :
    (chs.foldl (fun s ch => (s.modMbx true ch Mbx.emptied).modMbx false ch Mbx.emptied) s).mbx b k =
      if k ∈ chs then (s.mbx b k).emptied else s.mbx b k := by
  induction chs generalizing s with
  | nil => rfl
  | cons ch rest ih =>
    rw [List.foldl_cons, ih]
    by_cases hk : k = ch
    · subst hk
      cases b <;> simp [State.mbx_modMbx, Mbx.emptied]
    · cases b <;> simp [State.mbx_modMbx, hk]

theorem State.mbx_foldl_bell (ms : List ReadMsg) (s : State) (b : Bool) (k : Fin 8) :
    (ms.foldl (fun s m => s.bell m.secure m.ch 1) s).mbx b k =
      if (b, k) ∈ ms.map (fun m => (m.secure, m.ch)) then { s.mbx b k with m2h := (s.mbx b k).m2h ||| 2 } else s.mbx b k := by
  induction ms generalizing s with
  | nil => rfl
  | cons m rest ih =>
    have htwo (x : Word) : x ||| 2#32 ||| 2#32 = x ||| 2#32 := by rw [BitVec.or_assoc, BitVec.or_self]
    rw [List.foldl_cons, ih, State.mbx_bell]
    by_cases hk : (b, k) = (m.secure, m.ch)
    · by_cases hr : (b, k) ∈ rest.map (fun m => (m.secure, m.ch)) <;> simp [hk, htwo]
    · simp [hk]

theorem State.mem_fullBuffers (s : State) (b : Bool) (k : Fin 8) :
    (b, k) ∈ s.fullBuffers.map (fun m => (m.secure, m.ch)) ↔ (s.mbx b k).inFull = true := by
  cases b <;> simp [State.fullBuffers, allFin]

/-- A buffer after the posts of a list have entered its queue, as far as it has room. -/
def Mbx.queued (m : Mbx) (ps : List OutMsg) : Mbx :=
  { m with
    queue := m.queue ++ ps.take (16 - m.queue.length)
    qdrop := (ps.drop (16 - m.queue.length)).foldl (fun n _ => satInc 255 n) m.qdrop
    m2h := m.m2h ||| if 16 - m.queue.length < ps.length then 32 else 0 }

theorem Mbx.queued_of_room {m : Mbx} (hroom : m.queue.length < 16) (p : OutMsg) (ps : List OutMsg) :
    m.queued (p :: ps) = { m with queue := m.queue ++ [p] }.queued ps := by
  obtain ⟨n, hn⟩ : ∃ n, 16 - m.queue.length = n + 1 := ⟨15 - m.queue.length, by omega⟩
  have hn' : 16 - (m.queue.length + 1) = n := by omega
  simp [Mbx.queued, hn, hn']

theorem Mbx.queued_of_full {m : Mbx} (hfull : ¬ m.queue.length < 16) (p : OutMsg) (ps : List OutMsg) :
    m.queued (p :: ps) = { m with qdrop := satInc 255 m.qdrop, m2h := m.m2h ||| 32 }.queued ps := by
  have hnone : 16 - m.queue.length = 0 := by omega
  have hbell : m.m2h ||| 32 ||| (if 0 < ps.length then (32 : Word) else 0) = m.m2h ||| 32 := by
    split
    · rw [BitVec.or_assoc, BitVec.or_self]
    · exact BitVec.or_zero
  simp only [Mbx.queued, hnone, List.take_zero, List.append_nil, List.drop_zero, List.foldl_cons, List.length_cons, Nat.zero_lt_succ,
    if_true, hbell]

theorem Mbx.queued_nil (m : Mbx) : m.queued [] = m := by
  simp [Mbx.queued]

theorem State.mbx_queuePut (s : State) (secure b : Bool) (ch k : Fin 8) (copies : PerLane (Option (List Byte))) (ps : List OutMsg) :
    ((s.queuePut secure ch copies).mbx b k).queued ps =
      if (b, k) = (secure, ch) then (s.mbx b k).queued (⟨copies⟩ :: ps) else (s.mbx b k).queued ps := by
  by_cases hk : (b, k) = (secure, ch)
  · obtain ⟨rfl, rfl⟩ := Prod.mk.inj hk
    unfold State.queuePut
    split
    next hroom => simp [Mbx.queued_of_room hroom]
    next hfull => simp [Mbx.queued_of_full hfull, State.mbx_bell]
  · unfold State.queuePut
    split
    · simp [State.mbx_modMbx, hk]
    · simp [State.mbx_bell, State.mbx_modMbx, hk]

theorem State.mbx_foldl_queuePut (ps : List (Bool × Fin 8 × PerLane (Option (List Byte)))) (s : State) (b : Bool) (k : Fin 8) :
    (ps.foldl (fun s p => s.queuePut p.1 p.2.1 p.2.2) s).mbx b k =
      (s.mbx b k).queued ((ps.filter (fun p => p.1 = b ∧ p.2.1 = k)).map fun p => ⟨p.2.2⟩) := by
  induction ps generalizing s with
  | nil => exact (Mbx.queued_nil _).symm
  | cons p rest ih =>
    rw [List.foldl_cons, ih, State.mbx_queuePut]
    by_cases hk : p.1 = b ∧ p.2.1 = k
    · simp [hk]
    · have hk' : (b, k) ≠ (p.1, p.2.1) := fun h => hk ⟨(Prod.mk.inj h).1.symm, (Prod.mk.inj h).2.symm⟩
      simp [hk, hk']

/-! ### The lanes of a snapshot -/

theorem State.lane_foldModLaneSt {f : LaneSt → LaneSt} (hf : ∀ x, f (f x) = f x) (ls : List Lane) (s : State) (l : Lane) :
    (ls.foldl (fun s m => s.modLaneSt m f) s).lane l = if l ∈ ls then f (s.lane l) else s.lane l := by
  induction ls generalizing s with
  | nil => rfl
  | cons m rest ih =>
    rw [List.foldl_cons, ih]
    by_cases hl : l = m
    · subst hl
      simp [hf]
    · simp [State.lane_modLaneSt_ne _ _ _ _ hl, hl]

theorem State.running_of_lanes {s t : State} (h : t.lanes = s.lanes) : t.running = s.running := by
  simp [State.running, State.lane, h]

/-- What of MAIL is no buffer and that the snapshot writes. -/
def Mail.reading (m : Mail) : Bool × List ReadMsg × List (Bool × Fin 8 × PerLane (Option (List Byte))) :=
  (m.snapDone, m.toRead, m.outWait)

@[simp] theorem State.reading_modMbx (s : State) (secure : Bool) (ch : Fin 8) (f : Mbx → Mbx) :
    (s.modMbx secure ch f).mail.reading = s.mail.reading := by
  cases secure <;> rfl

@[simp] theorem State.reading_bell (s : State) (secure : Bool) (ch : Fin 8) (bit : Nat) :
    (s.bell secure ch bit).mail.reading = s.mail.reading := by
  unfold State.bell
  dsimp only
  split <;> simp

@[simp] theorem State.reading_queuePut (s : State) (secure : Bool) (ch : Fin 8) (copies : PerLane (Option (List Byte))) :
    (s.queuePut secure ch copies).mail.reading = s.mail.reading := by
  unfold State.queuePut
  split <;> simp

/-- The posts that waited enter their queues. -/
theorem State.postWaiting_effect (s : State) :
    (∀ (b : Bool) (k : Fin 8), s.postWaiting.mbx b k =
      (s.mbx b k).queued ((s.mail.outWait.filter (fun p => p.1 = b ∧ p.2.1 = k)).map fun p => ⟨p.2.2⟩)) ∧
    s.postWaiting.mail.reading = (s.mail.snapDone, s.mail.toRead, []) := by
  unfold State.postWaiting
  refine ⟨fun b k => ?_, ?_⟩
  · rw [State.mbx_foldl_queuePut]
    rfl
  · exact foldl_keeps (g := fun s => s.mail.reading) (fun s p => State.reading_queuePut s _ _ _) _ _

@[simp] theorem State.snapshot_ms (s : State) : s.snapshot.ms = s.ms := by
  simp [State.snapshot]

/-- What the snapshot does to the buffers and the lanes. -/
theorem State.snapshot_effect (s : State) :
    (∀ (b : Bool) (k : Fin 8), s.snapshot.mbx b k =
      (if (s.mbx b k).inFull then { (s.mbx b k).emptied with m2h := (s.mbx b k).m2h ||| 2 } else (s.mbx b k).emptied).queued
        ((s.mail.outWait.filter (fun p => p.1 = b ∧ p.2.1 = k)).map fun p => ⟨p.2.2⟩)) ∧
    (∀ m : Lane, s.snapshot.lane m = if m.inMask s.running then { s.lane m with msgs := s.fullBuffers } else s.lane m) ∧
    s.snapshot.mail.reading = (true, s.fullBuffers, []) := by
  unfold State.snapshot
  extract_lets ms s1 s2 _ s3
  have hbufs (b : Bool) (k : Fin 8) : s2.mbx b k =
      if (s.mbx b k).inFull then { (s.mbx b k).emptied with m2h := (s.mbx b k).m2h ||| 2 } else (s.mbx b k).emptied := by
    have h1 : s1.mbx b k = (s.mbx b k).emptied :=
      (State.mbx_foldl_emptied (allFin 8) s b k).trans (if_pos (List.mem_finRange k))
    rw [show s2 = _ from rfl, State.mbx_foldl_bell, h1]
    simp only [ms, State.mem_fullBuffers]
    rfl
  have hwait : s2.mail.reading = s.mail.reading := by
    refine (foldl_keeps (g := fun s => s.mail.reading) (fun s p => State.reading_bell s _ _ _) _ _).trans ?_
    refine foldl_keeps (g := fun s => s.mail.reading) (fun s p => ?_) _ s
    simp
  have hlanes : s3.lanes = s.lanes := by simp [s3, s2, s1]
  have hmail (ls : List Lane) : (ls.foldl (fun s l => s.modLaneSt l fun x => { x with msgs := ms }) s3).mail = s3.mail := by simp
  obtain ⟨hmbx, hreading⟩ := State.postWaiting_effect ((lanesOf s3.running).foldl (fun s l => s.modLaneSt l fun x => { x with msgs := ms }) s3)
  refine ⟨fun b k => ?_, fun m => ?_, ?_⟩
  · rw [hmbx, State.mbx_of_mail (hmail _), hmail, ← hbufs b k]
    have hout : s2.mail.outWait = s.mail.outWait := congrArg (fun x => x.2.2) hwait
    rw [show s3.mail.outWait = s2.mail.outWait from rfl, hout]
    rfl
  · have hlane (u : State) (n : Lane) : u.postWaiting.lane n = u.lane n := by simp [State.lane]
    rw [hlane, State.lane_foldModLaneSt (f := fun x => { x with msgs := ms }) (fun _ => rfl), State.running_of_lanes hlanes]
    simp only [mem_lanesOf, State.lane, hlanes, ms]
  · rw [hreading, hmail]

/-- Settles O4: the mover by whether two copies are equal, the snapshot by its effect on each buffer and each lane. -/
theorem hubMoversCopyMessages : Obligations.HubMoversCopyMessages := by
  refine ⟨fun s secure ch e rest hempty hqueue => ?mover, fun s l hl hfirst hruns => ?snapshot, fun s l hnot => ?later⟩
  case mover =>
    refine ⟨_, rfl, ?_⟩
    rw [State.moverWrite_of_entry hempty hqueue]
    have hold : ({ s with sh := (s.sh.round 1 .hubMovers []).1 } : State).mbx secure ch = s.mbx secure ch := State.mbx_of_mail rfl ..
    cases hagree : State.moverWrite.agree2 e.copies with
    | some bs =>
      refine ⟨?_, fun l m bs' hne hl hm => ?_, fun hnone => ?_, fun b k hk => ?_, by simp, ?_⟩
      · simp [State.mbx_bell]
      · obtain rfl : bs = bs' := by simpa [hagree] using agree2_of_equal hne hl hm
        simp [State.mbx_bell, hold]
      · simp [agree2_of_none hnone] at hagree
      · simp only [State.mbx_bell, State.mbx_modMbx, if_neg hk]
        exact State.mbx_of_mail rfl b k
      · exact sameBut_of _ _ _ fun p => by cases p <;> simp [Part.agree]
    | none =>
      refine ⟨by simp, fun l m bs hne hl hm => ?_, fun _ => ?_, fun b k hk => ?_, by simp, ?_⟩
      · simp [agree2_of_equal hne hl hm] at hagree
      · simp [hold, satInc]
      · simp only [State.mbx_modMbx, if_neg hk]
        exact State.mbx_of_mail rfl b k
      · exact sameBut_of _ _ _ fun p => by cases p <;> simp [Part.agree]
  case snapshot =>
    obtain ⟨hmbx, hlane, hreading⟩ := s.snapshot_effect
    obtain ⟨hdone, hread, hwait⟩ : s.snapshot.mail.snapDone = true ∧ s.snapshot.mail.toRead = s.fullBuffers ∧
      s.snapshot.mail.outWait = [] := by simpa [Mail.reading] using hreading
    refine ⟨s.snapshot, if_neg (by simp [hl, hfirst, hruns]), hdone, hread, hwait, fun b k => ?_, fun m hm => ?_, fun m hm => ?_, ?_⟩
    · dsimp only
      rw [hmbx]
      cases (s.mbx b k).inFull <;> simp [Mbx.queued, Mbx.emptied]
    · rw [hlane, if_pos hm]
    · rw [hlane, if_neg (by simp [hm])]
    · exact sameBut_of _ _ _ fun p => by cases p <;> simp [Part.agree]
  case later =>
    refine if_pos ?_
    rcases hnot with h | h <;> simp [h]

end Sys2Proof.Machine
end

section
/-!
SUPPORT and O5. After the work of a desk each channel's SEQ registers follow the lead lane's session (R418).
-/

namespace Sys2Proof.Machine

theorem State.lead_congr {s t : State} (hms : t.ms = s.ms) (hsvc : ∀ l, (t.lane l).svc = (s.lane l).svc) : t.lead = s.lead := by
  simp [State.lead, State.running, hms, hsvc]

theorem State.lead_desk (s : State) (f : Desk → Desk) : (s.desk f).lead = s.lead := by
  refine State.lead_congr (by simp) fun l => ?_
  obtain ⟨k, hk⟩ := s.lane_desk f l
  rw [hk]

/-- One channel's turn of `State.syncSeq`. -/
def State.syncOne (s : State) (ch : Fin 8) : State :=
  match s.leadK.sessions[ch] with
  | some ses => s.modMbx true ch (fun m => { m with inSeq := ses.inSeq, outSeq := ses.outSeq })
  | none => s

theorem State.leadK_syncOne (s : State) (ch : Fin 8) : (s.syncOne ch).leadK = s.leadK := by
  have hlanes (t : State) (f : Mbx → Mbx) : (t.modMbx true ch f).leadK = t.leadK := by
    simp [State.leadK, State.lane, State.lead, State.running]
  unfold State.syncOne
  split
  · exact hlanes _ _
  · rfl

theorem State.syncOne_outSeq {s : State} {ch : Fin 8} {ses : Session} (h : s.leadK.sessions[ch] = some ses) :
    ((s.syncOne ch).mbx true ch).outSeq = ses.outSeq := by
  unfold State.syncOne
  simp [h]

theorem State.mbx_syncOne_ne (s : State) {ch k : Fin 8} (h : k ≠ ch) : (s.syncOne ch).mbx true k = s.mbx true k := by
  unfold State.syncOne
  split
  · exact State.mbx_modMbx_ne _ _ (by simp [h])
  · rfl

/-- A channel of which the lead lane has a session shows that session's SEQ. -/
theorem State.syncSeq_outSeq {s : State} {ch : Fin 8} {ses : Session} (h : s.leadK.sessions[ch] = some ses) :
    (s.syncSeq.mbx true ch).outSeq = ses.outSeq := by
  have hfold (chs : List (Fin 8)) (t : State) (ht : t.leadK.sessions[ch] = some ses)
      (hstart : ch ∉ chs → (t.mbx true ch).outSeq = ses.outSeq) : ((chs.foldl State.syncOne t).mbx true ch).outSeq = ses.outSeq := by
    induction chs generalizing t with
    | nil => exact hstart (by simp)
    | cons k rest ih =>
      refine ih _ (by rwa [State.leadK_syncOne]) fun hrest => ?_
      by_cases hk : ch = k
      · subst hk
        exact State.syncOne_outSeq ht
      · rw [State.mbx_syncOne_ne t hk]
        exact hstart (by simp [hk, hrest])
  exact hfold (allFin 8) s h fun hn => absurd (List.mem_finRange ch) hn

/-- The same after the work of a desk, which the lead lane takes no part in. -/
theorem State.desk_outSeq {s : State} {f : Desk → Desk} {ch : Fin 8} {ses : Session}
    (hlead : s.lead.inMask (s.running ||| s.acting) = false) (h : s.leadK.sessions[ch] = some ses) :
    ((s.desk f).mbx true ch).outSeq = ses.outSeq := by
  have hsync (t : State) : t.syncSeq.leadK = t.leadK := by
    simp [State.leadK, State.lane, State.lead, State.running]
  have hdesk : (s.desk f).leadK = s.leadK := by
    rw [State.leadK, State.lead_desk, State.lane_desk_ne s f _ hlead]
    rfl
  rw [← hdesk] at h
  obtain ⟨u, hu⟩ : ∃ u : State, s.desk f = u.syncSeq := ⟨_, rfl⟩
  rw [hu] at h ⊢
  rw [hsync] at h
  exact State.syncSeq_outSeq h

/-- A session of channel 0, both SEQ at 0. -/
def openSession : Session := ⟨0, 0, 0, 0⟩

/-- A block in RUN in which lane B has the vote and no lane runs. Lane A, which a block without running lanes takes for its lead, and lane B hold a
session of channel 0. -/
def voteWithoutRun : State := { State.reset with
  ms := { State.reset.ms with mode := .run, voting := 2 }
  lanes := .all { LaneSt.reset with region := { LaneSt.reset.region with
    k := LaneSt.reset.region.k.setSession 0 (some openSession) } } }

/-- Refutes O5. The state is `voteWithoutRun`: a CLOSE closes the session in lane B, the acting lane, and writes the SEQ of its CLOSED into the
registers. The lead lane A takes no part in it and keeps its session, whose SEQ then stand in the registers again. -/
theorem not_sessionsOpenAndClose : ¬ Obligations.SessionsOpenAndClose := by
  rintro ⟨-, hclose⟩
  have hlanes (l : Lane) : (voteWithoutRun.lane l).region.k.sessions[(0 : Fin 8)] = some openSession := by
    cases l <;> rfl
  obtain ⟨t, ht, -, -, -, hout, -⟩ := hclose voteWithoutRun 0 openSession (by decide) (hlanes _) fun l _ => hlanes l
  have hexec : exec (.closeSession 0) voteWithoutRun = .next (voteWithoutRun.desk fun d => d.close 0 1) := by
    show execCloseSession 0 voteWithoutRun = _
    rw [execCloseSession, if_neg (by decide), if_neg]
    rw [State.leadK, hlanes]
    decide
  rw [hexec] at ht
  obtain rfl := Host.Outcome.next.inj ht
  rw [State.desk_outSeq (by decide) (hlanes _)] at hout
  exact absurd hout (by decide)

end Sys2Proof.Machine
end

section
/-!
SUPPORT, O8 and O9. Lane interfaces and gate drives of the field dies.
-/

namespace Sys2Proof.Machine

@[simp] theorem State.iface_modIface_self (s : State) (l : Lane) (b : Bank) (f : Iface → Iface) :
    (s.modIface l b f).iface l b = f (s.iface l b) := by
  simp [State.iface, State.modIface, PerLane.modify]

theorem State.iface_modIface_ne (s : State) {l m : Lane} {b c : Bank} (f : Iface → Iface) (h : (m, c) ≠ (l, b)) :
    (s.modIface l b f).iface m c = s.iface m c := by
  by_cases hm : m = l
  · have hc : c ≠ b := fun hc => h (by rw [hm, hc])
    subst hm
    simp [State.iface, State.modIface, PerLane.modify, vmod_ne _ _ _ _ hc]
  · simp [State.iface, State.modIface, PerLane.modify, PerLane.get_set_ne _ _ _ _ hm]

/-- Work on an interface leaves the other interfaces and the rest of the field dies. -/
theorem State.modIface_rest (s : State) (l : Lane) (b : Bank) (f : Iface → Iface) :
    (s.modIface l b f).fld = { s.fld with ifaces := (s.modIface l b f).fld.ifaces } ∧
    (∀ (m : Lane) (c : Bank), (m, c) ≠ (l, b) → (s.modIface l b f).iface m c = s.iface m c) ∧
    SameBut [.fld] s (s.modIface l b f) :=
  ⟨rfl, fun _ _ h => State.iface_modIface_ne s f h, sameBut_of _ _ _ fun p => by cases p <;> simp [Part.agree]⟩

/-! ### Tokens (R225, R246-R248) -/

theorem tokenOk_iff (i : Iface) (l : Lane) (b : Bank) (w : DWord) : tokenOk i l b w = true ↔
    w.extractLsb' 16 12 = tokenChk w ∧ (w.extractLsb' 30 2).toNat = l.num ∧ (w.extractLsb' 28 2).toNat = b.val + 1 ∧
      ∀ k, i.lastTick = some k → 0 < (w.extractLsb' 32 32 - k).toInt := by
  cases hlast : i.lastTick <;> simp [tokenOk, hlast, tickGt, tickDiff, and_assoc]

/-- Settles O8, by the test of the word. -/
theorem interfacesTakeTokens : Obligations.InterfacesTakeTokens := by
  refine ⟨fun s l b w hlane hbank hissued => ?word, fun s l b w hnone => if_pos (by simp [hnone]), fun s l b => ?expiry⟩
  case word =>
    have hgo : ¬ (!s.laneOn l || !s.bankOn b || (s.iface l b).issued.isNone) = true := by
      simp [hlane, hbank, hissued]
    by_cases hok : tokenOk (s.iface l b) l b w = true
    · refine ⟨_, (if_neg hgo).trans (if_pos hok), fun _ => ⟨State.iface_modIface_self .., rfl⟩, fun hbad => ?_, ?_⟩
      · exact absurd ((tokenOk_iff ..).mp hok) hbad
      · obtain ⟨hfld, hothers, hframe⟩ := s.modIface_rest l b fun i => { i with
          token := some ⟨w.extractLsb' 32 32, if s.ms.outHold then 0 else w.extractLsb' 0 16⟩
          lastTick := some (w.extractLsb' 32 32), issued := none }
        exact ⟨hfld, hothers, fun p hp => hframe p fun h => hp (by simp_all)⟩
    · refine ⟨_, (if_neg hgo).trans (if_neg hok), fun hgood => absurd ((tokenOk_iff ..).mpr hgood) hok,
        fun _ => ⟨State.iface_modIface_self s l b fun i => { i with discarded := satInc 255 i.discarded, issued := none }, rfl⟩,
        rfl, fun m c h => State.iface_modIface_ne s (fun i => { i with discarded := satInc 255 i.discarded, issued := none }) h, ?_⟩
      exact sameBut_of _ _ _ fun p => by cases p <;> simp [Part.agree]
  case expiry =>
    exact ⟨_, rfl, State.iface_modIface_self s l b fun i => { i with token := none }, s.modIface_rest l b _⟩

/-! ### Proof words, gate drives and trip latches (R251-R253, R263, R293, R295) -/

/-- Settles O9, each command by its own test. -/
theorem proofWordsGatesAndTrips : Obligations.ProofWordsGatesAndTrips := by
  refine ⟨fun s l b side mask => ⟨fun hlane hbank hmode => ?_, fun hmode => ?_⟩, fun s ch side => ?_⟩
  · exact ⟨_, if_pos (by simpa [hlane, hbank] using hmode),
      State.iface_modIface_self s l b fun i => { i with proof := if mask = 0 then none else some (side, mask) }, s.modIface_rest l b _⟩
  · exact if_neg (by simpa using fun h => absurd h hmode)
  · dsimp only
    refine ⟨fun hmaj htrip hgate => if_pos (by simpa [hmaj] using ⟨htrip, hgate⟩), fun hmaj => if_neg (by simp [hmaj]),
      fun us hgate hus => ?_, fun us hus => if_pos (by simp [hus]), fun us hgate hlow hhigh => ⟨Config.freeGate s.free, ?_⟩, rfl,
      fun hmode => if_pos ?_, fun hhigh hlow => if_neg (by simp [hhigh, hlow]), fun hmaj => if_pos (by simpa using hmaj)⟩
    · have hlong : ¬ us < 20 := by omega
      exact (if_neg (by simpa [hlong] using hgate)).trans (if_pos hus)
    · exact (if_neg (by simpa [hlow] using hgate)).trans (if_neg (by omega))
    · rcases hmode with h | h <;> simp [h, ChMode.isOut]

end Sys2Proof.Machine
end

section
/-!
SUPPORT and O10. Test pulses and their runs, and the replicas of the inputs.
-/

namespace Sys2Proof.Machine

/-! ### Work on a channel's output record in the running lanes -/

/-- `f` on the output record of channel `ch` in every running lane. -/
theorem State.modOuts_effect (s : State) (ch : Chan) (f : OutK → OutK) :
    (∀ l : Lane, l.inMask s.running = true →
      (((s.modRunK fun k => { k with outs := vmod k.outs ch f }).lane l).region.k.outs[ch] = f ((s.lane l).region.k.outs[ch]) ∧
      ∀ c : Chan, c ≠ ch →
        ((s.modRunK fun k => { k with outs := vmod k.outs ch f }).lane l).region.k.outs[c] = (s.lane l).region.k.outs[c])) ∧
    (∀ l : Lane, l.inMask s.running = false → (s.modRunK fun k => { k with outs := vmod k.outs ch f }).lane l = s.lane l) := by
  refine ⟨fun l hl => ?_, fun l hl => ?_⟩
  · rw [State.lane_modRunK, if_pos hl]
    exact ⟨vmod_self .., fun c hc => vmod_ne _ _ _ _ hc⟩
  · rw [State.lane_modRunK, if_neg (by simp [hl])]

theorem State.modRunK_sameBut (s : State) (f : LaneK → LaneK) : SameBut [.lanes] s (s.modRunK f) :=
  sameBut_of _ _ _ fun p => by cases p <;> simp [Part.agree]

@[simp] theorem OutK.run_setRun (o : OutK) (kind : PulseKind) (r : PulseRun) : (o.setRun kind r).run kind = r := by
  cases kind <;> rfl

@[simp] theorem OutK.setRun_lock (o : OutK) (kind : PulseKind) (r : PulseRun) : (o.setRun kind r).lock = o.lock := by
  cases kind <;> rfl

@[simp] theorem OutK.setRun_pend (o : OutK) (kind : PulseKind) (r : PulseRun) : (o.setRun kind r).pend = o.pend := by
  cases kind <;> rfl

theorem ChMode.isOut_of {m : ChMode} (h : m = .output ∨ m = .outputFb) : m.isOut = true := by
  rcases h with rfl | rfl <;> rfl

/-! ### Pulses that fall due, are overdue, or run (R258-R262, R496) -/

theorem State.pulseAge_iff (s : State) (ch : Chan) (r : PulseRun) (n : Nat) : s.pulseAge ch r n = true ↔
    ∃ at_, r.since = some at_ ∧ msTicks s.ms.tUs (n * (s.chan ch).testS * 1000) ≤ (s.ms.tick - at_).toNat := by
  cases h : r.since <;> simp [State.pulseAge, h]

/-- The result that a pulse of this tick awaits: when it is due, and what each lane that may vote on it finds (R260, R261). -/
def State.pulseResult (s : State) (ch : Chan) (kind : PulseKind) (obs : PerLane PulseObs) : PulsePend where
  kind := kind
  tick := s.ms.tick + 1 + BitVec.ofNat 32 ((((s.chan ch).place kind).ofsUs + (s.chan ch).pulse10us * 10 + 200) / s.ms.tUs.toNat)
  res := PerLane.ofFn fun l => if (obs.get l).ran && (match (s.iface l (bankOf ch)).token with
      | some t => t.tick == s.ms.tick
      | none => false) && l.inMask s.ms.voting && (s.lane l).clockOk
    then some (pulsePasses kind (obs.get l)) else none

theorem State.pulseResult_res (s : State) (ch : Chan) (kind : PulseKind) (obs : PerLane PulseObs) (m : Lane) :
    (s.pulseResult ch kind obs).res.get m =
      if (obs.get m).ran = true ∧ m.inMask s.ms.voting = true ∧ (s.lane m).clockOk = true ∧
          (∃ k, (s.iface m (bankOf ch)).token = some k ∧ k.tick = s.ms.tick) then
        some (pulsePasses kind (obs.get m))
      else none := by
  cases htoken : (s.iface m (bankOf ch)).token <;> simp [State.pulseResult, htoken, and_comm, and_left_comm]

/-- An output's record with a further result in wait; the pulse has its place. -/
def OutK.awaits (o : OutK) (p : PulsePend) : OutK :=
  OutK.setRun { o with pend := o.pend ++ [p] } p.kind { o.run p.kind with moved := false }

/-- The test of a pulse that may start: due, at its place or at once, with no lockout, no latch and no result of its kind in wait. -/
theorem exec_testPulse_of_ready {s : State} {ch : Chan} {kind : PulseKind} (hmode : (s.chan ch).mode = .output ∨ (s.chan ch).mode = .outputFb)
    (hdue : ((s.leadK.outs[ch]).run kind).due = true) (hpend : ∀ p ∈ (s.leadK.outs[ch]).pend, p.kind ≠ kind)
    (hlock : (s.leadK.outs[ch]).lock = none) (hlatch : s.aon.latch = false) (hticks : s.inTicks = true) (hlen : 0 < s.ms.tUs.toNat)
    (hecho : (s.fld.regs[ch]).letsPulse kind = true)
    (hplace : ((s.leadK.outs[ch]).run kind).atOnce = true ∨ (0 < s.part.pulseCycle[bankOf ch] ∧
      s.ms.tick.toNat % s.part.pulseCycle[bankOf ch] = ((s.chan ch).place kind).phase)) (obs : PerLane PulseObs) :
    exec (.testPulse ch kind obs) s =
      if s.meetsDissent ch kind then
        .next (s.modRunK fun k => { k with outs := vmod k.outs ch fun o => o.setRun kind { o.run kind with moved := true } })
      else if s.leadK.partO[0].getLsbD ch.val != (kind != .lowSide) then
        .next { s with vot := { s.vot with noResult := satInc 255 s.vot.noResult } }
      else .next (s.modRunK fun k => { k with outs := vmod k.outs ch fun o => o.awaits (s.pulseResult ch kind obs) }) := by
  have hall : (s.leadK.outs[ch]).pend.all (fun p => p.kind != kind) = true := by simpa using hpend
  have hout := ChMode.isOut_of hmode
  have hhere : (((s.leadK.outs[ch]).run kind).atOnce || (decide (0 < s.part.pulseCycle[bankOf ch]) &&
      decide (s.ms.tick.toNat % s.part.pulseCycle[bankOf ch] = ((s.chan ch).place kind).phase))) = true := by simpa using hplace
  show execTestPulse ch kind obs s = _
  unfold execTestPulse
  dsimp only
  rw [hout, hdue, hall, hlock, hlatch, hticks, hecho, hhere, if_neg (by simp; omega)]
  rfl

/-! ### Replicas (R285, R286, R288-R291) -/

theorem State.rep_modRep (s : State) (l m : Lane) (k c : Chan) (f : Replica → Replica) :
    ((s.modRep l k f).fld.reps.get m)[c] = if (m, c) = (l, k) then f ((s.fld.reps.get m)[c]) else (s.fld.reps.get m)[c] := by
  by_cases hm : m = l
  · subst hm
    by_cases hc : c = k
    · subst hc
      simp [State.modRep, PerLane.modify]
    · simp [State.modRep, PerLane.modify, vmod_ne _ _ _ _ hc, hc]
  · simp [State.modRep, PerLane.modify, PerLane.get_set_ne _ _ _ _ hm, hm]

/-- Work on a replica leaves the rest of the field dies. -/
theorem State.modRep_fld (s : State) (l : Lane) (k : Chan) (f : Replica → Replica) :
    (s.modRep l k f).fld = { s.fld with reps := (s.modRep l k f).fld.reps } := rfl

theorem readClass_of_level {mode : ChMode} {level : RawLevel} {v : Level} (prev : Option RawLevel)
    (hlevel : (level = .inactive ∧ v = .inactive) ∨ (level = .active ∧ v = .active) ∨
      (level = .wireBreak ∧ v = .wireBreak ∧ mode = .inputWb)) :
    readClass mode prev level = some level ∧ classLevel level = some v := by
  rcases hlevel with ⟨rfl, rfl⟩ | ⟨rfl, rfl⟩ | ⟨rfl, rfl, rfl⟩ <;> exact ⟨rfl, rfl⟩

/-- A reading in the band goes on as the class before (R286). -/
theorem readClass_band {level : RawLevel} (h : level ≠ .band) :
    readClass .inputWb (some level) .band = readClass .inputWb (some level) level := by
  cases level <;> simp_all [readClass]

/-- A reading at `us` that stays within t_filt of one that contradicts it (R285). -/
def State.recentBad (s : State) (ch : Chan) (level : RawLevel) (us : Nat) (other : List Int) : Bool :=
  other.any fun a => decide ((us : Int) - ((s.chan ch).filt.toNat * 100 : Nat) < a) && decide (a < (us : Int)) && s.contradicts (s.chan ch) level a

theorem exec_replicaFilterChange_of_level {s : State} {l : Lane} {ch : Chan} {level : RawLevel} {v : Level}
    (hmode : (s.chan ch).mode.isIn = true) (hbank : s.bankOn (bankOf ch) = true)
    (hread : readClass (s.chan ch).mode ((s.fld.reps.get l)[ch]).raw level = some level ∧ classLevel level = some v)
    (us : Nat) (other : List Int) :
    exec (.replicaFilterChange l ch level ⟨us, other⟩) s = .next (
      if s.recentBad ch level us other || !(((s.fld.reps.get l)[ch]).settled ||
          decide (((s.fld.reps.get l)[ch]).since + 100000 * (s.chan ch).filt.toNat ≤ s.nowNs + 1000 * us)) then
        s.modRep l ch fun r => { r with raw := some level }
      else s.modRep l ch fun r => { r with raw := some level, out := v, settled := true }) := by
  obtain ⟨hclass, hlevel⟩ := hread
  show execReplicaFilterChange l ch level ⟨us, other⟩ s = _
  unfold execReplicaFilterChange
  dsimp only
  rw [if_neg (by simp [hmode, hbank]), hclass]
  dsimp only
  rw [hlevel]
  dsimp only
  rw [apply_ite Host.Outcome.next]
  refine ite_congr ?_ (fun _ => rfl) fun _ => ?_
  · simp [State.recentBad]
  · cases l <;> simp [State.modRep, PerLane.modify, vmod, PerLane.set, PerLane.get]

/-- What a change of one replica leaves. -/
theorem State.modRep_effect (s : State) (l : Lane) (ch : Chan) (f : Replica → Replica) :
    ((s.modRep l ch f).fld.reps.get l)[ch] = f ((s.fld.reps.get l)[ch]) ∧
    (∀ (m : Lane) (c : Chan), (m, c) ≠ (l, ch) → ((s.modRep l ch f).fld.reps.get m)[c] = (s.fld.reps.get m)[c]) ∧
    (s.modRep l ch f).fld = { s.fld with reps := (s.modRep l ch f).fld.reps } ∧ SameBut [.fld] s (s.modRep l ch f) := by
  refine ⟨by rw [State.rep_modRep, if_pos rfl], fun m c h => by rw [State.rep_modRep, if_neg h], rfl, ?_⟩
  exact sameBut_of _ _ _ fun p => by cases p <;> simp [Part.agree]

/-- A source's gap check in one lane: its finding for the source, and the fault of the inputs tested against it. -/
def State.gapLane (s : State) (src : Chan) (tested : List Chan) (ok : Bool) (active : List Chan) (l : Lane) : State :=
  tested.foldl (fun s k => s.modRep l k fun r => { r with ownGap := if active.contains k then 2 else r.ownGap - 1 })
    (s.modRep l src fun r => { r with srcOk := ok })

theorem State.rep_foldl_modRep (ks : List Chan) (hks : ks.Nodup) (s : State) (l m : Lane) (c : Chan) (f : Chan → Replica → Replica) :
    ((ks.foldl (fun s k => s.modRep l k (f k)) s).fld.reps.get m)[c] =
      if m = l ∧ c ∈ ks then f c ((s.fld.reps.get m)[c]) else (s.fld.reps.get m)[c] := by
  induction ks generalizing s with
  | nil => simp
  | cons k rest ih =>
    obtain ⟨hk, hrest⟩ := List.nodup_cons.mp hks
    rw [List.foldl_cons, ih hrest, State.rep_modRep]
    by_cases hm : m = l
    · by_cases hc : c = k
      · subst hc
        simp [hm, hk]
      · simp [hm, hc]
    · simp [hm]

theorem State.rep_gapLane (s : State) (src : Chan) {tested : List Chan} (htested : tested.Nodup) (ok : Bool) (active : List Chan)
    (l m : Lane) (c : Chan) :
    ((s.gapLane src tested ok active l).fld.reps.get m)[c] =
      if m = l then
        { (s.fld.reps.get m)[c] with
          srcOk := if c = src then ok else ((s.fld.reps.get m)[c]).srcOk
          ownGap := if c ∈ tested then (if c ∈ active then 2 else ((s.fld.reps.get m)[c]).ownGap - 1) else ((s.fld.reps.get m)[c]).ownGap }
      else (s.fld.reps.get m)[c] := by
  unfold State.gapLane
  rw [State.rep_foldl_modRep tested htested, State.rep_modRep]
  by_cases hm : m = l
  · by_cases hc : c = src
    · subst hc
      by_cases ht : c ∈ tested <;> simp [hm, ht]
    · by_cases ht : c ∈ tested <;> simp [hm, hc, ht]
  · simp [hm]

/-- The inputs that are tested against a source. -/
def State.testedBy (s : State) (src : Chan) : List Chan :=
  (allFin 48).filter fun k => (s.chan k).mode == .inputTested && (s.chan k).link == some src

theorem State.mem_testedBy (s : State) (src k : Chan) : k ∈ s.testedBy src ↔ (s.chan k).mode = .inputTested ∧ (s.chan k).link = some src := by
  simp [State.testedBy, allFin]

theorem State.testedBy_nodup (s : State) (src : Chan) : (s.testedBy src).Nodup := (List.nodup_finRange 48).filter _

/-- A lane's finding for a source: its gap shows and no lane holds it (R287-R291). -/
def State.gapOk (s : State) (src : Chan) (obs : PerLane GapObs) (l : Lane) : Bool :=
  s.sourceDriven src && (obs.get l).highBefore && (obs.get l).lowInGap && !s.gapHeld src obs

theorem State.gapOk_iff (s : State) (src : Chan) (obs : PerLane GapObs) (l : Lane) : s.gapOk src obs l = true ↔
    (obs.get l).highBefore = true ∧ (obs.get l).lowInGap = true ∧ (∃ m : Lane, s.laneDrives m src = true) ∧
      ∀ m : Lane, s.laneDrives m src = true → (obs.get m).noGap = false := by
  have hany (f : Lane → Bool) : lanesList.any f = true ↔ ∃ m, f m = true := by
    simp [List.any_eq_true, mem_lanesList]
  have hheld : s.gapHeld src obs = false ↔ ∀ m : Lane, s.laneDrives m src = true → (obs.get m).noGap = false := by
    rw [← Bool.not_eq_true, State.gapHeld, hany]
    simp
  have hdriven := hany fun m => s.laneDrives m src
  simp [State.gapOk, State.sourceDriven, hdriven, hheld, and_assoc, and_left_comm]

/-- The gap check of every lane. -/
theorem exec_testSourceGap_of_gap {s : State} {src : Chan} (hgap : s.fld.srcGap = some src) (obs : PerLane GapObs) :
    ∃ t : State, exec (.testSourceGap src obs) s = .next { t with fld := { t.fld with srcGap := none } } ∧
      (∀ (l : Lane) (c : Chan), (t.fld.reps.get l)[c] = { (s.fld.reps.get l)[c] with
        srcOk := if c = src then s.gapOk src obs l else ((s.fld.reps.get l)[c]).srcOk
        ownGap := if c ∈ s.testedBy src then (if c ∈ (obs.get l).activeIn then 2 else ((s.fld.reps.get l)[c]).ownGap - 1)
          else ((s.fld.reps.get l)[c]).ownGap }) ∧
      t = { s with fld := { s.fld with reps := t.fld.reps } } := by
  refine ⟨lanesList.foldl (fun t l => t.gapLane src (s.testedBy src) (s.gapOk src obs l) (obs.get l).activeIn l) s, ?_, fun l c => ?_, ?_⟩
  · exact if_neg (by simp [hgap])
  · simp only [lanesList, List.foldl_cons, List.foldl_nil, State.rep_gapLane _ _ (s.testedBy_nodup src)]
    cases l <;> simp
  · have hmodRep (t : State) (l : Lane) (k : Chan) (f : Replica → Replica) (ht : t = { s with fld := { s.fld with reps := t.fld.reps } }) :
        t.modRep l k f = { s with fld := { s.fld with reps := (t.modRep l k f).fld.reps } } := by
      rw [ht]
      rfl
    refine foldl_invariant (p := fun t : State => t = { s with fld := { s.fld with reps := t.fld.reps } }) (fun t l ht => ?_) lanesList rfl
    exact foldl_invariant (p := fun t : State => t = { s with fld := { s.fld with reps := t.fld.reps } })
      (fun t k ht => hmodRep t l k _ ht) _ (hmodRep t l src _ ht)

/-! ### The statement -/

/-- Settles O10, one command after the other. -/
theorem testPulsesAndInputs : Obligations.TestPulsesAndInputs := by
  refine ⟨⟨fun s ch kind hmode => ?due, fun s ch kind at_ hmode hsince hnot => ⟨fun hmoved => ?moved, fun hmoved hage => ?overdue⟩, ?pulse⟩,
    fun s l ch level v us other hmode hbank hlevel => ⟨fun hquiet hold => ?takes, fun hbad => ?keeps⟩, ?band, ?gap⟩
  case due =>
    obtain ⟨hruns, hrest⟩ := s.modOuts_effect ch fun o => o.setRun kind { o.run kind with due := (o.run kind).due || s.pulseAge ch (o.run kind) 1 }
    refine ⟨_, if_neg (by simp [ChMode.isOut_of hmode]), fun l hl => ⟨?_, (hruns l hl).2⟩, hrest, s.modRunK_sameBut _⟩
    rw [(hruns l hl).1]
    simp [State.pulseAge_iff]
  case moved => exact if_pos (by simpa using .inr hmoved)
  case overdue =>
    have hpulse : s.pulseAge ch ((s.leadK.outs[ch]).run kind) 2 = true := (State.pulseAge_iff ..).mpr ⟨at_, hsince, hage⟩
    obtain ⟨hruns, hrest⟩ := s.modOuts_effect ch fun o => o.setRun kind { o.run kind with overdue := true }
    have hgo : ¬ (!(s.chan ch).mode.isOut || !s.pulseAge ch ((s.leadK.outs[ch]).run kind) 2 || ((s.leadK.outs[ch]).run kind).overdue ||
        ((s.leadK.outs[ch]).run kind).moved) = true := by
      rw [ChMode.isOut_of hmode, hpulse, hnot, hmoved]
      decide
    have hlane (u : State) (v : Vot) (l : Lane) : (({ u with vot := v } : State).alarmChan 0xC1 ch []).lane l = u.lane l :=
      lane_of_lanes (by simp) l
    refine ⟨_, if_neg hgo, fun l hl => ?_, fun l hl => ?_, ?_, ?_⟩
    · rw [hlane, (hruns l hl).1]
      simp
    · rw [hlane, hrest l hl]
    · simp [satInc]
    · exact sameBut_of _ _ _ fun p => by cases p <;> simp [Part.agree]
  case pulse =>
    intro s ch kind obs hmode hdue hpend hlock hlatch hticks hlen hecho hplace
    have hexec := exec_testPulse_of_ready hmode hdue hpend hlock hlatch hticks hlen hecho hplace obs
    refine ⟨fun hmeets => ?_, fun hmeets hon => ?_, fun hmeets hon => ?_⟩
    · obtain ⟨hruns, hrest⟩ := s.modOuts_effect ch fun o => o.setRun kind { o.run kind with moved := true }
      exact ⟨_, hexec.trans (if_pos hmeets), fun l hl => (hruns l hl).1, hrest, s.modRunK_sameBut _⟩
    · rw [hexec, if_neg (by simp [hmeets]), hon, if_pos (by cases kind <;> decide)]
      rfl
    · obtain ⟨hruns, hrest⟩ := s.modOuts_effect ch fun o => o.awaits (s.pulseResult ch kind obs)
      refine ⟨_, (hexec.trans (if_neg (by simp [hmeets]))).trans (if_neg (by rw [hon]; cases kind <;> decide)), fun l hl => ?_, hrest,
        s.modRunK_sameBut _⟩
      rw [(hruns l hl).1]
      exact ⟨s.pulseResult ch kind obs, by simp [OutK.awaits], rfl, by simp [OutK.awaits, State.pulseResult], rfl,
        s.pulseResult_res ch kind obs⟩
  case takes =>
    refine ⟨_, (exec_replicaFilterChange_of_level hmode hbank (readClass_of_level _ hlevel) us other).trans (congrArg _ (if_neg ?_)),
      s.modRep_effect l ch _⟩
    have hno : s.recentBad ch level us other = false := by
      rw [State.recentBad, List.any_eq_false]
      intro a ha
      have := hquiet a ha
      simp
      omega
    simpa [hno, or_iff_not_imp_left] using hold
  case keeps =>
    refine ⟨_, (exec_replicaFilterChange_of_level hmode hbank (readClass_of_level _ hlevel) us other).trans (congrArg _ (if_pos ?_)),
      s.modRep_effect l ch _⟩
    rcases hbad with ⟨a, ha, hafter, hbefore, hcontra⟩ | ⟨hnew, hearly⟩
    · have hyes : s.recentBad ch level us other = true := by
        rw [State.recentBad, List.any_eq_true]
        refine ⟨a, ha, ?_⟩
        simp [hcontra, hbefore]
        omega
      simp [hyes]
    · simpa using .inr ⟨hnew, hearly⟩
  case band =>
    intro s l ch level run hmode hraw hband
    show execReplicaFilterChange l ch .band run s = execReplicaFilterChange l ch level run s
    unfold execReplicaFilterChange
    dsimp only
    rw [hmode, hraw, readClass_band hband]
  case gap =>
    intro s src obs hgap
    obtain ⟨t, hexec, hreps, ht⟩ := exec_testSourceGap_of_gap hgap obs
    refine ⟨_, hexec, fun l => ?_, fun l k hmode hlink => ?_, fun l k hne hnot => ?_, ?_, ?_⟩
    · rw [hreps, ← s.gapOk_iff src obs l]
      simp
    · rw [hreps]
      simp [(s.mem_testedBy src k).mpr ⟨hmode, hlink⟩]
    · rw [hreps]
      simp [hne, s.mem_testedBy, hnot]
    · rw [ht]
    · rw [ht]
      exact sameBut_of _ _ _ fun p => by cases p <;> simp [Part.agree]

end Sys2Proof.Machine
end

section
/-!
SUPPORT and O11. What a finding's lockout does to a channel's record in the running lanes, and the phase marks.
-/

namespace Sys2Proof.Machine

/-! ### Lockouts (R270) -/

theorem bitsNat_testBit (bs : List Bool) (i : Nat) : (bitsNat bs).testBit i = bs.getD i false := by
  induction bs generalizing i with
  | nil => simp [bitsNat]
  | cons b rest ih =>
    have hcons : bitsNat (b :: rest) = Nat.bit b (bitsNat rest) := by
      cases b
      · simp [bitsNat, Nat.bit]
      · simp [bitsNat, Nat.bit, Nat.add_comm]
    rw [hcons]
    cases i with
    | zero => simp
    | succ j => simp [Nat.testBit_bit_succ, ih]

theorem LaneK.lockMask_getLsbD (k : LaneK) (c : Chan) : k.lockMask.getLsbD c.val = (k.outs[c]).lock.isSome := by
  rw [LaneK.lockMask, BitVec.getLsbD_ofNat, bitsNat_testBit]
  simp [c.isLt]

@[simp] theorem OutK.recommand_lock (o : OutK) (tick : Tick) (on : Bool) : (o.recommand tick on).lock = o.lock := by
  unfold OutK.recommand
  split <;> rfl

@[simp] theorem LaneK.applyLocks_lock (k : LaneK) (tick : Tick) (c : Chan) :
    ((k.applyLocks tick).outs[c]).lock = (k.outs[c]).lock := by
  simp only [LaneK.applyLocks, Fin.getElem_fin, Vector.getElem_map]
  split <;> simp

/-- A channel that is locked out is commanded off (R270). -/
theorem LaneK.applyLocks_off {k : LaneK} {c : Chan} (hlock : (k.outs[c]).lock.isSome = true) (tick : Tick) :
    (k.applyLocks tick).partO[0].getLsbD c.val = false := by
  have hword : (k.applyLocks tick).partO[0] = k.partO[0] &&& ~~~k.lockMask := by simp [LaneK.applyLocks]
  rw [hword, BitVec.getLsbD_and, BitVec.getLsbD_not, LaneK.lockMask_getLsbD, hlock]
  simp

/-- A lockout keeps its first cause, and touches no other channel. -/
theorem Loc.lock_effect (x : Loc) (tick : Tick) (c : Chan) (cause : BitVec 4) :
    (x.lock tick c cause).vflt = x.vflt ∧ ((x.lock tick c cause).out c).lock = (x.out c).lock.or (some ⟨cause, tick⟩) ∧
    ∀ d : Chan, d ≠ c → ((x.lock tick c cause).out d) = x.out d := by
  unfold Loc.lock
  split
  next h =>
    obtain ⟨k, hk⟩ := Option.isSome_iff_exists.mp h
    exact ⟨rfl, by simp [hk], fun _ _ => rfl⟩
  next h =>
    have hnone : (x.out c).lock = none := by simpa using h
    refine ⟨rfl, ?_, fun d hd => vmod_ne _ _ _ _ hd⟩
    rw [hnone]
    simp [Loc.out, Loc.raise, Loc.modOut]

/-- A finding without a voter fault, in the locks of each lane's channels. -/
theorem State.locStep_locks {s : State} {f : Loc → Loc} (hcalm : ∀ k, (f (Loc.start k)).vflt = []) :
    (∀ l : Lane, l.inMask s.running = true →
      ((s.locStep f).lane l).region.k = (f (Loc.start (s.lane l).region.k)).k.applyLocks s.ms.tick) ∧
    (∀ l : Lane, l.inMask s.running = false → (s.locStep f).lane l = s.lane l) ∧
    SameBut [.lanes, .fld, .vot, .log, .mail, .host] s (s.locStep f) := by
  refine ⟨fun l hl => ?_, fun l hl => ?_, ?_⟩
  · rw [State.lane_locStep, if_pos hl, hcalm]
    rfl
  · rw [State.lane_locStep, if_neg (by simp [hl])]
  · obtain ⟨hms, haon, hnvm, hupd⟩ := s.locStep_calm f (hcalm _)
    exact sameBut_of _ _ _ fun p => by cases p <;> simp [Part.agree, hms, haon, hnvm, hupd]

/-- A lockout of channel `ch` in every running lane. -/
theorem State.locStep_lock (s : State) (ch : Chan) (cause : BitVec 4) :
    (∀ l : Lane, l.inMask s.running = true →
      ((((s.locStep fun x => x.lock s.ms.tick ch cause).lane l).region.k.outs[ch]).lock =
        ((s.lane l).region.k.outs[ch]).lock.or (some ⟨cause, s.ms.tick⟩) ∧
      ((s.locStep fun x => x.lock s.ms.tick ch cause).lane l).region.k.partO[0].getLsbD ch.val = false ∧
      ∀ c : Chan, c ≠ ch → (((s.locStep fun x => x.lock s.ms.tick ch cause).lane l).region.k.outs[c]).lock =
        ((s.lane l).region.k.outs[c]).lock)) ∧
    (∀ l : Lane, l.inMask s.running = false → (s.locStep fun x => x.lock s.ms.tick ch cause).lane l = s.lane l) ∧
    SameBut [.lanes, .fld, .vot, .log, .mail, .host] s (s.locStep fun x => x.lock s.ms.tick ch cause) := by
  obtain ⟨hruns, hrest, hframe⟩ := State.locStep_locks (s := s) (f := fun x => x.lock s.ms.tick ch cause)
    fun k => ((Loc.start k).lock_effect s.ms.tick ch cause).1
  refine ⟨fun l hl => ?_, hrest, hframe⟩
  obtain ⟨-, hlock, hothers⟩ := (Loc.start (s.lane l).region.k).lock_effect s.ms.tick ch cause
  rw [hruns l hl]
  refine ⟨?_, LaneK.applyLocks_off ?_ _, fun c hc => ?_⟩
  · rw [LaneK.applyLocks_lock]
    exact hlock
  · refine (congrArg Option.isSome hlock).trans ?_
    simp
  · rw [LaneK.applyLocks_lock]
    exact congrArg OutK.lock (hothers c hc)

/-! ### Split ticks and bank overloads (R255, R297) -/

/-- The third split tick in a row locks the channel out. -/
theorem Loc.echoSplit_effect (x : Loc) (tick : Tick) (c : Chan) :
    ((x.modOut c fun o => { o with echoSplit := 2 }).echoSplit tick c true).vflt = x.vflt ∧
    (((x.modOut c fun o => { o with echoSplit := 2 }).echoSplit tick c true).out c).lock = (x.out c).lock.or (some ⟨9, tick⟩) ∧
    ∀ d : Chan, d ≠ c → (((x.modOut c fun o => { o with echoSplit := 2 }).echoSplit tick c true).out d).lock = (x.out d).lock := by
  have hmod (y : Loc) (f : OutK → OutK) (hf : ∀ o, (f o).lock = o.lock) (d : Chan) : ((y.modOut c f).out d).lock = (y.out d).lock := by
    by_cases hd : d = c
    · subst hd
      simp [Loc.out, Loc.modOut, hf]
    · simp [Loc.out, Loc.modOut, vmod_ne _ _ _ _ hd]
  unfold Loc.echoSplit
  rw [if_neg (by simp)]
  extract_lets o fresh x1 x2
  have hx1 : x1.vflt = x.vflt ∧ (∀ d, (x1.out d).lock = (x.out d).lock) ∧ (x1.out c).echoSplit = 3 :=
    ⟨rfl, fun d => (hmod (x.modOut c _) _ (by exact fun _ => rfl) d).trans (hmod x _ (by exact fun _ => rfl) d), by simp [x1, Loc.out, Loc.modOut, satInc]⟩
  have hx2 : x2.vflt = x.vflt ∧ (∀ d, (x2.out d).lock = (x.out d).lock) ∧ (x2.out c).echoSplit = 3 := by
    dsimp only [x2]
    split
    · exact hx1
    · exact hx1
  obtain ⟨hvflt, hlocks, hthree⟩ := hx2
  obtain ⟨hcalm, hlock, hothers⟩ := x2.lock_effect tick c 9
  rw [hthree, if_pos (by decide)]
  exact ⟨hcalm.trans hvflt, hlock.trans (by rw [hlocks]), fun d hd => by rw [hothers d hd, hlocks]⟩

theorem tickGe_of_tickGt {a b : Tick} (h : tickGt a b = true) : tickGe a b = true := by
  simp only [tickGt, tickGe, decide_eq_true_eq] at h ⊢
  omega

theorem not_tickGe_of_tickGt {a b : Tick} (h : tickGt a b = true) : tickGe b a = false := by
  have hpos : 0 < (a - b).toInt := of_decide_eq_true h
  have hneg : (b - a).toInt < 0 := by
    rw [BitVec.toInt_eq_toNat_cond] at hpos ⊢
    bv_omega
  exact decide_eq_false (not_le.mpr hneg)

/-- One candidate more for the channel that was commanded on last. -/
def Loc.later (x : Loc) (acc : Option Chan) (c : Chan) : Option Chan :=
  match acc with
  | none => some c
  | some d => if tickGe (x.out c).onTick (x.out d).onTick then some c else some d

theorem Loc.later_cases {x : Loc} {acc : Option Chan} {c d : Chan} (h : x.later acc d = some c) : c = d ∨ acc = some c := by
  cases acc with
  | none => exact .inl (Option.some.inj h).symm
  | some a =>
    simp only [Loc.later] at h
    split at h
    · exact .inl (Option.some.inj h).symm
    · exact .inr h

theorem Loc.lastOn_of_latest {x : Loc} {cs : List Chan} {c : Chan} (hmem : c ∈ cs)
    (hlast : ∀ d ∈ cs, d ≠ c → tickGt (x.out c).onTick (x.out d).onTick = true) : x.lastOn cs = some c := by
  have hstay (ds : List Chan) (hds : ∀ d ∈ ds, d ≠ c → tickGt (x.out c).onTick (x.out d).onTick = true) :
      ds.foldl x.later (some c) = some c := by
    induction ds with
    | nil => rfl
    | cons d rest ih =>
      have hkeep : x.later (some c) d = some c := by
        by_cases hd : d = c
        · simp [Loc.later, hd]
        · simp [Loc.later, not_tickGe_of_tickGt (hds d (by simp) hd)]
      rw [List.foldl_cons, hkeep]
      exact ih fun e he => hds e (by simp [he])
  have hreach (ds : List Chan) (acc : Option Chan) (hmem : c ∈ ds)
      (hds : ∀ d ∈ ds, d ≠ c → tickGt (x.out c).onTick (x.out d).onTick = true)
      (hacc : ∀ d ∈ acc, d ≠ c → tickGt (x.out c).onTick (x.out d).onTick = true) : ds.foldl x.later acc = some c := by
    induction ds generalizing acc with
    | nil => simp at hmem
    | cons d rest ih =>
      rw [List.foldl_cons]
      by_cases hd : d = c
      · have htake : x.later acc d = some c := by
          subst hd
          cases acc with
          | none => rfl
          | some e =>
            by_cases he : e = d
            · simp [Loc.later, he]
            · simp [Loc.later, tickGe_of_tickGt (hacc e rfl he)]
        rw [htake]
        exact hstay rest fun e he => hds e (by simp [he])
      · refine ih _ (by simpa [Ne.symm hd] using hmem) (fun e he => hds e (by simp [he])) fun e he => ?_
        have hwhich : e = d ∨ acc = some e := Loc.later_cases he
        rcases hwhich with rfl | he
        · exact hds e (by simp)
        · exact hacc e he
  exact hreach cs none hmem hlast nofun

/-- The channel commanded on last is one of the candidates. -/
theorem Loc.lastOn_mem {x : Loc} {cs : List Chan} {c : Chan} (h : x.lastOn cs = some c) : c ∈ cs := by
  have hfold (ds : List Chan) (acc : Option Chan) (h : ds.foldl x.later acc = some c) : c ∈ ds ∨ acc = some c := by
    induction ds generalizing acc with
    | nil => exact .inr h
    | cons d rest ih =>
      rcases ih _ h with hin | hacc
      · exact .inl (by simp [hin])
      · rcases Loc.later_cases hacc with rfl | hacc
        · exact .inl (by simp)
        · exact .inr hacc
  exact (hfold cs none h).resolve_right nofun

/-- The bank's overload has been high for nine ticks. -/
def Loc.atNine (x : Loc) (b : Bank) : Loc := { x with k := { x.k with ovl := vmod x.k.ovl b fun _ => 9 } }

/-- The channels of bank `b` that are commanded on and not locked out. -/
def Loc.onOf (x : Loc) (cfg : Vector ChanCfg 48) (b : Bank) : List Chan :=
  (outChans cfg).filter fun c => bankOf c == b && decide (0 < (x.out c).onRun) && (x.out c).lock.isNone

theorem Loc.mem_onOf {x : Loc} {cfg : Vector ChanCfg 48} {b : Bank} {c : Chan} :
    c ∈ x.onOf cfg b ↔ cfg[c].mode.isOut = true ∧ bankOf c = b ∧ 0 < (x.out c).onRun ∧ (x.out c).lock = none := by
  simp only [Loc.onOf, outChans, allFin, List.mem_filter, List.mem_finRange, Bool.and_eq_true, beq_iff_eq, decide_eq_true_eq,
    Option.isNone_iff_eq_none, Fin.getElem_fin]
  tauto

/-- The tenth tick locks out the channel that was commanded on last, if there is one. -/
theorem Loc.bank_atNine (x : Loc) (cfg : Vector ChanCfg 48) (tick : Tick) (b : Bank) :
    ∃ y : Loc, y.vflt = x.vflt ∧ (∀ c, y.out c = x.out c) ∧
      (x.atNine b).bank cfg tick b true =
        match x.lastOn (x.onOf cfg b) with
        | some c => y.lock tick c 7
        | none => y := by
  refine ⟨{ x.atNine b with k := { (x.atNine b).k with ovl := vmod (x.atNine b).k.ovl b fun _ => 10 } },
    rfl, fun _ => rfl, ?_⟩
  have hten : satInc 10 (x.atNine b).k.ovl[b] = 10 := by simp [Loc.atNine, satInc]
  unfold Loc.bank
  simp only [if_true, hten]
  rfl

/-- The tenth edge of a bank overload, in the locks of the lane's channels. -/
theorem Loc.bank_effect (x : Loc) (cfg : Vector ChanCfg 48) (tick : Tick) (b : Bank) :
    ((x.atNine b).bank cfg tick b true).vflt = x.vflt ∧
    (∀ c : Chan, bankOf c ≠ b → (((x.atNine b).bank cfg tick b true).out c).lock = (x.out c).lock) ∧
    ∀ c ∈ x.onOf cfg b, (∀ d ∈ x.onOf cfg b, d ≠ c → tickGt (x.out c).onTick (x.out d).onTick = true) →
      (((x.atNine b).bank cfg tick b true).out c).lock = some ⟨7, tick⟩ := by
  obtain ⟨y, hvflt, hout, hbank⟩ := x.bank_atNine cfg tick b
  rw [hbank]
  cases hlast : x.lastOn (x.onOf cfg b) with
  | none =>
    refine ⟨hvflt, fun c _ => congrArg _ (hout c), fun c hc hlatest => ?_⟩
    rw [Loc.lastOn_of_latest hc hlatest] at hlast
    cases hlast
  | some d =>
    obtain ⟨hcalm, hlock, hothers⟩ := y.lock_effect tick d 7
    obtain ⟨-, hd, -, -⟩ := Loc.mem_onOf.mp (Loc.lastOn_mem hlast)
    refine ⟨hcalm.trans hvflt, fun c hc => ?_, fun c hc hlatest => ?_⟩
    · have hne : c ≠ d := fun h => hc (h ▸ hd)
      exact congrArg OutK.lock ((hothers c hne).trans (hout c))
    · rw [Loc.lastOn_of_latest hc hlatest] at hlast
      obtain rfl := Option.some.inj hlast
      obtain ⟨-, -, -, hfree⟩ := Loc.mem_onOf.mp hc
      exact hlock.trans (by rw [hout, hfree]; rfl)

/-! ### Phase marks (R250) -/

/-- What one lane's phase mark shows. -/
def State.marked (arrived : PerLane Bool) (s : State) (l : Lane) : State :=
  if !s.laneOn l then s
  else
    let got := arrived.get l
    let lost := s.vot.markLost.get l
    let v := s.vot
    let v1 : Vot := { v with
      markSeen := v.markSeen.set l (v.markSeen.get l || got)
      markMiss := v.markMiss.set l (v.markMiss.get l || !got)
      markLost := v.markLost.set l (!got) }
    let s1 : State := { s with vot := v1 }
    if !got && !lost then s1.alarmLane 0xC6 l [] else s1

theorem execPhaseMark_eq (arrived : PerLane Bool) (s : State) :
    execPhaseMark arrived s = .next (lanesList.foldl (State.marked arrived) s) := rfl

@[simp] theorem State.marked_pwr (arrived : PerLane Bool) (s : State) (l : Lane) : (s.marked arrived l).pwr = s.pwr := by
  simp only [State.marked]
  split
  · rfl
  · split <;> simp

/-- What the hub keeps of lane `m`'s phase marks. -/
def Vot.marksOf (v : Vot) (m : Lane) : Bool × Bool × Bool := (v.markSeen.get m, v.markMiss.get m, v.markLost.get m)

/-- A lane's marks with one more that arrived or stayed away. -/
def Vot.marksWith (v : Vot) (m : Lane) (got : Bool) : Bool × Bool × Bool := (v.markSeen.get m || got, v.markMiss.get m || !got, !got)

theorem State.marked_marksOf (arrived : PerLane Bool) (s : State) (l m : Lane) :
    (s.marked arrived l).vot.marksOf m =
      if m = l ∧ s.laneOn l = true then s.vot.marksWith m (arrived.get m) else s.vot.marksOf m := by
  by_cases hon : s.laneOn l = true
  · have hvot : (s.marked arrived l).vot = { s.vot with
        markSeen := s.vot.markSeen.set l (s.vot.markSeen.get l || arrived.get l)
        markMiss := s.vot.markMiss.set l (s.vot.markMiss.get l || !arrived.get l)
        markLost := s.vot.markLost.set l (!arrived.get l) } := by
      simp only [State.marked, hon, Bool.not_true, Bool.false_eq_true, if_false]
      split <;> simp
    by_cases hm : m = l
    · subst hm
      simp [hvot, hon, Vot.marksOf, Vot.marksWith]
    · simp [hvot, hm, Vot.marksOf, PerLane.get_set_ne]
  · simp [State.marked, hon]

theorem State.marked_frame (arrived : PerLane Bool) (s : State) (l : Lane) :
    SameBut [.vot, .log, .mail, .host] s (s.marked arrived l) := by
  refine sameBut_of _ _ _ fun p => ?_
  simp only [State.marked]
  split
  · cases p <;> simp [Part.agree]
  · split <;> cases p <;> simp [Part.agree]

theorem State.marked_log {s : State} {l : Lane} {arrived : PerLane Bool}
    (h : s.laneOn l = true → arrived.get l = true ∨ s.vot.markLost.get l = true) : (s.marked arrived l).log = s.log := by
  simp only [State.marked]
  split
  next => rfl
  next hon =>
    rw [if_neg]
    rcases h (by simpa using hon) with hgot | hlost <;> simp [*]

theorem State.laneOn_marked (arrived : PerLane Bool) (s : State) (l m : Lane) : (s.marked arrived l).laneOn m = s.laneOn m := by
  simp [State.laneOn]

theorem State.foldl_marked_marksOf (arrived : PerLane Bool) (m : Lane) {ls : List Lane} (hls : ls.Nodup) (s : State) :
    (ls.foldl (State.marked arrived) s).vot.marksOf m =
      if m ∈ ls ∧ s.laneOn m = true then s.vot.marksWith m (arrived.get m) else s.vot.marksOf m := by
  induction ls generalizing s with
  | nil => simp
  | cons l rest ih =>
    obtain ⟨hl, hrest⟩ := List.nodup_cons.mp hls
    rw [List.foldl_cons, ih hrest, State.laneOn_marked]
    have hstep := s.marked_marksOf arrived l m
    by_cases hm : m = l
    · subst hm
      simp [hl, hstep]
    · have hkeep : (s.marked arrived l).vot.marksOf m = s.vot.marksOf m := by rw [hstep, if_neg (by simp [hm])]
      have hseen : (s.marked arrived l).vot.markSeen.get m = s.vot.markSeen.get m := congrArg (·.1) hkeep
      have hmiss : (s.marked arrived l).vot.markMiss.get m = s.vot.markMiss.get m := congrArg (·.2.1) hkeep
      simp [hm, hkeep, Vot.marksWith, hseen, hmiss]

theorem State.foldl_marked_log (arrived : PerLane Bool) {ls : List Lane} (hls : ls.Nodup) (s : State)
    (h : ∀ l ∈ ls, s.laneOn l = true → arrived.get l = true ∨ s.vot.markLost.get l = true) :
    (ls.foldl (State.marked arrived) s).log = s.log := by
  induction ls generalizing s with
  | nil => rfl
  | cons l rest ih =>
    obtain ⟨hl, hrest⟩ := List.nodup_cons.mp hls
    rw [List.foldl_cons, ih hrest, State.marked_log (h l (by simp))]
    intro m hm hon
    have hne : m ≠ l := fun he => hl (he ▸ hm)
    have hkeep := s.marked_marksOf arrived l m
    rw [if_neg (by simp [hne])] at hkeep
    have hlost : (s.marked arrived l).vot.markLost.get m = s.vot.markLost.get m := congrArg (·.2.2) hkeep
    rw [hlost]
    exact h m (by simp [hm]) (by rwa [State.laneOn_marked] at hon)

theorem Part.agree_trans {p : Part} {s t u : State} (hst : p.agree s t) (htu : p.agree t u) : p.agree s u := by
  cases p <;> exact Eq.trans htu hst

theorem SameBut.trans {ps : List Part} {s t u : State} (hst : SameBut ps s t) (htu : SameBut ps t u) : SameBut ps s u :=
  fun p hp => Part.agree_trans (hst p hp) (htu p hp)

theorem SameBut.foldl {α : Type} {ps : List Part} {f : State → α → State} (hf : ∀ s x, SameBut ps s (f s x)) (xs : List α)
    (s : State) : SameBut ps s (xs.foldl f s) := by
  induction xs generalizing s with
  | nil => exact SameBut.refl ps s
  | cons x rest ih => exact (hf s x).trans (ih _)

/-- The phase marks of a tick (R250). -/
theorem phaseMark_marks (s : State) (arrived : PerLane Bool) :
    ∃ t, exec (.phaseMark arrived) s = .next t ∧
      (∀ l : Lane, s.laneOn l = true →
        t.vot.markSeen.get l = (s.vot.markSeen.get l || arrived.get l) ∧
        t.vot.markMiss.get l = (s.vot.markMiss.get l || !arrived.get l) ∧ t.vot.markLost.get l = !arrived.get l) ∧
      (∀ l : Lane, s.laneOn l = false → t.vot.markLost.get l = s.vot.markLost.get l) ∧
      ((∀ l : Lane, s.laneOn l = true → arrived.get l = true ∨ s.vot.markLost.get l = true) → t.log = s.log) ∧
      SameBut [.vot, .log, .mail, .host] s t := by
  have hnodup : lanesList.Nodup := by decide
  have hmarks := fun l => State.foldl_marked_marksOf arrived l hnodup s
  refine ⟨lanesList.foldl (State.marked arrived) s, execPhaseMark_eq arrived s, fun l hon => ?_, fun l hoff => ?_,
    fun h => State.foldl_marked_log arrived hnodup s fun l _ => h l, SameBut.foldl (State.marked_frame arrived) _ s⟩
  · have hl := hmarks l
    rw [if_pos ⟨mem_lanesList l, hon⟩] at hl
    exact ⟨congrArg (·.1) hl, congrArg (·.2.1) hl, congrArg (·.2.2) hl⟩
  · have hl := hmarks l
    rw [if_neg (by simp [hoff])] at hl
    exact congrArg (·.2.2) hl

theorem ChMode.isOut_iff {m : ChMode} : m.isOut = true ↔ m = .output ∨ m = .outputFb := by
  cases m <;> decide

/-- Settles O11. -/
theorem findingsOfTheOutputs : Obligations.FindingsOfTheOutputs := by
  unfold Obligations.FindingsOfTheOutputs
  refine ⟨phaseMark_marks, fun s ch hticks => ⟨fun hmode => ?_, fun hmode hon => ?_⟩,
    fun s hticks => ⟨fun ch hmode => ?_, fun b => ?_⟩⟩
  · have hexec : exec (.feedbackMismatchWindow ch) s = .next (s.locStep fun x => x.lock s.ms.tick ch 8) := by
      simp [exec, execFeedbackMismatchWindow, hticks, hmode]
    exact ⟨_, hexec, s.locStep_lock ch 8⟩
  · have hexec : exec (.overloadTimeout ch) s = .next (s.locStep fun x => x.lock s.ms.tick ch 7) := by
      have hsettled : settledOn s.ms.tUs s.leadK.outs[ch.val] = true := hon
      simp [exec, execOverloadTimeout, hticks, ChMode.isOut_iff.mpr hmode, hsettled]
    obtain ⟨hruns, hrest, hframe⟩ := s.locStep_lock ch 7
    exact ⟨_, hexec, fun l hl => ⟨(hruns l hl).1, (hruns l hl).2.1⟩, hrest, hframe⟩
  · have hexec : exec (.echoSplitMismatch ch) s = .next (s.locStep fun x =>
        (x.modOut ch fun o => { o with echoSplit := 2 }).echoSplit s.ms.tick ch true) := by
      simp [exec, execEchoSplitMismatch, hticks, ChMode.isOut_iff.mpr hmode]
    obtain ⟨hruns, hrest, hframe⟩ := State.locStep_locks (s := s)
      (f := fun x => (x.modOut ch fun o => { o with echoSplit := 2 }).echoSplit s.ms.tick ch true)
      fun k => ((Loc.start k).echoSplit_effect s.ms.tick ch).1
    refine ⟨_, hexec, fun l hl => ?_, hrest, hframe⟩
    obtain ⟨-, hlock, hothers⟩ := (Loc.start (s.lane l).region.k).echoSplit_effect s.ms.tick ch
    rw [hruns l hl]
    exact ⟨by rw [LaneK.applyLocks_lock]; exact hlock, fun c hc => by rw [LaneK.applyLocks_lock]; exact hothers c hc⟩
  · set u := s.locStep fun x => (x.atNine b).bank s.part.chans s.ms.tick b true with hu
    have hexec : exec (.bankOverload b) s =
        .next { u with fld := { u.fld with banks := vmod u.fld.banks b fun r => { r with ovl := true } } } := by
      simp only [exec, execBankOverload, hticks, Bool.not_true, Bool.false_eq_true, if_false]
      rfl
    obtain ⟨hruns, hrest, hframe⟩ := State.locStep_locks (s := s) (f := fun x => (x.atNine b).bank s.part.chans s.ms.tick b true)
      fun k => ((Loc.start k).bank_effect s.part.chans s.ms.tick b).1
    refine ⟨_, hexec, by simp, fun l hl c hc => ?_, fun l hl c hfree hon hmode hbank hlatest => ?_, hrest,
      hframe.trans (sameBut_of _ _ _ fun p => by cases p <;> simp [Part.agree, hu])⟩
    · obtain ⟨-, hothers, -⟩ := (Loc.start (s.lane l).region.k).bank_effect s.part.chans s.ms.tick b
      refine (congrArg (fun k : LaneK => (k.outs[c]).lock) (hruns l hl)).trans ?_
      rw [LaneK.applyLocks_lock]
      exact hothers c hc
    · obtain ⟨-, -, hlast⟩ := (Loc.start (s.lane l).region.k).bank_effect s.part.chans s.ms.tick b
      refine (congrArg (fun k : LaneK => (k.outs[c]).lock) (hruns l hl)).trans ?_
      rw [LaneK.applyLocks_lock]
      refine hlast c (Loc.mem_onOf.mpr ⟨hmode, hbank, hon, hfree⟩) fun d hd hne => ?_
      obtain ⟨hdmode, hdbank, hdon, hdfree⟩ := Loc.mem_onOf.mp hd
      exact hlatest d hdbank hdmode hdon hdfree hne

end Sys2Proof.Machine
end

section
/-!
O6 and O7. The registers that the host reads and writes, and the host link.
-/

namespace Sys2Proof.Machine

/-! ### Reads (R7, R334, R533, R536-R538) -/

theorem State.hostRead_d3hot {s : State} (h : s.pwr.d3hot = true) (bar : Bar) (ofs : Nat) : s.hostRead bar ofs = s.answer [0] := by
  simp [State.hostRead, h]

/-- A read through BAR0 outside the register bus and the registers that latch. -/
theorem State.hostRead_plain {s : State} {ofs : Nat} (h : s.pwr.d3hot = false) (haligned : ofs % 4 = 0)
    (hbus : ofs < 0x10000 ∨ 0x50000 ≤ ofs) (hlatch : ofs ≠ 0x70000 ∧ ofs ≠ 0x1F00 ∧ ofs ≠ 0x70008) :
    s.hostRead .bar0 ofs = (s.bar0Clear ofs).answer [s.bar0Word ofs] := by
  obtain ⟨hnow, hnowMap, hbase⟩ := hlatch
  have hlck : ¬ (0x20000 ≤ ofs ∧ ofs < 0x20100) := by omega
  have hmbx : ¬ (0x10000 ≤ ofs ∧ ofs < 0x10800 ∧ 0x40 ≤ ofs % 0x100 ∧ ofs % 0x100 < 0x80) := by omega
  have hcrc : ¬ (0x40000 ≤ ofs ∧ ofs < 0x40400 ∧ ofs % 0x40 = 0x10) := by omega
  have hdrain : ¬ (0x40000 ≤ ofs ∧ ofs < 0x50000) := by omega
  have honBus : onBus ofs = false := by
    simp only [onBus, Bool.and_eq_false_iff, decide_eq_false_iff_not]
    omega
  simp [State.hostRead, State.hostRead0, State.plainRead, h, haligned, hlck, hmbx, hcrc, hdrain, honBus, hnow, hnowMap, hbase]

/-- A read of LOG_LOST clears its counts. -/
theorem State.bar0_logLost (s : State) :
    s.bar0Clear 0x0B0014 = { s with log := { s.log with lostA := 0, lostE := 0 } } ∧ s.bar0Word 0x0B0014 = s.log.reg32 0x14 := by
  simp [State.bar0Clear, State.clearLog, State.bar0Word]

/-- A read of NET_LATE clears its counts. -/
theorem State.bar0_netLate (s : State) :
    s.bar0Clear 0x050048 = { s with net := { s.net with late := 0, mismatch := 0 } } ∧ s.bar0Word 0x050048 = s.netReg 0x48 := by
  simp [State.bar0Clear, State.clearNet, State.bar0Word]

/-- A read of MOD_RRQ clears its counts. -/
theorem State.bar0_modRrq (s : State) :
    s.bar0Clear 0x00002C = { s with rrq := { s.rrq with ignored := 0, accept := 0, short := 0 } } ∧
      s.bar0Word 0x00002C = s.modReg 0x2C := by
  simp [State.bar0Clear, State.clearMod, State.bar0Word]

/-- A read through BAR0 that clears read-clear fields, by what it clears and what it returns. -/
theorem rcRead_plain {s t : State} {ofs : BitVec 24} {n : Nat} {w : Word} (hofs : ofs.toNat = n) (h : s.pwr.d3hot = false)
    (haligned : n % 4 = 0) (hbus : n < 0x10000 ∨ 0x50000 ≤ n) (hlatch : n ≠ 0x70000 ∧ n ≠ 0x1F00 ∧ n ≠ 0x70008)
    (hread : s.bar0Clear n = t ∧ s.bar0Word n = w) : exec (.rcRead .bar0 ofs) s = .next (t.answer [w]) := by
  subst hofs
  obtain ⟨rfl, rfl⟩ := hread
  exact congrArg Host.Outcome.next (State.hostRead_plain h haligned hbus hlatch)

/-- Settles O6. -/
theorem hostReadsAnswerAndLatch : Obligations.HostReadsAnswerAndLatch := by
  unfold Obligations.HostReadsAnswerAndLatch
  refine ⟨fun s => ⟨fun hd0 => ⟨?_, ?_⟩, fun hd3 => ⟨?_, ?_⟩⟩, fun s => ⟨fun hd0 => ⟨?_, ?_, ?_⟩, fun hd3 bar ofs => ?_⟩,
    fun s ofs n hd0 haligned hn hfits hlow hhigh => ?_, fun s ofs n hout => ?_⟩
  · simp [exec, execTimNowLoRead, State.timNowLo, hd0, State.answer]
  · simp [exec, execTimTbaseLoRead, State.timTbaseLo, hd0, State.answer]
  · simp [exec, execTimNowLoRead, State.timNowLo, hd3, State.answer]
  · simp [exec, execTimTbaseLoRead, State.timTbaseLo, hd3, State.answer]
  · exact rcRead_plain (by decide : (0x00002C#24).toNat = 0x00002C) hd0 (by decide) (by decide) (by decide) s.bar0_modRrq
  · exact rcRead_plain (by decide : (0x050048#24).toNat = 0x050048) hd0 (by decide) (by decide) (by decide) s.bar0_netLate
  · exact rcRead_plain (by decide : (0x0B0014#24).toNat = 0x0B0014) hd0 (by decide) (by decide) (by decide) s.bar0_logLost
  · exact congrArg Host.Outcome.next (State.hostRead_d3hot hd3 bar ofs.toNat)
  · simp [exec, execMirrorRead, hd0, haligned, hn, hfits, inMirror, hlow, hhigh, State.answer]
  · have hfits : (decide (ofs.toNat % 64 + 4 * n.val ≤ 64) && inMirror ofs.toNat) = false := by
      simp only [inMirror, Bool.and_eq_false_iff, decide_eq_false_iff_not]
      omega
    simp [exec, execMirrorRead, Bool.and_assoc, hfits, State.answer]

/-! ### Writes and the link (R449, R452, R464, R528-R535, R548) -/

theorem State.raiseVec_of_unmasked {s : State} {v : Nat} (h : s.host.msixMask.getLsbD v = false) :
    s.raiseVec v = { s with host := { s.host with raised := s.host.raised ++ [v] } } := by
  simp [State.raiseVec, h]

theorem State.dmaEnds_of_unmasked {s : State} (h : s.host.msixMask.getLsbD 18 = false) (err : Bool) :
    s.dmaEnds err = { s with
      upd := { s.upd with dmaBusy := false, dmaErr := err, dmaLeft := 0 }
      host := { s.host with raised := s.host.raised ++ [18] } } :=
  State.raiseVec_of_unmasked h

theorem State.hostWrite_bar0 {s : State} (h : s.pwr.d3hot = false) {ofs : Nat} (haligned : ofs % 4 = 0) (val : Word) :
    s.hostWrite .bar0 ofs val = s.hostWrite0 ofs val := by
  simp [State.hostWrite, h, haligned]

/-- A field of a byte that may not be 0. -/
theorem clampTo_byte (val : Word) :
    BitVec.ofNat 8 (clampTo 1 255 (val.toNat % 256)) = if val.setWidth 8 = 0#8 then 1#8 else val.setWidth 8 := by
  have hlow : (val.setWidth 8).toNat = val.toNat % 256 := BitVec.toNat_setWidth 8 val
  have hzero : val.setWidth 8 = 0#8 ↔ val.toNat % 256 = 0 := by rw [← hlow, BitVec.toNat_eq]; simp
  by_cases h : val.toNat % 256 = 0
  · rw [if_pos (hzero.mpr h), h]
    decide
  · rw [if_neg (hzero.not.mpr h)]
    apply BitVec.eq_of_toNat_eq
    have hid : clampTo 1 255 (val.toNat % 256) = val.toNat % 256 := by
      unfold clampTo
      rw [if_neg (by omega), if_neg (by omega)]
    rw [hid, hlow, BitVec.toNat_ofNat, Nat.mod_mod]

/-- A write of LOG_RING_CTL. -/
theorem State.hostWrite0_ringCtl (s : State) (val : Word) :
    s.hostWrite0 0x0B011C val = { s with log := { s.log with irqEn := val.getLsbD 1, en := val.getLsbD 0 } } := by
  simp [State.hostWrite0, State.writeLog]

/-- Class code and Revision ID fill the word at 0x008. -/
theorem cfgWord_classRev {w rev : Word} (hhigh : w.extractLsb' 8 24 = 0x088000#24) (hlow : w.setWidth 8 = rev.setWidth 8) :
    fields32 [(8, 0x088000), (0, (rev.setWidth 8).toNat)] = w := by
  have hclass : w.toNat / 256 % 2 ^ 24 = 0x088000 := by
    have := congrArg BitVec.toNat hhigh
    rwa [BitVec.extractLsb'_toNat, Nat.shiftRight_eq_div_pow] at this
  have hrev : w.toNat % 256 = (rev.setWidth 8).toNat := by rw [← hlow, BitVec.toNat_setWidth]
  have hw := w.isLt
  apply BitVec.eq_of_toNat_eq
  simp only [fields32, List.foldl, BitVec.toNat_ofNat, ← hrev]
  omega

/-- Settles O7. -/
theorem hostWritesAndItsLink : Obligations.HostWritesAndItsLink := by
  unfold Obligations.HostWritesAndItsLink
  refine ⟨⟨fun s val hd0 => ⟨?_, ?_, ?_, ?_, ?_⟩, fun s bar ofs val hd3 => ?_⟩, fun s => ⟨fun hidle hdom hmaster => ?_,
    fun hbusy hvec => ⟨?_, fun err hend => ?_⟩, rfl, rfl, fun on hon => ?_, fun ofs w hw => ?_⟩⟩
  · exact congrArg Host.Outcome.next ((State.hostWrite_bar0 hd0 (by decide) val).trans (by rw [← clampTo_byte]; rfl))
  · exact congrArg Host.Outcome.next (State.hostWrite_bar0 hd0 (by decide) val)
  · exact congrArg Host.Outcome.next ((State.hostWrite_bar0 hd0 (by decide) val).trans (s.hostWrite0_ringCtl val))
  · exact congrArg Host.Outcome.next (State.hostWrite_bar0 hd0 (by decide) val)
  · exact congrArg Host.Outcome.next (State.hostWrite_bar0 hd0 (by decide) val)
  · simp [exec, execHostRegisterWrite, State.hostWrite, hd3]
  · simp [exec, execUpdDmaGo, State.dmaGo, hidle, hdom, hmaster]
  · simp [exec, execUpdDmaAbort, State.dmaAbort, hbusy, State.dmaEnds_of_unmasked hvec]
  · have hends : (s.upd.dmaBusy && (err || s.upd.dmaLeft = 0)) = true := by simp [hbusy, hend]
    simp only [exec, execUpdDmaEnd]
    rw [if_pos hends, State.dmaEnds_of_unmasked hvec]
  · simp only [exec, execConfigurationRequest]
    rw [if_neg]
    rcases hon with rfl | hidle <;> simp [*]
  · have hword : s.cfgWord ofs = some w := by
      rcases hw with ⟨rfl, rfl⟩ | ⟨rfl, hhigh, hlow⟩ | ⟨rfl | rfl, rfl⟩
      · rfl
      · exact congrArg some (cfgWord_classRev hhigh hlow)
      · rfl
      · rfl
    simp [exec, execConfigurationRequest, hword]

end Sys2Proof.Machine
end

section
/-!
SUPPORT and O12. How a lane leaves service, and what the limits of the tick do to it.
-/

namespace Sys2Proof.Machine

/-! ### Lanes that leave service (R202-R206, R240) -/

/-- A lane that has left service for `cause`. -/
def LaneSt.left (x : LaneSt) (cause : BitVec 4) : LaneSt :=
  { x with
    svc := if cause == 0xA then .withdrawn else .out
    lastCause := cause
    exitCnt := satInc 255 x.exitCnt
    regionOk := false
    voted := false
    copyReq := cause != 0xA
    held := []
    check := if cause == 0xA then x.check else { x.check with injLock := true }
    wdog := if cause == 0xA then x.wdog.disarm else { x.wdog with armed := true } }

/-- The cause counts toward the exits that disable a lane (R205). -/
def countsAsBad (cause : BitVec 4) : Bool := cause == 2 || cause == 6 || cause == 7

theorem State.exitLane_of_not_inService {s : State} {l : Lane} (h : (s.lane l).svc ≠ .inService) (cause : BitVec 4) :
    s.exitLane l cause = s := by
  simp [State.exitLane, h]

theorem State.exitLane_of_inService {s : State} {l : Lane} {cause : BitVec 4} (h : (s.lane l).svc = .inService)
    (hcause : countsAsBad cause = false) :
    s.exitLane l cause =
      if cause == 1 && (s.lane l).runsNew then ((s.setLane l ((s.lane l).left cause)).alarmLane 0xB0 l [cause.setWidth 8]).trialFailed
      else (s.setLane l ((s.lane l).left cause)).alarmLane 0xB0 l [cause.setWidth 8] := by
  have hbad : (cause == 2 || cause == 6 || cause == 7) = false := hcause
  unfold State.exitLane
  simp only [hbad, h, bne_self_eq_false, Bool.false_eq_true, if_false, Bool.false_or, Bool.false_and]
  rfl

/-- A lane leaves service for a cause that disables none. -/
theorem State.exitLane_calm {s : State} {l : Lane} {cause : BitVec 4} (h : (s.lane l).svc = .inService)
    (hcause : countsAsBad cause = false) :
    (s.exitLane l cause).lanes = s.lanes.set l ((s.lane l).left cause) ∧ (s.exitLane l cause).fld = s.fld ∧
      (s.exitLane l cause).pwr = s.pwr := by
  rw [State.exitLane_of_inService h hcause]
  split <;> simp [State.setLane]

/-- No lane but `l` differs. -/
def OnlyLane (l : Lane) (s t : State) : Prop := ∀ m : Lane, m ≠ l → t.lane m = s.lane m

theorem OnlyLane.of_lanes {s t : State} (h : t.lanes = s.lanes) (l : Lane) : OnlyLane l s t := fun m _ => lane_of_lanes h m

theorem OnlyLane.trans {l : Lane} {s t u : State} (hst : OnlyLane l s t) (htu : OnlyLane l t u) : OnlyLane l s u :=
  fun m hm => (htu m hm).trans (hst m hm)

theorem OnlyLane.of_eq {l : Lane} {s t u : State} (h : OnlyLane l s t) (hu : u.lanes = t.lanes) : OnlyLane l s u :=
  h.trans (.of_lanes hu l)

theorem OnlyLane.setLane (s : State) (l : Lane) (x : LaneSt) : OnlyLane l s (s.setLane l x) :=
  fun m hm => s.lane_setLane_ne l m x hm

theorem OnlyLane.modLaneSt (s : State) (l : Lane) (f : LaneSt → LaneSt) : OnlyLane l s (s.modLaneSt l f) :=
  fun m hm => s.lane_modLaneSt_ne l m f hm

theorem OnlyLane.restartOld (s : State) (l : Lane) : OnlyLane l s (s.restartOld l) := by
  unfold State.restartOld
  split
  · exact .of_lanes rfl l
  · extract_lets s1 rest _ s2 s3
    have hs1 : OnlyLane l s s1 := .modLaneSt s l _
    split
    · exact hs1.of_eq (by simp [s3, s2])
    · exact hs1

theorem OnlyLane.takeTrial (s : State) (l : Lane) : OnlyLane l s (s.takeTrial l) := by
  unfold State.takeTrial
  split
  · exact .of_lanes rfl l
  · extract_lets s1
    split
    · exact .modLaneSt _ l _
    · exact .of_lanes rfl l

theorem OnlyLane.disableLane (s : State) (l : Lane) : OnlyLane l s (s.disableLane l) := by
  unfold State.disableLane
  extract_lets s1 _ _ s2
  have hs1 : OnlyLane l s s1 := .modLaneSt s l _
  exact (hs1.of_eq (t := s1) (u := s2) rfl).trans (.restartOld s2 l)

theorem OnlyLane.exitLane (s : State) (l : Lane) (cause : BitVec 4) : OnlyLane l s (s.exitLane l cause) := by
  unfold State.exitLane
  extract_lets x bad times _ _ s1 s0 s2
  have hs1 : OnlyLane l s s1 := .setLane s l _
  have hs2 : OnlyLane l s s2 := by
    dsimp only [s2]
    split
    · exact hs1.of_eq (by simp [s0])
    · exact hs1.of_eq (by simp [s0])
  split
  · exact .of_lanes rfl l
  · split
    · exact (hs2.trans (.disableLane s2 l)).of_eq (by simp)
    · exact hs2

/-- Lane `l` is out of the vote. -/
def State.unvoted (s : State) (l : Lane) : State :=
  { s with ms := { s.ms with voting := s.ms.voting &&& ~~~(maskOf fun m => m == l) } }

/-- A lane that has failed the tick: its gate discards what it holds. -/
def LaneSt.missed (x : LaneSt) : LaneSt := { x with failedTick := true, held := [] }

/-- Lane `l` has failed the tick and left service; the vote is as it was. -/
def State.failed (s : State) (l : Lane) (cause : BitVec 4) : State :=
  ((s.modLaneSt l LaneSt.missed).unseal l).exitLane l cause

theorem State.failLane_eq (s : State) (l : Lane) (cause : BitVec 4) :
    s.failLane l cause =
      if l.inMask s.ms.voting then
        if s.ms.mode == .run || s.ms.mode == .run2 then ((s.failed l cause).unvoted l).modeByVote 0x01
        else (s.failed l cause).unvoted l
      else s.failed l cause := by
  have hmode : (s.failed l cause).ms.mode = s.ms.mode := by simp [State.failed]
  rw [← hmode]
  rfl

theorem OnlyLane.failLane (s : State) (l : Lane) (cause : BitVec 4) : OnlyLane l s (s.failLane l cause) := by
  have hfailed : OnlyLane l s (s.failed l cause) := fun m hm =>
    (OnlyLane.exitLane _ l cause m hm).trans ((lane_of_lanes (by simp) m).trans (s.lane_modLaneSt_ne l m LaneSt.missed hm))
  rw [State.failLane_eq]
  split
  · split
    · exact hfailed.of_eq (by simp [State.unvoted])
    · exact hfailed
  · exact hfailed

/-! ### The vote and the mode that follows it (R42) -/

theorem State.setMode_ms (s : State) (m : Mode) :
    (s.setMode m).ms = if s.ms.mode = m then s.ms else { s.ms with mode := m, run2Since := if m == .run2 then some s.nowNs else none } := by
  unfold State.setMode
  by_cases h : s.ms.mode = m
  · simp [h]
  · simp only [h, beq_iff_eq, if_false]
    split <;> simp

/-- A mode of service, with the rest of the tick's state. -/
def ModeSt.inMode (x : ModeSt) (m : Mode) (since : Option Nat) : ModeSt := { x with mode := m, run2Since := since }

theorem State.setMode_inMode (s : State) (m : Mode) : ∃ since, (s.setMode m).ms = s.ms.inMode m since := by
  rw [State.setMode_ms]
  split
  next h => exact ⟨s.ms.run2Since, by rw [← h]; rfl⟩
  next => exact ⟨_, rfl⟩

theorem ModeSt.inMode_inMode (x : ModeSt) (m n : Mode) (a b : Option Nat) : (x.inMode m a).inMode n b = x.inMode n b := rfl

theorem State.setLatch_inMode (s : State) (cause : Byte) : ∃ m since, (s.setLatch cause).ms = s.ms.inMode m since := by
  unfold State.setLatch
  split
  · exact ⟨s.ms.mode, s.ms.run2Since, rfl⟩
  · extract_lets _ s1 s2 s3
    have hs3 : s3.ms = s.ms := by
      dsimp only [s3]
      split <;> simp [s2, s1]
    split
    · obtain ⟨since, h⟩ := s3.setMode_inMode .lockout
      exact ⟨.lockout, since, by rw [h, hs3]⟩
    · exact ⟨s.ms.mode, s.ms.run2Since, hs3⟩

/-- The mode that the vote gives changes nothing else of the tick's state. -/
theorem State.modeByVote_inMode (s : State) (cause : Byte) : ∃ m since, (s.modeByVote cause).ms = s.ms.inMode m since := by
  have hset (u : State) (m : Mode) : ∃ n since, (u.setMode m).ms = u.ms.inMode n since := ⟨m, u.setMode_inMode m⟩
  unfold State.modeByVote
  split
  · exact hset s _
  · extract_lets n
    split
    · exact hset s _
    · split
      · exact hset s _
      · obtain ⟨m, since, h⟩ := s.setLatch_inMode cause
        obtain ⟨n', since', h'⟩ := hset (s.setLatch cause) .lockout
        exact ⟨n', since', by rw [h', h, ModeSt.inMode_inMode]⟩

/-- With two votes and the latch clear, the mode is RUN-2 and nothing is latched. -/
theorem State.modeByVote_of_two {s : State} (hlatch : s.aon.latch = false) (htwo : countMask s.ms.voting = 2) (cause : Byte) :
    s.modeByVote cause = s.setMode .run2 := by
  simp [State.modeByVote, hlatch, htwo]

theorem inMask_without (m : BitVec 3) (l k : Lane) :
    k.inMask (m &&& ~~~(maskOf fun j => j == l)) = (k.inMask m && decide (k ≠ l)) := by
  cases l <;> cases k <;> simp [Lane.inMask, Lane.idx, maskOf]

/-- The tick fails for lane `l` in service, for a cause that disables none. -/
theorem State.failed_calm {s : State} {l : Lane} {cause : BitVec 4} (h : (s.lane l).svc = .inService)
    (hcause : countsAsBad cause = false) :
    (s.failed l cause).lane l = ({ s.lane l with failedTick := true } : LaneSt).left cause ∧ (s.failed l cause).fld = s.fld ∧
      (s.failed l cause).buf = (s.unseal l).buf ∧ (s.failed l cause).ms = s.ms ∧ (s.failed l cause).aon = s.aon := by
  set u := (s.modLaneSt l LaneSt.missed).unseal l with hu
  have hlane : u.lane l = (s.lane l).missed :=
    (lane_of_lanes (t := u) (by simp [hu]) l).trans (s.lane_modLaneSt_self l LaneSt.missed)
  obtain ⟨hlanes, hfld, -⟩ := State.exitLane_calm (s := u) (by rw [hlane]; exact h) hcause
  refine ⟨?_, ?_, ?_, by simp [State.failed], by simp [State.failed]⟩
  · have hself : (u.exitLane l cause).lane l = (u.lane l).left cause := by simp [State.lane, hlanes]
    exact hself.trans (by rw [hlane]; rfl)
  · exact hfld.trans (by simp [hu])
  · exact (u.exitLane_frame l cause).2.2.2.2.2.2.2.2.2.2.1.trans (by simp [hu, State.unseal])

theorem State.failed_ms (s : State) (l : Lane) (cause : BitVec 4) : (s.failed l cause).ms = s.ms := by simp [State.failed]

/-- A lane that fails the tick loses its vote, and no other does. -/
theorem State.failLane_voting (s : State) (l : Lane) (cause : BitVec 4) (m : Lane) :
    m.inMask (s.failLane l cause).ms.voting = (m.inMask s.ms.voting && decide (m ≠ l)) := by
  have hout : m.inMask ((s.failed l cause).unvoted l).ms.voting = (m.inMask s.ms.voting && decide (m ≠ l)) := by
    simp only [State.unvoted, State.failed_ms]
    exact inMask_without s.ms.voting l m
  rw [State.failLane_eq]
  split
  · split
    · obtain ⟨mode, since, hms⟩ := ((s.failed l cause).unvoted l).modeByVote_inMode 0x01
      rw [hms]
      exact hout
    · exact hout
  next hnot =>
    rw [State.failed_ms]
    by_cases hm : m = l
    · subst hm
      simpa using hnot
    · simp [hm]

theorem countMask_without (l : Lane) : countMask (7#3 &&& ~~~(maskOf fun j => j == l)) = 2 := by
  cases l <;> rfl

/-- From RUN with three votes the module goes on in RUN-2. -/
theorem State.failLane_of_three {s : State} (hmode : s.ms.mode = .run) (hthree : s.ms.voting = 7#3) (hlatch : s.aon.latch = false)
    (l : Lane) (cause : BitVec 4) : s.failLane l cause = ((s.failed l cause).unvoted l).setMode .run2 := by
  have hvoted : l.inMask s.ms.voting = true := by rw [hthree]; cases l <;> rfl
  rw [State.failLane_eq, if_pos hvoted, hmode, if_pos (by decide)]
  refine State.modeByVote_of_two ?_ ?_ _
  · simpa [State.unvoted, State.failed] using hlatch
  · simp only [State.unvoted, State.failed_ms, hthree]
    exact countMask_without l

/-- What a failed tick leaves of the lane, its gate and its frames. -/
theorem State.failLane_calm {s : State} {l : Lane} {cause : BitVec 4} (h : (s.lane l).svc = .inService)
    (hcause : countsAsBad cause = false) :
    (s.failLane l cause).lane l = ({ s.lane l with failedTick := true } : LaneSt).left cause ∧
      (s.failLane l cause).fld = s.fld ∧ (s.failLane l cause).buf = (s.unseal l).buf := by
  obtain ⟨hlane, hfld, hbuf, -, -⟩ := State.failed_calm h hcause
  rw [State.failLane_eq]
  split
  · split
    · refine ⟨(lane_of_lanes (by simp [State.unvoted]) l).trans hlane, ?_, ?_⟩
      · simpa [State.unvoted] using hfld
      · simpa [State.unvoted] using hbuf
    · exact ⟨hlane, hfld, hbuf⟩
  · exact ⟨hlane, hfld, hbuf⟩

/-- What a lane sealed in the tick does not go out. -/
theorem State.unseal_copies (s : State) (l : Lane) : ∀ x ∈ (s.unseal l).buf.tx, x.tick = s.ms.tick → x.copies.get l = none := by
  intro x hx htick
  simp only [State.unseal, List.mem_map] at hx
  obtain ⟨y, -, rfl⟩ := hx
  by_cases h : y.tick = s.ms.tick
  · simp [h]
  · simp [h] at htick


/-! ### Limits of the tick (R32, R184, R202, R217) -/

theorem State.failLane_fld {cause : BitVec 4} (hcause : countsAsBad cause = false) (s : State) (l : Lane) :
    (s.failLane l cause).fld = s.fld := by
  have hfailed : (s.failed l cause).fld = s.fld := by
    by_cases h : (s.lane l).svc = .inService
    · exact (State.failed_calm h hcause).2.1
    · unfold State.failed
      rw [State.exitLane_of_not_inService]
      · simp
      · exact ne_of_eq_of_ne (congrArg LaneSt.svc ((lane_of_lanes (by simp) l).trans (s.lane_modLaneSt_self l LaneSt.missed))) h
  rw [State.failLane_eq]
  split
  · split
    · simpa [State.unvoted] using hfailed
    · exact hfailed
  · exact hfailed

/-- The lanes `ls` fail the tick one after the other. -/
def State.failLanes (s : State) (ls : List Lane) (cause : BitVec 4) : State := ls.foldl (fun t m => t.failLane m cause) s

theorem State.failLanes_lane_ne (cause : BitVec 4) {ls : List Lane} {l : Lane} (h : l ∉ ls) (s : State) :
    (s.failLanes ls cause).lane l = s.lane l := by
  induction ls generalizing s with
  | nil => rfl
  | cons m rest ih =>
    simp only [List.mem_cons, not_or] at h
    exact (ih h.2 _).trans (OnlyLane.failLane s m cause l h.1)

theorem State.failLanes_lane {cause : BitVec 4} (hcause : countsAsBad cause = false) {ls : List Lane} (hls : ls.Nodup) {l : Lane}
    (hl : l ∈ ls) {s : State} (h : (s.lane l).svc = .inService) :
    (s.failLanes ls cause).lane l = ({ s.lane l with failedTick := true } : LaneSt).left cause := by
  induction ls generalizing s with
  | nil => simp at hl
  | cons m rest ih =>
    obtain ⟨hm, hrest⟩ := List.nodup_cons.mp hls
    by_cases hlm : l = m
    · subst hlm
      exact (State.failLanes_lane_ne cause hm _).trans (State.failLane_calm h hcause).1
    · have hkeep := OnlyLane.failLane s m cause l hlm
      refine (ih hrest (by simpa [hlm] using hl) (s := s.failLane m cause) (by rw [hkeep]; exact h)).trans ?_
      rw [hkeep]

theorem State.failLanes_fld {cause : BitVec 4} (hcause : countsAsBad cause = false) (s : State) (ls : List Lane) :
    (s.failLanes ls cause).fld = s.fld :=
  foldl_keeps (g := State.fld) (fun t m => State.failLane_fld hcause t m) ls s

theorem State.failLanes_frame (s : State) (ls : List Lane) (cause : BitVec 4) :
    (s.failLanes ls cause).fuses = s.fuses ∧ (s.failLanes ls cause).pending = s.pending :=
  ⟨foldl_keeps (g := State.fuses) (by simp) ls s, foldl_keeps (g := State.pending) (by simp) ls s⟩

/-- The lane's measure of a tick without reserve (R37). -/
def LaneSt.late (x : LaneSt) (tUs : Nat) : LaneSt :=
  { x with budget := { x.budget with
      winFailed := true, winBelow := true, winReserve := some 0, winT4 := max x.budget.winT4 (tUs - 50), low := true } }

theorem State.lanes_lateTick (s : State) (l : Lane) :
    (s.lateTick l).lanes = s.lanes.set l ((s.lane l).late s.ms.tUs.toNat) := by
  simp only [State.lateTick]
  split
  · rfl
  · simp [State.modLaneSt, State.setLane, LaneSt.late]

/-- Lane `l` misses the deadline D of the tick. -/
theorem commitDeadline_effect {s : State} {l : Lane} (hticks : s.inTicks = true) (hsvc : (s.lane l).svc = .inService) :
    ∃ t, exec (.commitDeadline l) s = .next t ∧
      t.lane l = { s.lane l with
        failedTick := true, svc := .out, lastCause := 1, regionOk := false, voted := false, copyReq := true, held := []
        check := { (s.lane l).check with injLock := true }, wdog := { (s.lane l).wdog with armed := true }
        budget := { (s.lane l).budget with
          winFailed := true, winBelow := true, winReserve := some 0
          winT4 := max (s.lane l).budget.winT4 (s.ms.tUs.toNat - 50), low := true }
        exitCnt := if (s.lane l).exitCnt < 255 then (s.lane l).exitCnt + 1 else 255 } ∧
      (∀ x ∈ t.buf.tx, x.tick = s.ms.tick → x.copies.get l = none) ∧
      (∀ m : Lane, m ≠ l → t.lane m = s.lane m) ∧
      (∀ m : Lane, m.inMask t.ms.voting = (m.inMask s.ms.voting && decide (m ≠ l))) ∧
      (s.ms.mode = .run → s.ms.voting = 7#3 → s.aon.latch = false → t.ms.mode = .run2) ∧
      t.fuses = s.fuses ∧ t.fld = s.fld ∧ t.sh = s.sh ∧ t.pending = s.pending := by
  have hexec : exec (.commitDeadline l) s = .next ((s.lateTick l).failLane l 1) := by
    simp [exec, execCommitDeadline, hticks, hsvc, Svc.running]
  have hlate : (s.lateTick l).lane l = (s.lane l).late s.ms.tUs.toNat := by simp [State.lane, State.lanes_lateTick]
  have hothers : OnlyLane l s (s.lateTick l) := fun m hm => by
    simp [State.lane, State.lanes_lateTick, PerLane.get_set_ne _ _ _ _ hm]
  obtain ⟨hlane, hfld, hbuf⟩ := State.failLane_calm (s := s.lateTick l) (l := l) (cause := 1) (by rw [hlate]; exact hsvc) rfl
  refine ⟨_, hexec, ?_, ?_, ?_, ?_, fun hmode hthree hlatch => ?_, by simp, hfld.trans (by simp), by simp, by simp⟩
  · rw [hlane, hlate]
    rfl
  · rw [hbuf]
    simpa using (s.lateTick l).unseal_copies l
  · exact hothers.trans (OnlyLane.failLane _ l 1)
  · intro m
    simpa using (s.lateTick l).failLane_voting l 1 m
  · rw [State.failLane_of_three (by simpa using hmode) (by simpa using hthree) (by simpa using hlatch)]
    obtain ⟨since, hms⟩ := (((s.lateTick l).failed l 1).unvoted l).setMode_inMode .run2
    rw [hms]
    rfl

theorem lanesList_nodup : lanesList.Nodup := by decide

/-- A member that has no block of any other member fails the tick (R184). -/
def State.blockless (s : State) (missing : List (Lane × Lane)) (l : Lane) : Bool :=
  l.inMask s.acting && decide (1 < countMask s.acting) && (lanesOf s.acting).all fun m => m == l || missing.contains (l, m)

theorem execP1WaitLimit_of_inTicks {s : State} (h : s.inTicks = true) (missing : List (Lane × Lane)) :
    exec (.p1WaitLimit missing) s = .next (s.failLanes (lanesList.filter (s.blockless missing)) 5) := by
  simp only [exec, execP1WaitLimit, h, if_true]
  rfl

theorem State.blockless_iff {s : State} {missing : List (Lane × Lane)} {l : Lane} :
    s.blockless missing l = true ↔ l.inMask s.acting = true ∧ 1 < countMask s.acting ∧
      ∀ m : Lane, m.inMask s.acting = true → m ≠ l → (l, m) ∈ missing := by
  simp [State.blockless, and_assoc, ← or_iff_not_imp_left]

/-- A lane in service of which no other running lane has a digest message has published none (R217). -/
def State.unheard (s : State) (missing : List (Lane × Lane)) (l : Lane) : Bool :=
  (s.lane l).svc == .inService && !((lanesOf s.running).filter fun m => m != l).isEmpty &&
    ((lanesOf s.running).filter fun m => m != l).all fun m => missing.contains (m, l)

theorem State.unheard_iff {s : State} {missing : List (Lane × Lane)} {l : Lane} :
    s.unheard missing l = true ↔ (s.lane l).svc = .inService ∧ (∃ m : Lane, m ≠ l ∧ m.inMask s.running = true) ∧
      ∀ k : Lane, k.inMask s.running = true → k ≠ l → (k, l) ∈ missing := by
  simp [State.unheard, and_assoc, List.filter_eq_nil_iff, and_comm, ← or_iff_not_imp_left]

/-- A voter without a digest message of any other voter that published one casts no vote (R202). -/
def State.unmatched (s : State) (missing : List (Lane × Lane)) (l : Lane) : Bool :=
  l.inMask s.ms.voting && !(lanesList.filter (s.unheard missing)).contains l &&
    (lanesOf s.ms.voting).all fun m => m == l || (lanesList.filter (s.unheard missing)).contains m || missing.contains (l, m)

theorem execP3WaitLimit_of_inTicks {s : State} (h : s.inTicks = true) (missing : List (Lane × Lane)) :
    exec (.p3WaitLimit missing) s =
      .next ((s.failLanes (lanesList.filter (s.unheard missing)) 1).failLanes (lanesList.filter (s.unmatched missing)) 7) := by
  simp only [exec, execP3WaitLimit, h, if_true]
  rfl

theorem mem_lanesList_filter {p : Lane → Bool} {l : Lane} : l ∈ lanesList.filter p ↔ p l = true := by simp [mem_lanesList]

theorem p1WaitLimit_effect {s : State} (missing : List (Lane × Lane)) (hticks : s.inTicks = true) :
    ∃ t, exec (.p1WaitLimit missing) s = .next t ∧
      (∀ l : Lane, (s.lane l).svc = .inService → l.inMask s.acting = true → 1 < countMask s.acting →
        (∀ m : Lane, m.inMask s.acting = true → m ≠ l → (l, m) ∈ missing) →
        (t.lane l).svc = .out ∧ (t.lane l).lastCause = 5 ∧ (t.lane l).failedTick = true ∧ (t.lane l).copyReq = true) ∧
      (∀ l m : Lane, m.inMask s.acting = true → m ≠ l → (l, m) ∉ missing → t.lane l = s.lane l) ∧
      t.fuses = s.fuses ∧ t.fld = s.fld ∧ t.pending = s.pending := by
  obtain ⟨hfuses, hpending⟩ := s.failLanes_frame (lanesList.filter (s.blockless missing)) 5
  refine ⟨_, execP1WaitLimit_of_inTicks hticks missing, fun l hsvc hl hmany hall => ?_, fun l m hm hne hhas => ?_, hfuses,
    State.failLanes_fld rfl s _, hpending⟩
  · have hmem : l ∈ lanesList.filter (s.blockless missing) :=
      mem_lanesList_filter.mpr (State.blockless_iff.mpr ⟨hl, hmany, hall⟩)
    rw [State.failLanes_lane rfl (lanesList_nodup.filter _) hmem hsvc]
    exact ⟨rfl, rfl, rfl, rfl⟩
  · refine State.failLanes_lane_ne 5 (fun hmem => ?_) s
    obtain ⟨-, -, hall⟩ := State.blockless_iff.mp (mem_lanesList_filter.mp hmem)
    exact hhas (hall m hm hne)

theorem p3WaitLimit_effect {s : State} (missing : List (Lane × Lane)) (hticks : s.inTicks = true) :
    ∃ t, exec (.p3WaitLimit missing) s = .next t ∧
      (∀ l m : Lane, (s.lane l).svc = .inService → m ≠ l → m.inMask s.running = true →
        (∀ k : Lane, k.inMask s.running = true → k ≠ l → (k, l) ∈ missing) →
        (t.lane l).svc = .out ∧ (t.lane l).lastCause = 1 ∧ (t.lane l).failedTick = true) ∧
      (∀ l m : Lane, m ≠ l → m.inMask s.running = true → m.inMask s.ms.voting = true →
        (m, l) ∉ missing → (l, m) ∉ missing →
        (∀ k : Lane, k ≠ m → k.inMask s.running = true → (k, m) ∉ missing) → t.lane l = s.lane l) ∧
      t.fuses = s.fuses ∧ t.pending = s.pending := by
  set gone := lanesList.filter (s.unheard missing) with hgone
  set u := s.failLanes gone 1
  obtain ⟨hfuses1, hpending1⟩ := s.failLanes_frame gone 1
  obtain ⟨hfuses7, hpending7⟩ := u.failLanes_frame (lanesList.filter (s.unmatched missing)) 7
  refine ⟨_, execP3WaitLimit_of_inTicks hticks missing, fun l m hsvc hne hm hall => ?_, fun l m hne hm hvote hml hlm hheard => ?_,
    hfuses7.trans hfuses1, hpending7.trans hpending1⟩
  · have hmem : l ∈ gone := mem_lanesList_filter.mpr (State.unheard_iff.mpr ⟨hsvc, ⟨m, hne, hm⟩, hall⟩)
    have hmatched : l ∉ lanesList.filter (s.unmatched missing) := fun h => by
      have hl := mem_lanesList_filter.mp h
      simp [State.unmatched, ← hgone, hmem] at hl
    rw [State.failLanes_lane_ne 7 hmatched, State.failLanes_lane rfl (lanesList_nodup.filter _) hmem hsvc]
    exact ⟨rfl, rfl, rfl⟩
  · have hl : l ∉ gone := fun h => by
      obtain ⟨-, -, hall⟩ := State.unheard_iff.mp (mem_lanesList_filter.mp h)
      exact hml (hall m hm hne)
    have hmpub : m ∉ gone := fun h => by
      obtain ⟨-, ⟨k, hk, hkr⟩, hall⟩ := State.unheard_iff.mp (mem_lanesList_filter.mp h)
      exact hheard k hk hkr (hall k hkr hk)
    have hmatched : l ∉ lanesList.filter (s.unmatched missing) := fun h => by
      have hall := mem_lanesList_filter.mp h
      simp only [State.unmatched, ← hgone, Bool.and_eq_true, List.all_eq_true] at hall
      simpa [hne, hmpub, hlm] using hall.2 m ((mem_lanesOf _ _).mpr hvote)
    rw [State.failLanes_lane_ne 7 hmatched, State.failLanes_lane_ne 1 hl]

/-- Settles O12. -/
theorem tickLimitsFailLanes : Obligations.TickLimitsFailLanes := by
  unfold Obligations.TickLimitsFailLanes
  exact ⟨fun s l hticks hsvc => commitDeadline_effect hticks hsvc, fun s missing => p1WaitLimit_effect missing,
    fun s missing => p3WaitLimit_effect missing⟩

end Sys2Proof.Machine
end

section
/-!
SUPPORT and O13. The commit gate, the windows of a lane, and what ends them.
-/

namespace Sys2Proof.Machine

/-! ### What a gate releases (R225) -/

theorem State.release_sameBut (s : State) (l : Lane) (w : GateWrite) : SameBut [.fld, .buf] s (s.release l w) := by
  refine sameBut_of _ _ _ fun p => ?_
  cases w with
  | token b =>
    simp only [State.release]
    split <;> cases p <;> simp [Part.agree]
  | service => cases p <;> simp [Part.agree, State.release]
  | descriptor stream tick copy => cases p <;> simp [Part.agree, State.release]

theorem State.release_rest (s : State) (l : Lane) (w : GateWrite) :
    (s.release l w).fld = { s.fld with ifaces := (s.release l w).fld.ifaces } ∧
    (s.release l w).buf = { s.buf with tx := (s.release l w).buf.tx } := by
  cases w with
  | token b =>
    simp only [State.release]
    split <;> exact ⟨rfl, rfl⟩
  | service => exact ⟨rfl, rfl⟩
  | descriptor stream tick copy => exact ⟨rfl, rfl⟩

/-- A token refresh of a bank with outputs issues the bank's token, and nothing else changes an interface. -/
theorem State.release_iface (s : State) (l m : Lane) (w : GateWrite) (b : Bank) :
    (s.release l w).iface m b =
      if m = l ∧ w = .token b ∧ s.bankOut b = true then { s.iface l b with issued := some (s.tokenWord l b) } else s.iface m b := by
  cases w with
  | token c =>
    have hrelease : s.release l (.token c) =
        if s.bankOut c then s.modIface l c fun i => { i with issued := some (s.tokenWord l c) } else s := rfl
    rw [hrelease]
    by_cases hout : s.bankOut c = true
    · rw [if_pos hout]
      by_cases hmc : (m, b) = (l, c)
      · obtain ⟨rfl, rfl⟩ := Prod.mk.inj hmc
        rw [if_pos ⟨rfl, rfl, hout⟩]
        exact s.iface_modIface_self m b _
      · rw [State.iface_modIface_ne s _ hmc, if_neg]
        rintro ⟨rfl, hw, -⟩
        obtain rfl := GateWrite.token.inj hw
        exact hmc rfl
    · rw [if_neg hout, if_neg]
      rintro ⟨-, hw, hb⟩
      obtain rfl := GateWrite.token.inj hw
      exact hout hb
  | service => simp [State.release]
  | descriptor stream tick copy => simp [State.release, State.iface]

/-- The transmit buffer holds lane `l`'s copy of a frame. -/
def HoldsCopy (tx : List TxFrame) (l : Lane) (stream : BitVec 12) (tick : Tick) : Prop :=
  ∃ x ∈ tx, x.stream = stream ∧ x.tick = tick ∧ (x.copies.get l).isSome = true

theorem putCopy_holds (tx : List TxFrame) (l : Lane) (stream : BitVec 12) (tick : Tick) (copy : Sealed) :
    HoldsCopy (putCopy tx l stream tick copy) l stream tick := by
  unfold putCopy
  split
  next h =>
    obtain ⟨x, hx, hkey⟩ := List.any_eq_true.mp h
    have hkeys : x.stream = stream ∧ x.tick = tick := by simpa using hkey
    exact ⟨_, List.mem_map.mpr ⟨x, hx, if_pos hkey⟩, hkeys.1, hkeys.2, by simp⟩
  · exact ⟨_, List.mem_append_right _ (List.mem_singleton.mpr rfl), rfl, rfl, by simp⟩

theorem putCopy_keeps {tx : List TxFrame} {l : Lane} {stream : BitVec 12} {tick : Tick} (h : HoldsCopy tx l stream tick)
    (stream' : BitVec 12) (tick' : Tick) (copy : Sealed) : HoldsCopy (putCopy tx l stream' tick' copy) l stream tick := by
  obtain ⟨x, hx, hstream, htick, hcopy⟩ := h
  unfold putCopy
  split
  · refine ⟨_, List.mem_map.mpr ⟨x, hx, rfl⟩, ?_⟩
    split
    · exact ⟨hstream, htick, by simp⟩
    · exact ⟨hstream, htick, hcopy⟩
  · exact ⟨x, List.mem_append_left _ hx, hstream, htick, hcopy⟩

/-! The writes of a gate one after the other. -/

def State.releaseAll (s : State) (l : Lane) (ws : List GateWrite) : State := ws.foldl (fun t w => t.release l w) s

theorem State.releaseAll_sameBut (s : State) (l : Lane) (ws : List GateWrite) : SameBut [.fld, .buf] s (s.releaseAll l ws) :=
  SameBut.foldl (fun t w => t.release_sameBut l w) ws s

theorem State.releaseAll_rest (s : State) (l : Lane) (ws : List GateWrite) :
    (s.releaseAll l ws).fld = { s.fld with ifaces := (s.releaseAll l ws).fld.ifaces } ∧
    (s.releaseAll l ws).buf = { s.buf with tx := (s.releaseAll l ws).buf.tx } := by
  induction ws generalizing s with
  | nil => exact ⟨rfl, rfl⟩
  | cons w rest ih =>
    obtain ⟨hfld, hbuf⟩ := ih (s.release l w)
    obtain ⟨hfld', hbuf'⟩ := s.release_rest l w
    refine ⟨hfld.trans ?_, hbuf.trans ?_⟩
    · rw [hfld']
      rfl
    · rw [hbuf']
      rfl

theorem State.release_tokenWord (s : State) (l : Lane) (w : GateWrite) (b : Bank) :
    (s.release l w).tokenWord l b = s.tokenWord l b ∧ (s.release l w).bankOut b = s.bankOut b := by
  simp [State.tokenWord, State.lane, State.bankOut, State.chan, State.part, State.node]

theorem State.releaseAll_iface (s : State) (l m : Lane) (ws : List GateWrite) (b : Bank) :
    (s.releaseAll l ws).iface m b =
      if m = l ∧ .token b ∈ ws ∧ s.bankOut b = true then { s.iface l b with issued := some (s.tokenWord l b) } else s.iface m b := by
  induction ws generalizing s with
  | nil => simp [State.releaseAll]
  | cons w rest ih =>
    obtain ⟨htoken, hout⟩ := s.release_tokenWord l w b
    refine (ih (s.release l w)).trans ?_
    rw [htoken, hout]
    have hself := s.release_iface l m w b
    by_cases hm : m = l
    · subst hm
      rw [hself]
      by_cases hb : s.bankOut b = true
      · by_cases hw : w = .token b
        · simp [hw, hb]
        · simp [hw, hb, eq_comm]
      · simp [hb]
    · simp [hm, hself]

theorem State.releaseAll_holds (s : State) (l : Lane) {ws : List GateWrite} {stream : BitVec 12} {tick : Tick} {copy : Sealed}
    (h : .descriptor stream tick copy ∈ ws) : HoldsCopy (s.releaseAll l ws).buf.tx l stream tick := by
  have hkeep (ws : List GateWrite) (s : State) (h : HoldsCopy s.buf.tx l stream tick) :
      HoldsCopy (s.releaseAll l ws).buf.tx l stream tick := by
    induction ws generalizing s with
    | nil => exact h
    | cons w rest ih =>
      refine ih (s.release l w) ?_
      cases w with
      | token b =>
        simp only [State.release]
        split <;> exact h
      | service => exact h
      | descriptor stream' tick' copy' => exact putCopy_keeps h stream' tick' copy'
  induction ws generalizing s with
  | nil => simp at h
  | cons w rest ih =>
    rcases List.mem_cons.mp h with rfl | hrest
    · exact hkeep rest _ (putCopy_holds s.buf.tx l stream tick copy)
    · exact ih (s.release l w) hrest

theorem State.releaseAll_buf (s : State) (l : Lane) {ws : List GateWrite}
    (h : ∀ (stream : BitVec 12) (tick : Tick) (copy : Sealed), .descriptor stream tick copy ∉ ws) :
    (s.releaseAll l ws).buf = s.buf := by
  induction ws generalizing s with
  | nil => rfl
  | cons w rest ih =>
    refine (ih (s.release l w) fun st t c hin => h st t c (List.mem_cons_of_mem _ hin)).trans ?_
    cases w with
    | token b =>
      simp only [State.release]
      split <;> rfl
    | service => rfl
    | descriptor stream tick copy => exact absurd List.mem_cons_self (h stream tick copy)

theorem GateWrite.isToken_iff {w : GateWrite} : w.isToken = true ↔ ∃ b : Bank, w = .token b := by
  cases w <;> simp [GateWrite.isToken]

theorem commitGateRelease_effect {s : State} {l : Lane} (hopen : (s.lane l).check.gateClosed = false)
    (hinj : (s.lane l).check.injMode = false) :
    ∃ t, exec (.commitGateRelease l) s = .next t ∧
      t.lane l = { s.lane l with held := [], wdog := { (s.lane l).wdog with served := (t.lane l).wdog.served } } ∧
      ((t.lane l).wdog.served = true ↔ (s.lane l).wdog.served = true ∨ (∃ b : Bank, .token b ∈ (s.lane l).held) ∨
        (.service ∈ (s.lane l).held ∧ s.aon.latch = true)) ∧
      (∀ m : Lane, m ≠ l → t.lane m = s.lane m) ∧
      (∀ b : Bank, .token b ∈ (s.lane l).held → s.bankOut b = true →
        t.iface l b = { s.iface l b with issued := some (mkToken s.ms.tick l.num (b.val + 1)
          (if s.ms.outHold then 0 else (((s.lane l).region.k.partO[0]) >>> (16 * b.val)).setWidth 16)) }) ∧
      (∀ b : Bank, .token b ∉ (s.lane l).held ∨ s.bankOut b = false → t.iface l b = s.iface l b) ∧
      (∀ (m : Lane) (b : Bank), m ≠ l → t.iface m b = s.iface m b) ∧
      t.fld = { s.fld with ifaces := t.fld.ifaces } ∧
      (∀ (stream : BitVec 12) (tick : Tick) (copy : Sealed), .descriptor stream tick copy ∈ (s.lane l).held →
        ∃ x ∈ t.buf.tx, x.stream = stream ∧ x.tick = tick ∧ (x.copies.get l).isSome = true) ∧
      t.buf = { s.buf with tx := t.buf.tx } ∧
      ((∀ (stream : BitVec 12) (tick : Tick) (copy : Sealed), .descriptor stream tick copy ∉ (s.lane l).held) → t.buf = s.buf) ∧
      SameBut [.lanes, .fld, .buf] s t := by
  set held := (s.lane l).held with hheld
  set serves := held.any (fun w => w.isToken) || (held.contains .service && s.aon.latch) with hserves
  set x : LaneSt := { s.lane l with held := [], wdog := { (s.lane l).wdog with served := (s.lane l).wdog.served || serves } } with hx
  set s1 := s.setLane l x with hs1
  have hexec : exec (.commitGateRelease l) s = .next (s1.releaseAll l held) := by
    simp only [exec, execCommitGateRelease, hopen, hinj, Bool.or_self, Bool.false_eq_true, if_false]
    rfl
  have hlanes : (s1.releaseAll l held).lanes = s1.lanes := s1.releaseAll_sameBut l held .lanes (by simp)
  have hself : (s1.releaseAll l held).lane l = x := (lane_of_lanes hlanes l).trans (s.lane_setLane_self l x)
  have htoken (b : Bank) : s1.tokenWord l b = mkToken s.ms.tick l.num (b.val + 1)
      (if s.ms.outHold then 0 else (((s.lane l).region.k.partO[0]) >>> (16 * b.val)).setWidth 16) := by
    simp only [State.tokenWord, hs1, State.lane_setLane_self, hx]
    rfl
  have hface (m : Lane) (b : Bank) := s1.releaseAll_iface l m held b
  obtain ⟨hfld, hbuf⟩ := s1.releaseAll_rest l held
  refine ⟨_, hexec, ?_, ?_, fun m hm => ?_, fun b hb hout => ?_, fun b hb => ?_, fun m b hm => ?_, hfld, fun stream tick copy hin => ?_,
    hbuf, s1.releaseAll_buf l, ?_⟩
  · rw [hself]
  · rw [hself]
    simp [hx, hserves, GateWrite.isToken_iff]
  · exact (lane_of_lanes hlanes m).trans (s.lane_setLane_ne l m x hm)
  · rw [hface, if_pos ⟨rfl, hb, hout⟩, htoken]
    rfl
  · rw [hface, if_neg]
    · rfl
    · rintro ⟨-, hin, hout⟩
      rcases hb with hb | hb
      · exact hb hin
      · exact Bool.false_ne_true (hb.symm.trans hout)
  · rw [hface, if_neg (by simp [hm])]
    rfl
  · exact s1.releaseAll_holds l hin
  · intro p hp
    have hset : p.agree s s1 := by cases p <;> simp_all [Part.agree]
    exact Part.agree_trans hset (s1.releaseAll_sameBut l held p (by simp_all))

/-! ### LANE resets (R219, R238, R405, R428, R470) -/

/-- A lane as a LANE reset leaves it. -/
def LaneSt.wiped (x : LaneSt) : LaneSt :=
  { x with
    svc := if x.svc == .disabled then .disabled else .reset
    check := .reset
    held := []
    region := { Carried.reset with k := Carried.reset.k }
    regionOk := false
    voted := false
    copyReq := false
    wdog := x.wdog.disarm
    lp := .l0
    msgs := []
    ceWin := 0
    scrubPrev := []
    sram := []
    cas := []
    pairs := .replicate 2 .reset
    cycle := 0
    exSeq := .replicate 6 0
    katDue := true }

/-- What a LANE reset does before it takes up the update's work for the lane. -/
theorem State.laneReset_core (s : State) (l : Lane) :
    ∃ u : State, s.laneReset l = (u.restartOld l).takeTrial l ∧ u.lanes = s.lanes.set l (s.lane l).wiped ∧
      u.fld = (s.resetIfaces l).fld ∧ u.crc = (s.resetLaneCrc l).crc ∧ u.sh = (s.orphanLocks (BitVec.ofNat 4 l.num)).sh ∧
      u.aon = { s.aon with laneSeen := u.aon.laneSeen } ∧ u.mail.toRead = s.mail.toRead := by
  unfold State.laneReset
  extract_lets x _ y s1 s2 _ _ s3 _ s4 _ s5
  have hs4 : s4.lanes = s3.lanes ∧ s4.fld = s3.fld ∧ s4.crc = s3.crc ∧ s4.sh = s3.sh ∧ s4.aon = s3.aon ∧ s4.mail = s3.mail := by
    dsimp only [s4]
    split <;> simp
  have hs5 : s5.lanes = s4.lanes ∧ s5.fld = s4.fld ∧ s5.crc = s4.crc ∧ s5.sh = s4.sh ∧ s5.aon = s4.aon ∧ s5.mail = s4.mail := by
    dsimp only [s5]
    split <;> simp
  obtain ⟨hlanes4, hfld4, hcrc4, hsh4, haon4, hmail4⟩ := hs4
  obtain ⟨hlanes5, hfld5, hcrc5, hsh5, haon5, hmail5⟩ := hs5
  exact ⟨s5, rfl, hlanes5.trans hlanes4, hfld5.trans hfld4, hcrc5.trans hcrc4, hsh5.trans hsh4,
    by rw [haon5, haon4]; rfl, by rw [hmail5, hmail4]; rfl⟩

/-- The update's work at a lane's reset changes nothing of the lane but which image it runs. -/
theorem State.restartOld_lane (s : State) (l : Lane) :
    ∃ b n, (s.restartOld l).lane l = { s.lane l with runsNew := b, trialCnt := n } := by
  unfold State.restartOld
  split
  · exact ⟨(s.lane l).runsNew, (s.lane l).trialCnt, rfl⟩
  · extract_lets s1 rest _ s2 s3
    have hs1 : s1.lane l = { s.lane l with runsNew := false, trialCnt := 0 } := s.lane_modLaneSt_self l _
    refine ⟨false, 0, ?_⟩
    split
    · exact (lane_of_lanes (by simp [s3, s2]) l).trans hs1
    · exact hs1

theorem State.takeTrial_lane (s : State) (l : Lane) :
    ∃ b n, (s.takeTrial l).lane l = { s.lane l with runsNew := b, trialCnt := n } := by
  unfold State.takeTrial
  split
  · exact ⟨(s.lane l).runsNew, (s.lane l).trialCnt, rfl⟩
  · extract_lets s1
    split
    · exact ⟨true, 0, State.lane_modLaneSt_self _ l _⟩
    · exact ⟨(s.lane l).runsNew, (s.lane l).trialCnt, rfl⟩

theorem State.laneReset_lane (s : State) (l : Lane) :
    ∃ b n, (s.laneReset l).lane l = { (s.lane l).wiped with runsNew := b, trialCnt := n } := by
  obtain ⟨u, hreset, hlanes, -⟩ := s.laneReset_core l
  obtain ⟨b, n, hold⟩ := u.restartOld_lane l
  obtain ⟨b', n', htake⟩ := (u.restartOld l).takeTrial_lane l
  have hu : u.lane l = (s.lane l).wiped := by simp [State.lane, hlanes]
  exact ⟨b', n', by rw [hreset, htake, hold, hu]⟩

theorem OnlyLane.laneReset (s : State) (l : Lane) : OnlyLane l s (s.laneReset l) := by
  obtain ⟨u, hreset, hlanes, -⟩ := s.laneReset_core l
  have hu : OnlyLane l s u := fun m hm => by simp [State.lane, hlanes, PerLane.get_set_ne _ _ _ _ hm]
  rw [hreset]
  exact (hu.trans (.restartOld u l)).trans (.takeTrial _ l)

/-- What a LANE reset leaves outside the lanes. -/
theorem State.laneReset_rest (s : State) (l : Lane) :
    (s.laneReset l).fld = (s.resetIfaces l).fld ∧ (s.laneReset l).crc = (s.resetLaneCrc l).crc ∧
      (s.laneReset l).sh = (s.orphanLocks (BitVec.ofNat 4 l.num)).sh ∧
      (s.laneReset l).aon = { s.aon with laneSeen := (s.laneReset l).aon.laneSeen } ∧
      (s.laneReset l).mail.toRead = s.mail.toRead := by
  obtain ⟨u, hreset, -, hfld, hcrc, hsh, haon, hread⟩ := s.laneReset_core l
  rw [hreset]
  refine ⟨by simpa using hfld, by simpa using hcrc, by simpa using hsh, by simpa using haon, by simpa using hread⟩

theorem State.disableLane_lane (s : State) (l : Lane) :
    ∃ b n, (s.disableLane l).lane l = { s.lane l with
      svc := .disabled, copyReq := false, held := [], regionOk := false, wdog := (s.lane l).wdog.disarm
      runsNew := b, trialCnt := n } := by
  unfold State.disableLane
  extract_lets s1 _ _ s2
  obtain ⟨b, n, hold⟩ := s2.restartOld_lane l
  have hs2 : s2.lane l = _ := (lane_of_lanes (s := s1) rfl l).trans (s.lane_modLaneSt_self l _)
  exact ⟨b, n, by rw [hold, hs2]⟩

/-! ### Lane-check faults (R225-R227, R275) -/

/-- A lane after a reset by its lane check. -/
def CheckedOut (x y : LaneSt) : Prop :=
  (y.svc = .reset ∨ y.svc = .disabled) ∧ y.lastCause = x.lastCause ∧ y.held = [] ∧ y.region = Carried.reset ∧
    y.wdog.armed = false ∧ y.exitCnt = x.exitCnt

theorem State.checkReset_lane (s : State) (l : Lane) : CheckedOut (s.lane l) ((s.checkReset l).lane l) := by
  unfold State.checkReset
  extract_lets times s1 s2
  have hs1 : (s1.lane l).lastCause = (s.lane l).lastCause ∧ (s1.lane l).exitCnt = (s.lane l).exitCnt := by
    have h : s1.lane l = _ := s.lane_modLaneSt_self l _
    rw [h]
    exact ⟨rfl, rfl⟩
  obtain ⟨b, n, hreset⟩ := s1.laneReset_lane l
  have hs2 : CheckedOut (s.lane l) (s2.lane l) := by
    have hs2 : s2.lane l = _ := hreset
    rw [hs2]
    refine ⟨?_, hs1.1, rfl, rfl, rfl, hs1.2⟩
    by_cases hdis : (s1.lane l).svc = .disabled
    · exact .inr (if_pos (by simp [hdis]))
    · exact .inl (if_neg (by simp [hdis]))
  split
  · obtain ⟨b', n', hdisable⟩ := s2.disableLane_lane l
    obtain ⟨-, hcause, -, hregion, -, hexit⟩ := hs2
    have halarm : ((s2.disableLane l).alarmLane 0xB4 l []).lane l = (s2.disableLane l).lane l := lane_of_lanes (by simp) l
    rw [halarm, hdisable]
    exact ⟨.inr rfl, hcause, rfl, hregion, rfl, hexit⟩
  · exact hs2

theorem OnlyLane.checkReset (s : State) (l : Lane) : OnlyLane l s (s.checkReset l) := by
  unfold State.checkReset
  extract_lets times s1 s2
  have hs1 : OnlyLane l s s1 := .modLaneSt s l _
  have hs2 : OnlyLane l s s2 := hs1.trans (.laneReset s1 l)
  split
  · exact (hs2.trans (.disableLane s2 l)).of_eq (by simp)
  · exact hs2

theorem State.checkReset_aon (s : State) (l : Lane) :
    (s.checkReset l).aon = { s.aon with laneSeen := (s.checkReset l).aon.laneSeen } := by
  unfold State.checkReset
  extract_lets times s1 s2
  have hs2 : s2.aon = { s.aon with laneSeen := s2.aon.laneSeen } := (s1.laneReset_rest l).2.2.2.1
  split
  · simpa using hs2
  · exact hs2

/-- The fault as it is recorded, before the lane leaves the vote. -/
def State.faulted (s : State) (l : Lane) (src : BitVec 4) (diff : Option CmpDiff) : State :=
  let s1 := s.modLaneSt l (fun x => { x with
    check := { x.check with fltSrc := src, gateClosed := true, discard := satAdd 255 x.check.discard x.held.length
                            first := x.check.first.or diff }
    held := [] })
  (s1.latchFault 0x01 (src.setWidth 8) (BitVec.ofNat 8 l.num) (s1.lcbDetail l)).alarmLane 0xBA l [src.setWidth 8]

theorem State.laneFault_eq {s : State} {l : Lane} (hsvc : (s.lane l).svc ≠ .disabled) (hinj : (s.lane l).check.injMode = false)
    (src : BitVec 4) (diff : Option CmpDiff) :
    s.laneFault l src diff = ((s.faulted l src diff).failLane l 3).checkReset l := by
  have hsvc' : ((s.lane l).svc == .disabled) = false := by simpa using hsvc
  unfold State.laneFault
  simp only [hsvc', hinj, Bool.false_eq_true, if_false]
  rfl

theorem State.faulted_lane (s : State) (l : Lane) (src : BitVec 4) (diff : Option CmpDiff) :
    ((s.faulted l src diff).lane l).svc = (s.lane l).svc ∧ ((s.faulted l src diff).lane l).exitCnt = (s.lane l).exitCnt ∧
      OnlyLane l s (s.faulted l src diff) ∧ (s.faulted l src diff).ms = s.ms := by
  unfold State.faulted
  extract_lets s1
  have hlane : s1.lane l = _ := s.lane_modLaneSt_self l _
  have hkeep : ((s1.latchFault 0x01 (src.setWidth 8) (BitVec.ofNat 8 l.num) (s1.lcbDetail l)).alarmLane 0xBA l
      [src.setWidth 8]).lanes = s1.lanes := by simp
  rw [lane_of_lanes hkeep l, hlane]
  exact ⟨rfl, rfl, (OnlyLane.modLaneSt s l _).of_eq hkeep, by simp [s1]⟩

theorem State.faulted_aon (s : State) (l : Lane) (src : BitVec 4) (diff : Option CmpDiff) :
    ∃ r, (s.faulted l src diff).aon = { s.aon with faultRec := some r } ∧ r.src = 1 ∧ r.code = src.setWidth 8 ∧
      r.lane = BitVec.ofNat 8 l.num ∧ r.time = s.aon.timeNs ∧ r.tick = s.ms.tick := by
  unfold State.faulted
  extract_lets s1
  rw [(State.alarmLane_frame _ 0xBA l [src.setWidth 8]).2.2.2.2.2.2.1]
  exact ⟨_, rfl, rfl, rfl, rfl, rfl, rfl⟩

/-- With two votes left, the mode that follows latches nothing. -/
theorem State.modeByVote_aon_of_two {s : State} (htwo : countMask s.ms.voting = 2) (cause : Byte) :
    (s.modeByVote cause).aon = s.aon := by
  by_cases hlatch : s.aon.latch = true
  · simp [State.modeByVote, hlatch]
  · rw [State.modeByVote_of_two (by simpa using hlatch) htwo]
    simp

/-- A lane-check fault of a voting lane in RUN, its latch record left aside. -/
theorem State.laneFault_run {s : State} {l : Lane} (hmode : s.ms.mode = .run) (hthree : s.ms.voting = 7#3)
    (hsvc : (s.lane l).svc = .inService) (hinj : (s.lane l).check.injMode = false) (src : BitVec 4) (diff : Option CmpDiff) :
    let t := s.laneFault l src diff
    (((t.lane l).svc = .reset ∨ (t.lane l).svc = .disabled) ∧ (t.lane l).lastCause = 3 ∧ (t.lane l).held = [] ∧
      (t.lane l).region = Carried.reset ∧ (t.lane l).wdog.armed = false ∧ (t.lane l).exitCnt = satInc 255 (s.lane l).exitCnt) ∧
    OnlyLane l s t ∧ (∀ m : Lane, m.inMask t.ms.voting = decide (m ≠ l)) ∧
    (∃ r, t.aon.faultRec = some r ∧ r.src = 1 ∧ r.code = src.setWidth 8 ∧ r.lane = BitVec.ofNat 8 l.num ∧ r.time = s.aon.timeNs ∧
      r.tick = s.ms.tick) ∧
    t.aon.latch = s.aon.latch ∧ (s.aon.latch = false → t.ms.mode = .run2) := by
  intro t
  have ht : t = ((s.faulted l src diff).failLane l 3).checkReset l :=
    State.laneFault_eq (by rw [hsvc]; decide) hinj src diff
  obtain ⟨hfsvc, hfexit, hfothers, hfms⟩ := s.faulted_lane l src diff
  obtain ⟨r, hfaon, hrec⟩ := s.faulted_aon l src diff
  set u := s.faulted l src diff
  obtain ⟨hlane, -, -⟩ := State.failLane_calm (s := u) (l := l) (cause := 3) (hfsvc.trans hsvc) rfl
  have hvoted : l.inMask u.ms.voting = true := by rw [hfms, hthree]; cases l <;> rfl
  have htwo : countMask ((u.failed l 3).unvoted l).ms.voting = 2 := by
    simp only [State.unvoted, State.failed_ms, hfms, hthree]
    exact countMask_without l
  have hfail : u.failLane l 3 = ((u.failed l 3).unvoted l).modeByVote 0x01 := by
    rw [State.failLane_eq, if_pos hvoted, hfms, hmode, if_pos (by decide)]
  have hfailAon : (u.failLane l 3).aon = u.aon := by
    rw [hfail, State.modeByVote_aon_of_two htwo]
    simp [State.unvoted, State.failed]
  have haon : t.aon = { u.aon with laneSeen := t.aon.laneSeen } := by
    rw [ht, ← hfailAon]
    exact State.checkReset_aon _ l
  obtain ⟨hout, hcause, hheld, hregion, hwdog, hexit⟩ := (u.failLane l 3).checkReset_lane l
  rw [hlane] at hcause hexit
  refine ⟨?_, ?_, fun m => ?_, ⟨r, ?_, hrec⟩, ?_, fun hlatch => ?_⟩
  · rw [ht]
    exact ⟨hout, hcause, hheld, hregion, hwdog, hexit.trans (congrArg (satInc 255) hfexit)⟩
  · rw [ht]
    exact (hfothers.trans (.failLane u l 3)).trans (.checkReset _ l)
  · rw [ht, (State.checkReset_frame _ l).1, State.failLane_voting, hfms, hthree]
    cases m <;> rfl
  · rw [haon, hfaon]
  · rw [haon, hfaon]
  · rw [ht, (State.checkReset_frame _ l).1, hfail, State.modeByVote_of_two (by simpa [State.unvoted, State.failed, hfaon] using hlatch) htwo]
    obtain ⟨since, hms⟩ := ((u.failed l 3).unvoted l).setMode_inMode .run2
    rw [hms]
    rfl

/-! ### Alive checks and windows (R35-R37, R233, R236, R239-R241, R493) -/

theorem State.modLaneSt_effect (s : State) (l : Lane) (f : LaneSt → LaneSt) :
    (s.modLaneSt l f).lane l = f (s.lane l) ∧ (∀ m : Lane, m ≠ l → (s.modLaneSt l f).lane m = s.lane m) ∧
      SameBut [.lanes] s (s.modLaneSt l f) :=
  ⟨s.lane_modLaneSt_self l f, fun m hm => s.lane_modLaneSt_ne l m f hm, sameBut_of _ _ _ fun p => by cases p <;> simp [Part.agree]⟩

theorem aliveCheck_sound {s : State} {l : Lane} {hw : Checker} (hsvc : (s.lane l).svc ≠ .disabled) (hok : Checker.aliveOk hw = true) :
    ∃ t, exec (.aliveCheck l hw) s = .next t ∧
      t.lane l = { s.lane l with check := { (s.lane l).check with aliveOk := true } } ∧
      (∀ m : Lane, m ≠ l → t.lane m = s.lane m) ∧ SameBut [.lanes] s t := by
  refine ⟨s.modCheck l fun c => { c with aliveOk := true }, ?_, s.modLaneSt_effect l _⟩
  simp [exec, execAliveCheck, hsvc, hok]

theorem aliveCheck_deviating {s : State} {l : Lane} {hw : Checker} (hmode : s.ms.mode = .run) (hthree : s.ms.voting = 7#3)
    (hsvc : (s.lane l).svc = .inService) (hinj : (s.lane l).check.injMode = false) (hbad : Checker.aliveOk hw = false) :
    ∃ t, exec (.aliveCheck l hw) s = .next t ∧
      (t.lane l).lastCause = 3 ∧ (t.lane l).held = [] ∧ (∀ m : Lane, m.inMask t.ms.voting = decide (m ≠ l)) ∧
      (∃ r, t.aon.faultRec = some r ∧ r.src = 1 ∧ r.code = 7 ∧ r.lane = BitVec.ofNat 8 l.num) ∧
      (∀ m : Lane, m ≠ l → t.lane m = s.lane m) ∧ t.fuses = s.fuses ∧ t.pending = s.pending := by
  set u := s.modCheck l fun c => { c with aliveOk := false } with hu
  have hexec : exec (.aliveCheck l hw) s = .next (u.laneFault l 7 none) := by
    simp [exec, execAliveCheck, hsvc, hbad, hu]
  obtain ⟨hlane, hothers, -⟩ := s.modLaneSt_effect l fun x => { x with check := { x.check with aliveOk := false } }
  have hself : u.lane l = { s.lane l with check := { (s.lane l).check with aliveOk := false } } := hlane
  obtain ⟨⟨-, hcause, hheld, -⟩, hrest, hvote, ⟨r, hrec, hsrc, hcode, hlaneNo, -⟩, -⟩ := State.laneFault_run (s := u) (l := l)
    (by simpa [hu] using hmode) (by simpa [hu] using hthree) (by rw [hself]; exact hsvc) (by rw [hself]; exact hinj) 7 none
  exact ⟨_, hexec, hcause, hheld, hvote, ⟨r, hrec, hsrc, hcode, hlaneNo⟩, fun m hm => (hrest m hm).trans (hothers m hm),
    by simp [hu], by simp [hu]⟩

theorem p5Suspension_effect {s : State} {l : Lane} (hticks : s.inTicks = true)
    (hsvc : (s.lane l).svc = .inService ∨ (s.lane l).svc = .out ∨ (s.lane l).svc = .resync) :
    ∃ t, exec (.p5Suspension l) s = .next t ∧ t.ms = { s.ms with p5Left := s.ms.p5Left.set l true } ∧
      t.lane l = { s.lane l with check := { (s.lane l).check with scrubPos := (t.lane l).check.scrubPos } } ∧
      (t.lane l).check.scrubPos =
        (if s.ms.p5Left.get l then (s.lane l).check.scrubPos else ((s.lane l).check.scrubPos + 191) % 192) ∧
      (∀ m : Lane, m ≠ l → t.lane m = s.lane m) ∧ SameBut [.ms, .lanes] s t := by
  have hruns : (s.lane l).svc.running = true := by rcases hsvc with h | h | h <;> rw [h] <;> rfl
  by_cases hleft : s.ms.p5Left.get l = true
  · refine ⟨{ s with ms := { s.ms with p5Left := s.ms.p5Left.set l true } }, ?_, rfl, rfl, by rw [if_pos hleft]; rfl, fun _ _ => rfl,
      sameBut_of _ _ _ fun p => by cases p <;> simp [Part.agree]⟩
    simp [exec, execP5Suspension, hticks, hruns, hleft]
  · set u := s.modCheck l fun c => { c with scrubPos := (c.scrubPos + 191) % 192 } with hu
    obtain ⟨hself, hothers, -⟩ := s.modLaneSt_effect l fun x => { x with check := { x.check with scrubPos := (x.check.scrubPos + 191) % 192 } }
    refine ⟨{ u with ms := { u.ms with p5Left := u.ms.p5Left.set l true } }, ?_, rfl, ?_, ?_, hothers,
      sameBut_of _ _ _ fun p => by cases p <;> simp [Part.agree, hu]⟩
    · simp [exec, execP5Suspension, hticks, hruns, hleft, hu]
    · have hlane : u.lane l = { s.lane l with check := { (s.lane l).check with scrubPos := (u.lane l).check.scrubPos } } := by
        rw [show u.lane l = _ from hself]
      exact hlane
    · rw [if_neg hleft]
      exact congrArg (fun x : LaneSt => x.check.scrubPos) hself

/-- A lane at the end of a window of 1,024 ticks (R37). -/
def LaneSt.windowEnd (x : LaneSt) : LaneSt :=
  { x with budget := x.budget.windowEnd, plan := { x.plan with t4w := (x.budget.winT4 :: x.plan.t4w).take 64 } }

theorem budgetWindowEnd_effect {s : State} (hticks : s.inTicks = true) (hlast : s.ms.tick.toNat % 1024 = 1023) :
    ∃ t, exec .budgetWindowEnd s = .next t ∧
    (∀ l : Lane, (t.lane l).budget = { (s.lane l).budget with
        failedTick := (s.lane l).budget.winFailed, belowPlan := (s.lane l).budget.winBelow
        reserveMin := (s.lane l).budget.winReserve.getD 0, t4Max := (s.lane l).budget.winT4
        winFailed := false, winBelow := false, winReserve := none, winT4 := 0 } ∧
      (t.lane l).plan.t4w.head? = some (s.lane l).budget.winT4 ∧ (t.lane l).plan.t4w.length ≤ 64 ∧
      t.lane l = { s.lane l with budget := (t.lane l).budget
                                 plan := { (s.lane l).plan with t4w := (t.lane l).plan.t4w } }) ∧
    SameBut [.lanes] s t := by
  have hends : s.windowEnds = true := by simp [State.windowEnds, hticks, hlast]
  have hexec : exec .budgetWindowEnd s = .next { s with lanes := s.lanes.map LaneSt.windowEnd } := by
    simp only [exec, execBudgetWindowEnd, hends, Bool.not_true, Bool.false_eq_true, if_false]
    rfl
  refine ⟨_, hexec, fun l => ?_, sameBut_of _ _ _ fun p => by cases p <;> simp [Part.agree]⟩
  have hlane : ({ s with lanes := s.lanes.map LaneSt.windowEnd } : State).lane l = (s.lane l).windowEnd := PerLane.get_map _ _ l
  rw [hlane]
  exact ⟨rfl, rfl, List.length_take_le _ _, rfl⟩

theorem rollingProofDue_effect {s : State} {l : Lane} {d : Nat} (hdue : (s.prf.lanes.get l).dueNs = some d) (hpast : d ≤ s.nowNs) :
    ∃ t, exec (.rollingProofDue l) s = .next t ∧
    t.prf.lanes.get l = { s.prf.lanes.get l with due := true } ∧
    (∀ m : Lane, m ≠ l → t.prf.lanes.get m = s.prf.lanes.get m) ∧
    t.prf = { s.prf with lanes := t.prf.lanes } ∧ SameBut [.prf] s t := by
  have hexec : exec (.rollingProofDue l) s = .next (s.modRp l fun p => { p with due := true }) := by
    simp [exec, execRollingProofDue, RpLane.past, hdue, hpast]
  refine ⟨_, hexec, by simp [State.modRp, PerLane.modify], fun m hm => ?_, rfl,
    sameBut_of _ _ _ fun p => by cases p <;> simp [Part.agree, State.modRp]⟩
  exact PerLane.get_set_ne _ _ _ _ hm

/-- A window's count of an armed watchdog (R240). -/
def Wdog.windowFails (w : Wdog) : Nat := if !w.armed then w.fails else if w.served then 0 else w.fails + 1

theorem execWatchdogWindowEnd_eq (l : Lane) (byTimeout : Bool) (s : State) :
    exec (.watchdogWindowEnd l byTimeout) s =
      let s1 := s.modLaneSt l fun x => { x with wdog := { (s.lane l).wdog with
        timeout := byTimeout, fails := (s.lane l).wdog.windowFails, served := false } }
      if (s.lane l).wdog.armed && decide (3 ≤ (s.lane l).wdog.windowFails) then .next (s1.watchdogReset l) else .next s1 := rfl

theorem watchdogWindowEnd_calm {s : State} {l : Lane} (byTimeout : Bool)
    (h : (s.lane l).wdog.armed = false ∨ (s.lane l).wdog.served = true ∨ (s.lane l).wdog.fails < 2) :
    ∃ t, exec (.watchdogWindowEnd l byTimeout) s = .next t ∧
      ((s.lane l).wdog.armed = false → (t.lane l).wdog.fails = (s.lane l).wdog.fails) ∧
      ((s.lane l).wdog.armed = true → (s.lane l).wdog.served = true → (t.lane l).wdog.fails = 0) ∧
      ((s.lane l).wdog.armed = true → (s.lane l).wdog.served = false →
        (t.lane l).wdog.fails = (s.lane l).wdog.fails + 1) ∧
      t.lane l = { s.lane l with wdog := { (s.lane l).wdog with
        timeout := byTimeout, fails := (t.lane l).wdog.fails, served := false } } ∧
      (∀ m : Lane, m ≠ l → t.lane m = s.lane m) ∧ SameBut [.lanes] s t := by
  have hfew (harm : (s.lane l).wdog.armed = true) : (s.lane l).wdog.windowFails < 3 := by
    rcases h with h | h | h
    · simp [h] at harm
    · simp [Wdog.windowFails, harm, h]
    · unfold Wdog.windowFails
      rw [if_neg (by simp [harm])]
      split <;> omega
  obtain ⟨hlane, hothers, hframe⟩ := s.modLaneSt_effect l fun x => { x with wdog := { (s.lane l).wdog with
    timeout := byTimeout, fails := (s.lane l).wdog.windowFails, served := false } }
  refine ⟨_, by rw [execWatchdogWindowEnd_eq]; exact if_neg (by simpa using hfew), fun harm => ?_, fun harm hserved => ?_,
    fun harm hserved => ?_, ?_, hothers, hframe⟩
  · rw [hlane]
    simp [Wdog.windowFails, harm]
  · rw [hlane]
    simp [Wdog.windowFails, harm, hserved]
  · rw [hlane]
    simp [Wdog.windowFails, harm, hserved]
  · rw [hlane]

/-- A lane that its watchdog resets (R241). -/
theorem State.watchdogReset_effect {s : State} {l : Lane} (hsvc : (s.lane l).svc ≠ .disabled) :
    ((s.watchdogReset l).lane l).svc = .reset ∧
    (((s.watchdogReset l).lane l).wdog.armed = false ∧ ((s.watchdogReset l).lane l).wdog.fails = 0 ∧
      ((s.watchdogReset l).lane l).wdog.resetCnt = satInc 255 (s.lane l).wdog.resetCnt) ∧
    (∃ r, (s.watchdogReset l).aon.faultRec = some r ∧ r.src = 2 ∧ r.lane = BitVec.ofNat 8 l.num ∧ r.tick = s.ms.tick) ∧
    OnlyLane l s (s.watchdogReset l) := by
  unfold State.watchdogReset
  extract_lets s1 s2
  set s3 := s2.alarmLane 0xBB l [] with hs3
  have hself : s3.lane l = { s.lane l with wdog := { (s.lane l).wdog with resetCnt := satInc 255 (s.lane l).wdog.resetCnt } } :=
    (lane_of_lanes (s := s1) (by simp [hs3, s2]) l).trans (s.lane_modLaneSt_self l _)
  have hothers : OnlyLane l s s3 := (OnlyLane.modLaneSt s l _).of_eq (t := s1) (by simp [hs3, s2])
  have hexit : ((s3.exitLane l 1).lane l).svc ≠ .disabled ∧ ((s3.exitLane l 1).lane l).wdog.resetCnt = (s3.lane l).wdog.resetCnt := by
    by_cases hin : (s3.lane l).svc = .inService
    · obtain ⟨hlanes, -, -⟩ := State.exitLane_calm hin (cause := 1) rfl
      have hleft : (s3.exitLane l 1).lane l = (s3.lane l).left 1 := by
        rw [State.lane, hlanes, PerLane.get_set_self]
      rw [hleft]
      exact ⟨(by decide : Svc.out ≠ .disabled), rfl⟩
    · rw [State.exitLane_of_not_inService hin, hself]
      exact ⟨hsvc, rfl⟩
  obtain ⟨b, n, hreset⟩ := (s3.exitLane l 1).laneReset_lane l
  obtain ⟨-, -, -, haon, -⟩ := (s3.exitLane l 1).laneReset_rest l
  refine ⟨?_, ?_, ?_, (hothers.trans (.exitLane s3 l 1)).trans (.laneReset _ l)⟩
  · rw [hreset]
    exact if_neg (by simpa using hexit.1)
  · rw [hreset]
    exact ⟨rfl, rfl, hexit.2.trans (by rw [hself])⟩
  · rw [haon]
    simp [hs3, s2, s1, State.latchFault]

theorem watchdogWindowEnd_third {s : State} {l : Lane} (byTimeout : Bool) (harm : (s.lane l).wdog.armed = true)
    (hserved : (s.lane l).wdog.served = false) (hfails : 2 ≤ (s.lane l).wdog.fails) (hsvc : (s.lane l).svc ≠ .disabled) :
    ∃ t, exec (.watchdogWindowEnd l byTimeout) s = .next t ∧
      (t.lane l).svc = .reset ∧ (t.lane l).wdog.armed = false ∧ (t.lane l).wdog.fails = 0 ∧
      (t.lane l).wdog.resetCnt = (if (s.lane l).wdog.resetCnt < 255 then (s.lane l).wdog.resetCnt + 1 else 255) ∧
      (∃ r, t.aon.faultRec = some r ∧ r.src = 2 ∧ r.lane = BitVec.ofNat 8 l.num ∧ r.tick = s.ms.tick) ∧
      (∀ m : Lane, m ≠ l → t.lane m = s.lane m) ∧ t.fuses = s.fuses ∧ t.pending = s.pending := by
  have hmany : ((s.lane l).wdog.armed && decide (3 ≤ (s.lane l).wdog.windowFails)) = true := by
    simp [Wdog.windowFails, harm, hserved]
    omega
  obtain ⟨hlane, hothers, -⟩ := s.modLaneSt_effect l fun x => { x with wdog := { (s.lane l).wdog with
    timeout := byTimeout, fails := (s.lane l).wdog.windowFails, served := false } }
  set s1 := s.modLaneSt l fun x => { x with wdog := { (s.lane l).wdog with
    timeout := byTimeout, fails := (s.lane l).wdog.windowFails, served := false } } with hs1
  obtain ⟨hout, hlastCnt, hrec, hrest⟩ := s1.watchdogReset_effect (l := l) (by rw [hlane]; exact hsvc)
  refine ⟨s1.watchdogReset l, by rw [execWatchdogWindowEnd_eq]; exact if_pos hmany, hout, ?_⟩
  rw [hlane] at hlastCnt
  obtain ⟨r, hr, hsrc, hlaneNo, htick⟩ := hrec
  obtain ⟨harmed, hzero, hcnt⟩ := hlastCnt
  exact ⟨harmed, hzero, hcnt, ⟨r, hr, hsrc, hlaneNo, by rw [htick]; simp [hs1]⟩, fun m hm => (hrest m hm).trans (hothers m hm),
    by simp [hs1], by simp [hs1]⟩

/-- Settles O13. -/
theorem gatesAndWindows : Obligations.GatesAndWindows := by
  unfold Obligations.GatesAndWindows
  refine ⟨⟨fun s l => commitGateRelease_effect, fun s l hclosed => ?_, fun s l hw => aliveCheck_sound,
    fun s l hw => aliveCheck_deviating⟩, fun s => ⟨fun l => p5Suspension_effect, budgetWindowEnd_effect,
    fun l d => rollingProofDue_effect⟩, fun s l byTimeout => ⟨watchdogWindowEnd_calm byTimeout, watchdogWindowEnd_third byTimeout⟩⟩
  have hshut : ((s.lane l).check.gateClosed || (s.lane l).check.injMode) = true := by simpa using hclosed
  simp [exec, execCommitGateRelease, hshut]

end Sys2Proof.Machine
end

section
/-!
SUPPORT and O14. Lane-check faults, corrected reads, and what a LANE reset frees.
-/

namespace Sys2Proof.Machine

/-! ### Lane-check faults (R220-R228, R235) -/

/-- The cycles of the core pairs change the pairs and the cycle count alone. -/
theorem LaneSt.runCycles_keeps (x : LaneSt) (hw : Checker) (cs : List LaneCycle) :
    (x.runCycles hw cs).1 = { x with pairs := (x.runCycles hw cs).1.pairs, cycle := (x.runCycles hw cs).1.cycle } := by
  induction cs generalizing x with
  | nil => rfl
  | cons c rest ih =>
    unfold LaneSt.runCycles
    extract_lets odd f y
    split
    · rfl
    · exact (ih y).trans rfl

/-- What a lane-check fault of a voting lane in RUN does, told of a state that differs from the one of the fault in the lane's pairs, its
read record and what its gate held. -/
theorem laneFault_effect {s u : State} {l : Lane} (hms : u.ms = s.ms) (haon : u.aon = s.aon) (hrest : OnlyLane l s u)
    (hfree : u.fuses = s.fuses ∧ u.pending = s.pending) (hmode : s.ms.mode = .run) (hthree : s.ms.voting = 7#3)
    (hlatch : s.aon.latch = false) (hlane : (u.lane l).svc = .inService ∧ (u.lane l).check.injMode = false ∧ (u.lane l).exitCnt = (s.lane l).exitCnt)
    (src : BitVec 4) (diff : Option CmpDiff) :
    let t := u.laneFault l src diff
    ((t.lane l).svc = .reset ∨ (t.lane l).svc = .disabled) ∧ (t.lane l).lastCause = 3 ∧
    (t.lane l).held = [] ∧ (t.lane l).region = Carried.reset ∧
    (t.lane l).wdog.armed = false ∧
    (t.lane l).exitCnt = (if (s.lane l).exitCnt < 255 then (s.lane l).exitCnt + 1 else 255) ∧
    (∀ m : Lane, m ≠ l → t.lane m = s.lane m) ∧
    t.ms.mode = .run2 ∧ (∀ m : Lane, m.inMask t.ms.voting = decide (m ≠ l)) ∧
    (∃ r, t.aon.faultRec = some r ∧ r.src = 1 ∧ r.code = src.setWidth 8 ∧
      r.lane = BitVec.ofNat 8 l.num ∧ r.time = s.aon.timeNs ∧ r.tick = s.ms.tick) ∧
    t.aon.latch = false ∧ t.fuses = s.fuses ∧ t.pending = s.pending := by
  obtain ⟨hsvc, hinj, hexitCnt⟩ := hlane
  obtain ⟨hfuses, hpending⟩ := hfree
  obtain ⟨⟨hout, hcause, hheld, hregion, hwdog, hexit⟩, hothers, hvote, hrec, hlatched, hrun2⟩ := State.laneFault_run (s := u) (l := l)
    (by rw [hms]; exact hmode) (by rw [hms]; exact hthree) hsvc hinj src diff
  rw [hms, haon] at hrec
  rw [haon] at hlatched hrun2
  intro t
  exact ⟨hout, hcause, hheld, hregion, hwdog, hexit.trans (by rw [hexitCnt]; rfl), hrest.trans hothers, hrun2 hlatch, hvote, hrec,
    hlatched.trans hlatch, by simp [t, hfuses], by simp [t, hpending]⟩

/-- A gate that opens changes of the lanes the one whose gate it is, in what it held and served. -/
theorem State.gateRelease_lane (s : State) (l : Lane) :
    (s.gateRelease l).lane l = { s.lane l with held := [], wdog := ((s.gateRelease l).lane l).wdog } ∧
      OnlyLane l s (s.gateRelease l) := by
  unfold State.gateRelease
  extract_lets x serves _ s1
  have hlanes : (s1.releaseAll l x.held).lanes = s1.lanes := s1.releaseAll_sameBut l x.held .lanes (by simp)
  have hself : (s1.releaseAll l x.held).lane l = _ := (lane_of_lanes hlanes l).trans (s.lane_setLane_self l _)
  refine ⟨?_, (OnlyLane.setLane s l _).of_eq hlanes⟩
  have heq : x.held.foldl (fun t w => t.release l w) s1 = s1.releaseAll l x.held := rfl
  rw [heq, hself]

/-- The fault of each of the three ways in which a cycle, a gate or a read raises one. -/
theorem laneCheckFault_effect {s : State} {l : Lane} {cycles : List LaneCycle} {hw : Checker} {ue : Option EccRead} {src : BitVec 4}
    (hmode : s.ms.mode = .run) (hthree : s.ms.voting = 7#3) (hlatch : s.aon.latch = false) (hsvc : (s.lane l).svc = .inService)
    (hinj : (s.lane l).check.injMode = false)
    (hraised : ((∃ d, ((s.lane l).runCycles hw cycles).2 = some (src, d)) ∧ (hw.gateOpen = false ∨ (s.lane l).held = [])) ∨
      (((s.lane l).runCycles hw cycles).2 ≠ none ∧ hw.gateOpen = true ∧ (s.lane l).held ≠ [] ∧ src = 9) ∨
      (((s.lane l).runCycles hw cycles).2 = none ∧ src = 8 ∧ ∃ r, ue = some r ∧ EccRead.outcome r = .uncorrectable)) :
    ∃ t, exec (.laneCheckFault l ⟨cycles, hw⟩ ue) s = .next t ∧
      ((t.lane l).svc = .reset ∨ (t.lane l).svc = .disabled) ∧ (t.lane l).lastCause = 3 ∧
      (t.lane l).held = [] ∧ (t.lane l).region = Carried.reset ∧
      (t.lane l).wdog.armed = false ∧
      (t.lane l).exitCnt = (if (s.lane l).exitCnt < 255 then (s.lane l).exitCnt + 1 else 255) ∧
      (∀ m : Lane, m ≠ l → t.lane m = s.lane m) ∧
      t.ms.mode = .run2 ∧ (∀ m : Lane, m.inMask t.ms.voting = decide (m ≠ l)) ∧
      (∃ r, t.aon.faultRec = some r ∧ r.src = 1 ∧ r.code = src.setWidth 8 ∧
        r.lane = BitVec.ofNat 8 l.num ∧ r.time = s.aon.timeNs ∧ r.tick = s.ms.tick) ∧
      t.aon.latch = false ∧ t.fuses = s.fuses ∧ t.pending = s.pending := by
  set x := ((s.lane l).runCycles hw cycles).1 with hx
  set u := s.setLane l x with hu
  have hkeeps := (s.lane l).runCycles_keeps hw cycles
  have hself : u.lane l = x := s.lane_setLane_self l x
  have hlane : (u.lane l).svc = .inService ∧ (u.lane l).check.injMode = false ∧ (u.lane l).exitCnt = (s.lane l).exitCnt := by
    rw [hself, hx, hkeeps]
    exact ⟨hsvc, hinj, rfl⟩
  have hothers : OnlyLane l s u := .setLane s l x
  have hne : ((s.lane l).svc == Svc.disabled) = false := by rw [hsvc]; rfl
  rcases hraised with ⟨⟨d, hsrc⟩, hgate⟩ | ⟨hsrc, hopen, hheld, rfl⟩ | ⟨hnone, rfl, r, rfl, hue⟩
  · have hshut : (hw.gateOpen && !(s.lane l).held.isEmpty) = false := by rcases hgate with h | h <;> simp [h]
    refine ⟨u.laneFault l src d, ?_, laneFault_effect (s := s) (u := u) rfl rfl hothers ⟨rfl, rfl⟩ hmode hthree hlatch hlane src d⟩
    simp only [exec, execLaneCheckFault, hne, hsrc, hshut, Bool.false_eq_true, if_false]
    rfl
  · obtain ⟨⟨src', d⟩, hsrc⟩ := Option.ne_none_iff_exists'.mp hsrc
    have hwide : (hw.gateOpen && !(s.lane l).held.isEmpty) = true := by simp [hopen, hheld]
    refine ⟨(u.gateRelease l).laneFault l 9 d, ?_, ?_⟩
    · simp only [exec, execLaneCheckFault, hne, hsrc, hwide, Bool.false_eq_true, if_false, if_true]
      rfl
    · obtain ⟨hreleased, hrest⟩ := u.gateRelease_lane l
      obtain ⟨husvc, huinj, huexit⟩ := hlane
      exact laneFault_effect (by simp [hu]) (by simp [hu]) (hothers.trans hrest) ⟨by simp [hu], by simp [hu]⟩ hmode hthree hlatch
        ⟨by rw [hreleased]; exact husvc, by rw [hreleased]; exact huinj, by rw [hreleased]; exact huexit⟩ 9 d
  · set v := u.modCheck l fun c => c.eccAt r true with hv
    obtain ⟨hread, hrest, -⟩ := u.modLaneSt_effect l fun x => { x with check := x.check.eccAt r true }
    obtain ⟨husvc, huinj, huexit⟩ := hlane
    have hvlane : v.lane l = _ := hread
    refine ⟨v.laneFault l 8 none, ?_, laneFault_effect (s := s) (u := v) rfl rfl (hothers.trans hrest) ⟨rfl, rfl⟩ hmode hthree hlatch
      ⟨by rw [hvlane]; exact husvc, by rw [hvlane]; exact huinj, by rw [hvlane]; exact huexit⟩ 8 none⟩
    simp only [exec, execLaneCheckFault, hne, hnone, hue, Bool.false_eq_true, if_false]
    rfl

/-! ### Corrected reads (R235, R237) -/

theorem State.setLane_lane (s : State) (l : Lane) : s.setLane l (s.lane l) = s := by
  cases l <;> rfl

theorem correctedRead_effect {s : State} {l : Lane} {hw : Checker} {r : EccRead} (hsvc : (s.lane l).svc ≠ .disabled)
    (hcorrected : EccRead.outcome r = .corrected) :
    ∃ t, exec (.laneCheckFault l ⟨[], hw⟩ (some r)) s = .next t ∧
      t.lane l = { s.lane l with check := { (s.lane l).check with
        eccMem := LaneMem.code r.mem, eccAddr := r.addr, eccUe := false
        ceCnt := if (s.lane l).check.ceCnt < 65535 then (s.lane l).check.ceCnt + 1 else 65535 }
                                 ceWin := (s.lane l).ceWin + 1 } ∧
      (∀ m : Lane, m ≠ l → t.lane m = s.lane m) ∧ ((s.lane l).ceWin ≠ 16 → t.log = s.log) ∧
      SameBut [.lanes, .log, .mail, .host] s t := by
  set u := s.modCheck l fun c => { c.eccAt r false with ceCnt := satInc 65535 c.ceCnt } with hu
  have hne : ((s.lane l).svc == Svc.disabled) = false := by simpa using hsvc
  have hexec : exec (.laneCheckFault l ⟨[], hw⟩ (some r)) s = .next (u.countCe l 1) := by
    simp only [exec, execLaneCheckFault, hne, hcorrected, LaneSt.runCycles, State.setLane_lane, Bool.false_eq_true, if_false]
    rfl
  obtain ⟨hlane, hothers, hframe⟩ := s.modLaneSt_effect l fun x => { x with check := { x.check.eccAt r false with ceCnt := satInc 65535 x.check.ceCnt } }
  have hself : u.lane l = _ := hlane
  obtain ⟨hlane', hothers', hframe'⟩ := u.modLaneSt_effect l fun x => { x with ceWin := (u.lane l).ceWin + 1 }
  set v := u.modLaneSt l fun x => { x with ceWin := (u.lane l).ceWin + 1 } with hv
  have hcount : u.countCe l 1 = if 16 < (s.lane l).ceWin + 1 && (s.lane l).ceWin ≤ 16 then v.alarmLane 0xB9 l [] else v := by
    have hwin : (u.lane l).ceWin = (s.lane l).ceWin := by rw [hself]
    rw [← hwin]
    rfl
  have hvself : v.lane l = { s.lane l with
      check := { (s.lane l).check.eccAt r false with ceCnt := satInc 65535 (s.lane l).check.ceCnt }
      ceWin := (s.lane l).ceWin + 1 } := by
    rw [hlane', hself]
  have hlanes : (u.countCe l 1).lanes = v.lanes := by
    rw [hcount]
    split <;> simp
  refine ⟨_, hexec, (lane_of_lanes hlanes l).trans hvself,
    fun m hm => (lane_of_lanes hlanes m).trans ((hothers' m hm).trans (hothers m hm)), fun hwin => ?_, ?_⟩
  · rw [hcount, if_neg]
    · rfl
    · simp
      omega
  · have hsv : SameBut [.lanes] s v := hframe.trans hframe'
    rw [hcount]
    split
    · exact fun p hp => Part.agree_trans (hsv p (by simp_all)) (by cases p <;> simp_all [Part.agree])
    · exact fun p hp => hsv p (by simp_all)

/-! ### LANE resets (R219, R238, R243, R405, R428, R470) -/

/-- One lock of a master that is reset. -/
def Shared.orphan1 (m : BitVec 4) (h : Shared) (i : Fin 64) : Shared :=
  if h.locks[i].owner == m && m != 0 then
    { h with
      locks := vmod h.locks i (fun _ => ⟨0, true⟩)
      orphan := h.orphan ||| (1#64 <<< i.val)
      lastOwner := m
      lastLock := BitVec.ofNat 6 i.val
      orphanCnt := satInc 255 h.orphanCnt }
  else h

theorem Shared.orphanLocks_eq (h : Shared) (m : BitVec 4) : h.orphanLocks m = (allFin 64).foldl (Shared.orphan1 m) h := rfl

theorem Shared.orphan1_of_other {m : BitVec 4} {h : Shared} {j i : Fin 64} (hj : h.locks[j].owner ≠ m) :
    (h.orphan1 m i).locks[j] = h.locks[j] ∧ (h.orphan.getLsbD j.val = true → (h.orphan1 m i).orphan.getLsbD j.val = true) := by
  unfold Shared.orphan1
  split
  next hi =>
    have hne : j ≠ i := fun he => hj (by simpa [he] using (Bool.and_eq_true_iff.mp hi).1)
    exact ⟨vmod_ne _ _ _ _ hne, fun ho => by simp [ho]⟩
  next => exact ⟨rfl, id⟩

theorem Shared.foldl_orphan1_of_other {m : BitVec 4} {j : Fin 64} (is : List (Fin 64)) {h : Shared} (hj : h.locks[j].owner ≠ m) :
    (is.foldl (Shared.orphan1 m) h).locks[j] = h.locks[j] ∧
      (h.orphan.getLsbD j.val = true → (is.foldl (Shared.orphan1 m) h).orphan.getLsbD j.val = true) := by
  induction is generalizing h with
  | nil => exact ⟨rfl, id⟩
  | cons i rest ih =>
    obtain ⟨hlock, horphan⟩ := Shared.orphan1_of_other (i := i) hj
    obtain ⟨hlock', horphan'⟩ := ih (h := h.orphan1 m i) (by rw [hlock]; exact hj)
    exact ⟨hlock'.trans hlock, fun ho => horphan' (horphan ho)⟩

/-- The locks of master `m` are freed and marked; no other lock changes. -/
theorem Shared.orphanLocks_effect (h : Shared) {m : BitVec 4} (hm : m ≠ 0) (j : Fin 64) :
    (h.locks[j].owner = m → (h.orphanLocks m).locks[j] = ⟨0, true⟩ ∧ (h.orphanLocks m).orphan.getLsbD j.val = true) ∧
    (h.locks[j].owner ≠ m → (h.orphanLocks m).locks[j] = h.locks[j]) := by
  refine ⟨fun hown => ?_, fun hother => (Shared.foldl_orphan1_of_other _ hother).1⟩
  have hreach (is : List (Fin 64)) (hin : j ∈ is) (h : Shared) (hown : h.locks[j].owner = m) :
      (is.foldl (Shared.orphan1 m) h).locks[j] = ⟨0, true⟩ ∧ (is.foldl (Shared.orphan1 m) h).orphan.getLsbD j.val = true := by
    induction is generalizing h with
    | nil => simp at hin
    | cons i rest ih =>
      by_cases hij : j = i
      · subst hij
        have hfreed : (h.orphan1 m j).locks[j] = ⟨0, true⟩ ∧ (h.orphan1 m j).orphan.getLsbD j.val = true := by
          have hcond : (h.locks[j].owner == m && m != 0) = true := by
            rw [Bool.and_eq_true, beq_iff_eq, bne_iff_ne]
            exact ⟨hown, hm⟩
          rw [Shared.orphan1, if_pos hcond]
          refine ⟨by simp, ?_⟩
          simp [j.isLt]
        obtain ⟨hlock, horphan⟩ := hfreed
        obtain ⟨hlock', horphan'⟩ := Shared.foldl_orphan1_of_other rest (h := h.orphan1 m j) (m := m) (j := j)
          (by rw [hlock]; exact hm.symm)
        exact ⟨hlock'.trans hlock, horphan' horphan⟩
      · have hkeep : (h.orphan1 m i).locks[j].owner = m := by
          unfold Shared.orphan1
          split
          · rw [show (vmod h.locks i fun _ => (⟨0, true⟩ : Lck))[j] = h.locks[j] from vmod_ne _ _ _ _ hij]
            exact hown
          · exact hown
        exact ih (by simpa [hij] using hin) _ hkeep
  rw [Shared.orphanLocks_eq]
  exact hreach _ (by simp [allFin]) h hown

/-! The messages read in a tick, which an ALARM leaves. -/

@[simp] theorem State.toRead_modMbx (s : State) (secure : Bool) (ch : Fin 8) (f : Mbx → Mbx) :
    (s.modMbx secure ch f).mail.toRead = s.mail.toRead := by
  cases secure <;> rfl

@[simp] theorem State.toRead_bellAll (s : State) (bit : Nat) : (s.bellAll bit).mail.toRead = s.mail.toRead := by
  have hbell (s : State) (secure : Bool) (ch : Fin 8) : (s.bell secure ch bit).mail.toRead = s.mail.toRead :=
    congrArg (fun r => r.2.1) (s.reading_bell secure ch bit)
  unfold State.bellAll
  exact (foldl_keeps (g := fun s : State => s.mail.toRead) (fun s ch => hbell s false ch) _ _).trans
    (foldl_keeps (g := fun s : State => s.mail.toRead) (fun s ch => hbell s true ch) _ _)

@[simp] theorem State.toRead_logPut (s : State) (r : Record) : (s.logPut r).mail.toRead = s.mail.toRead := by
  unfold State.logPut
  split
  · rfl
  · unfold State.logStore
    dsimp only
    split <;> simp

@[simp] theorem State.toRead_alarmLane (s : State) (code : Byte) (l : Lane) (detail : List Byte) :
    (s.alarmLane code l detail).mail.toRead = s.mail.toRead := by
  simp [State.alarmLane]

@[simp] theorem State.toRead_alarmNode (s : State) (code : Byte) (detail : List Byte) :
    (s.alarmNode code detail).mail.toRead = s.mail.toRead := by
  simp [State.alarmNode, State.raise]

@[simp] theorem State.toRead_trialFailed (s : State) : s.trialFailed.mail.toRead = s.mail.toRead := by
  simp only [State.trialFailed, State.endTrial]
  split
  · rfl
  · split <;> simp

/-- A lane that its hub takes out for a reset, in service or not (R217, R470). -/
theorem State.exitLane_beforeReset {s : State} {l : Lane} (hsvc : (s.lane l).svc ≠ .disabled) :
    ((s.exitLane l 1).lane l).svc ≠ .disabled ∧ ((s.exitLane l 1).lane l).wdog.resetCnt = (s.lane l).wdog.resetCnt ∧
      (s.exitLane l 1).fld = s.fld ∧ (s.exitLane l 1).mail.toRead = s.mail.toRead := by
  by_cases hin : (s.lane l).svc = .inService
  · obtain ⟨hlanes, hfld, -⟩ := State.exitLane_calm hin (cause := 1) rfl
    have hleft : (s.exitLane l 1).lane l = (s.lane l).left 1 := by rw [State.lane, hlanes, PerLane.get_set_self]
    rw [hleft]
    refine ⟨(by decide : Svc.out ≠ .disabled), rfl, hfld, ?_⟩
    rw [State.exitLane_of_inService hin rfl]
    split <;> simp [State.setLane]
  · rw [State.exitLane_of_not_inService hin]
    exact ⟨hsvc, rfl, rfl, rfl⟩

theorem laneNum_ne_zero (l : Lane) : BitVec.ofNat 4 l.num ≠ 0 := by
  cases l <;> decide

theorem lane_effect {s : State} {l : Lane} (hsvc : (s.lane l).svc ≠ .disabled) :
    ∃ t, exec (.lane l) s = .next t ∧
      (t.lane l).svc = .reset ∧ (t.lane l).region = Carried.reset ∧ (t.lane l).regionOk = false ∧
      (t.lane l).check = LaneCheck.reset ∧ (t.lane l).held = [] ∧ (t.lane l).wdog.armed = false ∧
      (t.lane l).wdog.resetCnt = (s.lane l).wdog.resetCnt ∧
      (∀ b : Bank, t.iface l b = Iface.reset) ∧
      (∀ i : Fin 16, i.val / 4 = l.idx → t.crc.chans[i] = Crc.reset) ∧
      (∀ i : Fin 16, i.val / 4 ≠ l.idx → t.crc.chans[i] = s.crc.chans[i]) ∧
      (∀ i : Fin 64, s.sh.locks[i].owner = BitVec.ofNat 4 l.num →
        t.sh.locks[i] = ⟨0, true⟩ ∧ t.sh.orphan.getLsbD i.val = true) ∧
      (∀ i : Fin 64, s.sh.locks[i].owner ≠ BitVec.ofNat 4 l.num → t.sh.locks[i] = s.sh.locks[i]) ∧
      (∀ m : Lane, m ≠ l → t.lane m = s.lane m ∧ ∀ b : Bank, t.iface m b = s.iface m b) ∧
      t.ms.mode = s.ms.mode ∧ t.aon.latch = s.aon.latch ∧ t.fuses = s.fuses ∧ t.mail.toRead = s.mail.toRead ∧
      t.pending = s.pending := by
  obtain ⟨husvc, hucnt, hufld, huread⟩ := State.exitLane_beforeReset hsvc
  set u := s.exitLane l 1 with hu
  obtain ⟨b, n, hlane⟩ := u.laneReset_lane l
  obtain ⟨hfld, hcrc, hsh, haon, hread⟩ := u.laneReset_rest l
  have hchan (i : Fin 16) : (u.laneReset l).crc.chans[i] = if i.val / 4 = l.idx then .reset else s.crc.chans[i] := by
    have hucrc : u.crc = s.crc := by simp [hu]
    rw [hcrc, ← hucrc]
    exact vmapIdx_get _ _ i.val i.isLt
  have hlocks : (u.laneReset l).sh.locks = (s.sh.orphanLocks (BitVec.ofNat 4 l.num)).locks ∧
      (u.laneReset l).sh.orphan = (s.sh.orphanLocks (BitVec.ofNat 4 l.num)).orphan := by
    have hush : u.sh = s.sh := by simp [hu]
    simp [hsh, State.orphanLocks, Shared.withdraw, hush]
  have hlock (i : Fin 64) := s.sh.orphanLocks_effect (laneNum_ne_zero l) i
  have hface (m : Lane) (b : Bank) : (u.laneReset l).iface m b = if m = l then Iface.reset else s.iface m b := by
    simp only [State.iface, hfld, State.resetIfaces, hufld]
    by_cases hm : m = l
    · simp [hm]
    · simp [hm, PerLane.get_set_ne _ _ _ _ hm]
  refine ⟨u.laneReset l, rfl, ?_, ?_, ?_, ?_, ?_, ?_, ?_, fun b => by rw [hface, if_pos rfl], fun i hi => by rw [hchan, if_pos hi],
    fun i hi => by rw [hchan, if_neg hi], fun i hi => ?_, fun i hi => ?_, fun m hm => ⟨?_, fun b => by rw [hface, if_neg hm]⟩, ?_, ?_, ?_, ?_, ?_⟩
  · rw [hlane]
    exact if_neg (by simpa using husvc)
  · rw [hlane]
    rfl
  · rw [hlane]
    rfl
  · rw [hlane]
    rfl
  · rw [hlane]
    rfl
  · rw [hlane]
    rfl
  · rw [hlane]
    exact hucnt
  · rw [hlocks.1, hlocks.2]
    exact (hlock i).1 hi
  · rw [hlocks.1]
    exact (hlock i).2 hi
  · exact (OnlyLane.laneReset u l m hm).trans (OnlyLane.exitLane s l 1 m hm)
  · simp [hu]
  · rw [haon]
    simp [hu]
  · simp [hu]
  · exact hread.trans huread
  · simp [hu]

/-- Settles O14. -/
theorem lanesAreReset : Obligations.LanesAreReset := by
  unfold Obligations.LanesAreReset
  exact ⟨fun s l cycles hw ue src hmode hthree hlatch hsvc hinj => laneCheckFault_effect hmode hthree hlatch hsvc hinj,
    fun s l hw r => correctedRead_effect, fun s l => lane_effect⟩

end Sys2Proof.Machine
end

section
/-!
O15. Proof, copy request and copy of a lane that comes back.
-/

namespace Sys2Proof.Machine

/-! ### Segments of a copy (R207, R393) -/

theorem groups_flatten {α : Type} {n : Nat} (hn : 0 < n) (fuel : Nat) (l : List α) (h : l.length ≤ fuel) :
    (groups fuel n l).flatten = l := by
  induction fuel generalizing l with
  | zero => exact (List.eq_nil_of_length_eq_zero (Nat.le_zero.mp h)).symm
  | succ k ih =>
    unfold groups
    split
    next hempty => exact (List.isEmpty_iff.mp hempty).symm
    next hne =>
      have hlen : 0 < l.length := List.length_pos_of_ne_nil (by simpa using hne)
      have hdrop : (l.drop n).length ≤ k := by
        rw [List.length_drop]
        omega
      rw [List.flatten_cons, ih _ hdrop, List.take_append_drop]

/-- The segments of numbered parts. -/
def segmentsOf (ps : List (Nat × List DWord)) : List (Nat × List DWord) :=
  ps.flatMap fun p => (groups p.2.length 8190 p.2).map fun g => (p.1, g)

/-- The words that the segments of part `j` carry. -/
def wordsOf (segs : List (Nat × List DWord)) (j : Nat) : List DWord := (segs.filter fun p => p.1 == j).flatMap fun p => p.2

theorem wordsOf_append (xs ys : List (Nat × List DWord)) (j : Nat) : wordsOf (xs ++ ys) j = wordsOf xs j ++ wordsOf ys j := by
  simp [wordsOf]

theorem wordsOf_part (p : Nat × List DWord) (j : Nat) :
    wordsOf ((groups p.2.length 8190 p.2).map fun g => (p.1, g)) j = if p.1 = j then p.2 else [] := by
  by_cases h : p.1 = j
  · have hall : ((groups p.2.length 8190 p.2).map fun g => (p.1, g)).filter (fun q => q.1 == j) =
        (groups p.2.length 8190 p.2).map fun g => (p.1, g) := List.filter_eq_self.mpr fun q hq => by
      obtain ⟨g, -, rfl⟩ := List.mem_map.mp hq
      simpa using h
    rw [if_pos h, wordsOf, hall, List.flatMap_map]
    exact List.flatMap_id.trans (groups_flatten (by decide) _ _ le_rfl)
  · have hnone : ((groups p.2.length 8190 p.2).map fun g => (p.1, g)).filter (fun q => q.1 == j) = [] :=
      List.filter_eq_nil_iff.mpr fun q hq => by
        obtain ⟨g, -, rfl⟩ := List.mem_map.mp hq
        simpa using h
    rw [if_neg h, wordsOf, hnone]
    rfl

/-- The segments of a part carry the part. -/
theorem wordsOf_segments (ps : List (List DWord)) (a : Nat) {q : Nat × List DWord} (hq : q ∈ (List.range' a ps.length).zip ps) :
    wordsOf (segmentsOf ((List.range' a ps.length).zip ps)) q.1 = q.2 := by
  have hlate (ps : List (List DWord)) (a j : Nat) (hj : j < a) : wordsOf (segmentsOf ((List.range' a ps.length).zip ps)) j = [] := by
    induction ps generalizing a with
    | nil => rfl
    | cons p rest ih =>
      have hstep : segmentsOf ((List.range' a (p :: rest).length).zip (p :: rest)) =
          ((groups p.length 8190 p).map fun g => (a, g)) ++ segmentsOf ((List.range' (a + 1) rest.length).zip rest) := rfl
      rw [hstep, wordsOf_append, wordsOf_part (a, p), if_neg (by omega), ih (a + 1) (by omega)]
      rfl
  induction ps generalizing a with
  | nil => simp at hq
  | cons p rest ih =>
    have hstep : segmentsOf ((List.range' a (p :: rest).length).zip (p :: rest)) =
        ((groups p.length 8190 p).map fun g => (a, g)) ++ segmentsOf ((List.range' (a + 1) rest.length).zip rest) := rfl
    rw [hstep, wordsOf_append, wordsOf_part (a, p)]
    rcases List.mem_cons.mp (show q ∈ (a, p) :: (List.range' (a + 1) rest.length).zip rest from hq) with rfl | hrest
    · rw [if_pos rfl, hlate rest (a + 1) a (by omega), List.append_nil]
    · have hge : a + 1 ≤ q.1 := by
        obtain ⟨hmem, -⟩ := List.of_mem_zip (show (q.1, q.2) ∈ _ from hrest)
        exact (List.mem_range'_1.mp hmem).1
      rw [if_neg (by omega), ih (a + 1) hrest]
      rfl

/-- A copy that arrives as it was sealed matches. -/
theorem State.copyEqual_sealed (s : State) (d : Lane) : s.copyEqual d ⟨none, []⟩ = true := by
  have htaken : ((List.range (s.segments d).length).zip (s.segments d)).map
      (fun p => s.segmentTaken d ⟨none, []⟩ (s.segments d).length p.1 p.2) = (s.segments d).map some := by
    have hsome : (fun p : Nat × (Nat × List DWord) => s.segmentTaken d ⟨none, []⟩ (s.segments d).length p.1 p.2) = some ∘ Prod.snd := rfl
    rw [hsome, ← List.map_map, List.map_snd_zip (by simp)]
  simp only [State.copyEqual, htaken, Bool.and_eq_true, List.all_eq_true]
  refine ⟨fun o ho => ?_, fun q hq => ?_⟩
  · obtain ⟨g, -, rfl⟩ := List.mem_map.mp ho
    rfl
  have hcopied : copiedPart ⟨none, []⟩ (((s.segments d).map some).filterMap id) q.1 = q.2 := by
    rw [List.filterMap_map]
    simp only [Function.comp_def, id, List.filterMap_some]
    exact wordsOf_segments (s.copyParts d) 1 hq
  rw [hcopied]
  exact beq_self_eq_true _

/-- A copy with a segment that fails its tags, SEQ or code does not match. -/
theorem State.copyEqual_of_bad {s : State} {d : Lane} (flip : Option VecFlip) {x : SegObs} (r : List SegObs) {p : Nat × List DWord}
    (hp : (s.segments d)[x.place]? = some p) (hbad : s.segmentOk d (s.segments d).length x.place p x.bytes = false) :
    s.copyEqual d ⟨flip, x :: r⟩ = false := by
  have hmissed : s.segmentTaken d ⟨flip, x :: r⟩ (s.segments d).length x.place p = none := by
    simp [State.segmentTaken, hbad]
  have hmem : none ∈ ((List.range (s.segments d).length).zip (s.segments d)).map
      (fun p => s.segmentTaken d ⟨flip, x :: r⟩ (s.segments d).length p.1 p.2) := by
    obtain ⟨hlt, hget⟩ := List.getElem?_eq_some_iff.mp hp
    refine List.mem_map.mpr ⟨(x.place, p), ?_, hmissed⟩
    rw [List.mem_iff_getElem]
    exact ⟨x.place, by simpa using hlt, by simp [hget]⟩
  simp only [State.copyEqual, Bool.and_eq_false_iff]
  refine .inl (Bool.eq_false_iff.mpr fun hall => ?_)
  simpa using List.all_eq_true.mp hall _ hmem

/-! ### Proof and copy request (R50, R210, R229-R231, R490) -/

theorem State.lane_modAllK_rest (s : State) (f : LaneK → LaneK) (m : Lane) :
    (s.modAllK f).lane m = { s.lane m with region := ((s.modAllK f).lane m).region } := by
  rw [State.lane_modAllK]

/-- A sequence of injections that the checking hardware finds. -/
theorem LaneCheck.inject_found {c : LaneCheck} {hw : Checker} (hlock : c.injLock = false) (hmiss : Checker.misses hw = 0) :
    (c.inject hw).injLock = true ∧ (c.inject hw).injDone = 4220 ∧ (c.inject hw).injMiss = 0 := by
  simp [LaneCheck.inject, LaneCheck.injStart, LaneCheck.injRun, LaneCheck.injEnd, hlock, hmiss, injTotal]

/-- A lane that has passed its proof within a running module. -/
theorem laneProofDone_effect {s : State} {l : Lane} {hw : Checker} (hsvc : (s.lane l).svc = .reset) (hcold : (s.lane l).hot = false)
    (hboot : s.ms.mode ≠ .boot) (hprove : s.ms.mode ≠ .prove) (hjoin : s.ms.mode ≠ .join)
    (hlock : (s.lane l).check.injLock = false) (hmiss : Checker.misses hw = 0) :
    ∃ t, exec (.laneProofDone l none hw) s = .next t ∧
      (t.lane l).svc = .out ∧ (t.lane l).copyReq = true ∧ (t.lane l).proofFails = 0 ∧ (t.lane l).copyFails = 0 ∧
      (t.lane l).check.injLock = true ∧ (t.lane l).check.injDone = 4220 ∧ (t.lane l).check.injMiss = 0 ∧
      (t.lane l).wdog = { (s.lane l).wdog with armed := true, fails := 0 } ∧
      (∀ m : Lane, m ≠ l → (t.lane m).svc = (s.lane m).svc ∧ (t.lane m).check = (s.lane m).check) ∧
      SameBut [.lanes, .prf] s t := by
  set u := s.tested l none hw with hu
  have hlanes (m : Lane) : u.lane m = { (s.modCheck l fun c => c.inject hw).lane m with region := (u.lane m).region } :=
    State.lane_modAllK_rest _ _ m
  have hself : u.lane l = { s.lane l with check := (s.lane l).check.inject hw, region := (u.lane l).region } :=
    (hlanes l).trans (by rw [State.modCheck, State.lane_modLaneSt_self])
  obtain ⟨hinjLock, hdone, hnone⟩ := LaneCheck.inject_found hlock hmiss
  have hpassed : proofTest none (u.lane l).check = none := by
    rw [hself]
    simp [proofTest, hdone, hnone]
  obtain ⟨hlane, hothers, hframe⟩ := u.modLaneSt_effect l fun x => { x with
    svc := .out, copyReq := true, proofFails := 0, copyFails := 0, wdog := x.wdog.arm, check := { x.check with injLock := true } }
  set v := u.modLaneSt l fun x => { x with
    svc := .out, copyReq := true, proofFails := 0, copyFails := 0, wdog := x.wdog.arm, check := { x.check with injLock := true } } with hv
  have hexec : exec (.laneProofDone l none hw) s = .next { v with prf := { v.prf with
      phase := if v.prf.rpLane.toNat = l.num && v.prf.phase == .tests then .copy else v.prf.phase } } := by
    simp only [exec, execLaneProofDone, hsvc, hcold, beq_eq_false_iff_ne.mpr hboot, beq_eq_false_iff_ne.mpr hprove,
      beq_eq_false_iff_ne.mpr hjoin, bne_self_eq_false, Bool.or_self, Bool.false_eq_true, if_false, ← hu, hpassed]
    rfl
  have htlane (m : Lane) : (({ v with prf := { v.prf with
      phase := if v.prf.rpLane.toNat = l.num && v.prf.phase == .tests then .copy else v.prf.phase } } : State)).lane m = v.lane m := rfl
  refine ⟨_, hexec, ?_⟩
  simp only [htlane]
  rw [hlane, hself]
  refine ⟨rfl, rfl, rfl, rfl, rfl, hdone, hnone, rfl, fun m hm => ?_, ?_⟩
  · have hkeep : (s.modCheck l fun c => c.inject hw).lane m = s.lane m := s.lane_modLaneSt_ne l m _ hm
    rw [hothers m hm, hlanes m, hkeep]
    exact ⟨rfl, rfl⟩
  · exact sameBut_of _ _ _ fun p => by cases p <;> simp [Part.agree, hv, hu]

theorem OnlyLane.proofFailed (s : State) (l : Lane) (test : Nat) : OnlyLane l s (s.proofFailed l test) := by
  unfold State.proofFailed
  extract_lets s0 s1
  have hs1 : OnlyLane l s s1 := .of_lanes (by dsimp only [s1]; split <;> simp [s0]) l
  split
  · exact (hs1.trans (.modLaneSt s1 l _)).trans (.laneReset _ l)
  · exact hs1.trans (.disableLane s1 l)

/-- A lane without a proof in time (R490). -/
theorem State.proofFailed_lane (s : State) (l : Lane) (test : Nat) :
    ((s.lane l).proofFails = 0 → (s.lane l).svc ≠ .disabled →
      ((s.proofFailed l test).lane l).svc = .reset ∧ ((s.proofFailed l test).lane l).proofFails = 1) ∧
    ((s.lane l).proofFails ≠ 0 → ((s.proofFailed l test).lane l).svc = .disabled) := by
  unfold State.proofFailed
  extract_lets s0 s1
  have hs1 : s1.lane l = s.lane l := lane_of_lanes (by dsimp only [s1]; split <;> simp [s0]) l
  rw [hs1]
  refine ⟨fun hzero hsvc => ?_, fun hne => ?_⟩
  · rw [if_pos hzero]
    have hnoted := s1.lane_modLaneSt_self l fun x => { x with proofFails := 1 }
    obtain ⟨b, n, hlane⟩ := (s1.modLaneSt l fun x => { x with proofFails := 1 }).laneReset_lane l
    rw [hlane, hnoted, hs1]
    exact ⟨if_neg (by simpa using hsvc), rfl⟩
  · rw [if_neg hne]
    obtain ⟨b, n, hlane⟩ := s1.disableLane_lane l
    rw [hlane]

theorem copyRequestTimeout_effect {s : State} {l : Lane} (hsvc : (s.lane l).svc = .reset) (hboot : s.ms.mode ≠ .boot)
    (hprove : s.ms.mode ≠ .prove) :
    ∃ t, exec (.copyRequestTimeout l) s = .next t ∧
      ((s.lane l).proofFails = 0 → (t.lane l).svc = .reset ∧ (t.lane l).proofFails = 1) ∧
      ((s.lane l).proofFails ≠ 0 → (t.lane l).svc = .disabled) ∧
      (∀ m : Lane, m ≠ l → (t.lane m).svc = (s.lane m).svc ∧ (t.lane m).region = (s.lane m).region) ∧
      t.ms.mode = s.ms.mode ∧ t.fuses = s.fuses ∧ t.pending = s.pending := by
  have hexec : exec (.copyRequestTimeout l) s = .next (s.proofFailed l 0) := by
    simp [exec, execCopyRequestTimeout, hsvc, hboot, hprove]
  obtain ⟨hfirst, hsecond⟩ := s.proofFailed_lane l 0
  refine ⟨_, hexec, fun hzero => hfirst hzero (by rw [hsvc]; decide), hsecond, fun m hm => ?_, by simp, by simp, by simp⟩
  rw [OnlyLane.proofFailed s l 0 m hm]
  exact ⟨rfl, rfl⟩

/-! ### The copy (R206-R209, R393) -/

/-- A lane whose copy attempt has failed. -/
def LaneSt.copyLost (x : LaneSt) : LaneSt :=
  { x with
    svc := .out, regionOk := false, copyReq := true, donor := none, lastCause := 9
    copyFails := satInc 255 x.copyFails }

theorem State.lanes_copyFailed (s : State) (l : Lane) : (s.copyFailed l).lanes = s.lanes.set l (s.lane l).copyLost := by
  unfold State.copyFailed
  extract_lets s1
  split <;> simp [s1, State.modLaneSt, State.setLane, LaneSt.copyLost]

theorem LaneSt.exSeq_sealedBlock (x : LaneSt) : (x.sealedBlock .request).exSeq[3] = x.exSeq[3] + 1 := by
  simp [LaneSt.sealedBlock, ExClass.num, vmod]

theorem LaneSt.exSeq_sealedBlocks (x : LaneSt) (n : Nat) :
    (x.sealedBlocks .segment n).exSeq[4] = x.exSeq[4] + BitVec.ofNat 32 n ∧ (x.sealedBlocks .segment n).exSeq[3] = x.exSeq[3] := by
  simp [LaneSt.sealedBlocks, ExClass.num, vmod]

/-- The lane takes the donor's region. -/
def LaneSt.copying (x : LaneSt) (d : Lane) (region : Carried) : LaneSt :=
  { x.sealedBlock .request with svc := .resync, copyReq := false, donor := some d, region := region, regionOk := false }

theorem execResyncCopyStart_valid {s : State} {l d : Lane} {r : List Lane} {req : Option (List Byte)} (hsvc : (s.lane l).svc = .out)
    (hreq : (s.lane l).copyReq = true) (hvote : lanesOf s.ms.voting = d :: r)
    (hok : ∀ bs, req = some bs → s.exOk .request l 0 (s.requestBody l) bs = true) :
    exec (.resyncCopyStart ⟨l, req⟩) s =
      if s.vmapOf d != s.vmapOf l then .next ((s.setLane l ((s.lane l).sealedBlock .request)).copyFailed l)
      else .next ((s.setLane l ((s.lane l).copying d (s.lane d).region)).modLaneSt d fun y =>
        y.sealedBlocks .segment (s.segments d).length) := by
  have hvalid : (req.any fun bs => !s.exOk .request l 0 (s.requestBody l) bs) = false := by
    cases req with
    | none => rfl
    | some bs => simp [hok bs rfl]
  simp only [exec, execResyncCopyStart, hsvc, hreq, hvalid, hvote, bne_self_eq_false, Bool.not_true, Bool.or_self, Bool.false_eq_true,
    if_false]
  rfl

theorem resyncCopyStart_effect {s : State} {l d : Lane} {r : List Lane} {req : Option (List Byte)} (hsvc : (s.lane l).svc = .out)
    (hreq : (s.lane l).copyReq = true) (hvote : lanesOf s.ms.voting = d :: r)
    (hok : ∀ bs, req = some bs → s.exOk .request l 0 (s.requestBody l) bs = true) :
    ∃ t, exec (.resyncCopyStart ⟨l, req⟩) s = .next t ∧
      (t.lane l).exSeq[3] = (s.lane l).exSeq[3] + 1 ∧ (∀ m : Lane, m ≠ l → m ≠ d → t.lane m = s.lane m) ∧
      (s.vmapOf d = s.vmapOf l →
        t.lane l = { s.lane l with
          svc := .resync, copyReq := false, donor := some d, region := (s.lane d).region, regionOk := false
          exSeq := (t.lane l).exSeq } ∧
        (d ≠ l → t.lane d = { s.lane d with exSeq := (t.lane d).exSeq } ∧
          (t.lane d).exSeq[4] = (s.lane d).exSeq[4] + BitVec.ofNat 32 (s.segments d).length) ∧
        SameBut [.lanes] s t) ∧
      (s.vmapOf d ≠ s.vmapOf l →
        (t.lane l).svc = .out ∧ (t.lane l).copyReq = true ∧ (t.lane l).lastCause = 9 ∧
        (t.lane l).region = (s.lane l).region ∧ t.fuses = s.fuses ∧ t.pending = s.pending) := by
  rw [execResyncCopyStart_valid hsvc hreq hvote hok]
  by_cases hmap : s.vmapOf d = s.vmapOf l
  · rw [if_neg (by simp [hmap])]
    set u := s.setLane l ((s.lane l).copying d (s.lane d).region) with hu
    have huself : u.lane l = (s.lane l).copying d (s.lane d).region := s.lane_setLane_self l _
    have huother (m : Lane) (hm : m ≠ l) : u.lane m = s.lane m := s.lane_setLane_ne l m _ hm
    obtain ⟨hdonor, hothers, hframe⟩ := u.modLaneSt_effect d fun y => y.sealedBlocks .segment (s.segments d).length
    set t := u.modLaneSt d fun y => y.sealedBlocks .segment (s.segments d).length
    have hset : SameBut [.lanes] s u := sameBut_of _ _ _ fun p => by cases p <;> simp [Part.agree, hu, State.setLane]
    have htl : t.lane l = { (s.lane l).copying d (s.lane d).region with exSeq := (t.lane l).exSeq } ∧
        (t.lane l).exSeq[3] = (s.lane l).exSeq[3] + 1 := by
      by_cases hd : d = l
      · subst hd
        rw [hdonor, huself]
        exact ⟨rfl, (LaneSt.exSeq_sealedBlocks _ _).2.trans (LaneSt.exSeq_sealedBlock _)⟩
      · rw [hothers l (Ne.symm hd), huself]
        exact ⟨rfl, LaneSt.exSeq_sealedBlock _⟩
    refine ⟨t, rfl, htl.2, fun m hm hmd => (hothers m hmd).trans (huother m hm),
      fun _ => ⟨htl.1, fun hd => ?_, hset.trans hframe⟩, fun h => absurd hmap h⟩
    rw [hdonor, huother d hd]
    exact ⟨rfl, (LaneSt.exSeq_sealedBlocks _ _).1⟩
  · rw [if_pos (by simpa using hmap)]
    set u := s.setLane l ((s.lane l).sealedBlock .request) with hu
    have huself : u.lane l = (s.lane l).sealedBlock .request := s.lane_setLane_self l _
    have hself : (u.copyFailed l).lane l = ((s.lane l).sealedBlock .request).copyLost := by
      rw [State.lane, State.lanes_copyFailed, PerLane.get_set_self, huself]
    refine ⟨_, rfl, ?_, fun m hm _ => ?_, fun h => absurd h hmap, fun _ => ?_⟩
    · rw [hself]
      exact LaneSt.exSeq_sealedBlock _
    · rw [State.lane, State.lanes_copyFailed, PerLane.get_set_ne _ _ _ _ hm]
      exact s.lane_setLane_ne l m _ hm
    · rw [hself]
      exact ⟨rfl, rfl, rfl, rfl, by simp [hu, State.setLane], by simp [hu, State.setLane]⟩

theorem resyncCopyDone_matching {s : State} {l d : Lane} {copy : CopyObs} (hsvc : (s.lane l).svc = .resync)
    (hdonor : (s.lane l).donor = some d) (hin : (s.lane d).svc = .inService) (hequal : s.copyEqual d copy = true) :
    ∃ t, exec (.resyncCopyDone l true copy) s = .next t ∧
      t.lane l = { s.lane l with regionOk := true
                                 resyncCnt := if (s.lane l).resyncCnt < 255 then (s.lane l).resyncCnt + 1 else 255 } ∧
      (∀ m : Lane, m ≠ l → t.lane m = s.lane m) ∧ SameBut [.lanes] s t := by
  have hexec : exec (.resyncCopyDone l true copy) s =
      .next (s.setLane l { s.lane l with regionOk := true, resyncCnt := satInc 255 (s.lane l).resyncCnt }) := by
    simp [exec, execResyncCopyDone, hsvc, hdonor, hin, hequal]
  exact ⟨_, hexec, s.lane_setLane_self l _, fun m hm => s.lane_setLane_ne l m _ hm,
    sameBut_of _ _ _ fun p => by cases p <;> simp [Part.agree, State.setLane]⟩

theorem resyncCopyDone_failing {s : State} {l d : Lane} {inTime : Bool} {copy : CopyObs} (hsvc : (s.lane l).svc = .resync)
    (hdonor : (s.lane l).donor = some d) (hbad : inTime = false ∨ s.copyEqual d copy = false) :
    ∃ t, exec (.resyncCopyDone l inTime copy) s = .next t ∧
      (t.lane l).svc = .out ∧ (t.lane l).copyReq = true ∧ (t.lane l).lastCause = 9 ∧
      (t.lane l).copyFails = (if (s.lane l).copyFails < 255 then (s.lane l).copyFails + 1 else 255) ∧
      (∀ m : Lane, m ≠ l → t.lane m = s.lane m) ∧ t.fuses = s.fuses ∧ t.pending = s.pending := by
  have hexec : exec (.resyncCopyDone l inTime copy) s = .next (s.copyFailed l) := by
    rcases hbad with h | h <;> simp [exec, execResyncCopyDone, hsvc, hdonor, h]
  have hself : (s.copyFailed l).lane l = (s.lane l).copyLost := by
    rw [State.lane, State.lanes_copyFailed, PerLane.get_set_self]
  refine ⟨_, hexec, ?_⟩
  rw [hself]
  refine ⟨rfl, rfl, rfl, rfl, fun m hm => ?_, by simp, by simp⟩
  rw [State.lane, State.lanes_copyFailed, PerLane.get_set_ne _ _ _ _ hm]
  rfl

/-- Settles O15. -/
theorem lanesComeBack : Obligations.LanesComeBack := by
  unfold Obligations.LanesComeBack
  refine ⟨⟨fun s l hw => laneProofDone_effect, fun s l => copyRequestTimeout_effect⟩, fun s l d r req => resyncCopyStart_effect,
    fun s l bs hbad => ?_, State.copyEqual_sealed, fun s d flip x r p => State.copyEqual_of_bad flip r,
    fun s l d copy => resyncCopyDone_matching, fun s l d inTime copy => resyncCopyDone_failing⟩
  simp [exec, execResyncCopyStart, hbad]

end Sys2Proof.Machine
end

section
/-!
O16. The steps of a rolling proof.
-/

namespace Sys2Proof.Machine

theorem SameBut.mono {ps qs : List Part} {s t : State} (h : SameBut ps s t) (hsub : ps ⊆ qs) : SameBut qs s t :=
  fun p hp => h p fun hin => hp (hsub hin)

theorem State.alarmLane_sameBut (s : State) (code : Byte) (l : Lane) (detail : List Byte) :
    SameBut [.log, .mail, .host] s (s.alarmLane code l detail) :=
  sameBut_of _ _ _ fun p => by cases p <;> simp [Part.agree]

theorem State.alarmChan_sameBut (s : State) (code : Byte) (k : Chan) (detail : List Byte) :
    SameBut [.log, .mail, .host] s (s.alarmChan code k detail) :=
  sameBut_of _ _ _ fun p => by cases p <;> simp [Part.agree]

theorem State.modRp_effect (s : State) (l : Lane) (f : RpLane → RpLane) :
    (s.modRp l f).prf.lanes.get l = f (s.prf.lanes.get l) ∧
      (∀ m : Lane, m ≠ l → (s.modRp l f).prf.lanes.get m = s.prf.lanes.get m) ∧
      (s.modRp l f).prf = { s.prf with lanes := (s.modRp l f).prf.lanes } ∧ SameBut [.prf] s (s.modRp l f) :=
  ⟨PerLane.get_set_self _ _ _, fun _ hm => PerLane.get_set_ne _ _ _ _ hm, rfl,
    sameBut_of _ _ _ fun p => by cases p <;> simp [Part.agree, State.modRp]⟩

/-- A lane of a complete vote is withdrawn from RUN (R495). -/
theorem State.withdraw_of_three {s : State} {l : Lane} (hmode : s.ms.mode = .run) (hthree : s.ms.voting = 7#3)
    (hlatch : s.aon.latch = false) : s.withdraw l = ((s.exitLane l 0xA).unvoted l).setMode .run2 := by
  have hms : (s.exitLane l 0xA).ms = s.ms := by simp
  have hrun : ((s.exitLane l 0xA).unvoted l).ms.mode = .run := by
    simp only [State.unvoted, hms]
    exact hmode
  have hwithdraw : s.withdraw l = if ((s.exitLane l 0xA).unvoted l).ms.mode == .run || ((s.exitLane l 0xA).unvoted l).ms.mode == .run2 then
      ((s.exitLane l 0xA).unvoted l).modeByVote 0x01 else (s.exitLane l 0xA).unvoted l := rfl
  rw [hwithdraw, hrun, if_pos (by decide)]
  refine State.modeByVote_of_two ?_ ?_ _
  · simpa [State.unvoted] using hlatch
  · simp only [State.unvoted, hms, hthree]
    exact countMask_without l

theorem rollingProofWithdrawal_effect {s : State} {l : Lane} (hmay : s.mayProve l = true) (hlatch : s.aon.latch = false)
    (hthree : s.ms.voting = 7#3) :
    ∃ t, exec (.rollingProofWithdrawal l) s = .next t ∧
      (t.lane l).svc = .withdrawn ∧ (t.lane l).lastCause = 0xA ∧ (t.lane l).wdog.armed = false ∧
      (t.prf.lanes.get l).due = false ∧ t.prf.phase = .dissent ∧ t.prf.stepDone = 0 ∧
      t.prf.rpLane = BitVec.ofNat 2 l.num ∧ t.ms.mode = .run2 ∧
      (∀ m : Lane, m.inMask t.ms.voting = decide (m ≠ l)) ∧
      (∀ m : Lane, m ≠ l → t.lane m = s.lane m ∧ t.prf.lanes.get m = s.prf.lanes.get m) ∧
      SameBut [.lanes, .prf, .ms, .log, .mail, .host] s t := by
  obtain ⟨hmode, hin⟩ : s.ms.mode = .run ∧ ∀ m : Lane, (s.lane m).svc = .inService := by
    simp only [State.mayProve, Bool.and_eq_true, beq_iff_eq, State.allIn, List.all_eq_true] at hmay
    obtain ⟨⟨⟨⟨⟨⟨⟨-, hmode⟩, hin⟩, -⟩, -⟩, -⟩, -⟩, -⟩ := hmay
    exact ⟨hmode, fun m => hin m (mem_lanesList m)⟩
  have hwithdraw := State.withdraw_of_three (l := l) hmode hthree hlatch
  set u := s.withdraw l with hu
  have hexit : s.exitLane l 0xA = (s.setLane l ((s.lane l).left 0xA)).alarmLane 0xB0 l [(0xA : BitVec 4).setWidth 8] :=
    State.exitLane_of_inService (hin l) rfl
  have hlanes : u.lanes = s.lanes.set l ((s.lane l).left 0xA) := by
    rw [hwithdraw, (State.setMode_frame _ _).2.1]
    exact (State.exitLane_calm (hin l) rfl).1
  have hself : u.lane l = (s.lane l).left 0xA := by rw [State.lane, hlanes, PerLane.get_set_self]
  have hothers (m : Lane) (hm : m ≠ l) : u.lane m = s.lane m := by
    rw [State.lane, hlanes, PerLane.get_set_ne _ _ _ _ hm]
    rfl
  obtain ⟨since, hums⟩ := ((s.exitLane l 0xA).unvoted l).setMode_inMode .run2
  rw [← hwithdraw] at hums
  have hframe : SameBut [.lanes, .prf, .ms, .log, .mail, .host] s u := by
    rw [hwithdraw, hexit]
    exact sameBut_of _ _ _ fun p => by cases p <;> simp [Part.agree, State.unvoted, State.setLane]
  obtain ⟨hprf, hprfOthers, -, hprfFrame⟩ := u.modRp_effect l fun p => { p with due := false }
  have huprf : u.prf = s.prf := by rw [hu]; simp
  set v := u.modRp l fun p => { p with due := false } with hv
  set t : State := { v with prf := { v.prf with
      rpLane := BitVec.ofNat 2 l.num, phase := .dissent, stepDone := 0, startNs := v.nowNs, startTick := v.ms.tick } } with ht
  have hexec : exec (.rollingProofWithdrawal l) s = .next t := if_pos hmay
  have htlane (m : Lane) : t.lane m = u.lane m := rfl
  have htms : t.ms = u.ms := rfl
  have htprf (m : Lane) : t.prf.lanes.get m = v.prf.lanes.get m := rfl
  have hleft : ((s.lane l).left 0xA).svc = .withdrawn ∧ ((s.lane l).left 0xA).lastCause = 0xA ∧
      ((s.lane l).left 0xA).wdog.armed = false := by
    simp [LaneSt.left, Wdog.disarm]
  obtain ⟨hsvc, hcause, harmed⟩ := hleft
  refine ⟨t, hexec, ?_, ?_, ?_, ?_, rfl, rfl, rfl, ?_, fun m => ?_, fun m hm => ⟨(htlane m).trans (hothers m hm), ?_⟩, ?_⟩
  · rw [htlane, hself, hsvc]
  · rw [htlane, hself, hcause]
  · rw [htlane, hself, harmed]
  · rw [htprf, hprf]
  · rw [htms, hums]
    rfl
  · have hvote : u.ms.voting = s.ms.voting &&& ~~~(maskOf fun j => j == l) :=
      (congrArg ModeSt.voting hums).trans (by simp [State.unvoted, ModeSt.inMode])
    rw [htms, hvote, inMask_without, hthree]
    cases m <;> rfl
  · rw [htprf, hprfOthers m hm, huprf]
  · refine (hframe.trans (hprfFrame.mono (by simp))).trans ?_
    exact sameBut_of _ _ _ fun p => by cases p <;> simp [Part.agree, ht]

theorem RpLane.past_of_due {p : RpLane} {d now late : Nat} (hd : p.dueNs = some d) (hpast : d + late ≤ now) :
    p.past now late = true := by
  simp [RpLane.past, hd, hpast]

theorem rollingProofOverdue_effect {s : State} {l : Lane} {d : Nat} (hdue : (s.prf.lanes.get l).due = true)
    (hfirst : (s.prf.lanes.get l).overdue = false) (hd : (s.prf.lanes.get l).dueNs = some d)
    (hpast : d + s.area.params.proofH * 1800000000000 ≤ s.nowNs) :
    ∃ t, exec (.rollingProofOverdue l) s = .next t ∧
      t.prf.lanes.get l = { s.prf.lanes.get l with overdue := true } ∧
      (∀ m : Lane, m ≠ l → t.prf.lanes.get m = s.prf.lanes.get m) ∧
      t.prf = { s.prf with lanes := t.prf.lanes } ∧ SameBut [.prf, .log, .mail, .host] s t := by
  obtain ⟨hself, hothers, hrest, hframe⟩ := s.modRp_effect l fun p => { p with overdue := true }
  set u := s.modRp l fun p => { p with overdue := true } with hu
  have hgo : ((s.prf.lanes.get l).due && !(s.prf.lanes.get l).overdue &&
      (s.prf.lanes.get l).past s.nowNs (s.area.params.proofH * 1800000000000)) = true := by
    rw [hdue, hfirst, RpLane.past_of_due hd hpast]
    rfl
  have hexec : exec (.rollingProofOverdue l) s = .next (u.alarmLane 0xC7 l [BitVec.ofNat 8 l.num]) := if_pos hgo
  have hprf : (u.alarmLane 0xC7 l [BitVec.ofNat 8 l.num]).prf = u.prf := by simp
  refine ⟨_, hexec, ?_, ?_, ?_, ?_⟩
  · rw [hprf]
    exact hself
  · rw [hprf]
    exact hothers
  · rw [hprf]
    exact hrest
  · exact (hframe.mono (by simp)).trans ((u.alarmLane_sameBut 0xC7 l _).mono (by simp))

/-- Number of the step of a side (R264). -/
def stepNum : Side → Nat
  | .low => 1
  | .high => 2

/-- The dissent runs of every output channel after a step. -/
def LaneK.stepped (k : LaneK) (outs silent : List Chan) (l : Lane) (first : Bool) : LaneK :=
  { k with outs := vmapIdx k.outs fun c o => if outs.contains c then o.dissentRun l first (!silent.contains c) else o }

/-- The output channels that gave no result in a step. -/
def State.silentOuts (s : State) (side : Side) (obs : PerLane (List (Chan × EchoItem))) : List Chan :=
  (((outChans s.part.chans).map fun c => (c, s.stepResult side obs c)).filter fun p => p.2.isNone).map fun p => p.1

theorem State.silentOuts_length (s : State) (side : Side) (obs : PerLane (List (Chan × EchoItem))) :
    (s.silentOuts side obs).length = ((outChans s.part.chans).filter fun c => (s.stepResult side obs c).isNone).length := by
  rw [State.silentOuts, List.length_map, List.filter_map, List.length_map]
  rfl

/-- The state after a step in which no channel failed, before its alarms. -/
def State.stepTaken (s : State) (side : Side) (obs : PerLane (List (Chan × EchoItem))) (l : Lane) : State :=
  let s1 := s.modRunK fun k => k.stepped (outChans s.part.chans) (s.silentOuts side obs) l (s.prf.stepDone == 0)
  { s1 with prf := { s1.prf with
      stepDone := s1.prf.stepDone + (stepNum side), noResult := satAdd 255 s1.prf.noResult (s.silentOuts side obs).length } }

/-- The channels alarmed after a step: none after the low side's. -/
def State.stepAlarms (s : State) (side : Side) (obs : PerLane (List (Chan × EchoItem))) (l : Lane) : List Chan :=
  if s.prf.stepDone == 0 then []
  else (s.silentOuts side obs).filter fun c => ((s.stepTaken side obs l).leadK.outs[c]).noDissent.get l == 3

theorem execDissentStep_sound {s : State} {l : Lane} {side : Side} {obs : PerLane (List (Chan × EchoItem))}
    (hphase : s.prf.phase = .dissent) (hstep : s.prf.stepDone + 1 = (stepNum side))
    (htick : tickGe s.ms.tick (s.prf.startTick + BitVec.ofNat 32 (stepNum side)) = true) (hlane : s.provedLane = some l)
    (hsound : ∀ c : Chan, (s.chan c).mode.isOut = true → s.stepResult side obs c ≠ some false) :
    exec (.dissentStep side obs) s =
      .next ((s.stepAlarms side obs l).foldl (fun t c => t.alarmChan 0xCE c []) (s.stepTaken side obs l)) := by
  have hnone : (((outChans s.part.chans).map fun c => (c, s.stepResult side obs c)).filter fun p => p.2 == some false) = [] := by
    refine List.filter_eq_nil_iff.mpr fun p hp => ?_
    obtain ⟨c, hc, rfl⟩ := List.mem_map.mp hp
    have hmode : (s.chan c).mode.isOut = true := (List.mem_filter.mp hc).2
    simpa using hsound c hmode
  have hstart : (s.prf.phase != .dissent || s.prf.stepDone + 1 != stepNum side ||
      !tickGe s.ms.tick (s.prf.startTick + BitVec.ofNat 32 (stepNum side))) = false := by
    simp [hphase, hstep, htick]
  have hexec : exec (.dissentStep side obs) s = if (s.prf.phase != .dissent || s.prf.stepDone + 1 != stepNum side ||
      !tickGe s.ms.tick (s.prf.startTick + BitVec.ofNat 32 (stepNum side))) then .next s else
      match s.provedLane with
      | none => .next s
      | some l =>
        if !(((((outChans s.part.chans).map fun c => (c, s.stepResult side obs c)).filter fun p => p.2 == some false).map
            fun p => p.1).isEmpty) then
          .next (s.dissentFailed side ((((outChans s.part.chans).map fun c => (c, s.stepResult side obs c)).filter
            fun p => p.2 == some false).map fun p => p.1))
        else .next ((s.stepAlarms side obs l).foldl (fun t c => t.alarmChan 0xCE c []) (s.stepTaken side obs l)) := by
    cases side <;> rfl
  rw [hexec, if_neg (by simp [hstart]), hlane, hnone]
  rfl


theorem dissentStep_effect {s : State} {l : Lane} {side : Side} {obs : PerLane (List (Chan × EchoItem))}
    (hphase : s.prf.phase = .dissent)
    (hturn : (side = .low ∧ s.prf.stepDone = 0 ∧ tickGe s.ms.tick (s.prf.startTick + 1) = true) ∨
      (side = .high ∧ s.prf.stepDone = 1 ∧ tickGe s.ms.tick (s.prf.startTick + 2) = true)) (hlane : s.provedLane = some l)
    (hsound : ∀ c : Chan, (s.chan c).mode.isOut = true → s.stepResult side obs c ≠ some false) :
    ∃ t, exec (.dissentStep side obs) s = .next t ∧
      t.prf.stepDone = (if side = .low then 1 else 3) ∧ t.prf.phase = .dissent ∧
      t.prf.noResult = min 255 (s.prf.noResult +
        ((outChans s.part.chans).filter (fun c => (s.stepResult side obs c).isNone)).length) ∧
      (∀ m : Lane, m.inMask s.running = false → t.lane m = s.lane m) ∧
      (side = .low → SameBut [.lanes, .prf] s t) ∧ SameBut [.lanes, .prf, .log, .mail, .host] s t := by
  have hstep : s.prf.stepDone + 1 = stepNum side ∧ tickGe s.ms.tick (s.prf.startTick + BitVec.ofNat 32 (stepNum side)) = true ∧
      s.prf.stepDone + stepNum side = (if side = .low then 1 else 3) := by
    rcases hturn with ⟨rfl, hdone, htick⟩ | ⟨rfl, hdone, htick⟩
    · exact ⟨by simp [hdone, stepNum], htick, by simp [hdone, stepNum]⟩
    · exact ⟨by simp [hdone, stepNum], htick, by simp [hdone, stepNum]⟩
  obtain ⟨hnext, htick, hdone⟩ := hstep
  set u := s.stepTaken side obs l with hu
  have halarms : SameBut [.log, .mail, .host] u ((s.stepAlarms side obs l).foldl (fun t c => t.alarmChan 0xCE c []) u) :=
    SameBut.foldl (fun t c => t.alarmChan_sameBut 0xCE c []) _ u
  have hframe : SameBut [.lanes, .prf] s u :=
    sameBut_of _ _ _ fun p => by cases p <;> simp [Part.agree, hu, State.stepTaken]
  refine ⟨_, execDissentStep_sound hphase hnext htick hlane hsound, ?_, ?_, ?_, fun m hm => ?_, fun hlow => ?_, ?_⟩
  · rw [halarms .prf (by simp), ← hdone]
    simp [hu, State.stepTaken]
  · rw [halarms .prf (by simp)]
    simpa [hu, State.stepTaken] using hphase
  · rw [halarms .prf (by simp), ← s.silentOuts_length]
    simp [hu, State.stepTaken, satAdd]
  · refine (lane_of_lanes (halarms .lanes (by simp)) m).trans ?_
    exact (State.lane_modRunK s m _).trans (if_neg (by simp [hm]))
  · have hzero : s.prf.stepDone = 0 := by
      rcases hturn with ⟨-, hdone, -⟩ | ⟨hside, -, -⟩
      · exact hdone
      · rw [hlow] at hside
        cases hside
    have hnoAlarm : s.stepAlarms side obs l = [] := by simp [State.stepAlarms, hzero]
    rw [hnoAlarm]
    exact hframe
  · exact (hframe.mono (by simp)).trans (halarms.mono (by simp))

/-- Settles O16. -/
theorem rollingProofSteps : Obligations.RollingProofSteps := by
  unfold Obligations.RollingProofSteps
  exact ⟨fun s l => rollingProofWithdrawal_effect, fun s l d => rollingProofOverdue_effect, fun s l side obs => dissentStep_effect⟩

end Sys2Proof.Machine
end

section
/-!
SUPPORT and O17. The lockout latch as it is set.
-/

namespace Sys2Proof.Machine

/-- What a latch record appended in its turn leaves (R482). -/
theorem State.appendLatch_effect (s : State) :
    s.appendLatch.aon = { s.aon with latrecPend := !s.nvm.ready } ∧
    (s.nvm.ready = true → ∃ r, s.appendLatch.nvm.latchLog.newest = some r ∧ r.stateByte = (if s.aon.latch then 0x5A else 0x00) ∧
      r.cause = s.aon.latchCause ∧ r.tick = s.aon.latchTick) ∧
    SameBut [.aon, .nvm] s s.appendLatch := by
  unfold State.appendLatch
  by_cases hready : s.nvm.ready = true
  · have htaken : (!s.nvm.ready) = false := by simpa using hready
    rw [if_neg (by simp [hready]), htaken]
    refine ⟨rfl, fun _ => ⟨_, Sectors.newest_append _ _, rfl, rfl, rfl⟩, sameBut_of _ _ _ fun p => by cases p <;> simp [Part.agree]⟩
  · have hwaits : (!s.nvm.ready) = true := by simpa using hready
    rw [if_pos hwaits, hwaits]
    exact ⟨rfl, fun h => absurd h hready, sameBut_of _ _ _ fun p => by cases p <;> simp [Part.agree]⟩

theorem State.endTrial_effect (s : State) (cause : BitVec 4) :
    (s.endTrial cause).aon = s.aon ∧ (s.endTrial cause).nvm.latchLog = s.nvm.latchLog ∧
      SameBut [.nvm, .upd, .log, .mail, .host] s (s.endTrial cause) := by
  have hbank : (s.putBankRec fun r => { r with failed := s.bankDigest s.trialBank, state := .stable }).nvm.latchLog = s.nvm.latchLog := by
    unfold State.putBankRec
    dsimp only
    split <;> rfl
  refine ⟨by simp [State.endTrial], by simpa [State.endTrial] using hbank, ?_⟩
  exact sameBut_of _ _ _ fun p => by cases p <;> simp [Part.agree, State.endTrial]

/-- The hub sets the latch of a module in RUN or RUN-2 (R45, R48). -/
theorem State.setLatch_effect {s : State} (hclear : s.aon.latch = false) (hmode : s.ms.mode = .run ∨ s.ms.mode = .run2) (cause : Byte) :
    (s.setLatch cause).aon.latch = true ∧ (s.setLatch cause).aon.latchCause = cause ∧ (s.setLatch cause).aon.latchTick = s.ms.tick ∧
    (s.setLatch cause).ms.mode = .lockout ∧
    (∃ r, (s.setLatch cause).aon.faultRec = some r ∧ r.src = 3 ∧ r.code = cause) ∧
    (s.nvm.ready = true → ∃ r, (s.setLatch cause).nvm.latchLog.newest = some r ∧ r.stateByte = 0x5A ∧ r.cause = cause ∧
      r.tick = s.ms.tick) ∧
    (s.nvm.ready = false → (s.setLatch cause).aon.latrecPend = true) ∧
    SameBut [.aon, .nvm, .ms, .log, .mail, .host, .upd] s (s.setLatch cause) := by
  unfold State.setLatch
  rw [if_neg (by simp [hclear])]
  extract_lets _ s1 s2 s3
  obtain ⟨haon, hrec, hframe⟩ := (s1.latchFault 0x03 cause 0 [s1.modMode]).appendLatch_effect
  have hs2 : s2.aon = (s1.latchFault 0x03 cause 0 [s1.modMode]).appendLatch.aon ∧
      s2.nvm = (s1.latchFault 0x03 cause 0 [s1.modMode]).appendLatch.nvm := ⟨by simp [s2], by simp [s2]⟩
  have hs3 : s3.aon = s2.aon ∧ s3.nvm.latchLog = s2.nvm.latchLog ∧ SameBut [.nvm, .upd, .log, .mail, .host] s2 s3 := by
    dsimp only [s3]
    split
    · exact s2.endTrial_effect 3
    · exact ⟨rfl, rfl, .refl _ _⟩
  obtain ⟨h3aon, h3log, h3frame⟩ := hs3
  have hrun : (s.ms.mode == .run || s.ms.mode == .run2) = true := by
    rcases hmode with h | h <;> rw [h] <;> rfl
  have haon' : (s3.setMode .lockout).aon = { s.aon with
      latch := true, latchCause := cause, latchTick := s.ms.tick, latrecPend := !s.nvm.ready
      faultRec := (s1.latchFault 0x03 cause 0 [s1.modMode]).aon.faultRec } := by
    rw [(State.setMode_frame s3 .lockout).2.2.2.2.2.1, h3aon, hs2.1, haon]
    rfl
  rw [if_pos hrun]
  obtain ⟨since, hms⟩ := s3.setMode_inMode .lockout
  rw [haon', hms]
  refine ⟨rfl, rfl, rfl, rfl, ⟨_, rfl, rfl, rfl⟩, fun hready => ?_, fun hnot => by simp [hnot], ?_⟩
  · obtain ⟨r, hnewest, hstate, hcause, htick⟩ := hrec hready
    refine ⟨r, ?_, hstate, hcause, htick⟩
    rw [(State.setMode_frame s3 .lockout).2.2.2.2.2.2.2.2.2.2.2.2.2.2.1, h3log, hs2.2, hnewest]
  · have hs1 : SameBut [.aon] s (s1.latchFault 0x03 cause 0 [s1.modMode]) :=
      sameBut_of _ _ _ fun p => by cases p <;> simp [Part.agree, s1]
    have hbell : SameBut [.mail, .host] (s1.latchFault 0x03 cause 0 [s1.modMode]).appendLatch s2 :=
      sameBut_of _ _ _ fun p => by cases p <;> simp [Part.agree, s2]
    have hset : SameBut [.ms, .log, .mail, .host] s3 (s3.setMode .lockout) :=
      sameBut_of _ _ _ fun p => by cases p <;> simp [Part.agree]
    exact ((((hs1.mono (by simp)).trans (hframe.mono (by simp))).trans (hbell.mono (by simp))).trans (h3frame.mono (by simp))).trans
      (hset.mono (by simp))

/-- The mask of a vote that is not empty names a lane. -/
theorem countMask_pos {m : BitVec 3} (h : m ≠ 0) : 0 < countMask m := by
  revert m
  decide

theorem State.moduleFault_of_vote {s : State} (h : s.ms.voting ≠ 0) (cause : Byte) : s.moduleFault cause s.ms.voting = s.setLatch cause := by
  have hpos := countMask_pos h
  rw [State.moduleFault, if_pos]
  simp
  omega

/-- Full silence begins where NET has power and is not silent already (R324). -/
theorem State.fullSilence_eq {s : State} (hsilent : s.net.fullSilent = false) (hon : s.pwr.dom.getLsbD 2 = true) (code : BitVec 3) :
    s.fullSilence code = (({ s with net := { s.net with
      state := .fullSilence, silent := true, fullSilent := true, fullCause := code } } : State).alarmNode 0xD1
        [code.setWidth 8]).orphanLocks 4 := by
  unfold State.fullSilence
  rw [if_neg]
  rw [hsilent, hon]
  decide

theorem State.fullSilence_net {s : State} (hsilent : s.net.fullSilent = false) (hon : s.pwr.dom.getLsbD 2 = true) (code : BitVec 3) :
    (s.fullSilence code).net = { s.net with state := .fullSilence, silent := true, fullSilent := true, fullCause := code } := by
  rw [State.fullSilence_eq hsilent hon]
  simp

/-- Settles O17. -/
theorem latchSetsWithItsCause : Obligations.LatchSetsWithItsCause := by
  unfold Obligations.LatchSetsWithItsCause
  intro s hclear hmode
  refine ⟨fun hphase => ?_, fun since hsince hlimit hover hvote => ?_, ?_⟩
  · have hticks : s.inTicks = true := by simp [State.inTicks, hmode, hphase]
    obtain ⟨hlatch, hcause, htick, hlock, hrec, hlog, hwait, hframe⟩ := State.setLatch_effect hclear (.inr hmode) 0x07
    exact ⟨_, by simp [exec, execHubNoAgreeingDigests, hticks], hlatch, hcause, htick, hlock, hrec, hlog, hwait, hframe⟩
  · have hrun2Over : s.run2Over = true := by simp [State.run2Over, hsince, hlimit, hover]
    have hexec : exec .run2LimitExpiry s = .next (s.setLatch 0x08) := by
      rw [← State.moduleFault_of_vote hvote]
      simp [exec, execRun2LimitExpiry, hmode, hrun2Over]
    obtain ⟨hlatch, hcause, htick, hlock, -, -, -, hframe⟩ := State.setLatch_effect hclear (.inr hmode) 0x08
    exact ⟨_, hexec, hlatch, hcause, htick, hlock, hframe⟩
  · set u := (s.latchFault 0x05 0 0 []).fullSilence 4 with hu
    obtain ⟨hlatch, hcause, htick, hlock, -, -, -, hframe⟩ := State.setLatch_effect (s := u) (by simpa [hu, State.latchFault] using hclear)
      (.inr (by simpa [hu] using hmode)) 0x0A
    refine ⟨_, rfl, hlatch, hcause, htick.trans (by simp [hu]), hlock, fun hon => ?_, ?_⟩
    · have hnet : (u.setLatch 0x0A).net = u.net := hframe .net (by simp)
      rw [hnet]
      by_cases hsilent : s.net.fullSilent = true
      · exact .inr hsilent
      · have hfalse : s.net.fullSilent = false := by simpa using hsilent
        exact .inl (congrArg Net.state (State.fullSilence_net (s := s.latchFault 0x05 0 0 []) hfalse hon 4))
    · have hfirst : SameBut [.aon, .log, .mail, .host, .net, .sh] s u :=
        sameBut_of _ _ _ fun p => by cases p <;> simp [Part.agree, hu]
      exact (hfirst.mono (by simp)).trans (hframe.mono (by simp))

end Sys2Proof.Machine
end

section
/-!
O18. Exclusions of replicas, and reflexes that time out.
-/

namespace Sys2Proof.Machine

/-! ### The sixteenth dissent (R187) -/

theorem PerLane.set_set {α : Type} (p : PerLane α) (l : Lane) (x y : α) : (p.set l x).set l y = p.set l y := by
  cases l <;> rfl

/-- Lane `l` has dissented on the input 15 times in a row. -/
def LaneK.nearLimit (k : LaneK) (l : Lane) (ch : Chan) : LaneK :=
  { k with ins := vmod k.ins ch fun i => { i with dissent := i.dissent.set l 15 } }

/-- The agreed value of an input that is active. -/
def firmActive : Agreed := ⟨true, false, false, 0, some .active⟩

/-- The sixteenth dissent excludes the lane's replica of the input. -/
theorem Loc.dissent_sixteenth (x : Loc) (l : Lane) (ch : Chan) :
    ((Loc.dissent { x with k := x.k.nearLimit l ch } ch firmActive [(l, .inactive)]).1).vflt = x.vflt ∧
    ((Loc.dissent { x with k := x.k.nearLimit l ch } ch firmActive [(l, .inactive)]).1).k.ins =
      vmod x.k.ins ch fun i => { i with dissent := i.dissent.set l 0, excl := i.excl.set l true } := by
  have hcount : ((x.k.nearLimit l ch).ins[ch.val]).dissent.get l + 1 = 16 := by simp [LaneK.nearLimit, vmod]
  simp only [Loc.dissent, firmActive, List.foldl_cons, List.foldl_nil, Fin.getElem_fin, hcount]
  refine ⟨rfl, ?_⟩
  simp [LaneK.nearLimit, vmod, PerLane.set_set]

theorem LaneK.applyLocks_ins (k : LaneK) (tick : Tick) : (k.applyLocks tick).ins = k.ins := rfl

theorem dissentRunExclusion_effect {s : State} {l : Lane} {ch : Chan} (hmode : (s.chan ch).mode.isIn = true)
    (hexcl : s.leadK.ins[ch].excl.get l = false) :
    ∃ t, exec (.dissentRunExclusion l ch) s = .next t ∧
      (∀ m : Lane, m.inMask s.running = true →
        ((t.lane m).region.k.ins[ch]).excl = ((s.lane m).region.k.ins[ch]).excl.set l true ∧
        ((t.lane m).region.k.ins[ch]).dissent = ((s.lane m).region.k.ins[ch]).dissent.set l 0 ∧
        (∀ c : Chan, c ≠ ch → (t.lane m).region.k.ins[c] = (s.lane m).region.k.ins[c])) ∧
      (∀ m : Lane, m.inMask s.running = false → t.lane m = s.lane m) ∧
      SameBut [.lanes, .fld, .vot, .log, .mail, .host] s t := by
  have hgo : (!(s.chan ch).mode.isIn || s.leadK.ins[ch].excl.get l) = false := by rw [hmode, hexcl]; rfl
  have hexec : exec (.dissentRunExclusion l ch) s = .next (s.locStep fun x =>
      (Loc.dissent { x with k := x.k.nearLimit l ch } ch firmActive [(l, .inactive)]).1) := if_neg (by rw [hgo]; decide)
  obtain ⟨hruns, hrest, hframe⟩ := State.locStep_locks (s := s)
    (f := fun x => (Loc.dissent { x with k := x.k.nearLimit l ch } ch firmActive [(l, .inactive)]).1)
    fun k => ((Loc.start k).dissent_sixteenth l ch).1
  refine ⟨_, hexec, fun m hm => ?_, hrest, hframe⟩
  rw [hruns m hm, LaneK.applyLocks_ins, ((Loc.start (s.lane m).region.k).dissent_sixteenth l ch).2]
  refine ⟨?_, ?_, fun c hc => vmod_ne _ _ _ _ hc⟩
  · exact congrArg InK.excl (vmod_self _ _ _)
  · exact congrArg InK.dissent (vmod_self _ _ _)

/-! ### Reflexes that time out (R199, R214) -/

/-- A channel commanded off has no run on. -/
theorem OutK.recommand_off (o : OutK) (tick : Tick) : (o.recommand tick false).onRun = 0 := by
  unfold OutK.recommand
  split
  next h => simpa using h
  next => rfl

/-- A lane's work under a reflex entry that has timed out. -/
def LaneK.timedOut (k : LaneK) (tick : Tick) (entry : Fin 64) (en : ReflexEntry) (off : BitVec 48) : LaneK :=
  { k with
    reflexLatch := vmod k.reflexLatch entry (fun x => x || en.hold)
    cmdRun := vmapIdx k.cmdRun (fun c n => if en.outMask.getLsbD c.val && decide (0 < n) then max n en.limit else n)
    partO := Vector.ofFn (fun i =>
      if i.val = 0 then k.partO[0] &&& ~~~off else if i.val = 1 then k.partO[1] ||| off else k.partO[i])
    outs := vmapIdx k.outs (fun c o => if off.getLsbD c.val then o.recommand tick false else o) }

theorem LaneK.timedOut_effect (k : LaneK) (tick : Tick) (entry : Fin 64) (en : ReflexEntry) (off : BitVec 48) :
    (k.timedOut tick entry en off).partO[0] = k.partO[0] &&& ~~~off ∧
    (k.timedOut tick entry en off).partO[1] = k.partO[1] ||| off ∧
    (k.timedOut tick entry en off).partO[2] = k.partO[2] ∧
    (k.timedOut tick entry en off).reflexLatch[entry] = (k.reflexLatch[entry] || en.hold) ∧
    ∀ c : Chan, off.getLsbD c.val = true → ((k.timedOut tick entry en off).outs[c]).onRun = 0 := by
  refine ⟨by simp [LaneK.timedOut], by simp [LaneK.timedOut], by simp [LaneK.timedOut], vmod_self _ _ _, fun c hc => ?_⟩
  have hout : (k.timedOut tick entry en off).outs[c] = (k.outs[c]).recommand tick false :=
    (vmapIdx_get _ _ c.val c.isLt).trans (if_pos hc)
  rw [hout, OutK.recommand_off]

theorem reflexTimeout_effect {s : State} {entry : Fin 64} {en : ReflexEntry} (hentry : s.part.reflexAt entry = some en)
    (hkind : en.kind = .timeout) :
    ∃ t, exec (.reflexTimeout entry) s = .next t ∧
      (∀ m : Lane, m.inMask s.running = true →
        (t.lane m).region.k.partO[0] = (s.lane m).region.k.partO[0] &&& ~~~(en.outMask &&& outMaskOf s.part.chans) ∧
        (t.lane m).region.k.partO[1] = (s.lane m).region.k.partO[1] ||| (en.outMask &&& outMaskOf s.part.chans) ∧
        (t.lane m).region.k.partO[2] = (s.lane m).region.k.partO[2] ∧
        (t.lane m).region.k.reflexLatch[entry] = ((s.lane m).region.k.reflexLatch[entry] || en.hold) ∧
        (∀ c : Chan, (en.outMask &&& outMaskOf s.part.chans).getLsbD c.val = true → ((t.lane m).region.k.outs[c]).onRun = 0)) ∧
      (∀ m : Lane, m.inMask s.running = false → t.lane m = s.lane m) ∧ SameBut [.lanes] s t := by
  have hexec : exec (.reflexTimeout entry) s =
      .next (s.modRunK fun k => k.timedOut s.ms.tick entry en (en.outMask &&& outMaskOf s.part.chans)) := by
    simp only [exec, execReflexTimeout, hentry, hkind]
    rfl
  refine ⟨_, hexec, fun m hm => ?_, fun m hm => ?_, s.modRunK_sameBut _⟩
  · rw [State.lane_modRunK, if_pos hm]
    exact (s.lane m).region.k.timedOut_effect _ _ _ _
  · rw [State.lane_modRunK, if_neg (by simp [hm])]

/-- Settles O18. -/
theorem exclusionsAndReflexTimeouts : Obligations.ExclusionsAndReflexTimeouts := by
  unfold Obligations.ExclusionsAndReflexTimeouts
  exact ⟨fun s l ch => dissentRunExclusion_effect, fun s entry en => reflexTimeout_effect⟩

end Sys2Proof.Machine
end

section
/-! SUPPORT. Resets of the block (O19): POR, PIN and WARM, the release of POR, and HOSTR. -/
namespace Sys2Proof.Machine

/-! ### The start of BOOT (R443, R473) -/

/-- What the start of BOOT leaves of AON, and that it counts the restart. -/
structure Aon.Restarted (a b : Aon) : Prop where
  restart : b.restart = a.restart + 1
  counters : b.counters = a.counters
  plossCnt : b.plossCnt = a.plossCnt
  latch : b.latch = a.latch
  latchCause : b.latchCause = a.latchCause
  latchTick : b.latchTick = a.latchTick
  timeNs : b.timeNs = a.timeNs
  kind : b.kind = a.kind
  warmSrc : b.warmSrc = a.warmSrc
  sessBits : b.sessBits = a.sessBits

/-- The parts of NVM1 that a reset of the block leaves. -/
structure Nvm.Stays (u v : Nvm) : Prop where
  bank0 : v.bank0 = u.bank0
  bank1 : v.bank1 = u.bank1
  rec0 : v.rec0 = u.rec0
  rec1 : v.rec1 = u.rec1
  latchLog : v.latchLog = u.latchLog

theorem Nvm.Stays.trans {u v w : Nvm} (h : Nvm.Stays u v) (k : Nvm.Stays v w) : Nvm.Stays u w :=
  ⟨k.bank0.trans h.bank0, k.bank1.trans h.bank1, k.rec0.trans h.rec0, k.rec1.trans h.rec1, k.latchLog.trans h.latchLog⟩

theorem State.appendRetService_effect (s : State) :
    (∃ p, s.appendRetService.aon = { s.aon with retrecPend := p }) ∧ Nvm.Stays s.nvm s.appendRetService.nvm := by
  unfold State.appendRetService
  split
  · exact ⟨⟨true, rfl⟩, rfl, rfl, rfl, rfl, rfl⟩
  · exact ⟨⟨false, rfl⟩, rfl, rfl, rfl, rfl, rfl⟩

theorem State.bootStart_effect (s : State) :
    Aon.Restarted s.aon s.bootStart.aon ∧ Nvm.Stays s.nvm s.bootStart.nvm ∧
    s.bootStart.ms = { s.ms with bootFail := s.ms.bootFail || s.fuses.retired } ∧ SameBut [.ms, .aon, .nvm] s s.bootStart := by
  obtain ⟨s1, hs1⟩ : ∃ s1, s1 = ({ s with aon := { s.aon with restart := s.aon.restart + 1 } } : State).appendRetService := ⟨_, rfl⟩
  obtain ⟨⟨p, haon⟩, hnvm⟩ := ({ s with aon := { s.aon with restart := s.aon.restart + 1 } } : State).appendRetService_effect
  rw [← hs1] at haon hnvm
  have hms : s1.ms = s.ms := by simp [hs1]
  have hfuses : s1.fuses = s.fuses := by simp [hs1]
  have heq : s.bootStart = if s1.fuses.retired then
      ({ s1 with ms := { s1.ms with bootFail := true } } : State).latchFault 0x06 0 0 [] else s1 := by
    rw [hs1]
    rfl
  rw [heq, hfuses]
  cases hret : s.fuses.retired
  case true =>
    refine ⟨by constructor <;> simp [State.latchFault, haon], hnvm, by simp [hms], ?_⟩
    exact sameBut_of _ _ _ fun q => by cases q <;> simp [Part.agree, hs1]
  case false =>
    refine ⟨by constructor <;> simp [haon], hnvm, by simp [hms], ?_⟩
    exact sameBut_of _ _ _ fun q => by cases q <;> simp [Part.agree, hs1]

/-! ### POR (R470, R473, R482, R484, R486) -/

theorem State.restoreLog_effect (s : State) : SameBut [.log, .mail, .host, .nvm] s s.restoreLog ∧ Nvm.Stays s.nvm s.restoreLog.nvm := by
  unfold State.restoreLog
  split
  · exact ⟨sameBut_of _ _ _ fun q => by cases q <;> simp [Part.agree], rfl, rfl, rfl, rfl, rfl⟩
  · split
    · exact ⟨sameBut_of _ _ _ fun q => by cases q <;> simp [Part.agree], rfl, rfl, rfl, rfl, rfl⟩
    · exact ⟨sameBut_of _ _ _ fun q => by cases q <;> simp [Part.agree], by constructor <;> simp⟩

theorem State.reportStore_effect (s : State) :
    SameBut [.log, .mail, .host, .nvm] s s.reportStore ∧ Nvm.Stays s.nvm s.reportStore.nvm := by
  unfold State.reportStore
  split
  · exact ⟨sameBut_of _ _ _ fun q => by cases q <;> simp [Part.agree], rfl, rfl, rfl, rfl, rfl⟩
  · exact ⟨sameBut_of _ _ _ fun q => by cases q <;> simp [Part.agree], by constructor <;> simp⟩

theorem latchOf_effect (t : Option LatchRec) :
    (t = none → (latchOf t).1 = false) ∧
    (∀ r, t = some r →
      (r.valid = true → r.stateByte = 0x00 → (latchOf t).1 = false) ∧
      (r.valid = true → r.stateByte = 0x5A → latchOf t = (true, r.cause, r.tick)) ∧
      (r.valid = false → latchOf t = (true, 9, 0))) := by
  refine ⟨fun h => by simp [latchOf, h], fun r h => ⟨fun hv hb => ?_, fun hv hb => ?_, fun hv => ?_⟩⟩
  · simp [latchOf, h, hv, hb]
  · simp [latchOf, h, hv, hb]
  · simp [latchOf, h, hv]

/-- POR is a state of reset values and what NVM1 holds, then the restored log, the store's report and the start of BOOT. -/
theorem State.powerOn_eq (s : State) : ∃ u : State, s.powerOn = u.restoreLog.reportStore.bootStart ∧
    u.ms = ModeSt.reset ∧ u.sh = Shared.reset ∧ u.upd = State.reset.upd ∧ u.fld.stages = s.fld.stages ∧ Nvm.Stays s.nvm u.nvm ∧
    u.lanes = s.lanes.mapL (fun l x => x.afterReset (s.nvm.plans.1.get l) (s.nvm.gainOf (fun d => d.gain.get l))) ∧
    u.aon.timeNs = 0 ∧ u.aon.latch = (latchOf s.nvm.latchLog.newest).1 ∧
    u.aon.latchCause = (latchOf s.nvm.latchLog.newest).2.1 ∧ u.aon.latchTick = (latchOf s.nvm.latchLog.newest).2.2 ∧
    (∀ r, validRet s.nvm.retLog = some r →
      u.aon.restart = r.restart ∧ u.aon.counters = r.counters ∧ u.aon.plossCnt = r.plossCnt) ∧
    SameBut [.ms, .rrq, .lanes, .fld, .vot, .pair, .aon, .pwr, .sh, .crc, .mail, .net, .tim, .gal, .buf, .log, .nvm, .upd,
      .prf, .host] s u := by
  refine ⟨_, rfl, rfl, rfl, rfl, rfl, ⟨rfl, rfl, rfl, rfl, rfl⟩, rfl, rfl, rfl, rfl, rfl, fun r hr => ?_, ?_⟩
  · simp [hr]
  · exact sameBut_of _ _ _ fun q => by cases q <;> simp [Part.agree]

/-- R470, R473, R482, R484, R486: what POR leaves. -/
theorem State.powerOn_effect (s : State) :
    s.powerOn.ms.mode = .boot ∧ s.powerOn.ms.outHold = true ∧ s.powerOn.ms.porHeld = true ∧ s.powerOn.ms.voting = 0 ∧
    s.powerOn.aon.timeNs = 0 ∧
    (s.powerOn.aon.latch, s.powerOn.aon.latchCause, s.powerOn.aon.latchTick) = latchOf s.nvm.latchLog.newest ∧
    (∀ r, validRet s.nvm.retLog = some r →
      s.powerOn.aon.restart = r.restart + 1 ∧ s.powerOn.aon.counters = r.counters ∧ s.powerOn.aon.plossCnt = r.plossCnt) ∧
    (∀ l : Lane, ∃ plan gain, s.powerOn.lane l = (s.lane l).afterReset plan gain) ∧
    s.powerOn.sh = Shared.reset ∧ s.powerOn.upd = State.reset.upd ∧ s.powerOn.fld.stages = s.fld.stages ∧
    Nvm.Stays s.nvm s.powerOn.nvm ∧
    SameBut [.ms, .rrq, .lanes, .fld, .vot, .pair, .aon, .pwr, .sh, .crc, .mail, .net, .tim, .gal, .buf, .log, .nvm, .upd,
      .prf, .host] s s.powerOn := by
  obtain ⟨u, heq, hms, hsh, hupd, hstages, hnvm, hlanes, htime, hlatch, hcause, htick, hret, hsame⟩ := s.powerOn_eq
  obtain ⟨hlog, hlognvm⟩ := u.restoreLog_effect
  obtain ⟨hstore, hstorenvm⟩ := u.restoreLog.reportStore_effect
  obtain ⟨haon, hbootnvm, hbootms, hboot⟩ := u.restoreLog.reportStore.bootStart_effect
  have hrep := hlog.trans hstore
  have hall : SameBut [.log, .mail, .host, .nvm, .ms, .aon] u u.restoreLog.reportStore.bootStart :=
    (hrep.mono (by simp)).trans (hboot.mono (by simp))
  have e_ms : u.restoreLog.reportStore.ms = u.ms := hrep .ms (by simp)
  have e_aon : u.restoreLog.reportStore.aon = u.aon := hrep .aon (by simp)
  have e_sh : u.restoreLog.reportStore.bootStart.sh = u.sh := hall .sh (by simp)
  have e_upd : u.restoreLog.reportStore.bootStart.upd = u.upd := hall .upd (by simp)
  have e_fld : u.restoreLog.reportStore.bootStart.fld = u.fld := hall .fld (by simp)
  have e_lanes : u.restoreLog.reportStore.bootStart.lanes = u.lanes := hall .lanes (by simp)
  rw [e_ms, hms] at hbootms
  rw [e_aon] at haon
  rw [heq]
  refine ⟨by rw [hbootms]; rfl, by rw [hbootms]; rfl, by rw [hbootms]; rfl, by rw [hbootms]; rfl, haon.timeNs.trans htime, ?_,
    fun r hr => ?_, fun l => ?_, e_sh.trans hsh, e_upd.trans hupd, (congrArg Field.stages e_fld).trans hstages, ?_, ?_⟩
  · rw [haon.latch, haon.latchCause, haon.latchTick, hlatch, hcause, htick]
  · obtain ⟨hr1, hr2, hr3⟩ := hret r hr
    exact ⟨by rw [haon.restart, hr1], haon.counters.trans hr2, haon.plossCnt.trans hr3⟩
  · exact ⟨_, _, (congrArg (PerLane.get · l) (e_lanes.trans hlanes)).trans (PerLane.get_mapL _ _ _)⟩
  · exact ((hnvm.trans hlognvm).trans hstorenvm).trans hbootnvm
  · exact hsame.trans (hall.mono (by simp))

/-! ### PIN and WARM (R411, R417, R470, R471) -/

/-- A PIN or WARM reset is a state of reset values and what outlasts it, then the start of BOOT. -/
theorem State.moduleReset_eq (s : State) (kind warm : BitVec 4) : ∃ u : State, s.moduleReset kind warm = u.bootStart ∧
    u.ms = { ModeSt.reset with porHeld := false } ∧ u.aon = { s.aon with kind := kind, warmSrc := warm, sessBits := 0 } ∧
    u.mail.sec = vmapIdx s.mail.sec (fun ch m => m.afterReset (s.aon.sessBits.getLsbD ch.val)) ∧
    u.mail.non = s.mail.non.map (fun m => m.afterReset false) ∧
    u.lanes = s.lanes.mapL (fun l x => x.afterReset (s.aon.planStore.get l) (s.nvm.gainOf (fun d => d.gain.get l))) ∧
    u.sh = Shared.reset ∧ u.upd = State.reset.upd ∧ u.log.recs = s.log.recs ∧ u.nvm = s.nvm ∧
    SameBut [.ms, .rrq, .lanes, .fld, .vot, .pair, .aon, .pwr, .sh, .crc, .mail, .net, .tim, .gal, .buf, .log, .nvm, .upd,
      .prf, .host] s u := by
  refine ⟨_, rfl, rfl, rfl, rfl, rfl, rfl, rfl, rfl, rfl, rfl, ?_⟩
  exact sameBut_of _ _ _ fun q => by cases q <;> simp [Part.agree]

/-- R411, R417, R470, R471: what a PIN or WARM reset leaves. -/
theorem State.moduleReset_effect (s : State) (kind warm : BitVec 4) :
    (s.moduleReset kind warm).ms.mode = .boot ∧ (s.moduleReset kind warm).ms.outHold = true ∧
    (s.moduleReset kind warm).ms.porHeld = false ∧ (s.moduleReset kind warm).ms.voting = 0 ∧
    Aon.Restarted { s.aon with kind := kind, warmSrc := warm, sessBits := 0 } (s.moduleReset kind warm).aon ∧
    (∀ ch : Fin 8, (s.moduleReset kind warm).mbx true ch = (s.mbx true ch).afterReset (s.aon.sessBits.getLsbD ch.val) ∧
      (s.moduleReset kind warm).mbx false ch = (s.mbx false ch).afterReset false) ∧
    (∀ l : Lane, ∃ plan gain, (s.moduleReset kind warm).lane l = (s.lane l).afterReset plan gain) ∧
    (s.moduleReset kind warm).sh = Shared.reset ∧ (s.moduleReset kind warm).upd = State.reset.upd ∧
    (s.moduleReset kind warm).log.recs = s.log.recs ∧ Nvm.Stays s.nvm (s.moduleReset kind warm).nvm ∧
    SameBut [.ms, .rrq, .lanes, .fld, .vot, .pair, .aon, .pwr, .sh, .crc, .mail, .net, .tim, .gal, .buf, .log, .nvm, .upd,
      .prf, .host] s (s.moduleReset kind warm) := by
  obtain ⟨u, heq, hms, hAon, hsec, hnon, hlanes, hsh, hupd, hlog, hNvm, hsame⟩ := s.moduleReset_eq kind warm
  obtain ⟨haon, hnvm, hbootms, hboot⟩ := u.bootStart_effect
  have e_mail : u.bootStart.mail = u.mail := hboot .mail (by simp)
  have e_lanes : u.bootStart.lanes = u.lanes := hboot .lanes (by simp)
  have e_sh : u.bootStart.sh = u.sh := hboot .sh (by simp)
  have e_upd : u.bootStart.upd = u.upd := hboot .upd (by simp)
  have e_log : u.bootStart.log = u.log := hboot .log (by simp)
  rw [hms] at hbootms
  rw [hAon] at haon
  rw [hNvm] at hnvm
  rw [heq]
  refine ⟨by rw [hbootms]; rfl, by rw [hbootms]; rfl, by rw [hbootms], by rw [hbootms]; rfl, haon, fun ch => ⟨?_, ?_⟩,
    fun l => ⟨s.aon.planStore.get l, s.nvm.gainOf (fun d => d.gain.get l), ?_⟩, e_sh.trans hsh, e_upd.trans hupd, (congrArg Log.recs e_log).trans hlog, hnvm, ?_⟩
  · exact (State.mbx_of_mail e_mail true ch).trans ((congrArg (·[ch]) hsec).trans (vmapIdx_get _ _ ch.val ch.isLt))
  · exact (State.mbx_of_mail e_mail false ch).trans ((congrArg (·[ch]) hnon).trans (Vector.getElem_map _ _))
  · exact (congrArg (PerLane.get · l) (e_lanes.trans hlanes)).trans (PerLane.get_mapL _ _ _)
  · exact hsame.trans (hboot.mono (by simp))

/-- A PIN or WARM reset that is not discarded is a module reset of the state at its end. -/
theorem exec_moduleReset {s t0 : State} {c : Instr} {kind warm : BitVec 4} (hphase : s.pwr.phase = .normal)
    (hpor : s.ms.porHeld = false)
    (hc : (∃ us, 10 ≤ us ∧ c = .pin us ∧ t0 = s.passUs us ∧ kind = 2 ∧ warm = 0) ∨
      (∃ l m : Lane, l ≠ m ∧ l.inMask s.acting = true ∧ m.inMask s.acting = true ∧
        c = .warm (.laneRequest l m) ∧ t0 = s ∧ kind = 3 ∧ warm = 2) ∨
      (s.ms.mode = .lockout ∧ s.aon.latch = false ∧ c = .warm .lockoutCleared ∧ t0 = s ∧ kind = 3 ∧ warm = 1)) :
    Sys2Proof.Machine.exec c s = .next (t0.moduleReset kind warm) ∧ (∃ time, t0.aon = { s.aon with timeNs := time }) ∧
      SameBut [.aon] s t0 := by
  have hwarm (src : BitVec 4) : s.warmReset src = s.moduleReset 3 src := if_pos (by simp [hphase, hpor])
  have hself : (∃ time, s.aon = { s.aon with timeNs := time }) ∧ SameBut [.aon] s s :=
    ⟨⟨s.aon.timeNs, rfl⟩, sameBut_of _ _ _ fun q => by cases q <;> simp [Part.agree]⟩
  obtain ⟨us, hus, rfl, rfl, rfl, rfl⟩ | ⟨l, m, hlm, hl, hm, rfl, h0, rfl, rfl⟩ | ⟨hmode, hlatch, rfl, h0, rfl, rfl⟩ := hc
  · refine ⟨?_, ⟨_, rfl⟩, sameBut_of _ _ _ fun q => by cases q <;> simp [Part.agree]⟩
    change execPin us s = _
    exact if_neg (by simp [hphase, hpor, hus])
  · rw [h0]
    exact ⟨(if_pos (by simp [hlm, hl, hm])).trans (by rw [hwarm]), hself⟩
  · rw [h0]
    exact ⟨(if_pos (by simp [hmode, hlatch])).trans (by rw [hwarm]), hself⟩

/-! ### HOSTR (R405, R411, R428, R470) -/

/-- R405, R411, R428, R470, R486: what a HOSTR leaves. -/
theorem State.hostReset_effect (s : State) :
    (∀ (b : Bool) (ch : Fin 8), s.hostReset.mbx b ch = (s.mbx b ch).afterHostr) ∧
    s.hostReset.mail.hostrPend = true ∧
    s.hostReset.aon = { s.aon with hostrCnt := satInc 255 s.aon.hostrCnt } ∧
    s.hostReset.pwr = { s.pwr with busMaster := false, d3hot := false, linkUp := false } ∧
    (∀ i : Fin 64, s.sh.locks[i].owner = 5 ∨ s.sh.locks[i].owner = 6 → s.hostReset.sh.locks[i] = ⟨0, true⟩) ∧
    (∀ i : Fin 64, s.sh.locks[i].owner ≠ 5 → s.sh.locks[i].owner ≠ 6 → s.hostReset.sh.locks[i] = s.sh.locks[i]) ∧
    (∀ i : Fin 16, s.hostReset.crc.chans[i] = if 12 ≤ i.val then Crc.reset else s.crc.chans[i]) ∧
    s.hostReset.log.recs = s.log.recs ∧ s.hostReset.log.en = false ∧
    SameBut [.mail, .aon, .pwr, .sh, .crc, .gal, .log, .upd, .prf, .host] s s.hostReset := by
  have hlocks (i : Fin 64) : s.hostReset.sh.locks[i] = (((s.sh.orphanLocks 5).withdraw 5).orphanLocks 6).locks[i] := by
    have hsh : s.hostReset.sh = (((s.sh.orphanLocks 5).withdraw 5).orphanLocks 6).withdraw 6 := rfl
    rw [hsh, Shared.withdraw]
  have hwithdraw (i : Fin 64) : ((s.sh.orphanLocks 5).withdraw 5).locks[i] = (s.sh.orphanLocks 5).locks[i] := by
    rw [Shared.withdraw]
  refine ⟨fun b ch => ?_, rfl, rfl, rfl, fun i hi => ?_, fun i h5 h6 => ?_, fun i => ?_, rfl, rfl, ?_⟩
  · cases b
    · exact (Vector.getElem_map _ _).trans (by rw [Vector.getElem_map]; rfl)
    · exact (Vector.getElem_map _ _).trans (by rw [Vector.getElem_map]; rfl)
  · rw [hlocks]
    by_cases h5 : s.sh.locks[i].owner = 5
    · have hfreed := ((s.sh.orphanLocks_effect (m := 5) (by decide) i).1 h5).1
      rw [((Shared.orphanLocks_effect _ (m := 6) (by decide) i).2 (by rw [hwithdraw, hfreed]; decide)), hwithdraw, hfreed]
    · have hkept := (s.sh.orphanLocks_effect (m := 5) (by decide) i).2 h5
      exact ((Shared.orphanLocks_effect _ (m := 6) (by decide) i).1 (by rw [hwithdraw, hkept]; exact hi.resolve_left h5)).1
  · rw [hlocks]
    have hkept := (s.sh.orphanLocks_effect (m := 5) (by decide) i).2 h5
    rw [((Shared.orphanLocks_effect _ (m := 6) (by decide) i).2 (by rw [hwithdraw, hkept]; exact h6)), hwithdraw, hkept]
  · exact vmapIdx_get _ _ i.val i.isLt
  · exact sameBut_of _ _ _ fun q => by cases q <;> simp [Part.agree, State.hostReset, State.hostRegsReset, State.orphanLocks]

/-- Settles O19: POR, PIN and WARM, the release of POR and HOSTR. -/
theorem resetsOfTheBlock : Obligations.ResetsOfTheBlock := by
  unfold Obligations.ResetsOfTheBlock
  refine ⟨fun s => ⟨s.powerOn, rfl, ?_⟩, fun s t0 c kind warm hphase hpor hc => ?_, fun s => ⟨fun hpor => if_pos hpor, fun hphase => ?_⟩⟩
  · obtain ⟨hmode, hhold, hpor, hvoting, htime, hlatch, hret, hlanes, hsh, hupd, hstages, hnvm, hsame⟩ := s.powerOn_effect
    obtain ⟨hnone, hsome⟩ := latchOf_effect s.nvm.latchLog.newest
    have hbit : s.powerOn.aon.latch = (latchOf s.nvm.latchLog.newest).1 := congrArg Prod.fst hlatch
    refine ⟨hmode, hhold, hpor, hvoting, htime, fun h => hbit.trans (hnone h), fun r hr => ?_, hret, fun l => ?_, fun i => ?_, ?_, ?_,
      hstages, hnvm.bank0, hnvm.bank1, hnvm.rec0, hnvm.rec1, hnvm.latchLog, hsame⟩
    · obtain ⟨hclear, hset, hbad⟩ := hsome r hr
      refine ⟨fun hv hb => hbit.trans (hclear hv hb), fun hv hb => ?_, fun hv => ?_⟩
      · simpa [hset hv hb] using hlatch
      · rw [hbad hv] at hlatch
        exact ⟨congrArg Prod.fst hlatch, congrArg (fun p => p.2.1) hlatch⟩
    · obtain ⟨plan, gain, h⟩ := hlanes l
      rw [h]
      exact ⟨rfl, rfl, rfl⟩
    · rw [hsh]
      exact Vector.getElem_replicate _
    · rw [hsh]
      rfl
    · rw [hupd]
      rfl
  · obtain ⟨hexec, ⟨time, haon0⟩, hsame0⟩ := exec_moduleReset hphase hpor hc
    obtain ⟨hmode, hhold, hheld, hvoting, haon, hmbx, hlanes, hsh, hupd, hrecs, hnvm, hsame⟩ := t0.moduleReset_effect kind warm
    have e_mail : t0.mail = s.mail := hsame0 .mail (by simp)
    have e_log : t0.log = s.log := hsame0 .log (by simp)
    have e_nvm : t0.nvm = s.nvm := hsame0 .nvm (by simp)
    rw [haon0] at haon
    rw [e_nvm] at hnvm
    refine ⟨_, hexec, hmode, hhold, hheld, hvoting, haon.kind, haon.warmSrc, ?_, haon.latch, haon.latchCause, haon.latchTick,
      haon.restart, haon.counters, haon.sessBits, fun ch => ?_, fun l => ?_, fun i => ?_, hrecs.trans (by rw [e_log]), ?_,
      hnvm.bank0, hnvm.bank1, hnvm.latchLog, (hsame0.mono (by simp)).trans hsame⟩
    · rw [haon.timeNs, haon0]
    · obtain ⟨hsec, hnon⟩ := hmbx ch
      rw [State.mbx_of_mail e_mail, haon0] at hsec
      rw [State.mbx_of_mail e_mail] at hnon
      refine ⟨by rw [hsec]; rfl, fun b => ?_⟩
      cases b
      · rw [hnon]
        exact ⟨rfl, rfl, rfl, rfl⟩
      · rw [hsec]
        exact ⟨rfl, rfl, rfl, rfl⟩
    · obtain ⟨plan, gain, h⟩ := hlanes l
      rw [h]
      exact ⟨rfl, rfl, rfl⟩
    · rw [hsh]
      exact Vector.getElem_replicate _
    · rw [hupd]
      rfl
  · obtain ⟨hmbx, hpend, haon, hpwr, hfree, hkept, hchans, hrecs, hen, hsame⟩ := s.hostReset_effect
    refine ⟨s.hostReset, if_pos (by simp [hphase]), fun b ch => ?_, hpend, haon, hpwr, hfree, hkept, hchans, hrecs, hen, hsame⟩
    rw [hmbx]
    exact ⟨rfl, rfl, rfl, rfl, rfl, (Bool.or_assoc _ _ _).symm⟩

end Sys2Proof.Machine
end

section
/-! SUPPORT. Power loss and its commits (O22). -/
namespace Sys2Proof.Machine

/-- The retained record that an append writes, and the stores that it leaves. -/
theorem State.appendRet_effect (s : State) :
    (∃ r, s.appendRet.nvm.retLog.newest = some r ∧ r.valid = true ∧ r.ploss = s.aon.ploss ∧ r.essDone = s.aon.essDone ∧
      r.restart = s.aon.restart ∧ r.fullDone = s.aon.fullDone ∧ r.commitMs = s.aon.commitMs) ∧
    Nvm.Stays s.nvm s.appendRet.nvm ∧ s.appendRet.nvm.frec = s.nvm.frec ∧ s.appendRet.nvm.aonArch = s.nvm.aonArch ∧
    s.appendRet.nvm.logArch = s.nvm.logArch ∧ s.appendRet.nvm.dayArch = s.nvm.dayArch ∧ SameBut [.nvm] s s.appendRet := by
  refine ⟨⟨_, Sectors.newest_append _ _, RetRec.sealed_valid _, rfl, rfl, rfl, rfl, rfl⟩, ⟨rfl, rfl, rfl, rfl, rfl⟩, rfl, rfl, rfl, rfl, ?_⟩
  exact sameBut_of _ _ _ fun p => by cases p <;> simp [Part.agree]

/-! ### The qualified VIN_FAIL (R465, R479, R480) -/

/-- R479: what is left when every domain but AON and HUB is off. -/
theorem State.domainsOff_effect (s : State) :
    s.domainsOff.pwr = { s.pwr with
      dom := 3, phase := .essential, vinOk := false, d3hot := false, busMaster := false, linkUp := false } ∧
    s.domainsOff.ms.voting = 0 ∧ s.domainsOff.fld.ifaces = Field.reset.ifaces ∧ s.domainsOff.log.recs = s.log.recs ∧
    s.domainsOff.aon = s.aon ∧ s.domainsOff.nvm = s.nvm := by
  unfold State.domainsOff
  extract_lets n _ _ _ s1
  have hlanes : SameBut [.sh] s1 (lanesList.foldl (fun s l => s.orphanLocks (BitVec.ofNat 4 l.num)) s1) :=
    SameBut.foldl (fun s l => sameBut_of _ _ _ fun p => by cases p <;> simp [Part.agree]) _ _
  generalize lanesList.foldl (fun s l => s.orphanLocks (BitVec.ofNat 4 l.num)) s1 = u at hlanes
  have e_pwr : u.pwr = s1.pwr := hlanes .pwr (by simp)
  have e_ms : u.ms = s1.ms := hlanes .ms (by simp)
  have e_fld : u.fld = s1.fld := hlanes .fld (by simp)
  have e_log : u.log = s1.log := hlanes .log (by simp)
  have e_aon : u.aon = s1.aon := hlanes .aon (by simp)
  have e_nvm : u.nvm = s1.nvm := hlanes .nvm (by simp)
  refine ⟨by simp [e_pwr, s1], by simp [e_ms, s1], by simp [e_fld, s1, n, State.reset], ?_, by simp [e_aon, s1],
    by simp [e_nvm, s1]⟩
  simp [State.hostRegsReset, e_log, s1]

/-- R480: what the essential commit writes. -/
theorem State.essential_effect (s : State) (ms : Nat) :
    (∃ p, (s.essential ms).aon = { s.aon with latrecPend := p, essDone := true, commitMs := ms }) ∧
    (∃ r, (s.essential ms).nvm.retLog.newest = some r ∧ r.valid = true ∧ r.ploss = s.aon.ploss ∧ r.essDone = true ∧
      r.restart = s.aon.restart) ∧
    (s.essential ms).nvm.frec = s.aon.faultRec.map FaultRec.bytes ∧ (s.essential ms).nvm.bank0 = s.nvm.bank0 ∧
    (s.essential ms).nvm.bank1 = s.nvm.bank1 ∧ SameBut [.aon, .nvm] s (s.essential ms) := by
  obtain ⟨u, hu⟩ : ∃ u : State, u = if s.aon.latrecPend then ({ s with nvm := { s.nvm with ready := true } } : State).appendLatch
      else { s with nvm := { s.nvm with ready := true } } := ⟨_, rfl⟩
  have hlatch : (∃ p, u.aon = { s.aon with latrecPend := p }) ∧ u.nvm.bank0 = s.nvm.bank0 ∧ u.nvm.bank1 = s.nvm.bank1 ∧
      SameBut [.aon, .nvm] s u := by
    subst hu
    split
    · obtain ⟨haon, -, -⟩ := ({ s with nvm := { s.nvm with ready := true } } : State).appendLatch_effect
      refine ⟨⟨_, haon⟩, ?_, ?_, sameBut_of _ _ _ fun p => by cases p <;> simp [Part.agree]⟩
      · simp [State.appendLatch]
      · simp [State.appendLatch]
    · exact ⟨⟨s.aon.latrecPend, rfl⟩, rfl, rfl, sameBut_of _ _ _ fun p => by cases p <;> simp [Part.agree]⟩
  obtain ⟨⟨p, haon⟩, hbank0, hbank1, hsame⟩ := hlatch
  obtain ⟨v, hv⟩ : ∃ v : State, v = { u.appendRet with
      nvm := { u.appendRet.nvm with frec := u.appendRet.aon.faultRec.map FaultRec.bytes }
      aon := { u.appendRet.aon with essDone := true, commitMs := ms } } := ⟨_, rfl⟩
  have hess : s.essential ms = v.appendRet := by rw [hv, hu]; rfl
  obtain ⟨⟨r, hr, hvalid, hploss, hessDone, hrestart, -, -⟩, hstays, hfrec, -, -, -, hsame'⟩ := v.appendRet_effect
  have haonv : v.aon = { s.aon with latrecPend := p, essDone := true, commitMs := ms } := by simp [hv, haon]
  rw [hess]
  refine ⟨⟨p, (hsame' .aon (by simp)).trans haonv⟩, ⟨r, hr, hvalid, ?_, ?_, ?_⟩, ?_, ?_, ?_, ?_⟩
  · rw [hploss, haonv]
  · rw [hessDone, haonv]
  · rw [hrestart, haonv]
  · rw [hfrec, hv]
    simp [haon]
  · rw [hstays.bank0, hv]
    exact hbank0
  · rw [hstays.bank1, hv]
    exact hbank1
  · refine (hsame.trans ?_).trans (hsame'.mono (by simp))
    rw [hv]
    exact sameBut_of _ _ _ fun p => by cases p <;> simp [Part.agree]

/-- AON after the loss of power is noted (R480). -/
def State.lossNoted (s : State) : State := { s with aon := { s.aon with
  ploss := true, vholdAtLoss := two s.aon.vqual, essDone := false, fullDone := false, commitMs := 0
  plossCnt := satInc 255 s.aon.plossCnt } }

/-- R465, R479, R480: what a qualified VIN_FAIL leaves. -/
theorem exec_vinFail_effect {s : State} (hheld : s.ms.porHeld = false) (hphase : s.pwr.phase = .normal) :
    ∃ t, exec .vinFail s = .next t ∧
      t.pwr.dom = 3 ∧ t.pwr.phase = .essential ∧ t.pwr.vinOk = false ∧ t.ms.voting = 0 ∧
      t.aon.ploss = true ∧ t.aon.vholdAtLoss = two s.aon.vqual ∧ t.aon.essDone = true ∧ t.aon.fullDone = false ∧
      t.aon.commitMs ≤ 2 ∧ t.aon.plossCnt = satInc 255 s.aon.plossCnt ∧
      (∀ (l : Lane) (b : Bank), (t.iface l b).token = none) ∧
      (∃ r, t.nvm.retLog.newest = some r ∧ r.ploss = true ∧ r.essDone = true ∧ r.valid = true ∧ r.restart = s.aon.restart) ∧
      t.nvm.frec = s.aon.faultRec.map FaultRec.bytes ∧ t.nvm.bank0 = s.nvm.bank0 ∧ t.nvm.bank1 = s.nvm.bank1 ∧
      t.log.recs = s.log.recs ∧ t.free = s.free + 1 ∧ t.fuses = s.fuses ∧ t.pending = s.pending := by
  obtain ⟨hpwr, hvoting, hifaces, hrecs, haon, hnvm⟩ := s.domainsOff_effect
  have hfree : s.domainsOff.free = s.free := by simp
  have hfuses : s.domainsOff.fuses = s.fuses := by simp
  have hpending : s.domainsOff.pending = s.pending := by simp
  obtain ⟨v, hv⟩ : ∃ v : State, v = s.domainsOff.lossNoted := ⟨_, rfl⟩
  obtain ⟨w, hw⟩ : ∃ w : State, w = v.essential (Config.essentialMs v.free % 3) := ⟨_, rfl⟩
  have hexec : exec .vinFail s = .next { w with free := w.free + 1 } := by
    rw [hw, hv]
    exact if_neg (by simp [hphase, hheld])
  refine ⟨_, hexec, ?_⟩
  generalize s.domainsOff = u at hv hpwr hvoting hifaces hrecs haon hnvm hfree hfuses hpending
  have hvaon : v.aon = { s.aon with
      ploss := true, vholdAtLoss := two s.aon.vqual, essDone := false, fullDone := false, commitMs := 0
      plossCnt := satInc 255 s.aon.plossCnt } := by rw [hv, State.lossNoted, haon]
  have hvu : SameBut [.aon] u v := by
    rw [hv]
    exact sameBut_of _ _ _ fun p => by cases p <;> simp [Part.agree, State.lossNoted]
  have e_nvm : v.nvm = s.nvm := (hvu .nvm (by simp)).trans hnvm
  obtain ⟨⟨p, hwaon⟩, ⟨r, hr, hvalid, hploss, hess, hrestart⟩, hfrec, hbank0, hbank1, hvw⟩ :=
    v.essential_effect (Config.essentialMs v.free % 3)
  rw [← hw] at hwaon hr hfrec hbank0 hbank1 hvw
  rw [hvaon] at hwaon hploss hrestart hfrec
  have hsame : SameBut [.aon, .nvm] u w := (hvu.mono (by simp)).trans hvw
  have e_pwr : w.pwr = u.pwr := hsame .pwr (by simp)
  have e_ms : w.ms = u.ms := hsame .ms (by simp)
  have e_fld : w.fld = u.fld := hsame .fld (by simp)
  have e_log : w.log = u.log := hsame .log (by simp)
  have e_free : w.free = u.free := hsame .free (by simp)
  have e_fuses : w.fuses = u.fuses := hsame .fuses (by simp)
  have e_pending : w.pending = u.pending := hsame .pending (by simp)
  refine ⟨by rw [e_pwr, hpwr], by rw [e_pwr, hpwr], by rw [e_pwr, hpwr], by rw [e_ms, hvoting], by rw [hwaon], by rw [hwaon],
    by rw [hwaon], by rw [hwaon], ?_, by rw [hwaon], fun l b => ?_, ⟨r, hr, hploss, hess, hvalid, hrestart⟩, hfrec,
    hbank0.trans (by rw [e_nvm]), hbank1.trans (by rw [e_nvm]), by rw [e_log, hrecs], by rw [e_free, hfree], by rw [e_fuses, hfuses],
    by rw [e_pending, hpending]⟩
  · rw [hwaon]
    exact Nat.le_of_lt_succ (Nat.mod_lt _ (by decide))
  · change ((w.fld.ifaces.get l)[b]).token = none
    rw [e_fld, hifaces]
    cases l <;> exact congrArg Iface.token (Vector.getElem_replicate _)

/-! ### The full commit (R472, R479, R481) -/

/-- A full commit of which `n` stores are written leaves NVM1's other parts. -/
theorem State.archive_effect (s : State) (n : Nat) :
    (s.archive n).nvm = { s.nvm with
      aonArch := if 0 < n then some (s.aon.planStore, s.aon.hubTrim) else s.nvm.aonArch
      logArch := if 1 < n then some s.log else s.nvm.logArch
      dayArch := if 2 < n then s.prf.day else s.nvm.dayArch
      logArea := (s.archive n).nvm.logArea, conv := (s.archive n).nvm.conv } ∧
    (s.nvm.conv = none → (s.archive n).nvm.conv = none ∧
      (s.archive n).nvm.logArea = (if 1 < n then !s.nvm.logArea else s.nvm.logArea)) ∧
    (∀ c g, s.nvm.conv = some c → c.log = some g → 1 < n →
      (s.archive n).nvm.conv = some { c with log := some (some s.log) } ∧ (s.archive n).nvm.logArea = s.nvm.logArea) ∧
    SameBut [.nvm] s (s.archive n) := by
  refine ⟨?_, fun hconv => ?_, fun c g hconv hlog hn => ?_, sameBut_of _ _ _ fun p => by cases p <;> simp [Part.agree, State.archive]⟩
  · by_cases h0 : 0 < n
    · by_cases h1 : 1 < n
      · cases hconv : s.nvm.conv with
        | none => by_cases h2 : 2 < n <;> simp [State.archive, Nvm.putLog, h0, h1, h2, hconv]
        | some c => by_cases h2 : 2 < n <;> cases hlog : c.log <;> simp [State.archive, Nvm.putLog, h0, h1, h2, hconv, hlog]
      · simp [State.archive, h0, h1, show ¬ 2 < n by omega]
    · simp [State.archive, h0, show ¬ 1 < n by omega, show ¬ 2 < n by omega]
  · by_cases h1 : 1 < n
    · simp [State.archive, Nvm.putLog, h1, show 0 < n by omega, hconv, apply_ite]
    · by_cases h0 : 0 < n <;> simp [State.archive, h0, h1, show ¬ 2 < n by omega, hconv]
  · simp [State.archive, Nvm.putLog, hn, show 0 < n by omega, hconv, hlog, apply_ite]

/-- The end of the commits is POR, which ends the loss of power. -/
theorem State.powerOn_phase (s : State) : s.powerOn.pwr.phase = .normal := by
  have hpwr (u : State) : u.restoreLog.reportStore.bootStart.pwr = u.pwr := by
    obtain ⟨hlog, -⟩ := u.restoreLog_effect
    obtain ⟨hstore, -⟩ := u.restoreLog.reportStore_effect
    obtain ⟨-, -, -, hboot⟩ := u.restoreLog.reportStore.bootStart_effect
    exact (hboot .pwr (by simp)).trans ((hstore .pwr (by simp)).trans (hlog .pwr (by simp)))
  exact congrArg Power.phase (hpwr _)

/-- Settles O22: the qualified VIN_FAIL, the full commit, its abort and the end of the commits. -/
theorem powerLossCommits : Obligations.PowerLossCommits := by
  unfold Obligations.PowerLossCommits
  refine ⟨fun s hheld hphase => ?_, fun s hphase hvhold => ⟨fun ms => ?_, fun store => ?_, ?_⟩⟩
  · obtain ⟨t, hexec, hdom, hess, hvin, hvoting, hploss, hvhold, hessDone, hfull, hms, hcnt, htoken, hret, hfrec, hbank0, hbank1,
      hrecs, hfree, hfuses, hpending⟩ := exec_vinFail_effect hheld hphase
    exact ⟨t, hexec, hdom, hess, hvin, hvoting, hploss, hvhold, hessDone, hfull, hms, hcnt, htoken, hret, hfrec, hbank0, hbank1,
      hrecs, hfree, hfuses, hpending, if_pos (by simp [hess])⟩
  · obtain ⟨hnvm, -, -, harch⟩ := s.archive_effect 3
    obtain ⟨u, hu⟩ : ∃ u : State, u = { s.archive 3 with
        aon := { (s.archive 3).aon with fullDone := true, commitMs := min 65535 ms }
        pwr := { (s.archive 3).pwr with phase := .full } } := ⟨_, rfl⟩
    have hexec : exec (.fullCommit ms) s = .next u.appendRet := by
      rw [hu]
      exact if_neg (by simp [hphase, hvhold])
    have huaon : u.aon = { s.aon with fullDone := true, commitMs := min 65535 ms } := by rw [hu, harch .aon (by simp)]
    have hupwr : u.pwr = { s.pwr with phase := .full } := by rw [hu, harch .pwr (by simp)]
    have hunvm : u.nvm = (s.archive 3).nvm := by rw [hu]
    have hsu : SameBut [.nvm, .aon, .pwr] s u := by
      rw [hu]
      exact (harch.mono (by simp)).trans (sameBut_of _ _ _ fun p => by cases p <;> simp [Part.agree])
    obtain ⟨⟨r, hr, -, -, -, -, hfull, hms⟩, -, -, haonArch, hlogArch, hdayArch, hret⟩ := u.appendRet_effect
    rw [huaon] at hfull hms
    refine ⟨_, hexec, ?_, ?_, ?_, (hret .aon (by simp)).trans huaon, (hret .pwr (by simp)).trans hupwr, ⟨r, hr, hfull, hms⟩,
      hsu.trans (hret.mono (by simp))⟩
    · rw [haonArch, hunvm, hnvm]
      rfl
    · rw [hlogArch, hunvm, hnvm]
      rfl
    · rw [hdayArch, hunvm, hnvm]
      rfl
  · obtain ⟨hnvm, hnone, hconv, harch⟩ := s.archive_effect store.val
    refine ⟨_, if_neg (by simp [hphase, hvhold]), ?_, hnone, hconv, ?_, ?_⟩
    · dsimp only
      rw [hnvm]
    · rw [harch .pwr (by simp)]
    · exact (harch.mono (by simp)).trans (sameBut_of _ _ _ fun p => by cases p <;> simp [Part.agree])
  · obtain ⟨hmode, -, hheld, -, -, -, -, -, -, -, -, -, hsame⟩ := s.powerOn_effect
    exact ⟨_, if_neg (by simp [hphase]), rfl, hmode, hheld, s.powerOn_phase, hsame .fuses (by simp)⟩

end Sys2Proof.Machine
end

section
/-! SUPPORT. Supplies, sleep and heat (O23). -/
namespace Sys2Proof.Machine

/-! ### VHOLD (R405, R456, R468, R487) -/

theorem State.bankImg_setBank (s : State) (b : Bool) (i : Option Image) : (s.setBank b i).bankImg b = i := by
  cases b <;> rfl

theorem Shared.withdraw_locks (h : Shared) (m : BitVec 4) : (h.withdraw m).locks = h.locks := rfl

/-- R405, R456: what a copy that battery low stops leaves. -/
theorem State.abortCopy_effect (s : State) (hcopying : s.upd.copying = true) :
    s.abortCopy.upd.copying = false ∧ s.abortCopy.upd.apply = .deferred ∧ s.abortCopy.bankImg s.trialBank = none ∧
    (∀ i : Fin 64, s.sh.locks[i].owner = 7 → s.abortCopy.sh.locks[i] = ⟨0, true⟩) ∧
    (∀ i : Fin 64, s.sh.locks[i].owner ≠ 7 → s.abortCopy.sh.locks[i] = s.sh.locks[i]) := by
  obtain ⟨u, hu⟩ : ∃ u : State, u = { s.setBank s.trialBank none with
      upd := { (s.setBank s.trialBank none).upd with copying := false, apply := .deferred } } := ⟨_, rfl⟩
  have habort : s.abortCopy = (u.alarmNode 0xF5 []).orphanLocks 7 := by
    rw [hu]
    exact if_pos hcopying
  have hsh : s.abortCopy.sh = (s.sh.orphanLocks 7).withdraw 7 := by
    have halarm : (u.alarmNode 0xF5 []).sh = s.sh := by simp [hu]
    rw [habort, ← halarm, State.orphanLocks]
  have hupd : s.abortCopy.upd = { s.upd with copying := false, apply := .deferred } := by simp [habort, hu]
  have hnvm : s.abortCopy.nvm = (s.setBank s.trialBank none).nvm := by simp [habort, hu]
  refine ⟨by rw [hupd], by rw [hupd], ?_, fun i hi => ?_, fun i hi => ?_⟩
  · unfold State.bankImg
    rw [hnvm]
    exact s.bankImg_setBank _ _
  · rw [hsh, Shared.withdraw_locks]
    exact ((s.sh.orphanLocks_effect (m := 7) (by decide) i).1 hi).1
  · rw [hsh, Shared.withdraw_locks]
    exact (s.sh.orphanLocks_effect (m := 7) (by decide) i).2 hi

theorem State.abortCopy_sameBut (s : State) : SameBut [.upd, .nvm, .log, .mail, .host, .sh] s s.abortCopy :=
  sameBut_of _ _ _ fun p => by cases p <;> simp [Part.agree]

/-- R468, R487: a lane's comparator takes its VHOLD report back. -/
theorem exec_vholdDisqualified_effect (s : State) (l : Lane) : ∃ t, exec (.vholdDisqualified l) s = .next t ∧
    t.aon = { s.aon with
      vqual := s.aon.vqual.set l false
      disqCnt := if s.aon.vqual.get l then satInc 255 s.aon.disqCnt else s.aon.disqCnt } ∧
    (two s.aon.vqual = false ∨ two (s.aon.vqual.set l false) = true → SameBut [.aon] s t) ∧
    (s.upd.copying = true → two s.aon.vqual = true → two (s.aon.vqual.set l false) = false →
      t.upd.copying = false ∧ t.upd.apply = .deferred ∧ t.bankImg s.trialBank = none ∧
      (∀ i : Fin 64, s.sh.locks[i].owner = 7 → t.sh.locks[i] = ⟨0, true⟩) ∧
      (∀ i : Fin 64, s.sh.locks[i].owner ≠ 7 → t.sh.locks[i] = s.sh.locks[i])) ∧
    SameBut [.aon, .upd, .nvm, .log, .mail, .host, .sh] s t := by
  obtain ⟨u, hu⟩ : ∃ u : State, u = { s with aon := { s.aon with
      vqual := s.aon.vqual.set l false
      disqCnt := if s.aon.vqual.get l then satInc 255 s.aon.disqCnt else s.aon.disqCnt } } := ⟨_, rfl⟩
  have hexec : exec (.vholdDisqualified l) s =
      if two s.aon.vqual && !two (s.aon.vqual.set l false) then
        .next (if u.ms.mode == .run || u.ms.mode == .run2 then u.alarmNode 0xF6 [] else u).abortCopy
      else .next u := by
    rw [hu]
    rfl
  have haon : u.aon = { s.aon with
      vqual := s.aon.vqual.set l false
      disqCnt := if s.aon.vqual.get l then satInc 255 s.aon.disqCnt else s.aon.disqCnt } := by rw [hu]
  have hsu : SameBut [.aon] s u := by
    rw [hu]
    exact sameBut_of _ _ _ fun p => by cases p <;> simp [Part.agree]
  rw [hexec]
  by_cases hlow : (two s.aon.vqual && !two (s.aon.vqual.set l false)) = true
  case neg =>
    rw [if_neg hlow]
    exact ⟨u, rfl, haon, fun _ => hsu, fun _ hwas hnow => absurd (by simp [hwas, hnow]) hlow, hsu.mono (by simp)⟩
  rw [if_pos hlow]
  obtain ⟨v, hv⟩ : ∃ v, v = if u.ms.mode == .run || u.ms.mode == .run2 then u.alarmNode 0xF6 [] else u := ⟨_, rfl⟩
  have huv : SameBut [.log, .mail, .host] u v := by
    rw [hv]
    split
    · exact sameBut_of _ _ _ fun p => by cases p <;> simp [Part.agree]
    · exact SameBut.refl _ _
  have hvw := v.abortCopy_sameBut
  have e_upd : v.upd = s.upd := (huv .upd (by simp)).trans (hsu .upd (by simp))
  have e_sh : v.sh = s.sh := (huv .sh (by simp)).trans (hsu .sh (by simp))
  have e_nvm : v.nvm = s.nvm := (huv .nvm (by simp)).trans (hsu .nvm (by simp))
  have htrial : v.trialBank = s.trialBank := by simp [State.trialBank, State.bankRec, e_nvm]
  rw [← hv]
  refine ⟨v.abortCopy, rfl, ?_, fun h => ?_, fun hcopying _ _ => ?_, ?_⟩
  · exact (hvw .aon (by simp)).trans ((huv .aon (by simp)).trans haon)
  · exact absurd hlow (by rcases h with h | h <;> simp [h])
  · have h := v.abortCopy_effect (by rw [e_upd, hcopying])
    rw [htrial, e_sh] at h
    exact h
  · exact (hsu.mono (by simp)).trans ((huv.mono (by simp)).trans (hvw.mono (by simp)))

/-! ### Low-power states (R474-R478) -/

/-- R475: the state that the gap admits. -/
theorem sleepState_effect (tUs : BitVec 17) (gapUs : Nat) :
    (10000 ≤ tUs.toNat → 560 ≤ gapUs → sleepState tUs gapUs = .l3) ∧
    (¬ (10000 ≤ tUs.toNat ∧ 560 ≤ gapUs) → 90 ≤ gapUs → sleepState tUs gapUs = .l2) ∧
    (gapUs < 90 → 13 ≤ gapUs → sleepState tUs gapUs = .l1) ∧ (gapUs ≤ 12 → sleepState tUs gapUs = .l0) := by
  unfold sleepState
  refine ⟨fun ht hg => ?_, fun h hg => ?_, fun hlt hg => ?_, fun hg => ?_⟩
  · exact if_pos (by simp [ht, hg])
  · rw [if_neg (by simpa using h), if_pos hg]
  · rw [if_neg (by simp; omega), if_neg (by omega), if_pos (by omega)]
  · rw [if_neg (by simp; omega), if_neg (by omega), if_neg (by omega)]

/-- R474-R476, R478: a lane without work enters the state that its gap admits. -/
theorem exec_lowPowerEntry_effect (s : State) (l : Lane) (gapUs : Nat) (hidle : s.staysAwake l = false) :
    ∃ t, exec (.lowPowerEntry l gapUs) s = .next t ∧ t.lane l = { s.lane l with lp := sleepState s.ms.tUs gapUs } ∧
      (∀ m : Lane, m ≠ l → t.lane m = s.lane m) ∧ (s.pwr.linkUp = true → t.pwr = s.pwr) ∧ SameBut [.lanes, .pwr] s t := by
  obtain ⟨u, hu⟩ : ∃ u : State, u = s.modLaneSt l (fun x => { x with lp := sleepState s.ms.tUs gapUs }) := ⟨_, rfl⟩
  have hself : u.lane l = { s.lane l with lp := sleepState s.ms.tUs gapUs } := by rw [hu, State.lane_modLaneSt_self]
  have hother (m : Lane) (hm : m ≠ l) : u.lane m = s.lane m := by rw [hu, State.lane_modLaneSt_ne _ _ _ _ hm]
  have hsu : SameBut [.lanes] s u := by
    rw [hu]
    exact sameBut_of _ _ _ fun p => by cases p <;> simp [Part.agree]
  have hexec : exec (.lowPowerEntry l gapUs) s =
      if (u.acting != 0 && (lanesOf u.acting).all (fun m => (u.lane m).lp == .l3)) && !u.pwr.linkUp then
        .next { u with pwr := { u.pwr with dom := u.pwr.dom &&& ~~~8 } }
      else .next u := by
    rw [hu]
    exact if_neg (by simp [hidle])
  rw [hexec]
  split
  next hoff =>
    refine ⟨_, rfl, hself, hother, fun hup => absurd hup ?_, ?_⟩
    · have hdown := (Bool.and_eq_true_iff.mp hoff).2
      rw [hsu .pwr (by simp)] at hdown
      simpa using hdown
    · exact (hsu.mono (by simp)).trans (sameBut_of _ _ _ fun p => by cases p <;> simp [Part.agree])
  next => exact ⟨u, rfl, hself, hother, fun _ => hsu .pwr (by simp), hsu.mono (by simp)⟩

/-! ### Junction temperature (R543) -/

theorem State.laneReset_hotDies (s : State) (l : Lane) : (s.laneReset l).prf.hotDies = s.prf.hotDies := by
  unfold State.laneReset
  extract_lets x _ y s1 s2 _ _ s3 _ s4 _ s5
  have hs4 : s4.prf = s3.prf := by
    dsimp only [s4]
    split <;> rfl
  have hs5 : s5.prf.hotDies = s4.prf.hotDies := by
    dsimp only [s5]
    split <;> rfl
  rw [show ((s5.restartOld l).takeTrial l).prf = s5.prf by simp, hs5, hs4]
  simp [s3, s2, s1]

/-- R543: a lane die above 140 °C is held in reset. -/
theorem State.heldHot_effect (s : State) (l : Lane) (hsvc : (s.lane l).svc ≠ .disabled) :
    ∃ t, t = ((s.exitLane l 1).laneReset l).modLaneSt l (fun x => { x with hot := true }) ∧
      (t.lane l).hot = true ∧ (t.lane l).svc = .reset ∧ (∀ b : Bank, t.iface l b = Iface.reset) ∧
      t.prf.hotDies = s.prf.hotDies ∧ (∀ m : Lane, m ≠ l → t.lane m = s.lane m) ∧ t.fuses = s.fuses ∧ t.pending = s.pending := by
  obtain ⟨b, n, hlane⟩ := (s.exitLane l 1).laneReset_lane l
  obtain ⟨hsvc', -, -, -⟩ := State.exitLane_beforeReset hsvc
  obtain ⟨hfld, -⟩ := (s.exitLane l 1).laneReset_rest l
  refine ⟨_, rfl, by rw [State.lane_modLaneSt_self], ?_, fun b => ?_, ?_, ?_, by simp, by simp⟩
  · rw [State.lane_modLaneSt_self, hlane]
    exact if_neg (by simpa using hsvc')
  · have hf : (((s.exitLane l 1).laneReset l).modLaneSt l (fun x => { x with hot := true })).fld =
        ((s.exitLane l 1).resetIfaces l).fld := by simpa using hfld
    rw [State.iface, hf]
    simp [State.resetIfaces]
  · rw [show (((s.exitLane l 1).laneReset l).modLaneSt l (fun x => { x with hot := true })).prf =
      ((s.exitLane l 1).laneReset l).prf by simp, State.laneReset_hotDies]
    simp
  · exact (OnlyLane.exitLane s l 1).trans ((OnlyLane.laneReset _ l).trans (.modLaneSt _ l _))

/-- The hub notes a lane die above 125 °C, with an ALARM where it was not noted (R543). -/
def State.notedHot (s : State) (l : Lane) (c : Nat) : State :=
  let s1 : State := { s with prf := { s.prf with hotDies := s.prf.hotDies ||| hotBit (.lane l) } }
  if s.prf.hotDies &&& hotBit (.lane l) != 0 then s1
  else s1.raise .alarm 0xFB .die l.num [BitVec.ofNat 8 l.num, BitVec.ofNat 8 c]

theorem State.notedHot_effect (s : State) (l : Lane) (c : Nat) :
    (s.notedHot l c).prf = { s.prf with hotDies := s.prf.hotDies ||| hotBit (.lane l) } ∧
    SameBut [.prf, .log, .mail, .host] s (s.notedHot l c) := by
  unfold State.notedHot
  split
  · exact ⟨rfl, sameBut_of _ _ _ fun p => by cases p <;> simp [Part.agree]⟩
  · exact ⟨by simp, sameBut_of _ _ _ fun p => by cases p <;> simp [Part.agree]⟩

theorem exec_overtemperature_lane (s : State) (l : Lane) {c : Nat} (hc : 125 < c) :
    exec (.overtemperature (.lane l) c) s = if c ≤ 140 then .next (s.notedHot l c) else
      .next ((((s.notedHot l c).exitLane l 1).laneReset l).modLaneSt l (fun x => { x with hot := true })) :=
  if_neg (by omega)

/-- Settles O23: VHOLD reports, the low-power states and the lanes' junction temperatures. -/
theorem suppliesSleepAndHeat : Obligations.SuppliesSleepAndHeat := by
  unfold Obligations.SuppliesSleepAndHeat
  refine ⟨fun s l => ⟨rfl, exec_vholdDisqualified_effect s l⟩, ⟨fun s l gapUs hidle => ?_, fun s l us late hlp hdom => ?_⟩,
    fun s l c => ⟨fun hlo hhi => ?_, fun hc hsvc => ?_, ?_⟩⟩
  · obtain ⟨t, hexec, hself, hother, hlink, hsame⟩ := exec_lowPowerEntry_effect s l gapUs hidle
    obtain ⟨h3, h2, h1, h0⟩ := sleepState_effect s.ms.tUs gapUs
    have hlp : (t.lane l).lp = sleepState s.ms.tUs gapUs := by rw [hself]
    refine ⟨t, hexec, ?_⟩
    rw [hlp]
    exact ⟨h3, h2, h1, h0, hself, hother, hlink, hsame⟩
  · refine ⟨_, (if_neg (by simpa using hlp)).trans (if_pos (by simpa using hdom)), by rw [State.lane_setLane_self]; rfl,
      fun m hm => State.lane_setLane_ne _ _ _ _ hm, ?_⟩
    exact sameBut_of _ _ _ fun p => by cases p <;> simp [Part.agree]
  · obtain ⟨hprf, hsame⟩ := s.notedHot_effect l c
    exact ⟨_, (exec_overtemperature_lane s l hlo).trans (if_pos hhi), hprf, hsame .lanes (by simp), hsame⟩
  · obtain ⟨hprf, hsame⟩ := s.notedHot_effect l c
    have hlanes (m : Lane) : (s.notedHot l c).lane m = s.lane m := lane_of_lanes (hsame .lanes (by simp)) m
    obtain ⟨t, ht, hhot, hreset, hiface, hdies, hother, hfuses, hpending⟩ :=
      (s.notedHot l c).heldHot_effect l (by rw [hlanes]; exact hsvc)
    refine ⟨t, ?_, hhot, hreset, hiface, by rw [hdies, hprf], fun m hm => (hother m hm).trans (hlanes m),
      hfuses.trans (hsame .fuses (by simp)), hpending.trans (hsame .pending (by simp))⟩
    rw [exec_overtemperature_lane s l (by omega), if_neg (by omega), ht]
  · refine ⟨_, rfl, ?_, fun m hm => ?_, by simp, ?_⟩
    · exact (lane_of_lanes rfl l).trans (State.lane_modLaneSt_self s l (fun x => { x with hot := false }))
    · exact (lane_of_lanes rfl m).trans (State.lane_modLaneSt_ne s l m (fun x => { x with hot := false }) hm)
    · exact sameBut_of _ _ _ fun p => by cases p <;> simp [Part.agree]

end Sys2Proof.Machine
end

section
/-! SUPPORT. Margin plans and the daily record (O24). -/
namespace Sys2Proof.Machine

/-! ### The step of a plan (R503) -/

theorem Plan.measure_rest (p : Plan) (m : Nat) : (p.measure m).trim = p.trim ∧ (p.measure m).clk = p.clk ∧
    (p.measure m).exhausted = p.exhausted ∧ (p.measure m).high = p.high := by
  unfold Plan.measure
  split <;> exact ⟨rfl, rfl, rfl, rfl⟩

/-- R503: the step of a plan at the margin `m`, below 10 %, from 10 % and below 16 %. -/
theorem Plan.step_effect (p : Plan) (tUs : BitVec 17) (m : Nat) (clock : Bool) :
    (m < 10 → p.trim < 12 → (p.step tUs m clock).trim = p.trim + 1 ∧ (p.step tUs m clock).clk = p.clk ∧
      (p.step tUs m clock).exhausted = p.exhausted) ∧
    (10 ≤ m → (p.step tUs m clock).exhausted = false) ∧
    (10 ≤ m → m < 16 → (p.step tUs m clock).trim = p.trim ∧ (p.step tUs m clock).clk = p.clk ∧ (p.step tUs m clock).high = 0) ∧
    (p.step tUs m clock).margin = min 255 m := by
  obtain ⟨htrim, hclk, hexhausted, -⟩ := p.measure_rest m
  unfold Plan.step
  refine ⟨fun hm ht => ?_, fun hm => ?_, fun hm hlt => ?_, ?_⟩
  · simp [hm, htrim, ht, hclk, hexhausted]
  · rw [if_neg (by omega)]
    split
    · split <;> rfl
    · rfl
  · rw [if_neg (by omega), if_neg (by simp; omega)]
    exact ⟨htrim, hclk, rfl⟩
  · dsimp only
    split
    · split
      · rfl
      · split <;> rfl
    · split
      · split <;> rfl
      · rfl

/-! ### The lanes' plans -/

/-- A lane after its window: its plan has taken a step at the lowest slack (R503). -/
structure LaneSt.Measured (x : LaneSt) (tUs : BitVec 17) (o : LaneMon) (y : LaneSt) : Prop where
  trim : y.plan.trim = (x.plan.step tUs (lowest o.pdm.toList).1 true).trim
  clk : y.plan.clk = (x.plan.step tUs (lowest o.pdm.toList).1 true).clk
  high : y.plan.high = (x.plan.step tUs (lowest o.pdm.toList).1 true).high
  exhausted : y.plan.exhausted = (x.plan.step tUs (lowest o.pdm.toList).1 true).exhausted
  margin : y.plan.margin = (x.plan.step tUs (lowest o.pdm.toList).1 true).margin
  temp : y.plan.temp = maxTemp o.temp.toList

theorem State.baseline_sameBut (s : State) (die : Nat) (ro : List Nat) : SameBut [.nvm] s (s.baseline die ro) :=
  sameBut_of _ _ _ fun p => by cases p <;> simp [Part.agree]

theorem State.baseline_nvm (s : State) (die : Nat) (ro : List Nat) (hcom : s.fuses.commissioned = false) :
    (s.baseline die ro).nvm = s.nvm := by
  simp [State.baseline, hcom]

/-- A lane's window changes the lane's plan, the baselines of a commissioned module, and the log. -/
theorem State.lanePlan_effect (s : State) (l : Lane) (o : LaneMon) :
    (s.lane l).Measured s.ms.tUs o ((s.lanePlan l o).lane l) ∧ (∀ m : Lane, m ≠ l → (s.lanePlan l o).lane m = s.lane m) ∧
    (s.fuses.commissioned = false → (s.lanePlan l o).nvm = s.nvm) ∧
    SameBut [.lanes, .nvm, .log, .mail, .host] s (s.lanePlan l o) := by
  unfold State.lanePlan
  extract_lets u x low _ p s1 s2
  have hsu : SameBut [.nvm] s u := s.baseline_sameBut _ _
  have hx : x = s.lane l := lane_of_lanes (hsu .lanes (by simp)) l
  have hms : u.ms = s.ms := hsu .ms (by simp)
  have hs1 : SameBut [.lanes] u s1 := sameBut_of _ _ _ fun p => by cases p <;> simp [Part.agree, s1]
  have hs2 : SameBut [.log, .mail, .host] s1 s2 := by
    dsimp only [s2]
    split
    · exact s1.alarmLane_sameBut _ _ _
    · exact SameBut.refl _ _
  obtain ⟨t, ht⟩ : ∃ t, t = if p.exhausted && !x.plan.exhausted then s2.alarmLane 0xCA l [BitVec.ofNat 8 l.num] else s2 := ⟨_, rfl⟩
  have hst : SameBut [.log, .mail, .host] s2 t := by
    rw [ht]
    split
    · exact s2.alarmLane_sameBut _ _ _
    · exact SameBut.refl _ _
  rw [← ht]
  have hlanes : t.lanes = s1.lanes := (hs2.trans hst) .lanes (by simp)
  refine ⟨?_, fun m hm => ?_, fun hcom => ?_, ?_⟩
  · rw [lane_of_lanes hlanes l, State.lane_setLane_self, ← hx, ← hms]
    exact ⟨rfl, rfl, rfl, rfl, rfl, rfl⟩
  · rw [lane_of_lanes hlanes m, State.lane_setLane_ne _ _ _ _ hm]
    exact lane_of_lanes (hsu .lanes (by simp)) m
  · exact ((hs1.mono (by simp)).trans ((hs2.trans hst).mono (qs := [.lanes, .log, .mail, .host]) (by simp)) .nvm (by simp)).trans
      (s.baseline_nvm _ _ hcom)
  · exact (hsu.mono (by simp)).trans ((hs1.mono (by simp)).trans ((hs2.trans hst).mono (by simp)))

/-- The windows of the lanes `ls`, each once. -/
theorem State.lanePlans_effect (obs : PerLane LaneMon) (ls : List Lane) (hnodup : ls.Nodup) (s : State) :
    (∀ l ∈ ls, (s.lane l).Measured s.ms.tUs (obs.get l) ((ls.foldl (fun s l => s.lanePlan l (obs.get l)) s).lane l)) ∧
    (∀ m : Lane, m ∉ ls → (ls.foldl (fun s l => s.lanePlan l (obs.get l)) s).lane m = s.lane m) ∧
    (s.fuses.commissioned = false → (ls.foldl (fun s l => s.lanePlan l (obs.get l)) s).nvm = s.nvm) ∧
    SameBut [.lanes, .nvm, .log, .mail, .host] s (ls.foldl (fun s l => s.lanePlan l (obs.get l)) s) := by
  induction ls generalizing s with
  | nil => exact ⟨fun l hl => absurd hl (by simp), fun _ _ => rfl, fun _ => rfl, SameBut.refl _ _⟩
  | cons k rest ih =>
    obtain ⟨hk, hrest⟩ := List.nodup_cons.mp hnodup
    obtain ⟨hplan, hkept, hnvm, hsame⟩ := s.lanePlan_effect k (obs.get k)
    obtain ⟨hplans, hkept', hnvm', hsame'⟩ := ih hrest (s.lanePlan k (obs.get k))
    have hms : (s.lanePlan k (obs.get k)).ms = s.ms := hsame .ms (by simp)
    have hfuses : (s.lanePlan k (obs.get k)).fuses = s.fuses := hsame .fuses (by simp)
    refine ⟨fun l hl => ?_, fun m hm => ?_, fun hcom => (hnvm' (by rw [hfuses, hcom])).trans (hnvm hcom), hsame.trans hsame'⟩
    · by_cases hlk : l = k
      · rw [List.foldl_cons, hlk, hkept' k hk]
        exact hplan
      · have hin : l ∈ rest := by simpa [hlk] using hl
        have h := hplans l hin
        rw [hkept l hlk, hms] at h
        exact h
    · obtain ⟨hmk, hmrest⟩ : m ≠ k ∧ m ∉ rest := by simpa using hm
      exact (hkept' m hmrest).trans (hkept m hmk)

/-! ### The alarms of a day (R501) -/

/-- What the day's alarms change: the list of the alarms given, and the log. -/
def Alarmed (s t : State) : Prop := (∃ a, t.prf = { s.prf with alarmed := a }) ∧ SameBut [.prf, .log, .mail, .host] s t

theorem Alarmed.refl (s : State) : Alarmed s s := ⟨⟨s.prf.alarmed, rfl⟩, SameBut.refl _ _⟩

theorem Alarmed.trans {s t u : State} (h : Alarmed s t) (k : Alarmed t u) : Alarmed s u := by
  obtain ⟨⟨a, ha⟩, hst⟩ := h
  obtain ⟨⟨b, hb⟩, htu⟩ := k
  exact ⟨⟨b, by rw [hb, ha]⟩, hst.trans htu⟩

theorem Alarmed.foldl {α : Type} {f : State → α → State} (hf : ∀ s x, Alarmed s (f s x)) (xs : List α) (s : State) :
    Alarmed s (xs.foldl f s) := by
  induction xs generalizing s with
  | nil => exact .refl s
  | cons x rest ih => exact (hf s x).trans (ih _)

theorem Alarmed.dailyAlarm (s : State) (key : Byte) (on : Bool) {f : State → State}
    (hf : ∀ t, SameBut [.log, .mail, .host] t (f t)) : Alarmed s (s.dailyAlarm key on f) := by
  unfold State.dailyAlarm
  split
  · refine ⟨⟨_, hf _ .prf (by simp)⟩, SameBut.trans ?_ ((hf _).mono (by simp))⟩
    exact sameBut_of _ _ _ fun p => by cases p <;> simp [Part.agree]
  · exact .refl s

theorem State.raise_sameBut (s : State) (cls : RecClass) (code : Byte) (kind : ObjKind) (obj : Nat) (detail : List Byte) :
    SameBut [.log, .mail, .host] s (s.raise cls code kind obj detail) :=
  sameBut_of _ _ _ fun p => by cases p <;> simp [Part.agree]

/-! ### The window and the daily record -/

theorem State.baselines_effect (s : State) (obs : AgeObs) :
    let u := (allFin 3).foldl (fun s b => s.baseline (4 + b.val) (obs.fields[b]).ro.toList) (s.baseline 3 obs.hubRo.toList)
    (s.fuses.commissioned = false → u.nvm = s.nvm) ∧ SameBut [.nvm] s u := by
  have hsame (bs : List (Fin 3)) (v : State) :
      (v.fuses.commissioned = false → (bs.foldl (fun s b => s.baseline (4 + b.val) (obs.fields[b]).ro.toList) v).nvm = v.nvm) ∧
      SameBut [.nvm] v (bs.foldl (fun s b => s.baseline (4 + b.val) (obs.fields[b]).ro.toList) v) := by
    refine ⟨fun hcom => ?_, SameBut.foldl (fun s b => s.baseline_sameBut _ _) bs v⟩
    induction bs generalizing v with
    | nil => rfl
    | cons b rest ih =>
      have hv : SameBut [.nvm] v (v.baseline (4 + b.val) (obs.fields[b]).ro.toList) := v.baseline_sameBut _ _
      exact (ih _ (by rw [hv .fuses (by simp)]; exact hcom)).trans (v.baseline_nvm _ _ hcom)
  obtain ⟨hnvm, hrest⟩ := hsame (allFin 3) (s.baseline 3 obs.hubRo.toList)
  have hhub := s.baseline_sameBut 3 obs.hubRo.toList
  exact ⟨fun hcom => (hnvm (by rw [hhub .fuses (by simp)]; exact hcom)).trans (s.baseline_nvm _ _ hcom), hhub.trans hrest⟩

/-- R500-R506: what a window of 1,024 ticks leaves. -/
theorem State.ageWindow_effect (s : State) (obs : AgeObs) :
    (∀ l : Lane, (s.lane l).svc.running = true → (s.lane l).Measured s.ms.tUs (obs.lanes.get l) ((s.ageWindow obs).lane l)) ∧
    (∀ m : Lane, (s.lane m).svc.running = false → (s.ageWindow obs).lane m = s.lane m) ∧
    (∀ m : Lane, (s.ageWindow obs).aon.planStore.get m = (((s.ageWindow obs).lane m).plan.trim, ((s.ageWindow obs).lane m).plan.clk)) ∧
    (s.ageWindow obs).prf.eye = obs.eyeWidth ∧ (s.ageWindow obs).prf.day.isSome = true ∧
    (s.fuses.commissioned = false → (s.ageWindow obs).nvm = s.nvm) ∧
    SameBut [.lanes, .prf, .aon, .nvm, .log, .mail, .host] s (s.ageWindow obs) := by
  obtain ⟨t, ht⟩ : ∃ t, t = s.ageWindow obs := ⟨_, rfl⟩
  rw [← ht]
  unfold State.ageWindow at ht
  extract_lets measured s0 s1 _ hub slack fieldLow switches worst ofLane eyeLow day _ _ s2 s3 s4 s5 at ht
  obtain ⟨hplan, hkept, hnvm0, h0⟩ :=
    State.lanePlans_effect obs.lanes measured (lanesList_nodup.filter _) s
  obtain ⟨hnvm1, h1⟩ := s0.baselines_effect obs
  change (s0.fuses.commissioned = false → s1.nvm = s0.nvm) at hnvm1
  change SameBut [.nvm] s0 s1 at h1
  have h2 : SameBut [.prf, .aon] s1 s2 := sameBut_of _ _ _ fun p => by cases p <;> simp [Part.agree, s2]
  have halarms : Alarmed s2 t := by
    have h3 : Alarmed s2 s3 := .dailyAlarm _ _ _ fun u => u.raise_sameBut _ _ _ _ _
    have h4 : Alarmed s3 s4 := .foldl (fun u b => .dailyAlarm _ _ _ fun v => v.raise_sameBut _ _ _ _ _) _ _
    have h5 : Alarmed s4 s5 := .foldl (fun u p => .dailyAlarm _ _ _ fun v => v.raise_sameBut _ _ _ _ _) _ _
    rw [ht]
    exact ((h3.trans h4).trans h5).trans (.foldl (fun u x => .dailyAlarm _ _ _ fun v => v.alarmChan_sameBut _ _ _) _ _)
  obtain ⟨⟨a, hprf⟩, h3⟩ := halarms
  have h0t : SameBut [.prf, .aon, .nvm, .log, .mail, .host] s0 t :=
    (h1.mono (by simp)).trans ((h2.mono (by simp)).trans (h3.mono (by simp)))
  have hlanes : t.lanes = s0.lanes := h0t .lanes (by simp)
  have hin (l : Lane) : l ∈ measured ↔ (s.lane l).svc.running = true := by
    simp [measured, mem_lanesList]
  refine ⟨fun l hl => ?_, fun m hm => ?_, fun m => ?_, by rw [hprf], by rw [hprf]; rfl, fun hcom => ?_, ?_⟩
  · rw [lane_of_lanes hlanes l]
    exact hplan l ((hin l).mpr hl)
  · rw [lane_of_lanes hlanes m]
    exact hkept m fun h => absurd ((hin m).mp h) (by simp [hm])
  · have haon : t.aon.planStore = s1.lanes.map (fun x => (x.plan.trim, x.plan.clk)) := by rw [h3 .aon (by simp)]
    rw [haon, PerLane.get_map, lane_of_lanes hlanes m, h1 .lanes (by simp)]
    rfl
  · have e_nvm : t.nvm = s1.nvm := (h3 .nvm (by simp)).trans (h2 .nvm (by simp))
    have e_fuses : s0.fuses = s.fuses := h0 .fuses (by simp)
    rw [e_nvm, hnvm1 (by rw [e_fuses, hcom]), hnvm0 hcom]
  · exact (h0.mono (by simp)).trans (h0t.mono (by simp))

theorem State.estimate_prf (s : State) :
    s.estimate.prf.day = s.prf.day ∧ s.estimate.prf.alarmed = s.prf.alarmed ∧ s.estimate.prf.dayNs = s.prf.dayNs ∧
    (s.nvm.ageing.length < 90 → s.estimate.prf = s.prf) := by
  unfold State.estimate
  split
  · exact ⟨rfl, rfl, rfl, fun _ => rfl⟩
  next hlen =>
    refine ⟨?_, ?_, ?_, fun h => absurd h hlen⟩
    all_goals
      dsimp only
      split <;> simp

theorem State.estimate_sameBut (s : State) : SameBut [.prf, .log, .mail, .host] s s.estimate :=
  sameBut_of _ _ _ fun p => by cases p <;> simp [Part.agree]

/-- Settles O24: the plans at the end of a window, and the daily record. -/
theorem marginPlansAndDailyRecord : Obligations.MarginPlansAndDailyRecord := by
  unfold Obligations.MarginPlansAndDailyRecord
  refine ⟨fun s obs l hticks htick hrun => ?_, fun s d hday htime => ?_⟩
  · obtain ⟨hplan, hkept, hstore, heye, hday, hnvm, hsame⟩ := s.ageWindow_effect obs
    have hmeasured := hplan l hrun
    obtain ⟨hlow, hclear, hmid, hmargin⟩ := (s.lane l).plan.step_effect s.ms.tUs (lowest (obs.lanes.get l).pdm.toList).1 true
    refine ⟨_, if_pos (by simp [State.windowEnds, hticks, htick]), fun hm ht => ?_, fun hm => hmeasured.exhausted.trans (hclear hm),
      fun hm hlt => ?_, hmeasured.margin.trans hmargin, hmeasured.temp, hstore, hkept, heye, hnvm, hday, hsame⟩
    · obtain ⟨htrim, hclk, hexhausted⟩ := hlow hm ht
      exact ⟨hmeasured.trim.trans htrim, hmeasured.clk.trans hclk, hmeasured.exhausted.trans hexhausted⟩
    · obtain ⟨htrim, hclk, hhigh⟩ := hmid hm hlt
      exact ⟨hmeasured.trim.trans htrim, hmeasured.clk.trans hclk, hmeasured.high.trans hhigh⟩
  · obtain ⟨u, hu⟩ : ∃ u : State, u = { s with
        nvm := s.nvm.putAgeing d, prf := { s.prf with dayNs := s.nowNs, alarmed := [], day := none } } := ⟨_, rfl⟩
    have hexec : exec .dailyRecord s = .next u.estimate := by
      refine (if_neg (by omega)).trans ?_
      rw [hday, hu]
    have hsu : SameBut [.nvm, .prf] s u := by
      rw [hu]
      exact sameBut_of _ _ _ fun p => by cases p <;> simp [Part.agree]
    obtain ⟨hday', halarmed, hdayNs, hfew⟩ := u.estimate_prf
    refine ⟨_, hexec, ?_, ?_, ?_, ?_, fun hlen => ?_, (hsu.mono (by simp)).trans (u.estimate_sameBut.mono (by simp))⟩
    · rw [u.estimate_sameBut .nvm (by simp), hu]
      rfl
    · rw [hday', hu]
    · rw [halarmed, hu]
    · rw [hdayNs, hu]
    · have hshort : u.nvm.ageing.length < 90 := by
        rw [hu]
        change ((d :: s.nvm.ageing).take 32768).length < 90
        rw [List.length_take, List.length_cons]
        omega
      rw [hfew hshort, hu]

end Sys2Proof.Machine
end

section
/-! SUPPORT. The key write, the test port and the host self-test (O25). -/
namespace Sys2Proof.Machine

/-! ### The open port (R446, R448) -/

theorem State.testOpen_of_closed {s : State} (h : s.lifeCycle = .retired ∨ s.lifeCycle = .field ∨
    ((s.lifeCycle = .commission ∨ s.lifeCycle = .service) ∧ s.ms.mode ≠ .lockout)) : s.testOpen = false := by
  unfold State.testOpen
  obtain h | h | ⟨h | h, hmode⟩ := h
  · rw [h]
  · rw [h]
  · rw [h]
    simpa using hmode
  · rw [h]
    simpa using hmode

/-- COMMISSION in LOCKOUT (R446). -/
theorem State.commissionOpen {s : State} (hretired : s.fuses.retired = false) (hmade : s.fuses.manufactured = true)
    (hcom : s.fuses.commissioned = false) (hmode : s.ms.mode = .lockout) : s.lifeCycle = .commission ∧ s.testOpen = true := by
  have hlife : s.lifeCycle = .commission := by simp [State.lifeCycle, hretired, hmade, hcom]
  exact ⟨hlife, by simp [State.testOpen, hlife, hmode]⟩

/-! ### The self-test's lane (R509) -/

theorem OnlyLane.withdraw (s : State) (l : Lane) : OnlyLane l s (s.withdraw l) := by
  have hlanes : (s.withdraw l).lanes = (s.exitLane l 0xA).lanes := by
    unfold State.withdraw
    dsimp only
    split <;> simp
  exact (OnlyLane.exitLane s l 0xA).of_eq hlanes

theorem State.bistGo_effect {s : State} (hdom : s.pwr.dom.getLsbD 3 = true) (hbusy : s.prf.bistBusy = false) (hopen : s.testOpen = true) :
    s.bistGo.prf = { s.prf with
      bistBusy := true, bistDone := false, bistPass := false, bistRefused := false, bistLast := s.prf.bistBlock } ∧
    ((s.lane (bistLane s.prf.bistBlock)).svc ≠ .disabled → (s.bistGo.lane (bistLane s.prf.bistBlock)).svc = .withdrawn) ∧
    OnlyLane (bistLane s.prf.bistBlock) s s.bistGo ∧ s.bistGo.fuses = s.fuses ∧ s.bistGo.pending = s.pending := by
  have hgo : s.bistGo = { (s.withdraw (bistLane s.prf.bistBlock)).modLaneSt (bistLane s.prf.bistBlock)
        (fun x => if x.svc == .disabled then x else { x with svc := .withdrawn, copyReq := false }) with
      prf := { s.prf with
        bistBusy := true, bistDone := false, bistPass := false, bistRefused := false, bistLast := s.prf.bistBlock } } := by
    unfold State.bistGo
    rw [if_neg (by simp only [hdom]; decide), if_neg (by simp [hopen]), if_neg (by simp [hbusy])]
    simp
  generalize bistLane s.prf.bistBlock = l at hgo
  have hlanes : s.bistGo.lanes = ((s.withdraw l).modLaneSt l
      (fun x => if x.svc == .disabled then x else { x with svc := .withdrawn, copyReq := false })).lanes := by rw [hgo]
  refine ⟨by rw [hgo], fun hsvc => ?_, ?_, by simp [hgo], by simp [hgo]⟩
  · rw [lane_of_lanes hlanes l, State.lane_modLaneSt_self]
    have hleft : ((s.withdraw l).lane l).svc ≠ .disabled := by
      have hw : (s.withdraw l).lanes = (s.exitLane l 0xA).lanes := by
        unfold State.withdraw
        dsimp only
        split <;> simp
      rw [lane_of_lanes hw l]
      by_cases hin : (s.lane l).svc = .inService
      · obtain ⟨hset, -⟩ := State.exitLane_calm hin (cause := 0xA) rfl
        rw [State.lane, hset, PerLane.get_set_self]
        simp [LaneSt.left]
      · rw [State.exitLane_of_not_inService hin]
        exact hsvc
    rw [if_neg (by simpa using hleft)]
  · exact ((OnlyLane.withdraw s l).trans (.modLaneSt _ l _)).of_eq hlanes

/-- What a LANE reset leaves of the proofs' state and of the host's: the phase of a rolling proof, and a mirror read under way, may end. -/
theorem State.laneReset_prf_host (s : State) (l : Lane) :
    (s.laneReset l).prf = { s.prf with phase := (s.laneReset l).prf.phase } ∧
    (s.laneReset l).host.raised = s.host.raised ∧ (s.laneReset l).host.msixMask = s.host.msixMask := by
  unfold State.laneReset
  extract_lets x _ y s1 s2 _ _ s3 _ s4 _ s5
  have hs3 : s3.prf = s.prf ∧ s3.host = s.host := by simp [s3, s2, s1]
  have hs4 : s4.prf = s3.prf ∧ s4.host.raised = s3.host.raised ∧ s4.host.msixMask = s3.host.msixMask := by
    dsimp only [s4]
    split <;> exact ⟨rfl, rfl, rfl⟩
  have hs5 : s5.prf = { s4.prf with phase := s5.prf.phase } ∧ s5.host = s4.host := by
    dsimp only [s5]
    split <;> exact ⟨rfl, rfl⟩
  have e_prf : ((s5.restartOld l).takeTrial l).prf = s5.prf := by simp
  have e_host : ((s5.restartOld l).takeTrial l).host = s5.host := by simp
  obtain ⟨h4prf, hraised, hmask⟩ := hs4
  obtain ⟨h5prf, h5host⟩ := hs5
  rw [e_prf, e_host, h5host, hraised, hmask, hs3.2]
  refine ⟨?_, rfl, rfl⟩
  rw [h4prf, hs3.1] at h5prf
  exact h5prf

theorem State.raiseVec_effect (s : State) {v : Nat} (hv : v < 32) :
    (s.raiseVec v).host.raised = s.host.raised ++ [v] ∨ (s.raiseVec v).host.pendingVec.getLsbD v = true := by
  unfold State.raiseVec
  split
  · exact .inr (by simp [hv])
  · exact .inl rfl

/-- R509, R535: the end of the self-test. -/
theorem exec_bistDone_effect (s : State) (pass : Bool) (us : Nat) (hbusy : s.prf.bistBusy = true)
    (hsvc : (s.lane (bistLane s.prf.bistLast)).svc ≠ .disabled) : ∃ t, exec (.bistDone pass us) s = .next t ∧
      t.prf.bistBusy = false ∧ t.prf.bistDone = true ∧ t.prf.bistPass = pass ∧ t.prf.bistUs = min 16777215 us ∧
      (t.lane (bistLane s.prf.bistLast)).svc = .reset ∧
      (t.host.raised = s.host.raised ++ [19] ∨ t.host.pendingVec.getLsbD 19 = true) ∧
      t.fuses = s.fuses ∧ t.ms = s.ms ∧ t.pending = s.pending := by
  obtain ⟨s1, hs1⟩ : ∃ s1 : State, s1 = { s with prf := { s.prf with
      bistBusy := false, bistDone := true, bistPass := pass, bistUs := min 16777215 us } } := ⟨_, rfl⟩
  obtain ⟨s2, hs2⟩ : ∃ s2 : State, s2 = if pass && s.prf.bistLast.toNat % 4 == 0 then
      s1.modAllK (fun k => k.endExclusions (bistLane s.prf.bistLast)) else s1 := ⟨_, rfl⟩
  have hexec : exec (.bistDone pass us) s = .next ((s2.laneReset (bistLane s.prf.bistLast)).raiseVec 19) := by
    rw [hs2, hs1]
    exact if_neg (by simp [hbusy])
  refine ⟨_, hexec, ?_⟩
  generalize bistLane s.prf.bistLast = l at hsvc hs2
  have hkept : s2.prf = s1.prf ∧ s2.host = s.host ∧ s2.fuses = s.fuses ∧ s2.ms = s.ms ∧ s2.pending = s.pending ∧
      (s2.lane l).svc = (s.lane l).svc := by
    subst hs2 hs1
    split
    · simp only [State.modAllK_frame, State.lane_modAllK, true_and]
      rfl
    · exact ⟨rfl, rfl, rfl, rfl, rfl, rfl⟩
  obtain ⟨e_prf, e_host, e_fuses, e_ms, e_pending, e_svc⟩ := hkept
  obtain ⟨hprf, hraised, -⟩ := s2.laneReset_prf_host l
  obtain ⟨b, n, hlane⟩ := s2.laneReset_lane l
  rw [e_prf, hs1] at hprf
  have e_prf' : ((s2.laneReset l).raiseVec 19).prf = (s2.laneReset l).prf := by simp
  have e_lane : (((s2.laneReset l).raiseVec 19).lane l) = (s2.laneReset l).lane l := lane_of_lanes (by simp) l
  refine ⟨?_, ?_, ?_, ?_, ?_, ?_, by simp [e_fuses], by simp [e_ms], by simp [e_pending]⟩
  · rw [e_prf', hprf]
  · rw [e_prf', hprf]
  · rw [e_prf', hprf]
  · rw [e_prf', hprf]
  · rw [e_lane, hlane]
    exact if_neg (by simpa [e_svc] using hsvc)
  · have h := (s2.laneReset l).raiseVec_effect (v := 19) (by decide)
    rw [hraised, e_host] at h
    exact h

/-- Settles O25: the key write, the test port and the host self-test. -/
theorem keyWriteAndSelfTest : Obligations.KeyWriteAndSelfTest := by
  unfold Obligations.KeyWriteAndSelfTest
  refine ⟨fun s key hretired hmade hcom hmode => ?_, fun s key hclosed => ?_, fun s key hopen hlife => ?_, fun s via hopen => ?_,
    fun s hdom hbusy hopen => ?_, fun s pass us hbusy hsvc => exec_bistDone_effect s pass us hbusy hsvc⟩
  · obtain ⟨hlife, hopen⟩ := State.commissionOpen hretired hmade hcom hmode
    have hexec : exec (.keyEncryptionKeyWrite key) s = match s.fuses.kek with
        | some _ => .next s
        | none => .next { s with fuses := { s.fuses with kek := some key } } :=
      (if_neg (by simp [hopen])).trans (if_neg (by simp [hlife]))
    rw [hexec]
    refine ⟨fun hnone => by rw [hnone], fun hsome => ?_⟩
    obtain ⟨k, hk⟩ := Option.ne_none_iff_exists'.mp hsome
    rw [hk]
  · have hopen := State.testOpen_of_closed hclosed
    exact ⟨if_pos (by simp [hopen]), if_neg (by simp [hopen])⟩
  · exact (if_neg (by simp [hopen])).trans (if_pos (by simpa using hlife))
  · exact if_pos hopen
  · obtain ⟨hprf, hwithdrawn, honly, hfuses, hpending⟩ := State.bistGo_effect hdom hbusy hopen
    exact ⟨_, rfl, by rw [hprf], by rw [hprf], by rw [hprf], hwithdrawn, honly, hfuses, hpending⟩

end Sys2Proof.Machine
end

section
/-! SUPPORT. The measured pulses (O26). -/
namespace Sys2Proof.Machine

theorem qualifies_iff (us : Nat) : qualifies us = true ↔ 50000 ≤ us ∧ us ≤ 2000000 := by
  simp [qualifies]

theorem needOf_pos (members : BitVec 3) : 0 < needOf members := by
  unfold needOf
  split <;> decide

theorem mem_insertBy {α : Type} (lt : α → α → Bool) (a b : α) (l : List α) : b ∈ insertBy lt a l ↔ b = a ∨ b ∈ l := by
  induction l with
  | nil => simp [insertBy]
  | cons x rest ih =>
    unfold insertBy
    split
    · simp
    · simp only [List.mem_cons, ih]
      tauto

/-! ### RSTREQ (R53) -/

/-- R53: in RUN and RUN-2 each lane notes a pulse that none of them measured as short. -/
theorem exec_rstreqFalling_run {s : State} (hhigh : s.rrq.high = true) (hstuck : s.rrq.stuck = false)
    (hmode : s.ms.mode = .run ∨ s.ms.mode = .run2) {h : PerLane Nat} (us : Nat) (hlong : ∀ l : Lane, 50000 ≤ h.get l) :
    exec (.rstreqFalling h us) s = .next { s with rrq := { s.rrq with
      high := false, laneFell := PerLane.ofFn (fun l => decide (h.get l ≤ 2000000) || s.rrq.laneFell.get l)
      fellRise := if h.a ≤ 2000000 ∨ h.b ≤ 2000000 ∨ h.c ≤ 2000000 then some s.rrq.riseTick else s.rrq.fellRise } } := by
  have hshorts : (lanesOf s.acting).filter (fun l => decide (h.get l < 50000)) = [] := by
    simpa [List.filter_eq_nil_iff] using fun l _ => hlong l
  have hexec : exec (.rstreqFalling h us) s = .next { s with rrq := { s.rrq with
      high := false, laneFell := (h.map qualifies).mapL (fun l b => b || s.rrq.laneFell.get l)
      fellRise := if (h.map qualifies).toList.any id then some s.rrq.riseTick else s.rrq.fellRise } } := by
    refine (if_neg (by simp [hhigh])).trans ((if_neg (by simp [hstuck])).trans ((if_pos (by simpa using hmode)).trans ?_))
    rw [hshorts]
    exact if_neg (by simpa using (needOf_pos s.acting).ne')
  have hqual (l : Lane) : qualifies (h.get l) = decide (h.get l ≤ 2000000) := by
    simp [qualifies, hlong l]
  have hmap : h.map qualifies = h.map (fun us => decide (us ≤ 2000000)) := by
    unfold PerLane.map
    exact congr (congr (congrArg _ (hqual .a)) (hqual .b)) (hqual .c)
  have hfell : (h.map qualifies).mapL (fun l b => b || s.rrq.laneFell.get l) =
      PerLane.ofFn (fun l => decide (h.get l ≤ 2000000) || s.rrq.laneFell.get l) := by
    rw [hmap]
    rfl
  have hany : ((h.map qualifies).toList.any id = true) = (h.a ≤ 2000000 ∨ h.b ≤ 2000000 ∨ h.c ≤ 2000000) := by
    rw [hmap]
    simp [PerLane.toList, PerLane.map]
  rw [hexec, hfell]
  simp only [hany]

/-! ### Acknowledge pulses (R95) -/

/-- Part K with a pulse that awaits its place. -/
def LaneK.acked (ch : Chan) (k : LaneK) : LaneK :=
  if k.ackPend.contains ch then k
  else { k with ackPend := insertBy (fun a b => decide (a.val < b.val)) ch k.ackPend }

theorem LaneK.acked_effect (ch : Chan) (k : LaneK) :
    k.acked ch = { k with ackPend := (k.acked ch).ackPend } ∧ ∀ c : Chan, c ∈ (k.acked ch).ackPend ↔ c = ch ∨ c ∈ k.ackPend := by
  unfold LaneK.acked
  split
  next hin =>
    have hmem : ch ∈ k.ackPend := by simpa using hin
    exact ⟨rfl, fun c => ⟨.inr, fun h => h.elim (fun he => he ▸ hmem) id⟩⟩
  next => exact ⟨rfl, fun c => mem_insertBy _ _ _ _⟩

/-- Settles O26: RSTREQ and the acknowledge pulse. -/
theorem pulsesAreMeasured : Obligations.PulsesAreMeasured := by
  unfold Obligations.PulsesAreMeasured
  refine ⟨fun s => ⟨fun hlow => ⟨if_neg (by simp [hlow]), if_neg (by simp [hlow])⟩, fun hhigh hstuck => ?_, fun hhigh hstuck h us => ?_,
    fun hhigh hstuck hrun hrun2 h us hshort => ?_, fun hhigh hstuck hmode h us hlong => exec_rstreqFalling_run hhigh hstuck hmode us hlong⟩,
    fun s ch highUs hticks hack hneed => ?_⟩
  · refine ⟨_, if_pos (by simp [hhigh, hstuck]), by simp, ?_⟩
    exact sameBut_of _ _ _ fun p => by cases p <;> simp [Part.agree]
  · exact (if_neg (by simp [hhigh])).trans (if_pos hstuck)
  · exact (if_neg (by simp [hhigh])).trans ((if_neg (by simp [hstuck])).trans ((if_neg (by simp [hrun, hrun2])).trans (if_pos hshort)))
  · have hgood : (lanesOf s.acting).filter (fun l => qualifies (highUs.get l)) =
        (lanesOf s.acting).filter (fun l => decide (50000 ≤ highUs.get l ∧ highUs.get l ≤ 2000000)) := by
      simp [qualifies]
    have hexec : exec (.zoneAckPulse ch highUs) s = .next (s.modRunK (LaneK.acked ch)) :=
      if_neg (by rw [hgood]; simp [hticks, hack] at hneed ⊢; exact hneed)
    refine ⟨_, hexec, fun l hl => ?_, fun l hl => ?_, s.modRunK_sameBut _⟩
    · obtain ⟨heq, hmem⟩ := (s.lane l).region.k.acked_effect ch
      rw [State.lane_modRunK, if_pos hl]
      refine ⟨(hmem ch).mpr (.inl rfl), hmem, ?_⟩
      rw [← heq]
    · rw [State.lane_modRunK, if_neg (by simp [hl])]

end Sys2Proof.Machine
end

section
/-! SUPPORT. What a reset request clears (O27). -/
namespace Sys2Proof.Machine

/-! ### In LOCKOUT (R46, R56, R57, R482) -/

theorem State.bootStart_latrecPend (s : State) : s.bootStart.aon.latrecPend = s.aon.latrecPend := by
  obtain ⟨⟨p, haon⟩, -⟩ := ({ s with aon := { s.aon with restart := s.aon.restart + 1 } } : State).appendRetService_effect
  unfold State.bootStart
  dsimp only
  split
  · simp only [State.latchFault, haon]
  · rw [haon]

/-- A request that cleared something is counted and reported (R57, R514). -/
theorem State.countClear_effect (s : State) (o : ResetOrigin) : (s.countClear o true).rrq = { s.rrq with accept := satInc 255 s.rrq.accept } ∧
    SameBut [.rrq, .log, .mail, .host] s (s.countClear o true) := by
  have hcounted : SameBut [.rrq] s { s with rrq := { s.rrq with accept := satInc 255 s.rrq.accept } } :=
    sameBut_of _ _ _ fun p => by cases p <;> simp [Part.agree]
  unfold State.countClear
  rw [if_pos rfl]
  dsimp only
  split
  · exact ⟨by simp, (hcounted.mono (by simp)).trans ((State.raise_sameBut _ _ _ _ _ _).mono (by simp))⟩
  · exact ⟨by simp, (hcounted.mono (by simp)).trans ((State.raise_sameBut _ _ _ _ _ _).mono (by simp))⟩

/-- R46, R482: the latch is cleared, and its record is written or waits. -/
theorem State.clearLatch_effect (s : State) :
    s.clearLatch.aon = { s.aon with latch := false, latchCause := 0, latchTick := 0, latrecPend := !s.nvm.ready } ∧
    (s.nvm.ready = true → ∃ r, s.clearLatch.nvm.latchLog.newest = some r ∧ r.stateByte = 0x00 ∧ r.valid = true) ∧
    SameBut [.aon, .nvm] s s.clearLatch := by
  obtain ⟨haon, -, hsame⟩ :=
    ({ s with aon := { s.aon with latch := false, latchCause := 0, latchTick := 0 } } : State).appendLatch_effect
  refine ⟨haon, fun hready => ?_, SameBut.trans ?_ hsame⟩
  · have hrec : s.clearLatch.nvm.latchLog = s.nvm.latchLog.append
        (⟨0, (s.nvm.latchLog.newest.map (fun r => r.seq + 1)).getD 0, 0x00, 0, 0, 0⟩ : LatchRec).sealed := by
      simp [State.clearLatch, State.appendLatch, hready]
    exact ⟨_, by rw [hrec, Sectors.newest_append], rfl, LatchRec.sealed_valid _⟩
  · exact sameBut_of _ _ _ fun p => by cases p <;> simp [Part.agree]

/-- A request for the whole module that began after the latch clears it, and the module resets WARM (R56). -/
theorem exec_qualified_clears {s : State} {o : ResetOrigin} {begun : Tick} (hphase : s.pwr.phase = .normal)
    (hheld : s.ms.porHeld = false) (hmode : s.ms.mode = .lockout) (ho : o = .rstreq ∨ o = .twoStep none) (hlatch : s.aon.latch = true)
    (hlater : 0 < (begun - s.aon.latchTick).toInt) :
    exec (.qualifiedResetRequest o begun) s = .next ((s.clearLatch.countClear o true).moduleReset 3 1) := by
  have hgt : tickGt begun s.aon.latchTick = true := decide_eq_true hlater
  have hqualified : (s.qualified o begun).1 = (s.clearLatch.countClear o true).warmReset 1 := by
    unfold State.qualified
    rw [hmode]
    rcases ho with rfl | rfl <;> simp [hlatch, hgt]
  obtain ⟨-, hcount⟩ := s.clearLatch.countClear_effect o
  obtain ⟨-, -, hclear⟩ := s.clearLatch_effect
  have hpwr : (s.clearLatch.countClear o true).pwr = s.pwr := (hcount .pwr (by simp)).trans (hclear .pwr (by simp))
  have hms : (s.clearLatch.countClear o true).ms = s.ms := (hcount .ms (by simp)).trans (hclear .ms (by simp))
  have hwarm : (s.clearLatch.countClear o true).warmReset 1 = (s.clearLatch.countClear o true).moduleReset 3 1 :=
    if_pos (by rw [hpwr, hms]; simp [hphase, hheld])
  refine (if_neg (by simp [hphase, hheld])).trans ?_
  rw [hqualified, hwarm]

/-- R46, R56, R57, R482: what the cleared latch leaves. -/
theorem State.cleared_effect (s : State) (o : ResetOrigin) :
    ∃ t, t = (s.clearLatch.countClear o true).moduleReset 3 1 ∧
      t.aon.latch = false ∧ t.aon.latchCause = 0 ∧ t.ms.mode = .boot ∧ t.ms.outHold = true ∧
      t.rrq.accept = satInc 255 s.rrq.accept ∧ t.rrq.ignored = s.rrq.ignored ∧ t.aon.kind = 3 ∧ t.aon.warmSrc = 1 ∧
      (s.nvm.ready = true → ∃ r, t.nvm.latchLog.newest = some r ∧ r.stateByte = 0x00 ∧ r.valid = true) ∧
      (s.nvm.ready = false → t.aon.latrecPend = true) ∧ t.fuses = s.fuses ∧ t.pending = s.pending := by
  obtain ⟨haon, hrec, hclear⟩ := s.clearLatch_effect
  obtain ⟨hrrq, hcount⟩ := s.clearLatch.countClear_effect o
  generalize s.clearLatch = u at haon hrec hclear hrrq hcount ⊢
  generalize u.countClear o true = v at hrrq hcount ⊢
  obtain ⟨hmode, hhold, -, -, hrestart, -, -, -, -, -, hnvm, hsame⟩ := v.moduleReset_effect 3 1
  have e_aon : v.aon = { s.aon with latch := false, latchCause := 0, latchTick := 0, latrecPend := !s.nvm.ready } :=
    (hcount .aon (by simp)).trans haon
  have e_nvm : v.nvm = u.nvm := hcount .nvm (by simp)
  have e_rrq : u.rrq = s.rrq := hclear .rrq (by simp)
  have hreset : (v.moduleReset 3 1).rrq.accept = v.rrq.accept ∧ (v.moduleReset 3 1).rrq.ignored = v.rrq.ignored := by
    unfold State.moduleReset
    dsimp only
    rw [(State.bootStart_effect _).2.2.2 .rrq (by simp)]
    exact ⟨rfl, rfl⟩
  have hwaits : (v.moduleReset 3 1).aon.latrecPend = v.aon.latrecPend := by
    unfold State.moduleReset
    dsimp only
    rw [State.bootStart_latrecPend]
  rw [hrrq, e_rrq] at hreset
  refine ⟨_, rfl, ?_, ?_, hmode, hhold, hreset.1, hreset.2, hrestart.kind, hrestart.warmSrc, fun hready => ?_, fun hbusy => ?_, ?_, ?_⟩
  · exact hrestart.latch.trans (by simp [e_aon])
  · exact hrestart.latchCause.trans (by simp [e_aon])
  · rw [hnvm.latchLog, e_nvm]
    exact hrec hready
  · rw [hwaits, e_aon, hbusy]
    rfl
  · exact (hsame .fuses (by simp)).trans ((hcount .fuses (by simp)).trans (hclear .fuses (by simp)))
  · exact (hsame .pending (by simp)).trans ((hcount .pending (by simp)).trans (hclear .pending (by simp)))

/-- A request that began no later than the latch is counted (R57). -/
theorem exec_qualified_ignored {s : State} (o : ResetOrigin) {begun : Tick} (hphase : s.pwr.phase = .normal)
    (hheld : s.ms.porHeld = false) (hmode : s.ms.mode = .lockout) (hearly : ¬ 0 < (begun - s.aon.latchTick).toInt) :
    exec (.qualifiedResetRequest o begun) s = .next { s with rrq := { s.rrq with ignored := satInc 255 s.rrq.ignored } } := by
  have hgt : tickGt begun s.aon.latchTick = false := decide_eq_false hearly
  have hqualified : (s.qualified o begun).1 = s.countClear o false := by
    unfold State.qualified
    rw [hmode]
    simp [hgt]
  refine (if_neg (by simp [hphase, hheld])).trans ?_
  rw [hqualified]
  rfl

/-! ### In RUN and RUN-2 (R51, R56, R57, R270) -/

/-- A request for the whole module that began after the hold was set clears it (R51, R57). -/
theorem State.clearConds_whole {s : State} {o : ResetOrigin} {begun : Tick} (ho : o = .rstreq ∨ o = .twoStep none)
    (hhold : s.ms.outHold = true) (hlater : 0 < (begun - s.ms.holdTick).toInt) :
    (s.clearConds o begun).1.ms = { s.ms with outHold := false } ∧ (s.clearConds o begun).2 = true ∧
    SameBut [.ms, .lanes] s (s.clearConds o begun).1 := by
  have hgt : tickGt begun s.ms.holdTick = true := decide_eq_true hlater
  have heq : ∃ f, s.clearConds o begun =
      ({ s.modRunK f with ms := { (s.modRunK f).ms with outHold := false } }, true) := by
    unfold State.clearConds
    rcases ho with rfl | rfl
    · exact ⟨_, by simp only [hhold, hgt, Bool.and_true, if_true, Bool.true_or]; rfl⟩
    · exact ⟨_, by simp only [hhold, hgt, Bool.and_true, if_true, Bool.true_or]; rfl⟩
  obtain ⟨f, heq⟩ := heq
  rw [heq]
  refine ⟨by rw [show (s.modRunK f).ms = s.ms by simp], rfl, ((s.modRunK_sameBut f).mono (by simp)).trans ?_⟩
  exact sameBut_of _ _ _ fun p => by cases p <;> simp [Part.agree]

/-- A lane's lockout of a channel is cleared where the request began later and no cause is present (R56, R270). -/
def LaneK.cleared (c : Chan) (begun : Tick) (e : EchoAgreed) (trip fbOff : Bool) (k : LaneK) : LaneK :=
  (Loc.clear (Loc.start k) c begun e trip fbOff).1.k

theorem LaneK.cleared_effect (c : Chan) (begun : Tick) (e : EchoAgreed) (trip fbOff : Bool) (k : LaneK) :
    (∀ lk, k.outs[c].lock = some lk → (k.cleared c begun e trip fbOff).outs[c].lock =
      if 0 < (begun - lk.tick).toInt ∧ present e trip fbOff = false then none else some lk) ∧
    (∀ d : Chan, d ≠ c → (k.cleared c begun e trip fbOff).outs[d] = k.outs[d]) := by
  unfold LaneK.cleared Loc.clear
  refine ⟨fun lk hlk => ?_, fun d hd => ?_⟩
  · rw [show ((Loc.start k).out c).lock = some lk from hlk]
    dsimp only
    by_cases hclears : 0 < (begun - lk.tick).toInt ∧ present e trip fbOff = false
    · have hgt : tickGt begun lk.tick = true := decide_eq_true hclears.1
      rw [if_pos hclears, if_pos (by simp [hgt, hclears.2])]
      exact congrArg OutK.lock (vmod_self _ _ _)
    · rw [if_neg hclears, if_neg (by simpa [tickGt, tickDiff] using hclears)]
      exact hlk
  · split
    · rfl
    · split
      · exact vmod_ne _ _ _ _ hd
      · rfl

/-- Whether the lead's part K clears, all running lanes of one lockout clear with it. -/
theorem Loc.clear_flag (c : Chan) (begun : Tick) (e : EchoAgreed) (trip fbOff : Bool) (k : LaneK) {lk : ChLock}
    (hlk : k.outs[c].lock = some lk) : (Loc.clear (Loc.start k) c begun e trip fbOff).2 =
      (tickGt begun lk.tick && !present e trip fbOff) := by
  unfold Loc.clear
  rw [show ((Loc.start k).out c).lock = some lk from hlk]
  dsimp only
  cases hclears : tickGt begun lk.tick && !present e trip fbOff
  · rfl
  · rfl

/-- A request for one channel clears its lockout in the running lanes, and nothing else (R57, R270). -/
theorem State.clearConds_channel {s : State} {c : Chan} {lk : ChLock} (begun : Tick) (hlead : s.leadK.outs[c].lock = some lk)
    (hlanes : ∀ l : Lane, l.inMask s.running = true → ((s.lane l).region.k.outs[c]).lock = some lk) :
    (∀ l : Lane, l.inMask s.running = true → (((s.clearConds (.twoStep (some c)) begun).1.lane l).region.k.outs[c]).lock =
      if 0 < (begun - lk.tick).toInt ∧ present (s.lastEcho c) s.fld.regs[c].tripped (s.lastFbOff c) = false then none else some lk) ∧
    (∀ l : Lane, ∀ d : Chan, d ≠ c →
      ((s.clearConds (.twoStep (some c)) begun).1.lane l).region.k.outs[d] = (s.lane l).region.k.outs[d]) ∧
    SameBut [.lanes] s (s.clearConds (.twoStep (some c)) begun).1 := by
  have hflag := Loc.clear_flag c begun (s.lastEcho c) s.fld.regs[c].tripped (s.lastFbOff c) s.leadK hlead
  cases hclears : tickGt begun lk.tick && !present (s.lastEcho c) s.fld.regs[c].tripped (s.lastFbOff c)
  case false =>
    have hnot : ¬ (0 < (begun - lk.tick).toInt ∧ present (s.lastEcho c) s.fld.regs[c].tripped (s.lastFbOff c) = false) := by
      simpa [tickGt, tickDiff] using hclears
    have heq : (s.clearConds (.twoStep (some c)) begun).1 = s.modRunK id := by
      unfold State.clearConds State.clearScope
      simp only [Bool.false_and, Bool.false_eq_true, if_false, List.filter_singleton, hflag, hclears, cond_false, List.foldl_nil]
      rfl
    have hlane (l : Lane) : (s.modRunK id).lane l = s.lane l := by
      rw [State.lane_modRunK]
      split <;> rfl
    rw [heq]
    refine ⟨fun l hl => ?_, fun l d _ => ?_, s.modRunK_sameBut _⟩
    · rw [hlane, if_neg hnot]
      exact hlanes l hl
    · rw [hlane]
  case true =>
    have heq : (s.clearConds (.twoStep (some c)) begun).1 =
        s.modRunK (LaneK.cleared c begun (s.lastEcho c) s.fld.regs[c].tripped (s.lastFbOff c)) := by
      unfold State.clearConds State.clearScope
      simp only [Bool.false_and, Bool.false_eq_true, if_false, List.filter_singleton, hflag, hclears, cond_true, List.foldl_cons,
        List.foldl_nil]
      rfl
    have hk (k : LaneK) := k.cleared_effect c begun (s.lastEcho c) s.fld.regs[c].tripped (s.lastFbOff c)
    rw [heq]
    refine ⟨fun l hl => ?_, fun l d hd => ?_, s.modRunK_sameBut _⟩
    · rw [State.lane_modRunK, if_pos hl]
      exact (hk _).1 lk (hlanes l hl)
    · rw [State.lane_modRunK]
      split
      · exact (hk _).2 d hd
      · rfl

/-- The edge evaluates the one request that waits (R56). -/
theorem State.edgeClear_one {s : State} {o : ResetOrigin} {begun : Tick} (h : s.rrq.clearNext = [(o, begun, none)]) :
    s.edgeClear.1 = (({ s with rrq := { s.rrq with clearNext := [], ignoredNext := [] } } : State).clearConds o begun).1.countClear o
      (({ s with rrq := { s.rrq with clearNext := [], ignoredNext := [] } } : State).clearConds o begun).2 := by
  unfold State.edgeClear
  rw [h]
  rfl

theorem State.countClear_sameBut (s : State) (o : ResetOrigin) (did : Bool) : SameBut [.rrq, .log, .mail, .host] s (s.countClear o did) := by
  cases did
  · exact sameBut_of _ _ _ fun p => by cases p <;> simp [Part.agree, State.countClear]
  · exact (s.countClear_effect o).2

/-- Settles O27: what a qualified reset request clears in LOCKOUT, and at an edge of RUN or RUN-2. -/
theorem resetRequestsClear : Obligations.ResetRequestsClear := by
  unfold Obligations.ResetRequestsClear
  have hwaited (s : State) : SameBut [.rrq] s { s with rrq := { s.rrq with clearNext := [], ignoredNext := [] } } :=
    sameBut_of _ _ _ fun p => by cases p <;> simp [Part.agree]
  refine ⟨⟨fun s o begun hphase hheld hmode ho hlatch hlater => ?_, fun s o begun hphase hheld hmode hearly =>
    exec_qualified_ignored o hphase hheld hmode hearly⟩, fun s o begun hphase hheld hmode => ?_,
    fun s t o begun ht hone ho hhold hlater => ?_, fun s t c begun lk ht hone hlead hlanes => ?_⟩
  · obtain ⟨t, rfl, h⟩ := s.cleared_effect o
    exact ⟨_, exec_qualified_clears hphase hheld hmode ho hlatch hlater, h⟩
  · have hqualified : (s.qualified o begun).1 = { s with rrq := { s.rrq with clearNext := s.rrq.clearNext ++ [(o, begun, none)] } } := by
      unfold State.qualified
      rcases hmode with h | h <;> rw [h]
    refine (if_neg (by simp [hphase, hheld])).trans ?_
    rw [hqualified]
  · rw [State.edgeClear_one hone] at ht
    have hsu := hwaited s
    generalize hu : ({ s with rrq := { s.rrq with clearNext := [], ignoredNext := [] } } : State) = u at ht hsu
    have hms : u.ms = s.ms := hsu .ms (by simp)
    have hrrq : u.rrq = { s.rrq with clearNext := [], ignoredNext := [] } := by rw [← hu]
    obtain ⟨hcleared, hdid, huv⟩ := State.clearConds_whole (s := u) (o := o) (begun := begun) ho (by rw [hms, hhold])
      (by rw [hms]; exact hlater)
    rw [hdid] at ht
    obtain ⟨hcount, hvt⟩ := (u.clearConds o begun).1.countClear_effect o
    have e_rrq : (u.clearConds o begun).1.rrq = u.rrq := huv .rrq (by simp)
    rw [← ht] at hcount hvt
    refine ⟨?_, ?_, (hsu.mono (by simp)).trans ((huv.mono (by simp)).trans (hvt.mono (by simp)))⟩
    · rw [hvt .ms (by simp), hcleared, hms]
    · rw [hcount, e_rrq, hrrq]
      rfl
  · rw [State.edgeClear_one hone] at ht
    have hsu := hwaited s
    generalize hu : ({ s with rrq := { s.rrq with clearNext := [], ignoredNext := [] } } : State) = u at ht hsu
    have hfacts : u.leadK = s.leadK ∧ u.lastEcho c = s.lastEcho c ∧ u.lastFbOff c = s.lastFbOff c ∧ u.fld = s.fld ∧
        u.running = s.running ∧ ∀ l, u.lane l = s.lane l := by
      rw [← hu]
      exact ⟨rfl, rfl, rfl, rfl, rfl, fun _ => rfl⟩
    obtain ⟨e_lead, e_echo, e_fb, e_fld, e_run, e_lane⟩ := hfacts
    obtain ⟨hcleared, hkept, huv⟩ := State.clearConds_channel (s := u) begun (by rw [e_lead]; exact hlead)
      (fun l hl => by rw [e_lane]; exact hlanes l (by rw [← e_run]; exact hl))
    have hvt := (u.clearConds (.twoStep (some c)) begun).1.countClear_sameBut (.twoStep (some c))
      (u.clearConds (.twoStep (some c)) begun).2
    rw [← ht] at hvt
    have e_lane' (l : Lane) : t.lane l = (u.clearConds (.twoStep (some c)) begun).1.lane l := lane_of_lanes (hvt .lanes (by simp)) l
    refine ⟨fun l hl => ?_, fun l d hd => ?_, ?_, (hsu.mono (by simp)).trans ((huv.mono (by simp)).trans (hvt.mono (by simp)))⟩
    · rw [e_lane', hcleared l (by rw [e_run]; exact hl), e_echo, e_fb, e_fld]
    · rw [e_lane', hkept l d hd, e_lane]
    · exact (hvt .ms (by simp)).trans ((huv .ms (by simp)).trans (hsu .ms (by simp)))

end Sys2Proof.Machine
end

section
/-! SUPPORT. The rows that the lanes evaluate on their committed regions: what they leave of the module (R100-R104, R117, R371). -/
namespace Sys2Proof.Machine

/-! ### The module around an evaluation -/

theorem State.reseal_resealed (s : State) :
    Resealed s s.reseal ∧ s.reseal.gal = { s.gal with nackSealed := s.reseal.gal.nackSealed } ∧
    SameBut [.lanes, .buf, .pair, .gal] s s.reseal := by
  obtain ⟨u, hu⟩ : ∃ u : State, u = if s.frameGone 2 then s else
      { s with pair := { s.pairSealed with removedOut := s.pair.removedOut ++ s.pair.removed, removed := [] } } := ⟨_, rfl⟩
  have hreseal : s.reseal = { u with
      buf := { u.buf with tx := s.reseal.buf.tx }
      lanes := u.lanes.mapL (fun l x => { x with held := x.held.map (u.writeAgain l) })
      gal := { u.gal with nackSealed := s.reseal.gal.nackSealed } } := by
    rw [hu]
    rfl
  have hkept : u.lanes = s.lanes ∧ u.buf = s.buf ∧ u.gal = s.gal ∧
      u.pair = { s.pair with removed := u.pair.removed, removedOut := u.pair.removedOut, sealedER := u.pair.sealedER } := by
    rw [hu]
    split <;> exact ⟨rfl, rfl, rfl, rfl⟩
  obtain ⟨hlanes, hbuf, hgal, hpair⟩ := hkept
  have e_pair : s.reseal.pair = u.pair := by rw [hreseal]
  have e_lanes : s.reseal.lanes = u.lanes.mapL (fun l x => { x with held := x.held.map (u.writeAgain l) }) := by rw [hreseal]
  refine ⟨⟨fun l => ?_, ?_, by rw [e_pair]; exact hpair⟩, ?_, sameBut_of _ _ _ fun p => by cases p <;> simp [Part.agree]⟩
  · simp only [State.lane, e_lanes, PerLane.get_mapL, hlanes]
  · rw [hreseal, hbuf]
  · rw [hreseal, hgal]

theorem State.countRetained_effect (s : State) (cs : List (Fin 9)) :
    (s.countRetained cs).aon = { s.aon with
      counters := (s.countRetained cs).aon.counters, retrecPend := (s.countRetained cs).aon.retrecPend } ∧
    (s.countRetained cs).nvm = { s.nvm with retLog := (s.countRetained cs).nvm.retLog, conv := (s.countRetained cs).nvm.conv } ∧
    (s.countRetained cs).aon.counters =
      cs.foldl (fun (v : Vector Word 9) i => vmod v i (fun w => if w = 0xFFFF_FFFF then w else w + 1)) s.aon.counters := by
  unfold State.countRetained
  split
  next hnone =>
    rw [List.isEmpty_iff.mp hnone]
    exact ⟨rfl, rfl, rfl⟩
  next =>
    dsimp only
    unfold State.appendRetService
    split <;> exact ⟨rfl, rfl, rfl⟩

/-- What an evaluation that asks nothing of the module leaves of it, beside the lanes. -/
theorem State.effects_plain (s : State) {v : Ev} (hresets : v.resets = []) (hlock : v.lockSet = none) :
    (∀ l : Lane, ∃ k, (s.effects v).lane l = { s.lane l with region := { (s.lane l).region with k := k } }) ∧
    (∀ m : Lane, m.inMask (s.running ||| s.acting) = false → (s.effects v).lane m = s.lane m) ∧
    (s.effects v).aon = { s.aon with sessBits := (s.effects v).aon.sessBits, counters := (s.effects v).aon.counters,
                                     retrecPend := (s.effects v).aon.retrecPend } ∧
    (s.effects v).aon.counters =
      v.counts.foldl (fun (v : Vector Word 9) i => vmod v i (fun w => if w = 0xFFFF_FFFF then w else w + 1)) s.aon.counters ∧
    (s.effects v).pair = { s.pair with grantCnt := (s.effects v).pair.grantCnt, refusedCnt := (s.effects v).pair.refusedCnt } ∧
    (s.effects v).rrq = { s.rrq with short := (s.effects v).rrq.short } ∧
    (s.effects v).nvm = { s.nvm with retLog := (s.effects v).nvm.retLog, conv := (s.effects v).nvm.conv } ∧
    SameBut [.lanes, .mail, .host, .aon, .nvm, .pair, .rrq, .log] s (s.effects v) := by
  obtain ⟨u, hu⟩ : ∃ u : State, u = { (s.putRecs v.recs).countRetained v.counts with
      rrq := { ((s.putRecs v.recs).countRetained v.counts).rrq with
        short := satAdd 255 ((s.putRecs v.recs).countRetained v.counts).rrq.short v.late }
      pair := { ((s.putRecs v.recs).countRetained v.counts).pair with
        grantCnt := satAdd 65535 ((s.putRecs v.recs).countRetained v.counts).pair.grantCnt v.granted
        refusedCnt := satAdd 65535 ((s.putRecs v.recs).countRetained v.counts).pair.refusedCnt v.refusedN }
      mail := { ((s.putRecs v.recs).countRetained v.counts).mail with
        seenElem := v.seenElem, seenRoute := v.seenRoute, seenVeh := v.seenVeh, seenSlot := v.seenSlot
        seenSwitch := v.seenSwitch, movedRoute := v.moved } } := ⟨_, rfl⟩
  have heffects : s.effects v = u.posts v.posts := by
    unfold State.effects
    rw [hresets, hlock, hu]
    rfl
  obtain ⟨haon, hnvm, hcounters⟩ := (s.putRecs v.recs).countRetained_effect v.counts
  have hsu : SameBut [.mail, .host, .aon, .nvm, .pair, .rrq, .log] s u := by
    rw [hu]
    exact sameBut_of _ _ _ fun p => by cases p <;> simp [Part.agree]
  have e_lane (l : Lane) : u.lane l = s.lane l := lane_of_lanes (hsu .lanes (by simp)) l
  have e_run : u.running = s.running := State.running_of_lanes (hsu .lanes (by simp))
  have e_act : u.acting = s.acting := by
    unfold State.acting
    rw [e_run, hsu .ms (by simp)]
  have hposts : SameBut [.lanes, .mail, .host, .aon] u (u.posts v.posts) :=
    sameBut_of _ _ _ fun p => by cases p <;> simp [Part.agree]
  have haon' : (u.posts v.posts).aon = { u.aon with sessBits := (u.posts v.posts).aon.sessBits } := State.desk_aon _ _
  have e_aon : u.aon = { s.aon with counters := u.aon.counters, retrecPend := u.aon.retrecPend } := by
    rw [hu]
    simpa using haon
  have e_nvm : u.nvm = { s.nvm with retLog := u.nvm.retLog, conv := u.nvm.conv } := by
    rw [hu]
    simpa using hnvm
  have e_counters : u.aon.counters =
      v.counts.foldl (fun (v : Vector Word 9) i => vmod v i (fun w => if w = 0xFFFF_FFFF then w else w + 1)) s.aon.counters := by
    rw [hu]
    simpa using hcounters
  rw [heffects]
  refine ⟨fun l => ?_, fun m hm => ?_, ?_, ?_, ?_, ?_, ?_, (hsu.mono (by simp)).trans (hposts.mono (by simp))⟩
  · rw [← e_lane l]
    exact State.lane_desk _ _ l
  · rw [← e_lane m]
    exact State.lane_desk_ne _ _ m (by rw [e_run, e_act]; exact hm)
  · rw [haon', e_aon]
  · rw [haon']
    exact e_counters
  · rw [hposts .pair (by simp), hu]
    simp
  · rw [hposts .rrq (by simp), hu]
    simp
  · rw [hposts .nvm (by simp)]
    exact e_nvm

/-- Where the lead's evaluation asks nothing of the module, every lane that runs or acts takes its own evaluation's region, up to the mailbox
work in part K, and the row keeps what `RowKeeps` says. -/
theorem State.evaluated_effect (s : State) {f : Ev → Ev} (hf : ∀ v : Ev, v.SameSetting (f v)) :
    (∀ l : Lane, l.inMask (s.running ||| s.acting) = true → ∃ k,
      (s.evaluated f).lane l = { s.lane l with region := { (f (s.view l)).c with k := k }, held := ((s.evaluated f).lane l).held }) ∧
    (s.evaluated f).aon.counters = (f (s.view s.lead)).counts.foldl
      (fun (v : Vector Word 9) i => vmod v i (fun w => if w = 0xFFFF_FFFF then w else w + 1)) s.aon.counters ∧
    RowKeeps s (s.evaluated f) := by
  obtain ⟨-, -, -, -, -, hresets, hlock, hgal⟩ := hf (s.view s.lead)
  obtain ⟨u, hu⟩ : ∃ u : State, u = { s with
      lanes := s.lanes.mapL (fun l x =>
        if l.inMask (s.running ||| s.acting) then { x with region := (f (s.view l)).c } else x)
      pair := { s.pair with removed := s.pair.removed ++ (f (s.view s.lead)).removed } } := ⟨_, rfl⟩
  have hevaluated : s.evaluated f = u.reseal.effects (f (s.view s.lead)) := by
    have hget : (PerLane.ofFn (fun l => f (s.evOf l .empty))).get s.lead = f (s.view s.lead) := PerLane.get_ofFn _ _
    unfold State.evaluated
    simp only [hget, hgal, PerLane.get_ofFn]
    rw [hu]
    rfl
  have hlane (l : Lane) : u.lane l =
      if l.inMask (s.running ||| s.acting) then { s.lane l with region := (f (s.view l)).c } else s.lane l := by
    rw [hu]
    exact PerLane.get_mapL _ _ _
  have e_pair : u.pair = { s.pair with removed := u.pair.removed } := by rw [hu]
  have hsu : SameBut [.lanes, .pair] s u := by
    rw [hu]
    exact sameBut_of _ _ _ fun p => by cases p <;> simp [Part.agree]
  obtain ⟨⟨hheld, hbuf, hpair⟩, hnack, huv⟩ := u.reseal_resealed
  obtain ⟨hk, hout, haon, hcounters, hpair', hrrq, hnvm, hvw⟩ := u.reseal.effects_plain (v := f (s.view s.lead)) hresets hlock
  have e_svc (l : Lane) : (u.reseal.lane l).svc = (s.lane l).svc := by
    rw [hheld l, hlane l]
    split <;> rfl
  have e_run : u.reseal.running = s.running := by
    simp only [State.running, e_svc]
  have e_act : u.reseal.acting = s.acting := by
    unfold State.acting
    rw [e_run, huv .ms (by simp), hsu .ms (by simp)]
  have e_aon : u.reseal.aon = s.aon := (huv .aon (by simp)).trans (hsu .aon (by simp))
  rw [hevaluated]
  refine ⟨fun l hl => ?_, by rw [hcounters, e_aon], fun m hm => ?_, ?_, ?_, ?_, ?_, ?_, ?_, ?_⟩
  · obtain ⟨k, hk⟩ := hk l
    refine ⟨k, ?_⟩
    have hlane' := hlane l
    rw [if_pos hl] at hlane'
    rw [hk, hheld l, hlane']
  · have hlane' := hlane m
    rw [if_neg (by simp [hm])] at hlane'
    rw [hout m (by rw [e_run, e_act]; exact hm), hheld m, hlane']
  · rw [haon, e_aon]
  · rw [hpair', hpair, e_pair]
  · rw [hrrq, huv .rrq (by simp), hsu .rrq (by simp)]
  · rw [hnvm, huv .nvm (by simp), hsu .nvm (by simp)]
  · rw [hvw .buf (by simp), hbuf, hsu .buf (by simp)]
  · rw [hvw .gal (by simp), hnack, hsu .gal (by simp)]
  · exact (hsu.mono (by simp)).trans ((huv.mono (by simp)).trans (hvw.mono (by simp)))

end Sys2Proof.Machine
end

section
/-! SUPPORT. Elements, routes and vehicles in one lane's evaluation: the rules of reading and writing, and what follows every row (R112,
R126, R170). -/
namespace Sys2Proof.Machine

/-! ### Sparse tables -/

theorem AMap.getD_set_self {α : Type} (m : AMap α) (k : Nat) (v d : α) : (m.set k v).getD k d = v := by
  simp [AMap.getD]

theorem AMap.getD_set_ne {α : Type} (m : AMap α) {k j : Nat} (v d : α) (h : j ≠ k) : (m.set k v).getD j d = m.getD j d := by
  simp [AMap.getD, AMap.get?_set_ne m k j v h]

theorem AMap.get?_isSome_of_mem {α : Type} {m : AMap α} {p : Nat × α} (h : p ∈ m) : (m.get? p.1).isSome = true := by
  induction m with
  | nil => simp at h
  | cons q rest ih =>
    obtain ⟨j, w⟩ := q
    rw [AMap.get?]
    split
    · rfl
    · next hne =>
      rcases List.mem_cons.mp h with rfl | h
      · exact absurd rfl hne
      · exact ih h

theorem AMap.get?_of_mem {α : Type} {m : AMap α} (hwf : m.wf = true) {p : Nat × α} (h : p ∈ m) : m.get? p.1 = some p.2 := by
  induction m with
  | nil => simp at h
  | cons q rest ih =>
    obtain ⟨j, w⟩ := q
    obtain ⟨hlt, hrest⟩ := (AMap.wf_cons j w rest).mp hwf
    rw [AMap.get?]
    rcases List.mem_cons.mp h with rfl | h
    · simp
    · rw [if_neg (Nat.ne_of_lt (hlt p h))]
      exact ih hrest h

theorem AMap.mem_of_get? {α : Type} {m : AMap α} {k : Nat} {v : α} (h : m.get? k = some v) : (k, v) ∈ m := by
  induction m with
  | nil => simp [AMap.get?] at h
  | cons q rest ih =>
    obtain ⟨j, w⟩ := q
    rw [AMap.get?] at h
    split at h
    · next hj =>
      rw [← hj, ← Option.some.inj h]
      exact List.mem_cons_self
    · exact List.mem_cons_of_mem _ (ih h)

/-! ### Elements -/

theorem Elem.butFlank_refl (e : Elem) : e.butFlank e := rfl

theorem Elem.butFlank_trans {e f g : Elem} (h : e.butFlank f) (k : f.butFlank g) : e.butFlank g := by
  unfold Elem.butFlank at h k ⊢
  rw [k, h]

@[simp] theorem Ev.elem_setElem_self (v : Ev) (id : Nat) (e : Elem) : (v.setElem id e).elem id = e :=
  AMap.getD_set_self _ _ _ _

theorem Ev.elem_setElem_ne (v : Ev) {id j : Nat} (e : Elem) (h : j ≠ id) : (v.setElem id e).elem j = v.elem j :=
  AMap.getD_set_ne _ _ _ h

@[simp] theorem Ev.elem_modElem_self (v : Ev) (id : Nat) (f : Elem → Elem) : (v.modElem id f).elem id = f (v.elem id) :=
  v.elem_setElem_self id _

theorem Ev.elem_modElem_ne (v : Ev) {id j : Nat} (f : Elem → Elem) (h : j ≠ id) : (v.modElem id f).elem j = v.elem j :=
  v.elem_setElem_ne _ h

/-- `w` has the routes and the vehicles of `v`, under the same image, and has counted no further request. -/
structure Ev.SameTraffic (v w : Ev) : Prop where
  area : w.area = v.area
  routes : w.c.routes = v.c.routes
  auths : w.c.auths = v.c.auths
  limits : w.c.limits = v.c.limits
  counts : w.counts = v.counts

theorem Ev.SameTraffic.refl (v : Ev) : v.SameTraffic v := ⟨rfl, rfl, rfl, rfl, rfl⟩

theorem Ev.SameTraffic.trans {u v w : Ev} (h : u.SameTraffic v) (k : v.SameTraffic w) : u.SameTraffic w :=
  ⟨k.area.trans h.area, k.routes.trans h.routes, k.auths.trans h.auths, k.limits.trans h.limits, k.counts.trans h.counts⟩

theorem Ev.SameTraffic.setElem (v : Ev) (id : Nat) (e : Elem) : v.SameTraffic (v.setElem id e) := ⟨rfl, rfl, rfl, rfl, rfl⟩

theorem Ev.SameTraffic.modElem (v : Ev) (id : Nat) (f : Elem → Elem) : v.SameTraffic (v.modElem id f) := ⟨rfl, rfl, rfl, rfl, rfl⟩

theorem Ev.SameTraffic.modAux (v : Ev) (id : Nat) (f : ElemAux → ElemAux) : v.SameTraffic (v.modAux id f) := ⟨rfl, rfl, rfl, rfl, rfl⟩

/-! ### FLANK (R112) -/

/-- Element by element, `w` differs from `v` in FLANK alone. -/
def Ev.Flanked (v w : Ev) : Prop := v.SameTraffic w ∧ ∀ j : Nat, (v.elem j).butFlank (w.elem j)

theorem Ev.Flanked.setFlank (v : Ev) (id : Nat) (b : Bool) (o : BitVec 14) :
    v.Flanked (v.modElem id (fun e => { e with flank := b, flankOwner := o })) := by
  refine ⟨.modElem v id _, fun j => ?_⟩
  by_cases h : j = id
  · rw [h, Ev.elem_modElem_self]
    rfl
  · rw [Ev.elem_modElem_ne _ _ h]
    exact Elem.butFlank_refl _

theorem Ev.syncFlank_flanked (v : Ev) : v.Flanked v.syncFlank := by
  have hstep (w : Ev) (p : Nat × ClassCfg) : w.Flanked (match w.flankHolders p.1 with
      | [] => if (w.elem p.1).flank then w.modElem p.1 (fun e => { e with flank := false, flankOwner := 0 }) else w
      | (r, _) :: _ => w.modElem p.1 (fun e => { e with flank := true, flankOwner := BitVec.ofNat 14 r })) := by
    split
    · split
      · exact .setFlank w _ _ _
      · exact ⟨.refl w, fun j => Elem.butFlank_refl _⟩
    · exact .setFlank w _ _ _
  have hfold (ps : List (Nat × ClassCfg)) (w : Ev) : w.Flanked (w.each ps fun v p => match v.flankHolders p.1 with
      | [] => if (v.elem p.1).flank then v.modElem p.1 (fun e => { e with flank := false, flankOwner := 0 }) else v
      | (r, _) :: _ => v.modElem p.1 (fun e => { e with flank := true, flankOwner := BitVec.ofNat 14 r })) := by
    induction ps generalizing w with
    | nil => exact ⟨.refl w, fun j => Elem.butFlank_refl _⟩
    | cons p rest ih =>
      obtain ⟨htraffic, helem⟩ := hstep w p
      obtain ⟨htraffic', helem'⟩ := ih _
      exact ⟨htraffic.trans htraffic', fun j => Elem.butFlank_trans (helem j) (helem' j)⟩
  exact hfold v.area.elems v

/-! ### COMMANDED of the signals (R91, R126) -/

/-- What an evaluation makes of a signal with `n` lamp ticks beside FLANK: of a FAILED or BLOCKED one, its most restrictive aspect; of
another, the aspect that the routes give, with the lamp time where that changes. -/
def Elem.follows (n : Nat) (e f : Elem) : Prop :=
  if e.status = .failed ∨ e.status = .blocked then Elem.butFlank { e with cmd := 0 } f
  else Elem.butFlank { e with cmd := f.cmd } f ∨ Elem.butFlank { e with cmd := f.cmd, status := .unproved, timer := n } f

theorem Ev.signalCmd_effect (v : Ev) (id n : Nat) :
    v.SameTraffic (v.signalCmd id n) ∧ (∀ j, j ≠ id → (v.signalCmd id n).elem j = v.elem j) ∧
    (v.elem id).follows n ((v.signalCmd id n).elem id) := by
  unfold Ev.signalCmd
  extract_lets e a
  by_cases hstuck : e.status = .failed ∨ e.status = .blocked
  · have ha : a = 0 := if_pos (by rcases hstuck with h | h <;> simp [h])
    rw [Elem.follows, if_pos hstuck]
    by_cases hcmd : a = e.cmd
    · rw [if_pos hcmd]
      refine ⟨.refl v, fun _ _ => rfl, ?_⟩
      have hzero : e.cmd = 0 := hcmd.symm.trans ha
      show e = { e with cmd := 0 }
      rw [← hzero]
    · rw [if_neg hcmd, if_pos (by simpa using hstuck)]
      refine ⟨.setElem v id _, fun j hj => v.elem_setElem_ne _ hj, ?_⟩
      rw [Ev.elem_setElem_self, ha]
      rfl
  · rw [Elem.follows, if_neg hstuck]
    by_cases hcmd : a = e.cmd
    · rw [if_pos hcmd]
      exact ⟨.refl v, fun _ _ => rfl, .inl rfl⟩
    · rw [if_neg hcmd, if_neg (by simpa using hstuck)]
      refine ⟨.setElem v id _, fun j hj => v.elem_setElem_ne _ hj, .inr ?_⟩
      rw [Ev.elem_setElem_self]
      rfl

theorem Elem.follows_refl_of (n : Nat) {e : Elem} (h : ¬ (e.status = .failed ∨ e.status = .blocked)) : e.follows n e := by
  rw [Elem.follows, if_neg h]
  exact .inl rfl

theorem Elem.follows_of_butFlank {n : Nat} {e f g : Elem} (h : e.butFlank f) (k : f.follows n g) : e.follows n g := by
  unfold Elem.butFlank at h
  unfold Elem.follows at k ⊢
  have hstatus : f.status = e.status := by rw [h]
  rw [hstatus] at k
  split
  · next hs =>
    rw [if_pos hs] at k
    unfold Elem.butFlank at k ⊢
    rw [k, h]
  · next hs =>
    rw [if_neg hs] at k
    unfold Elem.butFlank at k ⊢
    refine k.imp (fun k => ?_) (fun k => ?_)
    · rw [k, h]
    · rw [k, h]

theorem Elem.follows_trans {n : Nat} {e f g : Elem} (h : e.follows n f) (k : f.follows n g) : e.follows n g := by
  unfold Elem.follows at h ⊢
  split
  next hs =>
    rw [if_pos hs] at h
    unfold Elem.butFlank at h
    have hstatus : f.status = e.status := by rw [h]
    unfold Elem.follows at k
    rw [if_pos (by rw [hstatus]; exact hs)] at k
    unfold Elem.butFlank at k ⊢
    rw [k, h]
  next hs =>
    rw [if_neg hs] at h
    unfold Elem.butFlank at h
    have hgo : ¬ (f.status = .failed ∨ f.status = .blocked) := by
      rcases h with h | h
      · rwa [show f.status = e.status by rw [h]]
      · rw [show f.status = .unproved by rw [h]]
        simp
    unfold Elem.follows at k
    rw [if_neg hgo] at k
    unfold Elem.butFlank at k ⊢
    rcases h with h | h
    · refine k.imp (fun k => ?_) (fun k => ?_)
      · rw [k, h]
      · rw [k, h]
    · refine .inr ?_
      rcases k with k | k
      · rw [k, h]
      · rw [k, h]

/-- The turn of one element in the pass over the signals. -/
def Ev.signalTurn (v : Ev) (p : Nat × ClassCfg) : Ev :=
  match p.2 with
  | .signal _ lampTicks => v.signalCmd p.1 lampTicks
  | _ => v

theorem Ev.signalTurn_effect (w : Ev) (p : Nat × ClassCfg) :
    w.SameTraffic (w.signalTurn p) ∧ (∀ j, j ≠ p.1 ∨ (∀ a n, p.2 ≠ .signal a n) → (w.signalTurn p).elem j = w.elem j) ∧
    (∀ a n, p.2 = .signal a n → (w.elem p.1).follows n ((w.signalTurn p).elem p.1)) := by
  obtain ⟨i, cfg⟩ := p
  by_cases hsig : ∃ a n, cfg = .signal a n
  · obtain ⟨a, n, rfl⟩ := hsig
    obtain ⟨htraffic, hother, hself⟩ := w.signalCmd_effect i n
    refine ⟨htraffic, fun j hj => hother j (hj.resolve_right fun h => h a n rfl), fun a' n' h => ?_⟩
    obtain ⟨rfl, rfl⟩ := ClassCfg.signal.inj h
    exact hself
  · have hsame : w.signalTurn (i, cfg) = w := by
      unfold Ev.signalTurn
      split
      · next a n h => exact absurd ⟨a, n, h⟩ hsig
      · rfl
    rw [hsame]
    exact ⟨.refl w, fun _ _ => rfl, fun a n h => absurd ⟨a, n, h⟩ hsig⟩

/-- What the pass over the signals leaves: elements of another class as they were, and each signal following. -/
theorem Ev.signals_effect (v : Ev) (hwf : v.area.elems.wf = true) :
    v.SameTraffic v.signals ∧
    (∀ j, (∀ a n, v.cfg? j ≠ some (.signal a n)) → v.signals.elem j = v.elem j) ∧
    (∀ j a n, v.cfg? j = some (.signal a n) → (v.elem j).follows n (v.signals.elem j)) := by
  have hfold (ps : List (Nat × ClassCfg)) (hps : ∀ p ∈ ps, v.cfg? p.1 = some p.2) (w : Ev) :
      w.SameTraffic (w.each ps Ev.signalTurn) ∧
      (∀ j, (∀ p ∈ ps, p.1 = j → ∀ a n, p.2 ≠ .signal a n) → (w.each ps Ev.signalTurn).elem j = w.elem j) ∧
      (∀ j a n, v.cfg? j = some (.signal a n) → (∃ p ∈ ps, p.1 = j) → (w.elem j).follows n ((w.each ps Ev.signalTurn).elem j)) := by
    induction ps generalizing w with
    | nil => exact ⟨.refl w, fun _ _ => rfl, fun _ _ _ _ h => absurd h (by simp)⟩
    | cons p rest ih =>
      obtain ⟨htraffic, hother, hself⟩ := w.signalTurn_effect p
      obtain ⟨htraffic', hother', hself'⟩ := ih (fun q hq => hps q (List.mem_cons_of_mem _ hq)) (w.signalTurn p)
      refine ⟨htraffic.trans htraffic', fun j hj => ?_, fun j a n hcfg hin => ?_⟩
      · refine (hother' j fun q hq => hj q (List.mem_cons_of_mem _ hq)).trans (hother j ?_)
        by_cases hp : p.1 = j
        · exact .inr (hj p List.mem_cons_self hp)
        · exact .inl (Ne.symm hp)
      · have hcfgs (q : Nat × ClassCfg) (hq : q ∈ p :: rest) (hqj : q.1 = j) : q.2 = .signal a n :=
          Option.some.inj ((hps q hq).symm.trans (by rw [hqj, hcfg]))
        by_cases hp : p.1 = j
        · have hfirst := hself a n (hcfgs p List.mem_cons_self hp)
          rw [hp] at hfirst
          by_cases hmore : ∃ q ∈ rest, q.1 = j
          · exact Elem.follows_trans hfirst (hself' j a n hcfg hmore)
          · have hkept := hother' j fun q hq hqj => absurd ⟨q, hq, hqj⟩ hmore
            rw [← hkept] at hfirst
            exact hfirst
        · obtain ⟨q, hq, hqj⟩ := hin
          have hq' : q ∈ rest := (List.mem_cons.mp hq).resolve_left fun h => hp (h ▸ hqj)
          have h := hself' j a n hcfg ⟨q, hq', hqj⟩
          rw [hother j (.inl (Ne.symm hp))] at h
          exact h
  have hps (p : Nat × ClassCfg) (hp : p ∈ v.area.elems) : v.cfg? p.1 = some p.2 := AMap.get?_of_mem hwf hp
  obtain ⟨htraffic, hother, hself⟩ := hfold v.area.elems hps v
  refine ⟨htraffic, fun j hj => hother j fun p hp hpj a n hsig => hj a n ?_, fun j a n hcfg => hself j a n hcfg ⟨_, AMap.mem_of_get? hcfg, rfl⟩⟩
  rw [← hpj, hps p hp, hsig]

/-! ### The limits (R150, R170) -/

/-- `w` has the vehicles of `v` with the same reports. -/
def Ev.SameReports (v w : Ev) : Prop := ∀ k : Nat, (w.c.auths.get? k).map AuthRec.taken = (v.c.auths.get? k).map AuthRec.taken

theorem Ev.SameReports.trans {u v w : Ev} (h : u.SameReports v) (k : v.SameReports w) : u.SameReports w :=
  fun i => (k i).trans (h i)

/-- What the limit of one vehicle leaves. -/
theorem Ev.putLimit_effect (v : Ev) (veh : Nat) {a x : AuthRec} (ha : v.c.auths.get? veh = some a) (hx : x.taken = a.taken) (l : Limit) :
    (v.putLimit veh x l).area = v.area ∧ (v.putLimit veh x l).c.elems = v.c.elems ∧ (v.putLimit veh x l).c.routes = v.c.routes ∧
    v.SameReports (v.putLimit veh x l) ∧ (∀ j, j ≠ veh → (v.putLimit veh x l).c.limits.get? j = v.c.limits.get? j) ∧
    (v.putLimit veh x l).counts = v.counts := by
  refine ⟨rfl, rfl, rfl, fun k => ?_, fun j hj => AMap.get?_set_ne _ _ _ _ hj, rfl⟩
  change ((v.c.auths.set veh x).get? k).map AuthRec.taken = _
  by_cases hk : k = veh
  · rw [hk, AMap.get?_set_self, ha, Option.map_some, Option.map_some, hx]
  · rw [AMap.get?_set_ne _ _ _ _ hk]

theorem Ev.limit_effect (v : Ev) (veh : Nat) {a : AuthRec} (ha : v.c.auths.get? veh = some a) :
    (v.limit veh a).area = v.area ∧ (v.limit veh a).c.elems = v.c.elems ∧ (v.limit veh a).c.routes = v.c.routes ∧
    v.SameReports (v.limit veh a) ∧ (∀ j, j ≠ veh → (v.limit veh a).c.limits.get? j = v.c.limits.get? j) ∧
    (v.limit veh a).counts = v.counts := by
  unfold Ev.limit
  extract_lets g age early sec walked inStop first w fresh shorter dist pl x v1
  split
  · refine v.putLimit_effect veh ha ?_ _
    rfl
  · have hv1 := v.putLimit_effect veh (x := x) ha rfl
      ⟨x.limitElem, x.limitOfs, x.limitDir, true, v.tick, dist, w.segs.filter (fun s => decide (s.2.2.2 ≤ dist))⟩
    split
    · exact hv1
    · exact hv1

theorem Ev.relimit_effect (v : Ev) :
    v.relimit.area = v.area ∧ v.relimit.c.elems = v.c.elems ∧ v.relimit.c.routes = v.c.routes ∧ v.SameReports v.relimit ∧
    (∀ j, v.c.auths.get? j = none → v.relimit.c.limits.get? j = v.c.limits.get? j) ∧ v.relimit.counts = v.counts := by
  have hfold (ps : List (Nat × AuthRec)) (w : Ev) (hps : ∀ p ∈ ps, (w.c.auths.get? p.1).isSome = true) :
      let u := w.each ps fun v p => v.limit p.1 ((v.c.auths.get? p.1).getD p.2)
      u.area = w.area ∧ u.c.elems = w.c.elems ∧ u.c.routes = w.c.routes ∧ w.SameReports u ∧
      (∀ j, (∀ p ∈ ps, p.1 ≠ j) → u.c.limits.get? j = w.c.limits.get? j) ∧ u.counts = w.counts := by
    induction ps generalizing w with
    | nil => exact ⟨rfl, rfl, rfl, fun _ => rfl, fun _ _ => rfl, rfl⟩
    | cons p rest ih =>
      obtain ⟨a, ha⟩ := Option.isSome_iff_exists.mp (hps p List.mem_cons_self)
      obtain ⟨harea, helems, hroutes, hreports, hlimits, hcounts⟩ := w.limit_effect p.1 ha
      have hrest (q : Nat × AuthRec) (hq : q ∈ rest) : ((w.limit p.1 a).c.auths.get? q.1).isSome = true := by
        have h := congrArg Option.isSome (hreports q.1)
        rw [Option.isSome_map, Option.isSome_map] at h
        exact h.trans (hps q (List.mem_cons_of_mem _ hq))
      obtain ⟨harea', helems', hroutes', hreports', hlimits', hcounts'⟩ := ih (w.limit p.1 a) hrest
      have hturn : w.limit p.1 ((w.c.auths.get? p.1).getD p.2) = w.limit p.1 a := by rw [ha, Option.getD_some]
      simp only [Ev.each, List.foldl_cons, hturn] at harea' helems' hroutes' hreports' hlimits' hcounts' ⊢
      refine ⟨harea'.trans harea, helems'.trans helems, hroutes'.trans hroutes, hreports.trans hreports', fun j hj => ?_, hcounts'.trans hcounts⟩
      exact (hlimits' j fun q hq => hj q (List.mem_cons_of_mem _ hq)).trans (hlimits j (Ne.symm (hj p List.mem_cons_self)))
  obtain ⟨harea, helems, hroutes, hreports, hlimits, hcounts⟩ := hfold v.c.auths v fun p hp => AMap.get?_isSome_of_mem hp
  refine ⟨harea, helems, hroutes, hreports, fun j hj => hlimits j fun p hp hpj => ?_, hcounts⟩
  have h := AMap.get?_isSome_of_mem hp
  rw [hpj, hj] at h
  exact absurd h (by simp)

/-! ### What follows every row -/

/-- R112, R126, R170: what the settling of an evaluation leaves. -/
theorem Ev.settle_effect (v : Ev) (hwf : v.area.elems.wf = true) :
    v.settle.c.routes = v.c.routes ∧ v.settle.counts = v.counts ∧ v.SameReports v.settle ∧
    (∀ j, v.c.auths.get? j = none → v.settle.c.limits.get? j = v.c.limits.get? j) ∧
    (∀ j, (∀ a n, v.cfg? j ≠ some (.signal a n)) → (v.elem j).butFlank (v.settle.elem j)) ∧
    (∀ j a n, v.cfg? j = some (.signal a n) → (v.elem j).follows n (v.settle.elem j)) := by
  obtain ⟨hflank, hbut⟩ := v.syncFlank_flanked
  have hcfg (j : Nat) : v.syncFlank.cfg? j = v.cfg? j := congrArg (AMap.get? · j) (congrArg AreaCfg.elems hflank.area)
  obtain ⟨hsignals, hother, hself⟩ := v.syncFlank.signals_effect (by rw [hflank.area]; exact hwf)
  obtain ⟨-, helems, hroutes, hreports, hlimits, hcounts⟩ := v.syncFlank.signals.relimit_effect
  have helem (j : Nat) : v.settle.elem j = v.syncFlank.signals.elem j := congrArg (AMap.getD · j Elem.zero) helems
  have hauths : v.syncFlank.signals.c.auths = v.c.auths := hsignals.auths.trans hflank.auths
  refine ⟨hroutes.trans (hsignals.routes.trans hflank.routes), hcounts.trans (hsignals.counts.trans hflank.counts), fun k => ?_, fun j hj => ?_, fun j hj => ?_, fun j a n hj => ?_⟩
  · rw [← hauths]
    exact hreports k
  · exact (hlimits j (by rw [hauths]; exact hj)).trans (by rw [hsignals.limits, hflank.limits])
  · rw [helem, hother j (by simpa only [hcfg] using hj)]
    exact hbut j
  · rw [helem]
    exact Elem.follows_of_butFlank (hbut j) (hself j a n (by rw [hcfg]; exact hj))

end Sys2Proof.Machine
end

section
/-! SUPPORT. A request that acts, in one lane's evaluation and in the module (R100-R104, R144). -/
namespace Sys2Proof.Machine

/-! ### Steps 8 and 9 (R144) -/

/-- Steps 8 and 9 change only the arms and the count of late confirms. -/
theorem Ev.stage_kept (v : Ev) (c : Byte) (q : Request) :
    (v.stage c q).1 = { v with
      c := { v.c with k := { v.c.k with
        elemArms := (v.stage c q).1.c.k.elemArms, resetArm := (v.stage c q).1.c.k.resetArm
        lockArm := (v.stage c q).1.c.k.lockArm, routeArms := (v.stage c q).1.c.k.routeArms } }
      late := (v.stage c q).1.late } := by
  unfold Ev.stage
  split
  · rfl
  · dsimp only
    split
    · rfl
    · split
      · rfl
      · split <;> rfl

/-- What steps 8 and 9 answer depends on the image, the tick and the arms alone. -/
theorem Ev.stage_congr {v w : Ev} (harea : w.area = v.area) (hc : w.c = v.c) (htick : w.tick = v.tick) (htUs : w.tUs = v.tUs)
    (c : Byte) (q : Request) : (w.stage c q).2 = (v.stage c q).2 := by
  have htwo : w.twoStep c q = v.twoStep c q := by
    unfold Ev.twoStep Ev.cfg?
    rw [harea]
  have hlist (arms : List Arm) (cap : Nat) : w.stageList arms cap c q = v.stageList arms cap c q := by
    have hwindow (a : Arm) : w.inWindow a = v.inWindow a := by
      unfold Ev.inWindow
      rw [htick, htUs]
    have harm : w.armOf c q = v.armOf c q := by
      unfold Ev.armOf
      rw [htick]
    unfold Ev.stageList
    simp only [hwindow, harm]
  unfold Ev.stage
  rw [htwo]
  simp only [hlist, hc]
  split
  · rfl
  · split
    · rfl
    · split
      · rfl
      · split <;> rfl

/-- The evaluation in which an element request acts: its target is seen, its arm taken. -/
def Ev.heardElem (v : Ev) (c : Byte) (q : Request) : Ev := (({ v with seenElem := v.seenElem ++ [q.target.toNat] } : Ev).stage c q).1

theorem Ev.heardElem_effect (v : Ev) (c : Byte) (q : Request) :
    v.SameTraffic (v.heardElem c q) ∧ (v.heardElem c q).c.elems = v.c.elems ∧ (v.heardElem c q).c.k.aux = v.c.k.aux ∧
    (v.heardElem c q).tick = v.tick ∧ (v.heardElem c q).tUs = v.tUs := by
  unfold Ev.heardElem
  rw [Ev.stage_kept]
  exact ⟨⟨rfl, rfl, rfl, rfl, rfl⟩, rfl, rfl, rfl, rfl⟩

theorem Ev.retain_kept (v : Ev) (c : Byte) (kind : ObjKind) (obj state released : Nat) :
    (v.retain c kind obj state released).c = v.c ∧ (v.retain c kind obj state released).area = v.area ∧
    (v.retain c kind obj state released).counts = v.counts ++ (retIndex c).toList := by
  unfold Ev.retain
  split
  · next h => exact ⟨rfl, rfl, by rw [h]; simp⟩
  · next i h => exact ⟨rfl, rfl, by rw [h]; simp⟩

/-- An element request that acts leaves the region that the class's work leaves. -/
theorem Ev.request_elem {v : Ev} {c : Byte} {q : Request} {cfg : ClassCfg} {arm : Option Tick} (hcommon : v.common c q = 0)
    (hcode : isElemCode c = true) (hcfg : v.cfg? q.target.toNat = some cfg) (hclass : classOk c cfg = true)
    (hseen : q.target.toNat ∉ v.seenElem) (hstage : (v.stage c q).2 = .act arm) :
    let r := (v.heardElem c q).elemAct c q.target.toNat cfg (q.arg.setWidth 4) arm
    (v.request c q).c = r.1.c ∧ (v.request c q).area = r.1.area ∧
    (v.request c q).counts = r.1.counts ++ (if r.2 == 0 && hasTwoStep c && v.twoStep c q then (retIndex c).toList else []) := by
  extract_lets r
  have hact : (({ v with seenElem := v.seenElem ++ [q.target.toNat] } : Ev).stage c q).2 = .act arm :=
    (Ev.stage_congr (w := { v with seenElem := v.seenElem ++ [q.target.toNat] }) (v := v) rfl rfl rfl rfl c q).trans hstage
  have helem : v.elemReq c q = (if r.2 == 0 && hasTwoStep c && v.twoStep c q then r.1.retain c .element q.target.toNat 0 0 else r.1, r.2) := by
    unfold Ev.elemReq
    dsimp only
    rw [hcfg]
    simp only [hclass, Bool.not_true, Bool.false_eq_true, if_false, List.contains_eq_mem, hseen, decide_false]
    rw [hact]
    rfl
  have hrequest : (v.request c q).c = (v.elemReq c q).1.c ∧ (v.request c q).area = (v.elemReq c q).1.area ∧
      (v.request c q).counts = (v.elemReq c q).1.counts := by
    unfold Ev.request
    simp only [hcommon, hcode]
    exact ⟨rfl, rfl, rfl⟩
  rw [hrequest.1, hrequest.2.1, hrequest.2.2, helem]
  dsimp only
  split
  · exact r.1.retain_kept c .element q.target.toNat 0 0
  · exact ⟨rfl, rfl, by simp⟩

/-- The codes of elements, routes, boundary slots and vehicles. -/
def isFieldCode (c : Byte) : Bool := isElemCode c || isRouteCode c || c == 0x23 || c == 0x30

/-- A request for an element, a route, a slot or a vehicle asks nothing of the module. -/
theorem Ev.request_setting (v : Ev) {c : Byte} (q : Request) (hc : isFieldCode c = true) : v.SameSetting (v.request c q) := by
  unfold isFieldCode at hc
  have hreset : isElemCode c = false → isRouteCode c = false → isResetCode c = false := by
    intro helem hroute
    rw [helem, hroute] at hc
    have hcode : c = 0x23 ∨ c = 0x30 := by simpa using hc
    rcases hcode with rfl | rfl <;> rfl
  unfold Ev.request
  extract_lets pre r
  have hr : v.SameSetting r.1 ∧ r.2.isSome = true := by
    dsimp only [r]
    split
    · exact ⟨.refl v, rfl⟩
    · split
      · exact ⟨v.elemReq_setting c q, rfl⟩
      next helem =>
        split
        · exact ⟨v.routeReq_setting c q, rfl⟩
        next hroute =>
          rw [if_neg (by rw [hreset (by simpa using helem) (by simpa using hroute)]; decide)]
          split
          · exact ⟨v.slotReq_setting c q, rfl⟩
          next hslot =>
            have hcode : c = 0x23 ∨ c = 0x30 := by simpa [helem, hroute] using hc
            rw [if_pos (by rw [hcode.resolve_left (by simpa using hslot)]; rfl)]
            exact ⟨v.vehicleReq_setting c q, rfl⟩
  obtain ⟨hsame, hsome⟩ := hr
  split
  · exact hsame
  · exact hsame

/-! ### An element request in the module -/

/-- A request that is not for a route is evaluated where the lanes evaluate at all. -/
theorem State.requested_of_evaluates {s : State} {l : Lane} (heval : s.evaluates l) {c : Byte} {q : Request}
    (hmoves : (s.view s.lead).movesTwice c q = false) : s.requested c q = s.evaluated (fun v => (v.request c q).settle) := by
  obtain ⟨hticks, hacting, -, -⟩ := heval
  unfold State.requested
  rw [if_pos (Bool.and_eq_true_iff.mpr ⟨hticks, bne_iff_ne.mpr hacting⟩)]
  exact if_neg (by rw [show (s.evOf s.lead .empty).movesTwice c q = false from hmoves]; decide)

theorem Ev.movesTwice_of_other {v : Ev} {c : Byte} (q : Request) (hc : isRouteCode c = false) : v.movesTwice c q = false := by
  simp [Ev.movesTwice, hc]

/-- What a row that the lanes evaluate leaves in lane `l`, by what the lane's own evaluation `w` leaves before it settles. -/
structure Settled (l : Lane) (w : Ev) (s t : State) : Prop where
  lane : t.lane l = { s.lane l with region := (t.lane l).region, held := (t.lane l).held }
  routes : (t.lane l).region.routes = w.c.routes
  reports : ∀ k : Nat, ((t.lane l).region.auths.get? k).map AuthRec.taken = (w.c.auths.get? k).map AuthRec.taken
  limits : ∀ j, w.c.auths.get? j = none → (t.lane l).region.limits.get? j = w.c.limits.get? j
  elem : ∀ j, (∀ a n, w.cfg? j ≠ some (.signal a n)) → (w.elem j).butFlank (t.elemOf l j)
  signal : ∀ j a n, w.cfg? j = some (.signal a n) → (w.elem j).follows n (t.elemOf l j)

/-- A row of plain work `g` on every lane: each lane's evaluation settles, and the row keeps what `RowKeeps` says. -/
theorem State.evaluated_settled {s : State} {l : Lane} (hrun : l.inMask (s.running ||| s.acting) = true) {g : Ev → Ev}
    (hg : ∀ v : Ev, v.SameSetting (g v)) (hwf : (g (s.view l)).area.elems.wf = true) :
    Settled l (g (s.view l)) s (s.evaluated (fun v => (g v).settle)) ∧ RowKeeps s (s.evaluated (fun v => (g v).settle)) ∧
    (l = s.lead → (s.evaluated (fun v => (g v).settle)).aon.counters = (g (s.view l)).counts.foldl
      (fun (v : Vector Word 9) i => vmod v i (fun w => if w = 0xFFFF_FFFF then w else w + 1)) s.aon.counters) := by
  obtain ⟨hlane, hcounters, hkeeps⟩ := s.evaluated_effect (f := fun v => (g v).settle) fun v => (hg v).trans (Ev.settle_setting _)
  obtain ⟨k, hk⟩ := hlane l hrun
  obtain ⟨hroutes, hcounts, hreports, hlimits, helem, hsignal⟩ := (g (s.view l)).settle_effect hwf
  generalize s.evaluated (fun v => (g v).settle) = t at hk hcounters hkeeps ⊢
  have hregion : (t.lane l).region = { (g (s.view l)).settle.c with k := k } := by rw [hk]
  have helemOf (j : Nat) : t.elemOf l j = (g (s.view l)).settle.elem j := by
    unfold State.elemOf
    rw [hregion]
    rfl
  refine ⟨⟨by rw [hregion]; exact hk, by rw [hregion]; exact hroutes, fun j => by rw [hregion]; exact hreports j,
    fun j hj => by rw [hregion]; exact hlimits j hj, fun j hj => by rw [helemOf]; exact helem j hj,
    fun j a n hj => by rw [helemOf]; exact hsignal j a n hj⟩, hkeeps, fun hl => ?_⟩
  rw [hcounters, ← hl, hcounts]

/-- An element request that acts in lane `l`: the class's work there, `r`, settles. -/
theorem State.elemRow {s : State} {l : Lane} {c : Byte} {q : Request} {cfg : ClassCfg} {arm : Option Tick} (hhears : s.hears l c q arm)
    (hcode : isElemCode c = true) (hcfg : (s.view l).cfg? q.target.toNat = some cfg) (hclass : classOk c cfg = true)
    (hseen : q.target.toNat ∉ s.mail.seenElem) {r : Ev × Byte}
    (hr : ((s.view l).heardElem c q).elemAct c q.target.toNat cfg (q.arg.setWidth 4) arm = r)
    (htraffic : ((s.view l).heardElem c q).SameTraffic r.1) {ids : List Nat}
    (hothers : ∀ j, j ∉ ids → r.1.elem j = s.elemOf l j) :
    (∀ j, (∀ a n, (s.view l).cfg? j ≠ some (.signal a n)) → (r.1.elem j).butFlank ((s.requested c q).elemOf l j)) ∧
    (∀ j a n, (s.view l).cfg? j = some (.signal a n) → (r.1.elem j).follows n ((s.requested c q).elemOf l j)) ∧
    (l = s.lead → (s.requested c q).aon.counters =
      (if r.2 == 0 && hasTwoStep c && (s.view l).twoStep c q then (retIndex c).toList else []).foldl
        (fun (v : Vector Word 9) i => vmod v i (fun w => if w = 0xFFFF_FFFF then w else w + 1)) s.aon.counters) ∧
    ElemsOnly ids l s (s.requested c q) ∧ RowKeeps s (s.requested c q) := by
  obtain ⟨heval, hcommon, hstage⟩ := hhears
  have hroute : isRouteCode c = false := by
    have hrange : 1 ≤ c.toNat ∧ c.toNat ≤ 12 := by simpa [isElemCode] using hcode
    have hne (d : Byte) (hd : 12 < d.toNat) : c ≠ d := fun h => by rw [h] at hrange; omega
    rw [isRouteCode, beq_false_of_ne (hne 0x20 (by decide)), beq_false_of_ne (hne 0x21 (by decide)),
      beq_false_of_ne (hne 0x22 (by decide))]
    rfl
  obtain ⟨hheard, -, -, -, -⟩ := (s.view l).heardElem_effect c q
  obtain ⟨hreqc, hreqarea, hcounts⟩ := Ev.request_elem hcommon hcode hcfg hclass hseen hstage
  rw [hr] at hreqc hreqarea hcounts
  have hrow := htraffic
  have harea : ((s.view l).request c q).area = (s.view l).area := (hreqarea.trans hrow.area).trans hheard.area
  have hrequested := State.requested_of_evaluates heval (Ev.movesTwice_of_other (v := s.view s.lead) (q := q) hroute)
  obtain ⟨-, -, hrun, hwf⟩ := heval
  obtain ⟨hset, hkeeps, hcnt⟩ := State.evaluated_settled hrun (g := fun v => v.request c q)
    (fun v => v.request_setting q (by simp [isFieldCode, hcode])) (by rw [harea]; exact hwf)
  rw [hrequested]
  have helem (j : Nat) : ((s.view l).request c q).elem j = r.1.elem j := by
    unfold Ev.elem
    rw [hreqc]
  have hcfgs (j : Nat) : ((s.view l).request c q).cfg? j = (s.view l).cfg? j := by
    unfold Ev.cfg?
    rw [harea]
  refine ⟨fun j hj => ?_, fun j a n hj => ?_, fun hl => ?_, ⟨hset.lane, ?_, fun k => ?_, fun j hj hsig => ?_⟩, hkeeps⟩
  · rw [← helem]
    exact hset.elem j (by simpa only [hcfgs] using hj)
  · rw [← helem]
    exact hset.signal j a n (by rw [hcfgs]; exact hj)
  · rw [hcnt hl, hcounts, hrow.counts, hheard.counts]
    rfl
  · rw [hset.routes, hreqc, hrow.routes, hheard.routes]
    rfl
  · rw [hset.reports k, hreqc, hrow.auths, hheard.auths]
    rfl
  · rw [← hothers j hj, ← helem]
    exact hset.elem j (by simpa only [hcfgs] using hsig)

end Sys2Proof.Machine
end

section
/-! SUPPORT. The accepted commands of elements (O28). -/
namespace Sys2Proof.Machine

/-! ### The evaluation in which a request acts -/

theorem Ev.heardElem_elem (s : State) (l : Lane) (c : Byte) (q : Request) (j : Nat) :
    ((s.view l).heardElem c q).elem j = s.elemOf l j :=
  congrArg (AMap.getD · j Elem.zero) ((s.view l).heardElem_effect c q).2.1

theorem Ev.heardElem_cfg (v : Ev) (c : Byte) (q : Request) (j : Nat) : (v.heardElem c q).cfg? j = v.cfg? j :=
  congrArg (AMap.get? · j) (congrArg AreaCfg.elems (v.heardElem_effect c q).1.area)

theorem Ev.heardElem_ticks (s : State) (l : Lane) (c : Byte) (q : Request) (ms : Nat) :
    ((s.view l).heardElem c q).ticks ms = msTicks s.ms.tUs ms := by
  unfold Ev.ticks
  rw [((s.view l).heardElem_effect c q).2.2.2.2]
  rfl

theorem Ev.secClear_congr {v w : Ev} (h : ∀ j, w.elem j = v.elem j) (id : Nat) : w.secClear id = v.secClear id := by
  unfold Ev.secClear
  rw [h]

theorem Ev.sectionsClear_congr {v w : Ev} (h : ∀ j, w.elem j = v.elem j) (secs : List Nat) (sup : Bool) :
    w.sectionsClear secs sup = v.sectionsClear secs sup := by
  unfold Ev.sectionsClear
  simp only [Ev.secClear_congr h, h]

theorem Ev.movableReady_congr {v w : Ev} (h : ∀ j, w.elem j = v.elem j) (deck guards : List Nat) :
    w.movableReady deck guards = v.movableReady deck guards := by
  unfold Ev.movableReady
  rw [show w.secClear = v.secClear from funext (Ev.secClear_congr h)]
  simp only [h]

/-! ### The change of COMMANDED (R87, R92, R94, R103) -/

/-- The operating time that a change of COMMANDED loads, in ticks. -/
def Ev.driveTime (v : Ev) (id : Nat) : Option Nat :=
  match v.cfg? id with
  | some (.point _ _ _ _ throwMs _) => some (v.ticks throwMs + 2)
  | some (.stop _ _ _ _ operateMs _) => some (v.ticks operateMs)
  | some (.gate _ _ _ _ _ operateMs) => some (v.ticks operateMs)
  | some (.movable _ _ _ moveMs _ _) => some (v.ticks moveMs + 2)
  | _ => none

/-- An element whose COMMANDED is set to `val` with operating time `n`. -/
def Elem.commanded (e : Elem) (val : BitVec 4) (n : Nat) : Elem :=
  { e with cmd := val, timer := n, status := if e.status = .blocked then .blocked else .unproved }

theorem Ev.command_effect {v : Ev} {id n : Nat} (val : BitVec 4) (h : v.driveTime id = some n) :
    v.SameTraffic (v.command id val) ∧ (v.command id val).elem id = (v.elem id).commanded val n ∧
    (∀ j, j ≠ id → (v.command id val).elem j = v.elem j) := by
  have hput (m : Nat) (hm : n = m) : v.SameTraffic (v.modElem id fun e =>
        { e with cmd := val, timer := m, status := if e.status == .blocked then .blocked else .unproved }) ∧
      (v.modElem id fun e => { e with cmd := val, timer := m, status := if e.status == .blocked then .blocked else .unproved }).elem id =
        (v.elem id).commanded val n ∧
      (∀ j, j ≠ id → (v.modElem id fun e =>
        { e with cmd := val, timer := m, status := if e.status == .blocked then .blocked else .unproved }).elem j = v.elem j) := by
    refine ⟨.modElem v id _, ?_, fun j hj => Ev.elem_modElem_ne _ _ hj⟩
    rw [Ev.elem_modElem_self, hm]
    simp [Elem.commanded]
  unfold Ev.driveTime at h
  unfold Ev.command
  dsimp only
  obtain ⟨cfg, hcfg⟩ : ∃ cfg, v.cfg? id = cfg := ⟨_, rfl⟩
  rw [hcfg] at h ⊢
  split at h
  · exact hput _ (Option.some.inj h).symm
  · exact hput _ (Option.some.inj h).symm
  · exact hput _ (Option.some.inj h).symm
  · obtain ⟨htraffic, hself, hother⟩ := hput _ (Option.some.inj h).symm
    exact ⟨htraffic.trans (.modAux _ _ _), hself, hother⟩
  · exact absurd h (by simp)

/-- A request whose work in lane `l` is the change of COMMANDED. -/
theorem State.commandRow {s : State} {l : Lane} {c : Byte} {q : Request} {cfg : ClassCfg} {arm : Option Tick} {n : Nat}
    (hhears : s.hears l c q arm) (hcode : isElemCode c = true) (hcfg : (s.view l).cfg? q.target.toNat = some cfg)
    (hclass : classOk c cfg = true) (hseen : q.target.toNat ∉ s.mail.seenElem)
    (hact : ((s.view l).heardElem c q).elemAct c q.target.toNat cfg (q.arg.setWidth 4) arm =
      (((s.view l).heardElem c q).command q.target.toNat (q.arg.setWidth 4), 0))
    (hdrive : ((s.view l).heardElem c q).driveTime q.target.toNat = some n) :
    ((s.elemOf l q.target.toNat).commanded (q.arg.setWidth 4) n).butFlank ((s.requested c q).elemOf l q.target.toNat) ∧
    (l = s.lead → (s.requested c q).aon.counters =
      (if hasTwoStep c && (s.view l).twoStep c q then (retIndex c).toList else []).foldl
        (fun (v : Vector Word 9) i => vmod v i (fun w => if w = 0xFFFF_FFFF then w else w + 1)) s.aon.counters) ∧
    ElemsOnly [q.target.toNat] l s (s.requested c q) ∧ RowKeeps s (s.requested c q) := by
  obtain ⟨htraffic, hself, hother⟩ := Ev.command_effect (q.arg.setWidth 4) hdrive
  obtain ⟨helem, -, hcounters, honly, hkeeps⟩ := State.elemRow hhears hcode hcfg hclass hseen hact htraffic
    (ids := [q.target.toNat]) fun j hj => (hother j (by simpa using hj)).trans (Ev.heardElem_elem s l c q j)
  have hplain : ∀ a m, (s.view l).cfg? q.target.toNat ≠ some (.signal a m) := by
    intro a m h
    have hdrive' := hdrive
    unfold Ev.driveTime at hdrive'
    rw [Ev.heardElem_cfg, h] at hdrive'
    exact absurd hdrive' (by simp)
  have hme := helem _ hplain
  rw [hself, Ev.heardElem_elem] at hme
  exact ⟨hme, hcounters, honly, hkeeps⟩

/-- A command that an element which is not BLOCKED takes leaves STATUS UNPROVED. -/
theorem Elem.commanded_of_free {e : Elem} (h : e.status ≠ .blocked) (val : BitVec 4) (n : Nat) :
    e.commanded val n = { e with cmd := val, timer := n, status := .unproved } := by
  rw [Elem.commanded, if_neg h]

/-- SET STOP and SET GATE pass their tests (R92). -/
theorem Ev.reqSet_acts {v : Ev} {id : Nat} {arg : BitVec 4} (hlocked : (v.elem id).locked = false) (hfree : (v.elem id).status ≠ .blocked)
    (hnew : ¬ ((v.elem id).cmd = arg ∧ (v.elem id).status = .proved)) : v.reqSet id arg = (v.command id arg, 0) := by
  unfold Ev.reqSet
  simp only [hlocked, hfree, hnew, Bool.false_eq_true, if_false, beq_iff_eq, Bool.and_eq_true]

/-- A retained counter counts one up and stops at its top (R460). -/
theorem countUp_get (v : Vector Word 9) (i : Fin 9) :
    ([i].foldl (fun (v : Vector Word 9) i => vmod v i (fun w => if w = 0xFFFF_FFFF then w else w + 1)) v)[i.val] =
      if v[i.val] = 0xFFFFFFFF#32 then 0xFFFFFFFF#32 else v[i.val] + 1#32 := by
  rw [List.foldl_cons, List.foldl_nil, vmod_self]
  by_cases htop : v[i.val] = 0xFFFFFFFF#32
  · rw [if_pos htop]
    exact (if_pos htop).trans htop
  · rw [if_neg htop]
    exact if_neg htop

/-- Settles O28: THROW, SUPERVISED THROW, MOVE, SET STOP and SET GATE. -/
theorem acceptedCommandsMoveTheElement : Obligations.AcceptedCommandsMoveTheElement := by
  unfold Obligations.AcceptedCommandsMoveTheElement
  intro s l q id e hid he hseen hlocked
  subst hid he
  refine ⟨fun nrm rev outN outR throwMs secs hhears hcfg hfree htimer hclear hnew => ?_,
    fun nrm rev outN outR throwMs secs arm hhears hcfg htimer hclear hnew => ?_,
    fun positions bolt out moveMs deck guards hhears hcfg hfree hpos hready hnew => ?_,
    fun act rel outA outR operateMs secs hhears hcfg hfree hnew => ?_, fun cl op lock outS outO operateMs hhears hcfg hfree hnew => ?_⟩
  · have helem := Ev.heardElem_elem s l 0x01 q
    have hact : ((s.view l).heardElem 0x01 q).reqThrow q.target.toNat secs (q.arg.setWidth 4) false =
        (((s.view l).heardElem 0x01 q).command q.target.toNat (q.arg.setWidth 4), 0) := by
      unfold Ev.reqThrow
      simp only [helem, hlocked, hfree, htimer, Ev.sectionsClear_congr (v := s.view l) helem, hclear, Bool.false_eq_true, if_false,
        beq_iff_eq, Bool.and_eq_true, Bool.or_eq_true, or_false, and_assoc, hnew, Nat.lt_irrefl, Bool.not_true, Bool.not_false, and_true]
    obtain ⟨hme, -, honly, hkeeps⟩ := State.commandRow hhears rfl hcfg rfl hseen hact (n := msTicks s.ms.tUs throwMs + 2)
      (by rw [Ev.driveTime, Ev.heardElem_cfg, hcfg]; dsimp only; rw [Ev.heardElem_ticks])
    rw [Elem.commanded_of_free hfree] at hme
    exact ⟨_, rfl, hme, honly, hkeeps⟩
  · have helem := Ev.heardElem_elem s l 0x02 q
    have hact : ((s.view l).heardElem 0x02 q).reqThrow q.target.toNat secs (q.arg.setWidth 4) true =
        (((s.view l).heardElem 0x02 q).command q.target.toNat (q.arg.setWidth 4), 0) := by
      unfold Ev.reqThrow
      simp only [helem, hlocked, htimer, Ev.sectionsClear_congr (v := s.view l) helem, hclear, Bool.false_eq_true, if_false,
        beq_iff_eq, Bool.and_eq_true, Bool.or_eq_true, and_assoc, hnew, Nat.lt_irrefl, Bool.not_true, and_false]
    obtain ⟨hme, hcounters, honly, hkeeps⟩ := State.commandRow hhears rfl hcfg rfl hseen hact (n := msTicks s.ms.tUs throwMs + 2)
      (by rw [Ev.driveTime, Ev.heardElem_cfg, hcfg]; dsimp only; rw [Ev.heardElem_ticks])
    refine ⟨_, rfl, hme, fun hl => ?_, honly, hkeeps⟩
    rw [hcounters hl, show (hasTwoStep 0x02 && (s.view l).twoStep 0x02 q) = true from rfl, if_pos rfl, show (retIndex 2).toList = [0] from rfl]
    exact countUp_get s.aon.counters 0
  · have helem := Ev.heardElem_elem s l 0x03 q
    have hact : ((s.view l).heardElem 0x03 q).reqMove q.target.toNat positions.length deck guards (q.arg.setWidth 4) =
        (((s.view l).heardElem 0x03 q).command q.target.toNat (q.arg.setWidth 4), 0) := by
      have harg : ¬ positions.length ≤ (q.arg.setWidth 4).toNat := by
        rw [BitVec.toNat_setWidth]
        have := Nat.mod_le q.arg.toNat (2 ^ 4)
        omega
      unfold Ev.reqMove
      simp only [helem, hlocked, hfree, Ev.movableReady_congr (v := s.view l) helem, hready, harg, Bool.false_eq_true, if_false,
        beq_iff_eq, Bool.and_eq_true, hnew, Bool.not_true]
    obtain ⟨hme, -, honly, hkeeps⟩ := State.commandRow hhears rfl hcfg rfl hseen hact (n := msTicks s.ms.tUs moveMs + 2)
      (by rw [Ev.driveTime, Ev.heardElem_cfg, hcfg]; dsimp only; rw [Ev.heardElem_ticks])
    rw [Elem.commanded_of_free hfree] at hme
    exact ⟨_, rfl, hme, honly, hkeeps⟩
  · have helem := Ev.heardElem_elem s l 0x04 q
    obtain ⟨hme, -, honly, hkeeps⟩ := State.commandRow hhears rfl hcfg rfl hseen (n := msTicks s.ms.tUs operateMs)
      (Ev.reqSet_acts (by rw [helem, hlocked]) (by rw [helem]; exact hfree) (by rw [helem]; exact hnew))
      (by rw [Ev.driveTime, Ev.heardElem_cfg, hcfg]; dsimp only; rw [Ev.heardElem_ticks])
    rw [Elem.commanded_of_free hfree] at hme
    exact ⟨_, rfl, hme, honly, hkeeps⟩
  · have helem := Ev.heardElem_elem s l 0x05 q
    obtain ⟨hme, -, honly, hkeeps⟩ := State.commandRow hhears rfl hcfg rfl hseen (n := msTicks s.ms.tUs operateMs)
      (Ev.reqSet_acts (by rw [helem, hlocked]) (by rw [helem]; exact hfree) (by rw [helem]; exact hnew))
      (by rw [Ev.driveTime, Ev.heardElem_cfg, hcfg]; dsimp only; rw [Ev.heardElem_ticks])
    rw [Elem.commanded_of_free hfree] at hme
    exact ⟨_, rfl, hme, honly, hkeeps⟩

end Sys2Proof.Machine
end

section
/-! SUPPORT. The guarded requests of elements (O29). -/
namespace Sys2Proof.Machine

/-- The evaluation `w` differs from `v` in element `id`, which is `e` there, and in part K at most. -/
def Ev.Sets (v w : Ev) (id : Nat) (e : Elem) : Prop :=
  v.SameTraffic w ∧ w.elem id = e ∧ ∀ j, j ≠ id → w.elem j = v.elem j

theorem Ev.Sets.setElem (v : Ev) (id : Nat) (e : Elem) : v.Sets (v.setElem id e) id e :=
  ⟨.setElem v id e, Ev.elem_setElem_self v id e, fun _ hj => Ev.elem_setElem_ne v e hj⟩

theorem Ev.Sets.modAux {v w : Ev} {id : Nat} {e : Elem} (h : v.Sets w id e) (j : Nat) (f : ElemAux → ElemAux) :
    v.Sets (w.modAux j f) id e := by
  obtain ⟨htraffic, hself, hother⟩ := h
  exact ⟨htraffic.trans (.modAux w j f), hself, hother⟩

theorem Ev.zoneStop_sets (v : Ev) (id settleMs : Nat) :
    v.Sets (v.zoneStop id settleMs) id { v.elem id with cmd := 0, timer := v.ticks settleMs } :=
  (Ev.Sets.setElem v id _).modAux id _

/-- A request whose work in lane `l` sets its element to `e`. -/
theorem State.setRow {s : State} {l : Lane} {c : Byte} {q : Request} {cfg : ClassCfg} {arm : Option Tick} {w : Ev} {e : Elem}
    (hhears : s.hears l c q arm) (hcode : isElemCode c = true) (hcfg : (s.view l).cfg? q.target.toNat = some cfg)
    (hclass : classOk c cfg = true) (hseen : q.target.toNat ∉ s.mail.seenElem)
    (hact : ((s.view l).heardElem c q).elemAct c q.target.toNat cfg (q.arg.setWidth 4) arm = (w, 0))
    (hsets : ((s.view l).heardElem c q).Sets w q.target.toNat e) :
    (cfg.code ≠ 3 → e.butFlank ((s.requested c q).elemOf l q.target.toNat)) ∧
    (∀ a n, cfg = .signal a n → e.follows n ((s.requested c q).elemOf l q.target.toNat)) ∧
    (l = s.lead → (s.requested c q).aon.counters =
      (if hasTwoStep c && (s.view l).twoStep c q then (retIndex c).toList else []).foldl
        (fun (v : Vector Word 9) i => vmod v i (fun w => if w = 0xFFFF_FFFF then w else w + 1)) s.aon.counters) ∧
    ElemsOnly [q.target.toNat] l s (s.requested c q) ∧ RowKeeps s (s.requested c q) := by
  obtain ⟨htraffic, hself, hother⟩ := hsets
  obtain ⟨helem, hsignal, hcounters, honly, hkeeps⟩ := State.elemRow hhears hcode hcfg hclass hseen hact htraffic
    (ids := [q.target.toNat]) fun j hj => (hother j (by simpa using hj)).trans (Ev.heardElem_elem s l c q j)
  refine ⟨fun hplain => ?_, fun a n hsig => ?_, hcounters, honly, hkeeps⟩
  · rw [← hself]
    refine helem _ fun a n h => hplain ?_
    rw [Option.some.inj (hcfg.symm.trans h)]
    rfl
  · rw [← hself]
    exact hsignal _ a n (by rw [hcfg, hsig])

/-- A request that changes nothing in lane `l`. -/
theorem State.idleRow {s : State} {l : Lane} {c : Byte} {q : Request} {cfg : ClassCfg} {arm : Option Tick} {b : Byte}
    (hhears : s.hears l c q arm) (hcode : isElemCode c = true) (hcfg : (s.view l).cfg? q.target.toNat = some cfg)
    (hclass : classOk c cfg = true) (hseen : q.target.toNat ∉ s.mail.seenElem)
    (hact : ((s.view l).heardElem c q).elemAct c q.target.toNat cfg (q.arg.setWidth 4) arm = ((s.view l).heardElem c q, b)) :
    ElemsOnly [] l s (s.requested c q) ∧ RowKeeps s (s.requested c q) := by
  obtain ⟨-, -, -, honly, hkeeps⟩ := State.elemRow hhears hcode hcfg hclass hseen hact (.refl _)
    (ids := []) fun j _ => Ev.heardElem_elem s l c q j
  exact ⟨honly, hkeeps⟩

/-! ### BLOCK and UNBLOCK (R103, R113) -/

theorem ClassCfg.signal_of_code {cfg : ClassCfg} (h : cfg.code = 3) : ∃ a n, cfg = .signal a n := by
  cases cfg
  case signal a n => exact ⟨a, n, rfl⟩
  all_goals exact absurd h (by simp [ClassCfg.code])

/-- What an UNBLOCK makes of an element. -/
def Ev.unblocked (v : Ev) (cfg : ClassCfg) (e : Elem) : Elem :=
  match cfg with
  | .trackSection _ _ _ => { e with lock := .none, status := .disturbed }
  | .signal _ lampTicks => { e with lock := .none, status := .unproved, cmd := 0, timer := lampTicks }
  | .stop _ _ _ _ operateMs _ => { e with lock := .none, status := .unproved, timer := v.ticks operateMs }
  | .gate _ _ _ _ _ operateMs => { e with lock := .none, status := .unproved, timer := v.ticks operateMs }
  | _ => { e with lock := .none, status := .unproved }

theorem Ev.reqUnblock_sets {v : Ev} {id : Nat} (h : (v.elem id).status = .blocked) (cfg : ClassCfg) :
    ∃ w, v.reqUnblock id cfg = (w, 0) ∧ v.Sets w id (v.unblocked cfg (v.elem id)) := by
  unfold Ev.reqUnblock
  simp only [h, bne_self_eq_false, Bool.false_eq_true, if_false]
  cases cfg
  case trackSection => exact ⟨_, rfl, (Ev.Sets.setElem v id _).modAux id _⟩
  all_goals exact ⟨_, rfl, .setElem v id _⟩

theorem Ev.unblocked_kept (v : Ev) (cfg : ClassCfg) (e : Elem) :
    (v.unblocked cfg e).lock = .none ∧ (v.unblocked cfg e).det = e.det ∧
    (v.unblocked cfg e).status = (if cfg.code = 1 then .disturbed else .unproved) ∧
    (cfg.code = 2 → (v.unblocked cfg e).timer = e.timer ∧ (v.unblocked cfg e).cmd = e.cmd) := by
  cases cfg
  all_goals simp [Ev.unblocked, ClassCfg.code]

theorem Elem.butFlank_fields {e f : Elem} (h : e.butFlank f) :
    f.status = e.status ∧ f.lock = e.lock ∧ f.det = e.det ∧ f.timer = e.timer ∧ f.cmd = e.cmd := by
  unfold Elem.butFlank at h
  rw [h]
  exact ⟨rfl, rfl, rfl, rfl, rfl⟩

/-- What an evaluation makes of an UNPROVED signal whose lamp time runs. -/
theorem Elem.follows_unproved {n : Nat} {e f : Elem} (hstatus : e.status = .unproved) (htimer : e.timer = n) (h : e.follows n f) :
    Elem.butFlank { e with cmd := f.cmd } f := by
  rw [Elem.follows, if_neg (by simp [hstatus])] at h
  rcases h with h | h
  · exact h
  · rw [← htimer, ← hstatus] at h
    exact h

theorem Elem.blocked_of_follows {n : Nat} {e f : Elem} (hstatus : e.status = .blocked) (h : e.follows n f) :
    Elem.butFlank { e with cmd := 0 } f := by
  rwa [Elem.follows, if_pos (.inr hstatus)] at h

theorem guardRequests_block {s : State} {l : Lane} {q : Request} {cfg : ClassCfg} (hseen : q.target.toNat ∉ s.mail.seenElem)
    (hhears : s.hears l 0x06 q none) (hcfg : (s.view l).cfg? q.target.toNat = some cfg) (hclass : classOk 0x06 cfg = true)
    (hfree : (s.elemOf l q.target.toNat).status ≠ .blocked) (hlocked : (s.elemOf l q.target.toNat).locked = false) :
    let e := s.elemOf l q.target.toNat
    let f := (s.requested 0x06 q).elemOf l q.target.toNat
    f.status = .blocked ∧ f.lock = .maintenance ∧ f.det = e.det ∧ f.timer = e.timer ∧ (cfg.code ≠ 3 → f.cmd = e.cmd) ∧
    (cfg.code = 3 → f.cmd = 0) ∧ ElemsOnly [q.target.toNat] l s (s.requested 0x06 q) ∧ RowKeeps s (s.requested 0x06 q) := by
  extract_lets e f
  have helem := Ev.heardElem_elem s l 0x06 q q.target.toNat
  obtain ⟨hplain, hsignal, -, honly, hkeeps⟩ := State.setRow hhears rfl hcfg hclass hseen
    (w := ((s.view l).heardElem 0x06 q).setElem q.target.toNat { e with status := .blocked, lock := .maintenance })
    (by
      show ((s.view l).heardElem 0x06 q).reqBlock q.target.toNat = _
      unfold Ev.reqBlock
      simp only [helem, hlocked, hfree, Bool.false_eq_true, if_false, beq_iff_eq]
      rfl)
    (.setElem _ _ _)
  by_cases hcode : cfg.code = 3
  · obtain ⟨a, n, rfl⟩ := ClassCfg.signal_of_code hcode
    obtain ⟨hstatus, hlock, hdet, htimer, hcmd⟩ := Elem.butFlank_fields (Elem.blocked_of_follows rfl (hsignal a n rfl))
    exact ⟨hstatus, hlock, hdet, htimer, fun h => absurd hcode h, fun _ => hcmd, honly, hkeeps⟩
  · obtain ⟨hstatus, hlock, hdet, htimer, hcmd⟩ := Elem.butFlank_fields (hplain hcode)
    exact ⟨hstatus, hlock, hdet, htimer, fun _ => hcmd, fun h => absurd h hcode, honly, hkeeps⟩

theorem guardRequests_unblock {s : State} {l : Lane} {q : Request} {cfg : ClassCfg} {arm : Tick} (hseen : q.target.toNat ∉ s.mail.seenElem)
    (hhears : s.hears l 0x07 q (some arm)) (hcfg : (s.view l).cfg? q.target.toNat = some cfg) (hclass : classOk 0x07 cfg = true)
    (hblocked : (s.elemOf l q.target.toNat).status = .blocked) :
    let e := s.elemOf l q.target.toNat
    let t := s.requested 0x07 q
    let f := t.elemOf l q.target.toNat
    f.lock = .none ∧ f.det = e.det ∧ f.status = (if cfg.code = 1 then .disturbed else .unproved) ∧
    (∀ a n, cfg = .signal a n → f.timer = n) ∧ (cfg.code = 2 → f.timer = e.timer ∧ f.cmd = e.cmd) ∧
    (l = s.lead → t.aon.counters[1] = (if s.aon.counters[1] = 0xFFFFFFFF#32 then 0xFFFFFFFF#32 else s.aon.counters[1] + 1#32)) ∧
    ElemsOnly [q.target.toNat] l s t ∧ RowKeeps s t := by
  extract_lets e t f
  obtain ⟨w, hact, hsets⟩ := Ev.reqUnblock_sets (v := (s.view l).heardElem 0x07 q) (id := q.target.toNat)
    (by rw [Ev.heardElem_elem]; exact hblocked) cfg
  rw [Ev.heardElem_elem] at hsets
  obtain ⟨hplain, hsignal, hcounters, honly, hkeeps⟩ := State.setRow hhears rfl hcfg hclass hseen hact hsets
  obtain ⟨hlock, hdet, hstatus, hpoint⟩ := Ev.unblocked_kept ((s.view l).heardElem 0x07 q) cfg e
  have hcount : l = s.lead → t.aon.counters[1] =
      (if s.aon.counters[1] = 0xFFFFFFFF#32 then 0xFFFFFFFF#32 else s.aon.counters[1] + 1#32) := fun hl => by
    rw [hcounters hl, show (hasTwoStep 0x07 && (s.view l).twoStep 0x07 q) = true from rfl, if_pos rfl,
      show (retIndex 7).toList = [1] from rfl]
    exact countUp_get s.aon.counters 1
  by_cases hcode : cfg.code = 3
  · obtain ⟨a, n, rfl⟩ := ClassCfg.signal_of_code hcode
    obtain ⟨hstatus', hlock', hdet', htimer', -⟩ := Elem.butFlank_fields (Elem.follows_unproved rfl rfl (hsignal a n rfl))
    refine ⟨hlock', hdet', hstatus', fun b m h => ?_, fun h => absurd (hcode.symm.trans h) (by decide), hcount, honly, hkeeps⟩
    injection h with _ hn
    rw [← hn]
    exact htimer'
  · obtain ⟨hstatus', hlock', hdet', htimer', hcmd'⟩ := Elem.butFlank_fields (hplain hcode)
    refine ⟨hlock'.trans hlock, hdet'.trans hdet, hstatus'.trans hstatus, fun a n h => ?_, fun h => ?_, hcount, honly, hkeeps⟩
    · exact absurd (by rw [h]; rfl) hcode
    · exact ⟨htimer'.trans (hpoint h).1, hcmd'.trans (hpoint h).2⟩

/-! ### SECTION RESET (R82) -/

/-- The reset of a section's count detectors (R82). -/
def Ev.resetDet (v : Ev) (d : Nat) : Ev :=
  (v.modElem d (fun x => { x with status := .proved, timer := 0, det := 0 })).modAux d (fun a => { a with countFault := false, risen := false })

theorem Ev.resetDets_effect (cds : List Nat) (v : Ev) :
    v.SameTraffic (v.each cds Ev.resetDet) ∧
    (∀ j, j ∉ cds → (v.each cds Ev.resetDet).elem j = v.elem j) ∧
    (∀ j, j ∈ cds → (v.each cds Ev.resetDet).elem j = { v.elem j with status := .proved, timer := 0, det := 0 }) := by
  induction cds generalizing v with
  | nil => exact ⟨.refl v, fun _ _ => rfl, fun j hj => absurd hj (by simp)⟩
  | cons d cds ih =>
    obtain ⟨htraffic, hother, hself⟩ := ih (v.resetDet d)
    have hd : (v.resetDet d).elem d = { v.elem d with status := .proved, timer := 0, det := 0 } :=
      Ev.elem_modElem_self v d (fun x => { x with status := .proved, timer := 0, det := 0 })
    have hne (j : Nat) (hj : j ≠ d) : (v.resetDet d).elem j = v.elem j :=
      Ev.elem_modElem_ne v (fun x => { x with status := .proved, timer := 0, det := 0 }) hj
    refine ⟨Ev.SameTraffic.trans (v := v.resetDet d) ⟨rfl, rfl, rfl, rfl, rfl⟩ htraffic, fun j hj => ?_, fun j hj => ?_⟩
    · rw [List.mem_cons, not_or] at hj
      exact (hother j hj.2).trans (hne j hj.1)
    · by_cases hin : j ∈ cds
      · refine (hself j hin).trans ?_
        by_cases hjd : j = d
        · rw [hjd, hd]
        · rw [hne j hjd]
      · obtain rfl : j = d := (List.mem_cons.mp hj).resolve_right hin
        exact (hother j hin).trans hd

theorem Ev.mem_countDets {v : Ev} {srcs : List SecSrc} {d : Nat} (h : d ∈ v.countDets srcs) : ∃ heads, v.cfg? d = some (.detCount heads) := by
  unfold Ev.countDets at h
  rw [List.mem_filterMap] at h
  obtain ⟨src, -, hsrc⟩ := h
  split at hsrc
  · exact absurd hsrc (by simp)
  · split at hsrc
    · rename_i heads hcfg
      rw [← Option.some.inj hsrc]
      exact ⟨heads, hcfg⟩
    · exact absurd hsrc (by simp)

theorem guardRequests_sectionReset {s : State} {l : Lane} {q : Request} {srcs : List SecSrc} {clearDelay : Nat} {arm : Tick}
    (hseen : q.target.toNat ∉ s.mail.seenElem) (hhears : s.hears l 0x08 q (some arm))
    (hcfg : (s.view l).cfg? q.target.toNat = some (.trackSection srcs clearDelay .direct))
    (hdisturbed : (s.elemOf l q.target.toNat).status = .disturbed)
    (hclear : ∀ d, d ∈ (s.view l).countDets srcs → (s.elemOf l d).cmd = 0 ∧ (s.elemOf l d).phase2 = 0) :
    let t := s.requested 0x08 q
    Elem.butFlank { s.elemOf l q.target.toNat with status := .proved } (t.elemOf l q.target.toNat) ∧
    (∀ d, d ∈ (s.view l).countDets srcs →
      Elem.butFlank { s.elemOf l d with status := .proved, timer := 0, det := 0 } (t.elemOf l d)) ∧
    ElemsOnly (q.target.toNat :: (s.view l).countDets srcs) l s t ∧ RowKeeps s t := by
  extract_lets t
  obtain ⟨v, hv⟩ : ∃ v, v = (s.view l).heardElem 0x08 q := ⟨_, rfl⟩
  have helem (j : Nat) : v.elem j = s.elemOf l j := by rw [hv, Ev.heardElem_elem]
  have hcds : v.countDets srcs = (s.view l).countDets srcs := by
    unfold Ev.countDets
    rw [hv]
    simp only [Ev.heardElem_cfg]
  obtain ⟨htraffic, hother, hdet⟩ := Ev.resetDets_effect (v.countDets srcs) v
  have hid : q.target.toNat ∉ v.countDets srcs := fun h => by
    rw [hcds] at h
    obtain ⟨heads, hd⟩ := Ev.mem_countDets h
    exact absurd (hcfg.symm.trans hd) (by simp)
  obtain ⟨w, hw⟩ : ∃ w, w = (v.each (v.countDets srcs) Ev.resetDet).setElem q.target.toNat
    { s.elemOf l q.target.toNat with status := .proved } := ⟨_, rfl⟩
  have hact : v.elemAct 0x08 q.target.toNat (.trackSection srcs clearDelay .direct) (q.arg.setWidth 4) (some arm) = (w, 0) := by
    show v.reqSectionReset q.target.toNat srcs .direct = _
    unfold Ev.reqSectionReset
    have hany : ((v.countDets srcs).any fun d => (v.elem d).cmd != 0 || (v.elem d).phase2 != 0) = false := by
      rw [List.any_eq_false]
      intro d hd
      obtain ⟨hcmd, hphase⟩ := hclear d (hcds ▸ hd)
      simp [helem, hcmd, hphase]
    simp only [helem] at hany
    simp only [helem, hdisturbed, hany, beq_self_eq_true, Bool.true_or, Bool.not_true, Bool.false_eq_true, if_false]
    rw [hw]
    show (Ev.modElem (v.each (v.countDets srcs) Ev.resetDet) q.target.toNat _, _) = _
    unfold Ev.modElem
    rw [hother _ hid, helem]
    simp only [hdisturbed]
    rfl
  have hself (d : Nat) (hd : d ∈ (s.view l).countDets srcs) :
      w.elem d = { s.elemOf l d with status := .proved, timer := 0, det := 0 } := by
    rw [← hcds] at hd
    rw [hw, Ev.elem_setElem_ne _ _ (fun h => hid (by rw [← h]; exact hd)), hdet d hd, helem]
  subst hv
  obtain ⟨hplain, -, -, honly, hkeeps⟩ := State.elemRow hhears rfl hcfg rfl hseen hact
    (htraffic.trans (by rw [hw]; exact .setElem _ _ _)) (ids := q.target.toNat :: (s.view l).countDets srcs) fun j hj => by
      rw [List.mem_cons, not_or] at hj
      rw [hw, Ev.elem_setElem_ne _ _ hj.1, hother j (by rw [hcds]; exact hj.2), helem]
  refine ⟨?_, fun d hd => ?_, honly, hkeeps⟩
  · have h := hplain q.target.toNat (by simp [hcfg])
    rw [hw, Ev.elem_setElem_self] at h
    exact h
  · rw [← hself d hd]
    obtain ⟨heads, hd'⟩ := Ev.mem_countDets hd
    exact hplain d (by simp [hd'])

/-- Settles O29: each request of the guard, by the element that its work in the lane sets. -/
theorem guardRequestsSetTheElement : Obligations.GuardRequestsSetTheElement := by
  unfold Obligations.GuardRequestsSetTheElement
  refine ⟨fun s l q id e hid he hseen => ?_, fun s l q id e hid he hseen => ?_⟩
  · subst hid he
    refine ⟨fun cfg hhears hcfg hclass hfree hlocked => ⟨_, rfl, guardRequests_block hseen hhears hcfg hclass hfree hlocked⟩,
      fun cfg hhears hcfg hclass hblocked => ⟨_, rfl, ?_⟩,
      fun cfg arm hhears hcfg hclass hblocked => ⟨_, rfl, guardRequests_unblock hseen hhears hcfg hclass hblocked⟩⟩
    have hact : ∃ b, ((s.view l).heardElem 0x06 q).elemAct 0x06 q.target.toNat cfg (q.arg.setWidth 4) none =
        ((s.view l).heardElem 0x06 q, b) := by
      show ∃ b, ((s.view l).heardElem 0x06 q).reqBlock q.target.toNat = _
      unfold Ev.reqBlock
      simp only [Ev.heardElem_elem, hblocked, beq_self_eq_true, if_true]
      split
      · exact ⟨_, rfl⟩
      · exact ⟨_, rfl⟩
    obtain ⟨b, hact⟩ := hact
    exact State.idleRow hhears rfl hcfg hclass hseen hact
  · subst hid he
    refine ⟨fun srcs clearDelay arm hhears hcfg hdisturbed hclear =>
        ⟨_, rfl, guardRequests_sectionReset hseen hhears hcfg hdisturbed hclear⟩,
      fun estop access presence ack out settleMs cond secs arm hhears hcfg hcmd hdet hlate => ⟨_, rfl, ?_⟩,
      fun estop access presence ack out settleMs cond secs hhears hcfg =>
        ⟨fun harg hcmd htimer hcond => ⟨_, rfl, ?_⟩, fun harg hcmd => ⟨_, rfl, ?_⟩⟩,
      fun aspects lampTicks arm hhears hcfg hfailed => ⟨_, rfl, ?_⟩,
      fun restrictive rule arm hhears hcfg hcmd => ⟨_, rfl, ?_⟩⟩
    · have hstop : (((s.view l).heardElem 0x09 q).aux q.target.toNat).stopTick = ((s.view l).aux q.target.toNat).stopTick := by
        unfold Ev.aux
        rw [((s.view l).heardElem_effect 0x09 q).2.2.1]
      have hact : ((s.view l).heardElem 0x09 q).reqZoneReset q.target.toNat arm =
          (((s.view l).heardElem 0x09 q).setElem q.target.toNat { s.elemOf l q.target.toNat with cmd := 1 }, 0) := by
        unfold Ev.reqZoneReset
        simp only [Ev.heardElem_elem, hcmd, hdet, beq_iff_eq, if_false, bne_self_eq_false, Bool.false_or]
        rw [hstop]
        rcases hn : ((s.view l).aux q.target.toNat).stopTick with _ | n
        · rfl
        · simp only [show tickGt arm n = true from decide_eq_true (hlate n hn)]
          rfl
      obtain ⟨hme, -, -, honly, hkeeps⟩ := State.setRow hhears rfl hcfg rfl hseen hact (.setElem _ _ _)
      exact ⟨hme (by simp [ClassCfg.code]), honly, hkeeps⟩
    · have hcond' : ((s.view l).heardElem 0x0A q).condSet cond = true := by
        rw [← hcond]
        unfold Ev.condSet
        simp only [Ev.heardElem_elem]
        rfl
      have hact : ((s.view l).heardElem 0x0A q).reqZoneAccess q.target.toNat settleMs cond (q.arg.setWidth 4) =
          (((s.view l).heardElem 0x0A q).setElem q.target.toNat { s.elemOf l q.target.toNat with cmd := 2 }, 0) := by
        unfold Ev.reqZoneAccess
        simp only [Ev.heardElem_elem, hcmd, htimer, hcond', harg]
        rfl
      obtain ⟨hme, -, -, honly, hkeeps⟩ := State.setRow hhears rfl hcfg rfl hseen hact (.setElem _ _ _)
      exact ⟨hme (by simp [ClassCfg.code]), honly, hkeeps⟩
    · have hact : ((s.view l).heardElem 0x0A q).reqZoneAccess q.target.toNat settleMs cond (q.arg.setWidth 4) =
          (((s.view l).heardElem 0x0A q).zoneStop q.target.toNat settleMs, 0) := by
        unfold Ev.reqZoneAccess
        simp only [Ev.heardElem_elem, beq_iff_eq, hcmd, if_false, harg]
        rfl
      have hsets := ((s.view l).heardElem 0x0A q).zoneStop_sets q.target.toNat settleMs
      rw [Ev.heardElem_elem, Ev.heardElem_ticks] at hsets
      obtain ⟨hme, -, -, honly, hkeeps⟩ := State.setRow hhears rfl hcfg rfl hseen hact hsets
      exact ⟨hme (by simp [ClassCfg.code]), honly, hkeeps⟩
    · have hact : ((s.view l).heardElem 0x0B q).reqRestore q.target.toNat lampTicks =
          (((s.view l).heardElem 0x0B q).setElem q.target.toNat
            { s.elemOf l q.target.toNat with status := .unproved, timer := lampTicks }, 0) := by
        unfold Ev.reqRestore
        simp only [Ev.heardElem_elem, hfailed]
        rfl
      obtain ⟨-, hsignal, -, honly, hkeeps⟩ := State.setRow hhears rfl hcfg rfl hseen hact (.setElem _ _ _)
      exact ⟨Elem.follows_unproved rfl rfl (hsignal aspects lampTicks rfl), honly, hkeeps⟩
    · have hact : ((s.view l).heardElem 0x0C q).reqFlag q.target.toNat true (q.arg.setWidth 4) =
          (((s.view l).heardElem 0x0C q).setElem q.target.toNat
            { s.elemOf l q.target.toNat with cmd := q.arg.setWidth 4, det := q.arg.setWidth 4 }, 0) := by
        unfold Ev.reqFlag
        simp only [Ev.heardElem_elem, beq_iff_eq, hcmd, if_false, Bool.not_true, Bool.false_eq_true]
      obtain ⟨hme, -, -, honly, hkeeps⟩ := State.setRow hhears rfl hcfg rfl hseen hact (.setElem _ _ _)
      exact ⟨hme (by simp [ClassCfg.code]), honly, hkeeps⟩

end Sys2Proof.Machine
end

section
/-! SUPPORT. The requests of routes (O30). -/
namespace Sys2Proof.Machine

/-! ### A route moves (R117, R133) -/

theorem Ev.route_go_self (v : Ev) (r : Nat) (st : RState) (f : RouteRec → RouteRec) :
    (v.go r st f).route r = { f (v.route r) with state := st, stateTick := v.tick } :=
  AMap.getD_set_self _ _ _ _

theorem Ev.route_go_ne (v : Ev) {r k : Nat} (st : RState) (f : RouteRec → RouteRec) (h : k ≠ r) : (v.go r st f).route k = v.route k :=
  AMap.getD_set_ne _ _ _ h

/-! ### What is found on the track rests on the image and the elements (R157) -/

section
variable {v w : Ev} (harea : w.area = v.area) (helems : w.c.elems = v.c.elems)

include helems in
theorem Ev.leads_congr (e : TrackEnd) (detected : Bool) : w.leads e detected = v.leads e detected := by
  have helem (j : Nat) : w.elem j = v.elem j := congrArg (AMap.getD · j Elem.zero) helems
  unfold Ev.leads
  simp only [helem]

include harea in
theorem Ev.secLen_congr (sec : Nat) : w.secLen sec = v.secLen sec := by
  unfold Ev.secLen
  rw [harea]

include harea helems

theorem Ev.pathsTo_congr (detected : Bool) (fuel sec ofs : Nat) (dir : Bool) (tsec tofs maxD : Nat) :
    w.pathsTo detected fuel sec ofs dir tsec tofs maxD = v.pathsTo detected fuel sec ofs dir tsec tofs maxD := by
  induction fuel generalizing sec ofs dir maxD with
  | zero =>
    unfold Ev.pathsTo
    rw [harea]
  | succ n ih =>
    unfold Ev.pathsTo
    simp only [harea, ih, Ev.leads_congr helems, Ev.secLen_congr harea]

theorem Ev.segsFrom_congr (fuel sec ofs : Nat) (dir : Bool) (d base : Nat) :
    w.segsFrom fuel sec ofs dir d base = v.segsFrom fuel sec ofs dir d base := by
  induction fuel generalizing sec ofs dir base with
  | zero =>
    unfold Ev.segsFrom
    rw [harea]
  | succ n ih =>
    unfold Ev.segsFrom
    simp only [harea, ih, Ev.leads_congr helems, Ev.secLen_congr harea]

omit helems in
theorem Ev.along_congr (segs : List Seg) (lo hi : Nat) : w.along segs lo hi = v.along segs lo hi := by
  unfold Ev.along
  simp only [Ev.secLen_congr harea]

theorem Ev.between_congr (sec ofs tsec tofs : Nat) : w.between sec ofs tsec tofs = v.between sec ofs tsec tofs := by
  unfold Ev.between Ev.ends Ev.trackLen
  simp only [harea, Ev.pathsTo_congr harea helems]

theorem Ev.extent_congr (a : AuthRec) : w.extent a = v.extent a := by
  unfold Ev.extent Ev.body Ev.reach Ev.ends
  simp only [harea, Ev.pathsTo_congr harea helems, Ev.segsFrom_congr harea helems, Ev.along_congr harea]

theorem Ev.claimOf_congr (a : AuthRec) (ls : List Limit) : w.claimOf a ls = v.claimOf a ls := by
  have htrack (l : Limit) : w.trackTo a l = v.trackTo a l := by
    unfold Ev.trackTo
    simp only [Ev.along_congr harea, Ev.between_congr harea helems]
  unfold Ev.claimOf
  rw [Ev.extent_congr harea helems, show w.trackTo a = v.trackTo a from funext htrack]

end

/-! ### A route request in one lane's evaluation (R133-R140, R144) -/

/-- The evaluation in which a route request acts: its target is seen, its arm taken. -/
def Ev.heardRoute (v : Ev) (c : Byte) (q : Request) : Ev := (({ v with seenRoute := v.seenRoute ++ [q.target.toNat] } : Ev).stage c q).1

/-- What a route request that acts does to its route. -/
def Ev.routeAct (v : Ev) (c : Byte) (q : Request) (rc : RouteCfg) : Ev :=
  if c == 0x20 then (v.reqSetRoute q.target.toNat rc q).1
  else if c == 0x21 then (v.reqCancel q.target.toNat rc).1
  else (v.reqEmergency q.target.toNat rc).1

theorem Ev.retain_moved (v : Ev) (c : Byte) (kind : ObjKind) (obj state released : Nat) :
    (v.retain c kind obj state released).moved = v.moved := by
  unfold Ev.retain
  split
  · rfl
  · rfl

theorem Ev.request_route {v : Ev} {c : Byte} {q : Request} {rc : RouteCfg} {arm : Option Tick} (hcommon : v.common c q = 0)
    (hcode : isRouteCode c = true) (hrc : v.area.routes.get? q.target.toNat = some rc) (hseen : q.target.toNat ∉ v.seenRoute)
    (hstage : (v.stage c q).2 = .act arm) :
    (v.request c q).c = ((v.heardRoute c q).routeAct c q rc).c ∧ (v.request c q).area = ((v.heardRoute c q).routeAct c q rc).area ∧
    (v.request c q).moved = ((v.heardRoute c q).routeAct c q rc).moved := by
  have hact : (({ v with seenRoute := v.seenRoute ++ [q.target.toNat] } : Ev).stage c q).2 = .act arm :=
    (Ev.stage_congr (w := { v with seenRoute := v.seenRoute ++ [q.target.toNat] }) (v := v) rfl rfl rfl rfl c q).trans hstage
  have hroute : (v.routeReq c q).1.c = ((v.heardRoute c q).routeAct c q rc).c ∧
      (v.routeReq c q).1.area = ((v.heardRoute c q).routeAct c q rc).area ∧
      (v.routeReq c q).1.moved = ((v.heardRoute c q).routeAct c q rc).moved := by
    unfold Ev.routeReq Ev.routeAct
    dsimp only
    rw [hrc]
    simp only [List.contains_eq_mem, hseen, decide_false, Bool.false_eq_true, if_false]
    rw [hact]
    dsimp only
    split
    · exact ⟨rfl, rfl, rfl⟩
    · split
      · exact ⟨rfl, rfl, rfl⟩
      · split
        · obtain ⟨hc, harea, -⟩ := Ev.retain_kept ((v.heardRoute c q).reqEmergency q.target.toNat rc).1 c .route q.target.toNat
            (v.route q.target.toNat).state.code.toNat (v.route q.target.toNat).released
          exact ⟨hc, harea, Ev.retain_moved ..⟩
        · exact ⟨rfl, rfl, rfl⟩
  have helem : isElemCode c = false := by
    have hcases : c = 0x20 ∨ c = 0x21 ∨ c = 0x22 := by simpa [isRouteCode, or_assoc] using hcode
    rcases hcases with rfl | rfl | rfl <;> rfl
  obtain ⟨hc, harea, hmoved⟩ := hroute
  rw [← hc, ← harea, ← hmoved]
  unfold Ev.request
  simp only [hcommon, helem, hcode]
  exact ⟨rfl, rfl, rfl⟩

theorem State.heardRoute_effect (s : State) (l : Lane) (c : Byte) (q : Request) :
    ((s.view l).heardRoute c q).c.routes = (s.lane l).region.routes ∧ ((s.view l).heardRoute c q).c.elems = (s.lane l).region.elems ∧
    ((s.view l).heardRoute c q).c.auths = (s.lane l).region.auths ∧ ((s.view l).heardRoute c q).area = (s.view l).area ∧
    ((s.view l).heardRoute c q).tick = s.ms.tick ∧ ((s.view l).heardRoute c q).tUs = s.ms.tUs ∧
    ((s.view l).heardRoute c q).moved = s.mail.movedRoute := by
  unfold Ev.heardRoute
  rw [Ev.stage_kept]
  exact ⟨rfl, rfl, rfl, rfl, rfl, rfl, rfl⟩

theorem State.heardRoute_route (s : State) (l : Lane) (c : Byte) (q : Request) (k : Nat) :
    ((s.view l).heardRoute c q).route k = s.routeOf l k := by
  obtain ⟨hroutes, -⟩ := s.heardRoute_effect l c q
  unfold Ev.route
  rw [hroutes]
  rfl

theorem State.heardRoute_ticks (s : State) (l : Lane) (c : Byte) (q : Request) (ms : Nat) :
    ((s.view l).heardRoute c q).routeTicks ms = max 1 (msTicks s.ms.tUs ms) := by
  obtain ⟨-, -, -, -, -, htUs, -⟩ := s.heardRoute_effect l c q
  unfold Ev.routeTicks Ev.ticks
  rw [htUs]

theorem State.heardRoute_approachFree (s : State) (l : Lane) (c : Byte) (q : Request) (rc : RouteCfg) :
    ((s.view l).heardRoute c q).approachFree rc = (s.view l).approachFree rc := by
  obtain ⟨-, helems, hauths, harea, htick, -, -⟩ := s.heardRoute_effect l c q
  have hk : ((s.view l).heardRoute c q).c.limits = (s.view l).c.limits ∧ ((s.view l).heardRoute c q).c.k.sent = (s.view l).c.k.sent := by
    unfold Ev.heardRoute
    rw [Ev.stage_kept]
    exact ⟨rfl, rfl⟩
  obtain ⟨hlimits, hsent⟩ := hk
  have hclaim (veh : Nat) (a : AuthRec) : ((s.view l).heardRoute c q).claim veh a = (s.view l).claim veh a := by
    unfold Ev.claim Ev.sentLimits
    rw [hlimits, hsent, htick, harea]
    exact Ev.claimOf_congr harea helems a _
  unfold Ev.approachFree Ev.depends
  simp only [hclaim]
  rw [harea, hauths, show ((s.view l).heardRoute c q).secClear = (s.view l).secClear from
    funext (Ev.secClear_congr fun j => congrArg (AMap.getD · j Elem.zero) helems)]
  rfl

/-! ### A route request in the module -/

/-- A route request that moves its route in lane `l`, for the first time in the tick. -/
theorem State.routeRow {s : State} {l : Lane} {c : Byte} {q : Request} {rc : RouteCfg} {arm : Option Tick} {st : RState}
    {f : RouteRec → RouteRec} (hhears : s.hears l c q arm) (hcode : isRouteCode c = true)
    (hrc : (s.view l).area.routes.get? q.target.toNat = some rc) (hseen : q.target.toNat ∉ s.mail.seenRoute)
    (hmoved : q.target.toNat ∉ s.mail.movedRoute)
    (hact : ((s.view l).heardRoute c q).routeAct c q rc = ((s.view l).heardRoute c q).go q.target.toNat st f) :
    (s.requested c q).routeOf l q.target.toNat = { f (s.routeOf l q.target.toNat) with state := st, stateTick := s.ms.tick } ∧
    (∀ k, k ≠ q.target.toNat → (s.requested c q).routeOf l k = s.routeOf l k) ∧ RowKeeps s (s.requested c q) := by
  obtain ⟨heval, hcommon, hstage⟩ := hhears
  obtain ⟨-, -, -, harea, htick, -, -⟩ := s.heardRoute_effect l c q
  obtain ⟨hreqc, hreqarea, -⟩ := Ev.request_route hcommon hcode hrc hseen hstage
  rw [hact] at hreqc hreqarea
  have hrequested := State.requested_of_evaluates (c := c) (q := q) heval (by
    show (isRouteCode c && s.mail.movedRoute.contains q.target.toNat && _) = false
    simp [hmoved])
  obtain ⟨-, -, hrun, hwf⟩ := heval
  obtain ⟨hset, hkeeps, -⟩ := State.evaluated_settled hrun (g := fun v => v.request c q)
    (fun v => v.request_setting q (by simp [isFieldCode, hcode])) (by rw [hreqarea]; exact harea ▸ hwf)
  rw [hrequested]
  have hroute (k : Nat) : (s.evaluated fun v => (v.request c q).settle).routeOf l k =
      (((s.view l).heardRoute c q).go q.target.toNat st f).route k := by
    unfold State.routeOf
    rw [hset.routes, hreqc]
    rfl
  refine ⟨?_, fun k hk => ?_, hkeeps⟩
  · rw [hroute, Ev.route_go_self, State.heardRoute_route, htick]
  · rw [hroute, Ev.route_go_ne _ _ _ hk, State.heardRoute_route]

/-- Settles O30: each route request, by the move it makes. -/
theorem routeRequestsMoveTheRoute : Obligations.RouteRequestsMoveTheRoute := by
  unfold Obligations.RouteRequestsMoveTheRoute
  intro s l q r rc x hr hx hseen hrc
  subst hr hx
  refine ⟨fun hmoved hl hhears hidle => ?_, fun hmoved => ⟨fun hhears hidle => ⟨_, rfl, ?_⟩, fun hhears hreq => ⟨_, rfl, ?_⟩,
    fun hhears hcleared hfree => ⟨_, rfl, ?_⟩, fun arm hhears hstate => ⟨_, rfl, ?_⟩⟩⟩
  · obtain ⟨heval, hcommon, hstage⟩ := hhears
    obtain ⟨-, -, hreqmoved⟩ := Ev.request_route hcommon rfl hrc hseen hstage
    have hlonger : ((s.view l).request 0x20 q).moved = s.mail.movedRoute ++ [q.target.toNat] := by
      obtain ⟨-, -, -, -, -, -, hheard⟩ := s.heardRoute_effect l 0x20 q
      rw [hreqmoved]
      show (((s.view l).heardRoute 0x20 q).reqSetRoute q.target.toNat rc q).1.moved = _
      unfold Ev.reqSetRoute
      simp only [State.heardRoute_route, hidle]
      show ((s.view l).heardRoute 0x20 q).moved ++ _ = _
      rw [hheard]
    subst hl
    have htwice : (s.evOf s.lead .empty).movesTwice 0x20 q = true := by
      show (isRouteCode 0x20 && s.mail.movedRoute.contains q.target.toNat &&
        ((s.view s.lead).request 0x20 q).moved.length != s.mail.movedRoute.length) = true
      rw [hlonger]
      simp [hmoved, isRouteCode]
    show Host.Outcome.next (s.requested 0x20 q) = _
    obtain ⟨hticks, hacting, -, -⟩ := heval
    unfold State.requested
    rw [if_pos (Bool.and_eq_true_iff.mpr ⟨hticks, bne_iff_ne.mpr hacting⟩), if_pos htwice]
  · have hact : ((s.view l).heardRoute 0x20 q).routeAct 0x20 q rc = ((s.view l).heardRoute 0x20 q).go q.target.toNat .requested
        (fun x => { x with
          clearPending := true, wasCleared := false, emerg := false, timer := ((s.view l).heardRoute 0x20 q).routeTicks rc.waitMs
          source := sourceCode q.src, setBy := some ⟨q.src, q.tag, q.seq⟩ }) := by
      show (((s.view l).heardRoute 0x20 q).reqSetRoute q.target.toNat rc q).1 = _
      unfold Ev.reqSetRoute
      simp only [State.heardRoute_route, hidle]
    obtain ⟨hself, hother, hkeeps⟩ := State.routeRow hhears rfl hrc hseen hmoved hact
    rw [State.heardRoute_ticks] at hself
    exact ⟨hself, hother, hkeeps⟩
  · have hact : ((s.view l).heardRoute 0x21 q).routeAct 0x21 q rc = ((s.view l).heardRoute 0x21 q).go q.target.toNat .idle
        (fun x => { x with
          reason := 0, source := 3, timer := 0, clearPending := false, emerg := false, bndGranted := 0, setBy := none }) := by
      show (((s.view l).heardRoute 0x21 q).reqCancel q.target.toNat rc).1 = _
      unfold Ev.reqCancel
      simp only [State.heardRoute_route, hreq]
      rfl
    exact State.routeRow hhears rfl hrc hseen hmoved hact
  · have hfree' := (s.heardRoute_approachFree l 0x21 q rc).trans hfree
    have hact : ((s.view l).heardRoute 0x21 q).routeAct 0x21 q rc = ((s.view l).heardRoute 0x21 q).go q.target.toNat .cancelling
        (fun x => { x with timer := ((s.view l).heardRoute 0x21 q).routeTicks rc.apprMs }) := by
      show (((s.view l).heardRoute 0x21 q).reqCancel q.target.toNat rc).1 = _
      unfold Ev.reqCancel
      simp only [State.heardRoute_route, hcleared, hfree', Bool.false_eq_true, if_false]
    obtain ⟨hself, hother, hkeeps⟩ := State.routeRow hhears rfl hrc hseen hmoved hact
    rw [State.heardRoute_ticks] at hself
    exact ⟨hself, hother, hkeeps⟩
  · have hact : ((s.view l).heardRoute 0x22 q).routeAct 0x22 q rc = ((s.view l).heardRoute 0x22 q).go q.target.toNat .cancelling
        (fun x => { x with
          emerg := true
          timer := if x.state == .cancelling then max x.timer (((s.view l).heardRoute 0x22 q).routeTicks rc.emergMs)
            else ((s.view l).heardRoute 0x22 q).routeTicks rc.emergMs }) := by
      show (((s.view l).heardRoute 0x22 q).reqEmergency q.target.toNat rc).1 = _
      unfold Ev.reqEmergency
      rcases hstate with h | h | h
      all_goals simp only [State.heardRoute_route, h]
    obtain ⟨hself, hother, hkeeps⟩ := State.routeRow hhears rfl hrc hseen hmoved hact
    have hnot : ((s.routeOf l q.target.toNat).state == .cancelling) = false := by
      rcases hstate with h | h | h
      all_goals rw [h]; rfl
    rw [State.heardRoute_ticks, hnot] at hself
    exact ⟨hself, hother, hkeeps⟩

end Sys2Proof.Machine
end

section
/-! SUPPORT. VEHICLE REMOVE and BOUNDARY RELEASE (O31). -/
namespace Sys2Proof.Machine

/-- A VEHICLE REMOVE that acts deletes the vehicle (R172). -/
theorem Ev.request_vehicle {v : Ev} {q : Request} {arm : Option Tick} {a : AuthRec} (hcommon : v.common 0x30 q = 0)
    (ha : v.c.auths.get? q.target.toNat = some a) (hseen : q.target.toNat ∉ v.seenVeh) (hstage : (v.stage 0x30 q).2 = .act arm)
    (hold : v.area.auth.maxAge < (v.tick - a.measTick).toNat) :
    (v.request 0x30 q).area = v.area ∧ (v.request 0x30 q).c.routes = v.c.routes ∧
    (v.request 0x30 q).c.auths = v.c.auths.del q.target.toNat ∧ (v.request 0x30 q).c.limits = v.c.limits.del q.target.toNat := by
  have hact : (({ v with seenVeh := v.seenVeh ++ [q.target.toNat] } : Ev).stage 0x30 q).2 = .act arm :=
    (Ev.stage_congr (w := { v with seenVeh := v.seenVeh ++ [q.target.toNat] }) (v := v) rfl rfl rfl rfl 0x30 q).trans hstage
  have hreq : (v.request 0x30 q).area = (v.vehicleReq 0x30 q).1.area ∧ (v.request 0x30 q).c = (v.vehicleReq 0x30 q).1.c := by
    unfold Ev.request
    simp only [hcommon]
    exact ⟨rfl, rfl⟩
  rw [hreq.1, hreq.2]
  unfold Ev.vehicleReq
  dsimp only
  rw [ha]
  simp only [List.contains_eq_mem, hseen, decide_false, Bool.false_eq_true, if_false]
  rw [hact]
  simp only [Nat.not_le.mpr hold, if_false]
  rw [Ev.stage_kept]
  exact ⟨rfl, rfl, rfl, rfl⟩

/-- A BOUNDARY RELEASE of a granted LENT slot whose neighbour is silent frees the slot's element (R377). -/
theorem Ev.request_slot {v : Ev} {q : Request} {arm : Option Tick} {sc : SlotCfg} {id : Nat} (hcommon : v.common 0x23 q = 0)
    (hsc : v.area.slots.get? q.target.toNat = some sc) (hkind : sc.kind = .lent id) (hseen : q.target.toNat ∉ v.seenSlot)
    (hstage : (v.stage 0x23 q).2 = .act arm) (hsilent : v.heard sc.area = false) (hlock : (v.elem id).lock = .boundary)
    (howner : (v.elem id).owner.toNat = q.target.toNat) :
    (v.request 0x23 q).area = v.area ∧ (v.request 0x23 q).c.routes = v.c.routes ∧ (v.request 0x23 q).c.auths = v.c.auths ∧
    (v.request 0x23 q).c.elems = (v.setElem id { v.elem id with lock := .none, owner := 0 }).c.elems := by
  have hact : (({ v with seenSlot := v.seenSlot ++ [q.target.toNat] } : Ev).stage 0x23 q).2 = .act arm :=
    (Ev.stage_congr (w := { v with seenSlot := v.seenSlot ++ [q.target.toNat] }) (v := v) rfl rfl rfl rfl 0x23 q).trans hstage
  have hreq : (v.request 0x23 q).area = (v.slotReq 0x23 q).1.area ∧ (v.request 0x23 q).c = (v.slotReq 0x23 q).1.c := by
    unfold Ev.request
    simp only [hcommon]
    exact ⟨rfl, rfl⟩
  obtain ⟨w, hw⟩ : ∃ w, w = (({ v with seenSlot := v.seenSlot ++ [q.target.toNat] } : Ev).stage 0x23 q).1 := ⟨_, rfl⟩
  have hkept := ({ v with seenSlot := v.seenSlot ++ [q.target.toNat] } : Ev).stage_kept 0x23 q
  rw [← hw] at hkept
  have helem (j : Nat) : w.elem j = v.elem j := by rw [hkept]; rfl
  have hheard : w.heard sc.area = false := by rw [← hsilent, hkept]; rfl
  have hslot : v.slotReq 0x23 q = ((w.freeSlot q.target.toNat id).retain 0x23 .slot q.target.toNat 0 0, 0x00) := by
    unfold Ev.slotReq
    dsimp only
    rw [hsc]
    simp only [List.contains_eq_mem, hseen, decide_false, Bool.false_eq_true, if_false]
    rw [hact]
    dsimp only
    rw [← hw, hheard, hkind]
    simp only [helem, hlock, howner, beq_self_eq_true, Bool.and_self, Bool.false_eq_true, if_false, if_true]
  rw [hreq.1, hreq.2, hslot]
  obtain ⟨hc, harea, -⟩ := (w.freeSlot q.target.toNat id).retain_kept 0x23 .slot q.target.toNat 0 0
  rw [hc, harea]
  have helems : (w.freeSlot q.target.toNat id).c.elems = (w.setElem id { w.elem id with lock := .none, owner := 0 }).c.elems := rfl
  rw [helems, helem]
  refine ⟨?_, ?_, ?_, ?_⟩ <;> rw [hkept] <;> rfl

/-- Settles O31: the vehicle's and the slot's request, each by what it leaves before the lane settles. -/
theorem vehicleRemoveAndBoundaryRelease : Obligations.VehicleRemoveAndBoundaryRelease := by
  unfold Obligations.VehicleRemoveAndBoundaryRelease
  refine ⟨fun s l q arm a hhears hseen ha hold => ⟨_, rfl, ?_⟩,
    fun s l q arm sc id hhears hseen hsc hkind hplain hsilent hlock howner => ⟨_, rfl, ?_⟩⟩
  · obtain ⟨heval, hcommon, hstage⟩ := hhears
    obtain ⟨harea, hroutes, hauths, hlimits⟩ := Ev.request_vehicle (v := s.view l) hcommon ha hseen hstage hold
    rw [State.requested_of_evaluates heval (Ev.movesTwice_of_other q rfl)]
    obtain ⟨-, -, hrun, hwf⟩ := heval
    obtain ⟨hset, hkeeps, -⟩ := State.evaluated_settled hrun (g := fun v => v.request 0x30 q) (fun v => v.request_setting q rfl)
      (by rw [harea]; exact hwf)
    have hgone : ((s.view l).request 0x30 q).c.auths.get? q.target.toNat = none := by rw [hauths, AMap.get?_del_self]
    refine ⟨?_, ?_, fun k hk => ?_, hset.routes.trans hroutes, hkeeps⟩
    · have h := hset.reports q.target.toNat
      rw [hgone] at h
      exact Option.map_eq_none_iff.mp h
    · rw [hset.limits _ hgone, hlimits, AMap.get?_del_self]
    · rw [hset.reports k, hauths, AMap.get?_del_ne _ _ _ hk]
      rfl
  · obtain ⟨heval, hcommon, hstage⟩ := hhears
    obtain ⟨harea, hroutes, hauths, helems⟩ := Ev.request_slot (v := s.view l) hcommon hsc hkind hseen hstage hsilent hlock howner
    rw [State.requested_of_evaluates heval (Ev.movesTwice_of_other q rfl)]
    obtain ⟨-, -, hrun, hwf⟩ := heval
    obtain ⟨hset, hkeeps, -⟩ := State.evaluated_settled hrun (g := fun v => v.request 0x23 q) (fun v => v.request_setting q rfl)
      (by rw [harea]; exact hwf)
    have hcfg (j : Nat) : ((s.view l).request 0x23 q).cfg? j = (s.view l).cfg? j := by
      unfold Ev.cfg?
      rw [harea]
    have helem (j : Nat) : ((s.view l).request 0x23 q).elem j =
        ((s.view l).setElem id { (s.view l).elem id with lock := .none, owner := 0 }).elem j := by
      rw [Ev.elem, helems]
      rfl
    refine ⟨?_, ⟨hset.lane, hset.routes.trans hroutes, fun k => ?_, fun j hj hsig => ?_⟩, hkeeps⟩
    · have h := hset.elem id (by simpa only [hcfg] using hplain)
      rw [helem, Ev.elem_setElem_self] at h
      exact h
    · rw [hset.reports k, hauths]
      rfl
    · have h := hset.elem j (by simpa only [hcfg] using hsig)
      rw [helem, Ev.elem_setElem_ne _ _ (by simpa using hj)] at h
      exact h

end Sys2Proof.Machine
end

section
/-! SUPPORT. A MODULE RESET while POR is held (O32). -/
namespace Sys2Proof.Machine

/-- While POR is held no request resets the module (R470). -/
theorem State.qualified_porHeld {s : State} (o : ResetOrigin) (begun : Tick) (hheld : s.ms.porHeld = true) :
    (s.qualified o begun).1.ms = s.ms := by
  have hwarm (t : State) (ht : t.ms = s.ms) : (t.warmReset 1).ms = s.ms := by
    unfold State.warmReset
    rw [if_neg (by simp [ht, hheld])]
    exact ht
  have hcount (t : State) (did : Bool) : (t.countClear o did).ms = t.ms := t.countClear_sameBut o did .ms (by simp)
  have hcleared (did : Bool) : (s.clearLatch.countClear o did).ms = s.ms := by
    obtain ⟨-, -, hclear⟩ := s.clearLatch_effect
    exact (hcount _ _).trans (hclear .ms (by simp))
  unfold State.qualified
  split
  · rfl
  · rfl
  · dsimp only
    rw [apply_ite Prod.fst, apply_ite State.ms, hcount, hwarm _ (hcleared true), ite_self]
  · exact hcount _ _

theorem State.takeResets_porHeld (rs : List (Option Chan × Tick × Byte × Request)) {s : State} (hheld : s.ms.porHeld = true) :
    (s.takeResets rs).ms = s.ms := by
  induction rs generalizing s with
  | nil => rfl
  | cons r rs ih =>
    have hturn (t : State) (ht : t.ms = s.ms) : (t.takeResets rs).ms = s.ms := (ih (by rw [ht]; exact hheld)).trans ht
    have hqual := State.qualified_porHeld (.twoStep r.1) r.2.1 hheld
    unfold State.takeResets at hturn ⊢
    rw [List.foldl_cons]
    refine hturn _ ?_
    dsimp only
    split
    · split
      · exact hqual
      · exact hqual
    · rfl

theorem State.requested_porHeld {s : State} (c : Byte) (q : Request) (hheld : s.ms.porHeld = true) : (s.requested c q).ms = s.ms := by
  have heffects (t : State) (v : Ev) (ht : t.ms = s.ms) : (t.effects v).ms = s.ms := by
    unfold State.effects
    refine (State.takeResets_porHeld _ ?_).trans ?_
    · split <;> simp [ht, hheld]
    · split <;> simp [ht]
  unfold State.requested
  split
  · split
    · rfl
    · unfold State.evaluated
      refine heffects _ _ ?_
      split <;> simp
  · rfl

/-- A confirm of a MODULE RESET from a secure channel. -/
def confirmReset : Request where
  src := .secure 0
  kind := 2
  tag := 0
  target := 0
  arg := 0
  validFrom := 3000
  validTo := 3000
  armSeq := 1
  reservedZero := true
  seq := 2

/-- A block in LOCKOUT whose supply has not released POR. Lane A runs and holds the arm of `confirmReset`, read after the latch was set. -/
def heldLockout : State := { State.reset with
  ms := { State.reset.ms with mode := .lockout, tick := 3000, tUs := 1000, porHeld := true }
  pwr := { State.reset.pwr with phase := .normal }
  aon := { State.reset.aon with latch := true, latchTick := 5 }
  lanes := (PerLane.all LaneSt.reset).set .a { LaneSt.reset with
    svc := .inService
    region := { LaneSt.reset.region with
      k := { LaneSt.reset.region.k with resetArm := some ⟨.secure 0, 0x38, 0, 0, 1, 10⟩ } } } }

theorem heldLockout_hears : heldLockout.hears .a 0x38 confirmReset (some 10) := by
  refine ⟨⟨by decide, by decide, by decide, by decide⟩, by decide, ?_⟩
  rfl

/-- Refutes O32. In `heldLockout` the confirmed MODULE RESET clears the latch, and the module stays in LOCKOUT: while POR is held it does not
reset. -/
theorem not_moduleRequests : ¬ Obligations.ModuleRequests := by
  intro h
  obtain ⟨-, hlockout, -⟩ := h heldLockout .a confirmReset (by decide)
  obtain ⟨t, ht, -, hmode, -⟩ := hlockout 10 heldLockout_hears rfl rfl (by decide)
  obtain rfl : heldLockout.requested 0x38 confirmReset = t := Host.Outcome.next.inj ht
  rw [State.requested_porHeld _ _ rfl] at hmode
  exact absurd hmode (by decide)

end Sys2Proof.Machine
end

section
/-! SUPPORT. Two lanes that differ in a route's wait (O33). -/
namespace Sys2Proof.Machine

/-- A route over one proxy. -/
def borderRoute : RouteCfg where
  entry := none
  approach := []
  path := []
  pelems := [(11, 1, 0)]
  overlap := []
  flank := []
  flags := []
  zones := []
  waitMs := 10
  setMs := 10
  ovlMs := 10
  apprMs := 10
  emergMs := 10
  follow := false

/-- An image whose route 1 waits eight ticks at most for the grant of its proxy, element 11. -/
def borderImage : Image where
  hdr := ⟨true, true, 1, 0x10, 8192, 7, 10000, 1, 1, .field, 0, 0, 0, true, 1, true, true, 0, 0, 0, 0, 0⟩
  area := { AreaCfg.empty with
    elems := [(11, .boundary 2 2)], routes := [(1, borderRoute)], params := { AreaParams.empty with grantWait := 8 } }
  parts := []

/-- A lane in service whose route 1 has waited for its grants since tick `n`. -/
def waitingLane (n : Tick) (by_ : Option SetBy) : LaneSt := { LaneSt.reset with
  svc := .inService
  region := { LaneSt.reset.region with routes := [(1, { RouteRec.idle with state := .checking, stateTick := n, setBy := by_ })] } }

/-- A module in RUN in tick 5,000. Lane A, which leads, has waited for the grants of route 1 past their time; lane C has not. -/
def apartInWait : State := { State.reset with
  ms := { State.reset.ms with mode := .run, tick := 5000, voting := 7, tUs := 10000 }
  pwr := { State.reset.pwr with phase := .normal }
  lanes := (PerLane.all (waitingLane 5000 none)).set .a (waitingLane 4000 (some ⟨.frame 5, 1, 1⟩))
  upd := { State.reset.upd with img := some borderImage } }

/-- The lead's RESULT for the gateway that set the route waits in every running lane. -/
theorem apartInWait_result : ∃ t, exec (.boundaryGrantWaitExpiry 1) apartInWait = .next t ∧
    (t.lane .c).region.k.results.length ≠ (apartInWait.lane .c).region.k.results.length := by
  refine ⟨_, rfl, ?_⟩
  decide +kernel

/-- Refutes O33. In `apartInWait` lane C, whose wait for the grants goes on, does not stay as it was: lane A rejects the route in the same row, and
what it answers to the gateway that set it is kept in every running lane's region. -/
theorem not_timersExpire : ¬ Obligations.TimersExpire := by
  intro h
  obtain ⟨-, -, hroute⟩ := h apartInWait .c ⟨by decide, by decide, by decide, by decide⟩
  obtain ⟨-, -, hwait⟩ := hroute 1 _ borderRoute rfl (by decide) (by decide)
  obtain ⟨-, hstays⟩ := hwait (by decide) (by decide)
  obtain ⟨t, ht, hlane, -⟩ := hstays (by decide)
  obtain ⟨u, hu, hresults⟩ := apartInWait_result
  obtain rfl : u = t := Host.Outcome.next.inj (hu.symm.trans ht)
  rw [hlane] at hresults
  exact hresults rfl

end Sys2Proof.Machine
end

section
/-! SUPPORT. The items of the boundary slots (O34). -/
namespace Sys2Proof.Machine

/-! ### Mailbox work leaves the boundary's part of part K -/

/-- Two values of part K hold the same of the neighbours and the LENT slots (R371-R375). -/
def LaneK.SameBnd (k k' : LaneK) : Prop := k'.peers = k.peers ∧ k'.granted = k.granted ∧ k'.refused = k.refused

theorem LaneK.SameBnd.refl (k : LaneK) : k.SameBnd k := ⟨rfl, rfl, rfl⟩

theorem LaneK.SameBnd.trans {k k' k'' : LaneK} (h : k.SameBnd k') (g : k'.SameBnd k'') : k.SameBnd k'' := by
  obtain ⟨hpeers, hgranted, hrefused⟩ := h
  obtain ⟨gpeers, ggranted, grefused⟩ := g
  exact ⟨gpeers.trans hpeers, ggranted.trans hgranted, grefused.trans hrefused⟩

theorem Desk.close_bnd (d : Desk) (ch : Fin 8) (cause : BitVec 4) : d.k.SameBnd (d.close ch cause).k := by
  unfold Desk.close
  split
  · exact .refl _
  · exact ⟨rfl, rfl, rfl⟩

theorem Desk.post_bnd (d : Desk) (p : Post) : d.k.SameBnd (d.post p).k := by
  unfold Desk.post
  split
  · exact .refl _
  · exact ⟨rfl, rfl, rfl⟩
  · split
    · exact .refl _
    · extract_lets seq d1
      split
      · exact LaneK.SameBnd.trans (k' := d1.k) ⟨rfl, rfl, rfl⟩ (d1.close_bnd _ _)
      · exact ⟨rfl, rfl, rfl⟩

theorem Desk.posts_bnd (ps : List Post) (d : Desk) : d.k.SameBnd (ps.foldl Desk.post d).k := by
  induction ps generalizing d with
  | nil => exact .refl _
  | cons p ps ih => exact (d.post_bnd p).trans (ih _)

/-- A lane's part K after mailbox work is what it was, or what the lane's own desk makes of it. -/
theorem State.desk_laneK (s : State) (f : Desk → Desk) (l : Lane) :
    ((s.desk f).lane l).region.k = (s.lane l).region.k ∨ ((s.desk f).lane l).region.k = (f (Desk.of (s.lane l).region.k)).k := by
  have hfold (ls : List Lane) (g : Lane → LaneK) (t : State) :
      ((ls.foldl (fun s m => s.modK m (fun _ => g m)) t).lane l).region.k = (t.lane l).region.k ∨
      ((ls.foldl (fun s m => s.modK m (fun _ => g m)) t).lane l).region.k = g l := by
    induction ls generalizing t with
    | nil => exact .inl rfl
    | cons m ls ih =>
      rw [List.foldl_cons]
      rcases ih (t.modK m fun _ => g m) with h | h
      · rw [h, State.lane_modK]
        by_cases hm : l = m
        · subst hm
          exact .inr (by simp)
        · exact .inl (by simp [hm])
      · exact .inr h
  have hlane : (s.desk f).lane l = ((lanesOf (s.running ||| s.acting)).foldl
      (fun s' m => s'.modK m (fun _ => ((s.lanes.map (fun x => f (Desk.of x.region.k))).get m).k)) s).lane l :=
    lane_of_lanes (by simp [State.desk]) l
  rw [hlane]
  have h := hfold (lanesOf (s.running ||| s.acting)) (fun m => ((s.lanes.map (fun x => f (Desk.of x.region.k))).get m).k) s
  rw [PerLane.get_map] at h
  exact h

/-! ### The boundary's part of an evaluation in the module -/

theorem State.evaluated_eq (s : State) {f : Ev → Ev} (hgal : (f (s.view s.lead)).galReq = none) :
    ∃ u : State, s.evaluated f = u.reseal.effects (f (s.view s.lead)) ∧
      (∀ l : Lane, l.inMask (s.running ||| s.acting) = true → (u.lane l).region = (f (s.view l)).c) ∧
      u.pair = { s.pair with removed := u.pair.removed } := by
  refine ⟨{ s with
      lanes := s.lanes.mapL (fun l x =>
        if l.inMask (s.running ||| s.acting) then { x with region := (f (s.view l)).c } else x)
      pair := { s.pair with removed := s.pair.removed ++ (f (s.view s.lead)).removed } }, ?_, fun l hl => ?_, rfl⟩
  · have hget : (PerLane.ofFn (fun l => f (s.evOf l .empty))).get s.lead = f (s.view s.lead) := PerLane.get_ofFn _ _
    unfold State.evaluated
    simp only [hget, hgal, PerLane.get_ofFn]
    rfl
  · refine (congrArg LaneSt.region (PerLane.get_mapL _ _ _)).trans ?_
    rw [if_pos hl]

theorem State.effects_boundary (s : State) {v : Ev} (hresets : v.resets = []) (hlock : v.lockSet = none) :
    (∀ l : Lane, (s.lane l).region.k.SameBnd ((s.effects v).lane l).region.k) ∧
    (v.posts = [] → ∀ l : Lane, ((s.effects v).lane l).region.k = (s.lane l).region.k) ∧
    (s.effects v).pair.grantCnt = satAdd 65535 s.pair.grantCnt v.granted ∧
    (s.effects v).pair.refusedCnt = satAdd 65535 s.pair.refusedCnt v.refusedN := by
  obtain ⟨u, hu⟩ : ∃ u : State, u = { (s.putRecs v.recs).countRetained v.counts with
      rrq := { ((s.putRecs v.recs).countRetained v.counts).rrq with
        short := satAdd 255 ((s.putRecs v.recs).countRetained v.counts).rrq.short v.late }
      pair := { ((s.putRecs v.recs).countRetained v.counts).pair with
        grantCnt := satAdd 65535 ((s.putRecs v.recs).countRetained v.counts).pair.grantCnt v.granted
        refusedCnt := satAdd 65535 ((s.putRecs v.recs).countRetained v.counts).pair.refusedCnt v.refusedN }
      mail := { ((s.putRecs v.recs).countRetained v.counts).mail with
        seenElem := v.seenElem, seenRoute := v.seenRoute, seenVeh := v.seenVeh, seenSlot := v.seenSlot
        seenSwitch := v.seenSwitch, movedRoute := v.moved } } := ⟨_, rfl⟩
  have heffects : s.effects v = u.desk fun d => v.posts.foldl Desk.post d := by
    unfold State.effects
    rw [hresets, hlock, hu]
    rfl
  have e_lane (l : Lane) : u.lane l = s.lane l := lane_of_lanes (by rw [hu]; simp) l
  have e_pair : (u.desk fun d => v.posts.foldl Desk.post d).pair = u.pair := by simp
  rw [heffects]
  refine ⟨fun l => ?_, fun hnone l => ?_, ?_, ?_⟩
  · rw [← e_lane l]
    rcases u.desk_laneK (fun d => v.posts.foldl Desk.post d) l with h | h
    · rw [h]
      exact .refl _
    · rw [h]
      exact Desk.posts_bnd v.posts (Desk.of (u.lane l).region.k)
  · rw [← e_lane l]
    rcases u.desk_laneK (fun d => v.posts.foldl Desk.post d) l with h | h
    · exact h
    · rw [h, hnone]
      rfl
  · rw [e_pair, hu]
    simp
  · rw [e_pair, hu]
    simp

theorem State.evaluated_boundary {s : State} {l : Lane} (hrun : l.inMask (s.running ||| s.acting) = true) {f : Ev → Ev}
    (hf : ∀ v : Ev, v.SameSetting (f v)) :
    (f (s.view l)).c.k.SameBnd ((s.evaluated f).lane l).region.k ∧
    ((f (s.view s.lead)).posts = [] → ((s.evaluated f).lane l).region = (f (s.view l)).c) ∧
    (s.evaluated f).pair.grantCnt = satAdd 65535 s.pair.grantCnt (f (s.view s.lead)).granted ∧
    (s.evaluated f).pair.refusedCnt = satAdd 65535 s.pair.refusedCnt (f (s.view s.lead)).refusedN := by
  obtain ⟨-, -, -, -, -, hresets, hlock, hgal⟩ := hf (s.view s.lead)
  obtain ⟨u, heq, hregion, hpair⟩ := s.evaluated_eq hgal
  obtain ⟨hbnd, hsame, hgrant, hrefused⟩ := u.reseal.effects_boundary (v := f (s.view s.lead)) hresets hlock
  obtain ⟨⟨hheld, -, hpair'⟩, -, -⟩ := u.reseal_resealed
  obtain ⟨k, hk⟩ := (s.evaluated_effect hf).1 l hrun
  have e_region : (u.reseal.lane l).region = (f (s.view l)).c := by rw [hheld l, ← hregion l hrun]
  refine ⟨?_, fun hnone => ?_, ?_, ?_⟩
  · have h := hbnd l
    rw [e_region, ← heq] at h
    exact h
  · have h := hsame hnone l
    rw [e_region, ← heq] at h
    rw [hk] at h ⊢
    dsimp only at h ⊢
    rw [h]
  · rw [heq, hgrant, hpair', hpair]
  · rw [heq, hrefused, hpair', hpair]

/-! ### Work on elements, conditions, records and limits -/

/-- What work that moves no route and decides on no slot leaves of an evaluation. -/
structure Ev.Worked (v w : Ev) : Prop where
  area : w.area = v.area
  tick : w.tick = v.tick
  routes : w.c.routes = v.c.routes
  moved : w.moved = v.moved
  denied : w.bndRefused = v.bndRefused
  bnd : v.c.k.SameBnd w.c.k
  granted : w.granted = v.granted
  refusedN : w.refusedN = v.refusedN

theorem Ev.Worked.refl (v : Ev) : v.Worked v := ⟨rfl, rfl, rfl, rfl, rfl, .refl _, rfl, rfl⟩

theorem Ev.Worked.trans {u v w : Ev} (h : u.Worked v) (k : v.Worked w) : u.Worked w :=
  ⟨k.area.trans h.area, k.tick.trans h.tick, k.routes.trans h.routes, k.moved.trans h.moved, k.denied.trans h.denied,
    h.bnd.trans k.bnd, k.granted.trans h.granted, k.refusedN.trans h.refusedN⟩

theorem Ev.Worked.setElem (v : Ev) (id : Nat) (e : Elem) : v.Worked (v.setElem id e) := ⟨rfl, rfl, rfl, rfl, rfl, .refl _, rfl, rfl⟩

theorem Ev.Worked.modElem (v : Ev) (id : Nat) (f : Elem → Elem) : v.Worked (v.modElem id f) := .setElem v id _

theorem Ev.Worked.setAux (v : Ev) (id : Nat) (a : ElemAux) : v.Worked (v.setAux id a) :=
  ⟨rfl, rfl, rfl, rfl, rfl, ⟨rfl, rfl, rfl⟩, rfl, rfl⟩

theorem Ev.Worked.raise (v : Ev) (cls : RecClass) (code : Byte) (kind : ObjKind) (obj : Nat) (detail : List Byte) :
    v.Worked (v.raise cls code kind obj detail) := ⟨rfl, rfl, rfl, rfl, rfl, .refl _, rfl, rfl⟩

theorem Ev.Worked.each {α : Type} {f : Ev → α → Ev} (h : ∀ v a, Ev.Worked v (f v a)) (l : List α) (v : Ev) : v.Worked (v.each l f) := by
  unfold Ev.each
  induction l generalizing v with
  | nil => exact .refl v
  | cons a l ih => exact (h v a).trans (ih (f v a))

theorem Ev.Worked.lasting (v : Ev) (id : Nat) (code : Byte) (now : Bool) : v.Worked (v.lasting id code now) := by
  unfold Ev.lasting
  extract_lets a was v1
  have h : v.Worked v1 := by
    dsimp only [v1]
    split
    · exact .raise v _ _ _ _ _
    · exact .refl v
  split
  · exact h
  · exact h.trans (.setAux v1 _ _)

theorem Ev.Worked.command (v : Ev) (id : Nat) (val : BitVec 4) : v.Worked (v.command id val) := by
  unfold Ev.command
  dsimp only
  split
  · exact .modElem v _ _
  · exact .modElem v _ _
  · exact .modElem v _ _
  · exact (Ev.Worked.modElem v id _).trans (.setAux _ _ _)
  · exact .refl v

theorem Ev.Worked.commandRoute (v : Ev) (rc : RouteCfg) : v.Worked (v.commandRoute rc) := by
  refine Ev.Worked.each (fun v p => ?_) _ v
  split
  · exact .refl v
  · exact .command v _ _

theorem Ev.Worked.unlockAll (v : Ev) (r : Nat) (rc : RouteCfg) : v.Worked (v.unlockAll r rc) := by
  have hunlock (v : Ev) (id : Nat) : v.Worked (v.unlock r id) := by
    unfold Ev.unlock
    dsimp only
    split
    · split
      · exact .setElem v _ _
      · exact .setElem v _ _
    · exact .refl v
  refine (Ev.Worked.each hunlock _ v).trans (Ev.Worked.each (fun v f => ?_) _ _)
  split
  · split
    · exact .modElem v _ _
    · exact .refl v
  · exact .refl v

theorem Ev.Worked.settle (v : Ev) : v.Worked v.settle := by
  have hflank : v.Worked v.syncFlank := by
    refine Ev.Worked.each (fun v p => ?_) _ v
    split
    · split
      · exact .modElem v _ _
      · exact .refl v
    · exact .modElem v _ _
  have hsignals (v : Ev) : v.Worked v.signals := by
    refine Ev.Worked.each (fun v p => ?_) _ v
    split
    · unfold Ev.signalCmd
      extract_lets e a
      split
      · exact .refl v
      · split
        · exact .setElem v _ _
        · exact .setElem v _ _
    · exact .refl v
  have hput (v : Ev) (veh : Nat) (x : AuthRec) (l : Limit) : v.Worked (v.putLimit veh x l) := by
    refine ⟨rfl, rfl, rfl, rfl, rfl, ?_, rfl, rfl⟩
    show v.c.k.SameBnd (if _ then _ else _)
    split
    · exact ⟨rfl, rfl, rfl⟩
    · exact .refl _
  have hlimits (v : Ev) : v.Worked v.relimit := by
    refine Ev.Worked.each (fun v p => ?_) _ v
    unfold Ev.limit
    extract_lets g age early sec walked inStop first x fresh shorter dist pl y v1
    split
    · exact hput v _ _ _
    · split
      · exact (hput v _ _ _).trans (.raise _ _ _ _ _ _)
      · exact hput v _ _ _
  exact hflank.trans ((hsignals _).trans (hlimits _))

/-! ### A boundary item in one lane and in the module (R371-R374) -/

/-- A row that lane `l` evaluates to `w`, settled. -/
theorem State.evaluated_lane {s : State} {l : Lane} (hrun : l.inMask (s.running ||| s.acting) = true) {f : Ev → Ev}
    (hf : ∀ v : Ev, v.SameSetting (f v)) {w : Ev} (hw : f (s.view l) = w.settle) (hwf : w.area.elems.wf = true) :
    Settled l w s (s.evaluated f) ∧ RowKeeps s (s.evaluated f) := by
  obtain ⟨hlane, -, hkeeps⟩ := s.evaluated_effect hf
  obtain ⟨k, hk⟩ := hlane l hrun
  rw [hw] at hk
  obtain ⟨hroutes, -, hreports, hlimits, helem, hsignal⟩ := w.settle_effect hwf
  generalize s.evaluated f = t at hk hkeeps ⊢
  have hregion : (t.lane l).region = { w.settle.c with k := k } := by rw [hk]
  have helemOf (j : Nat) : t.elemOf l j = w.settle.elem j := by
    unfold State.elemOf
    rw [hregion]
    rfl
  exact ⟨⟨by rw [hregion]; exact hk, by rw [hregion]; exact hroutes, fun j => by rw [hregion]; exact hreports j,
    fun j hj => by rw [hregion]; exact hlimits j hj, fun j hj => by rw [helemOf]; exact helem j hj,
    fun j a n hj => by rw [helemOf]; exact hsignal j a n hj⟩, hkeeps⟩

/-- A boundary item of a slot of the image, heard in lane `l` as an item of its kind: the lane's work `w`, and what it counts. -/
theorem State.bndItem_row {s : State} {l : Lane} (heval : s.evaluates l) {i : BndItem} {op : BitVec 4} {sc : SlotCfg} {f : Ev → SlotCfg → Ev}
    (hsc : (s.view l).area.slots.get? i.slot.toNat = some sc) (htakes : sc.kind.takes op = true)
    (hf : ∀ v sc, Ev.SameSetting v (f v sc)) {w : Ev} (hw : f ((s.view l).hearSlot sc i op) sc = w) (harea : w.area = (s.view l).area) :
    Settled l w s (s.bndItem i op f) ∧ RowKeeps s (s.bndItem i op f) ∧ w.c.k.SameBnd ((s.bndItem i op f).lane l).region.k ∧
    (l = s.lead → (s.bndItem i op f).pair.grantCnt = satAdd 65535 s.pair.grantCnt w.granted ∧
      (s.bndItem i op f).pair.refusedCnt = satAdd 65535 s.pair.refusedCnt w.refusedN) := by
  obtain ⟨hticks, -, hrun, hwf⟩ := heval
  obtain ⟨g, hg⟩ : ∃ g : Ev → Ev, g = fun v => match v.area.slots.get? i.slot.toNat with
      | none => v
      | some sc => if sc.kind.takes op then (f (v.hearSlot sc i op) sc).settle else v := ⟨_, rfl⟩
  have hrow : s.bndItem i op f = s.evaluated g := by
    unfold State.bndItem
    rw [hticks, hg]
    rfl
  have hset (v : Ev) : v.SameSetting (g v) := by
    rw [hg]
    dsimp only
    split
    · exact .refl v
    · split
      · exact (v.hearSlot_setting _ i op).trans ((hf _ _).trans (Ev.settle_setting _))
      · exact .refl v
  have hlane : g (s.view l) = w.settle := by
    rw [hg]
    dsimp only
    rw [hsc]
    dsimp only
    rw [if_pos htakes, hw]
  obtain ⟨hsettled, hkeeps⟩ := State.evaluated_lane hrun hset hlane (by rw [harea]; exact hwf)
  obtain ⟨hbnd, -, hgrant, hrefused⟩ := State.evaluated_boundary hrun hset
  have hworked := Ev.Worked.settle w
  rw [hrow]
  rw [hlane] at hbnd
  refine ⟨hsettled, hkeeps, hworked.bnd.trans hbnd, fun hl => ?_⟩
  rw [← hl, hlane, hworked.granted] at hgrant
  rw [← hl, hlane, hworked.refusedN] at hrefused
  exact ⟨hgrant, hrefused⟩

/-! ### LENT slots (R371-R374) -/

/-- The evaluation that has heard an item of a slot, before a proxy shows it. -/
def Ev.heardSlot (v : Ev) (sc : SlotCfg) (i : BndItem) (op : BitVec 4) : Ev := { v with
  inp := { v.inp with bnd := [(i.slot.toNat, i, op)] }
  c := { v.c with k := { v.c.k with
    peers := v.c.k.peers.set sc.area ⟨some v.tick, 0, false⟩
    slotIn := v.c.k.slotIn.set i.slot.toNat ⟨op, i.word, i.reqVal, i.route, v.tick⟩ } } }

theorem Ev.hearSlot_lent (v : Ev) {sc : SlotCfg} {id : Nat} (hkind : sc.kind = .lent id) (i : BndItem) (op : BitVec 4) :
    v.hearSlot sc i op = v.heardSlot sc i op := by
  unfold Ev.hearSlot
  rw [hkind]
  rfl

theorem Ev.heardSlot_peers (v : Ev) (sc : SlotCfg) (i : BndItem) (op : BitVec 4) :
    (v.heardSlot sc i op).c.k.peers[sc.area] = ⟨some v.tick, 0, false⟩ := Vector.getElem_set_self ..

theorem Ev.heardSlot_traffic (v : Ev) (sc : SlotCfg) (i : BndItem) (op : BitVec 4) : v.SameTraffic (v.heardSlot sc i op) :=
  ⟨rfl, rfl, rfl, rfl, rfl⟩

theorem Ev.lockCode_free {v : Ev} {slot id m : Nat} {q : BitVec 4} {cfg : ClassCfg} (hcfg : v.cfg? id = some cfg)
    (htop : topCommand cfg = some m) (hq : q.toNat ≤ m) (hlock : (v.elem id).lock = .none) (hblocked : (v.elem id).status ≠ .blocked)
    (hfailed : (v.elem id).status ≠ .failed) (hflank : ∀ h, h ∈ v.flankHolders id → h.2 = q) (hpre : v.precondition id q = 0) :
    v.lockCode slot id q = 0 := by
  have hflank' : ((v.flankHolders id).any fun h => h.2 != q) = false := by
    rw [List.any_eq_false]
    intro h hh
    simp [hflank h hh]
  unfold Ev.lockCode
  simp only [hcfg, Option.bind_some, htop, Option.any_some, hq, decide_true, hlock, beq_false_of_ne hblocked, beq_false_of_ne hfailed,
    hflank', hpre, Elem.mainLocked]
  rfl

theorem Ev.lockCode_high {v : Ev} {slot id m : Nat} {q : BitVec 4} {cfg : ClassCfg} (hcfg : v.cfg? id = some cfg)
    (htop : topCommand cfg = some m) (hq : m < q.toNat) : v.lockCode slot id q = 0x48 := by
  unfold Ev.lockCode
  simp only [hcfg, Option.bind_some, htop, Option.any_some, Nat.not_le.mpr hq, decide_false]
  rfl

theorem Ev.lockCode_blocked {v : Ev} {slot id m : Nat} {q : BitVec 4} {cfg : ClassCfg} (hcfg : v.cfg? id = some cfg)
    (htop : topCommand cfg = some m) (hq : q.toNat ≤ m) (hlock : (v.elem id).lock = .none) (hblocked : (v.elem id).status = .blocked) :
    v.lockCode slot id q = 0x55 := by
  unfold Ev.lockCode
  simp only [hcfg, Option.bind_some, htop, Option.any_some, hq, decide_true, hlock, hblocked]
  rfl

theorem Ev.command_kept (v : Ev) (id : Nat) (val : BitVec 4) :
    v.SameTraffic (v.command id val) ∧ ∀ j, j ≠ id → (v.command id val).elem j = v.elem j := by
  have hput (f : Elem → Elem) : v.SameTraffic (v.modElem id f) ∧ ∀ j, j ≠ id → (v.modElem id f).elem j = v.elem j :=
    ⟨.modElem v id f, fun j hj => Ev.elem_modElem_ne v f hj⟩
  unfold Ev.command
  dsimp only
  split
  · exact hput _
  · exact hput _
  · exact hput _
  · obtain ⟨htraffic, hother⟩ := hput _
    exact ⟨htraffic.trans (.modAux _ _ _), hother⟩
  · exact ⟨.refl v, fun _ _ => rfl⟩

/-- The element that a LOCK item is for, once it shows the state that the item requires. -/
theorem Ev.commandNew_effect (v : Ev) (id : Nat) (q : BitVec 4) :
    let w := if (v.elem id).cmd == q then v else v.command id q
    v.SameTraffic w ∧ v.Worked w ∧ (∀ j, j ≠ id → w.elem j = v.elem j) ∧ (v.driveTime id ≠ none → (w.elem id).cmd = q) := by
  extract_lets w
  by_cases hcmd : (v.elem id).cmd = q
  · have hw : w = v := if_pos (by simpa using hcmd)
    rw [hw]
    exact ⟨.refl _, .refl _, fun _ _ => rfl, fun _ => hcmd⟩
  · have hw : w = v.command id q := if_neg (by simpa using hcmd)
    obtain ⟨htraffic, hother⟩ := v.command_kept id q
    rw [hw]
    refine ⟨htraffic, .command v id q, hother, fun hdrive => ?_⟩
    obtain ⟨n, hn⟩ := Option.ne_none_iff_exists'.mp hdrive
    obtain ⟨-, hself, -⟩ := Ev.command_effect q hn
    rw [hself]
    rfl

theorem Ev.driveTime_of_top {v : Ev} {id m : Nat} {cfg : ClassCfg} (hcfg : v.cfg? id = some cfg) (htop : topCommand cfg = some m)
    (hsection : cfg.code ≠ 1) (hsignal : cfg.code ≠ 3) : v.driveTime id ≠ none := by
  unfold Ev.driveTime
  rw [hcfg]
  cases cfg
  case trackSection => exact absurd rfl hsection
  case signal => exact absurd rfl hsignal
  case zone => exact absurd htop (by simp [topCommand])
  case boundary => exact absurd htop (by simp [topCommand])
  case block => exact absurd htop (by simp [topCommand])
  case detLevel => exact absurd htop (by simp [topCommand])
  case detCount => exact absurd htop (by simp [topCommand])
  all_goals exact fun h => absurd h (by simp)

theorem Ev.lentLock_grants {v : Ev} {slot id : Nat} {q : BitVec 4} (hcode : v.lockCode slot id q = 0) (hlock : (v.elem id).lock = .none) :
    let w := v.lentLock slot id q
    v.SameTraffic w ∧ (w.elem id).lock = .boundary ∧ (w.elem id).owner = BitVec.ofNat 14 slot ∧
    (v.driveTime id ≠ none → (w.elem id).cmd = q) ∧ (∀ j, j ≠ id → w.elem j = v.elem j) ∧
    w.c.k.granted.get? slot = some q ∧ w.c.k.peers = v.c.k.peers ∧ w.granted = v.granted + 1 := by
  extract_lets w
  obtain ⟨u, hu⟩ : ∃ u, u = if (v.elem id).cmd == q then v else v.command id q := ⟨_, rfl⟩
  obtain ⟨htraffic, hworked, hother, hcmd⟩ := v.commandNew_effect id q
  rw [← hu] at htraffic hworked hother hcmd
  obtain ⟨hpeers, -, -⟩ := hworked.bnd
  have hw : w = { (u.setGranted slot (some q)).modElem id (fun e => { e with lock := .boundary, owner := BitVec.ofNat 14 slot }) with
      granted := u.granted + 1 } := by
    dsimp only [w]
    unfold Ev.lentLock
    simp only [hcode, hlock]
    rw [hu]
    rfl
  have hself : w.elem id = { u.elem id with lock := .boundary, owner := BitVec.ofNat 14 slot } := by
    rw [hw]
    exact Ev.elem_modElem_self (u.setGranted slot (some q)) id (fun e => { e with lock := .boundary, owner := BitVec.ofNat 14 slot })
  have hne (j : Nat) (hj : j ≠ id) : w.elem j = u.elem j := by
    rw [hw]
    exact Ev.elem_modElem_ne (u.setGranted slot (some q)) (fun e => { e with lock := .boundary, owner := BitVec.ofNat 14 slot }) hj
  refine ⟨?_, by rw [hself], by rw [hself], fun h => by rw [hself]; exact hcmd h, fun j hj => (hne j hj).trans (hother j hj), ?_, ?_, ?_⟩
  · rw [hw]
    exact htraffic.trans ⟨rfl, rfl, rfl, rfl, rfl⟩
  · rw [hw]
    exact AMap.get?_set_self _ _ _
  · rw [hw]
    exact hpeers
  · rw [hw]
    exact congrArg (· + 1) hworked.granted

/-- A row for an element that is no signal, by the lane's work `w`. -/
theorem Settled.elemsOnly {l : Lane} {w : Ev} {s t : State} (h : Settled l w s t) (htraffic : (s.view l).SameTraffic w) {ids : List Nat}
    (hother : ∀ j, j ∉ ids → w.elem j = s.elemOf l j) : ElemsOnly ids l s t := by
  have hcfg (j : Nat) : w.cfg? j = (s.view l).cfg? j := congrArg (AMap.get? · j) (congrArg AreaCfg.elems htraffic.area)
  refine ⟨h.lane, h.routes.trans htraffic.routes, fun k => ?_, fun j hj hsig => ?_⟩
  · rw [h.reports k, htraffic.auths]
    rfl
  · rw [← hother j hj]
    exact h.elem j (by simpa only [hcfg] using hsig)

theorem Settled.plainElem {l : Lane} {w : Ev} {s t : State} (h : Settled l w s t) (htraffic : (s.view l).SameTraffic w) {id : Nat}
    {cfg : ClassCfg} (hcfg : (s.view l).cfg? id = some cfg) (hplain : cfg.code ≠ 3) : (w.elem id).butFlank (t.elemOf l id) := by
  refine h.elem id fun a n hsig => hplain ?_
  have hw : w.cfg? id = (s.view l).cfg? id := congrArg (AMap.get? · id) (congrArg AreaCfg.elems htraffic.area)
  rw [hw, hcfg] at hsig
  rw [Option.some.inj hsig]
  rfl

/-- The work of a LOCK item (R371-R373). -/
def Ev.lockWork (i : BndItem) (v : Ev) (sc : SlotCfg) : Ev :=
  match sc.kind with
  | .lent e => v.lentLock i.slot.toNat e i.reqVal
  | .proxy _ => v

theorem Ev.lockWork_setting (i : BndItem) (v : Ev) (sc : SlotCfg) : v.SameSetting (v.lockWork i sc) := by
  unfold Ev.lockWork
  split
  · exact v.lentLock_setting _ _ _
  · exact .refl v

theorem Ev.lockWork_lent (i : BndItem) (v : Ev) {sc : SlotCfg} {id : Nat} (hkind : sc.kind = .lent id) :
    v.lockWork i sc = v.lentLock i.slot.toNat id i.reqVal := by
  unfold Ev.lockWork
  rw [hkind]

theorem SlotKind.lent_takes {k : SlotKind} {id : Nat} (hkind : k = .lent id) {op : BitVec 4} (hop : op.toNat ≤ 3) :
    k.takes op = true := by
  rw [hkind]
  exact decide_eq_true hop

theorem exec_lockItem (i : BndItem) (s : State) : exec (.boundaryLockItem i) s = .next (s.bndItem i 0x1 (Ev.lockWork i)) := rfl

/-- A LOCK item that is granted (R371, R373). -/
theorem State.lockItem_grants {s : State} {l : Lane} (heval : s.evaluates l) {i : BndItem} {sc : SlotCfg} {id m : Nat} {cfg : ClassCfg}
    (hsc : (s.view l).area.slots.get? i.slot.toNat = some sc) (hkind : sc.kind = .lent id) (hcfg : (s.view l).cfg? id = some cfg)
    (hplain : cfg.code ≠ 3) (htop : topCommand cfg = some m) (hq : i.reqVal.toNat ≤ m) (hlock : (s.elemOf l id).lock = .none)
    (hblocked : (s.elemOf l id).status ≠ .blocked) (hfailed : (s.elemOf l id).status ≠ .failed)
    (hflank : ∀ h, h ∈ (s.view l).flankHolders id → h.2 = i.reqVal) (hpre : (s.view l).precondition id i.reqVal = 0) :
    ∃ t, exec (.boundaryLockItem i) s = .next t ∧ (t.elemOf l id).lock = .boundary ∧
      (t.elemOf l id).owner = BitVec.ofNat 14 i.slot.toNat ∧ (cfg.code ≠ 1 → (t.elemOf l id).cmd = i.reqVal) ∧
      (t.lane l).region.k.granted.get? i.slot.toNat = some i.reqVal ∧
      (t.lane l).region.k.peers[sc.area] = ⟨some s.ms.tick, 0, false⟩ ∧
      (l = s.lead → t.pair.grantCnt = min 65535 (s.pair.grantCnt + 1)) ∧ ElemsOnly [id] l s t ∧ RowKeeps s t := by
  obtain ⟨v, hv⟩ : ∃ v, v = (s.view l).heardSlot sc i 0x1 := ⟨_, rfl⟩
  have htraffic : (s.view l).SameTraffic v := by rw [hv]; exact Ev.heardSlot_traffic ..
  have hcfg' : v.cfg? id = some cfg := by rw [hv]; exact hcfg
  have hcode : v.lockCode i.slot.toNat id i.reqVal = 0 := by
    rw [hv]
    exact Ev.lockCode_free hcfg htop hq hlock hblocked hfailed hflank hpre
  obtain ⟨hlocked, hbnd, howner, hcmd, hother, hgranted, hpeers, hcount⟩ := Ev.lentLock_grants hcode (by rw [hv]; exact hlock)
  obtain ⟨hset, hkeeps, ⟨epeers, egranted, -⟩, hcnt⟩ := State.bndItem_row (op := 0x1) heval hsc (SlotKind.lent_takes hkind (by decide))
    (Ev.lockWork_setting i) (w := v.lentLock i.slot.toNat id i.reqVal)
    (by rw [Ev.hearSlot_lent _ hkind, Ev.lockWork_lent i _ hkind, hv]) (hlocked.area.trans htraffic.area)
  have hall := htraffic.trans hlocked
  have hme := hset.plainElem hall hcfg hplain
  obtain ⟨-, hlock', -, -, hcmd'⟩ := Elem.butFlank_fields hme
  refine ⟨_, exec_lockItem i s, hlock'.trans hbnd, ?_, fun hsection => hcmd'.trans (hcmd (Ev.driveTime_of_top hcfg' htop hsection hplain)),
    by rw [egranted]; exact hgranted, ?_, fun hl => ?_, hset.elemsOnly hall fun j hj => ?_, hkeeps⟩
  · rw [← howner]
    unfold Elem.butFlank at hme
    rw [hme]
  · rw [epeers, hpeers, hv]
    exact Ev.heardSlot_peers (s.view l) sc i 0x1
  · obtain ⟨hgrant, -⟩ := hcnt hl
    rw [hgrant, hcount, hv]
    rfl
  · rw [hother j (by simpa using hj), hv]
    rfl

/-- A LOCK item that is refused (R372, R373). -/
theorem State.lockItem_refused {s : State} {l : Lane} (heval : s.evaluates l) {i : BndItem} {sc : SlotCfg} {id : Nat} {code : Byte}
    (hsc : (s.view l).area.slots.get? i.slot.toNat = some sc) (hkind : sc.kind = .lent id)
    (hcode : ((s.view l).heardSlot sc i 0x1).lockCode i.slot.toNat id i.reqVal = code) (hrefused : code ≠ 0) :
    ∃ t, exec (.boundaryLockItem i) s = .next t ∧
      (t.lane l).region.k.refused.get? i.slot.toNat = some (code, if (s.view l).gone then s.ms.tick + 1 else s.ms.tick) ∧
      (t.lane l).region.k.peers[sc.area] = ⟨some s.ms.tick, 0, false⟩ ∧
      (l = s.lead → t.pair.refusedCnt = min 65535 (s.pair.refusedCnt + 1)) ∧ ElemsOnly [] l s t ∧ RowKeeps s t := by
  obtain ⟨v, hv⟩ : ∃ v, v = (s.view l).heardSlot sc i 0x1 := ⟨_, rfl⟩
  rw [← hv] at hcode
  have hwork : v.lentLock i.slot.toNat id i.reqVal = { v with
      c := { v.c with k := { v.c.k with refused := v.c.k.refused.set i.slot.toNat (code, if v.gone then v.tick + 1 else v.tick) } }
      refusedN := v.refusedN + 1 } := by
    unfold Ev.lentLock
    simp only [hcode]
    exact if_pos (by simpa using hrefused)
  obtain ⟨hset, hkeeps, ⟨epeers, -, erefused⟩, hcnt⟩ := State.bndItem_row (op := 0x1) heval hsc (SlotKind.lent_takes hkind (by decide))
    (Ev.lockWork_setting i) (w := v.lentLock i.slot.toNat id i.reqVal)
    (by rw [Ev.hearSlot_lent _ hkind, Ev.lockWork_lent i _ hkind, hv]) (by rw [hwork, hv]; rfl)
  have hall : (s.view l).SameTraffic (v.lentLock i.slot.toNat id i.reqVal) := by
    rw [hwork, hv]
    exact ⟨rfl, rfl, rfl, rfl, rfl⟩
  refine ⟨_, exec_lockItem i s, ?_, ?_, fun hl => ?_, hset.elemsOnly hall fun j _ => ?_, hkeeps⟩
  · rw [erefused, hwork, hv]
    exact AMap.get?_set_self _ _ _
  · rw [epeers, hwork, hv]
    exact Ev.heardSlot_peers (s.view l) sc i 0x1
  · obtain ⟨-, hcount⟩ := hcnt hl
    rw [hcount, hwork, hv]
    rfl
  · rw [hwork, hv]
    rfl

/-- The work of a RELEASE, IDLE or FREE item (R374). -/
def Ev.releaseWork (i : BndItem) (op : BitVec 4) (v : Ev) (sc : SlotCfg) : Ev :=
  match sc.kind with
  | .lent e => v.lentFree i.slot.toNat e op i.reqVal
  | .proxy e => v.proxyItem i.slot.toNat e i op

theorem Ev.releaseWork_setting (i : BndItem) (op : BitVec 4) (v : Ev) (sc : SlotCfg) : v.SameSetting (v.releaseWork i op sc) := by
  unfold Ev.releaseWork
  split
  · exact v.lentFree_setting _ _ _ _
  · exact v.proxyItem_setting _ _ _ _

theorem exec_releaseItem (i : BndItem) {op : BitVec 4} (hop : op = 0x3 ∨ op = 0x0 ∨ op = 0x8) (s : State) :
    exec (.boundaryReleaseItem i op) s = .next (s.bndItem i op (Ev.releaseWork i op)) := by
  rcases hop with rfl | rfl | rfl <;> rfl

/-- RELEASE and IDLE free the slot's element (R374). -/
theorem State.releaseItem_frees {s : State} {l : Lane} (heval : s.evaluates l) {i : BndItem} {sc : SlotCfg} {id : Nat} {cfg : ClassCfg}
    (hsc : (s.view l).area.slots.get? i.slot.toNat = some sc) (hkind : sc.kind = .lent id) (hcfg : (s.view l).cfg? id = some cfg)
    (hplain : cfg.code ≠ 3) {op : BitVec 4} (hop : op = 0x3 ∨ op = 0x0) (hlock : (s.elemOf l id).lock = .boundary)
    (howner : (s.elemOf l id).owner.toNat = i.slot.toNat) :
    ∃ t, exec (.boundaryReleaseItem i op) s = .next t ∧
      Elem.butFlank { s.elemOf l id with lock := .none, owner := 0 } (t.elemOf l id) ∧
      (t.lane l).region.k.granted.get? i.slot.toNat = none ∧
      (t.lane l).region.k.peers[sc.area] = ⟨some s.ms.tick, 0, false⟩ ∧ ElemsOnly [id] l s t ∧ RowKeeps s t := by
  obtain ⟨v, hv⟩ : ∃ v, v = (s.view l).heardSlot sc i op := ⟨_, rfl⟩
  have helem (j : Nat) : v.elem j = s.elemOf l j := by rw [hv]; rfl
  have hwork : v.lentFree i.slot.toNat id op i.reqVal = v.freeSlot i.slot.toNat id := by
    unfold Ev.lentFree
    simp only [helem, hlock, howner, beq_self_eq_true, Bool.and_self, if_true]
    exact if_pos (by simpa using hop)
  obtain ⟨hset, hkeeps, ⟨epeers, egranted, -⟩, -⟩ := State.bndItem_row (op := op) heval hsc
    (SlotKind.lent_takes hkind (by rcases hop with rfl | rfl <;> decide)) (Ev.releaseWork_setting i op) (w := v.freeSlot i.slot.toNat id)
    (by
      rw [Ev.hearSlot_lent _ hkind, ← hwork, hv]
      unfold Ev.releaseWork
      rw [hkind])
    (by rw [hv]; rfl)
  have hall : (s.view l).SameTraffic (v.freeSlot i.slot.toNat id) :=
    Ev.SameTraffic.trans (v := v) (by rw [hv]; exact Ev.heardSlot_traffic ..) ⟨rfl, rfl, rfl, rfl, rfl⟩
  have hself : (v.freeSlot i.slot.toNat id).elem id = { v.elem id with lock := .none, owner := 0 } :=
    Ev.elem_modElem_self v id fun e => { e with lock := .none, owner := 0 }
  have hne (j : Nat) (hj : j ≠ id) : (v.freeSlot i.slot.toNat id).elem j = v.elem j :=
    Ev.elem_modElem_ne v (fun e => { e with lock := .none, owner := 0 }) hj
  have hme := hset.plainElem hall hcfg hplain
  rw [hself, helem] at hme
  refine ⟨_, exec_releaseItem i (by rcases hop with h | h <;> simp [h]) s, hme, ?_, ?_, hset.elemsOnly hall fun j hj => ?_, hkeeps⟩
  · rw [egranted]
    exact AMap.get?_del_self _ _
  · rw [epeers, hv]
    exact Ev.heardSlot_peers (s.view l) sc i op
  · rw [hne j (by simpa using hj), helem]

/-! ### PROXY slots (R371, R374) -/

theorem Ev.lasting_kept (v : Ev) (id : Nat) (code : Byte) (now : Bool) :
    v.SameTraffic (v.lasting id code now) ∧ (v.lasting id code now).c.elems = v.c.elems := by
  unfold Ev.lasting
  extract_lets a was v1
  have h : v.SameTraffic v1 ∧ v1.c.elems = v.c.elems := by
    dsimp only [v1]
    split
    · exact ⟨⟨rfl, rfl, rfl, rfl, rfl⟩, rfl⟩
    · exact ⟨.refl v, rfl⟩
  obtain ⟨htraffic, helems⟩ := h
  split
  · exact ⟨htraffic, helems⟩
  · exact ⟨htraffic.trans ⟨rfl, rfl, rfl, rfl, rfl⟩, helems⟩

/-- A proxy as an item of its slot shows it. -/
def Elem.shown (e : Elem) (i : BndItem) : Elem :=
  { e with status := .ofCode (i.word.extractLsb' 56 4), det := i.word.extractLsb' 52 4, cmd := i.word.extractLsb' 48 4 }

theorem Ev.hearSlot_proxy {v : Ev} {sc : SlotCfg} {id : Nat} {i : BndItem} {cls : BitVec 4} (hkind : sc.kind = .proxy id)
    (hcfg : v.cfg? id = some (.boundary cls i.slot)) (op : BitVec 4) :
    v.SameTraffic (v.hearSlot sc i op) ∧ (v.heardSlot sc i op).Worked (v.hearSlot sc i op) ∧
    (v.hearSlot sc i op).elem id = (v.elem id).shown i ∧ (∀ j, j ≠ id → (v.hearSlot sc i op).elem j = v.elem j) := by
  have heq : v.hearSlot sc i op = ((v.heardSlot sc i op).lasting id 0x91 false).modElem id (Elem.shown · i) := by
    have hbnd : (v.heardSlot sc i op).bndItem i.slot.toNat = some (i, op) := by
      unfold Ev.bndItem Ev.heardSlot
      simp
    have hproxy : (v.heardSlot sc i op).proxy id cls i.slot =
        ((v.heardSlot sc i op).lasting id 0x91 false).modElem id (Elem.shown · i) := by
      unfold Ev.proxy
      rw [hbnd]
      rfl
    rw [← hproxy]
    unfold Ev.hearSlot
    rw [hkind]
    show (match (v.heardSlot sc i op).cfg? id with
      | some (.boundary cls slot) => (v.heardSlot sc i op).proxy id cls slot
      | _ => v.heardSlot sc i op) = _
    rw [show (v.heardSlot sc i op).cfg? id = some (.boundary cls i.slot) from hcfg]
  obtain ⟨htraffic, helems⟩ := (v.heardSlot sc i op).lasting_kept id 0x91 false
  have helem (j : Nat) : ((v.heardSlot sc i op).lasting id 0x91 false).elem j = v.elem j := congrArg (AMap.getD · j Elem.zero) helems
  rw [heq]
  refine ⟨(v.heardSlot_traffic sc i op).trans (htraffic.trans (.modElem _ _ _)), (Ev.Worked.lasting _ _ _ _).trans (.modElem _ _ _), ?_,
    fun j hj => ?_⟩
  · rw [Ev.elem_modElem_self, helem]
  · rw [Ev.elem_modElem_ne _ _ hj, helem]

theorem SlotKind.proxy_takes {k : SlotKind} {id : Nat} (hkind : k = .proxy id) {op : BitVec 4} (hlow : 8 ≤ op.toNat) (hhigh : op.toNat ≤ 10) :
    k.takes op = true := by
  rw [hkind]
  exact Bool.and_eq_true_iff.mpr ⟨decide_eq_true hlow, decide_eq_true hhigh⟩

/-- FREE ends the boundary lock of a RELEASING proxy (R374). -/
theorem State.freeItem_ends {s : State} {l : Lane} (heval : s.evaluates l) {i : BndItem} {sc : SlotCfg} {id : Nat} {cls : BitVec 4}
    (hsc : (s.view l).area.slots.get? i.slot.toNat = some sc) (hkind : sc.kind = .proxy id)
    (hcfg : (s.view l).cfg? id = some (.boundary cls i.slot)) (hlock : (s.elemOf l id).lock = .boundary) :
    ∃ t, exec (.boundaryReleaseItem i 0x8) s = .next t ∧
      Elem.butFlank { (s.elemOf l id).shown i with lock := .none, owner := 0 } (t.elemOf l id) ∧
      (t.lane l).region.k.peers[sc.area] = ⟨some s.ms.tick, 0, false⟩ ∧ ElemsOnly [id] l s t ∧ RowKeeps s t := by
  obtain ⟨v, hv⟩ : ∃ v, v = (s.view l).hearSlot sc i 0x8 := ⟨_, rfl⟩
  obtain ⟨htraffic, hworked, hself, hother⟩ := Ev.hearSlot_proxy hkind hcfg 0x8
  rw [← hv] at htraffic hworked hself hother
  obtain ⟨hpeers, -, -⟩ := hworked.bnd
  have hwork : v.proxyItem i.slot.toNat id i 0x8 = v.setElem id { v.elem id with lock := .none, owner := 0 } := by
    have hlock' : (v.elem id).lock = .boundary := by rw [hself]; exact hlock
    unfold Ev.proxyItem
    simp only [hlock']
    rfl
  obtain ⟨hset, hkeeps, ⟨epeers, -, -⟩, -⟩ := State.bndItem_row (op := 0x8) heval hsc (SlotKind.proxy_takes hkind (by decide) (by decide))
    (Ev.releaseWork_setting i 0x8) (w := v.setElem id { v.elem id with lock := .none, owner := 0 })
    (by
      rw [← hwork, hv]
      unfold Ev.releaseWork
      rw [hkind])
    htraffic.area
  have hall := htraffic.trans (.setElem v id { v.elem id with lock := .none, owner := 0 })
  have hme := hset.plainElem hall hcfg (by simp [ClassCfg.code])
  rw [Ev.elem_setElem_self, hself] at hme
  refine ⟨_, exec_releaseItem i (by simp) s, hme, ?_, hset.elemsOnly hall fun j hj => ?_, hkeeps⟩
  · rw [epeers]
    exact (congrArg (·[sc.area]) hpeers).trans (Ev.heardSlot_peers (s.view l) sc i 0x8)
  · have hj' : j ≠ id := by simpa using hj
    exact (Ev.elem_setElem_ne v _ hj').trans (hother j hj')

/-! ### A checking route that an item of its proxy decides (R371, R377) -/

theorem Ev.goRejected_effect (v : Ev) (r : Nat) (rc : RouteCfg) (code : Byte) :
    (v.goRejected r rc code).area = v.area ∧ v.c.k.SameBnd (v.goRejected r rc code).c.k ∧
    (v.goRejected r rc code).route r = { v.route r with state := .rejected, stateTick := v.tick, reason := code, timer := 0 } ∧
    (∀ k, k ≠ r → (v.goRejected r rc code).route k = v.route k) := by
  obtain ⟨u, hu⟩ : ∃ u, u = if (v.route r).state.holds then v.unlockAll r rc else v := ⟨_, rfl⟩
  have hworked : v.Worked u := by
    rw [hu]
    split
    · exact .unlockAll v r rc
    · exact .refl v
  have hroute (k : Nat) : u.route k = v.route k := congrArg (AMap.getD · k RouteRec.idle) hworked.routes
  have hgo : (v.goRejected r rc code).c = (u.go r .rejected fun x => { x with reason := code, timer := 0 }).c ∧
      (v.goRejected r rc code).area = (u.go r .rejected fun x => { x with reason := code, timer := 0 }).area := by
    unfold Ev.goRejected
    extract_lets x v1 v2
    rw [hu]
    split
    · exact ⟨rfl, rfl⟩
    · exact ⟨rfl, rfl⟩
  obtain ⟨hc, harea⟩ := hgo
  have hgone (k : Nat) : (v.goRejected r rc code).route k = (u.go r .rejected fun x => { x with reason := code, timer := 0 }).route k := by
    unfold Ev.route
    rw [hc]
  refine ⟨harea.trans hworked.area, by rw [hc]; exact hworked.bnd, ?_, fun k hk => ?_⟩
  · rw [hgone, Ev.route_go_self, hroute, hworked.tick]
  · rw [hgone, Ev.route_go_ne _ _ _ hk, hroute]

/-- A CHECKING route that no item refuses (R371). -/
theorem Ev.autoRoute_waits {v : Ev} {r : Nat} (rc : RouteCfg) (hstate : (v.route r).state = .checking) (hdenied : r ∉ v.bndRefused) :
    (v.autoRoute r rc false).area = v.area ∧ v.c.k.SameBnd (v.autoRoute r rc false).c.k ∧
    ((v.autoRoute r rc false).route r).bndGranted = (v.route r).bndGranted ∧
    (v.allGranted rc (v.route r) = true → ((v.autoRoute r rc false).route r).state = .locked) ∧
    (∀ k, k ≠ r → (v.autoRoute r rc false).route k = v.route k) := by
  unfold Ev.autoRoute
  extract_lets q
  rw [show q.state = .checking from hstate]
  simp only [List.contains_eq_mem, hdenied, decide_false, Bool.false_eq_true, if_false]
  by_cases hall : v.allGranted rc q = true
  · rw [if_pos hall]
    obtain ⟨u, hu⟩ : ∃ u, u = v.go r .locked fun x => x := ⟨_, rfl⟩
    have hworked := Ev.Worked.commandRoute u rc
    have hroute (k : Nat) : (u.commandRoute rc).route k = u.route k := congrArg (AMap.getD · k RouteRec.idle) hworked.routes
    have hself : u.route r = { v.route r with state := .locked, stateTick := v.tick } := by rw [hu]; exact Ev.route_go_self _ _ _ _
    rw [← hu]
    refine ⟨hworked.area.trans (by rw [hu]; rfl), LaneK.SameBnd.trans (by rw [hu]; exact .refl _) hworked.bnd, ?_, fun _ => ?_, fun k hk => ?_⟩
    · rw [hroute, hself]
    · rw [hroute, hself]
    · rw [hroute, hu, Ev.route_go_ne _ _ _ hk]
  · rw [if_neg hall]
    split
    · obtain ⟨harea, hbnd, hself, hother⟩ := v.goRejected_effect r rc 0x5D
      exact ⟨harea, hbnd, by rw [hself], fun h => absurd h hall, hother⟩
    · exact ⟨rfl, .refl _, rfl, fun h => absurd h hall, fun _ _ => rfl⟩

theorem Ev.autoRoute_denied {v : Ev} {r : Nat} (rc : RouteCfg) (hstate : (v.route r).state = .checking) (hdenied : r ∈ v.bndRefused) :
    v.autoRoute r rc false = v.goRejected r rc 0x5D := by
  unfold Ev.autoRoute
  extract_lets q
  rw [show q.state = .checking from hstate]
  simp only [List.contains_eq_mem, hdenied, decide_true, if_true]

/-- What the items that a checking route of lane `l` waits for have in common. -/
structure Asked (s : State) (l : Lane) (i : BndItem) (sc : SlotCfg) (id : Nat) (cls : BitVec 4) (rc : RouteCfg) : Prop where
  eval : s.evaluates l
  slot : (s.view l).area.slots.get? i.slot.toNat = some sc
  kind : sc.kind = .proxy id
  cfg : (s.view l).cfg? id = some (.boundary cls i.slot)
  lock : (s.elemOf l id).lock = .route
  owner : (s.elemOf l id).owner.toNat = i.route.toNat
  route : (s.view l).area.routes.get? i.route.toNat = some rc
  state : (s.routeOf l i.route.toNat).state = .checking
  moved : i.route.toNat ∉ s.mail.movedRoute

/-- The work of a GRANTED or REFUSED item (R371). -/
def Ev.routeWork (i : BndItem) (op : BitVec 4) (v : Ev) (sc : SlotCfg) : Ev :=
  match sc.kind with
  | .proxy e => v.proxyRoute i.slot.toNat e i op
  | .lent _ => v

theorem Ev.routeWork_setting (i : BndItem) (op : BitVec 4) (v : Ev) (sc : SlotCfg) : v.SameSetting (v.routeWork i op sc) := by
  unfold Ev.routeWork
  split
  · exact v.proxyRoute_setting _ _ _ _
  · exact .refl v

/-- The route's part of a GRANTED or REFUSED item that changes nothing but the route's grants and refusals, `u`. -/
theorem Asked.row {s : State} {l : Lane} {i : BndItem} {sc : SlotCfg} {id : Nat} {cls : BitVec 4} {rc : RouteCfg}
    (h : Asked s l i sc id cls rc) {op : BitVec 4} (hlow : 8 ≤ op.toNat) (hhigh : op.toNat ≤ 10) {u : Ev}
    (hitem : ((s.view l).hearSlot sc i op).proxyItem i.slot.toNat id i op = u)
    (harea : u.area = (s.view l).area) (hpeers : u.c.k.peers = ((s.view l).hearSlot sc i op).c.k.peers)
    (hstate : (u.route i.route.toNat).state = .checking) (hmoved : u.moved = s.mail.movedRoute)
    (hwork : (u.autoRoute i.route.toNat rc false).area = u.area ∧ u.c.k.SameBnd (u.autoRoute i.route.toNat rc false).c.k) :
    (∀ k, (s.bndItem i op (Ev.routeWork i op)).routeOf l k = (u.autoRoute i.route.toNat rc false).route k) ∧
    ((s.bndItem i op (Ev.routeWork i op)).lane l).region.k.peers[sc.area] = ⟨some s.ms.tick, 0, false⟩ ∧
    RowKeeps s (s.bndItem i op (Ev.routeWork i op)) := by
  obtain ⟨-, hworked, -, -⟩ := Ev.hearSlot_proxy h.kind h.cfg op
  obtain ⟨epeers, -, -⟩ := hworked.bnd
  obtain ⟨hauto, hbnd⟩ := hwork
  have hf : ((s.view l).hearSlot sc i op).routeWork i op sc = u.autoRoute i.route.toNat rc false := by
    unfold Ev.routeWork
    rw [h.kind]
    unfold Ev.proxyRoute
    simp only [hitem]
    rw [harea, h.route]
    simp [hstate, hmoved, h.moved]
  obtain ⟨hset, hkeeps, ⟨tpeers, -, -⟩, -⟩ := State.bndItem_row h.eval h.slot (SlotKind.proxy_takes h.kind hlow hhigh)
    (Ev.routeWork_setting i op) hf (hauto.trans harea)
  refine ⟨fun k => congrArg (AMap.getD · k RouteRec.idle) hset.routes, ?_, hkeeps⟩
  obtain ⟨bpeers, -, -⟩ := hbnd
  have hall := tpeers.trans (bpeers.trans (hpeers.trans epeers))
  exact (congrArg (·[sc.area]) hall).trans (Ev.heardSlot_peers (s.view l) sc i op)

/-- The evaluation that has heard an item of an asked proxy: the proxy is still held by the route that waits. -/
theorem Asked.heard {s : State} {l : Lane} {i : BndItem} {sc : SlotCfg} {id : Nat} {cls : BitVec 4} {rc : RouteCfg}
    (h : Asked s l i sc id cls rc) (op : BitVec 4) {v : Ev} (hv : v = (s.view l).hearSlot sc i op) :
    v.area = (s.view l).area ∧ (∀ k, v.route k = s.routeOf l k) ∧ v.moved = s.mail.movedRoute ∧ v.bndRefused = [] ∧
    (v.elem id).lock = .route ∧ (v.elem id).owner.toNat = i.route.toNat := by
  obtain ⟨htraffic, hworked, hself, -⟩ := Ev.hearSlot_proxy h.kind h.cfg op
  rw [← hv] at htraffic hworked hself
  refine ⟨htraffic.area, fun k => congrArg (AMap.getD · k RouteRec.idle) htraffic.routes, hworked.moved, hworked.denied, ?_, ?_⟩
  · rw [hself]
    exact h.lock
  · rw [hself]
    exact h.owner

/-- A GRANTED item of a checking route (R371). -/
theorem Asked.granted {s : State} {l : Lane} {i : BndItem} {sc : SlotCfg} {id : Nat} {cls : BitVec 4} {rc : RouteCfg}
    (h : Asked s l i sc id cls rc) (hidx : (s.view l).proxyIdx rc id < 8) (hreq : rc.reqOf id = some i.reqVal) :
    ∃ t, exec (.boundaryGrantedItem i) s = .next t ∧
      (t.routeOf l i.route.toNat).bndGranted.getLsbD ((s.view l).proxyIdx rc id) = true ∧
      ((∀ k, k < ((s.view l).proxies rc).length → k ≠ (s.view l).proxyIdx rc id →
          (s.routeOf l i.route.toNat).bndGranted.getLsbD k = true) → (t.routeOf l i.route.toNat).state = .locked) ∧
      (t.lane l).region.k.peers[sc.area] = ⟨some s.ms.tick, 0, false⟩ ∧
      (∀ k, k ≠ i.route.toNat → t.routeOf l k = s.routeOf l k) ∧ RowKeeps s t := by
  obtain ⟨v, hv⟩ : ∃ v, v = (s.view l).hearSlot sc i 0x9 := ⟨_, rfl⟩
  obtain ⟨harea, hroute, hmoved, hdenied, hlock, howner⟩ := h.heard 0x9 hv
  obtain ⟨n, hn⟩ : ∃ n, n = (s.view l).proxyIdx rc id := ⟨_, rfl⟩
  have hcfgs : v.proxyOf = (s.view l).proxyOf := by
    funext j
    unfold Ev.proxyOf Ev.cfg?
    rw [harea]
  have hproxies : v.proxies rc = (s.view l).proxies rc := by
    unfold Ev.proxies
    rw [hcfgs]
  have hvn : v.proxyIdx rc id = n := by
    rw [hn]
    unfold Ev.proxyIdx
    rw [hproxies]
  rw [← hn] at hidx ⊢
  obtain ⟨u, hu⟩ : ∃ u, u = v.setRoute i.route.toNat { v.route i.route.toNat with
    bndGranted := (v.route i.route.toNat).bndGranted ||| (1#8 <<< n) } := ⟨_, rfl⟩
  have hitem : v.proxyItem i.slot.toNat id i 0x9 = u := by
    unfold Ev.proxyItem
    simp only [hlock, howner, harea, h.route, hreq, hvn, hidx, beq_self_eq_true, Bool.true_or, Bool.not_true, Bool.false_eq_true,
      decide_true, Bool.and_self, if_true, if_false]
    rw [hu]
    rfl
  have hself : u.route i.route.toNat = { s.routeOf l i.route.toNat with
      bndGranted := (s.routeOf l i.route.toNat).bndGranted ||| (1#8 <<< n) } := by
    rw [hu, hroute]
    exact AMap.getD_set_self _ _ _ _
  have hother (k : Nat) (hk : k ≠ i.route.toNat) : u.route k = s.routeOf l k := by
    rw [← hroute, hu]
    exact AMap.getD_set_ne _ _ _ hk
  have hstate : (u.route i.route.toNat).state = .checking := by rw [hself]; exact h.state
  obtain ⟨warea, wbnd, wgranted, wlocked, wother⟩ := Ev.autoRoute_waits rc hstate (by rw [hu]; show _ ∉ v.bndRefused; rw [hdenied]; simp)
  obtain ⟨hroutes, hpeers, hkeeps⟩ := h.row (op := 0x9) (by decide) (by decide) (by rw [← hv]; exact hitem)
    (by rw [hu]; exact harea) (by rw [hu, hv]; rfl) hstate (by rw [hu]; exact hmoved) ⟨warea, wbnd⟩
  refine ⟨_, rfl, ?_, fun hall => ?_, hpeers, fun k hk => ?_, hkeeps⟩
  · refine (congrArg (·.bndGranted.getLsbD n) (hroutes _)).trans ?_
    rw [wgranted, hself]
    simp [hidx]
  · refine (congrArg RouteRec.state (hroutes _)).trans (wlocked ?_)
    unfold Ev.allGranted
    rw [List.all_eq_true, show u.proxies rc = (s.view l).proxies rc by rw [← hproxies, hu]; rfl]
    intro k hk
    rw [hself]
    by_cases hkn : k = n
    · rw [hkn]
      simp [hidx]
    · have hbit := hall k (List.mem_range.mp hk) hkn
      simp [hbit]
  · exact (hroutes k).trans ((wother k hk).trans (hother k hk))

/-- A REFUSED item of a checking route (R371). -/
theorem Asked.refused {s : State} {l : Lane} {i : BndItem} {sc : SlotCfg} {id : Nat} {cls : BitVec 4} {rc : RouteCfg}
    (h : Asked s l i sc id cls rc) :
    ∃ t, exec (.boundaryRefusedItem i) s = .next t ∧
      (t.routeOf l i.route.toNat).state = .rejected ∧ (t.routeOf l i.route.toNat).reason = 0x5D ∧
      (t.lane l).region.k.peers[sc.area] = ⟨some s.ms.tick, 0, false⟩ ∧
      (∀ k, k ≠ i.route.toNat → t.routeOf l k = s.routeOf l k) ∧ RowKeeps s t := by
  obtain ⟨v, hv⟩ : ∃ v, v = (s.view l).hearSlot sc i 0xA := ⟨_, rfl⟩
  obtain ⟨harea, hroute, hmoved, -, hlock, howner⟩ := h.heard 0xA hv
  obtain ⟨u, hu⟩ : ∃ u, u = { v with bndRefused := v.bndRefused ++ [i.route.toNat] } := ⟨_, rfl⟩
  have hitem : v.proxyItem i.slot.toNat id i 0xA = u := by
    have hrc : v.area.routes.get? i.route.toNat = some rc := by rw [harea]; exact h.route
    unfold Ev.proxyItem
    simp only [hlock, howner, hrc, hroute, h.state, beq_self_eq_true, Bool.true_or, Bool.not_true, Bool.false_eq_true,
      if_true, if_false, Bool.and_true]
    rw [hu]
    rfl
  have huroute (k : Nat) : u.route k = s.routeOf l k := by
    rw [← hroute, hu]
    rfl
  have hstate : (u.route i.route.toNat).state = .checking := by rw [huroute]; exact h.state
  have hdenied := Ev.autoRoute_denied rc hstate (by rw [hu]; simp)
  obtain ⟨warea, wbnd, wself, wother⟩ := u.goRejected_effect i.route.toNat rc 0x5D
  rw [← hdenied] at warea wbnd wself wother
  obtain ⟨hroutes, hpeers, hkeeps⟩ := h.row (op := 0xA) (by decide) (by decide) (by rw [← hv]; exact hitem)
    (by rw [hu]; exact harea) (by rw [hu, hv]) hstate (by rw [hu]; exact hmoved) ⟨warea, wbnd⟩
  refine ⟨_, rfl, ?_, ?_, hpeers, fun k hk => (hroutes k).trans ((wother k hk).trans (huroute k)), hkeeps⟩
  · refine (congrArg RouteRec.state (hroutes _)).trans ?_
    rw [wself]
  · refine (congrArg RouteRec.reason (hroutes _)).trans ?_
    rw [wself]

/-! ### PEER_LOST (R375) -/

/-- A neighbour's tick of silence in one lane. -/
def Ev.silent (area : Fin 16) (v : Ev) : Ev :=
  if v.c.k.peers[area].lost || decide (v.c.k.peers[area].missing < 15) || v.c.k.peers[area].lastFrame == some v.tick then v
  else
    ({ v with c := { v.c with k := { v.c.k with
      peers := v.c.k.peers.set area { v.c.k.peers[area] with missing := 16, lost := true } } } } : Ev).raise
      .alarm 0xE7 .area area.val [BitVec.ofNat 8 area.val]

theorem Ev.silent_setting (area : Fin 16) (v : Ev) : v.SameSetting (v.silent area) := by
  unfold Ev.silent
  split
  · exact .refl v
  · exact ⟨rfl, rfl, rfl, rfl, rfl, rfl, rfl, rfl⟩

theorem Ev.silent_posts (area : Fin 16) (v : Ev) : (v.silent area).posts = v.posts := by
  unfold Ev.silent
  split
  · rfl
  · rfl

theorem exec_peerLost {s : State} {area : Fin 16} (hticks : s.inTicks = true) (harea : area.val < s.area.areas.length) :
    exec (.boundaryPeerLost area) s = .next (s.evaluated (Ev.silent area)) := by
  refine (if_neg ?_).trans rfl
  simp [hticks, harea]

theorem State.peerLost_effect {s : State} {l : Lane} (heval : s.evaluates l) {area : Fin 16} (harea : area.val < s.area.areas.length) :
    ∃ t, exec (.boundaryPeerLost area) s = .next t ∧ (t.lane l).region = ((s.view l).silent area).c ∧ RowKeeps s t := by
  obtain ⟨hticks, -, hrun, -⟩ := heval
  obtain ⟨-, -, hkeeps⟩ := s.evaluated_effect (Ev.silent_setting area)
  obtain ⟨-, hregion, -⟩ := State.evaluated_boundary hrun (Ev.silent_setting area)
  exact ⟨_, exec_peerLost hticks harea, hregion (Ev.silent_posts area _), hkeeps⟩

/-- Settles O34: the items of LENT slots, of PROXY slots, and the neighbour that stays away. -/
theorem boundaryItems : Obligations.BoundaryItems := by
  unfold Obligations.BoundaryItems
  intro s l heval
  refine ⟨fun i sc id cfg hsc hkind hcfg hplain => ⟨?_, ?_, ?_⟩, fun i sc id cls hsc hkind hcfg => ⟨?_, ?_⟩, fun area harea => ⟨?_, ?_⟩⟩
  · intro m htop hq hlock hblocked hfailed hflank hpre
    exact State.lockItem_grants heval hsc hkind hcfg hplain htop hq hlock hblocked hfailed hflank hpre
  · rintro code hlock (⟨rfl, m, htop, hq⟩ | ⟨rfl, ⟨m, htop, hq⟩, hblocked⟩)
    · exact State.lockItem_refused heval hsc hkind (Ev.lockCode_high hcfg htop hq) (by decide)
    · exact State.lockItem_refused heval hsc hkind (Ev.lockCode_blocked hcfg htop hq hlock hblocked) (by decide)
  · intro op hop hlock howner
    exact State.releaseItem_frees heval hsc hkind hcfg hplain hop hlock howner
  · exact fun hlock => State.freeItem_ends heval hsc hkind hcfg hlock
  · intro rc hlock howner hroute hstate hmoved
    have hasked : Asked s l i sc id cls rc := ⟨heval, hsc, hkind, hcfg, hlock, howner, hroute, hstate, hmoved⟩
    exact ⟨hasked.granted, hasked.refused⟩
  · intro hmissing hlost hframe
    obtain ⟨t, ht, hregion, hkeeps⟩ := State.peerLost_effect heval harea
    have hsilent : (s.view l).silent area = ({ s.view l with c := { (s.view l).c with k := { (s.view l).c.k with
        peers := (s.view l).c.k.peers.set area { (s.view l).c.k.peers[area] with missing := 16, lost := true } } } } : Ev).raise
        .alarm 0xE7 .area area.val [BitVec.ofNat 8 area.val] := by
      refine if_neg ?_
      show ¬ (((s.lane l).region.k.peers[area]).lost || decide (((s.lane l).region.k.peers[area]).missing < 15) ||
        ((s.lane l).region.k.peers[area]).lastFrame == some s.ms.tick) = true
      rw [hlost, decide_eq_false (Nat.not_lt.mpr hmissing), beq_false_of_ne hframe]
      decide
    rw [hsilent] at hregion
    refine ⟨t, ht, ?_, fun a ha => ?_, ?_, ?_, hkeeps⟩
    · rw [hregion]
      exact Vector.getElem_set_self ..
    · rw [hregion]
      exact Vector.getElem_set_ne area.isLt a.isLt fun hval => ha (Fin.ext hval.symm)
    · rw [hregion]
      rfl
    · rw [hregion]
      rfl
  · intro hmissing
    obtain ⟨t, ht, hregion, hkeeps⟩ := State.peerLost_effect heval harea
    have hsilent : (s.view l).silent area = s.view l := by
      refine if_pos ?_
      show (((s.lane l).region.k.peers[area]).lost || decide (((s.lane l).region.k.peers[area]).missing < 15) || _) = true
      rw [decide_eq_true hmissing, Bool.or_true, Bool.true_or]
    rw [hsilent] at hregion
    exact ⟨t, ht, hregion, hkeeps⟩

end Sys2Proof.Machine
end

section
/-! SUPPORT. The delay exchange (O39). -/
namespace Sys2Proof.Machine

/-! ### A delay frame that holds at its port (R310, R325, R335) -/

theorem State.timing_delay {s : State} {f : RxTiming} {type : Byte} {body : List Byte} (h : DelayFrame s f type body)
    (hone : type ≠ 1) (htwo : type ≠ 2) : s.timing f type = (s, some body) := by
  obtain ⟨hoff, hsilence, hrole, hlock, hfcs, htype, hlength, harea⟩ := h
  have hlock' : (s.port f.port).blockLock = true := hlock
  unfold State.timing
  simp only [beq_false_of_ne hoff, beq_false_of_ne hsilence, beq_false_of_ne hrole, hlock', hfcs, htype, hlength, harea, bne_self_eq_false,
    bne_iff_ne.mpr hone, bne_iff_ne.mpr htwo, Bool.and_self, Bool.true_or, Bool.or_self, Bool.not_true, Bool.false_eq_true, if_false,
    Bool.and_false, Bool.false_and]

/-! ### What a port learns (R331) -/

theorem State.judgeIdentity_strapId (s : State) (p : Port) : (s.judgeIdentity p).pair.strapId = s.pair.strapId := by
  unfold State.judgeIdentity
  dsimp only
  split
  · rfl
  · split
    · split
      · rfl
      · simp
    · split
      · rfl
      · rfl

/-- What a frame of the delay exchange leaves of the node before it answers: only the port, and what judges the node's identity. -/
structure Judged (s t : State) : Prop where
  same : SameBut [.net, .pair, .log, .mail, .host] s t
  strap : t.pair.strapId = s.pair.strapId
  net : t.net = { s.net with ports := t.net.ports }

theorem Judged.trans {s t u : State} (h : Judged s t) (g : Judged t u) : Judged s u :=
  ⟨h.same.trans g.same, g.strap.trans h.strap, by rw [g.net, h.net]⟩

theorem State.modPort_met (s : State) (p : Port) (f : PortSt → PortSt) : Judged s (s.modPort p f) :=
  ⟨sameBut_of _ _ _ fun q => by cases q <;> simp [Part.agree], rfl, rfl⟩

theorem State.judgeIdentity_met (s : State) (p : Port) : Judged s (s.judgeIdentity p) :=
  ⟨sameBut_of _ _ _ fun q => by cases q <;> simp [Part.agree], s.judgeIdentity_strapId p, by simp⟩

theorem State.neighbour_met (s : State) (p : Port) (n : BitVec 12) : Judged s (s.neighbour p n) :=
  (s.modPort_met p _).trans (State.judgeIdentity_met _ p)

theorem State.neighbour_port (s : State) (p : Port) (n : BitVec 12) :
    (s.neighbour p n).net.ports[p] = { s.net.ports[p] with nbr := n, nbrValid := true, nbrOk := n == (s.portCfg p).nbr } := by
  unfold State.neighbour
  rw [show ∀ t : State, (t.judgeIdentity p).net = t.net by simp]
  exact vmod_self s.net.ports p _

theorem State.putResult_met (s : State) (p : Port) (d : Int) : Judged s (s.putResult p d) :=
  (s.modPort_met p _).trans (State.judgeIdentity_met _ p)

theorem State.putResult_port (s : State) (p : Port) (d : Int) : (s.putResult p d).net.ports[p] =
    { s.net.ports[p] with results := (s.net.ports[p].results ++ [d]).drop (s.net.ports[p].results.length - 2) } := by
  unfold State.putResult
  rw [show ∀ t : State, (t.judgeIdentity p).net = t.net by simp]
  exact vmod_self s.net.ports p _

/-- The newest result is the last one kept. -/
theorem getLast?_drop_append (xs : List Int) (d : Int) : ((xs ++ [d]).drop (xs.length - 2)).getLast? = some d := by
  rw [List.getLast?_drop, if_neg (by simp), List.getLast?_concat]

section
variable {s t : State} (h : Judged s t)
include h

theorem Judged.node : t.node = s.node := h.strap

theorem Judged.portCfg (q : Port) : t.portCfg q = s.portCfg q := by
  unfold State.portCfg State.topo? State.area
  rw [h.node, h.same .upd (by simp)]

theorem Judged.state : t.net.state = s.net.state := by rw [h.net]

theorem Judged.timingFrame (q : Port) (type : Byte) (bs : List Byte) : t.timingFrame q type bs = s.timingFrame q type bs := by
  unfold State.timingFrame State.dirOf State.areaId
  rw [h.portCfg, h.node, h.same .gal (by simp), h.same .upd (by simp)]

theorem Judged.findEntry (q : Port) (k : EntryKind) : t.findEntry q k = s.findEntry q k := by
  have hgal : t.gal = s.gal := h.same .gal (by simp)
  unfold State.findEntry State.portEntries
  simp only [hgal]

theorem Judged.planDev (ofs : Int) (n : Nat) : t.planDev ofs n = s.planDev ofs n := by
  unfold State.planDev
  rw [h.same .ms (by simp), h.same .tim (by simp)]

theorem Judged.windowEnd (e : DWord) : t.windowEnd e = s.windowEnd e := by
  have hgal : t.gal = s.gal := h.same .gal (by simp)
  unfold State.windowEnd State.guardNs
  simp only [hgal]

theorem Judged.inWindow (e : DWord) (dev : Int) : t.inWindow e dev = s.inWindow e dev := by
  have hgal : t.gal = s.gal := h.same .gal (by simp)
  unfold State.inWindow
  rw [h.windowEnd]
  unfold State.guardNs
  simp only [hgal]

end

/-! ### The answer (R321, R325) -/

@[simp] theorem length_leBytes (n v : Nat) : (leBytes n v).length = n := by
  induction n generalizing v with
  | zero => rfl
  | succ n ih => rw [leBytes, List.length_cons, ih]

@[simp] theorem length_padTo (n : Nat) (bs : List Byte) : (padTo n bs).length = n := by
  simp [padTo, bytesAt]

theorem State.length_timingFrame (s : State) (p : Port) (type : Byte) (bs : List Byte) : (s.timingFrame p type bs).length = 64 := by
  unfold State.timingFrame withFcs
  simp

/-- An answer at once, where a node does not know its edges. -/
theorem State.sendDelay_free {s : State} (p : Port) (atNs : Nat) (bs : List Byte) (h : s.net.state ≠ .sync ∧ s.net.state ≠ .silent) :
    s.sendDelay p atNs bs = s.send p bs := by
  obtain ⟨hsync, hsilent⟩ := h
  exact if_neg (by simp [hsync, hsilent])

/-- An answer inside the link window. -/
theorem State.sendDelay_window {s : State} {p : Port} {atNs i : Nat} {e : DWord} {bs : List Byte}
    (hstate : s.net.state = .sync ∨ s.net.state = .silent) (hentry : s.findEntry p .link = some (i, e))
    (hwindow : WholeInWindow s e (s.planDev (Int.ofNat (entryNs e)) atNs) bs.length) : s.sendDelay p atNs bs = s.send p bs := by
  obtain ⟨hin, hwhole⟩ := hwindow
  unfold State.sendDelay
  rw [if_pos (by simpa using hstate), hentry]
  dsimp only
  unfold State.sendAt
  rw [hin, if_neg (by decide)]
  dsimp only
  rw [if_pos (by omega)]

theorem Judged.wholeInWindow {s t : State} (h : Judged s t) {e : DWord} {atNs n : Nat}
    (hwindow : WholeInWindow s e (s.planDev (Int.ofNat (entryNs e)) atNs) n) :
    WholeInWindow t e (t.planDev (Int.ofNat (entryNs e)) atNs) n := by
  unfold WholeInWindow
  rw [h.inWindow, h.windowEnd, h.planDev]
  exact hwindow

theorem State.send_effect (s : State) (p : Port) (bs : List Byte) :
    (s.send p bs).net.sent = s.net.sent ++ [(p, bs)] ∧ (s.send p bs).net.ports = s.net.ports ∧ SameBut [.net] s (s.send p bs) :=
  ⟨rfl, rfl, sameBut_of _ _ _ fun q => by cases q <;> simp [Part.agree]⟩

theorem exec_dlyReq {s : State} {f : RxTiming} {body : List Byte} (h : DelayFrame s f 3 body) (turn : Nat) :
    ∃ t, Judged s t ∧ t = s.neighbour f.port (BitVec.ofNat 12 (natAt body 16 2)) ∧
      exec (.dlyReq f turn) s = .next (if s.net.state == .coldstart then t else
        t.sendDelay f.port (f.rxNs + turn) (s.timingFrame f.port 4
          (leBytes 8 f.rxNs ++ leBytes 8 (f.rxNs + turn) ++ leBytes 2 5120 ++ leBytes 2 s.node.toNat))) := by
  have hjudged := s.neighbour_met f.port (BitVec.ofNat 12 (natAt body 16 2))
  refine ⟨_, hjudged, rfl, ?_⟩
  show execDlyReq f turn s = _
  unfold execDlyReq
  rw [State.timing_delay h (by decide) (by decide)]
  dsimp only
  rw [hjudged.node, hjudged.timingFrame]
  split
  · rfl
  · rfl

/-- Settles O39: each frame of the exchange, by what the port learns and what is sent. -/
theorem delayExchange : Obligations.DelayExchange := by
  unfold Obligations.DelayExchange
  intro s f body
  refine ⟨fun turn nbr bs hframe hnbr hbs => ?_, fun turn nbr hframe hnbr => ⟨fun hnone => ?_, fun i e t1 d ht1 hstate hentry hwindow hd => ?_⟩,
    fun hframe => ?_⟩
  · obtain ⟨t, hjudged, ht, hexec⟩ := exec_dlyReq hframe turn
    rw [← hnbr] at ht
    have hport : t.net.ports[f.port] = { s.net.ports[f.port] with nbr := nbr, nbrValid := true, nbrOk := nbr == (s.portCfg f.port).nbr } := by
      rw [ht]
      exact s.neighbour_port f.port nbr
    have hsent : t.net.sent = s.net.sent := by rw [hjudged.net]
    have hfree : s.net.state ≠ .coldstart → t.sendDelay f.port (f.rxNs + turn) bs = t.send f.port bs →
        ∃ u, exec (.dlyReq f turn) s = .next u ∧ u.net.sent = s.net.sent ++ [(f.port, bs)] ∧
          (u.net.ports[f.port]).nbr = nbr ∧ (u.net.ports[f.port]).nbrValid = true ∧
          (u.net.ports[f.port]).nbrOk = (nbr == (s.portCfg f.port).nbr) ∧ SameBut [.net, .pair, .log, .mail, .host] s u := by
      intro hcold hsend
      rw [if_neg (by simpa using hcold), ← hbs, hsend] at hexec
      obtain ⟨usent, uports, hsame⟩ := t.send_effect f.port bs
      refine ⟨_, hexec, usent.trans (by rw [hsent]), ?_, ?_, ?_, hjudged.same.trans (hsame.mono (by simp))⟩ <;> rw [uports, hport]
    refine ⟨fun hcold => ?_, fun hlisten => ?_, fun i e hstate hentry hwindow => ?_⟩
    · rw [if_pos (by simpa using hcold)] at hexec
      refine ⟨t, hexec, hsent, ?_, ?_, ?_, hjudged.same⟩ <;> rw [hport]
    · refine hfree (by rcases hlisten with h | h <;> rw [h] <;> decide) (State.sendDelay_free _ _ _ ?_)
      rw [hjudged.state]
      rcases hlisten with h | h <;> rw [h] <;> decide
    · refine hfree (by rcases hstate with h | h <;> rw [h] <;> decide) (State.sendDelay_window (by rw [hjudged.state]; exact hstate)
        ((hjudged.findEntry _ _).trans hentry) ?_)
      rw [hbs, State.length_timingFrame]
      exact hjudged.wholeInWindow hwindow
  · have hjudged := s.neighbour_met f.port nbr
    have hexec : exec (.dlyRsp ⟨f, turn⟩) s = .next (s.neighbour f.port nbr) := by
      show execDlyRsp ⟨f, turn⟩ s = _
      unfold execDlyRsp
      rw [State.timing_delay hframe (by decide) (by decide)]
      dsimp only
      rw [show (s.port f.port).t1 = none from hnone, hnbr]
    have hport := s.neighbour_port f.port nbr
    refine ⟨_, hexec, by rw [hjudged.net], ?_, ?_, hjudged.same⟩ <;> rw [hport]
  · obtain ⟨u, hu⟩ : ∃ u, u = ((s.neighbour f.port nbr).modPort f.port fun x => { x with t1 := none }) := ⟨_, rfl⟩
    have hnear := s.neighbour_met f.port nbr
    have hasked : Judged s u := by
      rw [hu]
      exact hnear.trans (State.modPort_met _ f.port _)
    have huport : u.net.ports[f.port] = { s.net.ports[f.port] with
        nbr := nbr, nbrValid := true, nbrOk := nbr == (s.portCfg f.port).nbr, t1 := none } := by
      rw [hu]
      refine (vmod_self (s.neighbour f.port nbr).net.ports f.port _).trans ?_
      exact congrArg (fun x : PortSt => { x with t1 := none }) (s.neighbour_port f.port nbr)
    have hjudged := hasked.trans (u.putResult_met f.port d)
    have hport := u.putResult_port f.port d
    have hstate' : ¬ (s.net.state != .sync && s.net.state != .silent) = true := by
      rcases hstate with h | h <;> rw [h] <;> decide
    have hexec : exec (.dlyRsp ⟨f, turn⟩) s = .next ((u.putResult f.port d).sendDelay f.port (f.rxNs + turn)
        (s.timingFrame f.port 5 (leBytes 8 t1 ++ leBytes 8 f.rxNs ++ leBytes 4 (BitVec.ofInt 32 d).toNat))) := by
      show execDlyRsp ⟨f, turn⟩ s = _
      unfold execDlyRsp
      rw [State.timing_delay hframe (by decide) (by decide)]
      dsimp only
      rw [show (s.port f.port).t1 = some t1 from ht1, ← hnbr]
      dsimp only
      rw [if_neg hstate', hnear.portCfg, ← hu]
      have hdelay : linkDelay t1 (natAt body 16 8) (natAt body 24 8) f.rxNs (s.portCfg f.port).asymNs = d := hd.symm
      rw [hdelay, hjudged.timingFrame]
    rw [State.sendDelay_window (by rw [hjudged.state]; exact hstate) ((hjudged.findEntry _ _).trans hentry)
      (by rw [State.length_timingFrame]; exact hjudged.wholeInWindow hwindow)] at hexec
    obtain ⟨hsent, hports, hsame⟩ := (u.putResult f.port d).send_effect f.port
      (s.timingFrame f.port 5 (leBytes 8 t1 ++ leBytes 8 f.rxNs ++ leBytes 4 (BitVec.ofInt 32 d).toNat))
    refine ⟨_, hexec, ?_, ?_, ?_, hsent.trans (by rw [hjudged.net]), hjudged.same.trans (hsame.mono (by simp))⟩
    · rw [hports, hport, huport]
    · rw [hports, hport, huport]
    · rw [hports, hport]
      exact getLast?_drop_append _ d
  · have hjudged := s.putResult_met f.port (BitVec.ofNat 32 (natAt body 32 4)).toInt
    have hexec : exec (.dlyFup f) s = .next (s.putResult f.port (BitVec.ofNat 32 (natAt body 32 4)).toInt) := by
      show execDlyFup f s = _
      unfold execDlyFup
      rw [State.timing_delay hframe (by decide) (by decide)]
    refine ⟨_, hexec, ?_, hjudged.net, hjudged.same⟩
    rw [State.putResult_port]
    exact getLast?_drop_append _ _

end Sys2Proof.Machine
end

section
/-! SUPPORT. Writes of the galleries (O44). -/
namespace Sys2Proof.Machine

/-- The port of the galleries (resource 3) grants the writer at once. -/
theorem State.onGallery_granted {s : State} {m : Master} (hgrant : (s.sh.round 3 m []).2 = true) (a : HubAccess) (f : State → State) :
    s.onPort 3 m [] a f = f { s with sh := (s.sh.round 3 m []).1 } :=
  State.onPort_of_granted hgrant ..

theorem State.modGallery_effect (s : State) (g : Fin 8) (f : Gallery → Gallery) :
    (s.modGallery g f).gal.gals[g] = f s.gal.gals[g] ∧ (∀ h : Fin 8, h ≠ g → (s.modGallery g f).gal.gals[h] = s.gal.gals[h]) ∧
    (s.modGallery g f).gal = { s.gal with gals := (s.modGallery g f).gal.gals } ∧ (s.modGallery g f).sh = s.sh ∧
    SameBut [.gal] s (s.modGallery g f) :=
  ⟨vmod_self s.gal.gals g f, fun _ hh => vmod_ne s.gal.gals _ _ f hh, rfl, rfl,
    sameBut_of _ _ _ fun p => by cases p <;> simp [Part.agree]⟩

/-- Settles O44: a write that is granted, to a gallery without a write lock and to one with it. -/
theorem galleryWrites : Obligations.GalleryWrites := by
  unfold Obligations.GalleryWrites
  intro s m g hm hgrant
  have hsh : SameBut [.gal, .sh] s { s with sh := (s.sh.round 3 m []).1 } :=
    sameBut_of _ _ _ fun p => by cases p <;> simp [Part.agree]
  refine ⟨fun hfree p idx entry => ?_, fun hfree digest => ?_, fun hlocked digest => ?_⟩
  · obtain ⟨f, hf⟩ : ∃ f : Gallery → Gallery, f = fun x => { x with
      state := .loading
      tables := vmod x.tables p (fun t => if entry = 0 then t.del idx.val else t.set idx.val entry) } := ⟨_, rfl⟩
    have hexec : exec (.galleryEntryWrite m g p idx entry) s =
        .next (({ s with sh := (s.sh.round 3 m []).1 } : State).modGallery g f) := by
      show execGalleryEntryWrite m g p idx entry s = _
      rw [execGalleryEntryWrite, if_neg (by simp [hm]), State.onGallery_granted hgrant, State.galEntryPut, if_neg (by
        show ¬ s.galLocked g = true
        simp [hfree]), hf]
    obtain ⟨hself, hother, hgal, hshared, hsame⟩ := ({ s with sh := (s.sh.round 3 m []).1 } : State).modGallery_effect g f
    have htable : (f s.gal.gals[g]).tables[p] = if entry = 0 then (s.gal.gals[g].tables[p]).del idx.val
        else (s.gal.gals[g].tables[p]).set idx.val entry := by
      rw [hf]
      exact vmod_self _ _ _
    refine ⟨_, hexec, ?_, fun hentry => ?_, fun hentry => ?_, fun k hk => ?_, fun q hq => ?_, hother, hgal, hshared,
      hsh.trans (hsame.mono (by simp))⟩
    · rw [hself, hf]
    · rw [hself, htable, if_neg hentry]
      exact AMap.get?_set_self _ _ _
    · rw [hself, htable, if_pos hentry]
      exact AMap.get?_del_self _ _
    · rw [hself, htable]
      split
      · exact AMap.get?_del_ne _ _ _ hk
      · exact AMap.get?_set_ne _ _ _ _ hk
    · rw [hself, hf]
      exact vmod_ne _ _ _ _ hq
  · obtain ⟨f, hf⟩ : ∃ f : Gallery → Gallery, f = fun x => { x with
      digest := galleryDigest x.tables, state := if galleryDigest x.tables = digest && !x.reserved then .valid else .empty } := ⟨_, rfl⟩
    have hexec : exec (.galleryCommitWrite m g digest) s =
        .next (({ s with sh := (s.sh.round 3 m []).1 } : State).modGallery g f) := by
      show execGalleryCommitWrite m g digest s = _
      rw [execGalleryCommitWrite, if_neg (by simp [hm]), State.onGallery_granted hgrant, State.galCommitPut, if_neg (by
        show ¬ s.galLocked g = true
        simp [hfree]), hf]
    obtain ⟨hself, hother, hgal, hshared, hsame⟩ := ({ s with sh := (s.sh.round 3 m []).1 } : State).modGallery_effect g f
    have hstate : (f s.gal.gals[g]).state =
        if galleryDigest s.gal.gals[g].tables = digest && !s.gal.gals[g].reserved then .valid else .empty := by rw [hf]
    refine ⟨_, hexec, ?_, ?_, ?_, hother, hgal, hshared, hsh.trans (hsame.mono (by simp))⟩
    · rw [hself, hstate]
      split
      · next hgood => simpa using hgood
      · next hbad => simpa using hbad
    · rw [hself, hstate]
      split
      · exact .inl rfl
      · exact .inr rfl
    · rw [hself, hf]
  · show execGalleryCommitWrite m g digest s = _
    rw [execGalleryCommitWrite, if_neg (by simp [hm]), State.onGallery_granted hgrant, State.galCommitPut, if_pos (by
      show s.galLocked g = true
      exact hlocked)]
    rfl

end Sys2Proof.Machine
end

section
/-! SUPPORT. The bank record and the confirmation of a trial (O52; R439, R440, R458, R460, R461). -/
namespace Sys2Proof.Machine

/-! ### The bank record: the newer of two copies (R455) -/

/-- What is written into the bank record is what it reads afterwards. -/
theorem State.bankRec_putBankRec (s : State) (f : BankRec → BankRec) :
    (s.putBankRec f).bankRec = ({ f s.bankRec with seq := s.bankRec.seq + 1 } : BankRec).sealed := by
  obtain ⟨n, hn⟩ : ∃ n, n = ({ f s.bankRec with seq := s.bankRec.seq + 1 } : BankRec).sealed := ⟨_, rfl⟩
  have hvalid : n.valid = true := by rw [hn]; exact BankRec.sealed_valid _
  have hseq : n.seq = s.bankRec.seq + 1 := by rw [hn]; rfl
  rw [← hn]
  have hput : s.putBankRec f = if s.recIs0 then { s with nvm := { s.nvm with rec1 := n } } else { s with nvm := { s.nvm with rec0 := n } } := by
    rw [hn]
    rfl
  rw [hput]
  by_cases hfirst : s.recIs0 = true
  · have hcur : s.bankRec = s.nvm.rec0 := if_pos hfirst
    have hless : ¬ 0 ≤ (s.nvm.rec0.seq - n.seq).toInt := by
      rw [hseq, hcur, show s.nvm.rec0.seq - (s.nvm.rec0.seq + 1) = -1 by bv_omega]
      decide
    rw [if_pos hfirst]
    show (if s.nvm.rec0.valid && (!n.valid || decide (0 ≤ (s.nvm.rec0.seq - n.seq).toInt)) then s.nvm.rec0
      else if n.valid then n else .blank) = n
    rw [hvalid, decide_eq_false hless]
    simp
  · have hmore : (n.valid && (!s.nvm.rec1.valid || decide (0 ≤ (n.seq - s.nvm.rec1.seq).toInt))) = true := by
      rw [hvalid, Bool.true_and, Bool.or_eq_true]
      by_cases hother : s.nvm.rec1.valid = true
      · have hcur : s.bankRec = s.nvm.rec1 := (if_neg hfirst).trans (if_pos hother)
        refine .inr (decide_eq_true ?_)
        rw [hseq, hcur, show s.nvm.rec1.seq + 1 - s.nvm.rec1.seq = 1 by bv_omega]
        decide
      · exact .inl (by simpa using hother)
    rw [if_neg hfirst]
    exact if_pos hmore

/-- A write of the bank record changes the record alone. -/
theorem State.putBankRec_effect (s : State) (f : BankRec → BankRec) :
    (s.putBankRec f).nvm = { s.nvm with rec0 := (s.putBankRec f).nvm.rec0, rec1 := (s.putBankRec f).nvm.rec1 } ∧
    SameBut [.nvm] s (s.putBankRec f) := by
  refine ⟨?_, sameBut_of _ _ _ fun p => by cases p <;> simp [Part.agree]⟩
  unfold State.putBankRec
  dsimp only
  split
  · rfl
  · rfl

theorem State.bankRec_congr {s t : State} (hrec0 : t.nvm.rec0 = s.nvm.rec0) (hrec1 : t.nvm.rec1 = s.nvm.rec1) : t.bankRec = s.bankRec := by
  unfold State.bankRec
  rw [hrec0, hrec1]

/-! ### Fuses at a confirmation (R439, R440) -/

theorem Fuses.confirm_effect (f : Fuses) (h : ImageHdr) :
    (f.confirm h).1 = { f with
      revoked := (f.confirm h).1.revoked, secFloor := max f.secFloor (min 63 h.secVer)
      commissioned := f.commissioned || h.lcReq == .service || h.lcReq == .field } ∧
    (∀ k : Fin 4, f.revoked.getLsbD k.val = true → (f.confirm h).1.revoked.getLsbD k.val = true) ∧
    (∀ k : Fin 4, h.revoke.getLsbD k.val = false → (f.confirm h).1.revoked.getLsbD k.val = f.revoked.getLsbD k.val) := by
  obtain ⟨g, hg⟩ : ∃ g : BitVec 4 × List Nat → Nat → BitVec 4 × List Nat, g = fun acc k =>
    let next := acc.1 ||| (1#4 <<< k)
    let left := (List.range 4).any (fun j => (f.slots.toList[j]?.bind id).isSome && !next.getLsbD j)
    if h.revoke.getLsbD k && k != h.keySlot.toNat && !acc.1.getLsbD k && left then (next, acc.2 ++ [k]) else acc := ⟨_, rfl⟩
  have hstep (acc : BitVec 4 × List Nat) (n : Nat) (k : Fin 4) : (acc.1.getLsbD k.val = true → (g acc n).1.getLsbD k.val = true) ∧
      (h.revoke.getLsbD k.val = false → (g acc n).1.getLsbD k.val = acc.1.getLsbD k.val) := by
    rw [hg]
    dsimp only
    split
    next hrevoke =>
      rw [Bool.and_eq_true, Bool.and_eq_true, Bool.and_eq_true] at hrevoke
      obtain ⟨⟨⟨hbit, -⟩, -⟩, -⟩ := hrevoke
      refine ⟨fun hk => by simp [hk], fun hk => ?_⟩
      have hne : k.val ≠ n := fun he => by rw [he, hbit] at hk; exact absurd hk (by decide)
      have hshift : (1#4 <<< n).getLsbD k.val = false := by
        simp only [BitVec.getLsbD_shiftLeft, BitVec.getLsbD_one]
        rcases Nat.lt_or_gt_of_ne hne with hlt | hgt
        · simp [hlt]
        · have : k.val - n ≠ 0 := by omega
          simp [this]
      rw [BitVec.getLsbD_or, hshift, Bool.or_false]
    next => exact ⟨id, fun _ => rfl⟩
  have hfold (ks : List Nat) (acc : BitVec 4 × List Nat) (k : Fin 4) :
      (acc.1.getLsbD k.val = true → (ks.foldl g acc).1.getLsbD k.val = true) ∧
      (h.revoke.getLsbD k.val = false → (ks.foldl g acc).1.getLsbD k.val = acc.1.getLsbD k.val) := by
    induction ks generalizing acc with
    | nil => exact ⟨id, fun _ => rfl⟩
    | cons n ks ih =>
      obtain ⟨hadd, hkeep⟩ := hstep acc n k
      obtain ⟨iadd, ikeep⟩ := ih (g acc n)
      exact ⟨fun hk => iadd (hadd hk), fun hk => (ikeep hk).trans (hkeep hk)⟩
  have hrevoked : (f.confirm h).1.revoked = ([0, 1, 2, 3].foldl g (f.revoked, [])).1 := by rw [hg]; rfl
  refine ⟨rfl, fun k hk => ?_, fun k hk => ?_⟩
  · rw [hrevoked]
    exact (hfold _ _ k).1 hk
  · rw [hrevoked]
    exact (hfold _ _ k).2 hk

/-! ### The confirmed image (R458, R460, R461) -/

/-- One gallery of the queue. -/
def State.loadQueued (s : State) (g : Fin 8) : State :=
  if s.galLocked g then s
  else { s.loadGallery g with upd := { (s.loadGallery g).upd with galQueue := (s.loadGallery g).upd.galQueue.filter (fun x => x != g) } }

theorem State.loadGalQueue_upd (s : State) : s.loadGalQueue.upd = { s.upd with galQueue := s.loadGalQueue.upd.galQueue } := by
  have hturn (t : State) (g : Fin 8) : (t.loadQueued g).upd = { t.upd with galQueue := (t.loadQueued g).upd.galQueue } := by
    unfold State.loadQueued
    split
    · rfl
    · simp
  have hfold (gs : List (Fin 8)) (t : State) :
      (gs.foldl State.loadQueued t).upd = { t.upd with galQueue := (gs.foldl State.loadQueued t).upd.galQueue } := by
    induction gs generalizing t with
    | nil => rfl
    | cons g gs ih => rw [List.foldl_cons, ih, hturn]
  exact hfold s.upd.galQueue s

theorem State.alarms_fold_frame {α : Type} (g : α → Byte × List Byte) (ks : List α) (s : State) :
    SameBut [.log, .mail, .host] s (ks.foldl (fun s k => s.alarmNode (g k).1 (g k).2) s) :=
  SameBut.foldl (fun s k => sameBut_of _ _ _ fun p => by cases p <;> simp [Part.agree]) ks s

/-- What a confirmation leaves (R439, R440, R458, R460, R461). -/
theorem State.confirmImage_effect {s : State} {i : Image} (hi : s.bankImg s.trialBank = some i) (rolling : Bool) :
    (s.confirmImage rolling).bankRec.active = s.trialBank ∧ (s.confirmImage rolling).bankRec.state = .stable ∧
    (s.confirmImage rolling).fuses = (s.fuses.confirm i.hdr).1 ∧
    (s.confirmImage rolling).upd = { s.upd with
      img := some i, bank := s.trialBank, apply := .none, accepted := none, fallback := []
      galQueue := (s.confirmImage rolling).upd.galQueue } ∧
    (∀ l : Lane, (s.confirmImage rolling).lane l = { s.lane l with runsNew := false, trialCnt := 0 }) ∧
    (s.confirmImage rolling).nvm.bank0 = s.nvm.bank0 ∧ (s.confirmImage rolling).nvm.bank1 = s.nvm.bank1 := by
  obtain ⟨u, hu⟩ : ∃ u, u = s.putBankRec (fun r => { r with active := s.trialBank, state := .stable }) := ⟨_, rfl⟩
  obtain ⟨hnvm, hsame⟩ := s.putBankRec_effect (fun r => { r with active := s.trialBank, state := .stable })
  have hrec := s.bankRec_putBankRec (fun r => { r with active := s.trialBank, state := .stable })
  rw [← hu] at hnvm hsame hrec
  obtain ⟨w, q, hconfirm, hw⟩ : ∃ (w : State) (q : List (Fin 8)), s.confirmImage rolling = w.loadGalQueue ∧ SameBut [.log, .mail, .host] { u with
      fuses := (u.fuses.confirm i.hdr).1, nvm := u.nvm.adoptConv
      lanes := u.lanes.map (fun x => { x with runsNew := false, trialCnt := 0 })
      upd := { u.upd with img := some i, bank := s.trialBank, apply := .none, accepted := none, fallback := [], galQueue := q } } w := by
    have hraise (t : State) (code : Byte) (bs : List Byte) : SameBut [.log, .mail, .host] t (t.raise .event code .node t.node.toNat bs) :=
      sameBut_of _ _ _ fun p => by cases p <;> simp [Part.agree]
    unfold State.confirmImage
    rw [hi, hu]
    exact ⟨_, _, rfl, (State.alarms_fold_frame (fun k => (0xF4, [BitVec.ofNat 8 k])) _ _).trans (hraise _ _ _)⟩
  have hload : SameBut [.gal, .upd] w w.loadGalQueue := sameBut_of _ _ _ fun p => by cases p <;> simp [Part.agree]
  have hadopt : u.nvm.adoptConv.rec0 = u.nvm.rec0 ∧ u.nvm.adoptConv.rec1 = u.nvm.rec1 ∧ u.nvm.adoptConv.bank0 = s.nvm.bank0 ∧
      u.nvm.adoptConv.bank1 = s.nvm.bank1 := by
    unfold Nvm.adoptConv
    split
    · exact ⟨rfl, rfl, by rw [hnvm], by rw [hnvm]⟩
    · exact ⟨rfl, rfl, by rw [hnvm], by rw [hnvm]⟩
  obtain ⟨hrec0, hrec1, hbank0, hbank1⟩ := hadopt
  have e_nvm : w.loadGalQueue.nvm = u.nvm.adoptConv := (hload .nvm (by simp)).trans (hw .nvm (by simp))
  have e_rec : w.loadGalQueue.bankRec = u.bankRec := State.bankRec_congr (by rw [e_nvm, hrec0]) (by rw [e_nvm, hrec1])
  have e_upd : w.upd = _ := hw .upd (by simp)
  rw [hconfirm, e_rec, hrec]
  refine ⟨rfl, rfl, ?_, ?_, fun l => ?_, by rw [e_nvm, hbank0], by rw [e_nvm, hbank1]⟩
  · refine (hload .fuses (by simp)).trans ((hw .fuses (by simp)).trans ?_)
    rw [show u.fuses = s.fuses from hsame .fuses (by simp)]
  · rw [State.loadGalQueue_upd, e_upd, show u.upd = s.upd from hsame .upd (by simp)]
  · have e_lanes : w.loadGalQueue.lanes = s.lanes.map (fun x => { x with runsNew := false, trialCnt := 0 }) := by
      refine (hload .lanes (by simp)).trans ((hw .lanes (by simp)).trans ?_)
      rw [show u.lanes = s.lanes from hsame .lanes (by simp)]
    exact (congrArg (PerLane.get · l) e_lanes).trans (PerLane.get_map _ _ _)

/-- Settles O52: the count of each lane, and both confirmations. -/
theorem trialsAreConfirmed : Obligations.TrialsAreConfirmed := by
  unfold Obligations.TrialsAreConfirmed
  intro s
  refine ⟨fun l m hcount => ?_, fun i hi c hc => ?_⟩
  · show execRollingCountComplete l s = _
    unfold execRollingCountComplete
    split
    · rfl
    · refine if_neg fun hall => hcount ?_
      have hm := List.all_eq_true.mp (Bool.and_eq_true_iff.mp hall).2 m (mem_lanesList m)
      exact beq_iff_eq.mp (Bool.and_eq_true_iff.mp hm).2
  · have hconfirms : ∃ rolling, exec c s = .next (s.confirmImage rolling) := by
      rcases hc with ⟨rfl, hrec, happly, hlanes⟩ | ⟨rfl, hrec, happly, hticks, htime⟩
      · refine ⟨true, ?_⟩
        show execRollingCountComplete .a s = _
        have hall : lanesList.all (fun m => (s.lane m).runsNew && (s.lane m).trialCnt == 10000) = true :=
          List.all_eq_true.mpr fun m _ => by simp [hlanes m]
        unfold execRollingCountComplete
        rw [if_neg (by simp [hrec, happly, hlanes .a]), if_pos (by simp [hall])]
      · refine ⟨false, ?_⟩
        show execFullTrialConfirmation s = _
        exact if_pos (by simp [hrec, happly, hticks, htime])
    obtain ⟨rolling, hexec⟩ := hconfirms
    obtain ⟨hactive, hstate, hfuses, hupd, hlane, hbank0, hbank1⟩ := State.confirmImage_effect hi rolling
    obtain ⟨hconfirm, hadds, hkeeps⟩ := s.fuses.confirm_effect i.hdr
    refine ⟨_, hexec, hactive, hstate, ?_, ?_, ?_, ?_, ?_, ?_, fun k hk => ?_, fun k hk => ?_, ?_, fun l => ?_, hbank0, hbank1, ?_⟩
    · rw [hupd]
    · rw [hupd]
    · rw [hupd]
    · rw [hupd]
    · rw [hfuses, hconfirm]
    · rw [hfuses, hconfirm]
    · rw [hfuses]
      exact hadds k hk
    · rw [hfuses]
      exact hkeeps k hk
    · rw [hfuses, hconfirm]
    · rw [hlane l]
      exact ⟨rfl, rfl, rfl⟩
    · simp

end Sys2Proof.Machine
end

section
/-! SUPPORT. The rolling update (O51). -/
namespace Sys2Proof.Machine

theorem State.bankImg_setBank_ne (s : State) {b c : Bool} (i : Option Image) (h : c ≠ b) : (s.setBank b i).bankImg c = s.bankImg c := by
  cases b
  case false =>
    cases c
    · exact absurd rfl h
    · rfl
  case true =>
    cases c
    · rfl
    · exact absurd rfl h

theorem State.setBank_effect (s : State) (b : Bool) (i : Option Image) :
    (s.setBank b i).bankRec = s.bankRec ∧ SameBut [.nvm] s (s.setBank b i) := by
  refine ⟨?_, sameBut_of _ _ _ fun p => by cases p <;> simp [Part.agree]⟩
  unfold State.setBank
  split
  · rfl
  · rfl

theorem State.bankImg_congr {s t : State} (hnvm0 : t.nvm.bank0 = s.nvm.bank0) (hnvm1 : t.nvm.bank1 = s.nvm.bank1) (b : Bool) :
    t.bankImg b = s.bankImg b := by
  unfold State.bankImg
  rw [hnvm0, hnvm1]

/-- Two lanes accept the copied bank: the trial begins (R456, R458). -/
theorem bankCopyDone_accepted {s : State} {ok : PerLane Bool} (hcopying : s.upd.copying = true)
    (htwo : 2 ≤ countMask (maskOf fun l => l.inMask s.running && ok.get l)) :
    ∃ t, exec (.bankCopyDone ok) s = .next t ∧ t.bankRec.state = .rollingTrial ∧
      t.bankRec.active = s.bankRec.active ∧ t.bankImg s.trialBank = s.upd.image ∧ t.upd.apply = .rolling ∧ t.upd.copying = false ∧
      (∀ l : Lane, t.lane l = { s.lane l with runsNew := false, trialCnt := 0 }) ∧ SameBut [.nvm, .upd, .lanes] s t := by
  obtain ⟨v, hv⟩ : ∃ v, v = s.setBank s.trialBank s.upd.image := ⟨_, rfl⟩
  obtain ⟨hbank, hsame⟩ := s.setBank_effect s.trialBank s.upd.image
  rw [← hv] at hbank hsame
  obtain ⟨u, hu⟩ : ∃ u, u = v.putBankRec fun r => { r with state := .rollingTrial } := ⟨_, rfl⟩
  have hrec := v.bankRec_putBankRec fun r => { r with state := .rollingTrial }
  obtain ⟨hnvm, hput⟩ := v.putBankRec_effect fun r => { r with state := .rollingTrial }
  rw [← hu] at hrec hnvm hput
  have hexec : exec (.bankCopyDone ok) s = .next { u with
      upd := { u.upd with copying := false, apply := .rolling, accepted := none, confirm := 0, deferTicks := 0 }
      lanes := u.lanes.map (fun x => { x with runsNew := false, trialCnt := 0 }) } := by
    show execBankCopyDone ok s = _
    rw [execBankCopyDone, if_neg (by simp [hcopying]), hu, hv]
    exact if_pos (by simpa using htwo)
  have hsu := (hsame.trans hput).mono (show [Part.nvm] ⊆ [.nvm, .upd, .lanes] by simp)
  refine ⟨_, hexec, ?_, ?_, ?_, rfl, rfl, fun l => ?_, hsu.trans (sameBut_of _ _ _ fun p => by cases p <;> simp [Part.agree])⟩
  · exact (congrArg BankRec.state hrec).trans rfl
  · refine (congrArg BankRec.active hrec).trans ?_
    rw [hbank]
    rfl
  · refine (State.bankImg_congr (s := v) (by rw [hnvm]) (by rw [hnvm]) _).trans ?_
    rw [hv]
    exact s.bankImg_setBank _ _
  · refine (PerLane.get_map _ _ _).trans ?_
    rw [show u.lanes = s.lanes from (hput .lanes (by simp)).trans (hsame .lanes (by simp))]
    rfl

/-- The lane whose turn it is leaves service for its trial (R458). -/
theorem rollingUpdateWithdrawal_effect {s : State} {l : Lane} (hmode : s.ms.mode = .run) (hthree : s.ms.voting = 7#3)
    (hlatch : s.aon.latch = false) (hall : s.allIn = true) (hbank : s.bankRec.state = .rollingTrial) (happly : s.upd.apply = .rolling)
    (hnext : s.nextTrialLane = some l) (hdeferred : s.deferred = false) :
    ∃ t, exec (.rollingUpdateWithdrawal l) s = .next t ∧ (t.lane l).svc = .withdrawn ∧
      (t.lane l).lastCause = 0xA ∧ (t.lane l).region = (s.lane l).region ∧ (t.lane l).held = [] ∧
      t.upd.taken = some (l, s.ms.tick) ∧ t.ms.mode = .run2 ∧
      (∀ m : Lane, m ≠ l → t.lane m = s.lane m) ∧ (∀ m : Lane, m.inMask t.ms.voting = decide (m ≠ l)) ∧
      t.nvm = s.nvm ∧ t.fuses = s.fuses ∧ t.pending = s.pending := by
  have hin : (s.lane l).svc = .inService := by
    simp only [State.allIn, List.all_eq_true, beq_iff_eq] at hall
    exact hall l (mem_lanesList l)
  have hexec : exec (.rollingUpdateWithdrawal l) s = .next (s.takeLane l) := by
    show execRollingUpdateWithdrawal l s = _
    unfold execRollingUpdateWithdrawal
    rw [if_neg (by simp [hmode, hall, hbank]), if_neg (by simp [happly]), if_pos (by simp [happly, hnext, hdeferred])]
  obtain ⟨u, hu⟩ : ∃ u, u = s.withdraw l := ⟨_, rfl⟩
  have hwithdraw := State.withdraw_of_three (l := l) hmode hthree hlatch
  rw [← hu] at hwithdraw
  have hlanes : u.lanes = s.lanes.set l ((s.lane l).left 0xA) := by
    rw [hwithdraw, (State.setMode_frame _ _).2.1]
    exact (State.exitLane_calm hin rfl).1
  have hself : u.lane l = (s.lane l).left 0xA := by rw [State.lane, hlanes, PerLane.get_set_self]
  have hothers (m : Lane) (hm : m ≠ l) : u.lane m = s.lane m := by
    rw [State.lane, hlanes, PerLane.get_set_ne _ _ _ _ hm]
    rfl
  obtain ⟨since, hums⟩ := ((s.exitLane l 0xA).unvoted l).setMode_inMode .run2
  rw [← hwithdraw] at hums
  have hsame : SameBut [.lanes, .ms, .log, .mail, .host] s u := by
    rw [hwithdraw, State.exitLane_of_inService hin rfl]
    exact sameBut_of _ _ _ fun p => by cases p <;> simp [Part.agree, State.unvoted, State.setLane]
  have htick : u.ms.tick = s.ms.tick := by
    rw [hums]
    simp [State.unvoted, ModeSt.inMode]
  have htake : s.takeLane l = { u with upd := { u.upd with taken := some (l, u.ms.tick), deferTicks := 0, deferAlarm := false } } := by
    rw [hu]
    rfl
  rw [htake] at hexec
  refine ⟨_, hexec, ?_, ?_, ?_, ?_, congrArg (fun n => some (l, n)) htick, ?_, hothers, fun m => ?_, hsame .nvm (by simp),
    hsame .fuses (by simp), hsame .pending (by simp)⟩
  · exact (congrArg LaneSt.svc hself).trans (by simp [LaneSt.left])
  · exact (congrArg LaneSt.lastCause hself).trans rfl
  · exact (congrArg LaneSt.region hself).trans rfl
  · exact (congrArg LaneSt.held hself).trans rfl
  · show u.ms.mode = .run2
    rw [hums]
    rfl
  · show m.inMask u.ms.voting = _
    have hvote : u.ms.voting = s.ms.voting &&& ~~~(maskOf fun j => j == l) :=
      (congrArg ModeSt.voting hums).trans (by simp [State.unvoted, ModeSt.inMode])
    rw [hvote, inMask_without, hthree]
    cases m <;> rfl

theorem State.laneReset_trial (s : State) (l : Lane) :
    ∃ u : State, s.laneReset l = (u.restartOld l).takeTrial l ∧ u.lanes = s.lanes.set l (s.lane l).wiped ∧ u.upd = s.upd := by
  unfold State.laneReset
  extract_lets x _ y s1 s2 _ _ s3 _ s4 _ s5
  have hs4 : s4.lanes = s3.lanes ∧ s4.upd = s3.upd := by
    dsimp only [s4]
    split
    · exact ⟨rfl, rfl⟩
    · exact ⟨rfl, rfl⟩
  have hs5 : s5.lanes = s4.lanes ∧ s5.upd = s4.upd := by
    dsimp only [s5]
    split
    · exact ⟨rfl, rfl⟩
    · exact ⟨rfl, rfl⟩
  refine ⟨s5, rfl, ?_, ?_⟩
  · rw [hs5.1, hs4.1]
    simp only [s3, s2, s1]
    simp [State.setLane]
    rfl
  · rw [hs5.2, hs4.2]
    simp [s3, s2, s1, State.setLane]

/-- The LANE reset of the lane that is taken for its trial (R458). -/
theorem State.laneReset_taken {s : State} {l : Lane} {w : Tick} (htaken : s.upd.taken = some (l, w)) (happly : s.upd.apply = .rolling)
    (hsvc : (s.lane l).svc = .withdrawn) :
    ((s.laneReset l).lane l).svc = .reset ∧ ((s.laneReset l).lane l).runsNew = true ∧ ((s.laneReset l).lane l).trialCnt = 0 ∧
    ((s.laneReset l).lane l).region = Carried.reset ∧ (s.laneReset l).upd.taken = none := by
  obtain ⟨u, hreset, hlanes, hupd⟩ := s.laneReset_trial l
  have hold : u.restartOld l = u := if_pos (by simp [hupd, happly])
  obtain ⟨v, hv⟩ : ∃ v : State, v = { u with upd := { u.upd with taken := none, confirm := 0 } } := ⟨_, rfl⟩
  have htrial : s.laneReset l = v.modLaneSt l fun x => { x with runsNew := true, trialCnt := 0 } := by
    rw [hreset, hold, hv]
    unfold State.takeTrial
    rw [if_neg (by simp [hupd, htaken])]
    exact if_pos (by simp [hupd, happly])
  have hlane : (s.laneReset l).lane l = { (s.lane l).wiped with runsNew := true, trialCnt := 0 } := by
    rw [htrial, State.lane_modLaneSt_self, hv]
    show { u.lane l with runsNew := true, trialCnt := 0 } = _
    rw [State.lane, hlanes, PerLane.get_set_self]
  have htakenNone : (s.laneReset l).upd.taken = none := by
    rw [htrial, hv]
    rfl
  rw [hlane]
  exact ⟨by simp [LaneSt.wiped, hsvc], rfl, rfl, rfl, htakenNone⟩

/-- Settles O51: the copy's start and end, the withdrawal and the LANE reset of a lane's trial, and the deferral's alarm. -/
theorem rollingUpdateRuns : Obligations.RollingUpdateRuns := by
  unfold Obligations.RollingUpdateRuns
  intro s
  refine ⟨fun hticks haccepted hcopying hbank hstage => ⟨fun hdeferred => ?_, fun hdeferred => ?_⟩,
    fun ok hcopying => ⟨fun htwo => bankCopyDone_accepted hcopying htwo, fun hfew => ?_⟩,
    fun l hmode hthree hlatch hall hbank happly hnext hdeferred =>
      rollingUpdateWithdrawal_effect hmode hthree hlatch hall hbank happly hnext hdeferred,
    fun l w htaken happly hsvc => ⟨fun hlater => ?_, fun hearly => ?_⟩, fun hwaits => ⟨fun hquiet htime => ?_, fun hno => ?_⟩⟩
  · have hexec : exec .bankCopyStart s = .next { s.setBank s.trialBank none with
        upd := { s.upd with copying := true, apply := .copying, deferTicks := 0, deferAlarm := false } } := by
      show execBankCopyStart s = _
      rw [execBankCopyStart, if_neg (by simp [hticks, State.copyWaits, haccepted, hcopying, hbank, hstage, hdeferred])]
      simp
    obtain ⟨-, hsame⟩ := s.setBank_effect s.trialBank none
    refine ⟨_, hexec, s.bankImg_setBank _ _, s.bankImg_setBank_ne none ?_, rfl,
      (hsame.mono (by simp)).trans (sameBut_of _ _ _ fun p => by cases p <;> simp [Part.agree])⟩
    unfold State.trialBank
    simp
  · exact if_pos (by simp [hdeferred])
  · show execBankCopyDone ok s = _
    rw [execBankCopyDone, if_neg (by simp [hcopying])]
    exact if_neg (by simpa using hfew)
  · have htick : s.takenTick = s.laneReset l := by
      unfold State.takenTick
      rw [htaken]
      exact if_pos (decide_eq_true hlater)
    rw [htick]
    exact State.laneReset_taken htaken happly hsvc
  · unfold State.takenTick
    rw [htaken]
    exact if_neg fun h => hearly (of_decide_eq_true h)
  · have hupd : s.updWaits = true := by
      unfold State.updWaits State.copyWaits
      rcases hwaits with ⟨haccepted, hcopying, hbank, hstage⟩ | ⟨hbank, happly, htaken, hnext⟩
      · simp [haccepted, hcopying, hbank, hstage]
      · simp [hbank, happly, htaken, Option.isSome_iff_ne_none, hnext]
    refine ⟨_, if_pos (by simp [hupd, hquiet, htime]), by simp, sameBut_of _ _ _ fun p => by cases p <;> simp [Part.agree]⟩
  · refine if_neg ?_
    rcases hno with h | h
    · simp [h]
    · simp [h]

end Sys2Proof.Machine
end

section
/-! SUPPORT. Staging and release of an image (O50; R451-R454, R461). -/
namespace Sys2Proof.Machine

/-! ### An update item (R451, R452) -/

theorem State.takeUpdate_erasing {s : State} {i : UpdItem} (h : s.upd.stage = .erasing) : s.takeUpdate i = s :=
  if_pos (by simp [h])

/-- An item of a new tag begins the erasure, unless an image copies or is in trial. -/
theorem State.takeUpdate_newTag {s : State} {i : UpdItem} (hphase : s.pwr.phase = .normal) (hstage : s.upd.stage ≠ .erasing)
    (htag : s.nvm.stageTag ≠ some i.imgTag) :
    s.takeUpdate i = if s.imageBusy then s else
      { s with
        nvm := { s.nvm with stageTag := some i.imgTag, release := none, relChunks := [] }
        upd := { s.upd with
          stage := .erasing, total := 0, image := none, accepted := none
          apply := if s.bankRec.state == .fullPending then s.upd.apply else .none } } := by
  unfold State.takeUpdate
  rw [if_neg (by simp [hphase, hstage]), if_pos (by simpa using htag)]

/-- A chunk of the image that is being received goes to the staging. -/
theorem State.takeUpdate_chunk {s : State} {i : UpdItem} (hphase : s.pwr.phase = .normal) (hstage : s.upd.stage = .receiving)
    (htag : s.nvm.stageTag = some i.imgTag) (hchunk : i.chunk.toNat < 2359296) :
    s.takeUpdate i = s.putChunk i.chunk.toNat i.data := by
  have himage : releaseChunk i.chunk = false := by
    unfold releaseChunk
    rw [decide_eq_false (by omega), Bool.false_and]
  unfold State.takeUpdate
  rw [if_neg (by simp [hphase, hstage]), if_neg (by simp [htag]), if_neg (by simp [himage]), if_pos (by simp [hstage])]

theorem State.putChunk_held {s : State} {c : Nat} {data : List Byte} (hstage : s.upd.stage = .receiving)
    (hheld : s.nvm.staging.has c = true) : s.putChunk c data = s := by
  unfold State.putChunk
  rw [if_pos hheld, if_neg (by simp [hstage])]

/-- What the count of the held chunks decides (R453). -/
theorem State.stageHeld_effect (s : State) :
    s.stageHeld.nvm = s.nvm ∧ (s.stageHeld.upd.stage = .receiving ∨ s.stageHeld.upd.stage = .verifying) ∧
    s.stageHeld.upd.img = s.upd.img := by
  refine ⟨rfl, ?_, rfl⟩
  rcases Bool.eq_false_or_eq_true (s.stageHeld.upd.stage == .verifying) with h | h
  · exact .inr (beq_iff_eq.mp h)
  · refine .inl ?_
    have hno := beq_eq_false_iff_ne.mp h
    unfold State.stageHeld at hno ⊢
    exact if_neg fun hall => hno (if_pos hall)

/-- A chunk that is not held is written. -/
theorem State.putChunk_fresh {s : State} {c : Nat} {data : List Byte} (hrange : c < 2359296) (htotal : s.upd.total = 0 ∨ c < s.upd.total)
    (hfresh : s.nvm.staging.has c = false) :
    (s.putChunk c data).nvm.staging.get? c = some (padTo 56 data) ∧
    (∀ k, k ≠ c → (s.putChunk c data).nvm.staging.get? k = s.nvm.staging.get? k) ∧
    ((s.putChunk c data).upd.stage = .receiving ∨ (s.putChunk c data).upd.stage = .verifying) ∧
    (s.putChunk c data).upd.img = s.upd.img := by
  have hinside : ¬ ((s.upd.total != 0 && decide (s.upd.total ≤ c)) || decide (2359296 ≤ c)) = true := by
    simp only [Bool.or_eq_true, Bool.and_eq_true, bne_iff_ne, decide_eq_true_eq]
    omega
  obtain ⟨u, hu⟩ : ∃ u : State, u = { s with nvm := { s.nvm with staging := s.nvm.staging.set c (padTo 56 data) } } := ⟨_, rfl⟩
  have hput : s.putChunk c data = u.stageHeld := by
    rw [hu]
    unfold State.putChunk
    rw [if_neg (by simp [hfresh]), if_neg hinside]
  obtain ⟨hnvm, hstage, himg⟩ := u.stageHeld_effect
  rw [hput, hnvm, himg, hu]
  exact ⟨AMap.get?_set_self _ _ _, fun k hk => AMap.get?_set_ne _ _ _ _ hk, hu ▸ hstage, rfl⟩

/-! ### A release (R454, R461) -/

/-- A release that fits the staged image is taken by its mode. -/
theorem State.tryRelease_accepts {s : State} {r : Release} {i : Image} (hrelease : s.nvm.release = some r) (hbusy : s.imageBusy = false)
    (hstage : s.upd.stage = .staged) (himage : s.upd.image = some i) (hfree : s.upd.accepted = none)
    (hdigest : releaseDigest r = i.hdr.digest) (hfor : releaseFor r s.node = true) (hreason : s.releaseReason i r = 0) :
    s.tryRelease =
      if releaseMode r == 2 then
        { s.putBankRec (fun b => { b with state := .fullPending }) with upd := { s.upd with apply := .fullPending, accepted := some 2 } }
      else { s with upd := { s.upd with apply := .deferred, accepted := some 1, deferTicks := 0, deferAlarm := false } } := by
  have hupd := (s.putBankRec_effect fun b => { b with state := .fullPending }).2 .upd (by simp)
  unfold State.tryRelease
  rw [hrelease, himage]
  dsimp only
  rw [if_neg (by simp [hstage, hbusy, hfree]), if_neg (by simp [hdigest, hfor]), if_neg (by simp [hreason]),
    show (s.putBankRec fun b => { b with state := .fullPending }).upd = s.upd from hupd]

theorem exec_releaseRecord {s : State} (r : Release) (hbusy : s.imageBusy = false) :
    exec (.releaseRecord r) s = .next ({ s with nvm := { s.nvm with release := some r } } : State).tryRelease := by
  show execReleaseRecord r s = _
  unfold execReleaseRecord
  rw [if_neg (by simp [hbusy])]

/-! ### An item's source (R451, R464) -/

/-- The state in which an item is taken: as it stands for one of a BULK frame, the DMA one item on for one of the host. -/
theorem exec_update_taken {s s0 : State} {i : UpdItem}
    (h : (i.host = none ∧ s0 = s) ∨ (∃ a, i.host = some a ∧ s.upd.dmaBusy = true ∧ 0 < s.upd.dmaLeft ∧ a = s.upd.dmaAt ∧
      s0 = { s with upd := { s.upd with dmaAt := s.upd.dmaAt + 64, dmaLeft := s.upd.dmaLeft - 1 } })) :
    exec (.update i) s = .next (s0.takeUpdate i) ∧ SameBut [.upd] s s0 ∧ s0.upd.stage = s.upd.stage ∧ s0.upd.total = s.upd.total ∧
    s0.upd.img = s.upd.img ∧ s0.imageBusy = s.imageBusy := by
  have hexec : exec (.update i) s = execUpdate i s := rfl
  rw [hexec, execUpdate]
  rcases h with ⟨hhost, rfl⟩ | ⟨a, hhost, hbusy, hleft, hat, rfl⟩
  · rw [hhost]
    exact ⟨rfl, .refl _ _, rfl, rfl, rfl, rfl⟩
  · rw [hhost]
    refine ⟨if_pos ?_, sameBut_of _ _ _ fun p => by cases p <;> simp [Part.agree], rfl, rfl, rfl, rfl⟩
    simp [State.fetches, hbusy, hleft, hat]

theorem exec_update_unfetched {s : State} {i : UpdItem} {a : DWord} (hhost : i.host = some a)
    (hno : s.upd.dmaBusy = false ∨ s.upd.dmaLeft = 0 ∨ a ≠ s.upd.dmaAt) : exec (.update i) s = .next s := by
  have hexec : exec (.update i) s = execUpdate i s := rfl
  rw [hexec, execUpdate, hhost]
  refine if_neg ?_
  unfold State.fetches
  rcases hno with h | h | h
  · simp [h]
  · simp [h]
  · simp [h]

/-- Settles O50: the items by what the staging holds, the two ends of the check, and a release by its mode. -/
theorem imagesAreStagedAndReleased : Obligations.ImagesAreStagedAndReleased := by
  unfold Obligations.ImagesAreStagedAndReleased
  intro s
  refine ⟨fun i s0 hphase hsource => ?_, fun i a hhost hno => exec_update_unfetched hhost hno, fun hstage => if_pos (by simp [hstage]),
    fun accept hstage => ⟨fun hreason hrelease hlanes => ?_, fun hreason => ?_⟩,
    fun r i hbusy hstage himage hfree hdigest hfor hreason => ⟨fun hmode => ?_, fun hmode => ?_⟩⟩
  · obtain ⟨hexec, hsame, hstage, htotal, himg, hbusy⟩ := exec_update_taken hsource
    have hnvm : s0.nvm = s.nvm := hsame .nvm (by simp)
    have hphase0 : s0.pwr.phase = .normal := by rw [show s0.pwr = s.pwr from hsame .pwr (by simp), hphase]
    rw [hexec, ← hstage, ← htotal, ← himg, ← hbusy, ← hnvm]
    refine ⟨fun herasing => by rw [State.takeUpdate_erasing herasing], fun hnot htag hfree => ⟨_, rfl, ?_⟩,
      fun hnot htag hcopies => by rw [State.takeUpdate_newTag hphase0 hnot htag, if_pos hcopies],
      fun htag hreceiving hrange hplace hfresh => ⟨_, rfl, ?_⟩,
      fun htag hreceiving hrange hheld => by rw [State.takeUpdate_chunk hphase0 hreceiving htag hrange, State.putChunk_held hreceiving hheld]⟩
    · rw [State.takeUpdate_newTag hphase0 hnot htag, if_neg (by simp [hfree])]
      exact ⟨rfl, rfl, rfl, rfl, sameBut_of _ _ _ fun p => by cases p <;> simp [Part.agree]⟩
    · rw [State.takeUpdate_chunk hphase0 hreceiving htag hrange]
      obtain ⟨hwritten, hothers, hafter, himage⟩ := State.putChunk_fresh (data := i.data) hrange hplace hfresh
      exact ⟨hwritten, hothers, hafter, himage, sameBut_of _ _ _ fun p => by cases p <;> simp [Part.agree]⟩
  · show execStagingVerifyDone accept s = _
    unfold execStagingVerifyDone
    rw [if_neg (by simp [hstage])]
    dsimp only
    rw [if_pos (by simpa using ⟨hreason, hlanes⟩)]
    unfold State.tryRelease
    dsimp only
    rw [hrelease]
  · have hexec : exec (.stagingVerifyDone accept) s =
        .next (({ s with upd := { s.upd with stage := .rejected } } : State).updReject (s.stageReason (imageOf s.stagedBytes))) := by
      show execStagingVerifyDone accept s = _
      unfold execStagingVerifyDone
      rw [if_neg (by simp [hstage])]
      dsimp only
      rw [if_neg fun h => hreason (of_decide_eq_true (Bool.and_eq_true_iff.mp h).1), if_neg hreason]
    refine ⟨_, hexec, ?_, sameBut_of _ _ _ fun p => by cases p <;> simp [Part.agree, State.updReject]⟩
    simp [State.updReject]
  · rw [exec_releaseRecord r hbusy, State.tryRelease_accepts (s := { s with nvm := { s.nvm with release := some r } }) rfl hbusy hstage
      himage hfree hdigest hfor hreason, if_neg (by simp [hmode])]
  · rw [exec_releaseRecord r hbusy, State.tryRelease_accepts (s := { s with nvm := { s.nvm with release := some r } }) rfl hbusy hstage
      himage hfree hdigest hfor hreason, if_pos (by simp [hmode])]
    obtain ⟨v, hv⟩ : ∃ v : State, v = { s with nvm := { s.nvm with release := some r } } := ⟨_, rfl⟩
    have hrec := v.bankRec_putBankRec fun b => { b with state := .fullPending }
    obtain ⟨hnvm, hput⟩ := v.putBankRec_effect fun b => { b with state := .fullPending }
    have hbank : v.bankRec = s.bankRec := by rw [hv]; rfl
    rw [← hv]
    refine ⟨_, rfl, (congrArg BankRec.state hrec).trans rfl, ?_, by rw [hv], ?_, ?_, ?_⟩
    · rw [← hbank]
      exact (congrArg BankRec.active hrec).trans rfl
    · exact (congrArg Nvm.bank0 hnvm).trans (by rw [hv])
    · exact (congrArg Nvm.bank1 hnvm).trans (by rw [hv])
    · have hsv : SameBut [.nvm, .upd] s v := by
        rw [hv]
        exact sameBut_of _ _ _ fun p => by cases p <;> simp [Part.agree]
      exact (hsv.trans (hput.mono (by simp))).trans (sameBut_of _ _ _ fun p => by cases p <;> simp [Part.agree])

end Sys2Proof.Machine
end

section
/-! SUPPORT. Records in the log (O48, O49; R515, R518, R519, R521). -/
namespace Sys2Proof.Machine

/-! ### What placing a record leaves of the log -/

/-- The log without its records, what counts them, and the records that wait: what a record that is placed leaves as it is. -/
def Log.books (g : Log) : Log :=
  { g with recs := [], occA := 0, occE := 0, occT := 0, tdrop := 0, lostA := 0, lostE := 0, newLostA := 0, newLostE := 0, restored := 0
           late := none }

@[simp] theorem Log.occ_books (g : Log) (c : RecClass) (n : Nat) : (g.occ c n).books = g.books := by
  cases c
  · rfl
  · rfl
  · rfl

theorem Log.cutFirst_books {g h : Log} {f : Record → Bool} (hcut : g.cutFirst f = some h) : h.books = g.books := by
  obtain ⟨i, -, rfl⟩ := Option.map_eq_some_iff.mp hcut
  rfl

theorem Log.room_books {g h : Log} (hroom : g.room = some h) : h.books = g.books := by
  have hevict {f : Record → Bool}
      (he : (g.cutFirst f).map (fun x => { x with tdrop := satInc 0xFFFFFFFF x.tdrop }) = some h) : h.books = g.books := by
    obtain ⟨x, hx, rfl⟩ := Option.map_eq_some_iff.mp he
    exact (rfl : _ = x.books).trans (Log.cutFirst_books hx)
  unfold Log.room at hroom
  dsimp only at hroom
  split at hroom
  · cases hroom
    rfl
  · split at hroom
    next x hx => exact hevict (Option.some.inj hroom ▸ hx)
    next => exact hevict hroom

@[simp] theorem Log.store_books (g : Log) (r : Record) (form : RecForm) : (g.store r form).1.books = g.books := by
  unfold Log.store
  split
  next h hroom => exact (Log.occ_books _ _ _).trans ((rfl : _ = h.books).trans (Log.room_books hroom))
  next =>
    split
    · rfl
    · rfl

@[simp] theorem Log.merge_books (g : Log) (r : Record) : (g.merge r).books = g.books := Log.occ_books _ _ _

@[simp] theorem Log.replaceLast_books (g : Log) (r : Record) : (g.replaceLast r).books = g.books := by
  unfold Log.replaceLast
  cases hcut : g.cutFirst (fun x => sameKey x r && x.form == .last) with
  | none => exact Log.occ_books _ _ _
  | some h => exact (Log.occ_books _ _ _).trans ((rfl : _ = h.books).trans (Log.cutFirst_books hcut))

@[simp] theorem Log.drop_books (g : Log) : g.drop.books = g.books := rfl

/-- A record that is placed changes the records and what counts them alone (R518). -/
@[simp] theorem Log.place_books (g : Log) (r : Record) : (g.place r).1.books = g.books := by
  unfold Log.place
  dsimp only
  (repeat' split) <;> simp

theorem State.logStore_log (s : State) (r : Record) : (s.logStore r).log = (s.log.place r).1 := by
  unfold State.logStore
  dsimp only
  split
  · simp
  · rfl

@[simp] theorem State.logPut_books (s : State) (r : Record) : (s.logPut r).log.books = s.log.books := by
  unfold State.logPut
  split
  · rfl
  · rw [State.logStore_log, Log.place_books]

theorem State.logPut_sameBut (s : State) (r : Record) : SameBut [.log, .mail, .host] s (s.logPut r) :=
  sameBut_of _ _ _ fun p => by cases p <;> simp [Part.agree]

/-! ### A record's place (R518, R519) -/

/-- With room a record takes a new place at the end. -/
theorem Log.store_room {g : Log} (r : Record) (form : RecForm) (hroom : g.recs.length < 32768) :
    (g.store r form).1.recs = g.recs ++ [{ r with form := form }] := by
  have hstore : (g.store r form).1 = ({ g with recs := g.recs ++ [{ r with form := form }] } : Log).occ r.cls r.count := by
    unfold Log.store Log.room
    rw [if_pos hroom]
  rw [hstore]
  cases r.cls
  · rfl
  · rfl
  · rfl

theorem Log.place_event {g : Log} {r : Record} (hcls : r.cls = .event) (hfill : g.recs.length < 16384) :
    (g.place r).1.recs = g.recs ++ [{ r with form := .original }] := by
  have hplace : g.place r = g.store r .original := by
    unfold Log.place
    rw [hcls]
    exact if_pos hfill
  rw [hplace]
  exact Log.store_room r .original (lt_trans hfill (by decide))

theorem Log.place_alarm_new {g : Log} {r : Record} (hcls : r.cls = .alarm) (hfill : g.recs.length < 32768)
    (hnew : ∀ x, x ∈ g.recs → sameKey x r = false) : (g.place r).1.recs = g.recs ++ [{ r with form := .original }] := by
  have hopened : g.recs.any (fun x => sameKey x r) = false := by
    rw [List.any_eq_false]
    exact fun x hx => by simp [hnew x hx]
  have hplace : g.place r = g.store r .original := by
    unfold Log.place
    rw [hcls]
    exact if_pos (by simp [hopened])
  rw [hplace]
  exact Log.store_room r .original hfill

theorem length_modFirst (p : Record → Bool) (f : Record → Record) (l : List Record) : (modFirst p f l).length = l.length := by
  induction l with
  | nil => rfl
  | cons a r ih =>
    unfold modFirst
    split
    · rfl
    · simp [ih]

/-- A further ALARM of a key that has its SUMMARY merges into it. -/
theorem Log.place_alarm_again {g : Log} {r x : Record} (hcls : r.cls = .alarm) (hmem : x ∈ g.recs) (hkey : sameKey x r = true)
    (hform : x.form ≠ .original) : g.place r = (g.merge r, false) := by
  have hopened : g.recs.any (fun x => sameKey x r) = true := List.any_eq_true.mpr ⟨x, hmem, hkey⟩
  have htail : g.recs.any (fun x => sameKey x r && x.form != .original) = true :=
    List.any_eq_true.mpr ⟨x, hmem, by simp [hkey, hform]⟩
  unfold Log.place
  rw [hcls]
  exact (if_neg (by simp [hopened])).trans (if_pos htail)

theorem Log.merge_alarm (g : Log) {r : Record} (hcls : r.cls = .alarm) :
    (g.merge r).recs.length = g.recs.length ∧ (g.merge r).occA = min 0xFFFFFFFF (g.occA + r.count) := by
  unfold Log.merge
  dsimp only
  rw [hcls]
  exact ⟨length_modFirst _ _ _, rfl⟩

/-! ### The lanes' copies (R515) -/

theorem firstSome_eq_some {α β : Type} {l : List α} {f : α → Option β} {b : β} (hall : ∀ a, a ∈ l → ∀ c, f a = some c → c = b)
    (hsome : ∃ a, a ∈ l ∧ f a = some b) : firstSome l f = some b := by
  induction l with
  | nil => exact absurd hsome (by simp)
  | cons a r ih =>
    unfold firstSome
    cases ha : f a with
    | some c => exact congrArg some (hall a (by simp) c ha)
    | none =>
      refine ih (fun d hd => hall d (by simp [hd])) ?_
      obtain ⟨d, hd, hfd⟩ := hsome
      rcases List.mem_cons.mp hd with rfl | hd
      · rw [ha] at hfd
        exact absurd hfd (by simp)
      · exact ⟨d, hd, hfd⟩

theorem firstSome_eq_none {α β : Type} {l : List α} {f : α → Option β} (h : ∀ a, a ∈ l → f a = none) : firstSome l f = none := by
  induction l with
  | nil => rfl
  | cons a r ih =>
    unfold firstSome
    rw [h a (by simp)]
    exact ih fun d hd => h d (by simp [hd])

/-- Each lane's copy with that of another acting lane equal to it. -/
def agreeingCopy (p : PerLane (Option Record)) (l : Lane) : Option Record :=
  match p.get l with
  | some r => if lanesList.any (fun m => m != l && p.get m == some r) then some { r with single := false } else none
  | none => none

theorem agreeingCopy_of {p : PerLane (Option Record)} {l m : Lane} {r : Record} (hne : l ≠ m) (hl : p.get l = some r)
    (hm : p.get m = some r) : agreeingCopy p l = some { r with single := false } := by
  unfold agreeingCopy
  rw [hl]
  exact if_pos (List.any_eq_true.mpr ⟨m, mem_lanesList m, by simp [hm, hne.symm]⟩)

theorem agreeingCopy_some {p : PerLane (Option Record)} {l : Lane} {r : Record} (h : agreeingCopy p l = some r) :
    ∃ (m : Lane) (q : Record), m ≠ l ∧ p.get l = some q ∧ p.get m = some q ∧ r = { q with single := false } := by
  unfold agreeingCopy at h
  cases hl : p.get l with
  | none =>
    rw [hl] at h
    exact absurd h (by simp)
  | some q =>
    rw [hl] at h
    dsimp only at h
    split at h
    next hany =>
      obtain ⟨m, -, hm⟩ := List.any_eq_true.mp hany
      simp only [Bool.and_eq_true, bne_iff_ne, beq_iff_eq] at hm
      exact ⟨m, q, hm.1, rfl, hm.2, (Option.some.inj h).symm⟩
    next => exact absurd h (by simp)

/-- Of three lanes two pairs share one. -/
theorem Lane.pairs_meet (l m x y : Lane) (hlm : l ≠ m) (hxy : x ≠ y) : x = l ∨ x = m ∨ y = l ∨ y = m := by
  have hlt (i : Lane) : i.idx < 3 := by cases i <;> decide
  have hinj : Function.Injective Lane.idx := fun i j h => by
    cases i <;> cases j <;> simp [Lane.idx] at h ⊢
  by_contra hno
  simp only [not_or] at hno
  obtain ⟨hxl, hxm, hyl, hym⟩ := hno
  have := hlt l
  have := hlt m
  have := hlt x
  have := hlt y
  have := hinj.ne hlm
  have := hinj.ne hxy
  have := hinj.ne hxl
  have := hinj.ne hxm
  have := hinj.ne hyl
  have := hinj.ne hym
  omega

/-- The copies that the logger takes: of the lanes that run or act. -/
def State.actingCopies (s : State) (copies : List (Lane × Record)) : PerLane (Option Record) :=
  (recCopies copies).mapL (fun l r => if l.inMask (s.running ||| s.acting) then r else none)

theorem State.agreedRec_eq {s : State} (hsingle : s.single = false) (copies : List (Lane × Record)) :
    s.agreedRec copies = firstSome lanesList (agreeingCopy (s.actingCopies copies)) := by
  unfold State.agreedRec
  rw [hsingle]
  rfl

/-- Two equal copies of acting lanes are the record. -/
theorem State.agreedRec_of {s : State} {copies : List (Lane × Record)} {l m : Lane} {r : Record} (hsingle : s.single = false) (hne : l ≠ m)
    (hl : l.inMask (s.running ||| s.acting) = true) (hm : m.inMask (s.running ||| s.acting) = true)
    (hcl : (recCopies copies).get l = some r) (hcm : (recCopies copies).get m = some r) :
    s.agreedRec copies = some { r with single := false } := by
  have hpl : (s.actingCopies copies).get l = some r := by simp [State.actingCopies, hl, hcl]
  have hpm : (s.actingCopies copies).get m = some r := by simp [State.actingCopies, hm, hcm]
  rw [State.agreedRec_eq hsingle]
  refine firstSome_eq_some (fun x _ c hc => ?_) ⟨l, mem_lanesList l, agreeingCopy_of hne hpl hpm⟩
  obtain ⟨y, q, hyx, hx, hy, rfl⟩ := agreeingCopy_some hc
  have hq : q = r := by
    rcases Lane.pairs_meet _ _ _ _ hne hyx with rfl | rfl | rfl | rfl
    · exact Option.some.inj (hy.symm.trans hpl)
    · exact Option.some.inj (hy.symm.trans hpm)
    · exact Option.some.inj (hx.symm.trans hpl)
    · exact Option.some.inj (hx.symm.trans hpm)
  rw [hq]

/-- Without two equal copies there is no record. -/
theorem State.agreedRec_none {s : State} {copies : List (Lane × Record)} (hsingle : s.single = false)
    (hdiffer : ∀ (l m : Lane) (r : Record), l ≠ m → (recCopies copies).get l = some r → (recCopies copies).get m ≠ some r) :
    s.agreedRec copies = none := by
  rw [State.agreedRec_eq hsingle]
  refine firstSome_eq_none fun x _ => ?_
  by_contra hsome
  obtain ⟨c, hc⟩ := Option.ne_none_iff_exists'.mp hsome
  obtain ⟨y, q, hyx, hx, hy, -⟩ := agreeingCopy_some hc
  have hcopy (z : Lane) (hz : (s.actingCopies copies).get z = some q) : (recCopies copies).get z = some q := by
    unfold State.actingCopies at hz
    rw [PerLane.get_mapL] at hz
    split at hz
    · exact hz
    · exact absurd hz (by simp)
  exact hdiffer x y q hyx.symm (hcopy x hx) (hcopy y hy)

/-- A record that is not of class TRACE is stored. -/
theorem exec_logRecordArrival_stored {s : State} {copies : List (Lane × Record)} {r : Record} (hagreed : s.agreedRec copies = some r)
    (hcls : r.cls ≠ .trace) (hlate : s.log.late = none) :
    exec (.logRecordArrival copies) s = .next (s.logPut r) ∧ (s.logPut r).log = (s.log.place r).1 := by
  constructor
  · show execLogRecordArrival copies s = _
    unfold execLogRecordArrival State.traceFilter
    rw [hagreed]
    simp [hcls]
  · unfold State.logPut
    rw [hlate]
    exact s.logStore_log r

/-- Settles O48: a record by its class, and copies that do not agree. -/
theorem recordsArrive : Obligations.RecordsArrive := by
  unfold Obligations.RecordsArrive
  intro s copies
  refine ⟨fun l m r hsingle hlate hne hl hm hcl hcm => ?_, fun hsingle hdiffer => ?_⟩
  · have hagreed := State.agreedRec_of hsingle hne hl hm hcl hcm
    refine ⟨fun hcls hfill => ?_, fun hcls hfill hnew => ?_, fun hcls hsome => ?_, fun hcls hfilter hrate => ?_⟩
    · obtain ⟨hexec, hlog⟩ := exec_logRecordArrival_stored hagreed (by simp [hcls]) hlate
      refine ⟨_, hexec, hlog ▸ Log.place_event hcls hfill, sameBut_of _ _ _ fun p => ?_⟩
      have hstore : s.logPut { r with single := false } = { s with log := (s.log.place { r with single := false }).1 } := by
        unfold State.logPut State.logStore
        rw [hlate]
        simp [hcls]
      rw [hstore]
      cases p <;> simp [Part.agree]
    · obtain ⟨hexec, hlog⟩ := exec_logRecordArrival_stored hagreed (by simp [hcls]) hlate
      exact ⟨_, hexec, hlog ▸ Log.place_alarm_new hcls hfill hnew, s.logPut_sameBut _⟩
    · obtain ⟨hexec, hlog⟩ := exec_logRecordArrival_stored hagreed (by simp [hcls]) hlate
      obtain ⟨x, hmem, hkey, hform⟩ := hsome
      obtain ⟨hlength, hocc⟩ := s.log.merge_alarm (r := { r with single := false }) hcls
      rw [Log.place_alarm_again (r := { r with single := false }) hcls hmem hkey hform] at hlog
      exact ⟨_, hexec, by rw [hlog, hlength], by rw [hlog, hocc], s.logPut_sameBut _⟩
    · show execLogRecordArrival copies s = _
      unfold execLogRecordArrival State.traceFilter
      rw [hagreed]
      simp [hcls, hfilter, Nat.not_lt.mpr hrate, satInc]
  · show execLogRecordArrival copies s = _
    unfold execLogRecordArrival
    rw [State.agreedRec_none hsingle hdiffer]

end Sys2Proof.Machine
end

section
/-! SUPPORT. Records leave the log (O49; R519, R522, R524, R525). -/
namespace Sys2Proof.Machine

/-! ### The record that is exported next (R522) -/

/-- Of two numbered records the one that is exported first. -/
def sooner (acc : Option (Record × Nat)) (x : Record × Nat) : Option (Record × Nat) :=
  match acc with
  | none => some x
  | some b => if exportBefore x.1 b.1 then some x else some b

theorem nextOf_eq (l : List Record) : nextOf l = ((l.zip (List.range l.length)).foldl sooner none).elim 0 Prod.snd := rfl

theorem exportBefore_code {a b : Record} :
    (exportBefore a b = true → a.cls.code ≤ b.cls.code) ∧ (exportBefore a b = false → b.cls.code ≤ a.cls.code) := by
  unfold exportBefore
  refine ⟨fun h => ?_, fun h => ?_⟩
  · simp only [Bool.or_eq_true, Bool.and_eq_true, decide_eq_true_eq, beq_iff_eq] at h
    omega
  · simp only [Bool.or_eq_false_iff, decide_eq_false_iff_not] at h
    omega

/-- The one exported first is one of the records, and none has a class before its. -/
theorem foldl_sooner (xs : List (Record × Nat)) (b : Record × Nat) :
    ∃ c, xs.foldl sooner (some b) = some c ∧ (c = b ∨ c ∈ xs) ∧ c.1.cls.code ≤ b.1.cls.code ∧
      ∀ x, x ∈ xs → c.1.cls.code ≤ x.1.cls.code := by
  induction xs generalizing b with
  | nil => exact ⟨b, rfl, .inl rfl, le_rfl, by simp⟩
  | cons x xs ih =>
    rw [List.foldl_cons]
    obtain ⟨hbefore, hafter⟩ := exportBefore_code (a := x.1) (b := b.1)
    cases hsooner : exportBefore x.1 b.1 with
    | true =>
      obtain ⟨c, hfold, hfrom, hle, hall⟩ := ih x
      refine ⟨c, by rw [sooner, if_pos hsooner, hfold], .inr (List.mem_cons.mpr hfrom), hle.trans (hbefore hsooner), fun y hy => ?_⟩
      rcases List.mem_cons.mp hy with rfl | hy
      · exact hle
      · exact hall y hy
    | false =>
      obtain ⟨c, hfold, hfrom, hle, hall⟩ := ih b
      refine ⟨c, by rw [sooner, if_neg (by simp [hsooner]), hfold], hfrom.imp_right (List.mem_cons_of_mem _), hle, fun y hy => ?_⟩
      rcases List.mem_cons.mp hy with rfl | hy
      · exact hle.trans (hafter hsooner)
      · exact hall y hy

/-- No record of a class before that of the next one to leave stands in the log. -/
theorem nextOf_least {l : List Record} {r : Record} (h : l[nextOf l]? = some r) : ∀ y, y ∈ l → r.cls.code ≤ y.cls.code := by
  intro y hy
  obtain ⟨j, hj⟩ := List.mem_iff_getElem?.mp hy
  have hjlt : j < l.length := (List.getElem?_eq_some_iff.mp hj).1
  have hnumbered (x : Record) (i : Nat) (hi : l[i]? = some x) : (x, i) ∈ l.zip (List.range l.length) := by
    refine List.mem_iff_getElem?.mpr ⟨i, ?_⟩
    rw [List.getElem?_zip_eq_some]
    exact ⟨hi, by simp [(List.getElem?_eq_some_iff.mp hi).1]⟩
  have hnumber (c : Record × Nat) (hc : c ∈ l.zip (List.range l.length)) : l[c.2]? = some c.1 := by
    obtain ⟨i, hi⟩ := List.mem_iff_getElem?.mp hc
    rw [List.getElem?_zip_eq_some] at hi
    obtain ⟨hrec, hnum⟩ := hi
    have hlt := (List.getElem?_eq_some_iff.mp hrec).1
    rw [List.getElem?_range hlt] at hnum
    rw [← Option.some.inj hnum, hrec]
  have hmem := hnumbered y j hj
  cases hzip : l.zip (List.range l.length) with
  | nil =>
    rw [hzip] at hmem
    exact absurd hmem (by simp)
  | cons b xs =>
    obtain ⟨c, hfold, hfrom, hle, hall⟩ := foldl_sooner xs b
    have hnext : nextOf l = c.2 := by
      rw [nextOf_eq, hzip, List.foldl_cons]
      exact congrArg (fun o : Option (Record × Nat) => o.elim 0 Prod.snd) hfold
    have hc : c ∈ l.zip (List.range l.length) := by
      rw [hzip]
      exact List.mem_cons.mpr hfrom
    rw [hnext, hnumber c hc] at h
    rw [← Option.some.inj h]
    rw [hzip] at hmem
    rcases List.mem_cons.mp hmem with hyb | hyx
    · rw [← hyb] at hle
      exact hle
    · exact hall _ hyx

/-! ### One record leaves the log (R519, R522) -/

theorem State.lostAlarm_none {s : State} (hA : s.log.newLostA = 0) (hE : s.log.newLostE = 0) : s.lostAlarm = s := by
  unfold State.lostAlarm
  dsimp only
  exact if_neg (by simp [hA, hE])

theorem State.exportOne_effect {s : State} {r x : Record} (hnext : s.log.recs[s.log.nextExport]? = some r) (hA : s.log.newLostA = 0)
    (hE : s.log.newLostE = 0) (hx : x = if r.srcNode = s.node then { r with lseq := s.log.expSeq } else r) :
    ∃ g : Log, s.exportOne = some (x, { s with log := g }) ∧ g.recs = s.log.recs.eraseIdx s.log.nextExport ∧
      g.expSeq = (if r.srcNode = s.node then s.log.expSeq + 1 else s.log.expSeq) ∧
      g.head = s.log.head ∧ g.tail = s.log.tail ∧ g.log2 = s.log.log2 ∧ g.sealed = s.log.sealed ∧ g.ring = s.log.ring := by
  obtain ⟨g, hg⟩ : ∃ g, g = if r.srcNode == s.node then
      { s.log.cut s.log.nextExport with expSeq := (s.log.cut s.log.nextExport).expSeq + 1 } else s.log.cut s.log.nextExport := ⟨_, rfl⟩
  have hfields : g.newLostA = 0 ∧ g.newLostE = 0 ∧ g.recs = s.log.recs.eraseIdx s.log.nextExport ∧
      g.expSeq = (if r.srcNode = s.node then s.log.expSeq + 1 else s.log.expSeq) ∧
      g.head = s.log.head ∧ g.tail = s.log.tail ∧ g.log2 = s.log.log2 ∧ g.sealed = s.log.sealed ∧ g.ring = s.log.ring := by
    rw [hg]
    by_cases hown : r.srcNode = s.node
    · rw [if_pos (by simp [hown]), if_pos hown]
      exact ⟨hA, hE, rfl, rfl, rfl, rfl, rfl, rfl, rfl⟩
    · rw [if_neg (by simp [hown]), if_neg hown]
      exact ⟨hA, hE, rfl, rfl, rfl, rfl, rfl, rfl, rfl⟩
  obtain ⟨hgA, hgE, hrest⟩ := hfields
  refine ⟨g, ?_, hrest⟩
  unfold State.exportOne
  dsimp only
  rw [hnext]
  dsimp only
  rw [← hg, State.lostAlarm_none (s := { s with log := g }) hgA hgE]
  simp only [beq_iff_eq, ← hx]

/-- A record enters the host ring at HEAD (R525). -/
theorem State.ringPut_effect (s : State) (r : Record) :
    (s.ringPut r).log = { s.log with ring := s.log.ring.set s.log.head r, head := (s.log.head + 1) % 2 ^ s.log.log2 } ∧
    SameBut [.log, .host] s (s.ringPut r) := by
  refine ⟨?_, sameBut_of _ _ _ fun p => by cases p <;> simp [Part.agree, State.ringPut]⟩
  unfold State.ringPut
  dsimp only
  split
  · simp
  · rfl

/-! ### A LOG record of another node (R524) -/

theorem Log.fields_of_books {g h : Log} (hbooks : h.books = g.books) :
    h.gapCnt = g.gapCnt ∧ h.gapNode = g.gapNode ∧ h.fullRun = g.fullRun ∧ h.ring = g.ring :=
  ⟨(congrArg Log.gapCnt hbooks :), (congrArg Log.gapNode hbooks :), (congrArg Log.fullRun hbooks :), (congrArg Log.ring hbooks :)⟩

/-- The gap before a forwarded record and its LSEQ are noted. -/
theorem State.logForwarded_effect (s : State) (src : BitVec 12) (r : Record) :
    (∀ l : Lane, l.inMask s.running = true →
      ((s.logForwarded src r).lane l).region.k.logSeq.get? src.toNat = some r.lseq ∧
      ((s.logForwarded src r).lane l).region.elems = (s.lane l).region.elems) ∧
    (∀ p, s.leadK.logSeq.get? src.toNat = some p → (r.lseq - p - 1).toNat < 2147483648 → (r.lseq - p - 1).toNat ≠ 0 →
      (s.logForwarded src r).log.gapCnt = min 65535 (s.log.gapCnt + (r.lseq - p - 1).toNat) ∧
      (s.logForwarded src r).log.gapNode = src) ∧
    (∀ l : Lane, l.inMask s.running = false → (s.logForwarded src r).lane l = s.lane l) ∧
    SameBut [.log, .lanes, .mail, .host] s (s.logForwarded src r) := by
  obtain ⟨gap, hgap⟩ : ∃ gap, gap = match s.leadK.logSeq.get? src.toNat with
    | some p => missingSeq p r.lseq
    | none => 0 := ⟨_, rfl⟩
  obtain ⟨u, hu⟩ : ∃ u : State, u = if gap = 0 then s else
      { s with log := { s.log with gapCnt := satAdd 65535 s.log.gapCnt gap, gapNode := src } } := ⟨_, rfl⟩
  have hforward : s.logForwarded src r = (u.modRunK fun k => { k with logSeq := k.logSeq.set src.toNat r.lseq }).logPut r := by
    rw [hu, hgap]
    rfl
  have hlanes : u.lanes = s.lanes := by
    rw [hu]
    split
    · rfl
    · rfl
  have hrunning : u.running = s.running := by rw [State.running, State.running]; simp only [State.lane, hlanes]
  have hlane (l : Lane) : (s.logForwarded src r).lane l = if l.inMask s.running then
      { s.lane l with region := { (s.lane l).region with k := { (s.lane l).region.k with
        logSeq := (s.lane l).region.k.logSeq.set src.toNat r.lseq } } } else s.lane l := by
    rw [hforward, State.lane, (State.logPut_frame _ _).2.2.1]
    refine (u.lane_modRunK l _).trans ?_
    rw [hrunning, State.lane, hlanes]
    rfl
  refine ⟨fun l hl => ?_, fun p hp hlt hne => ?_, fun l hl => ?_, sameBut_of _ _ _ fun p => by cases p <;> simp [Part.agree]⟩
  · rw [hlane, if_pos hl]
    exact ⟨AMap.get?_set_self _ _ _, rfl⟩
  · have hmissing : gap = (r.lseq - p - 1).toNat := by
      rw [hgap, hp]
      exact if_pos hlt
    have hbooks : (s.logForwarded src r).log.books = u.log.books := by
      rw [hforward, State.logPut_books]
      simp
    have hlog : u.log = { s.log with gapCnt := satAdd 65535 s.log.gapCnt gap, gapNode := src } := by
      rw [hu, if_neg (hmissing ▸ hne)]
    obtain ⟨hcnt, hnode, -, -⟩ := Log.fields_of_books hbooks
    rw [hcnt, hnode, hlog, hmissing]
    exact ⟨rfl, rfl⟩
  · rw [hlane, if_neg (by simp [hl])]

/-- Settles O49: a record that leaves into the ring or a worker's payload, a forwarded record, and the alarm of a full ring. -/
theorem recordsLeaveTheLog : Obligations.RecordsLeaveTheLog := by
  unfold Obligations.RecordsLeaveTheLog
  intro s
  refine ⟨fun r x hnext hA hE hx => ?_, fun src r hticks hrole => ?_, fun hen hfull hrun => ?_, fun hrun => ?_⟩
  · obtain ⟨g, hexport, hrecs, hseq, hhead, htail, hlog2, hsealed, -⟩ := State.exportOne_effect hnext hA hE hx
    have hcls : x.cls = r.cls := by
      rw [hx]
      split
      · rfl
      · rfl
    refine ⟨fun hrestored => ?_, fun hrole hen hfull hmaster => ?_, fun hrole hticks hlatch halarm => ?_, fun hrole hticks hopen => ?_⟩
    · have hall : s.log.nextExport = nextOf s.log.recs := by rw [Log.nextExport, if_pos hrestored]
      exact nextOf_least (hall ▸ hnext)
    · obtain ⟨hring, hsame⟩ := ({ s with log := g } : State).ringPut_effect x
      refine ⟨_, ?_, ?_, ?_, ?_, ?_, ?_, (sameBut_of _ _ _ fun p => by cases p <;> simp [Part.agree]).trans hsame⟩
      · show execLogExport s = _
        unfold execLogExport
        rw [if_pos (by simp [hrole]), if_neg (by simp [hen, hfull, hmaster]), hexport]
      · rw [hring]
        exact hrecs
      · rw [hring, hhead]
        exact AMap.get?_set_self _ _ _
      · rw [hring]
        simp [hhead, hlog2]
      · rw [hring]
        exact htail
      · rw [hring]
        exact hseq
    · show execLogExport s = _
      unfold execLogExport
      rw [if_neg (by simp [hrole]), if_pos (by simp [hrole, hticks]), hexport]
      exact if_pos (by simp [hlatch, hcls, halarm])
    · refine ⟨{ s with log := { g with sealed := g.sealed ++ [x] } }, ?_, hrecs, congrArg (· ++ [x]) hsealed, hseq, sameBut_of _ _ _ fun p => by cases p <;> simp [Part.agree]⟩
      show execLogExport s = _
      unfold execLogExport
      rw [if_neg (by simp [hrole]), if_pos (by simp [hrole, hticks]), hexport]
      refine if_neg ?_
      rw [hcls]
      rcases hopen with h | h
      · simp [h]
      · simp [h]
  · refine ⟨s.logForwarded src r, ?_, s.logForwarded_effect src r⟩
    show execLog src [r] s = _
    unfold execLog
    rw [if_pos (by simp [hticks, hrole])]
    rfl
  · have hbooks : ((({ s with log := { s.log with fullRun := 1025 } } : State).alarmNode 0xF9 []).log).books =
        ({ s.log with fullRun := 1025 } : Log).books := State.logPut_books _ _
    obtain ⟨-, -, hfullRun, hring⟩ := Log.fields_of_books hbooks
    refine ⟨_, if_pos (by simp [hen, hfull, hrun]), hfullRun, hring,
      sameBut_of _ _ _ fun p => by cases p <;> simp [Part.agree]⟩
  · exact if_neg (by simp [hrun])

end Sys2Proof.Machine
end

section
/-! SUPPORT. Manager pairs (O47; R378-R385). -/
namespace Sys2Proof.Machine

/-! ### Control given up (R383) -/

/-- A unit that gives up shows its claim, SYNC and cause. -/
theorem State.gaveUp_effect (s : State) (cause : BitVec 4) (claim sync : BitVec 2) :
    (s.gaveUp cause claim sync).ms = { s.ms with role := if claim = 2 then .active else .standby } ∧
    (s.gaveUp cause claim sync).pair.claim = claim ∧ (s.gaveUp cause claim sync).pair.sync = sync ∧
    (s.gaveUp cause claim sync).pair.yieldCause = cause ∧
    (s.gaveUp cause claim sync).pair.peerClaim = s.pair.peerClaim ∧ (s.gaveUp cause claim sync).pair.peerSync = s.pair.peerSync ∧
    (s.gaveUp cause claim sync).pair.peerView = s.pair.peerView ∧ (s.gaveUp cause claim sync).pair.peerValid = s.pair.peerValid ∧
    (s.gaveUp cause claim sync).pair.peerMiss = s.pair.peerMiss ∧
    SameBut [.ms, .pair, .log, .mail, .host] s (s.gaveUp cause claim sync) := by
  refine ⟨?_, ?_, ?_, ?_, ?_, ?_, ?_, ?_, ?_, sameBut_of _ _ _ fun p => by cases p <;> simp [Part.agree]⟩ <;> simp [State.gaveUp]

theorem exec_yield {s : State} {cause : Fin 7} (hpair : s.isPairUnit = true) (hclaim : s.pair.claim = 1)
    (hyields : s.yields cause.val = true) : exec (.yield cause) s = .next (s.yieldBy (BitVec.ofNat 4 cause.val)) := by
  show execYield cause s = _
  unfold execYield
  exact if_pos (by simp [hpair, hclaim, hyields])

/-! ### The peer is read (R378, R384) -/

/-- What a unit keeps of its peer's status word. -/
def State.Read (p : PairStat) (t : State) : Prop :=
  t.pair.peerClaim = p.claim ∧ t.pair.peerSync = p.sync ∧ t.pair.peerView = p.view ∧ t.pair.peerValid = true ∧ t.pair.peerMiss = 0

/-- The peer's status is noted, whatever the unit makes of it. -/
theorem State.readPeer_read (s : State) (sh : Shadow) : State.Read sh.stat (s.readPeer sh) := by
  unfold State.readPeer
  dsimp only
  split
  · split
    · exact ⟨rfl, rfl, rfl, rfl, rfl⟩
    · obtain ⟨-, -, -, -, hclaim, hsync, hview, hvalid, hmiss, -⟩ := State.gaveUp_effect { s with pair := { s.pair with
        peerClaim := sh.stat.claim, peerSync := sh.stat.sync, peerView := sh.stat.view, peerVoting := sh.stat.lanesVoting
        peerValid := true, peerMiss := 0, seenActive := s.pair.seenActive || sh.stat.claim == 1 || sh.stat.claim == 2 } } 6 0 2
      exact ⟨hclaim, hsync, hview, hvalid, hmiss⟩
  · (repeat' split) <;> exact ⟨rfl, rfl, rfl, rfl, rfl⟩

theorem State.readPeer_sameBut (s : State) (sh : Shadow) : SameBut [.ms, .pair, .log, .mail, .host] s (s.readPeer sh) :=
  sameBut_of _ _ _ fun p => by cases p <;> simp [Part.agree]

/-- Both units ACTIVE: the one that is not 0x000 gives up. -/
theorem State.readPeer_dual {s : State} {sh : Shadow} (hclaim : s.pair.claim = 1) (hpeer : sh.stat.claim = 1) :
    (s.node ≠ 0 → (s.readPeer sh).pair.claim = 0 ∧ (s.readPeer sh).pair.sync = 2 ∧ (s.readPeer sh).pair.yieldCause = 6 ∧
      (s.readPeer sh).ms.role = .standby) ∧
    (s.node = 0 → (s.readPeer sh).pair.claim = 1 ∧ (s.readPeer sh).ms = s.ms) := by
  obtain ⟨u, hu⟩ : ∃ u : State, u = { s with pair := { s.pair with
    peerClaim := sh.stat.claim, peerSync := sh.stat.sync, peerView := sh.stat.view, peerVoting := sh.stat.lanesVoting
    peerValid := true, peerMiss := 0, seenActive := s.pair.seenActive || sh.stat.claim == 1 || sh.stat.claim == 2 } } := ⟨_, rfl⟩
  have hboth : (u.pair.claim == 1 && sh.stat.claim == 1) = true := by simp [hu, hclaim, hpeer]
  have hread : s.readPeer sh = if u.node == 0 then u else u.gaveUp 6 0 2 := by
    rw [hu] at hboth ⊢
    exact if_pos hboth
  have hnode : u.node = s.node := by rw [hu]; rfl
  rw [hread, hnode]
  refine ⟨fun hne => ?_, fun he => ?_⟩
  · rw [if_neg (by simpa using hne)]
    obtain ⟨hms, hzero, hsync, hcause, -⟩ := u.gaveUp_effect 6 0 2
    exact ⟨hzero, hsync, hcause, by rw [hms]; rfl⟩
  · rw [if_pos (by simp [he]), hu]
    exact ⟨hclaim, rfl⟩

/-! ### A copy is gathered (R380) -/

theorem State.takeCopy_part {s : State} {items : List CopyItem} {n : Tick} (htick : s.pair.copyTick = some n)
    (hpart : covered (s.pair.copyGot ++ items) 1 (topKey s.area.elems) = false) :
    s.takeCopy items = if 64 < (s.ms.tick - n).toNat then
      ({ s with pair := { s.pair with copyGot := s.pair.copyGot ++ items } } : State).copyPairFailed
      else { s with pair := { s.pair with copyGot := s.pair.copyGot ++ items } } := by
  unfold State.takeCopy
  rw [htick]
  dsimp only
  rw [hpart]
  rfl

theorem State.copyPairFailed_effect (s : State) :
    s.copyPairFailed.pair = { s.pair with sync := 2, copyTick := none, copyGot := [], shadows := [] } ∧
    SameBut [.pair, .log, .mail, .host] s s.copyPairFailed :=
  ⟨by simp [State.copyPairFailed], sameBut_of _ _ _ fun p => by cases p <;> simp [Part.agree, State.copyPairFailed]⟩

/-! ### A promotion (R382) -/

/-- A slot's boundary lock at a restart (R376). -/
def Ev.restartSlot (v : Ev) (p : Nat × SlotCfg) : Ev :=
  match p.2.kind with
  | .proxy e => v.modElem e (fun x => { x with lock := .boundary, owner := BitVec.ofNat 14 p.1 })
  | .lent e =>
    if (v.elem e).lock == .boundary then v
    else v.modElem e (fun x => { x with lock := .boundary, owner := BitVec.ofNat 14 p.1 })

theorem Ev.restartSlot_elems (v : Ev) (p : Nat × SlotCfg) : ∃ elems, (v.restartSlot p).c = { v.c with elems := elems } := by
  unfold Ev.restartSlot
  split
  · exact ⟨_, rfl⟩
  · split
    · exact ⟨v.c.elems, rfl⟩
    · exact ⟨_, rfl⟩

/-- The restart of the boundary locks changes elements alone (R376). -/
theorem Ev.bndRestart_elems (v : Ev) : ∃ elems, v.bndRestart.c = { v.c with elems := elems, k := { v.c.k with granted := [] } } := by
  have hfold (ps : List (Nat × SlotCfg)) (w : Ev) : ∃ elems, (ps.foldl Ev.restartSlot w).c = { w.c with elems := elems } := by
    induction ps generalizing w with
    | nil => exact ⟨w.c.elems, rfl⟩
    | cons p ps ih =>
      obtain ⟨first, hfirst⟩ := w.restartSlot_elems p
      obtain ⟨elems, helems⟩ := ih (w.restartSlot p)
      exact ⟨elems, by rw [List.foldl_cons, helems, hfirst]⟩
  exact hfold v.area.slots { v with c := { v.c with k := { v.c.k with granted := [] } } }

/-- A lane's region at a promotion. -/
theorem promoteRegion_effect (s : State) (synced ah : Bool) (c : Carried) :
    (promoteRegion s synced ah c).k.elemArms = [] ∧ (promoteRegion s synced ah c).k.routeArms = [] ∧
    (promoteRegion s synced ah c).k.resetArm = none ∧ (promoteRegion s synced ah c).k.lockArm = none ∧
    (synced = true → (promoteRegion s synced ah c).elems = c.elems ∧ (promoteRegion s synced ah c).routes = c.routes) ∧
    (synced = true → ah = false → (promoteRegion s synced ah c).auths = [] ∧ (promoteRegion s synced ah c).limits = []) ∧
    (synced = false → (promoteRegion s synced ah c).auths = [] ∧
      (promoteRegion s synced ah c).routes = s.area.routes.mapV (fun _ _ => RouteRec.idle)) := by
  cases synced with
  | true =>
    cases ah with
    | true => exact ⟨rfl, rfl, rfl, rfl, fun _ => ⟨rfl, rfl⟩, fun _ h => absurd h (by decide), fun h => absurd h (by decide)⟩
    | false => exact ⟨rfl, rfl, rfl, rfl, fun _ => ⟨rfl, rfl⟩, fun _ _ => ⟨rfl, rfl⟩, fun h => absurd h (by decide)⟩
  | false =>
    obtain ⟨v, hv⟩ : ∃ v : Ev, promoteRegion s false ah c = v.bndRestart.c ∧ v.c.k.elemArms = [] ∧ v.c.k.routeArms = [] ∧
        v.c.k.resetArm = none ∧ v.c.k.lockArm = none ∧ v.c.auths = [] ∧
        v.c.routes = s.area.routes.mapV (fun _ _ => RouteRec.idle) := ⟨_, rfl, rfl, rfl, rfl, rfl, rfl, rfl⟩
    obtain ⟨hpromote, helemArms, hrouteArms, hresetArm, hlockArm, hauths, hroutes⟩ := hv
    obtain ⟨elems, hc⟩ := v.bndRestart_elems
    rw [hpromote, hc]
    exact ⟨helemArms, hrouteArms, hresetArm, hlockArm, fun h => absurd h (by decide), fun h => absurd h (by decide),
      fun _ => ⟨hauths, hroutes⟩⟩

/-- The region of lane `l` at a promotion, as the row writes it in its turn (R382). -/
def State.promoteLane (synced ah : Bool) (s : State) (l : Lane) : State :=
  s.modLaneSt l (fun x => { x with region := promoteRegion s synced ah x.region })

/-- Each lane of a list is promoted once, under the image in force. -/
theorem State.foldPromote_lane (synced ah : Bool) (ls : List Lane) (hn : ls.Nodup) (s : State) (l : Lane) :
    (l ∈ ls → ∃ u : State, u.upd = s.upd ∧ (ls.foldl (State.promoteLane synced ah) s).lane l =
      { s.lane l with region := promoteRegion u synced ah (s.lane l).region }) ∧
    (l ∉ ls → (ls.foldl (State.promoteLane synced ah) s).lane l = s.lane l) := by
  induction ls generalizing s with
  | nil => exact ⟨fun h => absurd h (by simp), fun _ => rfl⟩
  | cons m r ih =>
    obtain ⟨hm, hr⟩ := List.nodup_cons.mp hn
    obtain ⟨hin, hout⟩ := ih hr (s.promoteLane synced ah m)
    rw [List.foldl_cons]
    by_cases h : l = m
    · subst h
      rw [hout hm]
      exact ⟨fun _ => ⟨s, rfl, State.lane_modLaneSt_self _ _ _⟩, fun hl => absurd (by simp) hl⟩
    · have hlane : (s.promoteLane synced ah m).lane l = s.lane l := State.lane_modLaneSt_ne _ _ _ _ h
      rw [hlane] at hin hout
      exact ⟨fun hl => hin ((List.mem_cons.mp hl).resolve_left h), fun hl => hout fun hr => hl (List.mem_cons_of_mem _ hr)⟩

/-- A promotion: the role, the claim, the counter, and each running lane's region. -/
theorem State.promote_effect (s : State) (cause : Byte) :
    (s.promote cause).ms = { s.ms with role := .active } ∧ (s.promote cause).pair.claim = 1 ∧
    (s.promote cause).pair.actSince = s.ms.tick ∧ (s.promote cause).pair.promoteCnt = satInc 255 s.pair.promoteCnt ∧
    (∀ l : Lane, l.inMask s.running = true → ∃ u : State, u.area = s.area ∧ ((s.promote cause).lane l).region =
      promoteRegion u (s.pair.sync == 1) (decide (s.area.auth.validity ≤ s.pair.ahRun)) (s.lane l).region) ∧
    (∀ l : Lane, l.inMask s.running = false → (s.promote cause).lane l = s.lane l) ∧
    SameBut [.ms, .pair, .lanes, .log, .mail, .host] s (s.promote cause) := by
  obtain ⟨u, hu⟩ : ∃ u, u = (lanesOf s.running).foldl
    (State.promoteLane (s.pair.sync == 1) (decide (s.area.auth.validity ≤ s.pair.ahRun))) s := ⟨_, rfl⟩
  have hlane := State.foldPromote_lane (s.pair.sync == 1) (decide (s.area.auth.validity ≤ s.pair.ahRun)) _ (lanesOf_nodup s.running) s
  have hsame : SameBut [.lanes] s u := by
    rw [hu]
    exact SameBut.foldl (fun s l => sameBut_of _ _ _ fun p => by cases p <;> simp [Part.agree, State.promoteLane]) _ _
  rw [← hu] at hlane
  have hpromote : s.promote cause = ({ u.claimActive with pair := { u.claimActive.pair with
      promoteCnt := satInc 255 u.claimActive.pair.promoteCnt } } : State).alarmNode 0xE2 [cause] := by
    rw [hu]
    rfl
  have hms : u.ms = s.ms := hsame .ms (by simp)
  have hpair : u.pair = s.pair := hsame .pair (by simp)
  have hlanes (l : Lane) : (s.promote cause).lane l = u.lane l := by
    rw [hpromote, State.lane, (State.alarmNode_frame _ _ _).2.2.1]
    rfl
  refine ⟨?_, ?_, ?_, ?_, fun l hl => ?_, fun l hl => ?_, ?_⟩
  · simp [hpromote, State.claimActive, hms]
  · simp [hpromote, State.claimActive]
  · simp [hpromote, State.claimActive, hms]
  · simp [hpromote, State.claimActive, hpair]
  · obtain ⟨v, hv, hregion⟩ := (hlane l).1 ((mem_lanesOf _ _).mpr hl)
    exact ⟨v, by rw [State.area, hv]; rfl, by rw [hlanes, hregion]⟩
  · rw [hlanes, (hlane l).2 (by simp [hl])]
  · rw [hpromote]
    exact (hsame.mono (by simp)).trans (sameBut_of _ _ _ fun p => by cases p <;> simp [Part.agree, State.claimActive])

/-- Settles O47: the peer's status, a copy's items, the claim, the promotions and the yields. -/
theorem managerPairs : Obligations.ManagerPairs := by
  unfold Obligations.ManagerPairs
  intro s hticks hpair
  refine ⟨fun p => ?_, fun items n hclaim hsync htick hpart => ?_, fun hclaim hmode hquorum => ⟨fun hseen hown => ?_, fun cause hcause => ?_⟩,
    fun hclaim => ⟨fun hlockout => ?_, fun hsilent => ?_, fun hrun hvalid hsync hvoting => ?_, fun hunder => ?_, fun hlow hvalid hsync => ?_⟩⟩
  · obtain ⟨hpeerClaim, hpeerSync, hpeerView, hpeerValid, hpeerMiss⟩ := s.readPeer_read ⟨s.ms.tick - 1, [], [], p⟩
    exact ⟨_, if_pos (by simp [hticks, hpair]), hpeerClaim, hpeerSync, hpeerView, hpeerValid, hpeerMiss,
      fun hclaim hpeer => (State.readPeer_dual hclaim hpeer).1, fun hclaim hpeer => (State.readPeer_dual hclaim hpeer).2,
      s.readPeer_sameBut _⟩
  · have hexec : exec (.pairCopy items) s = .next (s.takeCopy items) := if_pos (by simp [hticks, hpair, hclaim, hsync])
    rw [hexec, State.takeCopy_part htick hpart]
    refine ⟨fun hshort => by rw [if_neg (Nat.not_lt.mpr hshort)], fun hlong => ⟨_, rfl, ?_⟩⟩
    rw [if_pos hlong]
    obtain ⟨u, hu⟩ : ∃ u : State, u = { s with pair := { s.pair with copyGot := s.pair.copyGot ++ items } } := ⟨_, rfl⟩
    obtain ⟨hfailed, hsame⟩ := u.copyPairFailed_effect
    have hsu : SameBut [.pair, .log, .mail, .host] s u := by
      rw [hu]
      exact sameBut_of _ _ _ fun p => by cases p <;> simp [Part.agree]
    rw [← hu, hfailed]
    exact ⟨rfl, rfl, rfl, rfl, hsu.trans hsame⟩
  · have hdue : s.claimDue = true := by
      unfold State.claimDue
      dsimp only
      rw [hpair, hclaim, hseen, bne_iff_ne.mpr hmode, decide_eq_true hown, decide_eq_true hquorum]
      rfl
    exact ⟨_, if_pos (by simp [hticks, hdue]), rfl, rfl, rfl, rfl, sameBut_of _ _ _ fun p => by cases p <;> simp [Part.agree, State.claimActive]⟩
  · have hpromotes : s.promotes cause = true := by
      cases cause with
      | peerMissing => simpa [State.promotes] using hcause
      | peerOut => simpa [State.promotes] using hcause
      | peerYielding => simpa [State.promotes, and_assoc] using hcause
    have hdue : s.promoteDue cause = true := by simp [State.promoteDue, hpair, hclaim, hmode, hquorum, hpromotes]
    obtain ⟨hms, hone, hsince, hcnt, hregion, hother, hsame⟩ := s.promote_effect (promoteCode cause)
    refine ⟨_, if_pos (by simp [hticks, hdue]), hms, hone, hsince, hcnt, fun l hl => ?_, hother, hsame⟩
    obtain ⟨u, harea, hl⟩ := hregion l hl
    obtain ⟨helemArms, hrouteArms, hresetArm, hlockArm, hkept, hauths, hfresh⟩ := promoteRegion_effect u (s.pair.sync == 1)
        (decide (s.area.auth.validity ≤ s.pair.ahRun)) (s.lane l).region
    rw [harea] at hfresh
    rw [hl]
    exact ⟨helemArms, hrouteArms, hresetArm, hlockArm, fun hsync => hkept (by simp [hsync]),
      fun hsync hrun => hauths (by simp [hsync]) (by simpa using hrun), fun hsync => hfresh (by simpa using hsync)⟩
  · obtain ⟨hms, hthree, hsync, hcause, -, -, -, -, -, hsame⟩ := s.gaveUp_effect 1 3 0
    exact ⟨_, exec_yield hpair hclaim (by simp [State.yields, hlockout]), hthree, hsync, hcause, hms, hsame⟩
  · obtain ⟨hms, hzero, hsync, hcause, -, -, -, -, -, hsame⟩ := s.gaveUp_effect 2 0 0
    exact ⟨_, exec_yield hpair hclaim (by simpa [State.yields] using hsilent), hzero, hsync, hcause, hms, hsame⟩
  · obtain ⟨hms, htwo, hkept, hcause, -, -, -, -, -, hsame⟩ := s.gaveUp_effect 3 2 s.pair.sync
    exact ⟨_, exec_yield hpair hclaim (by simp [State.yields, hrun, hvalid, hsync, hvoting]), htwo, hkept, hcause, hms, hsame⟩
  · obtain ⟨hms, hzero, hsync, hcause, -, -, -, -, -, hsame⟩ := s.gaveUp_effect 5 0 0
    exact ⟨_, exec_yield hpair hclaim (by simpa [State.yields] using hunder), hzero, hsync, hcause, hms, hsame⟩
  · obtain ⟨hms, htwo, hkept, hcause, -, -, -, -, -, hsame⟩ := s.gaveUp_effect 4 2 s.pair.sync
    exact ⟨_, exec_yield hpair hclaim (by simp [State.yields, hlow, hvalid, hsync]), htwo, hkept, hcause, hms, hsame⟩

end Sys2Proof.Machine
end

section
/-! SUPPORT. Gallery switches (O45; R350, R353-R355, R384). -/
namespace Sys2Proof.Machine

/-! ### An announcement (R353) -/

/-- What a node notes of an announcement that it answers. -/
def State.noted (s : State) (g : Fin 8) (n a : Tick) (unit : BitVec 12) : Switch :=
  { g := g, n := n, a := a, unit := unit, own := false, src := none, acks := [], nacks := []
    ack := if s.nackReason g n = 0 then 1 else 2, reason := s.nackReason g n
    digest := galleryDigest (s.gal.gals[g]).tables, decision := 0 }

theorem State.announced_free {s : State} (g : Fin 8) (n a : Tick) (unit : BitVec 12) (hsw : s.gal.sw = none) :
    s.announced g n a unit = if s.nackReason g n = 3 then { s with gal := { s.gal with nackOut := some (g, n, 3) } }
      else { s with gal := { s.gal with
        pending := if s.nackReason g n = 0 then some g else none, swTick := n, sw := some (s.noted g n a unit) } } := by
  unfold State.announced
  rw [hsw]
  rfl

theorem State.nackReason_pending {s : State} (g : Fin 8) (n : Tick) (hpending : s.gal.pending ≠ none) : s.nackReason g n = 3 :=
  if_pos (Option.isSome_iff_ne_none.mpr hpending)

/-- Without a switch under way the time of the announcement and the gallery's state decide. -/
theorem State.nackReason_free {s : State} (g : Fin 8) (n : Tick) (hpending : s.gal.pending = none) :
    s.nackReason g n = if ¬ 0 < (n - (s.ms.tick + 1)).toInt then 4
      else match (s.gal.gals[g]).state with | .empty => 1 | .loading => 2 | .valid => 0 := by
  unfold State.nackReason
  rw [if_neg (by simp [hpending])]
  by_cases htime : 0 < (n - (s.ms.tick + 1)).toInt
  · refine (if_neg (by rw [tickGt, tickDiff, decide_eq_true htime]; decide)).trans (Eq.trans ?_ (if_neg (not_not_intro htime)).symm)
    cases (s.gal.gals[g]).state with
    | empty | loading | valid => rfl
  · rw [if_pos (by rw [tickGt, tickDiff, decide_eq_false htime]; rfl), if_pos htime]

theorem State.nackReason_free_ne {s : State} (g : Fin 8) (n : Tick) (hpending : s.gal.pending = none) : s.nackReason g n ≠ 3 := by
  rw [State.nackReason_free g n hpending]
  split
  · decide
  · split
    · decide
    · decide
    · decide

theorem exec_galleryAnnounce {s : State} (g : Fin 8) (n a : Tick) {unit : BitVec 12} (hticks : s.inTicks = true) (hother : unit ≠ s.node)
    (hheard : unit = 0 ∨ 0 ∉ s.pair.unitsNow) :
    exec (.galleryAnnounce g n a unit) s = .next (s.announced g n a unit).reseal := by
  refine if_neg ?_
  rw [Bool.or_eq_true, Bool.or_eq_true, not_or, not_or]
  refine ⟨⟨by simp [hticks], by simpa using hother⟩, ?_⟩
  rcases hheard with h | h
  · simp [h]
  · rw [Bool.and_eq_true, List.contains_iff_mem]
    exact fun hboth => h hboth.2

/-- The frames that wait are sealed again with what the gallery registers show. -/
theorem State.reseal_gal (s : State) (gal : Gal) :
    ({ s with gal := gal } : State).reseal.gal =
      { gal with nackSealed := ({ s with gal := gal } : State).reseal.gal.nackSealed } ∧
    Resealed s ({ s with gal := gal } : State).reseal ∧
    SameBut [.gal, .buf, .pair, .lanes] s ({ s with gal := gal } : State).reseal := by
  obtain ⟨hresealed, hgal, hsame⟩ := ({ s with gal := gal } : State).reseal_resealed
  refine ⟨hgal, hresealed, ?_⟩
  have hs : SameBut [.gal, .buf, .pair, .lanes] s { s with gal := gal } := sameBut_of _ _ _ fun p => by cases p <;> simp [Part.agree]
  exact hs.trans (hsame.mono (by simp))

/-! ### The decision (R354) -/

/-- The nodes whose acknowledgement of a switch is wanting, or who refused it (R354). -/
def State.wanting (s : State) (w : Switch) : List (BitVec 12) :=
  (s.galleryNodes w.g).filter (fun n =>
    !(w.acks.any (fun a => a.1 == n && some a.2 == s.expectedDigest n w.g)) || w.nacks.any (fun x => x.1 == n))

/-- GO, or CANCEL for want of an acknowledgement, or CANCEL. -/
def State.switchVerdict (s : State) (w : Switch) : BitVec 2 :=
  if w.own && (s.wanting w).isEmpty && w.nacks.isEmpty then 1 else if w.own && w.nacks.isEmpty then 2 else 3

theorem State.switchVerdict_go (s : State) (w : Switch) : s.switchVerdict w = 1 ↔ w.own = true ∧ w.nacks = [] ∧
    ∀ n, n ∈ s.galleryNodes w.g → ∃ a, a ∈ w.acks ∧ a.1 = n ∧
      (s.area.expDigest.find? (fun e => e.1 == n && e.2.1 == w.g)).map (fun e => e.2.2) = some a.2 := by
  have hgo : s.switchVerdict w = 1 ↔ (w.own && (s.wanting w).isEmpty && w.nacks.isEmpty) = true := by
    unfold State.switchVerdict
    split
    next hyes => exact iff_of_true rfl hyes
    next hno =>
      refine iff_of_false ?_ hno
      split
      · decide
      · decide
  rw [hgo]
  simp only [Bool.and_eq_true, List.isEmpty_iff]
  constructor
  · rintro ⟨⟨hown, hwanting⟩, hnacks⟩
    refine ⟨hown, hnacks, fun n hn => ?_⟩
    have hacked := List.filter_eq_nil_iff.mp hwanting n hn
    simp only [Bool.or_eq_true, Bool.not_eq_true', not_or, Bool.not_eq_false, List.any_eq_true] at hacked
    obtain ⟨⟨a, ha, hmatch⟩, -⟩ := hacked
    simp only [Bool.and_eq_true, beq_iff_eq] at hmatch
    exact ⟨a, ha, hmatch.1, hmatch.2.symm⟩
  · rintro ⟨hown, hnacks, hall⟩
    refine ⟨⟨hown, List.filter_eq_nil_iff.mpr fun n hn => ?_⟩, hnacks⟩
    obtain ⟨a, ha, hnode, hdigest⟩ := hall n hn
    have hany : w.acks.any (fun a => a.1 == n && some a.2 == s.expectedDigest n w.g) = true := by
      refine List.any_eq_true.mpr ⟨a, ha, ?_⟩
      rw [Bool.and_eq_true, beq_iff_eq, beq_iff_eq]
      exact ⟨hnode, hdigest.symm⟩
    simp [hany, hnacks]

theorem State.switchVerdict_cancel (s : State) (w : Switch) (h : s.switchVerdict w ≠ 1) :
    s.switchVerdict w = if w.own = true ∧ w.nacks = [] then 2 else 3 := by
  unfold State.switchVerdict at h ⊢
  split
  · next hgo => exact absurd (if_pos hgo) h
  · simp only [Bool.and_eq_true, List.isEmpty_iff]

/-- The node of the lowest number of a list. -/
def lowestNode (ns : List (BitVec 12)) : Option (BitVec 12) :=
  ns.foldl (fun (m : Option (BitVec 12)) n => match m with
    | none => some n
    | some k => if n.toNat < k.toNat then some n else some k) none

/-- The gallery registers after a decision. -/
def State.decidedGal (s : State) (w : Switch) : Gal :=
  { s.gal with
    sw := some { w with decision := s.switchVerdict w }
    lastGal := w.g
    lastResult := s.switchVerdict w
    missCnt := min 65535 (s.wanting w).length
    nackReason := (w.nacks.head?.map (fun x => x.2)).getD 0
    firstMiss := (lowestNode (s.wanting w ++ w.nacks.map (fun x => x.1))).getD 0 }

/-- The decision with its records. -/
def State.decided (s : State) (w : Switch) : State :=
  let go := w.own && (s.wanting w).isEmpty && w.nacks.isEmpty
  let cnt := (s.wanting w).length
  let u := ({ s with gal := s.decidedGal w } : State).raise .event 0x04 .node s.node.toNat
    ([BitVec.ofNat 8 w.g.val, if go then 0x00 else 0x68] ++ leBytes 2 cnt)
  if go then u else u.alarmNode 0xDC (leBytes 2 cnt)

theorem State.decided_effect (s : State) (w : Switch) :
    (s.decided w).gal = s.decidedGal w ∧ SameBut [.gal, .log, .mail, .host] s (s.decided w) := by
  unfold State.decided
  dsimp only
  split
  · exact ⟨by simp, sameBut_of _ _ _ fun p => by cases p <;> simp [Part.agree]⟩
  · exact ⟨by simp, sameBut_of _ _ _ fun p => by cases p <;> simp [Part.agree]⟩

/-- The header of the tick is sealed again with the decision, and a requester is told. -/
theorem State.decideSwitch_eq {s : State} {w : Switch} (hsw : s.gal.sw = some w) (hopen : w.decision = 0)
    (hn : w.n = s.ms.tick + 1) (hrole : s.ms.role = .active) :
    s.decideSwitch = (s.decided w).reseal ∨ ∃ ps, s.decideSwitch = (s.decided w).reseal.posts ps := by
  unfold State.decideSwitch
  rw [hsw]
  dsimp only
  rw [if_neg (by simp [hopen, hn, hrole])]
  split
  · exact .inl rfl
  · exact .inr ⟨_, rfl⟩

/-- The active unit's decision: the registers show it, the records and the notice go out, and the header is sealed again. -/
theorem State.decideSwitch_effect {s : State} {w : Switch} (hsw : s.gal.sw = some w) (hopen : w.decision = 0)
    (hn : w.n = s.ms.tick + 1) (hrole : s.ms.role = .active) :
    s.decideSwitch.gal.sw = some { w with decision := s.switchVerdict w } ∧ s.decideSwitch.gal.lastResult = s.switchVerdict w ∧
    s.decideSwitch.gal.active = s.gal.active ∧ s.decideSwitch.gal.pending = s.gal.pending ∧
    SameBut [.gal, .buf, .lanes, .pair, .aon, .log, .mail, .host] s s.decideSwitch := by
  obtain ⟨hgal, hsame⟩ := s.decided_effect w
  obtain ⟨-, hreseal, hsealed⟩ := (s.decided w).reseal_resealed
  have hboth : s.decideSwitch.gal = (s.decided w).reseal.gal ∧
      SameBut [.lanes, .aon, .mail, .host] (s.decided w).reseal s.decideSwitch := by
    rcases State.decideSwitch_eq hsw hopen hn hrole with h | ⟨ps, h⟩
    · rw [h]
      exact ⟨rfl, .refl _ _⟩
    · rw [h]
      exact ⟨by simp, sameBut_of _ _ _ fun p => by cases p <;> simp [Part.agree]⟩
  obtain ⟨hfinal, hposts⟩ := hboth
  rw [hfinal, hreseal, hgal]
  exact ⟨rfl, rfl, rfl, rfl, ((hsame.mono (by simp)).trans (hsealed.mono (by simp))).trans (hposts.mono (by simp))⟩

/-! ### The edge (R355) -/

/-- The header of the tick was sealed. -/
def State.toldHeader (s : State) : Bool := s.buf.tx.any (fun x => x.stream == 1 && x.tick == s.ms.tick)

/-- The announcements of the headers that concern a switch. -/
def State.annsOf (s : State) (w : Switch) : List (Nat × Nat × Tick × BitVec 12) :=
  s.headerAnns.filter (fun a => a.2.1 == w.g.val && a.2.2.1 == w.n)

theorem State.mem_annsOf (s : State) (w : Switch) (k : Nat) (u : BitVec 12) :
    (∃ a, a ∈ s.annsOf w ∧ a.1 = k ∧ a.2.2.2 = u) ↔ (k, w.g.val, w.n, u) ∈ s.headerAnns := by
  simp only [State.annsOf, List.mem_filter, Bool.and_eq_true, beq_iff_eq]
  constructor
  · rintro ⟨⟨i, g, n, v⟩, ⟨ha, hg, hn⟩, hk, hu⟩
    dsimp only at hg hn hk hu
    rw [← hg, ← hn, ← hk, ← hu]
    exact ha
  · exact fun h => ⟨_, ⟨h, rfl, rfl⟩, rfl, rfl⟩

theorem State.switchDecision_eq (s : State) (w : Switch) : s.switchDecision w =
    if s.toldHeader && w.own && w.decision != 0 then w.decision
    else if s.toldHeader && s.ms.role == .active then 3
    else if (s.annsOf w).any (fun a => a.1 == 3) then
      (if w.ack = 2 || (s.annsOf w).any (fun a => a.1 == 3 && a.2.2.2 != w.unit) then 3 else 2)
    else if (s.annsOf w).any (fun a => a.1 == 2 && a.2.2.2 == w.unit) then 1
    else 0 := rfl

/-- A unit with its own decision follows it. -/
theorem State.switchDecision_own {s : State} {w : Switch} (htold : s.toldHeader = true) (hown : w.own = true) (hmade : w.decision ≠ 0) :
    s.switchDecision w = w.decision := by
  rw [State.switchDecision_eq]
  exact if_pos (by rw [htold, hown, bne_iff_ne.mpr hmade]; rfl)

/-- A unit that is active without a decision of its own cancels. -/
theorem State.switchDecision_active {s : State} {w : Switch} (htold : s.toldHeader = true) (hrole : s.ms.role = .active)
    (hnone : w.own = false ∨ w.decision = 0) : s.switchDecision w = 3 := by
  rw [State.switchDecision_eq, if_neg (by rcases hnone with h | h <;> simp [h])]
  exact if_pos (by simp [htold, hrole])

/-- Another node follows the headers. -/
theorem State.switchDecision_read {s : State} {w : Switch} (hread : s.toldHeader = false ∨ (s.ms.role ≠ .active ∧ w.own = false)) :
    s.switchDecision w =
      if (s.annsOf w).any (fun a => a.1 == 3) then
        (if w.ack = 2 || (s.annsOf w).any (fun a => a.1 == 3 && a.2.2.2 != w.unit) then 3 else 2)
      else if (s.annsOf w).any (fun a => a.1 == 2 && a.2.2.2 == w.unit) then 1
      else 0 := by
  rw [State.switchDecision_eq]
  rcases hread with h | ⟨hrole, hown⟩
  · rw [if_neg (by simp [h]), if_neg (by simp [h])]
  · rw [if_neg (by simp [hown]), if_neg (by simp [hrole])]

theorem State.annsOf_cancel (s : State) (w : Switch) :
    (s.annsOf w).any (fun a => a.1 == 3) = true ↔ ∃ u, (3, w.g.val, w.n, u) ∈ s.headerAnns := by
  simp only [List.any_eq_true, beq_iff_eq, ← s.mem_annsOf]
  exact ⟨fun ⟨a, ha, h⟩ => ⟨_, a, ha, h, rfl⟩, fun ⟨_, a, ha, h, _⟩ => ⟨a, ha, h⟩⟩

theorem State.annsOf_other (s : State) (w : Switch) :
    (s.annsOf w).any (fun a => a.1 == 3 && a.2.2.2 != w.unit) = true ↔ ∃ u, u ≠ w.unit ∧ (3, w.g.val, w.n, u) ∈ s.headerAnns := by
  simp only [List.any_eq_true, Bool.and_eq_true, beq_iff_eq, bne_iff_ne, ← s.mem_annsOf]
  exact ⟨fun ⟨a, ha, h, hne⟩ => ⟨_, hne, a, ha, h, rfl⟩, fun ⟨_, hne, a, ha, h, hu⟩ => ⟨a, ha, h, hu ▸ hne⟩⟩

theorem State.annsOf_go (s : State) (w : Switch) :
    (s.annsOf w).any (fun a => a.1 == 2 && a.2.2.2 == w.unit) = true ↔ (2, w.g.val, w.n, w.unit) ∈ s.headerAnns := by
  simp only [List.any_eq_true, Bool.and_eq_true, beq_iff_eq, ← s.mem_annsOf]

/-- A switch whose edge this is, by what the link engine follows. -/
theorem State.switchEdge_due {s : State} {w : Switch} (hsw : s.gal.sw = some w) (hn : w.n = s.ms.tick + 1) :
    s.switchEdge =
      if s.switchDecision w = 1 && (s.gal.pending == some w.g) then
        { s with gal := { s.gal with
            active := w.g, previous := some s.gal.active, prevTick := s.ms.tick + 1, pending := none, sw := none
            doneCnt := satInc 255 s.gal.doneCnt, lastGal := w.g, lastResult := 1 } }
      else if s.switchDecision w = 2 || s.switchDecision w = 3 then
        { s with gal := { s.gal with
            pending := none, sw := none, cancelCnt := satInc 255 s.gal.cancelCnt, lastGal := w.g, lastResult := s.switchDecision w } }
      else if s.switchDecision w = 1 || (s.gal.pending == some w.g) then
        ({ s with gal := { s.gal with pending := none, sw := none } } : State).galSilence
      else { s with gal := { s.gal with sw := none } } := by
  unfold State.switchEdge
  rw [hsw]
  exact if_neg (by simp [hn])

/-- A node that falls silent for the gallery (R355). -/
theorem State.galSilence_effect (s : State) : s.galSilence.gal = { s.gal with silent := true } ∧ s.galSilence.net.silent = true ∧
    (s.net.state = .sync → s.galSilence.net.state = .silent) ∧ SameBut [.gal, .net, .tim, .log, .mail, .host] s s.galSilence := by
  refine ⟨by simp [State.galSilence], by simp [State.galSilence], fun h => by simp [State.galSilence, h],
    sameBut_of _ _ _ fun p => by cases p <;> simp [Part.agree]⟩

/-- Settles O45: an announcement, the decision, the edge with and without a switch, and the end of PREVIOUS. -/
theorem gallerySwitches : Obligations.GallerySwitches := by
  unfold Obligations.GallerySwitches
  intro s
  refine ⟨fun g n a unit hticks hother hheard hsw => ⟨fun hpending htime hvalid => ?_, fun r hpending hr he => ?_, fun hpending => ?_⟩,
    fun w hsw hopen hn hrole => ?_, fun w told hsw hn htold => ⟨fun hpending hgo => ?_, fun d hcancel => ?_, fun hpending hread hnone => ?_⟩,
    fun hsw hpending => ⟨fun hquiet => ?_, fun hgo => ?_⟩, fun hpassed => ?_, fun hbefore => ?_⟩
  · have hreason : s.nackReason g n = 0 := by
      rw [State.nackReason_free g n hpending, if_neg (not_not_intro htime), hvalid]
    rw [exec_galleryAnnounce g n a hticks hother hheard, State.announced_free g n a unit hsw, if_neg (by rw [hreason]; decide), if_pos hreason]
    obtain ⟨hgal, hresealed, hsame⟩ := s.reseal_gal { s.gal with pending := some g, swTick := n, sw := some (s.noted g n a unit) }
    exact ⟨_, s.noted g n a unit, rfl, by rw [hgal], rfl, rfl, rfl, if_pos hreason, rfl, hgal, hresealed, hsame⟩
  · have hreason : s.nackReason g n = r := (State.nackReason_free g n hpending).trans he.symm
    have hthree := State.nackReason_free_ne g n hpending
    rw [exec_galleryAnnounce g n a hticks hother hheard, State.announced_free g n a unit hsw, if_neg hthree,
      if_neg (by rw [hreason]; exact hr), ← hpending]
    obtain ⟨hgal, hresealed, hsame⟩ := s.reseal_gal { s.gal with swTick := n, sw := some (s.noted g n a unit) }
    exact ⟨_, s.noted g n a unit, rfl, by rw [hgal], rfl, rfl, if_neg (by rw [hreason]; exact hr), hreason, hgal, hresealed, hsame⟩
  · rw [exec_galleryAnnounce g n a hticks hother hheard, State.announced_free g n a unit hsw, if_pos (State.nackReason_pending g n hpending)]
    obtain ⟨hgal, hresealed, hsame⟩ := s.reseal_gal { s.gal with nackOut := some (g, n, 3) }
    exact ⟨_, rfl, hgal, hresealed, hsame⟩
  · obtain ⟨hdecided, hresult, hactive, hpending, hsame⟩ := State.decideSwitch_effect hsw hopen hn hrole
    exact ⟨_, _, rfl, hdecided, rfl, s.switchVerdict_go w, s.switchVerdict_cancel w, hresult, hactive, hpending, hsame⟩
  · have hd : s.switchDecision w = 1 := by
      rcases hgo with ⟨hyes, hown, hmade⟩ | ⟨hread, hmem, hno⟩
      · rw [State.switchDecision_own (htold.symm.trans hyes) hown (by rw [hmade]; decide), hmade]
      · rw [State.switchDecision_read (hread.imp_left fun h => htold.symm.trans h),
          if_neg fun h => (s.annsOf_cancel w).mp h |>.elim hno, if_pos ((s.annsOf_go w).mpr hmem)]
    show Host.Outcome.next s.switchEdge = _
    rw [State.switchEdge_due hsw hn, hd, if_pos (by simp [hpending])]
    rfl
  · have hd : s.switchDecision w = d ∧ (d = 2 ∨ d = 3) := by
      rcases hcancel with ⟨hyes, hown, rfl, hd⟩ | ⟨hyes, hrole, hnone, rfl⟩ | ⟨hno, hmem, hothers, rfl⟩
      · exact ⟨State.switchDecision_own (htold.symm.trans hyes) hown (by rcases hd with h | h <;> rw [h] <;> decide), hd⟩
      · exact ⟨State.switchDecision_active (htold.symm.trans hyes) hrole hnone, .inr rfl⟩
      · have hother : ¬ (s.annsOf w).any (fun a => a.1 == 3 && a.2.2.2 != w.unit) = true := fun h => by
          obtain ⟨u, hu, hmem⟩ := (s.annsOf_other w).mp h
          exact hothers u hu hmem
        rw [State.switchDecision_read (.inl (htold.symm.trans hno)), if_pos ((s.annsOf_cancel w).mpr ⟨_, hmem⟩)]
        by_cases hack : w.ack = 2
        · rw [if_pos (by simp [hack]), if_pos hack]
          exact ⟨rfl, .inr rfl⟩
        · rw [if_neg (by rw [decide_eq_false hack, Bool.false_or]; exact hother), if_neg hack]
          exact ⟨rfl, .inl rfl⟩
    obtain ⟨hd, hrange⟩ := hd
    show Host.Outcome.next s.switchEdge = _
    rw [State.switchEdge_due hsw hn, hd]
    rcases hrange with rfl | rfl
    · rfl
    · rfl
  · have hd : s.switchDecision w = 0 := by
      rw [State.switchDecision_read (hread.imp_left fun h => htold.symm.trans h), if_neg, if_neg]
      · exact fun h => (hnone 2 _ ((s.annsOf_go w).mp h)).2 rfl rfl
      · intro h
        obtain ⟨u, hu⟩ := (s.annsOf_cancel w).mp h
        exact (hnone 3 u hu).1 rfl
    obtain ⟨hgal, hsilent, hstate, hsame⟩ := ({ s with gal := { s.gal with pending := none, sw := none } } : State).galSilence_effect
    have hedge : s.switchEdge = ({ s with gal := { s.gal with pending := none, sw := none } } : State).galSilence := by
      rw [State.switchEdge_due hsw hn, hd, hpending]
      simp
    refine ⟨_, congrArg Host.Outcome.next hedge, by rw [hgal], by rw [hgal], by rw [hgal], hsilent, hstate, ?_⟩
    have hs : SameBut [.gal, .net, .tim, .log, .mail, .host] s { s with gal := { s.gal with pending := none, sw := none } } :=
      sameBut_of _ _ _ fun p => by cases p <;> simp [Part.agree]
    exact hs.trans hsame
  · have hno : ¬ s.headerAnns.any (fun a => a.1 == 2 && a.2.2.1 == s.ms.tick + 1) = true := by
      simp only [List.any_eq_true, Bool.and_eq_true, beq_iff_eq, not_exists, not_and]
      rintro ⟨k, g, n, u⟩ hmem hk
      dsimp only at hk ⊢
      exact hquiet g n u (hk ▸ hmem)
    show Host.Outcome.next s.switchEdge = _
    unfold State.switchEdge
    rw [hsw]
    dsimp only
    rw [if_neg (by simp [hpending]), if_neg hno]
  · obtain ⟨g, u, hmem⟩ := hgo
    obtain ⟨hgal, hsilent, -, hsame⟩ := s.galSilence_effect
    refine ⟨s.galSilence, ?_, hgal, hsilent, hsame⟩
    show Host.Outcome.next s.switchEdge = _
    unfold State.switchEdge
    rw [hsw]
    dsimp only
    rw [if_neg (by simp [hpending]), if_pos (List.any_eq_true.mpr ⟨_, hmem, by simp⟩)]
  · show Host.Outcome.next s.unlockPrevious = _
    unfold State.unlockPrevious tickGe tickDiff
    rw [decide_eq_true hpassed, Bool.and_true]
    cases hprev : s.gal.previous with
    | some g => rfl
    | none =>
      rw [if_neg (by simp), ← hprev]
  · show Host.Outcome.next s.unlockPrevious = _
    unfold State.unlockPrevious tickGe tickDiff
    rw [decide_eq_false (not_le.mpr hbefore), Bool.and_false]
    rfl

end Sys2Proof.Machine
end

section
/-! SUPPORT. Time kept and lost (O41; R316, R327, R332, R366), and the reference's cycle-start frames (R313, R321, R347). -/
namespace Sys2Proof.Machine

/-! ### Frames in a transmit window (R321) -/

/-- The link engine's registers without what a blocked start, full silence and a frame sent change. -/
def Net.engine (n : Net) : Net :=
  { n with state := .off, silent := false, fullSilent := false, fullCause := 0, blockedTick := 0, sent := [] }

theorem State.fullSilence_engine (s : State) (code : BitVec 3) : (s.fullSilence code).net.engine = s.net.engine := by
  by_cases h : s.net.fullSilent = false ∧ s.pwr.dom.getLsbD 2 = true
  · obtain ⟨hsilent, hon⟩ := h
    rw [State.fullSilence_net hsilent hon]
    rfl
  · unfold State.fullSilence
    rw [if_pos]
    rw [Bool.or_eq_true, Bool.not_eq_true']
    by_contra hno
    simp only [not_or, Bool.not_eq_true, Bool.not_eq_false] at hno
    exact h hno

theorem State.blockStart_engine (s : State) : s.blockStart.net.engine = s.net.engine := by
  unfold State.blockStart
  dsimp only
  split
  · exact State.fullSilence_engine _ _
  · rfl

theorem State.sendAt_engine (s : State) (p : Port) (e : DWord) (dev : Int) (bs : List Byte) :
    (s.sendAt p e dev bs).net.engine = s.net.engine := by
  unfold State.sendAt
  split
  · exact s.blockStart_engine
  · rfl

/-- A frame that has passed when its window closes is sent whole. -/
theorem State.sendAt_whole {s : State} {e : DWord} {dev : Int} (p : Port) {bs : List Byte} (h : WholeInWindow s e dev bs.length) :
    s.sendAt p e dev bs = s.send p bs := by
  obtain ⟨hin, hwhole⟩ := h
  unfold State.sendAt
  rw [hin, if_neg (by decide)]
  dsimp only
  rw [if_pos (by omega)]

/-! ### The reference's cycle-start frames (R313, R347) -/

theorem State.sendCycleAt_engine (s : State) (c : Cycle) (p : Port) : (s.sendCycleAt c p).net.engine = s.net.engine := by
  unfold State.sendCycleAt
  split
  · exact State.sendAt_engine _ _ _ _ _
  · rfl

/-- The frames of one edge: at every port of a list that holds a cycle-start entry. -/
def State.cycleFrames (s : State) (c : Cycle) (ps : List Port) : List (Port × List Byte) :=
  ps.filterMap (fun p => (s.findEntry p .cs).map fun _ => (p, s.timingFrame p 1 (cycleBody c)))

/-- Where every frame has passed when its window closes, each is sent. -/
theorem State.foldCycle_whole (c : Cycle) (ps : List Port) (s : State)
    (h : ∀ p, p ∈ ps → ∀ i e, s.findEntry p .cs = some (i, e) → WholeInWindow s e (-Int.ofNat (entryNs e)) 64) :
    ps.foldl (fun s p => s.sendCycleAt c p) s = { s with net := { s.net with sent := s.net.sent ++ s.cycleFrames c ps } } := by
  induction ps generalizing s with
  | nil => simp [State.cycleFrames]
  | cons p ps ih =>
    rw [List.foldl_cons]
    cases hentry : s.findEntry p .cs with
    | none =>
      have hquiet : s.sendCycleAt c p = s := by
        unfold State.sendCycleAt
        rw [hentry]
      rw [hquiet, ih s fun q hq => h q (List.mem_cons_of_mem _ hq)]
      simp [State.cycleFrames, hentry]
    | some entry =>
      obtain ⟨i, e⟩ := entry
      have hwhole := h p (List.mem_cons_self ..) i e hentry
      rw [← s.length_timingFrame p 1 (cycleBody c)] at hwhole
      have hsend : s.sendCycleAt c p = s.send p (s.timingFrame p 1 (cycleBody c)) := by
        unfold State.sendCycleAt
        rw [hentry]
        exact State.sendAt_whole p hwhole
      have hframes : s.cycleFrames c (p :: ps) = (p, s.timingFrame p 1 (cycleBody c)) :: s.cycleFrames c ps := by
        simp [State.cycleFrames, hentry]
      rw [hsend, ih (s.send p _) fun q hq => h q (List.mem_cons_of_mem _ hq), hframes]
      show ({ s with net := { s.net with sent := (s.net.sent ++ [(p, s.timingFrame p 1 (cycleBody c))]) ++ s.cycleFrames c ps } } : State) = _
      rw [List.append_assoc, List.singleton_append]

/-- The frame that the reference sends at an edge. -/
def State.ownCycleFrame (s : State) : Cycle :=
  ⟨s.node, false, s.nowNs, 0, s.ms.tick, s.tim.tbase, BitVec.ofNat 3 s.gal.active.val, s.net.refRank⟩

/-- The open ports of the area. -/
def State.ownPorts (s : State) : List Port := (allFin 4).filter (fun p => s.portOpen p && (s.portCfg p).passage.isNone)

theorem State.mem_ownPorts (s : State) (p : Port) : p ∈ s.ownPorts ↔ s.portOpen p = true ∧ (s.portCfg p).passage = none := by
  simp [State.ownPorts, allFin, List.mem_filter]

theorem State.sendCycle_eq {s : State} (href : s.net.isRef = true) (hsync : s.net.state = .sync) :
    s.sendCycle = s.ownPorts.foldl (fun t p => t.sendCycleAt s.ownCycleFrame p) s := if_neg (by simp [href, hsync])

theorem State.sendCycle_engine {s : State} : s.sendCycle.net.engine = s.net.engine := by
  unfold State.sendCycle
  split
  · rfl
  · exact foldl_keeps (g := fun t : State => t.net.engine) (fun t p => t.sendCycleAt_engine _ p) _ _

/-! ### A takeover (R316) -/

/-- The node as the new reference, before it sends. -/
def State.tookOver (s : State) (r : Fin 4) : State :=
  { s with
    net := { s.net with
      isRef := true, refNode := s.node, refRank := BitVec.ofNat 2 r.val, refValid := true, missEdges := 0
      takeovers := satInc 255 s.net.takeovers }
    tim := { s.tim with role := 1, hops := 0, holdover := false, ppsUsed := s.tim.ppsQual } }

theorem exec_referenceTakeover {s : State} {r : Fin 4} (hsync : s.net.state = .sync) (href : s.net.isRef = false)
    (hrank : s.ownRank = some r) (hmissing : 2 + r.val ≤ s.net.missEdges) :
    exec .referenceTakeover s =
      .next ((s.tookOver r).sendCycle.alarmNode 0xD3 (leBytes 2 s.net.refNode.toNat ++ leBytes 2 s.node.toNat)) := by
  show execReferenceTakeover s = _
  unfold execReferenceTakeover
  rw [hrank]
  exact if_neg (by simp [hsync, href, Nat.not_lt.mpr hmissing])

theorem exec_referenceTakeover_early {s : State} {r : Fin 4} (hrank : s.ownRank = some r) (hfew : s.net.missEdges < 2 + r.val) :
    exec .referenceTakeover s = .next s := by
  show execReferenceTakeover s = _
  unfold execReferenceTakeover
  rw [hrank]
  exact if_pos (by simp [hfew])

/-- The new reference's registers, and the frames that it sends. -/
theorem State.tookOver_effect {s t : State} {r : Fin 4} (hsync : s.net.state = .sync)
    (ht : t = (s.tookOver r).sendCycle.alarmNode 0xD3 (leBytes 2 s.net.refNode.toNat ++ leBytes 2 s.node.toNat)) :
    t.net.isRef = true ∧ t.net.refNode = s.node ∧ t.net.refRank = BitVec.ofNat 2 r.val ∧
    t.net.takeovers = satInc 255 s.net.takeovers ∧ t.tim.role = 1 ∧ t.tim.tbase = s.tim.tbase ∧
    ((∀ p i e, s.portOpen p = true → (s.portCfg p).passage = none → s.findEntry p .cs = some (i, e) →
        WholeInWindow s e (-Int.ofNat (entryNs e)) 64) →
      t.net.state = .sync ∧ t.sh = s.sh ∧
      ∀ x, x ∈ t.net.sent ↔ x ∈ s.net.sent ∨ (s.portOpen x.1 = true ∧ (s.portCfg x.1).passage = none ∧
        (s.findEntry x.1 .cs).isSome = true ∧ x.2 = s.timingFrame x.1 1 (cycleBody
          ⟨s.node, false, s.nowNs, 0, s.ms.tick, s.tim.tbase, BitVec.ofNat 3 s.gal.active.val, BitVec.ofNat 2 r.val⟩))) ∧
    SameBut [.net, .tim, .sh, .log, .mail, .host] s t := by
  have hnet : t.net = (s.tookOver r).sendCycle.net := by
    rw [ht]
    simp
  have htim : t.tim = (s.tookOver r).tim := by
    rw [ht]
    simp
  have hsh : t.sh = (s.tookOver r).sendCycle.sh := by
    rw [ht]
    simp
  have hengine : t.net.engine = (s.tookOver r).net.engine := by rw [hnet, State.sendCycle_engine]
  refine ⟨(congrArg Net.isRef hengine :), (congrArg Net.refNode hengine :), (congrArg Net.refRank hengine :),
    (congrArg Net.takeovers hengine :), by rw [htim]; rfl, by rw [htim]; rfl, fun hwhole => ?_, ?_⟩
  · have hcycle : (s.tookOver r).sendCycle = { s.tookOver r with net := { (s.tookOver r).net with
        sent := s.net.sent ++ s.cycleFrames (s.tookOver r).ownCycleFrame s.ownPorts } } := by
      rw [State.sendCycle_eq (s := s.tookOver r) rfl hsync]
      refine State.foldCycle_whole _ _ (s.tookOver r) fun p hp i e hentry => ?_
      obtain ⟨hopen, harea⟩ := (s.mem_ownPorts p).mp hp
      exact hwhole p i e hopen harea hentry
    rw [hnet, hsh, hcycle]
    refine ⟨hsync, rfl, fun x => ?_⟩
    rw [List.mem_append]
    refine or_congr Iff.rfl ?_
    unfold State.cycleFrames
    rw [List.mem_filterMap]
    constructor
    · rintro ⟨p, hp, hx⟩
      obtain ⟨entry, hentry, rfl⟩ := Option.map_eq_some_iff.mp hx
      obtain ⟨hopen, harea⟩ := (s.mem_ownPorts p).mp hp
      exact ⟨hopen, harea, by rw [hentry]; rfl, rfl⟩
    · rintro ⟨hopen, harea, hsome, hbytes⟩
      obtain ⟨entry, hentry⟩ := Option.isSome_iff_exists.mp hsome
      exact ⟨x.1, (s.mem_ownPorts x.1).mpr ⟨hopen, harea⟩, by rw [hentry]; exact congrArg some (Prod.ext rfl hbytes.symm)⟩
  · rw [ht]
    exact sameBut_of _ _ _ fun p => by cases p <;> simp [Part.agree, State.tookOver]

/-- A time that cannot be reconciled resets the module WARM (R332). -/
theorem State.timeWarm_effect {s : State} (hphase : s.pwr.phase = .normal) (hheld : s.ms.porHeld = false) :
    s.timeWarm.ms.mode = .boot ∧ s.timeWarm.aon.kind = 3 ∧ s.timeWarm.aon.warmSrc = 2 ∧ s.timeWarm.aon.latch = s.aon.latch := by
  have hwarm : s.timeWarm = (s.alarmNode 0xD8 []).moduleReset 3 2 := if_pos (by simp [hphase, hheld])
  obtain ⟨hmode, -, -, -, haon, -⟩ := (s.alarmNode 0xD8 []).moduleReset_effect 3 2
  rw [hwarm]
  exact ⟨hmode, haon.kind, haon.warmSrc, haon.latch.trans (by simp)⟩

/-- Settles O41: the lock, the missing reference, the takeover, the end of SILENT, the separation, and JOIN's alarm. -/
theorem timeIsKeptOrLost : Obligations.TimeIsKeptOrLost := by
  unfold Obligations.TimeIsKeptOrLost
  intro s
  refine ⟨fun hstate hid hservo hrun => if_pos (by simp [hstate, hid, hservo, hrun]), fun hstate hno => if_neg ?_,
    fun hsync href => ⟨fun hmissing => if_pos (by simp [hsync, href, hmissing]), fun hfew => if_neg (by simp [hfew]),
      fun r hrank hfew => exec_referenceTakeover_early hrank hfew,
      fun r hrank hmissing => ⟨_, exec_referenceTakeover hsync href hrank hmissing, State.tookOver_effect hsync rfl⟩⟩,
    fun hsilent hfew => if_neg (by simp [hfew]), fun hsilent hlong hphase hheld => ?_, fun href hchild hsep => ?_, fun hjoin => ?_⟩
  · rcases hno with h | h
    · simp [h]
    · simp [h]
  · obtain ⟨hmode, hkind, hsrc, hlatch⟩ := State.timeWarm_effect hphase hheld
    exact ⟨_, if_pos (by simp [hsilent, hlong]), hmode, hkind, hsrc, hlatch, by simp⟩
  · have hexec : exec .areaSeparation s = .next (({ s with net := { s.net with separated := true } } : State).alarmNode 0xE8 []) := by
      show execAreaSeparation s = _
      unfold execAreaSeparation State.separate
      rw [if_pos (by simp [href, hchild]), if_neg (by simp [hsep])]
    exact ⟨_, hexec, by simp, sameBut_of _ _ _ fun p => by cases p <;> simp [Part.agree]⟩
  · cases halarm : s.ms.joinAlarm with
    | false =>
      have hexec : exec .joinTimeout s = .next (({ s with ms := { s.ms with joinAlarm := true } } : State).alarmNode 0xDA []) :=
        if_pos (by simp [hjoin, halarm])
      exact ⟨_, hexec, by simp, fun h => absurd h (by decide), sameBut_of _ _ _ fun p => by cases p <;> simp [Part.agree]⟩
    | true =>
      exact ⟨s, if_neg (by simp [halarm]), by rw [← halarm], fun _ => rfl, .refl _ _⟩

end Sys2Proof.Machine
end

section
/-! SUPPORT. The end of BOOT (O20; R43, R49, R300, R443, R444). -/
namespace Sys2Proof.Machine

/-! ### The lanes that did not load the image (R443) -/

/-- A lane out of service for good. -/
def LaneSt.disabled (x : LaneSt) : LaneSt :=
  { x with svc := .disabled, copyReq := false, held := [], regionOk := false, wdog := x.wdog.disarm }

/-- A lane out of use: its service, its interfaces and its supply. -/
def State.unpowered (s : State) (l : Lane) : State :=
  let s1 := s.modLaneSt l LaneSt.disabled
  { s1.resetIfaces l with
    pwr := { s1.pwr with dom := s1.pwr.dom &&& ~~~((1#13 <<< (4 + l.idx)) ||| (1#13 <<< (7 + l.idx))) } }

theorem State.disableLane_plain {s : State} (l : Lane) (happly : s.upd.apply ≠ .fallback) : s.disableLane l = s.unpowered l :=
  if_pos (by simp [State.resetIfaces, State.modLaneSt, State.setLane, happly])

/-- A lane that did not load the image leaves with an alarm. -/
def State.dropLane (s : State) (l : Lane) : State := (s.disableLane l).alarmLane 0xF1 l []

/-- What the lanes that leave at the end of BOOT do not touch: the image in force, the channels' settings, NET's supply and the mode. -/
structure BootKept (s t : State) : Prop where
  upd : t.upd = s.upd
  cfg : t.fld.cfg = s.fld.cfg
  net : t.pwr.dom.getLsbD 2 = s.pwr.dom.getLsbD 2
  ms : t.ms = s.ms

theorem State.dropLane_effect {s : State} (l : Lane) (happly : s.upd.apply ≠ .fallback) :
    BootKept s (s.dropLane l) ∧ ((s.dropLane l).lane l).svc = .disabled ∧ ∀ m, m ≠ l → (s.dropLane l).lane m = s.lane m := by
  have hlanes : (s.dropLane l).lanes = (s.unpowered l).lanes := by simp [State.dropLane, State.disableLane_plain l happly]
  have hlane (m : Lane) : (s.dropLane l).lane m = (s.unpowered l).lane m := by rw [State.lane, State.lane, hlanes]
  refine ⟨⟨?_, ?_, ?_, ?_⟩, ?_, fun m hm => ?_⟩
  · simp [State.dropLane, State.disableLane_plain l happly, State.unpowered, State.resetIfaces]
  · simp [State.dropLane, State.disableLane_plain l happly, State.unpowered, State.resetIfaces]
  · have hbit : ((1#13 <<< (4 + l.idx)) ||| (1#13 <<< (7 + l.idx))).getLsbD 2 = false := by cases l <;> rfl
    simp only [State.dropLane, State.disableLane_plain l happly, State.unpowered, State.resetIfaces, State.alarmLane_frame,
      State.modLaneSt_frame, BitVec.getLsbD_and, BitVec.getLsbD_not, hbit]
    simp
  · simp [State.dropLane, State.disableLane_plain l happly, State.unpowered, State.resetIfaces]
  · rw [hlane]
    exact congrArg LaneSt.svc (s.lane_modLaneSt_self l LaneSt.disabled)
  · rw [hlane]
    exact s.lane_modLaneSt_ne l m LaneSt.disabled hm

theorem BootKept.trans {s t u : State} (h : BootKept s t) (k : BootKept t u) : BootKept s u :=
  ⟨k.upd.trans h.upd, k.cfg.trans h.cfg, k.net.trans h.net, k.ms.trans h.ms⟩

theorem State.foldDrop_effect (ls : List Lane) (s : State) (happly : s.upd.apply ≠ .fallback) :
    BootKept s (ls.foldl State.dropLane s) ∧ (∀ l, l ∈ ls → ((ls.foldl State.dropLane s).lane l).svc = .disabled) ∧
    ∀ l, l ∉ ls → (ls.foldl State.dropLane s).lane l = s.lane l := by
  induction ls generalizing s with
  | nil => exact ⟨⟨rfl, rfl, rfl, rfl⟩, by simp, fun _ _ => rfl⟩
  | cons m r ih =>
    obtain ⟨hkept, hself, hothers⟩ := State.dropLane_effect m happly
    obtain ⟨hrest, hin, hout⟩ := ih (s.dropLane m) (by rw [hkept.upd]; exact happly)
    rw [List.foldl_cons]
    refine ⟨hkept.trans hrest, fun l hl => ?_, fun l hl => ?_⟩
    · by_cases hr : l ∈ r
      · exact hin l hr
      · obtain rfl : l = m := (List.mem_cons.mp hl).resolve_right hr
        rw [hout l hr, hself]
    · rw [List.mem_cons, not_or] at hl
      rw [hout l hl.2, hothers l hl.1]

theorem State.foldDrop_sameBut (ls : List Lane) (s : State) :
    SameBut [.lanes, .fld, .pwr, .upd, .nvm, .log, .mail, .host] s (ls.foldl State.dropLane s) :=
  SameBut.foldl (fun s l => sameBut_of _ _ _ fun p => by cases p <;> simp [Part.agree, State.dropLane]) _ _

/-! ### The image in force (R300, R443, R465) -/

theorem State.chcfgWord_congr {s t : State} (himg : t.upd.img = s.upd.img) (hpair : t.pair = s.pair) (k : Chan) :
    t.chcfgWord k = s.chcfgWord k := by
  have hpart : t.part = s.part := by
    unfold State.part State.node
    rw [himg, hpair]
  unfold State.chcfgWord State.sources State.chan
  rw [hpart]

/-- Without a trial a migration changes the retained stores, and what it reports. -/
theorem State.migrate_service (s : State) (i : Image) (can : PerStore Bool) :
    (∃ c, (s.migrate i false can).upd = { s.upd with trialCause := c }) ∧
    SameBut [.upd, .nvm, .log, .mail, .host] s (s.migrate i false can) := by
  unfold State.migrate
  extract_lets m does v
  split
  · exact ⟨⟨s.upd.trialCause, rfl⟩, sameBut_of _ _ _ fun p => by cases p <;> simp [Part.agree]⟩
  · split
    · exact ⟨⟨s.upd.trialCause, rfl⟩, sameBut_of _ _ _ fun p => by cases p <;> simp [Part.agree]⟩
    · exact ⟨⟨4, by simp⟩, sameBut_of _ _ _ fun p => by cases p <;> simp [Part.agree]⟩

/-- The image in force in the bank ACTIVE, with the lanes that loaded it and the supplies `dom` of the banks that it uses. -/
def State.inForce (s : State) (i : Image) (lanes : BitVec 3) (dom : BitVec 13) : State :=
  { s with
    ms := { s.ms with tUs := i.hdr.tUs.setWidth 17 }
    upd := { s.upd with img := some i, bank := s.bankRec.active, bootFallback := false, lanesLoaded := lanes, apply := .none }
    lanes := s.lanes.mapL (fun l x =>
      if l.inMask lanes then { x with loaded := true, region := restartRegion i s.node, regionOk := true } else x)
    pwr := { s.pwr with dom := s.pwr.dom ||| dom } }

theorem State.inForce_ms (s : State) (i : Image) (lanes : BitVec 3) (dom : BitVec 13) :
    (s.inForce i lanes dom).ms = { s.ms with tUs := i.hdr.tUs.setWidth 17 } := rfl

/-- The image's galleries and channel settings are loaded. -/
def State.settingsLoaded (s : State) : State := (s.loadGalleries s.part).loadChcfg

theorem State.bootRun_stable_eq {s : State} (i : Image) (can : PerStore Bool) (lanes : BitVec 3) (hstable : s.bankRec.state = .stable) :
    ∃ dom, s.bootRun i s.bankRec.active false can lanes =
      (lanesList.filter (fun l => !l.inMask lanes)).foldl State.dropLane ((s.inForce i lanes dom).settingsLoaded.migrate i false can) := by
  refine ⟨(allFin 3).foldl (fun m k => if (s.inForce i lanes 0).bankUsed k then m ||| (1#13 <<< (10 + k.val)) else m) 0, ?_⟩
  unfold State.bootRun
  rw [hstable]
  simp only [show (BankState.stable == BankState.fullTrial) = false from rfl, show (BankState.stable == BankState.fullPending) = false from rfl,
    Bool.false_and, Bool.false_eq_true, if_false]
  rfl

/-- The channel registers hold what the image gives (R300). -/
theorem State.settingsLoaded_effect (s : State) :
    (∀ k : Chan, s.settingsLoaded.fld.cfg[k] = s.chcfgWord k) ∧ SameBut [.fld, .gal] s s.settingsLoaded := by
  refine ⟨fun k => ?_, sameBut_of _ _ _ fun p => by cases p <;> simp [Part.agree, State.settingsLoaded]⟩
  exact (Vector.getElem_ofFn k.isLt).trans (State.chcfgWord_congr (s := s) (t := s.loadGalleries s.part) rfl rfl k)

/-- An image runs from the bank ACTIVE, which is STABLE, with the lanes that loaded it. -/
theorem State.bootRun_stable {s t : State} {i : Image} {can : PerStore Bool} {lanes : BitVec 3} (hstable : s.bankRec.state = .stable)
    (ht : t = s.bootRun i s.bankRec.active false can lanes) :
    ∃ dom c, t.ms = (s.inForce i lanes dom).ms ∧ t.upd = { (s.inForce i lanes dom).upd with trialCause := c } ∧
      (s.pwr.dom.getLsbD 2 = true → t.pwr.dom.getLsbD 2 = true) ∧ (∀ k : Chan, t.fld.cfg[k] = t.chcfgWord k) ∧
      (∀ l : Lane, l.inMask lanes = true → t.lane l = (s.inForce i lanes dom).lane l) ∧
      (∀ l : Lane, l.inMask lanes = false → (t.lane l).svc = .disabled) := by
  obtain ⟨dom, hrun⟩ := State.bootRun_stable_eq i can lanes hstable
  obtain ⟨v, hv⟩ : ∃ v, v = s.inForce i lanes dom := ⟨_, rfl⟩
  have hfield : v.upd.apply = .none ∧ v.pwr.dom = s.pwr.dom ||| dom := by
    rw [hv]
    exact ⟨rfl, rfl⟩
  obtain ⟨hnone, hdom⟩ := hfield
  obtain ⟨w, hw⟩ : ∃ w, w = v.settingsLoaded.migrate i false can := ⟨_, rfl⟩
  obtain ⟨hcfg, hset⟩ := v.settingsLoaded_effect
  obtain ⟨⟨c, hupd⟩, hmig⟩ := v.settingsLoaded.migrate_service i can
  rw [← hw] at hupd hmig
  rw [show v.settingsLoaded.upd = v.upd from hset .upd (by simp)] at hupd
  have happly : w.upd.apply ≠ .fallback := by
    rw [hupd, hnone]
    decide
  obtain ⟨hkept, hdropped, hstays⟩ := State.foldDrop_effect (lanesList.filter (fun l => !l.inMask lanes)) w happly
  have hpair := (State.foldDrop_sameBut (lanesList.filter (fun l => !l.inMask lanes)) w) .pair (by simp)
  rw [← hv, ← hw] at hrun
  rw [← hrun, ← ht] at hkept hdropped hstays hpair
  refine ⟨dom, c, ?_, ?_, fun hnet => ?_, fun k => ?_, fun l hl => ?_, fun l hl => hdropped l (by simp [hl, mem_lanesList])⟩
  · rw [hkept.ms, show w.ms = v.settingsLoaded.ms from hmig .ms (by simp), show v.settingsLoaded.ms = v.ms from hset .ms (by simp), hv]
  · rw [hkept.upd, hupd, hv]
  · rw [hkept.net, show w.pwr = v.settingsLoaded.pwr from hmig .pwr (by simp), show v.settingsLoaded.pwr = v.pwr from hset .pwr (by simp), hdom,
      BitVec.getLsbD_or, hnet, Bool.true_or]
  · have hfld : t.fld.cfg = v.settingsLoaded.fld.cfg := by
      rw [hkept.cfg, show w.fld = v.settingsLoaded.fld from hmig .fld (by simp)]
    have hword : t.chcfgWord k = v.chcfgWord k := State.chcfgWord_congr (by rw [hkept.upd, hupd])
      (by rw [hpair, show w.pair = v.settingsLoaded.pair from hmig .pair (by simp),
        show v.settingsLoaded.pair = v.pair from hset .pair (by simp)]) k
    rw [hword, ← hcfg k, hfld]
  · rw [hstays l (by simp [hl]), State.lane, show w.lanes = v.settingsLoaded.lanes from hmig .lanes (by simp),
      show v.settingsLoaded.lanes = v.lanes from hset .lanes (by simp), hv]
    rfl

/-! ### Steps of BOOT (R443, R444) -/

theorem inMask_maskOf (f : Lane → Bool) (l : Lane) : l.inMask (maskOf f) = f l := by
  cases l <;> simp [maskOf, Lane.inMask, Lane.idx] <;> cases f .a <;> cases f .b <;> cases f .c <;> rfl

/-- What each bank's try shows, and the lanes that accepted an image. -/
theorem State.bootTry_accepted {s : State} {b : Bool} (loaded : PerLane Bool) (h : s.bootReason (s.bankImg b) = 0) :
    ((s.bootTry b loaded).2 = maskOf (fun l => loaded.get l)) ∧ ((∀ l : Lane, loaded.get l = true) → (s.bootTry b loaded).1 = 0) ∧
    ((∃ l : Lane, loaded.get l = false) → (s.bootTry b loaded).1 = 3) := by
  unfold State.bootTry
  dsimp only
  rw [h]
  refine ⟨rfl, fun hall => ?_, fun ⟨l, hl⟩ => ?_⟩
  · have hany : loaded.toList.any (fun x => !x) = false := by
      simp [PerLane.toList, show loaded.a = true from hall .a, show loaded.b = true from hall .b, show loaded.c = true from hall .c]
    rw [hany]
    rfl
  · have hany : loaded.toList.any (fun x => !x) = true := by
      cases l
      · simp [PerLane.toList, show loaded.a = false from hl]
      · simp [PerLane.toList, show loaded.b = false from hl]
      · simp [PerLane.toList, show loaded.c = false from hl]
    rw [hany]
    rfl

theorem State.bootTry_refused {s : State} {b : Bool} (loaded : PerLane Bool) (h : s.bootReason (s.bankImg b) ≠ 0) :
    (s.bootTry b loaded).2 = 0 := if_neg h

/-- A bank record that is STABLE leaves steps 2 to 4 without work. -/
theorem exec_bootComplete_stable {s : State} (loaded0 loaded1 : PerLane Bool) (lockLow : Bool) (converted : PerStore Bool) (ms : Nat)
    (hmode : s.ms.mode = .boot) (hheld : s.ms.porHeld = false) (hfail : s.ms.bootFail = false) (hvalid : s.nvm.rec0.valid = true)
    (hstable : s.bankRec.state = .stable) :
    ∃ u : State, exec (.bootComplete loaded0 loaded1 ⟨lockLow, converted, false⟩ ms) s =
        .next (u.bootLoad loaded0 loaded1 s.bankRec.active converted) ∧
      u.upd = { s.upd with bootMs := min 65535 ms } ∧ u.pwr.dom.getLsbD 2 = true ∧ u.aon.latch = s.aon.latch ∧
      SameBut [.upd, .pwr, .aon] s u := by
  obtain ⟨v, hv⟩ : ∃ v, v = s.passUs (1000 * ms) := ⟨_, rfl⟩
  have hbank : v.bankRec = s.bankRec := by
    rw [hv]
    rfl
  have hrecords : v.bootRecords = v := by
    have hany : (v.nvm.rec0.valid || v.nvm.rec1.valid) = true := by
      rw [hv]
      simp [hvalid]
    unfold State.bootRecords
    simp only [if_pos hany, hbank, hstable]
    rfl
  have hcopy : v.bootCopy lockLow = v := by
    unfold State.bootCopy
    rw [hbank, hstable]
    rfl
  refine ⟨{ v with upd := { v.upd with bootMs := min 65535 ms }, pwr := { v.pwr with dom := v.pwr.dom ||| 4 } }, ?_, ?_, ?_, ?_, ?_⟩
  · show execBootComplete _ _ _ _ s = _
    unfold execBootComplete
    rw [if_neg (by simp [hmode, hheld, hfail])]
    dsimp only
    rw [← hv, show (false && v.aon.kind == 1) = false from rfl, if_neg (by decide), hrecords, hcopy, hbank, hstable]
    rfl
  · rw [hv]
    rfl
  · simp
  · rw [hv]
    rfl
  · rw [hv]
    exact sameBut_of _ _ _ fun p => by cases p <;> simp [Part.agree]

/-- The lanes that could load the image of a bank. -/
def loadedOf (loaded0 loaded1 : PerLane Bool) (b : Bool) : PerLane Bool := if b then loaded1 else loaded0

/-- What the try of the other bank gives, where there is one (R443). -/
def State.secondTry (s : State) (loaded0 loaded1 : PerLane Bool) (c : Bool) : BitVec 4 × BitVec 3 :=
  if 2 ≤ countMask (s.bootTry c (loadedOf loaded0 loaded1 c)).2 ||
      ((s.bankImg (!c)).isSome && s.bankDigest (!c) == s.bankRec.failed && s.bankRec.failed != 0) then (0xF, 0)
  else s.bootTry (!c) (loadedOf loaded0 loaded1 (!c))

/-- The reasons that the tries of both banks show. -/
def State.tried (s : State) (loaded0 loaded1 : PerLane Bool) (c : Bool) : State :=
  let res (b : Bool) : BitVec 4 :=
    if b == c then (s.bootTry c (loadedOf loaded0 loaded1 c)).1 else (s.secondTry loaded0 loaded1 c).1
  { s with upd := { s.upd with b0 := res false, b1 := res true } }

/-- The bank whose image runs, with its lanes. -/
def State.bootPick (s : State) (loaded0 loaded1 : PerLane Bool) (c : Bool) : Option (Bool × BitVec 3) :=
  let x := (s.bootTry c (loadedOf loaded0 loaded1 c)).2
  let y := (s.secondTry loaded0 loaded1 c).2
  if 2 ≤ countMask x then some (c, x)
  else if 2 ≤ countMask y then some (!c, y)
  else if 1 ≤ countMask x then some (c, x)
  else if 1 ≤ countMask y then some (!c, y)
  else none

/-- The image of the bank that is picked runs with the lanes that loaded it. -/
def State.bootPicked (s : State) (c : Bool) (can : PerStore Bool) (b : Bool) (lanes : BitVec 3) (i : Image) : State :=
  if i.hdr.lcReq == .retired then ({ s with fuses := { s.fuses with retired := true, kek := none } } : State).bootFailed
  else
    let s2 := (s.bootRun i b (b != c) can lanes).loadImgRegs i.hdr
    (if countMask lanes < 2 then s2.setLatch 0x06 else s2).bootEnd

theorem State.bootLoad_eq (s : State) (loaded0 loaded1 : PerLane Bool) (c : Bool) (can : PerStore Bool) :
    s.bootLoad loaded0 loaded1 c can =
      (s.bootPick loaded0 loaded1 c).elim (s.tried loaded0 loaded1 c).bootFailed fun p =>
        ((s.tried loaded0 loaded1 c).bankImg p.1).elim (s.tried loaded0 loaded1 c).bootFailed
          ((s.tried loaded0 loaded1 c).bootPicked c can p.1 p.2) := by
  cases hpick : s.bootPick loaded0 loaded1 c with
  | none =>
    unfold State.bootLoad
    extract_lets at_ x other barred y res _ s1 pick
    have h : pick = none := hpick
    rw [h]
    rfl
  | some p =>
    obtain ⟨b, lanes⟩ := p
    unfold State.bootLoad
    extract_lets at_ x other barred y res _ s1 pick
    have h : pick = some (b, lanes) := hpick
    rw [h]
    dsimp only [Option.elim]
    cases himg : s1.bankImg b with
    | none =>
      have himg' : (s.tried loaded0 loaded1 c).bankImg b = none := himg
      rw [himg']
      rfl
    | some i =>
      have himg' : (s.tried loaded0 loaded1 c).bankImg b = some i := himg
      rw [himg']
      rfl

/-- Two lanes accept the bank ACTIVE: its image runs. -/
theorem State.bootLoad_runs {s : State} {loaded0 loaded1 : PerLane Bool} {i : Image} (can : PerStore Bool)
    (hlatch : s.aon.latch = false) (himg : s.bankImg s.bankRec.active = some i) (hreason : s.bootReason (some i) = 0)
    (hretired : i.hdr.lcReq ≠ .retired)
    (htwo : 2 ≤ countMask (maskOf (fun l => (loadedOf loaded0 loaded1 s.bankRec.active).get l))) :
    s.bootLoad loaded0 loaded1 s.bankRec.active can =
      (((s.tried loaded0 loaded1 s.bankRec.active).bootRun i s.bankRec.active false can
        (maskOf (fun l => (loadedOf loaded0 loaded1 s.bankRec.active).get l))).loadImgRegs i.hdr).setMode .prove := by
  obtain ⟨hmask, -, -⟩ := State.bootTry_accepted (loadedOf loaded0 loaded1 s.bankRec.active) (s := s) (b := s.bankRec.active)
    (by rw [himg]; exact hreason)
  rw [← hmask] at htwo ⊢
  have hpick : s.bootPick loaded0 loaded1 s.bankRec.active =
      some (s.bankRec.active, (s.bootTry s.bankRec.active (loadedOf loaded0 loaded1 s.bankRec.active)).2) := if_pos htwo
  have himg' : (s.tried loaded0 loaded1 s.bankRec.active).bankImg s.bankRec.active = some i := himg
  rw [State.bootLoad_eq, hpick]
  dsimp only [Option.elim]
  rw [himg']
  dsimp only [State.bootPicked]
  rw [if_neg (by simp [hretired]), if_neg (Nat.not_lt.mpr htwo), bne_self_eq_false]
  exact if_neg (by simp [State.tried, hlatch])

/-- Neither bank holds an acceptable image: the module stays in BOOT (R49). -/
theorem State.bootLoad_fails {s : State} (loaded0 loaded1 : PerLane Bool) (c : Bool) (can : PerStore Bool)
    (hbank0 : s.bootReason s.nvm.bank0 ≠ 0) (hbank1 : s.bootReason s.nvm.bank1 ≠ 0) :
    s.bootLoad loaded0 loaded1 c can = (s.tried loaded0 loaded1 c).bootFailed := by
  have hrefused (b : Bool) : (s.bootTry b (loadedOf loaded0 loaded1 b)).2 = 0 := by
    refine State.bootTry_refused _ ?_
    cases b
    · exact hbank0
    · exact hbank1
  have hsecond : (s.secondTry loaded0 loaded1 c).2 = 0 := by
    unfold State.secondTry
    split
    · rfl
    · exact hrefused (!c)
  have hpick : s.bootPick loaded0 loaded1 c = none := by
    unfold State.bootPick
    rw [hrefused, hsecond]
    rfl
  rw [State.bootLoad_eq, hpick]
  rfl

/-- The bank that is tried first shows what its try gives. -/
theorem State.tried_first (s : State) (loaded0 loaded1 : PerLane Bool) (c : Bool) :
    (if c then (s.tried loaded0 loaded1 c).upd.b1 else (s.tried loaded0 loaded1 c).upd.b0) =
      (s.bootTry c (loadedOf loaded0 loaded1 c)).1 := by
  cases c
  · rfl
  · rfl

/-! ### PROVE (R43, R263, R430, R489-R491) -/

/-- A lane that begins with the restart values keeps its service and its checker (R147). -/
theorem State.restartLane_effect (s : State) (l : Lane) :
    ((s.restartLane l).lane l).svc = (s.lane l).svc ∧ ((s.restartLane l).lane l).proofFails = (s.lane l).proofFails ∧
    ((s.restartLane l).lane l).check = (s.lane l).check ∧ ∀ m, m ≠ l → (s.restartLane l).lane m = s.lane m := by
  unfold State.restartLane
  split
  · rw [State.lane_modLaneSt_self]
    exact ⟨rfl, rfl, rfl, fun m hm => State.lane_modLaneSt_ne _ _ _ _ hm⟩
  · exact ⟨rfl, rfl, rfl, fun _ _ => rfl⟩

/-- Known answers that are right clear the lane's bit of KAT_FAIL (R430). -/
theorem State.kat_passes {s : State} (l : Lane) {k : KatRead} (hkat : katMatches k = true) :
    ((s.kat l k).lane l = { s.lane l with katDue := false }) ∧ (∀ m, m ≠ l → (s.kat l k).lane m = s.lane m) ∧
    (s.kat l k).crc = { s.crc with katFail := s.crc.katFail &&& ~~~(maskOf fun m => m == l) } ∧ SameBut [.lanes, .crc] s (s.kat l k) := by
  have heq : s.kat l k = { s.modLaneSt l (fun x => { x with katDue := false }) with
      crc := { s.crc with katFail := s.crc.katFail &&& ~~~(maskOf fun m => m == l) } } := if_pos hkat
  rw [heq]
  exact ⟨(s.lane_modLaneSt_self l (fun x => { x with katDue := false }) :), fun m hm => (s.lane_modLaneSt_ne l m (fun x => { x with katDue := false }) hm :), rfl,
    sameBut_of _ _ _ fun p => by cases p <;> simp [Part.agree]⟩

/-- A lane that has passed its proof is in service, with its known answers tested. -/
def State.provePass (s : State) (l : Lane) (k : KatRead) : State :=
  let s1 := (s.modLaneSt l (fun x => { x with svc := .inService, proofFails := 0 })).kat l k
  if (s.lane l).katDue then (s1.modLaneSt l (fun x => { x with katDue := true })).restartLane l else s1

theorem State.provePass_effect {s : State} (l : Lane) {k : KatRead} (hkat : katMatches k = true) :
    ((s.provePass l k).lane l).svc = .inService ∧ ((s.provePass l k).lane l).proofFails = 0 ∧
    ((s.provePass l k).lane l).check = (s.lane l).check ∧ (∀ m, m ≠ l → (s.provePass l k).lane m = s.lane m) ∧
    (s.provePass l k).crc = { s.crc with katFail := s.crc.katFail &&& ~~~(maskOf fun m => m == l) } ∧
    SameBut [.lanes, .crc] s (s.provePass l k) := by
  obtain ⟨b, hb⟩ : ∃ b, b = s.modLaneSt l (fun x => { x with svc := .inService, proofFails := 0 }) := ⟨_, rfl⟩
  have hbself : b.lane l = { s.lane l with svc := .inService, proofFails := 0 } := by rw [hb, State.lane_modLaneSt_self]
  have hbothers (m : Lane) (hm : m ≠ l) : b.lane m = s.lane m := by rw [hb, State.lane_modLaneSt_ne _ _ _ _ hm]
  have hbsame : SameBut [.lanes, .crc] s b := by
    rw [hb]
    exact sameBut_of _ _ _ fun p => by cases p <;> simp [Part.agree]
  have hbcrc : b.crc = s.crc := by rw [hb]; simp
  obtain ⟨hkself, hkothers, hkcrc, hksame⟩ := State.kat_passes (s := b) l hkat
  rw [hbcrc] at hkcrc
  unfold State.provePass
  rw [← hb]
  dsimp only
  split
  · obtain ⟨hsvc, hfails, hcheck, hothers⟩ := ((b.kat l k).modLaneSt l (fun x => { x with katDue := true })).restartLane_effect l
    refine ⟨hsvc.trans ?_, hfails.trans ?_, hcheck.trans ?_, fun m hm => ?_, by simpa using hkcrc, (hbsame.trans hksame).trans
      (sameBut_of _ _ _ fun p => by cases p <;> simp [Part.agree])⟩
    · rw [State.lane_modLaneSt_self, hkself, hbself]
    · rw [State.lane_modLaneSt_self, hkself, hbself]
    · rw [State.lane_modLaneSt_self, hkself, hbself]
    · rw [hothers m hm, State.lane_modLaneSt_ne _ _ _ _ hm, hkothers m hm, hbothers m hm]
  · refine ⟨?_, ?_, ?_, fun m hm => ?_, hkcrc, hbsame.trans hksame⟩
    · rw [hkself, hbself]
    · rw [hkself, hbself]
    · rw [hkself, hbself]
    · rw [hkothers m hm, hbothers m hm]

/-- What the start-up proof of lane `l` leaves: the lane in service, its known answers right, and of the other lanes all but their regions. -/
structure Proved (l : Lane) (s t : State) : Prop where
  svc : (t.lane l).svc = .inService
  fails : (t.lane l).proofFails = 0
  lock : (t.lane l).check.injLock = true
  others : ∀ m, m ≠ l → t.lane m = { s.lane m with region := (t.lane m).region }
  crc : t.crc = { s.crc with katFail := s.crc.katFail &&& ~~~(maskOf fun m => m == l) }
  same : SameBut [.lanes, .crc] s t

theorem State.proveLane_passes {s : State} {l : Lane} {o : ProveObs} (hloaded : (s.lane l).loaded = true)
    (hsvc : (s.lane l).svc ≠ .disabled) (hcold : (s.lane l).hot = false) (hlock : (s.lane l).check.injLock = false)
    (hfirst : o.first = none) (hmiss : Checker.misses o.hw = 0) (hkat : katMatches o.kat = true) : Proved l s (s.proveLane l o) := by
  obtain ⟨a, ha⟩ : ∃ a, a = s.tested l none o.hw := ⟨_, rfl⟩
  have hlanes (m : Lane) : a.lane m = { (s.modCheck l fun c => c.inject o.hw).lane m with region := (a.lane m).region } := by
    rw [ha]
    exact State.lane_modAllK_rest _ _ m
  have hself : a.lane l = { s.lane l with check := (s.lane l).check.inject o.hw, region := (a.lane l).region } :=
    (hlanes l).trans (by rw [State.modCheck, State.lane_modLaneSt_self])
  have hothers (m : Lane) (hm : m ≠ l) : a.lane m = { s.lane m with region := (a.lane m).region } :=
    (hlanes m).trans (by rw [State.modCheck, State.lane_modLaneSt_ne _ _ _ _ hm])
  obtain ⟨hinjLock, hdone, hnone⟩ := LaneCheck.inject_found hlock hmiss
  have hpassed : proofTest none (a.lane l).check = none := by
    rw [hself]
    simp [proofTest, hdone, hnone]
  have hprove : s.proveLane l o = a.provePass l o.kat := by
    unfold State.proveLane
    rw [if_neg (by simp [hloaded, hsvc, hcold])]
    dsimp only
    rw [hfirst, ← ha, hpassed]
    rfl
  obtain ⟨hin, hfails, hcheck, hkept, hcrc, hsame⟩ := State.provePass_effect (s := a) l hkat
  have hasame : SameBut [.lanes, .crc] s a := by
    rw [ha]
    exact sameBut_of _ _ _ fun p => by cases p <;> simp [Part.agree]
  have hacrc : a.crc = s.crc := by rw [ha]; simp
  rw [hprove]
  refine ⟨hin, hfails, ?_, fun m hm => ?_, by rw [hcrc, hacrc], hasame.trans hsame⟩
  · rw [hcheck, hself]
    exact hinjLock
  · rw [hkept m hm, hothers m hm]

/-- No read of the majority element fails a proof without reads. -/
theorem State.proveMajority_quiet (s : State) : s.proveMajority [] [] = { s with vot := { s.vot with majProofOk := true } } := by
  unfold State.proveMajority
  simp [State.lockAtRest, State.majFails]

/-- JOIN is entered: the node listens, unless it is under full silence (R324, R327). -/
theorem State.enterJoin_effect (s : State) : s.enterJoin.ms.mode = .join ∧ (s.net.fullSilent = false → s.enterJoin.net.state = .listen) ∧
    (s.net.fullSilent = true → s.enterJoin.net = s.net) := by
  obtain ⟨u, hu⟩ : ∃ u, u = (s.setMode .join).enterListen := ⟨_, rfl⟩
  have hnet : (s.net.fullSilent = false → u.net.state = .listen) ∧ (s.net.fullSilent = true → u.net = s.net) := by
    have hset : (s.setMode .join).net = s.net := by simp
    rw [hu]
    unfold State.enterListen
    dsimp only
    rw [hset]
    refine ⟨fun h => by rw [if_neg (by simp [h])], fun h => by rw [if_pos h, hset]⟩
  have hmode : u.ms.mode = .join := by
    obtain ⟨since, hms⟩ := s.setMode_inMode .join
    rw [hu, (State.enterListen_frame _).1, hms]
    rfl
  unfold State.enterJoin
  rw [← hu]
  dsimp only
  split
  · exact ⟨hmode, hnet⟩
  · exact ⟨by simpa using hmode, by simpa using hnet⟩

/-- Every lane passes its start-up proof. -/
theorem exec_proveComplete {s : State} {obs : PerLane ProveObs} (hmode : s.ms.mode = .prove) (hlatch : s.aon.latch = false)
    (hready : ∀ l : Lane, (s.lane l).loaded = true ∧ (s.lane l).svc ≠ .disabled ∧ (s.lane l).hot = false ∧
      (s.lane l).check.injLock = false)
    (hpass : ∀ l : Lane, (obs.get l).first = none ∧ Checker.misses (obs.get l).hw = 0 ∧ katMatches (obs.get l).kat = true) :
    ∃ u : State, exec (.proveComplete obs [] []) s = .next ({ u with
        vot := { u.vot with majProofOk := true }
        fld := { u.fld with ifaces := u.fld.ifaces.map (fun v => v.map (fun i => { i with proof := none })) } } : State).enterJoin ∧
      (∀ l : Lane, (u.lane l).svc = .inService ∧ (u.lane l).proofFails = 0 ∧ (u.lane l).check.injLock = true) ∧
      u.crc = { s.crc with katFail := 0 } ∧ SameBut [.lanes, .crc] s u := by
  obtain ⟨a, ha⟩ : ∃ a, a = s.proveLane .a (obs.get .a) := ⟨_, rfl⟩
  obtain ⟨b, hb⟩ : ∃ b, b = a.proveLane .b (obs.get .b) := ⟨_, rfl⟩
  obtain ⟨c, hc⟩ : ∃ c, c = b.proveLane .c (obs.get .c) := ⟨_, rfl⟩
  have hproved (v : State) (l : Lane) (hv : v.lane l = { s.lane l with region := (v.lane l).region }) :
      Proved l v (v.proveLane l (obs.get l)) := by
    obtain ⟨hloaded, hsvc, hcold, hlock⟩ := hready l
    obtain ⟨hfirst, hmiss, hkat⟩ := hpass l
    exact State.proveLane_passes (by rw [hv]; exact hloaded) (by rw [hv]; exact hsvc) (by rw [hv]; exact hcold) (by rw [hv]; exact hlock)
      hfirst hmiss hkat
  have hA : Proved .a s a := ha ▸ hproved s .a rfl
  have hB : Proved .b a b := hb ▸ hproved a .b (hA.others .b (by decide))
  have hC : Proved .c b c := hc ▸ hproved b .c (by rw [hB.others .c (by decide), hA.others .c (by decide)])
  have hlanes (l : Lane) : (c.lane l).svc = .inService ∧ (c.lane l).proofFails = 0 ∧ (c.lane l).check.injLock = true := by
    cases l with
    | a =>
      rw [hC.others .a (by decide), hB.others .a (by decide)]
      exact ⟨hA.svc, hA.fails, hA.lock⟩
    | b =>
      rw [hC.others .b (by decide)]
      exact ⟨hB.svc, hB.fails, hB.lock⟩
    | c => exact ⟨hC.svc, hC.fails, hC.lock⟩
  have hsame : SameBut [.lanes, .crc] s c := (hA.same.trans hB.same).trans hC.same
  have hrunning : c.running = 7 := by
    unfold State.running
    simp only [fun l => (hlanes l).1]
    rfl
  refine ⟨c, ?_, hlanes, ?_, hsame⟩
  · show execProveComplete obs [] [] s = _
    unfold execProveComplete
    rw [if_neg (by simp [hmode])]
    have hfold : lanesList.foldl (fun s l => s.proveLane l (obs.get l)) s = c := by
      rw [hc, hb, ha]
      rfl
    have hmaj : (if countMask c.running < 2 then c.setLatch 0x06 else c.proveMajority [] []) =
        { c with vot := { c.vot with majProofOk := true } } := by
      rw [hrunning]
      exact (if_neg (by decide)).trans c.proveMajority_quiet
    simp only [hfold, hmaj]
    exact if_neg (by simp [show c.aon = s.aon from hsame .aon (by simp), hlatch])
  · rw [hC.crc, hB.crc, hA.crc]
    have hclear : ∀ k : BitVec 3, ((k &&& ~~~(maskOf fun m => m == Lane.a)) &&& ~~~(maskOf fun m => m == Lane.b)) &&&
        ~~~(maskOf fun m => m == Lane.c) = 0 := by decide
    rw [hclear]

/-- BOOT ends in PROVE with the image of the bank ACTIVE (R443, R444). -/
theorem bootComplete_runs {s : State} {loaded0 loaded1 : PerLane Bool} {i : Image} (lockLow : Bool) (converted : PerStore Bool) (ms : Nat)
    (hmode : s.ms.mode = .boot) (hheld : s.ms.porHeld = false) (hfail : s.ms.bootFail = false) (hvalid : s.nvm.rec0.valid = true)
    (hstable : s.bankRec.state = .stable) (hlatch : s.aon.latch = false) (himg : s.bankImg s.bankRec.active = some i)
    (hreason : s.bootReason (some i) = 0) (hretired : i.hdr.lcReq ≠ .retired)
    (htwo : 2 ≤ countMask (maskOf (fun l => (loadedOf loaded0 loaded1 s.bankRec.active).get l))) :
    ∃ t, exec (.bootComplete loaded0 loaded1 ⟨lockLow, converted, false⟩ ms) s = .next t ∧
      t.ms.mode = .prove ∧ t.ms.tUs = i.hdr.tUs.setWidth 17 ∧ t.ms.outHold = s.ms.outHold ∧ t.upd.img = some i ∧
      t.upd.bank = s.bankRec.active ∧
      t.upd.bootFallback = false ∧ t.upd.bootMs = min 65535 ms ∧ t.pwr.dom.getLsbD 2 = true ∧
      ((∀ l : Lane, (loadedOf loaded0 loaded1 s.bankRec.active).get l = true) →
        (if s.bankRec.active then t.upd.b1 else t.upd.b0) = 0) ∧
      ((∃ l : Lane, (loadedOf loaded0 loaded1 s.bankRec.active).get l = false) →
        (if s.bankRec.active then t.upd.b1 else t.upd.b0) = 3) ∧
      (∀ k : Chan, t.fld.cfg[k] = t.chcfgWord k) ∧
      (∀ l : Lane, (loadedOf loaded0 loaded1 s.bankRec.active).get l = true →
        (t.lane l).loaded = true ∧ (t.lane l).regionOk = true ∧ (t.lane l).region = restartRegion i s.node) ∧
      (∀ l : Lane, (loadedOf loaded0 loaded1 s.bankRec.active).get l = false → (t.lane l).svc = .disabled) ∧
      t.aon.latch = false ∧ t.fuses = s.fuses ∧ t.sh = s.sh ∧ t.pending = s.pending := by
  obtain ⟨u, hexec, hupd, hnet, haon, hsame⟩ :=
    exec_bootComplete_stable loaded0 loaded1 lockLow converted ms hmode hheld hfail hvalid hstable
  obtain ⟨took, htook⟩ : ∃ n, n = min 65535 ms := ⟨_, rfl⟩
  rw [← htook] at hupd ⊢
  have hnvm : u.nvm = s.nvm := hsame .nvm (by simp)
  have hbank : u.bankRec = s.bankRec := State.bankRec_congr (by rw [hnvm]) (by rw [hnvm])
  have himgU : u.bankImg u.bankRec.active = some i := by rw [hbank, State.bankImg_congr (s := s) (t := u) (by rw [hnvm]) (by rw [hnvm]), himg]
  have hreasonU : u.bootReason (some i) = 0 := by
    unfold State.bootReason State.imgReason at hreason ⊢
    rw [show u.fuses = s.fuses from hsame .fuses (by simp)]
    exact hreason
  obtain ⟨loaded, hloaded⟩ : ∃ loaded, loaded = loadedOf loaded0 loaded1 s.bankRec.active := ⟨_, rfl⟩
  have hload := State.bootLoad_runs (s := u) converted (haon.trans hlatch) himgU hreasonU hretired (by rw [hbank]; exact htwo)
  obtain ⟨-, htryAll, htrySome⟩ := State.bootTry_accepted (s := u) (b := u.bankRec.active) loaded (by rw [himgU]; exact hreasonU)
  have hfirst := u.tried_first loaded0 loaded1 u.bankRec.active
  rw [hbank, ← hloaded] at hload hfirst
  obtain ⟨v, hv⟩ : ∃ v, v = u.tried loaded0 loaded1 s.bankRec.active := ⟨_, rfl⟩
  have hvbank : v.bankRec = s.bankRec := by
    rw [hv]
    exact hbank
  obtain ⟨w, hw⟩ : ∃ w, w = v.bootRun i s.bankRec.active false converted (maskOf fun l => loaded.get l) := ⟨_, rfl⟩
  obtain ⟨dom, c, hms, hwupd, hdom, hcfg, hrun, hdropped⟩ := State.bootRun_stable (s := v) (t := w) (i := i) (can := converted)
    (lanes := maskOf fun l => loaded.get l) (by rw [hvbank]; exact hstable) (by rw [hw, hvbank])
  obtain ⟨t, ht⟩ : ∃ t, t = (w.loadImgRegs i.hdr).setMode .prove := ⟨_, rfl⟩
  rw [hload, ← hv, ← hw, ← ht] at hexec
  obtain ⟨since, htms⟩ := (w.loadImgRegs i.hdr).setMode_inMode .prove
  rw [← ht, (State.loadImgRegs_frame _ _).1, hms, State.inForce_ms] at htms
  have htmode : t.ms.mode = .prove ∧ t.ms.tUs = i.hdr.tUs.setWidth 17 ∧ t.ms.outHold = v.ms.outHold := by
    rw [htms]
    exact ⟨rfl, rfl, rfl⟩
  obtain ⟨hmodeT, htus, hhold⟩ := htmode
  have hvms : v.ms = s.ms := by
    rw [hv]
    exact hsame .ms (by simp)
  have htupd : t.upd = { w.upd with keys := t.upd.keys, lcBits := t.upd.lcBits, fmt := t.upd.fmt } := by
    rw [ht]
    simp [State.loadImgRegs]
  have htfld : t.fld = w.fld := by simp [ht, State.loadImgRegs]
  have htpair : t.pair = w.pair := by simp [ht, State.loadImgRegs]
  have htlane (l : Lane) : t.lane l = w.lane l := by
    rw [State.lane, State.lane]
    simp [ht, State.loadImgRegs]
  have hshown : (if s.bankRec.active then t.upd.b1 else t.upd.b0) = (u.bootTry u.bankRec.active loaded).1 := by
    rw [hbank, ← hfirst, htupd, hwupd, ← hv]
    rfl
  have hvpair : v.pair = s.pair := by
    rw [hv]
    exact hsame .pair (by simp)
  refine ⟨t, hexec, hmodeT, htus, by rw [hhold, hvms], ?_, ?_, ?_, ?_, ?_, fun hall => ?_, fun hsome => ?_, fun k => ?_, fun l hl => ?_, fun l hl => ?_, ?_, ?_, ?_, ?_⟩
  · rw [htupd, hwupd]
    rfl
  · rw [htupd, hwupd, ← hvbank]
    rfl
  · rw [htupd, hwupd]
    rfl
  · rw [htupd, hwupd, hv]
    exact congrArg Upd.bootMs hupd
  · have hpwr : t.pwr = w.pwr := by simp [ht, State.loadImgRegs]
    rw [hpwr]
    refine hdom ?_
    rw [hv]
    exact hnet
  · rw [hshown]
    exact htryAll fun l => hloaded ▸ hall l
  · rw [hshown]
    exact htrySome (hloaded ▸ hsome)
  · rw [State.chcfgWord_congr (s := w) (by rw [htupd]) htpair, htfld]
    exact hcfg k
  · have hin : l.inMask (maskOf fun l => loaded.get l) = true := by
      rw [inMask_maskOf, hloaded]
      exact hl
    have hregion : t.lane l = { v.lane l with loaded := true, region := restartRegion i v.node, regionOk := true } := by
      rw [htlane, hrun l hin, State.lane, State.inForce, PerLane.get_mapL, if_pos hin]
      rfl
    rw [hregion, State.node, hvpair]
    exact ⟨rfl, rfl, rfl⟩
  · rw [htlane]
    refine hdropped l ?_
    rw [inMask_maskOf, hloaded]
    exact hl
  · rw [ht, hw, hv, (State.setMode_frame _ _).2.2.2.2.2.1]
    simp [State.loadImgRegs, State.tried, haon, hlatch]
  · rw [ht, hw, hv]
    simp [State.loadImgRegs, State.tried]
    exact hsame .fuses (by simp)
  · rw [ht, hw, hv]
    simp [State.loadImgRegs, State.tried]
    exact hsame .sh (by simp)
  · rw [ht, hw, hv]
    simp [State.loadImgRegs, State.tried]
    exact hsame .pending (by simp)

/-- BOOT without an acceptable image (R49). -/
theorem bootComplete_fails {s : State} (loaded0 loaded1 : PerLane Bool) (lockLow : Bool) (converted : PerStore Bool) (ms : Nat)
    (hmode : s.ms.mode = .boot) (hheld : s.ms.porHeld = false) (hfail : s.ms.bootFail = false) (hvalid : s.nvm.rec0.valid = true)
    (hstable : s.bankRec.state = .stable) (hbank0 : s.bootReason s.nvm.bank0 ≠ 0) (hbank1 : s.bootReason s.nvm.bank1 ≠ 0) :
    ∃ t, exec (.bootComplete loaded0 loaded1 ⟨lockLow, converted, false⟩ ms) s = .next t ∧
      t.ms.mode = .boot ∧ t.ms.bootFail = true ∧ t.upd.img = s.upd.img ∧ t.pwr.dom.getLsbD 2 = true ∧
      (∃ r, t.aon.faultRec = some r ∧ r.src = 6) ∧ t.fuses = s.fuses ∧ t.lanes = s.lanes ∧ t.pending = s.pending := by
  obtain ⟨u, hexec, hupd, hnet, -, hsame⟩ :=
    exec_bootComplete_stable loaded0 loaded1 lockLow converted ms hmode hheld hfail hvalid hstable
  have hnvm : u.nvm = s.nvm := hsame .nvm (by simp)
  have hreason (o : Option Image) : u.bootReason o = s.bootReason o := by
    unfold State.bootReason State.imgReason
    rw [show u.fuses = s.fuses from hsame .fuses (by simp)]
  have hload := State.bootLoad_fails (s := u) loaded0 loaded1 s.bankRec.active converted (by rw [hnvm, hreason]; exact hbank0)
    (by rw [hnvm, hreason]; exact hbank1)
  rw [hload] at hexec
  have hms : u.ms = s.ms := hsame .ms (by simp)
  refine ⟨_, hexec, ?_, rfl, ?_, hnet, ⟨_, rfl, rfl⟩, hsame .fuses (by simp), hsame .lanes (by simp), hsame .pending (by simp)⟩
  · exact (congrArg ModeSt.mode hms).trans hmode
  · exact (congrArg Upd.img hupd).trans rfl

/-- PROVE ends in JOIN (R43, R263, R430). -/
theorem proveComplete_joins {s : State} {obs : PerLane ProveObs} (hmode : s.ms.mode = .prove) (hlatch : s.aon.latch = false)
    (hready : ∀ l : Lane, (s.lane l).loaded = true ∧ (s.lane l).svc ≠ .disabled ∧ (s.lane l).hot = false ∧
      (s.lane l).check.injLock = false)
    (hpass : ∀ l : Lane, (obs.get l).first = none ∧ Checker.misses (obs.get l).hw = 0 ∧ katMatches (obs.get l).kat = true) :
    ∃ t, exec (.proveComplete obs [] []) s = .next t ∧
      t.ms.mode = .join ∧ (s.net.fullSilent = false → t.net.state = .listen) ∧ (s.net.fullSilent = true → t.net = s.net) ∧
      t.vot.majProofOk = true ∧ t.aon = s.aon ∧
      (∀ l : Lane, (t.lane l).svc = .inService ∧ (t.lane l).proofFails = 0 ∧ (t.lane l).check.injLock = true) ∧
      t.crc = { s.crc with katFail := 0 } ∧
      (∀ (l : Lane) (b : Bank), (t.iface l b).proof = none ∧ (t.iface l b).token = (s.iface l b).token) ∧
      SameBut [.ms, .lanes, .fld, .vot, .crc, .net, .log, .mail, .host] s t := by
  obtain ⟨u, hexec, hlanes, hcrc, hsame⟩ := exec_proveComplete hmode hlatch hready hpass
  obtain ⟨v, hv⟩ : ∃ v : State, v = { u with
    vot := { u.vot with majProofOk := true }
    fld := { u.fld with ifaces := u.fld.ifaces.map (fun v => v.map (fun i => { i with proof := none })) } } := ⟨_, rfl⟩
  rw [← hv] at hexec
  have hnet : v.net = s.net := by
    rw [hv]
    exact hsame .net (by simp)
  obtain ⟨hjoin, hlisten, hsilent⟩ := v.enterJoin_effect
  rw [hnet] at hlisten hsilent
  have hfld : v.enterJoin.fld = v.fld := by simp
  refine ⟨_, hexec, hjoin, hlisten, hsilent, ?_, ?_, fun l => ?_, ?_, fun l b => ?_, ?_⟩
  · simp [hv]
  · rw [(State.enterJoin_frame v).2.2.2.2.2.1, hv]
    exact hsame .aon (by simp)
  · have hl : v.enterJoin.lane l = u.lane l := by
      rw [State.lane, (State.enterJoin_frame v).2.1, hv]
      rfl
    rw [hl]
    exact hlanes l
  · rw [show v.enterJoin.crc = v.crc by simp, hv]
    exact hcrc
  · have hl : v.enterJoin.iface l b = { s.iface l b with proof := none } := by
      rw [State.iface, hfld, hv]
      simp only [PerLane.get_map]
      rw [show u.fld = s.fld from hsame .fld (by simp)]
      exact Vector.getElem_map _ _
    rw [hl]
    exact ⟨rfl, rfl⟩
  · have hsv : SameBut [.ms, .lanes, .fld, .vot, .crc, .net, .log, .mail, .host] s v := by
      rw [hv]
      exact (hsame.mono (by simp)).trans (sameBut_of _ _ _ fun p => by cases p <;> simp [Part.agree])
    exact hsv.trans (sameBut_of _ _ _ fun p => by cases p <;> simp [Part.agree])

/-- Settles O20: the end of BOOT with and without an image, and the end of PROVE. -/
theorem bootAndProve : Obligations.BootAndProve := by
  unfold Obligations.BootAndProve
  exact ⟨⟨fun s loaded0 loaded1 lockLow converted ms i hmode hheld hfail hvalid hstable hlatch himg hreason hretired htwo =>
      bootComplete_runs lockLow converted ms hmode hheld hfail hvalid hstable hlatch himg hreason hretired htwo,
    fun s loaded0 loaded1 lockLow converted ms hmode hheld hfail hvalid hstable hbank0 hbank1 =>
      bootComplete_fails loaded0 loaded1 lockLow converted ms hmode hheld hfail hvalid hstable hbank0 hbank1⟩,
    fun s obs hmode hlatch hready hpass => proveComplete_joins hmode hlatch hready hpass⟩

end Sys2Proof.Machine
end

section
/-! SUPPORT. Reports and commands (R150-R154, R170, R363, R384): what the reports of a tick give a vehicle's record, and what a worker holds. -/
namespace Sys2Proof.Machine

/-! ### The reports of a vehicle in a tick (R153, R154) -/

/-- Of the reports that pass, those of the latest MEAS_TICK. -/
def latestOf (good : List PosReport) : List PosReport := good.filter (fun r => good.all (fun q => tickGe r.measTick q.measTick))

/-- Two of the latest reports differ. -/
def contradicts (good : List PosReport) : Bool := (latestOf good).any (fun r => (latestOf good).any (fun q => !sameReport r q))

/-- The record that the passing reports give, from the one before the tick. -/
def reportedRec (old : Option AuthRec) (good : List PosReport) : Option AuthRec :=
  if contradicts good then old else ((latestOf good).head?.map (acceptReport old)).or old

theorem Ev.report_effect (v : Ev) (veh : Nat) (rs : List PosReport) {old : Option AuthRec} (hold : v.c.k.tickBase.auths.get? veh = old)
    {good : List PosReport} (hgood : rs.filter (fun r => v.reportOk r old) = good) :
    (v.report veh rs).c.auths.get? veh = (reportedRec old good).map (fun a => { a with rejLast := good.length != rs.length }) ∧
    (∀ j, j ≠ veh → (v.report veh rs).c.auths.get? j = v.c.auths.get? j) ∧
    (v.report veh rs).c.elems = v.c.elems ∧ (v.report veh rs).c.routes = v.c.routes := by
  unfold Ev.report
  extract_lets k base old' good' rej v1 latest contra v2 k3 c3 v3 new
  have hold' : old' = old := hold
  have hgood' : good' = good := by
    rw [← hgood, ← hold']
  have hnew : new = reportedRec old good := by
    have hlatest : latest = latestOf good := by rw [← hgood']; rfl
    have hcontra : contra = contradicts good := by rw [← hgood']; rfl
    unfold reportedRec
    simp only [new, hcontra, hlatest, hold']
    cases latestOf good <;> rfl
  have hrej : rej = (good.length != rs.length) := by rw [← hgood']
  have hv3 : v3.c.auths = v.c.auths ∧ v3.c.elems = v.c.elems ∧ v3.c.routes = v.c.routes := by
    have hv1 : v1.c = v.c := by
      simp only [v1]
      split <;> rfl
    have hv2 : v2.c = v1.c := by
      simp only [v2]
      split <;> rfl
    refine ⟨?_, ?_, ?_⟩
    · exact (congrArg Carried.auths (hv2.trans hv1) :)
    · exact (congrArg Carried.elems (hv2.trans hv1) :)
    · exact (congrArg Carried.routes (hv2.trans hv1) :)
  obtain ⟨hauths, helems, hroutes⟩ := hv3
  rw [← hnew, ← hrej]
  cases new with
  | some a =>
    refine ⟨AMap.get?_set_self _ _ _, fun j hj => (AMap.get?_set_ne _ _ _ _ hj).trans ?_, helems, hroutes⟩
    rw [hauths]
  | none =>
    refine ⟨AMap.get?_del_self _ _, fun j hj => (AMap.get?_del_ne _ _ _ hj).trans ?_, helems, hroutes⟩
    rw [hauths]

theorem tickGe_refl (a : Tick) : tickGe a a = true := by simp [tickGe, tickDiff]

theorem sameReport_refl (r : PosReport) : sameReport r r = true := by simp [sameReport]

/-- A single report that passes is taken. -/
theorem reportedRec_one (old : Option AuthRec) (r : PosReport) : reportedRec old [r] = some (acceptReport old r) := by
  have hlatest : latestOf [r] = [r] := by simp [latestOf, tickGe_refl]
  unfold reportedRec contradicts
  rw [hlatest]
  simp [sameReport_refl]

/-- Of two reports that pass the later one is taken. -/
theorem reportedRec_later (old : Option AuthRec) {q r : PosReport} (h : 0 < (r.measTick - q.measTick).toInt) :
    reportedRec old [q, r] = some (acceptReport old r) := by
  have hrq : tickGe r.measTick q.measTick = true := by
    exact decide_eq_true (Int.le_of_lt h)
  have hqr : tickGe q.measTick r.measTick = false := by
    refine decide_eq_false ?_
    have hneg : q.measTick - r.measTick = -(r.measTick - q.measTick) := by bv_omega
    have hlt := BitVec.toInt_lt (x := r.measTick - q.measTick)
    rw [tickDiff, hneg, BitVec.toInt_neg, Int.bmod_eq_of_le (by omega) (by omega)]
    omega
  have hlatest : latestOf [q, r] = [r] := by simp [latestOf, tickGe_refl, hrq, hqr]
  unfold reportedRec contradicts
  rw [hlatest]
  simp [sameReport_refl]

/-- Two reports that pass, of one MEAS_TICK and not the same, count as none. -/
theorem reportedRec_contradicts (old : Option AuthRec) {q r : PosReport} (h : r.measTick = q.measTick) (hdiffer : sameReport q r = false) :
    reportedRec old [q, r] = old := by
  have hlatest : latestOf [q, r] = [q, r] := by simp [latestOf, h, tickGe_refl]
  have hcontra : contradicts [q, r] = true := by
    unfold contradicts
    rw [hlatest]
    simp [hdiffer]
  exact if_pos hcontra

/-- A test of a report rests on the image, the tick and the elements (R151, R152). -/
theorem Ev.reportOk_congr {v w : Ev} (harea : w.area = v.area) (helems : w.c.elems = v.c.elems) (htick : w.tick = v.tick) (htUs : w.tUs = v.tUs)
    (r : PosReport) (old : Option AuthRec) : w.reportOk r old = v.reportOk r old := by
  unfold Ev.reportOk Ev.reaches Ev.isSection Ev.cfg? Ev.ends
  simp only [harea, htick, htUs, Ev.pathsTo_congr harea helems]

/-- Lane's evaluation with one more report of the tick noted. -/
def Ev.noteReport (v : Ev) (r : PosReport) : Ev :=
  { v with c := { v.c with k := { v.c.k with tickBase := { v.c.k.tickBase with reports := v.c.k.tickBase.reports ++ [r] } } } }

/-- One more report: the vehicle's record is what the reports of the tick that pass give, and no other vehicle's reports change. -/
theorem Ev.oneReport_effect (v : Ev) (r : PosReport) {veh : Nat} (hveh : veh = vehicleOf r) {old : Option AuthRec}
    (hold : v.c.k.tickBase.auths.get? veh = old) {rs good : List PosReport}
    (hrs : v.c.k.tickBase.reports.filter (fun q => vehicleOf q == veh) ++ [r] = rs)
    (hgood : rs.filter (fun q => v.reportOk q old) = good) :
    ((v.oneReport r).c.auths.get? veh).map AuthRec.taken =
      ((reportedRec old good).map (fun a => { a with rejLast := good.length != rs.length })).map AuthRec.taken ∧
    (∀ j, j ≠ veh → ((v.oneReport r).c.auths.get? j).map AuthRec.taken = (v.c.auths.get? j).map AuthRec.taken) ∧
    (v.oneReport r).c.elems = v.c.elems ∧ (v.oneReport r).c.routes = v.c.routes := by
  have hrs' : (v.noteReport r).c.k.tickBase.reports.filter (fun q => vehicleOf q == vehicleOf r) = rs := by
    rw [← hrs, hveh]
    exact (List.filter_append ..).trans (by simp)
  have hok (q : PosReport) : (v.noteReport r).reportOk q old = v.reportOk q old :=
    Ev.reportOk_congr (v := v) (w := v.noteReport r) rfl rfl rfl rfl q old
  have hone : v.oneReport r = ((v.noteReport r).report veh rs).relimit := by
    rw [← hrs', hveh]
    rfl
  obtain ⟨hself, hother, helems, hroutes⟩ := (v.noteReport r).report_effect veh rs (old := old) hold
    (good := good) (by simp only [hok]; exact hgood)
  obtain ⟨-, helems', hroutes', hreports, -, -⟩ := ((v.noteReport r).report veh rs).relimit_effect
  rw [hone]
  refine ⟨?_, fun j hj => ?_, helems'.trans helems, hroutes'.trans hroutes⟩
  · rw [hreports veh, hself]
  · rw [hreports j, hother j hj]
    rfl

/-! ### What a worker holds (R24, R363, R384) -/

/-- Part K with held command `h`, and the command word after it. -/
def LaneK.obey (k : LaneK) (cfg : Vector ChanCfg 48) (n : Tick) (h : Option HeldCmd) : LaneK := (k.hold cfg n h).recommand cfg n

@[simp] theorem LaneK.held_obey (k : LaneK) (cfg : Vector ChanCfg 48) (n : Tick) (h : Option HeldCmd) : (k.obey cfg n h).held = h := rfl

theorem LaneK.forcedOff_obey (k : LaneK) (cfg : Vector ChanCfg 48) (n : Tick) (h : Option HeldCmd) : (k.obey cfg n h).partO[1] = k.partO[1] :=
  Vector.getElem_set_ne (by decide) (by decide) (by decide)

/-- Without a held command the channels are commanded off. -/
theorem LaneK.word_obey_none (k : LaneK) (cfg : Vector ChanCfg 48) (n : Tick) : (k.obey cfg n none).partO[0] = 0 := by
  have hword : (k.obey cfg n none).partO[0] = ((k.hold cfg n none).command n).getD 0 &&& outMaskOf cfg &&& ~~~k.partO[1] &&& ~~~k.lockMask :=
    Vector.getElem_set_self (by decide)
  rw [hword, show (k.hold cfg n none).command n = none from rfl]
  simp

/-- R363: without a held command the item is held. -/
theorem bestCmd_none (i : CmdItem) : bestCmd none [i] = some ⟨i.tick, i.valid, i.mask, i.unit⟩ := rfl

/-- R363: an item of a later TICK is held. -/
theorem bestCmd_newer {h : HeldCmd} {i : CmdItem} (hnew : 0 < (i.tick - h.tick).toInt) :
    bestCmd (some h) [i] = some ⟨i.tick, i.valid, i.mask, i.unit⟩ := by
  have hgt : tickGt i.tick h.tick = true := decide_eq_true hnew
  exact if_pos (by rw [hgt]; rfl)

/-- R363: one of an earlier TICK is not. -/
theorem bestCmd_older {h : HeldCmd} {i : CmdItem} (hold : (i.tick - h.tick).toInt < 0) : bestCmd (some h) [i] = some h := by
  have hgt : tickGt i.tick h.tick = false := decide_eq_false (by rw [tickDiff]; omega)
  have hne : h.tick ≠ i.tick := by
    intro heq
    rw [heq, BitVec.sub_self] at hold
    exact absurd hold (by decide)
  exact if_neg (by rw [hgt, beq_false_of_ne hne]; exact Bool.false_ne_true)

theorem State.seeDual_effect (s : State) : s.seeDual.lanes = s.lanes ∧ s.seeDual.pair = { s.pair with dualSeen := s.seeDual.pair.dualSeen } ∧
    SameBut [.pair, .log, .mail, .host] s s.seeDual := by
  unfold State.seeDual
  extract_lets due
  split
  · obtain ⟨u, hu⟩ : ∃ u : State, u = { s with pair := { s.pair with dualSeen := some s.ms.tick } } := ⟨_, rfl⟩
    rw [← hu]
    have hraise := u.raise_sameBut .alarm 0xE6 .node u.node.toNat []
    have hsu : SameBut [.pair] s u := by
      rw [hu]
      exact sameBut_of _ _ _ fun p => by cases p <;> simp [Part.agree]
    have hlanes : (u.alarmNode 0xE6 []).lanes = s.lanes := (hraise .lanes (by simp)).trans (hsu .lanes (by simp))
    have hpair : (u.alarmNode 0xE6 []).pair = u.pair := hraise .pair (by simp)
    exact ⟨hlanes, by rw [hpair, hu], (hsu.mono (by simp)).trans (hraise.mono (by simp))⟩
  · exact ⟨rfl, rfl, .refl _ s⟩

/-- R363, R384: what a lane holds after an item. -/
def State.obeyed (s : State) (i : CmdItem) (k : LaneK) : LaneK :=
  if i.unit != 0 && s.pair.unitsNow.contains 0 then k
  else
    let base := if i.unit = 0 && !s.pair.unitsNow.isEmpty && !s.pair.unitsNow.contains 0 then k.heldBase else k.held
    k.obey s.part.chans s.ms.tick (bestCmd base [i])

/-- R384: an item is followed where it is of unit 0x000, or no item of that unit came in the tick. -/
theorem State.obeyed_of_followed {s : State} {i : CmdItem} (h : i.unit = 0 ∨ 0 ∉ s.pair.unitsNow) (k : LaneK) :
    s.obeyed i k = k.obey s.part.chans s.ms.tick
      (bestCmd (if i.unit = 0 ∧ s.pair.unitsNow ≠ [] ∧ 0 ∉ s.pair.unitsNow then k.heldBase else k.held) [i]) := by
  have hfollow : ¬ ((i.unit != 0 && s.pair.unitsNow.contains 0) = true) := by
    intro hno
    obtain ⟨hstandby, hzero⟩ := Bool.and_eq_true_iff.mp hno
    exact h.elim (bne_iff_ne.mp hstandby) fun hnot => hnot (List.contains_iff_mem.mp hzero)
  have hfirst : (if i.unit = 0 && !s.pair.unitsNow.isEmpty && !s.pair.unitsNow.contains 0 then k.heldBase else k.held) =
      if i.unit = 0 ∧ s.pair.unitsNow ≠ [] ∧ 0 ∉ s.pair.unitsNow then k.heldBase else k.held :=
    ite_congr (propext (by simp [and_assoc])) (fun _ => rfl) fun _ => rfl
  rw [← hfirst]
  exact if_neg hfollow

/-- COMMANDS: each running lane obeys the item. -/
theorem exec_commands {s : State} {i : CmdItem} (hticks : s.inTicks = true) (hfits : s.cmdFits i = true) :
    ∃ t, exec (.commands i) s = .next t ∧
      (∀ l : Lane, t.lane l = if l.inMask s.running then
        { s.lane l with region := { (s.lane l).region with k := s.obeyed i (s.lane l).region.k } } else s.lane l) ∧
      t.pair = { s.pair with unitsNow := t.pair.unitsNow, dualSeen := t.pair.dualSeen } ∧ i.unit ∈ t.pair.unitsNow ∧
      SameBut [.lanes, .pair, .log, .mail, .host] s t := by
  obtain ⟨u, hu⟩ : ∃ u : State, u = { s with pair := { s.pair with
      unitsNow := if s.pair.unitsNow.contains i.unit then s.pair.unitsNow else s.pair.unitsNow ++ [i.unit] } } := ⟨_, rfl⟩
  obtain ⟨w, hw⟩ : ∃ w : State, w = u.modRunK (s.obeyed i) := ⟨_, rfl⟩
  have hexec : exec (.commands i) s = .next (if s.pair.unitsNow.any (fun x => x != i.unit) then w.seeDual else w) := by
    have hgo : exec (.commands i) s = execCommands i s := rfl
    rw [hgo, hw, hu]
    exact if_neg (by rw [hticks, hfits]; decide)
  have hunit : i.unit ∈ u.pair.unitsNow := by
    rw [hu]
    change i.unit ∈ if s.pair.unitsNow.contains i.unit then s.pair.unitsNow else s.pair.unitsNow ++ [i.unit]
    split
    · next h => exact List.contains_iff_mem.mp h
    · exact List.mem_append_right _ (List.mem_singleton.mpr rfl)
  have hlane (l : Lane) : w.lane l = if l.inMask s.running then
      { s.lane l with region := { (s.lane l).region with k := s.obeyed i (s.lane l).region.k } } else s.lane l := by
    rw [hw, State.lane_modRunK, hu]
    rfl
  have hsw : SameBut [.lanes, .pair] s w := by
    have hsu : SameBut [.pair] s u := by
      rw [hu]
      exact sameBut_of _ _ _ fun p => by cases p <;> simp [Part.agree]
    rw [hw]
    exact (hsu.mono (by simp)).trans ((u.modRunK_sameBut _).mono (by simp))
  have hpair : w.pair = u.pair := by
    rw [hw]
    exact (u.modRunK_sameBut _) .pair (by simp)
  have hupair : u.pair = { s.pair with unitsNow := u.pair.unitsNow } := by rw [hu]
  rw [hexec]
  split
  · obtain ⟨hlanes, hdual, hrest⟩ := w.seeDual_effect
    refine ⟨_, rfl, fun l => ?_, ?_, ?_, (hsw.mono (by simp)).trans (hrest.mono (by simp))⟩
    · rw [← hlane l]
      exact congrArg (PerLane.get · l) hlanes
    · rw [hdual, hpair, hupair]
    · rw [hdual, hpair]
      exact hunit
  · exact ⟨_, rfl, hlane, by rw [hpair, hupair], by rw [hpair]; exact hunit, hsw.mono (by simp)⟩

/-- COMMAND_HOLD_EXPIRY in a worker: each running lane without a valid command holds none. -/
theorem exec_commandHoldExpiry {s : State} (hticks : s.inTicks = true) (hworker : s.ms.role = .worker) :
    exec .commandHoldExpiry s = .next (s.modRunK (fun k => if (k.command s.ms.tick).isSome then k else k.obey s.part.chans s.ms.tick none)) := by
  have hgo : exec .commandHoldExpiry s = execCommandHoldExpiry s := rfl
  rw [hgo]
  exact if_pos (by rw [hticks, hworker]; rfl)

/-! ### The obligation -/

/-- R150-R154: one more report in a lane that runs or acts. -/
theorem State.positionReport_effect {s : State} {l : Lane} {r : PosReport} (hticks : s.inTicks = true) (hmanager : s.isManager = true)
    (hgateway : s.area.gateways.contains r.gateway = true) (hrun : l.inMask (s.running ||| s.acting) = true) :
    ∃ t, exec (.positionReport r) s = .next t ∧
      (∃ k, (t.lane l).region = { ((s.view l).oneReport r).c with k := k }) ∧ RowKeeps s t := by
  have hexec : exec (.positionReport r) s = .next (s.evaluated (fun v => v.oneReport r)) := by
    have hgo : exec (.positionReport r) s = execPositionReport r s := rfl
    rw [hgo]
    exact if_pos (by rw [hticks, hmanager, hgateway]; rfl)
  obtain ⟨hlane, -, hkeeps⟩ := s.evaluated_effect (f := fun v => v.oneReport r) fun v => v.oneReport_setting r
  obtain ⟨k, hk⟩ := hlane l hrun
  exact ⟨_, hexec, ⟨k, by rw [hk]⟩, hkeeps⟩

/-- Settles O46: each report row is the evaluation of the tick's reports of its vehicle, and each command row obeys one item. -/
theorem reportsAndCommands : Obligations.ReportsAndCommands := by
  refine ⟨fun s l r veh base hticks hmanager hgateway hrun hveh hbase => ?_, fun s i hticks hfits => ?_, fun s hticks hworker => ?_⟩
  · obtain ⟨t, hexec, ⟨k, hregion⟩, hkeeps⟩ := State.positionReport_effect hticks hmanager hgateway hrun
    have hold : (s.view l).c.k.tickBase.auths.get? veh = base.auths.get? veh := by rw [hbase]; rfl
    have hreports : (s.view l).c.k.tickBase.reports = base.reports := by rw [hbase]; rfl
    have hfirst (h : ∀ q ∈ base.reports, vehicleOf q ≠ veh) :
        (s.view l).c.k.tickBase.reports.filter (fun q => vehicleOf q == veh) ++ [r] = [r] := by
      rw [hreports, List.filter_eq_nil_iff.mpr fun q hq => by simpa using h q hq]
      rfl
    obtain ⟨-, hother, helems, hroutes⟩ := (s.view l).oneReport_effect r hveh hold rfl rfl
    refine ⟨t, hexec, fun hnone hok => ?_, fun hnone hbad => ?_, fun q hq hok hqok => ?_, fun j hj => ?_, ?_, ?_, hkeeps⟩
    · obtain ⟨hself, -⟩ := (s.view l).oneReport_effect r hveh hold (good := [r]) (hfirst hnone) (by simp [hok])
      rw [hregion, hself, reportedRec_one]
      rfl
    · obtain ⟨hself, -⟩ := (s.view l).oneReport_effect r hveh hold (good := []) (hfirst hnone) (by simp [hbad])
      rw [hregion, hself]
      cases base.auths.get? veh <;> rfl
    · have hpair : (s.view l).c.k.tickBase.reports.filter (fun q => vehicleOf q == veh) ++ [r] = [q, r] := by
        rw [hreports, hq]
        rfl
      obtain ⟨hself, -⟩ := (s.view l).oneReport_effect r hveh hold (good := [q, r]) hpair (by simp [hok, hqok])
      rw [hregion]
      refine ⟨fun hlater => ?_, fun hsame hdiffer => ?_⟩
      · rw [hself, reportedRec_later _ hlater]
        rfl
      · rw [hself, reportedRec_contradicts _ hsame hdiffer]
        cases base.auths.get? veh <;> rfl
    · rw [hregion]
      exact hother j hj
    · rw [hregion]
      exact helems
    · rw [hregion]
      exact hroutes
  · obtain ⟨t, hexec, hlane, hpair, hunit, hsame⟩ := exec_commands hticks hfits
    refine ⟨t, hexec, fun hstandby hzero l => ?_, fun hfollow l hl base hbase => ?_, fun l hl => ?_, hpair, hunit, hsame⟩
    · have hkept (k : LaneK) : s.obeyed i k = k :=
        if_pos (by rw [bne_iff_ne.mpr hstandby, List.contains_iff_mem.mpr hzero]; rfl)
      rw [hlane l, hkept]
      split <;> rfl
    · have hobey : s.obeyed i (s.lane l).region.k = (s.lane l).region.k.obey s.part.chans s.ms.tick (bestCmd base [i]) := by
        rw [hbase]
        exact State.obeyed_of_followed hfollow _
      rw [hlane l, if_pos hl, hobey]
      refine ⟨fun h => ?_, fun h hh hnew => ?_, fun h hh holder => ?_, LaneK.forcedOff_obey _ _ _ _, rfl⟩
      · rw [h, bestCmd_none]
        rfl
      · rw [hh, bestCmd_newer hnew]
        rfl
      · rw [hh, bestCmd_older holder]
        rfl
    · rw [hlane l, hl]
      rfl
  · refine ⟨_, exec_commandHoldExpiry hticks hworker, fun l hl hnone => ?_, fun l hl => ?_, s.modRunK_sameBut _⟩
    · rw [State.lane_modRunK, if_pos hl, hnone]
      exact ⟨rfl, LaneK.word_obey_none _ _ _, LaneK.forcedOff_obey _ _ _ _, rfl⟩
    · rw [State.lane_modRunK]
      split
      · next hrun =>
        have hsome := Option.isSome_iff_ne_none.mpr (hl.resolve_left (by rw [hrun]; decide))
        rw [if_pos hsome]
      · rfl

end Sys2Proof.Machine
end

section
/-! SUPPORT. Cycle start and coldstart (O40; R314, R322, R327-R332, R366). -/
namespace Sys2Proof.Machine

/-! ### What the guardian and a forwarded frame change (R308, R323, R324) -/

/-- The link engine's registers without what forwarding, full silence and the guardian change. -/
def Net.steady (n : Net) : Net :=
  { n.engine with fwdLate := 0, devs := [], silenceCnt := 0, lockRun := 0, missEdges := 0, isRef := false }

/-- What the guardian, and a cycle-start frame that goes on, leave of the node. -/
structure Guarded (s t : State) : Prop where
  net : t.net.steady = s.net.steady
  tim : t.tim = { s.tim with role := t.tim.role, ppsUsed := t.tim.ppsUsed }
  isRef : s.net.isRef = false → t.net.isRef = false
  missEdges : s.net.missEdges = 0 → t.net.missEdges = 0
  same : SameBut [.net, .tim, .sh, .log, .mail, .host] s t

theorem Guarded.trans {s t u : State} (h : Guarded s t) (g : Guarded t u) : Guarded s u :=
  ⟨g.net.trans h.net, by rw [g.tim, h.tim], fun hs => g.isRef (h.isRef hs), fun hs => g.missEdges (h.missEdges hs), h.same.trans g.same⟩

theorem State.guard_guarded (s : State) : Guarded s s.guard := by
  have hsame : SameBut [.net, .tim, .sh, .log, .mail, .host] s s.guard := sameBut_of _ _ _ fun p => by cases p <;> simp [Part.agree]
  refine ⟨?_, ?_, ?_, ?_, hsame⟩ <;> unfold State.guard <;> split
  · rfl
  · simp only [State.alarmNode_frame]
    rfl
  · rfl
  · simp only [State.alarmNode_frame]
    rfl
  · exact id
  · simp
  · exact id
  · simp

theorem State.accepted_guarded (s : State) (dev : Int) : Guarded s (s.accepted dev) := by
  obtain ⟨u, hu⟩ : ∃ u : State, u = { s with net := { s.net with devs := (dev :: s.net.devs).take 15 } } := ⟨_, rfl⟩
  have hsu : Guarded s u := by
    rw [hu]
    exact ⟨rfl, rfl, id, id, sameBut_of _ _ _ fun p => by cases p <;> simp [Part.agree]⟩
  have haccepted : s.accepted dev = u.guard := by
    rw [hu]
    rfl
  rw [haccepted]
  exact hsu.trans u.guard_guarded

theorem State.fullSilence_guarded (s : State) (code : BitVec 3) : Guarded s (s.fullSilence code) := by
  have hengine := s.fullSilence_engine code
  refine ⟨?_, by simp, fun h => ?_, fun h => ?_, sameBut_of _ _ _ fun p => by cases p <;> simp [Part.agree]⟩
  · unfold Net.steady
    rw [hengine]
  · exact (congrArg Net.isRef hengine :).trans h
  · exact (congrArg Net.missEdges hengine :).trans h

theorem State.sendOn_guarded (s : State) (q : Port) (resNs : Nat) (bs : List Byte) : Guarded s (s.sendOn q resNs bs) := by
  unfold State.sendOn
  split
  · exact ⟨rfl, rfl, id, id, sameBut_of _ _ _ fun p => by cases p <;> simp [Part.agree]⟩
  · obtain ⟨u, hu⟩ : ∃ u : State, u = { s with net := { s.net with fwdLate := s.net.fwdLate + 1 } } := ⟨_, rfl⟩
    have hsu : Guarded s u := by
      rw [hu]
      exact ⟨rfl, rfl, id, id, sameBut_of _ _ _ fun p => by cases p <;> simp [Part.agree]⟩
    rw [← hu]
    dsimp only
    split
    · exact hsu.trans (u.fullSilence_guarded 3)
    · exact hsu

theorem Guarded.refl (s : State) : Guarded s s := ⟨rfl, rfl, id, id, .refl _ s⟩

theorem State.forwardCycle_guarded (s : State) (p : Port) (body : List Byte) (c : Cycle) (resNs : Nat) :
    Guarded s (s.forwardCycle p body c resNs) := by
  unfold State.forwardCycle
  dsimp only
  split
  · exact .refl s
  · split
    · exact s.sendOn_guarded _ _ _
    · exact .refl s

/-! ### The offset sample (R314, R331) -/

theorem Guarded.thetaOf {s t : State} (h : Guarded s t) (p : Port) (c : Cycle) (rxNs : Nat) : t.thetaOf p c rxNs = s.thetaOf p c rxNs := by
  have hports : t.net.ports = s.net.ports := (congrArg Net.ports h.net :)
  unfold State.thetaOf State.linkMedian State.port
  rw [hports]

/-- A sample that the servo can follow: θ, the rate, and the run of edges without a sample. -/
theorem State.sample_effect (s : State) (p : Port) (c : Cycle) (rxNs : Nat)
    (hnear : 10 * (s.thetaOf p c rxNs).natAbs ≤ 3072 * s.ms.tUs.toNat) :
    (s.sample p c rxNs).tim.theta = sat32 (s.thetaOf p c rxNs) ∧
    (s.sample p c rxNs).tim.rate =
      (if s.net.servo then clampRate 300000 (Config.servoRate s.tim.rate.toInt (s.thetaOf p c rxNs)) else s.tim.rate) ∧
    (s.sample p c rxNs).net.refNode = c.ref ∧ (s.sample p c rxNs).net.missEdges = 0 ∧ (s.sample p c rxNs).tim.holdover = false ∧
    (s.sample p c rxNs).tim.tbase = s.tim.tbase ∧ (s.sample p c rxNs).net.cycleThisTick = true ∧
    SameBut [.net, .tim, .sh, .log, .mail, .host] s (s.sample p c rxNs) := by
  obtain ⟨theta, htheta⟩ : ∃ theta, theta = s.thetaOf p c rxNs := ⟨_, rfl⟩
  rw [← htheta] at hnear ⊢
  unfold State.sample
  rw [← htheta]
  extract_lets theta' rate n0 t0 s1 run
  have hfar : ¬ ((decide (3072 * Int.ofNat s.ms.tUs.toNat < 10 * Int.ofNat (absI theta)) && s1.net.servo) = true) := by
    rw [decide_eq_false]
    · exact Bool.false_ne_true
    · have habs : absI theta = theta.natAbs := rfl
      rw [habs, Int.ofNat_eq_natCast, Int.ofNat_eq_natCast]
      omega
  rw [if_neg hfar]
  obtain ⟨u, hu⟩ : ∃ u : State, u = { s1 with net := { s1.net with lockRun := run }, tim := { s1.tim with locked := run == 8 } } := ⟨_, rfl⟩
  rw [← hu]
  have hguard := u.guard_guarded
  have hsu : SameBut [.net, .tim, .sh, .log, .mail, .host] s u := by
    rw [hu]
    exact sameBut_of _ _ _ fun p => by cases p <;> simp [Part.agree, s1]
  have htim : u.tim.theta = sat32 theta ∧ u.tim.rate = rate ∧ u.tim.holdover = false ∧ u.tim.tbase = s.tim.tbase := by
    rw [hu]
    exact ⟨rfl, rfl, rfl, rfl⟩
  have hnet : u.net.refNode = c.ref ∧ u.net.missEdges = 0 ∧ u.net.cycleThisTick = true := by
    rw [hu]
    exact ⟨rfl, rfl, rfl⟩
  obtain ⟨ht, hr, hh, hb⟩ := htim
  obtain ⟨hn, hm, hc⟩ := hnet
  rw [hguard.tim]
  exact ⟨ht, hr, (congrArg Net.refNode hguard.net :).trans hn, hguard.missEdges hm, hh, hb,
    (congrArg Net.cycleThisTick hguard.net :).trans hc, hsu.trans hguard.same⟩

/-- Part of the evaluation of the node's place in the topology (R314). -/
theorem Guarded.topo {s t : State} (h : Guarded s t) (n : BitVec 12) : t.topo? n = s.topo? n := by
  unfold State.topo? State.area
  rw [h.same .upd (by simp)]

theorem Guarded.syncPortCfg {s t : State} (h : Guarded s t) : t.syncPortCfg = s.syncPortCfg := by
  unfold State.syncPortCfg State.node
  rw [h.topo, h.same .pair (by simp)]

/-! ### A cycle-start frame at a follower (R314, R322, R332) -/

/-- A frame inside its acceptance window, as it reaches the follower: forwarded and judged by the guardian. -/
def State.admitted (s : State) (r : RxCycle) (body : List Byte) (c : Cycle) : State :=
  (s.forwardCycle r.rx.port body c r.resNs).accepted (s.cycleDev r.rx.port r.rx.rxNs)

theorem State.admitted_guarded (s : State) (r : RxCycle) (body : List Byte) (c : Cycle) : Guarded s (s.admitted r body c) :=
  (s.forwardCycle_guarded _ _ _ _).trans (State.accepted_guarded _ _)

/-- A node that takes time from a reference: not the reference, and in INTEGRATE, SYNC or SILENT. -/
def State.followsReference (s : State) : Prop :=
  s.net.isRef = false ∧ (s.net.state = .integrate ∨ s.net.state = .sync ∨ s.net.state = .silent)

theorem exec_cycleStart {s : State} {r : RxCycle} {body : List Byte} {c : Cycle} (hrx : s.timing r.rx 1 = (s, some body))
    (hc : c = cycleOf s.areaId body) (hown : c.parent = false) (hf : s.followsReference) :
    (s.cycleWindow r.rx.port < (s.cycleDev r.rx.port r.rx.rxNs).natAbs → exec (.cycleStart r) s = .next (s.edgeDrop r.rx.port)) ∧
    ((s.cycleDev r.rx.port r.rx.rxNs).natAbs ≤ s.cycleWindow r.rx.port →
      exec (.cycleStart r) s = .next ((s.admitted r body c).ownCycle r.rx.port c body r.rx.rxNs)) := by
  obtain ⟨href, hstate⟩ := hf
  have hgo : exec (.cycleStart r) s = if s.cycleWindow r.rx.port < absI (s.cycleDev r.rx.port r.rx.rxNs) then
      .next (s.edgeDrop r.rx.port) else .next ((s.admitted r body c).ownCycle r.rx.port c body r.rx.rxNs) := by
    show execCycleStart r s = _
    unfold execCycleStart
    rw [hrx]
    dsimp only
    rw [← hc, href, Bool.and_false, if_neg (by decide)]
    rcases hstate with h | h | h <;> rw [h] <;> dsimp only <;> rw [hown] <;> rfl
  exact ⟨fun h => hgo.trans (if_pos h), fun h => hgo.trans (if_neg (Nat.not_lt.mpr h))⟩

/-- The frame of the present edge at a follower: no other gallery, and the sample. -/
theorem State.ownCycle_sample {s : State} {p : Port} {c : Cycle} {body : List Byte} {rxNs : Nat} (href : s.net.isRef = false)
    (htick : c.tick = s.ms.tick) (hbase : c.base = s.tim.tbase) (hthis : s.net.cycleThisTick = false) (hport : p = s.syncPortCfg) :
    s.ownCycle p c body rxNs =
      if s.net.cycleHeard then ({ s with net := { s.net with cycleHeard := true } } : State).sample p c rxNs
      else (({ s with net := { s.net with cycleHeard := true } } : State).sample p c rxNs).galleryDiffers (Fin.ofNat 8 c.gal.toNat) := by
  have htake : s.takeCycle p c body rxNs = ({ s with net := { s.net with cycleHeard := true } } : State).sample p c rxNs := by
    unfold State.takeCycle
    rw [hthis, if_neg (by decide), if_pos (by rw [hport, beq_self_eq_true]; rfl)]
  have hsame : ¬ ((c.tick != s.ms.tick || c.base != s.tim.tbase) = true) := by simp [htick, hbase]
  unfold State.ownCycle
  rw [if_neg hsame, href, if_neg (by decide)]
  dsimp only
  rw [htake]

/-- A frame of the gallery in force only ends the count of edges with another. -/
theorem State.galleryDiffers_same {s : State} {g : Fin 8} (h : s.gal.active = g) :
    s.galleryDiffers g = { s with gal := { s.gal with silentEdges := 0 } } := if_pos (by rw [h, beq_self_eq_true])

theorem exec_cycleStart_sample {s : State} {r : RxCycle} {body : List Byte} {c : Cycle} {theta : Int} (hrx : s.timing r.rx 1 = (s, some body))
    (hc : c = cycleOf s.areaId body) (hown : c.parent = false) (hf : s.followsReference) (htheta : theta = s.thetaOf r.rx.port c r.rx.rxNs)
    (hwindow : (s.cycleDev r.rx.port r.rx.rxNs).natAbs ≤ s.cycleWindow r.rx.port) (htick : c.tick = s.ms.tick) (hbase : c.base = s.tim.tbase)
    (hthis : s.net.cycleThisTick = false) (hport : r.rx.port = s.syncPortCfg) (hgal : s.gal.active = Fin.ofNat 8 c.gal.toNat)
    (hnear : 10 * theta.natAbs ≤ 3072 * s.ms.tUs.toNat) :
    ∃ t, exec (.cycleStart r) s = .next t ∧ t.tim.theta = sat32 theta ∧
      t.tim.rate = (if s.net.servo then clampRate 300000 (Config.servoRate s.tim.rate.toInt theta) else s.tim.rate) ∧
      t.net.refNode = c.ref ∧ t.net.missEdges = 0 ∧ t.tim.holdover = false ∧ t.tim.tbase = s.tim.tbase ∧
      t.net.cycleThisTick = true ∧ t.gal = { s.gal with silentEdges := t.gal.silentEdges } ∧
      SameBut [.net, .tim, .gal, .sh, .log, .mail, .host] s t := by
  have hadm := s.admitted_guarded r body c
  obtain ⟨u, hu⟩ : ∃ u : State, u = s.admitted r body c := ⟨_, rfl⟩
  obtain ⟨v, hv⟩ : ∃ v : State, v = { u with net := { u.net with cycleHeard := true } } := ⟨_, rfl⟩
  rw [← hu] at hadm
  have hms : u.ms = s.ms := hadm.same .ms (by simp)
  have hbase' : u.tim.tbase = s.tim.tbase := by rw [hadm.tim]
  have hrate : v.tim.rate = s.tim.rate := by
    rw [hv]
    exact (congrArg Tim.rate hadm.tim :)
  have hservo : v.net.servo = s.net.servo := by
    rw [hv]
    exact (congrArg Net.servo hadm.net :)
  have hvms : v.ms = s.ms := by rw [hv]; exact hms
  have hvbase : v.tim.tbase = s.tim.tbase := by rw [hv]; exact hbase'
  have hvtheta : v.thetaOf r.rx.port c r.rx.rxNs = theta := by
    rw [htheta, ← hadm.thetaOf, hv]
    rfl
  have hsv : SameBut [.net, .tim, .sh, .log, .mail, .host] s v := by
    have huv : SameBut [.net, .tim, .sh, .log, .mail, .host] u v := by
      rw [hv]
      exact sameBut_of _ _ _ fun p => by cases p <;> simp [Part.agree]
    exact hadm.same.trans huv
  obtain ⟨hth, hra, href, hmiss, hhold, htb, hcy, hsame⟩ := v.sample_effect r.rx.port c r.rx.rxNs (by rw [hvtheta, hvms]; exact hnear)
  rw [hvtheta] at hth hra
  rw [hservo, hrate] at hra
  have hst := hsv.trans hsame
  have hexec := (exec_cycleStart hrx hc hown hf).2 hwindow
  rw [← hu, State.ownCycle_sample (hadm.isRef hf.1) (by rw [htick, hms]) (by rw [hbase, hbase'])
    ((congrArg Net.cycleThisTick hadm.net :).trans hthis) (by rw [hport, hadm.syncPortCfg]), ← hv] at hexec
  generalize v.sample r.rx.port c r.rx.rxNs = w at hth hra href hmiss hhold htb hcy hst hexec
  have hwgal : w.gal = s.gal := hst .gal (by simp)
  rw [State.galleryDiffers_same (by rw [hwgal, hgal])] at hexec
  refine ⟨_, hexec, ?_⟩
  split
  · exact ⟨hth, hra, href, hmiss, hhold, htb.trans hvbase, hcy, by rw [hwgal], hst.mono (by simp)⟩
  · refine ⟨hth, hra, href, hmiss, hhold, htb.trans hvbase, hcy, by rw [hwgal], (hst.mono (by simp)).trans ?_⟩
    exact sameBut_of _ _ _ fun p => by cases p <;> simp [Part.agree]

/-- R332: a frame of another tick or base resets the module. -/
theorem exec_cycleStart_differs {s : State} {r : RxCycle} {body : List Byte} {c : Cycle} (hrx : s.timing r.rx 1 = (s, some body))
    (hc : c = cycleOf s.areaId body) (hown : c.parent = false) (hf : s.followsReference)
    (hwindow : (s.cycleDev r.rx.port r.rx.rxNs).natAbs ≤ s.cycleWindow r.rx.port) (hdiffer : c.tick ≠ s.ms.tick ∨ c.base ≠ s.tim.tbase)
    (hphase : s.pwr.phase = .normal) (hheld : s.ms.porHeld = false) :
    ∃ t, exec (.cycleStart r) s = .next t ∧ t.ms.mode = .boot ∧ t.aon.kind = 3 ∧ t.aon.warmSrc = 2 ∧ t.aon.latch = s.aon.latch ∧
      t.fuses = s.fuses := by
  have hadm := s.admitted_guarded r body c
  obtain ⟨u, hu⟩ : ∃ u : State, u = s.admitted r body c := ⟨_, rfl⟩
  rw [← hu] at hadm
  have hms : u.ms = s.ms := hadm.same .ms (by simp)
  have hbase : u.tim.tbase = s.tim.tbase := by rw [hadm.tim]
  have hdiffer' : (c.tick != u.ms.tick || c.base != u.tim.tbase) = true := by
    rw [hms, hbase, Bool.or_eq_true, bne_iff_ne, bne_iff_ne]
    exact hdiffer
  have hexec := (exec_cycleStart hrx hc hown hf).2 hwindow
  rw [← hu, show u.ownCycle r.rx.port c body r.rx.rxNs = u.timeWarm from if_pos hdiffer'] at hexec
  obtain ⟨hmode, hkind, hsrc, hlatch⟩ := State.timeWarm_effect (s := u) (by rw [hadm.same .pwr (by simp)]; exact hphase) (by rw [hms]; exact hheld)
  have hfuses : u.timeWarm.fuses = u.fuses := by simp
  exact ⟨_, hexec, hmode, hkind, hsrc, hlatch.trans (by rw [hadm.same .aon (by simp)]), hfuses.trans (hadm.same .fuses (by simp))⟩

/-- R322: a frame outside its window is counted at its port. -/
theorem State.edgeDrop_effect (s : State) (p : Port) :
    ((s.edgeDrop p).net.ports[p]).edgeCnt = satInc 65535 (s.net.ports[p]).edgeCnt ∧
    (s.edgeDrop p).net = { s.net with ports := (s.edgeDrop p).net.ports } ∧ SameBut [.net, .log, .mail, .host] s (s.edgeDrop p) := by
  obtain ⟨f, hf⟩ : ∃ f : PortSt → PortSt, f = fun x => { x with
      edgeCnt := satInc 65535 x.edgeCnt, edgeTick := true
      edgeRun := if (s.port p).edgeTick then (s.port p).edgeRun else satInc 16 (s.port p).edgeRun } := ⟨_, rfl⟩
  have hnet : (s.edgeDrop p).net = (s.modPort p f).net := by
    rw [hf]
    unfold State.edgeDrop
    extract_lets x run s1
    split
    · exact State.raise_sameBut s1 .alarm 0xD6 .port p.val [BitVec.ofNat 8 p.val] .net (by simp)
    · rfl
  refine ⟨?_, by rw [hnet]; rfl, sameBut_of _ _ _ fun p => by cases p <;> simp [Part.agree]⟩
  rw [hnet]
  exact (congrArg PortSt.edgeCnt (vmod_self s.net.ports p f)).trans (by rw [hf]; rfl)

/-! ### Coldstart (R327-R330, R366) -/

theorem State.retreat_effect (s : State) : s.retreat.net.state = .listen ∧ s.retreat.net.retreats = satInc 255 s.net.retreats ∧
    SameBut [.net, .log, .mail, .host] s s.retreat := by
  refine ⟨?_, ?_, sameBut_of _ _ _ fun p => by cases p <;> simp [Part.agree]⟩ <;> unfold State.retreat <;> simp only [State.alarmNode_frame]

theorem exec_coldstart_retreat {s : State} {f : RxTiming} {body : List Byte} (hrx : s.timing f 2 = (s, some body))
    (hsrc : (Frame.ofBytes body).src ≠ s.node) (hstate : s.net.state = .coldstart) : exec (.coldstart f) s = .next s.retreat := by
  show execColdstart f s = _
  unfold execColdstart
  rw [hrx]
  dsimp only
  rw [if_neg hsrc, hstate]

theorem exec_coldstart_listen {s : State} {f : RxTiming} {body : List Byte} (hrx : s.timing f 2 = (s, some body))
    (hsrc : (Frame.ofBytes body).src ≠ s.node) (hstate : s.net.state = .listen) :
    ∃ t, exec (.coldstart f) s = .next t ∧ t.net = { s.net with listenUs := 0, sent := t.net.sent } ∧ SameBut [.net] s t := by
  have hexec : ∃ u : State, exec (.coldstart f) s = .next { u with net := { u.net with listenUs := 0 } } ∧ (u = s ∨ ∃ q bs, u = s.send q bs) := by
    show ∃ u : State, execColdstart f s = .next { u with net := { u.net with listenUs := 0 } } ∧ (u = s ∨ ∃ q bs, u = s.send q bs)
    unfold execColdstart
    rw [hrx]
    dsimp only
    rw [if_neg hsrc, hstate]
    dsimp only
    refine ⟨_, rfl, ?_⟩
    split
    · split
      · exact .inr ⟨_, _, rfl⟩
      · exact .inl rfl
    · exact .inl rfl
  obtain ⟨u, hexec, hu⟩ := hexec
  refine ⟨_, hexec, ?_⟩
  rcases hu with rfl | ⟨q, bs, rfl⟩
  · exact ⟨rfl, sameBut_of _ _ _ fun p => by cases p <;> simp [Part.agree]⟩
  · exact ⟨rfl, sameBut_of _ _ _ fun p => by cases p <;> simp [Part.agree]⟩

/-- A frame at every port of a list. -/
theorem State.foldSend_eq (bs : Port → List Byte) (ps : List Port) (s : State) {f : State → Port → State}
    (hf : ∀ sent p, f { s with net := { s.net with sent := sent } } p = ({ s with net := { s.net with sent := sent } } : State).send p (bs p)) :
    ps.foldl f s = { s with net := { s.net with sent := s.net.sent ++ ps.map fun p => (p, bs p) } } := by
  have hfold (sent : List (Port × List Byte)) : ps.foldl f { s with net := { s.net with sent := sent } } =
      { s with net := { s.net with sent := sent ++ ps.map fun p => (p, bs p) } } := by
    induction ps generalizing sent with
    | nil => simp
    | cons p rest ih =>
      rw [List.foldl_cons, hf sent p]
      refine (ih (sent ++ [(p, bs p)])).trans ?_
      rw [List.append_assoc]
      rfl
  exact hfold s.net.sent

/-- The coldstart frame of a port (R328). -/
def State.coldstartFrame (s : State) (base : DWord) (p : Port) : List Byte :=
  s.timingFrame p 2 (leBytes 8 base.toNat ++ [BitVec.ofNat 8 ((s.ownRank.map (fun r => r.val)).getD 0)])

theorem State.sendColdstart_eq (s : State) (base : DWord) : s.sendColdstart base = { s with
    net := { s.net with
      sent := s.net.sent ++ ((allFin 4).filter (fun p => s.portOpen p)).map fun p => (p, s.coldstartFrame base p)
      state := .coldstart, attempts := satInc 255 s.net.attempts, listenUs := 0 }
    tim := { s.tim with tbase := base } } := by
  unfold State.sendColdstart
  dsimp only
  rw [State.foldSend_eq (s.coldstartFrame base) _ s fun _ _ => rfl]

theorem exec_listenTimeout {s : State} (hstate : s.net.state = .listen) (hus : s.net.listenUs ≠ 0) (hrank : s.ownRank.isSome = true)
    (hpps : s.tim.ppsQual = false) :
    exec .listenTimeout s = .next (s.listenEnd.sendColdstart (s.listenEnd.aon.timeNs + BitVec.ofNat 64 (1000 * s.ms.tUs.toNat))) := by
  have hgo : ¬ ((s.net.state != .listen || decide (s.net.listenUs = 0) || s.ownRank.isNone) = true) := by
    rw [hstate, decide_eq_false hus, Option.isNone_eq_false_iff.mpr hrank]
    decide
  show execListenTimeout s = _
  unfold execListenTimeout
  rw [if_neg hgo]
  dsimp only
  rw [if_neg (by rw [show s.listenEnd.tim = s.tim from rfl, hpps]; decide)]
  rfl

/-- R327, R328: the listen ends in a contention. -/
theorem State.listenTimeout_effect {s t : State}
    (ht : t = s.listenEnd.sendColdstart (s.listenEnd.aon.timeNs + BitVec.ofNat 64 (1000 * s.ms.tUs.toNat))) :
    t.net.state = .coldstart ∧ t.net.attempts = satInc 255 s.net.attempts ∧
    t.aon = { s.aon with timeNs := BitVec.ofNat 64 (max s.nowNs (s.net.listenFrom + 1000 * s.net.listenUs)) } ∧
    t.tim = { s.tim with tbase := t.aon.timeNs + BitVec.ofNat 64 (1000 * s.ms.tUs.toNat) } ∧
    (∀ x, x ∈ t.net.sent ↔ x ∈ s.net.sent ∨ (s.portOpen x.1 = true ∧ x.2 = s.timingFrame x.1 2
      (leBytes 8 t.tim.tbase.toNat ++ [BitVec.ofNat 8 ((s.ownRank.map (fun r => r.val)).getD 0)]))) ∧
    SameBut [.net, .tim, .aon] s t := by
  obtain ⟨base, hbase⟩ : ∃ base, base = s.listenEnd.aon.timeNs + BitVec.ofNat 64 (1000 * s.ms.tUs.toNat) := ⟨_, rfl⟩
  rw [← hbase, State.sendColdstart_eq] at ht
  have hsent : t.net.sent = s.net.sent ++ ((allFin 4).filter (fun p => s.portOpen p)).map fun p => (p, s.coldstartFrame base p) := by
    rw [ht]
    rfl
  have htbase : t.tim.tbase = base := by rw [ht]
  refine ⟨by rw [ht], by rw [ht]; rfl, by rw [ht]; rfl, ?_, fun x => ?_, ?_⟩
  · have haon : t.aon.timeNs = s.listenEnd.aon.timeNs := by rw [ht]
    rw [haon, ← hbase, ht]
    rfl
  · rw [hsent, htbase, List.mem_append]
    refine or_congr Iff.rfl ?_
    simp only [List.mem_map, List.mem_filter, allFin, List.mem_finRange, true_and]
    constructor
    · rintro ⟨p, hopen, rfl⟩
      exact ⟨hopen, rfl⟩
    · rintro ⟨hopen, hbytes⟩
      exact ⟨x.1, hopen, Prod.ext rfl hbytes.symm⟩
  · rw [ht]
    exact sameBut_of _ _ _ fun p => by cases p <;> simp [Part.agree, State.listenEnd]

theorem exec_contentionWindowEnd {s : State} (hstate : s.net.state = .coldstart) :
    ∃ t, exec .contentionWindowEnd s = .next t ∧ t.net.state = .sync ∧ t.net.isRef = true ∧ t.net.refNode = s.node ∧ t.net.won = true ∧
      t.ms = { s.ms with tick := if s.net.seenParent.isSome then s.ms.tick else 0xFFFFFFFF } ∧ t.tim.role = 1 ∧
      t.tim.tbase = s.tim.tbase ∧ SameBut [.ms, .net, .tim] s t := by
  refine ⟨_, if_neg (by rw [hstate]; decide), rfl, rfl, rfl, rfl, rfl, rfl, rfl, ?_⟩
  exact sameBut_of _ _ _ fun p => by cases p <;> simp [Part.agree]

/-- R330: what a full valid cycle of the own area gives. -/
theorem State.integrate_effect (s : State) (o : SeenCycle) :
    (s.integrate o).net.state = .integrate ∧ (s.integrate o).net.refNode = o.ref ∧ (s.integrate o).net.refRank = o.rank ∧
    (s.integrate o).ms = { s.ms with tick := o.tick } ∧ (s.integrate o).tim.tbase = o.base ∧
    (s.integrate o).aon = { s.aon with timeNs := s.aon.timeNs - BitVec.ofNat 64 o.at_ + BitVec.ofNat 64 o.implied } ∧
    (s.integrate o).gal = { s.gal with active := (s.integrate o).gal.active } ∧ SameBut [.ms, .net, .tim, .aon, .gal] s (s.integrate o) := by
  refine ⟨rfl, rfl, rfl, rfl, rfl, rfl, rfl, ?_⟩
  exact sameBut_of _ _ _ fun p => by cases p <;> simp [Part.agree, State.integrate, State.stepTo]

/-- R366: what a full valid cycle of the parent's area gives. -/
theorem State.joinParent_effect (s : State) (o : SeenCycle) :
    (s.joinParent o).net.state = .coldstart ∧ (s.joinParent o).net.attempts = satInc 255 s.net.attempts ∧
    (s.joinParent o).ms = { s.ms with tick := o.tick } ∧ (s.joinParent o).tim.tbase = o.base ∧
    (s.joinParent o).aon = { s.aon with timeNs := s.aon.timeNs - BitVec.ofNat 64 o.at_ + BitVec.ofNat 64 o.implied } ∧
    SameBut [.ms, .net, .tim, .aon] s (s.joinParent o) := by
  unfold State.joinParent
  extract_lets s1 c
  have hc : c = s1.sendColdstart (o.base + BitVec.ofNat 64 (1000 * s1.ms.tUs.toNat * (o.tick.toNat + 1))) := rfl
  clear_value c
  rw [State.sendColdstart_eq] at hc
  refine ⟨by rw [hc], by rw [hc]; rfl, by rw [hc]; rfl, rfl, by rw [hc]; rfl, ?_⟩
  rw [hc]
  exact sameBut_of _ _ _ fun p => by cases p <;> simp [Part.agree, s1, State.stepTo]

theorem exec_fullValidCycle_own {s : State} {o : SeenCycle} (hstate : s.net.state = .listen) (hfull : o.full = true)
    (hparent : s.net.seenParent.filter (fun x => x.full) = none) (hseen : s.net.seen = some o) :
    exec .fullValidCycle s = .next (s.integrate o) := by
  have hown : s.net.seen.filter (fun x => x.full) = some o := by
    rw [hseen, Option.filter_some, hfull]
    rfl
  show execFullValidCycle s = _
  unfold execFullValidCycle
  rw [if_neg (by rw [hstate]; decide), hparent, hown]

theorem exec_fullValidCycle_parent {s : State} {o : SeenCycle} (hstate : s.net.state = .listen) (hfull : o.full = true)
    (hparent : s.net.seenParent = some o) : exec .fullValidCycle s = .next (s.joinParent o) := by
  have hparent' : s.net.seenParent.filter (fun x => x.full) = some o := by
    rw [hparent, Option.filter_some, hfull]
    rfl
  show execFullValidCycle s = _
  unfold execFullValidCycle
  rw [if_neg (by rw [hstate]; decide), hparent']

/-- Settles O40: a cycle-start frame at a follower, a coldstart frame, the listen's end, the won contention, and a full valid cycle. -/
theorem cycleStartAndColdstart : Obligations.CycleStartAndColdstart := by
  unfold Obligations.CycleStartAndColdstart
  refine ⟨fun s f resNs body c hrx hc hown href hstate => ?_, fun s f body hrx hsrc => ?_, fun s hstate hus hrank hpps => ?_,
    fun s => exec_contentionWindowEnd, fun s o hstate hfull => ⟨fun hparent hseen => ?_, fun hparent => ?_⟩⟩
  · have hf : s.followsReference := ⟨href, hstate⟩
    refine ⟨fun theta htheta hwindow htick hbase hthis hport hgal hnear => ?_, fun hwindow => ?_, fun hwindow hdiffer hphase hheld => ?_⟩
    · have hth : theta = s.thetaOf f.port c f.rxNs := by
        rw [htheta]
        unfold State.thetaOf State.linkMedian State.port
        rw [Int.mul_comm 65536, Int.mul_comm 65536]
      exact exec_cycleStart_sample (r := ⟨f, resNs⟩) hrx hc hown hf hth hwindow htick hbase hthis hport hgal (by omega)
    · exact ⟨_, (exec_cycleStart (r := ⟨f, resNs⟩) hrx hc hown hf).1 hwindow, s.edgeDrop_effect f.port⟩
    · exact exec_cycleStart_differs (r := ⟨f, resNs⟩) hrx hc hown hf hwindow hdiffer hphase hheld
  · exact ⟨fun hstate => ⟨_, exec_coldstart_retreat hrx hsrc hstate, s.retreat_effect⟩, exec_coldstart_listen hrx hsrc⟩
  · exact ⟨_, exec_listenTimeout hstate hus hrank hpps, State.listenTimeout_effect rfl⟩
  · exact ⟨_, exec_fullValidCycle_own hstate hfull hparent hseen, s.integrate_effect o⟩
  · exact ⟨_, exec_fullValidCycle_parent hstate hfull hparent, s.joinParent_effect o⟩

end Sys2Proof.Machine
end

section
/-! SUPPORT. What a slot sends (O37; R21, R39, R302, R310, R321, R324, R344, R452). -/
namespace Sys2Proof.Machine

/-! ### The copies of a frame (R21) -/

/-- The lanes that meet a condition which needs a copy are no more than the copies. -/
theorem countMask_maskOf_le {α : Type} (x : PerLane (Option α)) {f : Lane → Bool} (h : ∀ l, f l = true → (x.get l).isSome = true) :
    countMask (maskOf f) ≤ (x.toList.filterMap id).length := by
  have hmask : lanesOf (maskOf f) = lanesList.filter f := List.filter_congr fun l _ => inMask_maskOf f l
  have hlist : x.toList.filterMap id = lanesList.filterMap x.get := rfl
  rw [countMask, hmask, hlist, List.length_filterMap_eq_countP, ← List.countP_eq_length_filter]
  exact List.countP_mono_left fun l _ => h l

theorem firstSome_mem {α β : Type} {l : List α} {f : α → Option β} {b : β} (h : firstSome l f = some b) : ∃ a, a ∈ l ∧ f a = some b := by
  induction l with
  | nil => exact absurd h (by simp [firstSome])
  | cons a rest ih =>
    cases ha : f a with
    | some c => exact ⟨a, List.mem_cons_self, by rw [firstSome, ha] at h; rw [ha]; exact h⟩
    | none =>
      rw [firstSome, ha] at h
      obtain ⟨x, hx, hfx⟩ := ih h
      exact ⟨x, List.mem_cons_of_mem _ hx, hfx⟩

/-- A frame that two lanes share has two copies. -/
theorem TxFrame.copies_of_choose {t : TxFrame} {c : Sealed × BitVec 3} (h : t.choose = some c) : 2 ≤ (t.copies.toList.filterMap id).length := by
  obtain ⟨d, -, hd⟩ := firstSome_mem h
  dsimp only at hd
  split at hd
  · next htwo =>
    refine htwo.trans (countMask_maskOf_le t.copies fun l hl => ?_)
    cases hcopy : t.copies.get l with
    | some d => rfl
    | none =>
      rw [hcopy] at hl
      exact absurd hl Bool.false_ne_true
  · exact absurd hd (by simp)

/-! ### A frame at an entry (R302, R321, R324) -/

theorem State.sendAt_cut {s : State} {e : DWord} {dev : Int} (p : Port) {bs : List Byte} (hin : s.inWindow e dev = true)
    (hlate : s.windowEnd e < Int.ofNat (lineTime bs.length) + 10 * dev) (hbs : bs ≠ []) :
    ∃ n, n < bs.length ∧ s.sendAt p e dev bs = s.send p (bs.take n) := by
  refine ⟨min (bs.length - 1) ((s.windowEnd e - 10 * dev) / 8).toNat, ?_, ?_⟩
  · have := List.length_pos_of_ne_nil hbs
    omega
  · unfold State.sendAt
    rw [hin, if_neg (by decide)]
    dsimp only
    rw [if_neg (by omega)]

theorem State.sendAt_blocked {s : State} {e : DWord} {dev : Int} (p : Port) (bs : List Byte) (hin : s.inWindow e dev = false) :
    s.sendAt p e dev bs = s.blockStart := if_pos (by rw [hin]; rfl)

theorem State.blockStart_counts {s : State} (h : s.net.blockedTick ≠ 2) :
    s.blockStart = { s with net := { s.net with blockedTick := s.net.blockedTick + 1 } } := by
  unfold State.blockStart
  dsimp only
  exact if_neg (by omega)

/-- R324: the third blocked start of a tick is full silence. -/
theorem State.blockStart_silences {s : State} (h : s.net.blockedTick = 2) (hfull : s.net.fullSilent = false) (hon : s.pwr.dom.getLsbD 2 = true) :
    s.blockStart.net.state = .fullSilence ∧ s.blockStart.net.fullSilent = true ∧ s.blockStart.net.fullCause = 2 ∧
    s.blockStart.net.sent = s.net.sent ∧ SameBut [.net, .sh, .log, .mail, .host] s s.blockStart := by
  obtain ⟨u, hu⟩ : ∃ u : State, u = { s with net := { s.net with blockedTick := s.net.blockedTick + 1 } } := ⟨_, rfl⟩
  have hblock : s.blockStart = u.fullSilence 2 := by
    rw [hu]
    exact if_pos (by rw [h])
  have hnet := State.fullSilence_net (s := u) (by rw [hu]; exact hfull) (by rw [hu]; exact hon) 2
  rw [hblock, hnet, hu]
  refine ⟨rfl, rfl, rfl, rfl, ?_⟩
  exact sameBut_of _ _ _ fun p => by cases p <;> simp [Part.agree]

theorem frame_ne_nil (s : State) (fr : TxFrame) (c : Sealed) (same : BitVec 3) (dir : Bool) : s.frameBytes fr c same dir ≠ [] := by
  intro h
  have hlen := congrArg List.length h
  unfold State.frameBytes withFcs at hlen
  dsimp only at hlen
  rw [List.length_append, length_leBytes] at hlen
  simp at hlen

/-! ### A slot of a stream (R21, R39) -/

/-- The frame of the present tick, marked as gone. -/
def State.leftAt (s : State) (stream : BitVec 12) : State :=
  { s with buf := { s.buf with tx := s.buf.tx.map (fun t =>
    if t.stream == stream && t.tick == s.ms.tick then { t with gone := true } else t) } }

/-- What a slot does with a sealed frame that it has. -/
theorem State.sendStream_sealed {s : State} {p : Port} {e : DWord} {dev : Int} {fr : TxFrame} {c : Sealed} {same : BitVec 3} {bs : List Byte}
    (hid : s.pair.idOk = true) (hfound : s.buf.tx.find? (fun x => x.stream == entryStream e && x.tick == s.ms.tick) = some fr)
    (hstore : s.storeFull fr = false) (hchoose : fr.choose = some (c, same)) (hbs : bs = s.frameBytes fr c same (s.dirOf p)) :
    s.sendStream p e dev =
      if (s.sendAt p e dev bs).net.sent.length = s.net.sent.length then s.sendAt p e dev bs else (s.sendAt p e dev bs).leftAt (entryStream e) := by
  have htwo : ¬ ((fr.copies.toList.filterMap id).length < 2) := Nat.not_lt.mpr (TxFrame.copies_of_choose hchoose)
  have hframe : ((some fr).filter (fun t => !s.storeFull t)).bind (fun t => t.choose.map (fun c => s.frameBytes t c.1 c.2 (s.dirOf p))) = some bs := by
    rw [Option.filter_some, hstore, hbs]
    simp [hchoose]
  unfold State.sendStream
  extract_lets stream found cnt
  have hfr : found = some fr := hfound
  have hcnt : ¬ (cnt < 2) := by
    simp only [cnt, hfr]
    exact htwo
  rw [hid, if_neg (by decide), if_neg hcnt, hfr, hframe]
  rfl

/-- With no sealed frame of the tick the slot stays empty and is counted. -/
theorem State.sendStream_empty {s : State} {p : Port} {e : DWord} {dev : Int} (hid : s.pair.idOk = true)
    (hnone : s.buf.tx.find? (fun x => x.stream == entryStream e && x.tick == s.ms.tick) = none) :
    s.sendStream p e dev = { s with net := { s.net with late := satInc 65535 s.net.late } } := by
  unfold State.sendStream
  extract_lets stream found cnt
  have hcnt : cnt < 2 := by
    simp only [cnt, show found = none from hnone]
    decide
  rw [hid, if_neg (by decide), if_pos hcnt]

theorem State.sendStream_unconfirmed {s : State} (p : Port) (e : DWord) (dev : Int) (hid : s.pair.idOk = false) : s.sendStream p e dev = s :=
  if_pos (by rw [hid]; rfl)

theorem State.sendSlot_unconfirmed {s : State} (p : Port) (e : DWord) (dev : Int) (hid : s.pair.idOk = false) : s.sendSlot p e dev = s := by
  unfold State.sendSlot
  split
  · exact if_pos (by rw [hid]; rfl)
  · exact s.sendStream_unconfirmed p e dev hid

theorem State.sendSlot_stream {s : State} {e : DWord} (p : Port) (dev : Int)
    (h : ∀ c, s.part.streams.find? (fun x => x.stream == entryStream e) = some c → ∀ dst n, c.kind ≠ .bulk dst n) :
    s.sendSlot p e dev = s.sendStream p e dev := by
  unfold State.sendSlot
  split
  · next dst items stream valid hfind => exact absurd rfl (h _ hfind dst items)
  · rfl

section
variable {s : State} {p : Port} {slot : Nat} {dev : Int} {joining : Bool} {e : DWord}
variable (he : e = s.slotEntry p slot)
include he

theorem exec_transmitSlot_tx (hkind : entryKind e = .tx) (hsync : s.net.state = .sync) (hopen : s.portOpen p = true) :
    exec (.transmitSlot p slot ⟨dev, joining⟩) s = .next (s.sendSlot p e dev) := by
  show execTransmitSlot p slot ⟨dev, joining⟩ s = _
  unfold execTransmitSlot
  dsimp only
  rw [← he, hkind]
  exact if_pos (by rw [hsync, hopen]; decide)

theorem exec_transmitSlot_unconfirmed (hkind : entryKind e = .tx) (hid : s.pair.idOk = false) :
    exec (.transmitSlot p slot ⟨dev, joining⟩) s = .next s := by
  show execTransmitSlot p slot ⟨dev, joining⟩ s = _
  unfold execTransmitSlot
  dsimp only
  rw [← he, hkind]
  dsimp only
  rw [s.sendSlot_unconfirmed p e dev hid, ite_self]

theorem exec_transmitSlot_other (htx : entryKind e ≠ .tx) (hlink : entryKind e ≠ .link) :
    exec (.transmitSlot p slot ⟨dev, joining⟩) s = .next s := by
  show execTransmitSlot p slot ⟨dev, joining⟩ s = _
  unfold execTransmitSlot
  dsimp only
  rw [← he]
  cases hkind : entryKind e with
  | tx => exact absurd hkind htx
  | link => exact absurd hkind hlink
  | stop | rx | fwd | brg | cs | reserved => rfl

theorem exec_transmitSlot_quiet (hkind : entryKind e = .link)
    (hno : s.delayOpen p = false ∨ s.initiates p joining = false ∨ s.measures p = false) :
    exec (.transmitSlot p slot ⟨dev, joining⟩) s = .next s := by
  show execTransmitSlot p slot ⟨dev, joining⟩ s = _
  unfold execTransmitSlot
  dsimp only
  rw [← he, hkind]
  refine if_neg ?_
  simp only [Bool.and_eq_true, not_and_or, Bool.not_eq_true, or_assoc]
  exact hno

/-- R310: a whole DLY_REQ in the link window, and its transmit instant. -/
theorem exec_transmitSlot_request (hkind : entryKind e = .link) (hdelay : s.delayOpen p = true) (hinit : s.initiates p joining = true)
    (hmeasure : s.measures p = true) (hwhole : WholeInWindow s e dev 64) :
    ∃ t, exec (.transmitSlot p slot ⟨dev, joining⟩) s = .next t ∧
      t.net = { s.net with ports := t.net.ports, sent := s.net.sent ++ [(p, s.timingFrame p 0x03 (leBytes 2 s.node.toNat))] } ∧
      t.net.ports[p] = { s.net.ports[p] with t1 := some (Int.ofNat (s.edgeNs + entryNs e) + dev).toNat } ∧
      (∀ q : Port, q ≠ p → t.net.ports[q] = s.net.ports[q]) ∧ SameBut [.net] s t := by
  obtain ⟨f, hf⟩ : ∃ f : PortSt → PortSt, f = fun x => { x with t1 := some (Int.ofNat (s.edgeNs + entryNs e) + dev).toNat } := ⟨_, rfl⟩
  have hsend : (s.modPort p f).sendAt p e dev (s.timingFrame p 0x03 (leBytes 2 s.node.toNat)) =
      (s.modPort p f).send p (s.timingFrame p 0x03 (leBytes 2 s.node.toNat)) :=
    State.sendAt_whole (s := s.modPort p f) p (by rw [s.length_timingFrame]; exact hwhole)
  have hexec : exec (.transmitSlot p slot ⟨dev, joining⟩) s =
      .next ((s.modPort p f).send p (s.timingFrame p 0x03 (leBytes 2 s.node.toNat))) := by
    rw [← hsend, hf]
    show execTransmitSlot p slot ⟨dev, joining⟩ s = _
    unfold execTransmitSlot
    dsimp only
    rw [← he, hkind]
    dsimp only
    rw [hdelay, hinit, hmeasure, if_pos (by decide), hwhole.1, if_pos rfl]
    rfl
  refine ⟨_, hexec, rfl, (vmod_self s.net.ports p f).trans (by rw [hf]; rfl), fun q hq => vmod_ne s.net.ports p q f hq, ?_⟩
  exact sameBut_of _ _ _ fun p => by cases p <;> simp [Part.agree]

/-- R21, R302, R321: what a slot of a stream does with the sealed frame of the tick. -/
theorem exec_transmitSlot_stream (hkind : entryKind e = .tx) (hsync : s.net.state = .sync) (hopen : s.portOpen p = true)
    (hid : s.pair.idOk = true)
    (hplain : ∀ c, s.part.streams.find? (fun x => x.stream == entryStream e) = some c → ∀ dst n, c.kind ≠ .bulk dst n)
    {fr : TxFrame} {c : Sealed} {same : BitVec 3} {bs : List Byte}
    (hfound : s.buf.tx.find? (fun x => x.stream == entryStream e && x.tick == s.ms.tick) = some fr)
    (hstore : s.storeFull fr = false) (hchoose : fr.choose = some (c, same)) (hbs : bs = s.frameBytes fr c same (s.dirOf p)) :
    (∀ bs', s.sendAt p e dev bs = s.send p bs' →
      exec (.transmitSlot p slot ⟨dev, joining⟩) s = .next ((s.send p bs').leftAt (entryStream e))) ∧
    ((s.sendAt p e dev bs).net.sent = s.net.sent → exec (.transmitSlot p slot ⟨dev, joining⟩) s = .next (s.sendAt p e dev bs)) := by
  have hexec := exec_transmitSlot_tx (dev := dev) (joining := joining) he hkind hsync hopen
  rw [State.sendSlot_stream p dev hplain, State.sendStream_sealed hid hfound hstore hchoose hbs] at hexec
  refine ⟨fun bs' hsend => ?_, fun hsent => ?_⟩
  · rw [hsend, if_neg (by simp [State.send])] at hexec
    exact hexec
  · rw [if_pos (by rw [hsent])] at hexec
    exact hexec

/-- R344: a bridge slot with frames of its group. -/
theorem exec_bridgeSlot {q : List (List Byte)} {bs : List Byte} (hkind : entryKind e = .brg) (hsync : s.net.state = .sync) (hid : s.pair.idOk = true)
    (hopen : s.portOpen p = true) (hq : q = (s.buf.bridge.filter (fun x => x.1 == entryGroup e)).map (fun x => x.2))
    (hbs : bs = withFcs (stampHead (headBytes 0x11 s.standby s.node 0xFFF (BitVec.ofNat 12 (entryGroup e)) q.flatten.length 1 s.areaId)
      (s.dirOf p) s.gal.active.val ++ q.flatten)) :
    (q = [] → exec (.bridgeSlot p ⟨slot, dev⟩) s = .next s) ∧ (q ≠ [] → exec (.bridgeSlot p ⟨slot, dev⟩) s = .next (s.sendAt p e dev bs)) := by
  have hgo : exec (.bridgeSlot p ⟨slot, dev⟩) s = if q.isEmpty then .next s else .next (s.sendAt p e dev bs) := by
    show execBridgeSlot p ⟨slot, dev⟩ s = _
    unfold execBridgeSlot
    dsimp only
    rw [← he, ← hq, ← hbs, hkind, hsync, hid, hopen]
    rfl
  refine ⟨fun h => ?_, fun h => ?_⟩
  · rw [hgo, h]
    rfl
  · rw [hgo]
    exact if_neg (by simp [h])

theorem exec_bridgeSlot_other (hkind : entryKind e ≠ .brg) : exec (.bridgeSlot p ⟨slot, dev⟩) s = .next s := by
  show execBridgeSlot p ⟨slot, dev⟩ s = _
  unfold execBridgeSlot
  dsimp only
  rw [← he, bne_iff_ne.mpr hkind]
  rfl

/-- R452: a slot of a BULK stream. -/
theorem exec_transmitSlot_bulk (hkind : entryKind e = .tx) (hsync : s.net.state = .sync) (hopen : s.portOpen p = true)
    (hid : s.pair.idOk = true) {dst : BitVec 12} {items : Nat} {stream : BitVec 12} {v : Nat}
    (hfind : s.part.streams.find? (fun x => x.stream == entryStream e) = some ⟨.bulk dst items, stream, v⟩) :
    (s.bulkItems items = [] → exec (.transmitSlot p slot ⟨dev, joining⟩) s = .next s) ∧
    (s.bulkItems items ≠ [] → exec (.transmitSlot p slot ⟨dev, joining⟩) s =
      .next (s.sendAt p e dev (s.bulkFrame p e ⟨.bulk dst items, stream, v⟩ dst (s.bulkItems items)))) := by
  have hexec := exec_transmitSlot_tx (dev := dev) (joining := joining) he hkind hsync hopen
  have hslot : s.sendSlot p e dev = s.sendBulk p e dev ⟨.bulk dst items, stream, v⟩ dst items := by
    unfold State.sendSlot
    rw [hfind]
  rw [hexec, hslot]
  refine ⟨fun h => ?_, fun h => ?_⟩
  · exact congrArg Host.Outcome.next (if_pos (by rw [h, hid]; rfl))
  · exact congrArg Host.Outcome.next (if_neg (by simp [h, hid]))

end

theorem State.send_sameBut (s : State) (p : Port) (bs : List Byte) : SameBut [.net] s (s.send p bs) :=
  sameBut_of _ _ _ fun q => by cases q <;> simp [Part.agree]

theorem State.leftAt_sameBut (s : State) (stream : BitVec 12) : SameBut [.buf] s (s.leftAt stream) :=
  sameBut_of _ _ _ fun q => by cases q <;> simp [Part.agree, State.leftAt]

/-- Settles O37: a slot of a stream, of a BULK stream, a link window, a bridge slot, and the entries that send nothing. -/
theorem slotsSendWhatTwoLanesSealed : Obligations.SlotsSendWhatTwoLanesSealed := by
  unfold Obligations.SlotsSendWhatTwoLanesSealed
  intro s p slot dev joining e he
  refine ⟨fun hkind hsync hopen hid hplain => ⟨fun fr c same bs hfound hstore hchoose hbs => ?_, fun hnone => ?_⟩,
    fun hkind hsync hopen hid dst items stream v hfind => ?_, exec_transmitSlot_unconfirmed he,
    fun hkind hdelay hinit hmeasure => exec_transmitSlot_request he hkind hdelay hinit hmeasure, exec_transmitSlot_quiet he,
    exec_transmitSlot_other he, fun hkind hsync hid hopen => ⟨fun q bs hq hne hbs hwhole => ?_, fun hnone => ?_⟩, exec_bridgeSlot_other he⟩
  · obtain ⟨hsend, hblock⟩ := exec_transmitSlot_stream (dev := dev) (joining := joining) he hkind hsync hopen hid hplain hfound hstore hchoose hbs
    refine ⟨fun hwhole => ?_, fun hin hlate => ?_, fun hin => ⟨fun hfew => ?_, fun htwo hfull hon => ?_⟩⟩
    · exact ⟨_, hsend bs (State.sendAt_whole p hwhole), rfl, rfl, rfl,
        ((s.send_sameBut p bs).mono (by simp)).trans ((State.leftAt_sameBut _ _).mono (by simp))⟩
    · obtain ⟨n, hn, hcut⟩ := State.sendAt_cut p hin hlate (by rw [hbs]; exact frame_ne_nil s fr c same _)
      exact ⟨_, n, hsend _ hcut, hn, rfl, rfl, ((s.send_sameBut p _).mono (by simp)).trans ((State.leftAt_sameBut _ _).mono (by simp))⟩
    · rw [State.sendAt_blocked p bs hin, State.blockStart_counts hfew] at hblock
      exact hblock rfl
    · obtain ⟨hstate, hsilent, hcause, hsent, hsame⟩ := State.blockStart_silences htwo hfull hon
      rw [State.sendAt_blocked p bs hin] at hblock
      exact ⟨_, hblock hsent, hstate, hsilent, hcause, hsent, hsame⟩
  · have hfind : s.buf.tx.find? (fun x => x.stream == entryStream e && x.tick == s.ms.tick) = none := by
      rw [List.find?_eq_none]
      intro x hx hmatch
      obtain ⟨hstream, htick⟩ := Bool.and_eq_true_iff.mp hmatch
      exact hnone x hx (eq_of_beq hstream) (eq_of_beq htick)
    have hexec := exec_transmitSlot_tx (dev := dev) (joining := joining) he hkind hsync hopen
    rw [State.sendSlot_stream p dev hplain, State.sendStream_empty hid hfind] at hexec
    exact ⟨_, hexec, rfl, sameBut_of _ _ _ fun q => by cases q <;> simp [Part.agree]⟩
  · obtain ⟨hempty, hsend⟩ := exec_transmitSlot_bulk (dev := dev) (joining := joining) he hkind hsync hopen hid hfind
    refine ⟨hempty, fun bs hsome hbs hwhole => ?_⟩
    have hexec := hsend hsome
    rw [← hbs, State.sendAt_whole p hwhole] at hexec
    exact ⟨_, hexec, rfl, s.send_sameBut p bs⟩
  · have hexec := (exec_bridgeSlot (dev := dev) he hkind hsync hid hopen hq hbs).2 hne
    rw [State.sendAt_whole p hwhole] at hexec
    exact ⟨_, hexec, rfl, s.send_sameBut p bs⟩
  · refine (exec_bridgeSlot (dev := dev) he hkind hsync hid hopen rfl rfl).1 ?_
    rw [List.filter_eq_nil_iff.mpr fun x hx => by simpa using hnone x hx]
    rfl

end Sys2Proof.Machine
end

section
/-! SUPPORT. Data frames at a port (O35; R305, R308, R322, R324, R327, R329, R335): what is taken, delivered, forwarded and dropped. -/
namespace Sys2Proof.Machine

/-! ### What is taken (R322, R335, R336) -/

/-- A data frame of a type that passes R335 and R336 at an RX entry. -/
structure Sound (s : State) (f : RxFrame) (type : Byte) (body : List Byte) : Prop where
  isOpen : s.portOpen f.port = true
  fcs : stripFcs f.bytes = some body
  type : (Frame.ofBytes body).type = type
  length : body.length = frameLen body
  area : s.knownArea (Frame.ofBytes body).area = true
  rx : entryKind (s.slotEntry f.port f.slot) = .rx

/-- The deviation of a frame from the expected arrival of its entry (R322). -/
def State.deviation (s : State) (f : RxFrame) : Int := f.ofsNs - s.expectedNs f.port (s.slotEntry f.port f.slot)

theorem Sound.take_eq {s : State} {f : RxFrame} {type : Byte} {body : List Byte} (h : Sound s f type body) :
    s.take f [type] =
      if !s.inAccept f.port f.slot (s.deviation f) then .drop (s.edgeDrop f.port)
      else if s.ownFrame (Frame.ofBytes body) then .drop s
      else .take body (s.slotEntry f.port f.slot) (s.accepted (s.deviation f)) := by
  obtain ⟨hopen, hfcs, htype, hlength, harea, hrx⟩ := h
  unfold State.take
  rw [hopen, if_neg (by decide), hfcs]
  dsimp only
  rw [htype, ← hlength, harea, hrx, if_neg (by simp), if_neg (by decide)]
  rfl

theorem Sound.taken {s : State} {f : RxFrame} {type : Byte} {body : List Byte} (h : Sound s f type body)
    (hin : s.inAccept f.port f.slot (s.deviation f) = true) (hown : s.ownFrame (Frame.ofBytes body) = false) :
    s.take f [type] = .take body (s.slotEntry f.port f.slot) (s.accepted (s.deviation f)) := by
  rw [h.take_eq, hin, if_neg (by decide), hown, if_neg (by decide)]

theorem Sound.dropped {s : State} {f : RxFrame} {type : Byte} {body : List Byte} (h : Sound s f type body)
    (hout : s.inAccept f.port f.slot (s.deviation f) = false) : s.take f [type] = .drop (s.edgeDrop f.port) := by
  rw [h.take_eq, hout, if_pos (by decide)]

theorem State.ownFrame_of_not {s : State} {fr : Frame} (h : ¬ (fr.src = s.node ∧ fr.area = s.areaId ∧ s.pair.idOk = true)) :
    s.ownFrame fr = false := by
  rw [Bool.eq_false_iff]
  intro hown
  unfold State.ownFrame at hown
  obtain ⟨hsa, hid⟩ := Bool.and_eq_true_iff.mp hown
  obtain ⟨hsrc, harea⟩ := Bool.and_eq_true_iff.mp hsa
  exact h ⟨eq_of_beq hsrc, eq_of_beq harea, hid⟩

/-! ### The guardian's estimate (R323) -/

theorem State.accepted_devs (s : State) (dev : Int) : (s.accepted dev).net.devs = (dev :: s.net.devs).take 15 := by
  unfold State.accepted State.guard
  split
  · rfl
  · simp

/-- The guardian may silence the node in SYNC only. -/
theorem State.accepted_state (s : State) (dev : Int) :
    (s.accepted dev).net.state = s.net.state ∨ (s.net.state = .sync ∧ (s.accepted dev).net.state = .silent) := by
  unfold State.accepted State.guard
  split
  · exact .inl rfl
  · next h =>
    simp only [Bool.or_eq_true, not_or, bne_iff_ne, ne_eq, Decidable.not_not] at h
    exact .inr ⟨h.2, by simp⟩

/-- An accepted frame leaves the engine as it was, up to the guardian. -/
theorem State.accepted_net (s : State) (dev : Int) :
    (s.accepted dev).net.sent = s.net.sent ∧ (s.accepted dev).net.fwdLate = s.net.fwdLate ∧
    (s.accepted dev).net.fullSilent = s.net.fullSilent ∧ (s.accepted dev).net.ports = s.net.ports := by
  unfold State.accepted State.guard
  split
  · exact ⟨rfl, rfl, rfl, rfl⟩
  · simp

theorem State.portCfg_congr {s t : State} (hupd : t.upd = s.upd) (hpair : t.pair.strapId = s.pair.strapId) (q : Port) :
    t.portCfg q = s.portCfg q := by
  unfold State.portCfg State.topo? State.area State.node
  rw [hupd, hpair]

theorem State.accepted_portCfg (s : State) (dev : Int) (q : Port) : (s.accepted dev).portCfg q = s.portCfg q :=
  State.portCfg_congr (by simp) (by simp) q

theorem State.accepted_otherPort (s : State) (dev : Int) (p : Port) : (s.accepted dev).otherPort p = s.otherPort p := by
  unfold State.otherPort
  simp only [s.accepted_portCfg dev]

theorem State.accepted_portOpen (s : State) (dev : Int) (q : Port) : (s.accepted dev).portOpen q = s.portOpen q := by
  obtain ⟨-, -, -, hports⟩ := s.accepted_net dev
  unfold State.portOpen State.port
  rw [s.accepted_portCfg dev, hports]
  rcases s.accepted_state dev with h | ⟨hsync, hsilent⟩
  · rw [h]
  · rw [hsync, hsilent]
    rfl

/-! ### Forwarding (R305, R308, R324) -/

/-- What forwarding gives at the next port: the frame where its residence time holds, else a count, the third of which is full silence. -/
structure Forwarded (s t : State) (resNs : Nat) : Prop where
  devs : t.net.devs = s.net.devs
  sh : (Int.ofNat resNs - 640).natAbs ≤ 16 ∨ s.net.fwdLate ≠ 2 → t.sh = s.sh
  same : SameBut [.net, .sh, .log, .mail, .host] s t

theorem Forwarded.refl (s : State) (resNs : Nat) : Forwarded s s resNs := ⟨rfl, fun _ => rfl, .refl _ s⟩

theorem State.sendOn_inTime (s : State) (q : Port) {resNs : Nat} (bs : List Byte) (h : (Int.ofNat resNs - 640).natAbs ≤ 16) :
    s.sendOn q resNs bs = s.send q bs := if_pos h

/-- The state with one more late frame of the tick. -/
def State.lateOn (s : State) : State := { s with net := { s.net with fwdLate := s.net.fwdLate + 1 } }

theorem State.sendOn_late (s : State) (q : Port) {resNs : Nat} (bs : List Byte) (h : 16 < (Int.ofNat resNs - 640).natAbs) :
    s.sendOn q resNs bs = if s.net.fwdLate = 2 then s.lateOn.fullSilence 3 else s.lateOn := by
  have hthree : (s.net.fwdLate + 1 = 3) = (s.net.fwdLate = 2) := propext (by omega)
  refine (if_neg (Nat.not_le.mpr h)).trans ?_
  exact ite_congr hthree (fun _ => rfl) fun _ => rfl

theorem State.sendOn_late_effect (s : State) (q : Port) {resNs : Nat} (bs : List Byte) (h : 16 < (Int.ofNat resNs - 640).natAbs) :
    (s.sendOn q resNs bs).net.sent = s.net.sent ∧ (s.sendOn q resNs bs).net.fwdLate = s.net.fwdLate + 1 ∧
    (s.net.fwdLate = 2 → s.net.fullSilent = false → s.pwr.dom.getLsbD 2 = true →
      (s.sendOn q resNs bs).net.state = .fullSilence ∧ (s.sendOn q resNs bs).net.fullCause = 3) := by
  rw [s.sendOn_late q bs h]
  refine ⟨?_, ?_, fun htwo hsilent hon => ?_⟩
  · split
    · unfold State.fullSilence
      split
      · rfl
      · simp [State.lateOn]
    · rfl
  · split
    · exact (congrArg Net.fwdLate (s.lateOn.fullSilence_engine 3) :)
    · rfl
  · rw [if_pos htwo, State.fullSilence_net (s := s.lateOn) hsilent hon]
    exact ⟨rfl, rfl⟩

theorem State.sendOn_forwarded (s : State) (q : Port) (resNs : Nat) (bs : List Byte) : Forwarded s (s.sendOn q resNs bs) resNs := by
  have hsame : SameBut [.net, .sh, .log, .mail, .host] s (s.sendOn q resNs bs) :=
    sameBut_of _ _ _ fun p => by cases p <;> simp [Part.agree]
  by_cases h : (Int.ofNat resNs - 640).natAbs ≤ 16
  · rw [s.sendOn_inTime q bs h] at hsame ⊢
    exact ⟨rfl, fun _ => rfl, hsame⟩
  · rw [s.sendOn_late q bs (by omega)] at hsame ⊢
    refine ⟨?_, fun hno => ?_, hsame⟩
    · split
      · exact (congrArg Net.devs (s.lateOn.fullSilence_engine 3) :)
      · rfl
    · rw [if_neg (hno.resolve_left h)]
      rfl

theorem State.forward_forwarded (s : State) (p : Port) (resNs : Nat) (body : List Byte) : Forwarded s (s.forward p resNs body) resNs := by
  unfold State.forward
  dsimp only
  split
  · exact .refl s resNs
  · split
    · exact s.sendOn_forwarded _ _ _
    · exact .refl s resNs

theorem State.forward_open {s : State} {p q : Port} (resNs : Nat) {body : List Byte} (hq : s.otherPort p = some q)
    (hopen : s.portOpen q = true) (hnbr : (s.portCfg q).nbr ≠ (Frame.ofBytes body).src) :
    s.forward p resNs body = s.sendOn q resNs (withFcs body) := by
  unfold State.forward
  dsimp only
  rw [hq]
  exact if_pos (by rw [hopen, bne_iff_ne.mpr hnbr]; rfl)

/-! ### Bridging, the watch for the own identifier, and delivery (R38, R305, R306, R361) -/

theorem State.bridge_effect (s : State) (e : DWord) (body : List Byte) :
    (s.bridge e body).buf = { s.buf with bridge := (s.bridge e body).buf.bridge } ∧ SameBut [.buf] s (s.bridge e body) := by
  refine ⟨?_, sameBut_of _ _ _ fun p => by cases p <;> simp [Part.agree]⟩
  unfold State.bridge
  dsimp only
  split <;> rfl

theorem State.watchId_effect (s : State) (body : List Byte) :
    (s.watchId body).pair = { s.pair with duplicate := (s.watchId body).pair.duplicate } ∧
    SameBut [.pair, .log, .mail, .host] s (s.watchId body) := by
  refine ⟨?_, sameBut_of _ _ _ fun p => by cases p <;> simp [Part.agree]⟩
  unfold State.watchId State.seeDuplicate
  split
  · split
    · rfl
    · simp
  · rfl

/-- A frame at an RX entry is bridged and watched. -/
def State.bridgedIn (s : State) (e : DWord) (body : List Byte) : State := (s.bridge e body).watchId body

theorem State.bridgedIn_effect (s : State) (e : DWord) (body : List Byte) :
    (s.bridgedIn e body).buf = { s.buf with bridge := (s.bridgedIn e body).buf.bridge } ∧
    (s.bridgedIn e body).pair = { s.pair with duplicate := (s.bridgedIn e body).pair.duplicate } ∧
    SameBut [.buf, .pair, .log, .mail, .host] s (s.bridgedIn e body) := by
  obtain ⟨hbuf, hbridge⟩ := s.bridge_effect e body
  obtain ⟨hpair, hwatch⟩ := (s.bridge e body).watchId_effect body
  refine ⟨?_, ?_, (hbridge.mono (by simp)).trans (hwatch.mono (by simp))⟩
  · unfold State.bridgedIn
    rw [hwatch .buf (by simp), hbuf]
  · unfold State.bridgedIn
    rw [hpair, hbridge .pair (by simp)]

theorem State.deliver_new {s : State} {body : List Byte} (h : ((Frame.ofBytes body).key, (Frame.ofBytes body).tick) ∉ s.buf.rxSeen) :
    s.deliver body = { s with buf := { s.buf with
      rxSeen := s.buf.rxSeen ++ [((Frame.ofBytes body).key, (Frame.ofBytes body).tick)], rxCur := s.buf.rxCur ++ [⟨body⟩] } } :=
  if_neg (by simpa using h)

theorem State.deliver_copy {s : State} {body : List Byte} (h : ((Frame.ofBytes body).key, (Frame.ofBytes body).tick) ∈ s.buf.rxSeen) :
    s.deliver body = s := if_pos (by simpa using h)

theorem State.deliver_sameBut (s : State) (body : List Byte) : SameBut [.buf] s (s.deliver body) :=
  sameBut_of _ _ _ fun p => by cases p <;> simp [Part.agree]

theorem exec_safe_taken {s : State} {f : RxFrame} {body : List Byte} (h : Sound s f 0x10 body)
    (hin : s.inAccept f.port f.slot (s.deviation f) = true) (hown : s.ownFrame (Frame.ofBytes body) = false) :
    exec (.safe f) s = .next ((((s.accepted (s.deviation f)).forward f.port f.resNs body).bridgedIn (s.slotEntry f.port f.slot) body).deliver body) := by
  show execSafe f s = _
  unfold execSafe
  rw [h.taken hin hown]
  dsimp only
  rw [h.rx]
  rfl

/-- R38, R305, R308, R322: an accepted SAFE frame. -/
theorem State.safe_effect {s t : State} {f : RxFrame} {body : List Byte} {e : DWord} {dev : Int}
    (ht : t = (((s.accepted dev).forward f.port f.resNs body).bridgedIn e body).deliver body) {key : Nat × Tick}
    (hkey : key = ((Frame.ofBytes body).key, (Frame.ofBytes body).tick)) :
    (key ∉ s.buf.rxSeen → t.buf.rxCur = s.buf.rxCur ++ [⟨body⟩] ∧ t.buf.rxSeen = s.buf.rxSeen ++ [key]) ∧
    (key ∈ s.buf.rxSeen → t.buf.rxCur = s.buf.rxCur ∧ t.buf.rxSeen = s.buf.rxSeen) ∧
    (∀ q, s.otherPort f.port = some q → s.portOpen q = true → (s.portCfg q).nbr ≠ (Frame.ofBytes body).src →
      ((Int.ofNat f.resNs - 640).natAbs ≤ 16 → t.net.sent = s.net.sent ++ [(q, withFcs body)]) ∧
      (16 < (Int.ofNat f.resNs - 640).natAbs → t.net.sent = s.net.sent ∧ t.net.fwdLate = s.net.fwdLate + 1 ∧
        (s.net.fwdLate = 2 → s.net.fullSilent = false → s.pwr.dom.getLsbD 2 = true → t.net.state = .fullSilence ∧ t.net.fullCause = 3))) ∧
    ((Int.ofNat f.resNs - 640).natAbs ≤ 16 ∨ s.net.fwdLate ≠ 2 → t.sh = s.sh) ∧ t.net.devs = (dev :: s.net.devs).take 15 ∧
    SameBut [.net, .tim, .sh, .buf, .pair, .log, .mail, .host] s t := by
  obtain ⟨a, ha⟩ : ∃ a : State, a = s.accepted dev := ⟨_, rfl⟩
  obtain ⟨w, hw⟩ : ∃ w : State, w = a.forward f.port f.resNs body := ⟨_, rfl⟩
  obtain ⟨n, hn⟩ : ∃ n : State, n = w.bridgedIn e body := ⟨_, rfl⟩
  have hsa : SameBut [.net, .tim, .log, .mail, .host] s a := by
    rw [ha]
    exact sameBut_of _ _ _ fun p => by cases p <;> simp [Part.agree]
  obtain ⟨hsent, hlate, hfull, -⟩ := s.accepted_net dev
  rw [← ha] at hsent hlate hfull
  have hdom : a.pwr = s.pwr := hsa .pwr (by simp)
  have hasame : a.sh = s.sh := hsa .sh (by simp)
  obtain ⟨hdevs, hsh, haw⟩ := a.forward_forwarded f.port f.resNs body
  rw [← hw] at hdevs hsh haw
  obtain ⟨hnbuf, -, hwn⟩ := w.bridgedIn_effect e body
  rw [← hn] at hnbuf hwn
  have hnt := n.deliver_sameBut body
  have htn : t = n.deliver body := by rw [ht, hn, hw, ha]
  rw [← htn] at hnt
  have hwbuf : w.buf = s.buf := (haw .buf (by simp)).trans (hsa .buf (by simp))
  have htnet : t.net = w.net := (hnt .net (by simp)).trans (hwn .net (by simp))
  have hseen : n.buf.rxSeen = s.buf.rxSeen := by rw [hnbuf, hwbuf]
  have hcur : n.buf.rxCur = s.buf.rxCur := by rw [hnbuf, hwbuf]
  refine ⟨fun hnew => ?_, fun hcopy => ?_, fun q hq hopen hnbr => ?_, fun hno => ?_, ?_, ?_⟩
  · rw [htn, State.deliver_new (by rw [hseen, ← hkey]; exact hnew), ← hkey]
    exact ⟨by rw [← hcur], by rw [← hseen]⟩
  · rw [htn, State.deliver_copy (by rw [hseen, ← hkey]; exact hcopy)]
    exact ⟨hcur, hseen⟩
  · have hforward : w = a.sendOn q f.resNs (withFcs body) := by
      rw [hw]
      refine State.forward_open f.resNs ?_ ?_ ?_
      · rw [ha, s.accepted_otherPort, hq]
      · rw [ha, s.accepted_portOpen, hopen]
      · rw [ha, s.accepted_portCfg]
        exact hnbr
    refine ⟨fun hintime => ?_, fun hover => ?_⟩
    · rw [htnet, hforward, a.sendOn_inTime q _ hintime]
      exact congrArg (· ++ [(q, withFcs body)]) hsent
    · obtain ⟨hs, hl, hsilence⟩ := a.sendOn_late_effect q (withFcs body) hover
      rw [← hforward] at hs hl hsilence
      rw [htnet]
      exact ⟨hs.trans hsent, by rw [hl, hlate], fun htwo hsil hon => hsilence (by rw [hlate]; exact htwo) (by rw [hfull]; exact hsil)
        (by rw [hdom]; exact hon)⟩
  · have hwsh := hsh (by rw [hlate]; exact hno)
    rw [hnt .sh (by simp), hwn .sh (by simp), hwsh, hasame]
  · rw [htnet, hdevs, ha]
    exact s.accepted_devs dev
  · exact (hsa.mono (by simp)).trans ((haw.mono (by simp)).trans ((hwn.mono (by simp)).trans (hnt.mono (by simp))))

/-! ### A wrong check value (R327, R329, R335) -/

theorem exec_safe_bad {s : State} {f : RxFrame} (hopen : s.portOpen f.port = true) (hfcs : stripFcs f.bytes = none) :
    exec (.safe f) s = .next (s.bad f.port true) := by
  have htake : s.take f [0x10] = .drop (s.bad f.port true) := by
    unfold State.take
    rw [hopen, if_neg (by decide), hfcs]
  show execSafe f s = _
  unfold execSafe
  rw [htake]

/-- A corrupted frame counts at its port; it restarts a listen and ends a contention. -/
theorem State.bad_effect (s : State) (p : Port) :
    ((s.bad p true).net.ports[p]).badCnt = satInc 65535 (s.net.ports[p]).badCnt ∧
    (∀ q : Port, q ≠ p → (s.bad p true).net.ports[q] = s.net.ports[q]) ∧
    (s.net.state ≠ .coldstart → SameBut [.net] s (s.bad p true) ∧ (s.bad p true).net = { s.net with
      ports := (s.bad p true).net.ports, listenFrom := if s.net.state = .listen then s.nowNs else s.net.listenFrom }) ∧
    (s.net.state = .coldstart → (s.bad p true).net.state = .listen ∧ (s.bad p true).net.retreats = satInc 255 s.net.retreats ∧
      SameBut [.net, .log, .mail, .host] s (s.bad p true)) := by
  obtain ⟨f, hf⟩ : ∃ f : PortSt → PortSt, f = fun x => { x with badCnt := satInc 65535 x.badCnt } := ⟨_, rfl⟩
  obtain ⟨u, hu⟩ : ∃ u : State, u = s.modPort p f := ⟨_, rfl⟩
  have hbad : s.bad p true = if u.net.state = .coldstart then u.retreat
      else if u.net.state = .listen then { u with net := { u.net with listenFrom := u.nowNs } } else u := by
    rw [hu, hf]
    unfold State.bad
    simp only [Bool.true_and, beq_iff_eq]
  have hstate : u.net.state = s.net.state := by
    rw [hu]
    rfl
  have hports : (s.bad p true).net.ports = u.net.ports := by
    rw [hbad]
    split
    · unfold State.retreat
      simp
    · split <;> rfl
  have hself : (u.net.ports[p]).badCnt = satInc 65535 (s.net.ports[p]).badCnt := by
    rw [hu]
    exact (congrArg PortSt.badCnt (vmod_self s.net.ports p f)).trans (by rw [hf]; rfl)
  have hother (q : Port) (hq : q ≠ p) : u.net.ports[q] = s.net.ports[q] := by
    rw [hu]
    exact vmod_ne s.net.ports p q f hq
  have hsu : SameBut [.net] s u := by
    rw [hu]
    exact sameBut_of _ _ _ fun p => by cases p <;> simp [Part.agree]
  have hunet : u.net = { s.net with ports := u.net.ports } := by
    rw [hu]
    rfl
  have hnow : u.nowNs = s.nowNs := by
    unfold State.nowNs
    rw [hsu .aon (by simp)]
  rw [hports]
  refine ⟨hself, hother, fun hno => ?_, fun hcold => ?_⟩
  · rw [hbad, hstate, if_neg hno]
    split
    · refine ⟨hsu.trans (sameBut_of _ _ _ fun p => by cases p <;> simp [Part.agree]), ?_⟩
      rw [hnow, hunet]
    · exact ⟨hsu, hunet⟩
  · obtain ⟨hlisten, hretreats, hsame⟩ := u.retreat_effect
    rw [hbad, hstate, if_pos hcold]
    exact ⟨hlisten, by rw [hretreats, hunet], (hsu.mono (by simp)).trans hsame⟩

/-- Settles O35: an accepted SAFE frame, one outside its window, and one with a wrong check value. -/
theorem safeFramesAreDeliveredOnce : Obligations.SafeFramesAreDeliveredOnce := by
  unfold Obligations.SafeFramesAreDeliveredOnce
  intro s f hopen
  refine ⟨fun body fr dev hfcs hfr htype hlength harea hrx hdev => ?_, fun hfcs => ⟨_, exec_safe_bad hopen hfcs, s.bad_effect f.port⟩⟩
  have hsound : Sound s f 0x10 body := ⟨hopen, hfcs, by rw [← hfr]; exact htype, hlength, by rw [← hfr]; exact harea, hrx⟩
  have hdev' : dev = s.deviation f := hdev
  rw [hdev', hfr]
  refine ⟨fun hin hown => ⟨_, exec_safe_taken hsound hin (State.ownFrame_of_not hown), State.safe_effect rfl rfl⟩, fun hout => ?_⟩
  obtain ⟨hcnt, hnet, hsame⟩ := s.edgeDrop_effect f.port
  have hexec : exec (.safe f) s = .next (s.edgeDrop f.port) := by
    show execSafe f s = _
    unfold execSafe
    rw [hsound.dropped hout]
  exact ⟨_, hexec, hcnt, by rw [hnet], hsame⟩

end Sys2Proof.Machine
end

section
/-! SUPPORT. Chambers and BULK frames (O36; R305, R343, R344, R452). -/
namespace Sys2Proof.Machine

/-! ### The inner frames of a chamber (R344) -/

/-- Each inner frame joins the bridge group of the entry and is watched. -/
def State.innerNoted (s : State) (e : DWord) (bs : List (List Byte)) : State := bs.foldl (fun s b => s.bridgedIn e b) s

theorem State.innerNoted_effect (s : State) (e : DWord) (bs : List (List Byte)) :
    (s.innerNoted e bs).buf = { s.buf with bridge := (s.innerNoted e bs).buf.bridge } ∧
    (s.innerNoted e bs).pair = { s.pair with duplicate := (s.innerNoted e bs).pair.duplicate } ∧
    SameBut [.buf, .pair, .log, .mail, .host] s (s.innerNoted e bs) := by
  induction bs generalizing s with
  | nil => exact ⟨rfl, rfl, .refl _ s⟩
  | cons b rest ih =>
    obtain ⟨hbuf, hpair, hsame⟩ := s.bridgedIn_effect e b
    obtain ⟨hbuf', hpair', hsame'⟩ := ih (s.bridgedIn e b)
    have hcons : s.innerNoted e (b :: rest) = (s.bridgedIn e b).innerNoted e rest := rfl
    rw [hcons]
    exact ⟨by rw [hbuf', hbuf], by rw [hpair', hpair], hsame.trans hsame'⟩

/-- The key under which a frame of the tick is known (R305). -/
def seenKey (b : List Byte) : Nat × Tick := ((Frame.ofBytes b).key, (Frame.ofBytes b).tick)

theorem State.deliver_effect (s : State) (b : List Byte) :
    seenKey b ∈ (s.deliver b).buf.rxSeen ∧ (∀ k, k ∈ s.buf.rxSeen → k ∈ (s.deliver b).buf.rxSeen) ∧
    ((s.deliver b).buf.rxCur = s.buf.rxCur ∨ (s.deliver b).buf.rxCur = s.buf.rxCur ++ [⟨b⟩]) := by
  by_cases h : seenKey b ∈ s.buf.rxSeen
  · rw [State.deliver_copy h]
    exact ⟨h, fun _ hk => hk, .inl rfl⟩
  · rw [State.deliver_new h]
    exact ⟨List.mem_append_right _ (List.mem_singleton.mpr rfl), fun _ hk => List.mem_append_left _ hk, .inr rfl⟩

/-- Delivery of a list of frames: each is known afterwards, and only frames of the list enter. -/
theorem State.deliverAll_effect (bs : List (List Byte)) (s : State) :
    (∀ b, b ∈ bs → seenKey b ∈ (bs.foldl (fun s b => s.deliver b) s).buf.rxSeen) ∧
    (∀ k, k ∈ s.buf.rxSeen → k ∈ (bs.foldl (fun s b => s.deliver b) s).buf.rxSeen) ∧
    (∃ more, (bs.foldl (fun s b => s.deliver b) s).buf.rxCur = s.buf.rxCur ++ more ∧ ∀ m, m ∈ more → m.bytes ∈ bs) ∧
    SameBut [.buf] s (bs.foldl (fun s b => s.deliver b) s) := by
  induction bs generalizing s with
  | nil => exact ⟨fun b hb => absurd hb (List.not_mem_nil), fun _ hk => hk, ⟨[], by simp, by simp⟩, .refl _ s⟩
  | cons b rest ih =>
    obtain ⟨hself, hkept, hcur⟩ := s.deliver_effect b
    obtain ⟨hseen, hlater, ⟨more, hmore, hbytes⟩, hsame⟩ := ih (s.deliver b)
    rw [List.foldl_cons]
    refine ⟨fun c hc => ?_, fun k hk => hlater k (hkept k hk), ?_, (s.deliver_sameBut b).trans hsame⟩
    · rcases List.mem_cons.mp hc with rfl | hc
      · exact hlater _ hself
      · exact hseen c hc
    · rcases hcur with h | h
      · exact ⟨more, by rw [hmore, h], fun m hm => List.mem_cons_of_mem _ (hbytes m hm)⟩
      · refine ⟨⟨b⟩ :: more, by rw [hmore, h, List.append_assoc]; rfl, fun m hm => ?_⟩
        rcases List.mem_cons.mp hm with rfl | hm
        · exact List.mem_cons_self
        · exact List.mem_cons_of_mem _ (hbytes m hm)

/-! ### A chamber (R335, R343, R344) -/

/-- The node after an accepted chamber, before its inner frames are delivered. -/
def State.chamberIn (s : State) (f : RxFrame) (body : List Byte) : State :=
  let a := s.accepted (s.deviation f)
  ((if (innerFrames body.length (Frame.ofBytes body).payload).2 then a.bad f.port false else a).forward f.port f.resNs body).innerNoted
    (s.slotEntry f.port f.slot) (innerFrames body.length (Frame.ofBytes body).payload).1

/-- The inner frames that the node receives. -/
def State.chamberOwn (s : State) (bs : List (List Byte)) : List (List Byte) :=
  bs.filter (fun b => s.addressed (Frame.ofBytes b).dst && !s.ownFrame (Frame.ofBytes b))

theorem exec_chamber_taken {s : State} {f : RxFrame} {body : List Byte} (h : Sound s f 0x11 body)
    (hin : s.inAccept f.port f.slot (s.deviation f) = true) (hown : s.ownFrame (Frame.ofBytes body) = false) :
    exec (.chamber f) s = .next (((s.chamberIn f body).chamberOwn (innerFrames body.length (Frame.ofBytes body).payload).1).foldl
      (fun s b => s.deliver b) (s.chamberIn f body)) := by
  show execChamber f s = _
  unfold execChamber
  rw [h.taken hin hown]
  dsimp only
  rw [h.rx]
  rfl

theorem State.chamberIn_effect (s : State) (f : RxFrame) (body : List Byte) :
    (s.chamberIn f body).buf = { s.buf with bridge := (s.chamberIn f body).buf.bridge } ∧
    (s.chamberIn f body).pair = { s.pair with duplicate := (s.chamberIn f body).pair.duplicate } ∧
    SameBut [.net, .tim, .sh, .buf, .pair, .log, .mail, .host] s (s.chamberIn f body) := by
  obtain ⟨u, hu⟩ : ∃ u : State, u = (if (innerFrames body.length (Frame.ofBytes body).payload).2 then
      (s.accepted (s.deviation f)).bad f.port false else s.accepted (s.deviation f)).forward f.port f.resNs body := ⟨_, rfl⟩
  have hsu : SameBut [.net, .tim, .sh, .log, .mail, .host] s u := by
    rw [hu]
    split
    · exact sameBut_of _ _ _ fun p => by cases p <;> simp [Part.agree]
    · exact sameBut_of _ _ _ fun p => by cases p <;> simp [Part.agree]
  obtain ⟨hbuf, hpair, hsame⟩ := u.innerNoted_effect (s.slotEntry f.port f.slot) (innerFrames body.length (Frame.ofBytes body).payload).1
  have hchamber : s.chamberIn f body = u.innerNoted (s.slotEntry f.port f.slot) (innerFrames body.length (Frame.ofBytes body).payload).1 := by
    rw [hu]
    rfl
  rw [hchamber]
  exact ⟨by rw [hbuf, hsu .buf (by simp)], by rw [hpair, hsu .pair (by simp)], (hsu.mono (by simp)).trans (hsame.mono (by simp))⟩

/-- Whom a frame addresses rests on the node's identity and the image. -/
theorem State.chamberOwn_congr {s t : State} (hupd : t.upd = s.upd) (hid : t.node = s.node ∧ t.pair.idOk = s.pair.idOk) (bs : List (List Byte)) :
    t.chamberOwn bs = s.chamberOwn bs := by
  obtain ⟨hnode, hok⟩ := hid
  unfold State.chamberOwn State.addressed State.ownFrame State.topo? State.area State.areaId
  rw [hupd, hnode, hok]

theorem State.chamberIn_own (s : State) (f : RxFrame) (body : List Byte) (bs : List (List Byte)) :
    (s.chamberIn f body).chamberOwn bs = s.chamberOwn bs := by
  obtain ⟨-, hpair, hsame⟩ := s.chamberIn_effect f body
  refine State.chamberOwn_congr (hsame .upd (by simp)) ⟨?_, ?_⟩ bs
  · unfold State.node
    rw [hpair]
  · rw [hpair]

theorem State.mem_chamberOwn {s : State} {bs : List (List Byte)} {b : List Byte} :
    b ∈ s.chamberOwn bs ↔ b ∈ bs ∧ s.addressed (Frame.ofBytes b).dst = true ∧ s.ownFrame (Frame.ofBytes b) = false := by
  simp [State.chamberOwn]

/-! ### A BULK frame (R305, R452) -/

theorem exec_bulk_taken {s : State} {f : RxFrame} {body : List Byte} (h : Sound s f 0x20 body)
    (hin : s.inAccept f.port f.slot (s.deviation f) = true) (hown : s.ownFrame (Frame.ofBytes body) = false) {u : State}
    (hu : u = (s.accepted (s.deviation f)).forward f.port f.resNs body) :
    ((Frame.ofBytes body).dst ≠ s.node → (Frame.ofBytes body).dst ≠ 0xFFF → exec (.bulk f) s = .next u) ∧
    ((Frame.ofBytes body).dst = s.node ∨ (Frame.ofBytes body).dst = 0xFFF →
      exec (.bulk f) s = .next (u.deliverBulk (s.slotEntry f.port f.slot) (Frame.ofBytes body))) := by
  have hnode : u.node = s.node := by
    rw [hu]
    unfold State.node
    simp
  have hgo : exec (.bulk f) s = if (Frame.ofBytes body).dst == s.node || (Frame.ofBytes body).dst == 0xFFF then
      .next (u.deliverBulk (s.slotEntry f.port f.slot) (Frame.ofBytes body)) else .next u := by
    rw [← hnode, hu]
    show execBulk f s = _
    unfold execBulk
    rw [h.taken hin hown]
    dsimp only
    rw [h.rx]
    rfl
  refine ⟨fun hnode hall => ?_, fun hmine => ?_⟩
  · rw [hgo, beq_false_of_ne hnode, beq_false_of_ne hall]
    rfl
  · rw [hgo]
    exact if_pos (by rw [Bool.or_eq_true, beq_iff_eq, beq_iff_eq]; exact hmine)

/-- Settles O36: an accepted chamber and an accepted BULK frame. -/
theorem chambersAndBulkFrames : Obligations.ChambersAndBulkFrames := by
  unfold Obligations.ChambersAndBulkFrames
  intro s f body fr hopen hfcs hfr hlength harea hrx hin hown
  rw [hfr] at harea hown ⊢
  have hsound {type : Byte} (htype : (Frame.ofBytes body).type = type) : Sound s f type body := ⟨hopen, hfcs, htype, hlength, harea, hrx⟩
  have hown' := State.ownFrame_of_not hown
  refine ⟨fun htype => ?_, fun htype => ?_⟩
  · have hexec := exec_chamber_taken (hsound htype) hin hown'
    rw [s.chamberIn_own f body] at hexec
    obtain ⟨hbuf, -, hchamber⟩ := s.chamberIn_effect f body
    obtain ⟨hseen, -, ⟨more, hmore, hbytes⟩, hsame⟩ :=
      (s.chamberIn f body).deliverAll_effect (s.chamberOwn (innerFrames body.length (Frame.ofBytes body).payload).1)
    refine ⟨⟨_, hexec, fun b hb haddr hnot => hseen b (State.mem_chamberOwn.mpr ⟨hb, haddr, hnot⟩), ⟨more, ?_, fun m hm => ?_⟩,
      hchamber.trans (hsame.mono (by simp))⟩, fun b hinner haddr hnot hnew => ⟨_, hexec, ?_⟩⟩
    · rw [hmore, hbuf]
    · exact (State.mem_chamberOwn.mp (hbytes m hm)).1
    · have hlist : s.chamberOwn (innerFrames body.length (Frame.ofBytes body).payload).1 = [b] := by
        rw [hinner]
        exact List.filter_cons_of_pos (by rw [haddr, hnot]; rfl)
      rw [hlist, List.foldl_cons, List.foldl_nil, State.deliver_new (by rw [hbuf]; exact hnew), hbuf]
  · obtain ⟨u, hu⟩ : ∃ u : State, u = (s.accepted (s.deviation f)).forward f.port f.resNs body := ⟨_, rfl⟩
    obtain ⟨hother, hmine⟩ := exec_bulk_taken (hsound htype) hin hown' hu
    have hsu : SameBut [.net, .tim, .sh, .log, .mail, .host] s u := by
      rw [hu]
      exact sameBut_of _ _ _ fun p => by cases p <;> simp [Part.agree]
    have hbuf : u.buf = s.buf := hsu .buf (by simp)
    have hms : u.ms = s.ms := hsu .ms (by simp)
    refine ⟨fun hnode hall => ⟨u, hother hnode hall, hsu⟩, fun items key hdst hitems hkey => ⟨fun hnew => ?_, fun hcopy => ?_⟩⟩
    · have hexec := hmine hdst
      have hdeliver : u.deliverBulk (s.slotEntry f.port f.slot) (Frame.ofBytes body) =
          items.foldl (fun x i => x.takeUpdate i) { u with buf := { u.buf with rxSeen := u.buf.rxSeen ++ [key] } } := by
        unfold State.deliverBulk
        dsimp only
        rw [hms, ← hkey, hbuf, if_neg (by simpa using hnew), hitems]
      refine ⟨_, _, hexec, hdeliver, List.mem_append_right _ (List.mem_singleton.mpr rfl), (hsu.mono (by simp)).trans ?_⟩
      exact sameBut_of _ _ _ fun p => by cases p <;> simp [Part.agree]
    · have hexec := hmine hdst
      have hdeliver : u.deliverBulk (s.slotEntry f.port f.slot) (Frame.ofBytes body) = u := by
        unfold State.deliverBulk
        dsimp only
        rw [hms, ← hkey, hbuf, if_pos (by simpa using hcopy)]
      rw [hdeliver] at hexec
      exact ⟨u, hexec, by rw [hbuf], hsu.mono (by simp)⟩

end Sys2Proof.Machine
end

section
/-! SUPPORT. Silence and links (O38; R307, R311, R312, R324, R331, R361, R362, R405). -/
namespace Sys2Proof.Machine

/-! ### A port (R307) -/

theorem State.modPort_self (s : State) (p : Port) (f : PortSt → PortSt) : (s.modPort p f).net.ports[p] = f s.net.ports[p] :=
  vmod_self s.net.ports p f

theorem State.modPort_ne (s : State) (p : Port) (f : PortSt → PortSt) {q : Port} (h : q ≠ p) :
    (s.modPort p f).net.ports[q] = s.net.ports[q] := vmod_ne s.net.ports p q f h

/-- What a port's alarm leaves. -/
theorem State.alarmPort_sameBut (s : State) (code : Byte) (p : Port) (detail : List Byte) :
    SameBut [.log, .mail, .host] s (s.alarmPort code p detail) := s.raise_sameBut _ _ _ _ _

/-- Only port `p` of the link engine differs, which has become `x`. -/
structure PortOnly (p : Port) (x : PortSt) (n m : Net) : Prop where
  self : m.ports[p] = x
  other : ∀ q : Port, q ≠ p → m.ports[q] = n.ports[q]
  rest : m = { n with ports := m.ports }

theorem State.modPort_only (s : State) (p : Port) (f : PortSt → PortSt) : PortOnly p (f s.net.ports[p]) s.net (s.modPort p f).net :=
  ⟨s.modPort_self p f, fun _ => s.modPort_ne p f, rfl⟩

theorem PortOnly.trans {p : Port} {x y : PortSt} {k n m : Net} (h : PortOnly p x k n) (g : PortOnly p y n m) : PortOnly p y k m :=
  ⟨g.self, fun q hq => (g.other q hq).trans (h.other q hq), by rw [g.rest, h.rest]⟩

/-- A second change of the same port. -/
theorem PortOnly.modPort {s : State} {p : Port} {x : PortSt} {n : Net} (h : PortOnly p x n s.net) (f : PortSt → PortSt) :
    PortOnly p (f x) n (s.modPort p f).net := by
  have hmod := s.modPort_only p f
  rw [h.self] at hmod
  exact h.trans hmod

/-! ### Full silence (R324, R405) -/

/-- What FULL_CAUSE shows (R324). -/
def silenceCode : SilenceCause → BitVec 3
  | .refclk => 1
  | .ownEngine => 2
  | .forwarding => 3
  | .hubDie => 4

theorem exec_fullSilence (s : State) (cause : SilenceCause) :
    ∃ ports, exec (.fullSilence cause) s = .next (({ s with net := { s.net with ports := ports } } : State).fullSilence (silenceCode cause)) := by
  cases cause with
  | refclk => exact ⟨_, rfl⟩
  | ownEngine | forwarding | hubDie => exact ⟨s.net.ports, rfl⟩

theorem State.locks_orphanLocks (s : State) (m : BitVec 4) : (s.orphanLocks m).sh.locks = (s.sh.orphanLocks m).locks := by
  rw [State.orphanLocks, Shared.withdraw]

theorem State.fullSilence_effect {s : State} (hon : s.pwr.dom.getLsbD 2 = true) (hsilent : s.net.fullSilent = false) (code : BitVec 3) :
    (s.fullSilence code).net.state = .fullSilence ∧ (s.fullSilence code).net.fullSilent = true ∧
    (s.fullSilence code).net.fullCause = code ∧ (∀ p : Port, (s.fullSilence code).portOpen p = false) ∧
    (∀ i : Fin 64, s.sh.locks[i].owner = 4 → (s.fullSilence code).sh.locks[i] = ⟨0, true⟩) ∧
    (∀ i : Fin 64, s.sh.locks[i].owner ≠ 4 → (s.fullSilence code).sh.locks[i] = s.sh.locks[i]) ∧
    SameBut [.net, .sh, .log, .mail, .host] s (s.fullSilence code) := by
  have hnet := State.fullSilence_net hsilent hon code
  have hlocks : (s.fullSilence code).sh.locks = (s.sh.orphanLocks 4).locks := by
    rw [State.fullSilence_eq hsilent hon]
    obtain ⟨u, hu⟩ : ∃ u : State, u = { s with net := { s.net with
      state := .fullSilence, silent := true, fullSilent := true, fullCause := code } } := ⟨_, rfl⟩
    have halarm : (u.alarmNode 0xD1 [code.setWidth 8]).sh = s.sh := by
      have hraise : (u.alarmNode 0xD1 [code.setWidth 8]).sh = u.sh := u.raise_sameBut _ _ _ _ _ .sh (by simp)
      rw [hraise, hu]
    rw [← hu, State.locks_orphanLocks, halarm]
  refine ⟨by rw [hnet], by rw [hnet], by rw [hnet], fun p => ?_, fun i hi => ?_, fun i hi => ?_, ?_⟩
  · unfold State.portOpen
    rw [hnet]
    rfl
  · rw [hlocks]
    exact ((Shared.orphanLocks_effect s.sh (m := 4) (by decide) i).1 hi).1
  · rw [hlocks]
    exact (Shared.orphanLocks_effect s.sh (m := 4) (by decide) i).2 hi
  · exact sameBut_of _ _ _ fun p => by cases p <;> simp [Part.agree]

/-! ### A link lost and a link that comes up (R307, R311, R312) -/

theorem exec_linkLoss {s : State} {p : Port} (hon : s.pwr.dom.getLsbD 2 = true) (hused : (s.portCfg p).role ≠ .unused) :
    ∃ t, exec (.linkLoss p) s = .next t ∧
      PortOnly p { s.net.ports[p] with blockLock := false, linkUp := false, fresh := false, t1 := none, results := [], loss :=
        if (s.net.ports[p]).blockLock || (s.net.ports[p]).linkUp then satInc 255 (s.net.ports[p]).loss else (s.net.ports[p]).loss } s.net t.net ∧
      t.pair = { s.pair with portMatch := s.pair.portMatch.set p 0 } ∧ SameBut [.net, .pair, .log, .mail, .host] s t := by
  obtain ⟨was, hwas⟩ : ∃ was, was = ((s.net.ports[p]).blockLock || (s.net.ports[p]).linkUp) := ⟨_, rfl⟩
  obtain ⟨f, hf⟩ : ∃ f : PortSt → PortSt, f = fun x => { x with
      blockLock := false, linkUp := false, fresh := false, t1 := none, results := []
      loss := if was then satInc 255 x.loss else x.loss } := ⟨_, rfl⟩
  obtain ⟨u, hu⟩ : ∃ u : State, u = { s.modPort p f with pair := { s.pair with portMatch := s.pair.portMatch.set p 0 } } := ⟨_, rfl⟩
  have hexec : exec (.linkLoss p) s = .next (if was then u.alarmPort 0xD4 p [] else u) := by
    rw [hu, hf, hwas]
    exact if_neg (by rw [beq_false_of_ne hused, hon]; decide)
  have honly := s.modPort_only p f
  have hsu : SameBut [.net, .pair] s u := by
    rw [hu]
    exact sameBut_of _ _ _ fun p => by cases p <;> simp [Part.agree]
  rw [hexec, ← hwas]
  refine ⟨_, rfl, ?_, ?_, ?_⟩
  · have hnet : (if was then u.alarmPort 0xD4 p [] else u).net = (s.modPort p f).net := by
      split
      · rw [u.alarmPort_sameBut 0xD4 p [] .net (by simp), hu]
      · rw [hu]
    rw [hnet]
    rw [hf] at honly
    rw [hf]
    exact honly
  · have hpair : (if was then u.alarmPort 0xD4 p [] else u).pair = u.pair := by
      split
      · exact u.alarmPort_sameBut 0xD4 p [] .pair (by simp)
      · rfl
    rw [hpair, hu]
  · split
    · exact (hsu.mono (by simp)).trans ((u.alarmPort_sameBut 0xD4 p []).mono (by simp))
    · exact hsu.mono (by simp)

theorem exec_linkUp {s : State} {p : Port} (hon : s.pwr.dom.getLsbD 2 = true) (hused : (s.portCfg p).role ≠ .unused) :
    ∃ t, exec (.linkUp p) s = .next t ∧
      PortOnly p { s.net.ports[p] with blockLock := true, linkUp := !(s.net.ports[p]).dlyOut, fresh := false, t1 := none, results := [] } s.net t.net ∧
      t.pair = { s.pair with portMatch := s.pair.portMatch.set p 3 } ∧ SameBut [.net, .pair] s t := by
  obtain ⟨f, hf⟩ : ∃ f : PortSt → PortSt, f = fun x => { x with
      blockLock := true, linkUp := !x.dlyOut, fresh := false, t1 := none, results := [] } := ⟨_, rfl⟩
  have hexec : exec (.linkUp p) s = .next { s.modPort p f with pair := { s.pair with portMatch := s.pair.portMatch.set p 3 } } := by
    rw [hf]
    exact if_neg (by rw [beq_false_of_ne hused, hon]; decide)
  have honly := s.modPort_only p f
  refine ⟨_, hexec, by rw [hf] at honly ⊢; exact honly, rfl, ?_⟩
  exact sameBut_of _ _ _ fun p => by cases p <;> simp [Part.agree]

/-! ### The node's identity (R360, R361) -/

theorem State.judgeIdentity_pair (s : State) (p : Port) :
    (s.judgeIdentity p).pair = { s.pair with
      portMatch := s.pair.portMatch.set p (s.portReport p), idOk := (s.judgeIdentity p).pair.idOk } ∧
    (s.pair.idOk = true → (s.judgeIdentity p).pair.idOk = true) := by
  unfold State.judgeIdentity
  extract_lets before now pm n0 s1 used fits
  split
  · exact ⟨rfl, id⟩
  · split
    · split
      · exact ⟨rfl, id⟩
      · have hpair : (s1.alarmPort 0xE0 p [0]).pair = s1.pair := s1.alarmPort_sameBut 0xE0 p [0] .pair (by simp)
        rw [hpair]
        exact ⟨rfl, id⟩
    · split
      · exact ⟨rfl, fun _ => rfl⟩
      · exact ⟨rfl, id⟩

/-! ### The median of a link (R311, R312, R331) -/

/-- A port as a median within or outside its tolerance leaves it (R311, R312). -/
def PortSt.useDelay (x : PortSt) (cfg : PortCfg) (d : Int) : PortSt :=
  let outside := decide (8 * cfg.tolNs < absI (d - 8 * Int.ofNat cfg.delayNs))
  let y : PortSt := { x with
    delay := BitVec.ofNat 24 (if 16777215 < d / 8 then 16777215 else (d / 8).toNat), median := d, fresh := true, delayValid := true
    delayChanged := x.delayValid && decide (8000 < absI (d - x.median)), dlyOut := outside, results := [] }
  if outside then (if y.linkUp then { y with linkUp := false, loss := satInc 255 y.loss } else y)
  else { y with linkUp := y.blockLock && y.nbrOk }

theorem State.useDelay_effect (s : State) (p : Port) (d : Int) :
    PortOnly p ((s.net.ports[p]).useDelay (s.portCfg p) d) s.net (s.useDelay p d).net ∧
    SameBut [.net, .log, .mail, .host] s (s.useDelay p d) := by
  refine ⟨?_, sameBut_of _ _ _ fun p => by cases p <;> simp [Part.agree]⟩
  unfold State.useDelay
  extract_lets cfg x outside changed put s1 s2
  have hs1 : PortOnly p _ s.net s1.net := s.modPort_only p _
  have hs2 : PortOnly p ((s.net.ports[p]).useDelay (s.portCfg p) d) s.net s2.net := by
    unfold PortSt.useDelay
    simp only [s2]
    split
    · exact hs1.modPort fun x => if x.linkUp then { x with linkUp := false, loss := satInc 255 x.loss } else x
    · exact hs1.modPort fun x => { x with linkUp := x.blockLock && x.nbrOk }
  have hnet : (if (outside && !x.dlyOut || changed) = true then s2.alarmPort 0xD5 p (leBytes 3 put.toNat) else s2).net = s2.net := by
    split
    · exact s2.alarmPort_sameBut _ _ _ .net (by simp)
    · rfl
  rw [hnet]
  exact hs2

/-- What the median gives at the port. -/
theorem PortSt.useDelay_fields (x : PortSt) (cfg : PortCfg) (d : Int) :
    (x.useDelay cfg d).median = d ∧ (x.useDelay cfg d).delay = BitVec.ofNat 24 (min 16777215 (d / 8).toNat) ∧
    (x.useDelay cfg d).delayValid = true ∧ (x.useDelay cfg d).fresh = true ∧ (x.useDelay cfg d).results = [] ∧
    (x.useDelay cfg d).dlyOut = decide (8 * cfg.tolNs < (d - 8 * Int.ofNat cfg.delayNs).natAbs) ∧
    ((x.useDelay cfg d).dlyOut = true → (x.useDelay cfg d).linkUp = false) ∧
    ((x.useDelay cfg d).dlyOut = false → (x.useDelay cfg d).linkUp = (x.blockLock && x.nbrOk)) := by
  have hput : (if 16777215 < d / 8 then 16777215 else (d / 8).toNat) = min 16777215 (d / 8).toNat := by
    split <;> omega
  unfold PortSt.useDelay
  extract_lets outside y
  have hy : y.median = d ∧ y.delay = BitVec.ofNat 24 (min 16777215 (d / 8).toNat) ∧ y.delayValid = true ∧ y.fresh = true ∧
      y.results = [] ∧ y.dlyOut = outside := ⟨rfl, congrArg (BitVec.ofNat 24) hput, rfl, rfl, rfl, rfl⟩
  obtain ⟨hmedian, hdelay, hvalid, hfresh, hresults, hout⟩ := hy
  have houtside : outside = decide (8 * cfg.tolNs < (d - 8 * Int.ofNat cfg.delayNs).natAbs) := rfl
  cases hcase : outside with
  | true =>
    rw [hcase] at hout houtside
    rw [if_pos rfl]
    split
    · exact ⟨hmedian, hdelay, hvalid, hfresh, hresults, hout.trans houtside, fun _ => rfl, fun h => absurd (hout.symm.trans h) (by decide)⟩
    · next hup =>
      exact ⟨hmedian, hdelay, hvalid, hfresh, hresults, hout.trans houtside, fun _ => Bool.eq_false_iff.mpr hup,
        fun h => absurd (hout.symm.trans h) (by decide)⟩
  | false =>
    rw [hcase] at hout houtside
    rw [if_neg (by decide)]
    exact ⟨hmedian, hdelay, hvalid, hfresh, hresults, hout.trans houtside, fun h => absurd (hout.symm.trans h) (by decide), fun _ => rfl⟩

theorem State.startServo_effect (s : State) (p : Port) (d : Int) :
    (s.startServo p d).net = { s.net with servo := (s.startServo p d).net.servo } ∧
    (s.net.state = .integrate → s.net.servo = false → p = s.syncPortCfg →
      (s.startServo p d).net.servo = true ∧ (s.startServo p d).aon = { s.aon with timeNs := s.aon.timeNs + BitVec.ofInt 64 (d / 8) }) ∧
    (s.net.state ≠ .integrate → s.startServo p d = s) ∧ SameBut [.net, .aon] s (s.startServo p d) := by
  refine ⟨?_, fun hstate hservo hp => ?_, fun hno => if_neg (by rw [beq_false_of_ne hno]; exact Bool.false_ne_true), ?_⟩
  · unfold State.startServo
    split <;> rfl
  · have hstart : s.startServo p d = { s with
        net := { s.net with servo := true }, aon := { s.aon with timeNs := s.aon.timeNs + BitVec.ofInt 64 (d / 8) } } :=
      if_pos (by simp [hstate, hservo, hp])
    rw [hstart]
    exact ⟨rfl, rfl⟩
  · unfold State.startServo
    split
    · exact sameBut_of _ _ _ fun p => by cases p <;> simp [Part.agree]
    · exact .refl _ s

/-- The port reports what its own state and the topology say. -/
theorem State.portReport_congr {s t : State} {p : Port} (hnet : t.net = s.net) (hcfg : t.portCfg p = s.portCfg p) :
    t.portReport p = s.portReport p := by
  unfold State.portReport State.port
  rw [hnet, hcfg]

/-- A measurement that R362 does not end: the servo, the median, and the port's report. -/
theorem exec_linkDelayMeasurement {s : State} {p : Port} {r0 r1 r2 : Option Int} {d : Int} (hopen : s.delayOpen p = true)
    (hthree : 3 ≤ (s.gained p r0 r1 r2).length) (hd : d = medianOf (s.gained p r0 r1 r2))
    (hfits : ¬ (s.net.state = .sync ∧ (s.net.ports[p]).nbrValid = true ∧ (s.net.ports[p]).nbr ≠ (s.portCfg p).nbr)) :
    exec (.linkDelayMeasurement p r0 r1 r2) s = .next ((((s.modPort p (fun x => { x with nbrOk := x.nbrOk || !x.nbrValid })).startServo p d).useDelay
      p d).judgeIdentity p) := by
  have hno : (s.net.state == .sync && (s.net.ports[p]).nbrValid && (s.net.ports[p]).nbr != (s.portCfg p).nbr) = false := by
    rw [Bool.eq_false_iff]
    intro h
    obtain ⟨hsv, hnbr⟩ := Bool.and_eq_true_iff.mp h
    obtain ⟨hsync, hvalid⟩ := Bool.and_eq_true_iff.mp hsv
    exact hfits ⟨eq_of_beq hsync, hvalid, bne_iff_ne.mp hnbr⟩
  show execLinkDelayMeasurement p r0 r1 r2 s = _
  unfold execLinkDelayMeasurement
  dsimp only
  rw [hopen, decide_eq_false (Nat.not_lt.mpr hthree), if_neg (by decide), ← hd]
  exact if_neg (by rw [State.port, hno]; exact Bool.false_ne_true)

theorem exec_linkDelayMeasurement_contradicted {s : State} {p : Port} {r0 r1 r2 : Option Int} (hopen : s.delayOpen p = true)
    (hthree : 3 ≤ (s.gained p r0 r1 r2).length) (hsync : s.net.state = .sync) (hvalid : (s.net.ports[p]).nbrValid = true)
    (hnbr : (s.net.ports[p]).nbr ≠ (s.portCfg p).nbr) :
    exec (.linkDelayMeasurement p r0 r1 r2) s = .next (((s.modPort p (fun x => { x with nbrOk := false, results := [] })).loseLink p).alarmPort
      0xE0 p [0]) := by
  show execLinkDelayMeasurement p r0 r1 r2 s = _
  unfold execLinkDelayMeasurement
  dsimp only
  rw [hopen, decide_eq_false (Nat.not_lt.mpr hthree), if_neg (by decide)]
  exact if_pos (by rw [State.port, hsync, hvalid, bne_iff_ne.mpr hnbr]; rfl)

/-- R311, R312, R331: what a measurement that R362 does not end gives. -/
theorem State.measured_effect {s t : State} {p : Port} {d : Int}
    (ht : t = (((s.modPort p (fun x => { x with nbrOk := x.nbrOk || !x.nbrValid })).startServo p d).useDelay p d).judgeIdentity p) :
    PortOnly p (({ s.net.ports[p] with nbrOk := (s.net.ports[p]).nbrOk || !(s.net.ports[p]).nbrValid } : PortSt).useDelay (s.portCfg p) d)
      { s.net with servo := t.net.servo } t.net ∧
    (s.net.state = .integrate → s.net.servo = false → p = s.syncPortCfg →
      t.net.servo = true ∧ t.aon = { s.aon with timeNs := s.aon.timeNs + BitVec.ofInt 64 (d / 8) }) ∧
    (s.net.state ≠ .integrate → t.aon = s.aon ∧ t.net = { s.net with ports := t.net.ports }) ∧
    t.pair = { s.pair with portMatch := s.pair.portMatch.set p (t.portReport p), idOk := t.pair.idOk } ∧
    (s.pair.idOk = true → t.pair.idOk = true) ∧ SameBut [.net, .aon, .pair, .log, .mail, .host] s t := by
  obtain ⟨a, ha⟩ : ∃ a : State, a = s.modPort p (fun x => { x with nbrOk := x.nbrOk || !x.nbrValid }) := ⟨_, rfl⟩
  obtain ⟨b, hb⟩ : ∃ b : State, b = a.startServo p d := ⟨_, rfl⟩
  obtain ⟨c, hc⟩ : ∃ c : State, c = b.useDelay p d := ⟨_, rfl⟩
  rw [← ha, ← hb, ← hc] at ht
  have honly := s.modPort_only p (fun x => { x with nbrOk := x.nbrOk || !x.nbrValid })
  rw [← ha] at honly
  have hsa : SameBut [.net] s a := by
    rw [ha]
    exact sameBut_of _ _ _ fun p => by cases p <;> simp [Part.agree]
  obtain ⟨hservo, hstart, hidle, hab⟩ := a.startServo_effect p d
  rw [← hb] at hservo hstart hidle hab
  obtain ⟨huse, hbc⟩ := b.useDelay_effect p d
  rw [← hc] at huse hbc
  have hastate : a.net.state = s.net.state := by rw [honly.rest]
  have hcaon : c.aon = b.aon := hbc .aon (by simp)
  have hct : t.net = c.net := by
    rw [ht]
    simp
  have htaon : t.aon = b.aon := by
    rw [ht, ← hcaon]
    simp
  have hcpair : c.pair = s.pair := (hbc .pair (by simp)).trans ((hab .pair (by simp)).trans (hsa .pair (by simp)))
  have hbcfg : b.portCfg p = s.portCfg p :=
    State.portCfg_congr ((hab .upd (by simp)).trans (hsa .upd (by simp))) (by rw [hab .pair (by simp), hsa .pair (by simp)]) p
  obtain ⟨hpair, hid⟩ := c.judgeIdentity_pair p
  rw [← ht] at hpair hid
  have htcfg : t.portCfg p = c.portCfg p := by
    refine State.portCfg_congr ?_ (by rw [hpair]) p
    rw [ht]
    simp
  have hreport : t.portReport p = c.portReport p := State.portReport_congr hct htcfg
  have hbports : b.net.ports = a.net.ports := by rw [hservo]
  have hcservo : c.net.servo = b.net.servo := by rw [huse.rest]
  have hrest : t.net = { s.net with servo := t.net.servo, ports := t.net.ports } := by
    rw [hct, huse.rest, hservo, honly.rest]
  refine ⟨⟨?_, fun q hq => ?_, hrest⟩, fun hstate hoff hp => ?_, fun hno => ?_, ?_, fun h => hid (by rw [hcpair]; exact h), ?_⟩
  · rw [hct, huse.self, hbports, honly.self, hbcfg]
  · rw [hct, huse.other q hq, hbports]
    exact honly.other q hq
  · have haservo : a.net.servo = s.net.servo := by rw [honly.rest]
    have hsync : a.syncPortCfg = s.syncPortCfg := by
      rw [ha]
      rfl
    obtain ⟨hon, haon⟩ := hstart (by rw [hastate, hstate]) (by rw [haservo, hoff]) (by rw [hsync, hp])
    rw [hct, hcservo, htaon, haon, hsa .aon (by simp)]
    exact ⟨hon, rfl⟩
  · have hba := hidle (by rw [hastate]; exact hno)
    rw [htaon, hba, hsa .aon (by simp), hct]
    refine ⟨rfl, ?_⟩
    rw [huse.rest, hba, honly.rest]
  · rw [hreport, hpair, hcpair]
  · have hct' : SameBut [.pair, .log, .mail, .host] c t := by
      rw [ht]
      exact sameBut_of _ _ _ fun p => by cases p <;> simp [Part.agree]
    exact (hsa.mono (by simp)).trans ((hab.mono (by simp)).trans ((hbc.mono (by simp)).trans (hct'.mono (by simp))))

/-- R362: a neighbour that contradicts the topology in SYNC makes the link a lost one. -/
theorem State.contradicted_effect (s : State) (p : Port) {t : State}
    (ht : t = ((s.modPort p (fun x => { x with nbrOk := false, results := [] })).loseLink p).alarmPort 0xE0 p [0]) :
    (t.net.ports[p]).linkUp = false ∧ (t.net.ports[p]).nbrOk = false ∧ (t.net.ports[p]).delay = (s.net.ports[p]).delay ∧
    ((s.net.ports[p]).linkUp = true → (t.net.ports[p]).loss = satInc 255 (s.net.ports[p]).loss) ∧
    t.net = { s.net with ports := t.net.ports } ∧ SameBut [.net, .log, .mail, .host] s t := by
  obtain ⟨a, ha⟩ : ∃ a : State, a = s.modPort p (fun x => { x with nbrOk := false, results := [] }) := ⟨_, rfl⟩
  have honly := (s.modPort_only p (fun x => { x with nbrOk := false, results := [] }))
  rw [← ha] at honly ht
  have hdrop := honly.modPort fun x => if x.linkUp then { x with linkUp := false, loss := satInc 255 x.loss } else x
  have hnet : t.net = (a.dropLink p).net := by
    rw [ht, (a.loseLink p).alarmPort_sameBut 0xE0 p [0] .net (by simp)]
    unfold State.loseLink
    dsimp only
    split
    · exact (a.dropLink p).alarmPort_sameBut 0xD4 p [] .net (by simp)
    · rfl
  have hport : t.net.ports[p] = if (s.net.ports[p]).linkUp then
      { s.net.ports[p] with nbrOk := false, results := [], linkUp := false, loss := satInc 255 (s.net.ports[p]).loss }
      else { s.net.ports[p] with nbrOk := false, results := [] } := by
    rw [hnet]
    exact hdrop.self
  have hrest : t.net = { s.net with ports := t.net.ports } := by
    rw [hnet]
    exact hdrop.rest
  rw [hport]
  refine ⟨?_, ?_, ?_, fun hup => ?_, hrest, ?_⟩
  · split
    · rfl
    · next hup => exact Bool.eq_false_iff.mpr hup
  · split <;> rfl
  · split <;> rfl
  · rw [if_pos hup]
  · rw [ht, ha]
    exact sameBut_of _ _ _ fun p => by cases p <;> simp [Part.agree]

theorem State.delayOpen_blockLock {s : State} {p : Port} (h : s.delayOpen p = true) : (s.net.ports[p]).blockLock = true :=
  (Bool.and_eq_true_iff.mp h).2

/-- Settles O38: full silence, a link lost, a link that comes up, and the median of a link. -/
theorem silenceAndLinks : Obligations.SilenceAndLinks := by
  unfold Obligations.SilenceAndLinks
  intro s hon
  refine ⟨fun cause hsilent => ?_, fun p hused => ⟨?_, ?_⟩, fun p r0 r1 r2 d hopen hthree hd => ⟨fun hfits => ?_, fun hsync hvalid hnbr => ?_⟩⟩
  · obtain ⟨ports, hexec⟩ := exec_fullSilence s cause
    obtain ⟨u, hu⟩ : ∃ u : State, u = { s with net := { s.net with ports := ports } } := ⟨_, rfl⟩
    rw [← hu] at hexec
    obtain ⟨hstate, hfull, hcause, hclosed, hfreed, hkept, hsame⟩ :=
      State.fullSilence_effect (s := u) (by rw [hu]; exact hon) (by rw [hu]; exact hsilent) (silenceCode cause)
    have hsu : SameBut [.net] s u := by
      rw [hu]
      exact sameBut_of _ _ _ fun p => by cases p <;> simp [Part.agree]
    have hsh : u.sh = s.sh := hsu .sh (by simp)
    rw [hsh] at hfreed hkept
    exact ⟨_, hexec, hstate, hfull, hcause.trans (by cases cause <;> rfl), hclosed, hfreed, hkept, (hsu.mono (by simp)).trans hsame⟩
  · obtain ⟨t, hexec, honly, hpair, hsame⟩ := exec_linkLoss hon hused
    refine ⟨t, hexec, ?_, fun hup => ?_, honly.other, hpair, honly.rest, hsame⟩
    · rw [honly.self]
    · rw [honly.self, hup, Bool.or_true]
      rfl
  · obtain ⟨t, hexec, honly, hpair, hsame⟩ := exec_linkUp hon hused
    exact ⟨t, hexec, honly.self, honly.other, hpair, honly.rest, hsame⟩
  · have hlock := State.delayOpen_blockLock hopen
    obtain ⟨honly, hservo, hother, hpair, hid, hsame⟩ := State.measured_effect (s := s) (p := p) (d := d) rfl
    obtain ⟨hmedian, hdelay, hvalid, hfresh, hresults, hout, hdown, hup⟩ := PortSt.useDelay_fields
      ({ s.net.ports[p] with nbrOk := (s.net.ports[p]).nbrOk || !(s.net.ports[p]).nbrValid }) (s.portCfg p) d
    rw [← honly.self] at hmedian hdelay hvalid hfresh hresults hout hdown hup
    refine ⟨_, exec_linkDelayMeasurement hopen hthree hd hfits, hmedian, hdelay, hvalid, hfresh, hresults, hout, hdown, fun h => ?_,
      honly.other, hservo, hother, hpair, hid, hsame⟩
    rw [hup h, hlock, Bool.true_and]
  · exact ⟨_, exec_linkDelayMeasurement_contradicted hopen hthree hsync hvalid hnbr, s.contradicted_effect p rfl⟩

end Sys2Proof.Machine
end

section
/-! SUPPORT. A tick edge (O21; R28, R38, R56, R314, R332): what the phases of a tick keep of the edge that began it. -/
namespace Sys2Proof.Machine

/-! ### What a tick keeps of its edge -/

/-- Tick, time and receive buffers, which the edge sets. -/
def State.clock (s : State) : Tick × DWord × List StoredFrame × List StoredFrame := (s.ms.tick, s.aon.timeNs, s.buf.rxFrozen, s.buf.rxCur)

/-- The modes in which ticks run after JOIN (R41). -/
def Mode.ticks (m : Mode) : Prop := m = .run ∨ m = .run2 ∨ m = .lockout

/-- `t` is of the same tick as `s`, and still in a mode in which ticks run. -/
structure SameTick (s t : State) : Prop where
  clock : t.clock = s.clock
  mode : s.ms.mode.ticks → t.ms.mode.ticks

theorem SameTick.refl (s : State) : SameTick s s := ⟨rfl, id⟩

theorem SameTick.trans {s t u : State} (h : SameTick s t) (g : SameTick t u) : SameTick s u :=
  ⟨g.clock.trans h.clock, fun hs => g.mode (h.mode hs)⟩

theorem SameTick.of_fields {s t : State} (htick : t.ms.tick = s.ms.tick) (hmode : t.ms.mode = s.ms.mode) (htime : t.aon.timeNs = s.aon.timeNs)
    (hfrozen : t.buf.rxFrozen = s.buf.rxFrozen) (hcur : t.buf.rxCur = s.buf.rxCur) : SameTick s t :=
  ⟨by unfold State.clock; rw [htick, htime, hfrozen, hcur], fun h => by rw [hmode]; exact h⟩

theorem SameTick.of_eq {s t : State} (hms : t.ms = s.ms) (haon : t.aon = s.aon) (hbuf : t.buf = s.buf) : SameTick s t :=
  .of_fields (by rw [hms]) (by rw [hms]) (by rw [haon]) (by rw [hbuf]) (by rw [hbuf])

/-- A command that leaves AON and the buffers, and of the mode register the tick and the mode. -/
theorem SameTick.of_ms {s t : State} (htick : t.ms.tick = s.ms.tick) (hmode : t.ms.mode = s.ms.mode) (haon : t.aon = s.aon)
    (hbuf : t.buf = s.buf) : SameTick s t :=
  .of_fields htick hmode (by rw [haon]) (by rw [hbuf]) (by rw [hbuf])

/-- A command that leaves the mode register and the buffers, and of AON the time. -/
theorem SameTick.of_aon {s t : State} (hms : t.ms = s.ms) (htime : t.aon.timeNs = s.aon.timeNs) (hbuf : t.buf = s.buf) : SameTick s t :=
  .of_fields (by rw [hms]) (by rw [hms]) htime (by rw [hbuf]) (by rw [hbuf])

theorem SameTick.foldl {α : Type} {f : State → α → State} (h : ∀ s a, SameTick s (f s a)) (l : List α) (s : State) :
    SameTick s (l.foldl f s) := by
  induction l generalizing s with
  | nil => exact .refl s
  | cons a rest ih => exact (h s a).trans (ih _)

theorem SameTick.ite {s t u : State} (c : Prop) [Decidable c] (h : SameTick s t) (g : SameTick s u) : SameTick s (if c then t else u) := by
  split
  · exact h
  · exact g

/-! ### Modes, latch and fault records (R42, R45, R46, R482) -/

theorem State.setMode_sameTick (s : State) {m : Mode} (hm : m.ticks) : SameTick s (s.setMode m) := by
  obtain ⟨since, hms⟩ := s.setMode_inMode m
  have haon : (s.setMode m).aon = s.aon := by simp
  have hbuf : (s.setMode m).buf = s.buf := by simp
  refine ⟨?_, fun _ => by rw [hms]; exact hm⟩
  unfold State.clock
  rw [hms, haon, hbuf]
  rfl

theorem State.appendLatch_sameTick (s : State) : SameTick s s.appendLatch := by
  refine .of_aon (by simp) ?_ (by simp)
  unfold State.appendLatch
  split <;> rfl

theorem State.appendRetService_sameTick (s : State) : SameTick s s.appendRetService := by
  refine .of_aon (by simp) ?_ (by simp)
  unfold State.appendRetService
  split <;> rfl

theorem State.flushAppends_sameTick (s : State) : SameTick s s.flushAppends := by
  unfold State.flushAppends
  extract_lets s1 s2 waits _ s3
  have hs1 : SameTick s s1 := .ite _ s.appendLatch_sameTick (.refl s)
  have hs2 : SameTick s s2 := hs1.trans (.ite _ s1.appendRetService_sameTick (.refl s1))
  have hs3 : SameTick s s3 := hs2.trans (.of_eq rfl rfl rfl)
  exact .ite _ (hs3.trans (.of_eq (by simp) (by simp) (by simp))) hs3

theorem State.latchFault_sameTick (s : State) (src code lane : Byte) (detail : List Word) : SameTick s (s.latchFault src code lane detail) :=
  .of_aon rfl rfl rfl

theorem State.bellAll_sameTick (s : State) (bit : Nat) : SameTick s (s.bellAll bit) := .of_eq (by simp) (by simp) (by simp)

theorem State.modLaneSt_sameTick (s : State) (l : Lane) (f : LaneSt → LaneSt) : SameTick s (s.modLaneSt l f) :=
  .of_eq (by simp) (by simp) (by simp)

theorem State.exitLane_sameTick (s : State) (l : Lane) (cause : BitVec 4) : SameTick s (s.exitLane l cause) :=
  .of_eq (by simp) (by simp) (by simp)

theorem State.alarmLane_sameTick (s : State) (code : Byte) (l : Lane) (detail : List Byte) : SameTick s (s.alarmLane code l detail) :=
  .of_eq (by simp) (by simp) (by simp)

theorem State.alarmNode_sameTick (s : State) (code : Byte) (detail : List Byte) : SameTick s (s.alarmNode code detail) :=
  .of_eq (by simp) (by simp) (by simp)

theorem State.alarmChan_sameTick (s : State) (code : Byte) (c : Chan) (detail : List Byte) : SameTick s (s.alarmChan code c detail) :=
  .of_eq (by simp) (by simp) (by simp)

theorem State.raise_sameTick (s : State) (cls : RecClass) (code : Byte) (skind : ObjKind) (sid : Nat) (detail : List Byte) :
    SameTick s (s.raise cls code skind sid detail) :=
  .of_eq (by simp) (by simp) (by simp)

theorem State.modCheck_sameTick (s : State) (l : Lane) (f : LaneCheck → LaneCheck) : SameTick s (s.modCheck l f) :=
  .of_eq (by simp) (by simp) (by simp)

theorem State.setLatch_sameTick (s : State) (cause : Byte) : SameTick s (s.setLatch cause) := by
  unfold State.setLatch
  extract_lets _ s1 s2 s3
  have hs1 : SameTick s s1 := .of_aon rfl rfl rfl
  have hs2 : SameTick s s2 := hs1.trans ((s1.latchFault_sameTick _ _ _ _).trans ((State.appendLatch_sameTick _).trans
    (State.bellAll_sameTick _ 3)))
  have hs3 : SameTick s s3 := .ite _ (hs2.trans (.of_eq (by simp) (by simp) (by simp))) hs2
  exact .ite _ (.refl s) (.ite _ (hs3.trans (s3.setMode_sameTick (.inr (.inr rfl)))) hs3)

theorem State.modeByVote_sameTick (s : State) (cause : Byte) : SameTick s (s.modeByVote cause) := by
  unfold State.modeByVote
  extract_lets n
  exact .ite _ (s.setMode_sameTick (.inr (.inr rfl))) (.ite _ (s.setMode_sameTick (.inl rfl)) (.ite _ (s.setMode_sameTick (.inr (.inl rfl)))
    ((s.setLatch_sameTick cause).trans (State.setMode_sameTick _ (.inr (.inr rfl))))))

theorem State.moduleFault_sameTick (s : State) (cause : Byte) (asking : BitVec 3) : SameTick s (s.moduleFault cause asking) :=
  .ite _ (s.setLatch_sameTick cause) (.refl s)

theorem State.voterFaults_sameTick (s : State) (vs : List (Chan × Nat)) (asking : BitVec 3) : SameTick s (s.voterFaults vs asking) := by
  unfold State.voterFaults
  split
  · exact .refl s
  · next c kind _ =>
    extract_lets _ s1
    have hs1 : SameTick s s1 := .of_eq rfl rfl rfl
    exact hs1.trans ((s1.latchFault_sameTick _ _ _ _).trans (State.moduleFault_sameTick _ _ _))

theorem State.transFaults_sameTick (s : State) (ts : List (Chan × Side)) : SameTick s (s.transFaults ts) := by
  unfold State.transFaults
  extract_lets s1
  have hs1 : SameTick s s1 := .foldl (fun u p => u.alarmChan_sameTick _ _ _) _ s
  exact hs1.trans (s1.voterFaults_sameTick _ _)

theorem State.tokenFaults_sameTick (s : State) (cs : List Chan) : SameTick s (s.tokenFaults cs) := by
  unfold State.tokenFaults
  extract_lets s1
  have hs1 : SameTick s s1 := .foldl (fun u c => u.alarmChan_sameTick _ _ _) _ s
  exact hs1.trans (s1.voterFaults_sameTick _ _)

theorem State.supplyFault_sameTick (s : State) (bs : List Bank) : SameTick s (s.supplyFault bs) := by
  unfold State.supplyFault
  extract_lets _ s1
  have hs1 : SameTick s s1 := .of_eq rfl rfl rfl
  exact .ite _ (.refl s) (hs1.trans (s1.moduleFault_sameTick _ _))

theorem State.tickFaults_sameTick (s : State) (obs : TickObs) (o : LaneOut) : SameTick s (s.tickFaults obs o) := by
  unfold State.tickFaults
  have hvoter := s.voterFaults_sameTick o.loc.vflt s.acting
  generalize s.voterFaults o.loc.vflt s.acting = t at hvoter
  have htrans := t.transFaults_sameTick obs.voterTrans
  generalize t.transFaults obs.voterTrans = u at htrans
  exact hvoter.trans (htrans.trans ((u.tokenFaults_sameTick obs.badTokens).trans (State.supplyFault_sameTick _ _)))

theorem State.tickMode_sameTick (s : State) (able : BitVec 3) (split : Bool) : SameTick s (s.tickMode able split) := by
  have hlockout (t : State) : SameTick t (t.setMode .lockout) := t.setMode_sameTick (.inr (.inr rfl))
  have hcount (t : State) (n : Nat) : SameTick t { t with ms := { t.ms with hubNoAgree := n } } := .of_ms rfl rfl rfl rfl
  unfold State.tickMode
  refine .ite _ ((hcount s 0).trans (State.modeByVote_sameTick _ _)) (.ite _ (hlockout s) (.ite _ ((s.setLatch_sameTick _).trans (hlockout _)) ?_))
  extract_lets n _ s1
  have hs1 : SameTick s s1 := (hcount s n).trans (hlockout _)
  exact .ite _ (hs1.trans (s1.setLatch_sameTick _)) hs1

theorem State.vote_sameTick (s : State) (obs : TickObs) (v : Verdict) : SameTick s (s.vote obs v) := by
  unfold State.vote
  extract_lets run able _ s1 s2 s3
  have hs1 : SameTick s s1 := .of_ms rfl rfl rfl rfl
  have hs2 : SameTick s1 s2 := .foldl (fun t l => .of_eq (by simp) (by simp) (by simp)) _ s1
  have hs3 : SameTick s2 s3 := .foldl (fun t l => .of_eq (by simp) (by simp) (by simp)) _ s2
  exact hs1.trans (hs2.trans (hs3.trans (s3.tickMode_sameTick able v.split)))

/-! ### Lanes that fail in P5 (R225, R235) -/

theorem State.laneReset_sameTick (s : State) (l : Lane) : SameTick s (s.laneReset l) := by
  obtain ⟨-, -, -, haon, -⟩ := s.laneReset_rest l
  exact .of_aon (by simp) (by rw [haon]) (by simp)

theorem State.unseal_sameTick (s : State) (l : Lane) : SameTick s (s.unseal l) := .of_fields rfl rfl rfl rfl rfl

theorem State.failLane_sameTick (s : State) (l : Lane) (cause : BitVec 4) : SameTick s (s.failLane l cause) := by
  unfold State.failLane
  extract_lets voted s1 _ s2
  have hs1 : SameTick s s1 := (s.modLaneSt_sameTick l _).trans ((State.unseal_sameTick _ l).trans (State.exitLane_sameTick _ l cause))
  have hs2 : SameTick s s2 := hs1.trans (.of_ms rfl rfl rfl rfl)
  exact .ite _ (.ite _ (hs2.trans (s2.modeByVote_sameTick _)) hs2) hs1

theorem State.checkReset_sameTick (s : State) (l : Lane) : SameTick s (s.checkReset l) := by
  unfold State.checkReset
  extract_lets times s1 s2
  have hs2 : SameTick s s2 := (SameTick.of_eq (t := s1) (by simp [s1]) (by simp [s1]) (by simp [s1])).trans (s1.laneReset_sameTick l)
  exact .ite _ (hs2.trans ((SameTick.of_eq (t := s2.disableLane l) (by simp) (by simp) (by simp)).trans (State.alarmLane_sameTick _ _ _ _))) hs2

theorem State.laneFault_sameTick (s : State) (l : Lane) (src : BitVec 4) (diff : Option CmpDiff) : SameTick s (s.laneFault l src diff) := by
  unfold State.laneFault
  extract_lets x s1 s2 s3
  have hs1 : SameTick s s1 := .of_eq (by simp [s1]) (by simp [s1]) (by simp [s1])
  have hs2 : SameTick s s2 := hs1.trans (s1.latchFault_sameTick _ _ _ _)
  have hs3 : SameTick s s3 := hs2.trans ((s2.alarmLane_sameTick _ _ _).trans (State.failLane_sameTick _ l 3))
  exact .ite _ (.refl s) (.ite _ (s.modCheck_sameTick l _) (hs3.trans (s3.checkReset_sameTick l)))

theorem State.eccFault_sameTick (s : State) (l : Lane) (r : EccRead) : SameTick s (s.eccFault l r) :=
  (s.modCheck_sameTick l _).trans (State.laneFault_sameTick _ l 8 none)

theorem State.eccTick_sameTick (s : State) (obs : TickObs) (l : Lane) : SameTick s (s.eccTick obs l) := by
  unfold State.eccTick
  extract_lets x o c here left scr reads fixed n _ c1 wrap c2 words again base prev s1 s2 s3
  have hs1 : SameTick s s1 := .of_eq (by simp [s1]) (by simp [s1]) (by simp [s1])
  have hs2 : SameTick s s2 := .ite _ (hs1.trans (.of_eq (by simp) (by simp) (by simp))) hs1
  have hs3 : SameTick s s3 := hs2.trans (.of_eq (by simp [s3]) (by simp [s3]) (by simp [s3]))
  refine .ite _ (.refl s) ?_
  split
  · exact hs3.trans (s3.eccFault_sameTick l _)
  · exact hs3

theorem State.laneP5_sameTick (s : State) (obs : TickObs) (ran : BitVec 3) : SameTick s (s.laneP5 obs ran) := by
  unfold State.laneP5
  extract_lets s1
  have hs1 : SameTick s s1 := (SameTick.foldl (fun t l => (SameTick.of_eq (by simp) (by simp) (by simp)).trans (State.eccTick_sameTick _ obs l))
    _ s).trans (State.flushAppends_sameTick _)
  exact hs1.trans (.of_ms rfl rfl rfl rfl)

/-! ### Pairs (R378-R383) -/

theorem State.gaveUp_sameTick (s : State) (cause : BitVec 4) (claim sync : BitVec 2) : SameTick s (s.gaveUp cause claim sync) := by
  refine .of_ms ?_ ?_ (by simp) (by simp) <;> simp [State.gaveUp]

theorem State.readPeer_sameTick (s : State) (sh : Shadow) : SameTick s (s.readPeer sh) := by
  unfold State.readPeer
  extract_lets p _ s1
  have hs1 : SameTick s s1 := .of_eq rfl rfl rfl
  have hpair (x : PairSt) : SameTick s { s1 with pair := x } := .of_eq rfl rfl rfl
  refine .ite _ (.ite _ hs1 (hs1.trans (s1.gaveUp_sameTick _ _ _))) (.ite _ (.of_ms rfl rfl rfl rfl) (.ite _ (.ite _ (hpair _)
    (.ite _ (hpair _) hs1)) (.ite _ (.ite _ (hpair _) (.ite _ (hpair _) (.ite _ (hpair _) hs1))) hs1)))

theorem State.pairAdopt_sameTick (s : State) (r : Reading) : SameTick s (s.pairAdopt r) := by
  unfold State.pairAdopt
  split
  · exact .refl s
  · extract_lets s1 s2 c
    have hs1 : SameTick s s1 := by
      simp only [s1]
      split
      · next sh _ =>
        have hpeer := s.readPeer_sameTick sh
        exact .ite _ (hpeer.trans (.of_eq (t := (s.readPeer sh).adopt sh) (by simp) (by simp) (by simp))) hpeer
      · exact .refl s
    have hs2 : SameTick s s2 := .ite _ (hs1.trans (.of_eq (by simp) (by simp) (by simp))) hs1
    exact hs2.trans (.of_eq rfl rfl rfl)

theorem State.pairCounts_sameTick (s : State) (r : Reading) (v : Verdict) : SameTick s (s.pairCounts r v) := by
  unfold State.pairCounts
  extract_lets p heard view runs exit_ low under peerMiss wait back
  cases back with
  | false => exact .of_eq rfl rfl rfl
  | true => exact .of_ms rfl rfl rfl rfl

theorem State.claimActive_sameTick (s : State) : SameTick s s.claimActive := .of_ms rfl rfl rfl rfl

theorem State.promote_sameTick (s : State) (cause : Byte) : SameTick s (s.promote cause) := by
  unfold State.promote
  extract_lets synced ah s1 s2
  have hs1 : SameTick s s1 := .foldl (fun t l => .of_eq (by simp) (by simp) (by simp)) _ s
  exact hs1.trans (s1.claimActive_sameTick.trans (.of_eq (by simp [s2]) (by simp [s2]) (by simp [s2])))

theorem State.yieldBy_sameTick (s : State) (cause : BitVec 4) : SameTick s (s.yieldBy cause) :=
  .ite _ (s.gaveUp_sameTick _ _ _) (.ite _ (s.gaveUp_sameTick _ _ _) (.ite _ (s.gaveUp_sameTick _ _ _) (.ite _ (s.gaveUp_sameTick _ _ _)
    (.ite _ (s.gaveUp_sameTick _ _ _) (.refl s)))))

theorem State.pairClaims_sameTick (s : State) : SameTick s s.pairClaims := by
  unfold State.pairClaims
  split
  · split
    · exact s.yieldBy_sameTick _
    · exact .refl s
  · split
    · exact s.promote_sameTick _
    · exact .ite _ s.claimActive_sameTick (.refl s)

theorem State.pairTick_sameTick (s : State) (r : Reading) (v : Verdict) (claimed : Bool) : SameTick s (s.pairTick r v claimed) := by
  unfold State.pairTick
  split
  · exact .refl s
  · extract_lets s1
    have hs1 : SameTick s s1 := by
      simp only [s1]
      split
      · exact .ite _ (s.readPeer_sameTick _) (.refl s)
      · exact .refl s
    exact hs1.trans ((s1.pairCounts_sameTick r v).trans (State.pairClaims_sameTick _))

/-! ### Mailbox work, sealing and the switch (R350, R353, R414, R417) -/

theorem State.desk_sameTick (s : State) (f : Desk → Desk) : SameTick s (s.desk f) :=
  .of_aon (by simp) (by rw [State.desk_aon]) (by simp)

theorem State.posts_sameTick (s : State) (ps : List Post) : SameTick s (s.posts ps) := s.desk_sameTick _

theorem State.closeExhausted_sameTick (s : State) : SameTick s s.closeExhausted :=
  .foldl (fun t _ => .ite _ (t.desk_sameTick _) (.refl t)) _ s

theorem State.afterHostr_sameTick (s : State) : SameTick s s.afterHostr := by
  unfold State.afterHostr
  split
  · exact .refl s
  · extract_lets clr s1 s2
    have hs1 : SameTick s s1 := .foldl (fun t ch => .of_eq (by simp) (by simp) (by simp)) _ s
    have hs2 : SameTick s1 s2 := .foldl (fun t ch => t.desk_sameTick _) _ s1
    exact hs1.trans (hs2.trans (.of_eq rfl rfl rfl))

theorem State.countMsg_sameTick (s : State) (m : ReadMsg) (found : MsgCheck) : SameTick s (s.countMsg m found) := by
  unfold State.countMsg
  split
  · exact .refl s
  · exact .of_eq (by simp) (by simp) (by simp)
  · exact .of_eq (by simp) (by simp) (by simp)
  · extract_lets s1
    have hs1 : SameTick s s1 := .of_eq (by simp [s1]) (by simp [s1]) (by simp [s1])
    split
    · exact hs1
    · exact .ite _ (hs1.trans (.of_eq (by simp) (by simp) (by simp)))
        (hs1.trans ((s1.desk_sameTick _).trans (State.alarmNode_sameTick _ _ _)))

theorem State.sessionTick_sameTick (s : State) (r : Reading) (read : List (ReadMsg × MsgCheck)) : SameTick s (s.sessionTick r read) := by
  unfold State.sessionTick
  extract_lets s0 s1
  have hs0 : SameTick s s0 := .foldl (fun t x => t.countMsg_sameTick _ _) _ s
  have hs1 : SameTick s0 s1 := by
    refine .foldl (fun t p => ?_) _ s0
    split
    · exact t.desk_sameTick _
    · exact .refl t
  exact hs0.trans (hs1.trans (.foldl (fun t ch => .ite _ (.of_eq (by simp) (by simp) (by simp)) (t.desk_sameTick _)) _ s1))

theorem State.reseal_sameTick (s : State) : SameTick s s.reseal := by
  obtain ⟨⟨-, hbuf, -⟩, -, hsame⟩ := s.reseal_resealed
  have hms : s.reseal.ms = s.ms := hsame .ms (by simp)
  have haon : s.reseal.aon = s.aon := hsame .aon (by simp)
  exact .of_fields (by rw [hms]) (by rw [hms]) (by rw [haon]) (by rw [hbuf]) (by rw [hbuf])

theorem State.decideSwitch_sameTick (s : State) : SameTick s s.decideSwitch := by
  unfold State.decideSwitch
  split
  · exact .refl s
  · split
    · exact .refl s
    · extract_lets acked missing go lowest cnt d _ gal s1 code s2 s3
      have hs1 : SameTick s s1 := .of_eq rfl rfl rfl
      have hs2 : SameTick s s2 := hs1.trans (s1.raise_sameTick _ _ _ _ _)
      have hs3 : SameTick s s3 := (SameTick.ite _ hs2 (hs2.trans (s2.alarmNode_sameTick _ _))).trans (State.reseal_sameTick _)
      split
      · exact hs3
      · exact hs3.trans (s3.posts_sameTick _)

theorem State.holdCopy_sameTick (s : State) (l : Lane) (stream : BitVec 12) (x : Sealed) : SameTick s (s.holdCopy l stream x) :=
  s.modLaneSt_sameTick l _

theorem State.sealAll_sameTick (s : State) (who : BitVec 3) (outs : PerLane LaneOut) : SameTick s (s.sealAll who outs) := by
  unfold State.sealAll
  split
  · exact .refl s
  · extract_lets logs p1 s1 one s2 s3 g3 p3
    have hlogs : SameTick s logs.2 := by
      simp only [logs]
      split
      · exact .of_eq (by simp) (by simp) (by simp)
      · exact .refl s
    have hs1 : SameTick s s1 := hlogs.trans (.of_eq rfl rfl rfl)
    have hone (t : State) (c : StreamCfg) : SameTick t (one t c) := by
      simp only [one]
      have hseq : SameTick t { t with buf := { t.buf with txSeq := t.buf.txSeq.set c.stream.toNat (s1.nextSeq c.stream) } } :=
        .of_fields rfl rfl rfl rfl rfl
      exact .ite _ (.refl t) (hseq.trans (.foldl (fun u l => u.holdCopy_sameTick _ _ _) _ _))
    have hs2 : SameTick s1 s2 := .foldl hone _ s1
    have hring : SameTick s2 (logs.1.foldl State.ringCopy s2) := .foldl (fun t r => .of_eq (by simp) (by simp) (by simp)) _ s2
    have hs3 : SameTick s2 s3 := hring.trans (.of_eq (by simp [s3]) (by simp [s3]) (by simp [s3]))
    exact hs1.trans (hs2.trans (hs3.trans (.of_eq rfl rfl rfl)))

/-! ### The housekeeping of P5 (R35, R458, R495) -/

theorem State.proofTick_sameTick (s : State) : SameTick s s.proofTick := by
  unfold State.proofTick
  split
  · exact .refl s
  · next l _ =>
    split
    · exact s.laneReset_sameTick l
    · split
      · exact .of_eq (by simp) (by simp) (by simp)
      · exact .refl s

theorem State.takenTick_sameTick (s : State) : SameTick s s.takenTick := by
  unfold State.takenTick
  split
  · exact .ite _ (s.laneReset_sameTick _) (.refl s)
  · exact .refl s

theorem State.logTick_sameTick (s : State) (r : Reading) : SameTick s (s.logTick r) := .of_eq (by simp) (by simp) (by simp)

theorem State.housekeep_sameTick (s : State) (obs : TickObs) (o : LaneOut) (late : List Post) (read : List (ReadMsg × MsgCheck)) :
    SameTick s (s.housekeep obs o late read) := by
  unfold State.housekeep
  extract_lets s2 s3
  have hs2 : SameTick s s2 := s.afterHostr_sameTick.trans ((State.posts_sameTick _ _).trans ((State.sessionTick_sameTick _ _ _).trans
    (State.logTick_sameTick _ _)))
  have hs3 : SameTick s2 s3 := .foldl (fun t l => .ite _ (.of_eq (by simp) (by simp) (by simp)) (.refl t)) _ s2
  have htrial : SameTick s3 s3.trialTick := .of_eq (by simp) (by simp) (by simp)
  have hdue (t : State) : SameTick t t.deferTick.proofDue := .of_eq (by simp) (by simp) (by simp)
  have hqueue (t : State) : SameTick t t.loadGalQueue := .of_eq (by simp) (by simp) (by simp)
  exact hs2.trans (hs3.trans (htrial.trans ((State.takenTick_sameTick _).trans ((hdue _).trans ((State.proofTick_sameTick _).trans
    (hqueue _))))))

/-! ### The reset requests that a tick evaluates (R56, R57) -/

/-- R56: `t` is `s` after the WARM reset of a cleared latch, its time going on. -/
structure LatchWarm (s t : State) : Prop where
  mode : t.ms.mode = .boot
  kind : t.aon.kind = 3
  warmSrc : t.aon.warmSrc = 1
  latch : t.aon.latch = false
  time : t.aon.timeNs = s.aon.timeNs

/-- What a tick leaves: the tick that it began, or the WARM reset of a cleared latch. -/
def TickDone (s t : State) : Prop := SameTick s t ∨ LatchWarm s t

theorem SameTick.time {s t : State} (h : SameTick s t) : t.aon.timeNs = s.aon.timeNs := congrArg (fun c => c.2.1) h.clock

theorem SameTick.done {s t u : State} (h : SameTick s t) : TickDone t u → TickDone s u
  | .inl g => .inl (h.trans g)
  | .inr g => .inr ⟨g.mode, g.kind, g.warmSrc, g.latch, g.time.trans h.time⟩

/-- What leaves the mode register, the buffers, and of AON all but the session bits keeps what a tick leaves. -/
theorem TickDone.of_sessBits {s t u : State} (h : TickDone s t) (hms : u.ms = t.ms) (haon : ∃ b, u.aon = { t.aon with sessBits := b })
    (hbuf : u.buf = t.buf) : TickDone s u := by
  obtain ⟨b, haon⟩ := haon
  rcases h with h | ⟨hmode, hkind, hsrc, hlatch, htime⟩
  · exact .inl (h.trans (.of_aon hms (by rw [haon]) hbuf))
  · exact .inr ⟨by rw [hms]; exact hmode, by rw [haon]; exact hkind, by rw [haon]; exact hsrc, by rw [haon]; exact hlatch,
      by rw [haon]; exact htime⟩

theorem State.clearedWarm_done (s : State) (o : ResetOrigin) : TickDone s ((s.clearLatch.countClear o true).warmReset 1) := by
  obtain ⟨haon, -, hclear⟩ := s.clearLatch_effect
  obtain ⟨-, hcount⟩ := s.clearLatch.countClear_effect o
  generalize s.clearLatch = u at haon hclear hcount ⊢
  generalize u.countClear o true = v at hcount ⊢
  have hv : v.aon = { s.aon with latch := false, latchCause := 0, latchTick := 0, latrecPend := !s.nvm.ready } :=
    (hcount .aon (by simp)).trans haon
  have hms : v.ms = s.ms := (hcount .ms (by simp)).trans (hclear .ms (by simp))
  have hbuf : v.buf = s.buf := (hcount .buf (by simp)).trans (hclear .buf (by simp))
  unfold State.warmReset
  split
  · obtain ⟨hmode, -, -, -, hrestart, -⟩ := v.moduleReset_effect 3 1
    exact .inr ⟨hmode, hrestart.kind, hrestart.warmSrc, hrestart.latch.trans (by rw [hv]), hrestart.timeNs.trans (by rw [hv])⟩
  · exact .inl (.of_aon hms (by rw [hv]) hbuf)

theorem State.countClear_sameTick (s : State) (o : ResetOrigin) (did : Bool) : SameTick s (s.countClear o did) :=
  .of_eq (by simp) (by simp) (by simp)

theorem State.qualified_done (s : State) (o : ResetOrigin) (begun : Tick) : TickDone s (s.qualified o begun).1 := by
  unfold State.qualified
  split
  · exact .inl (.of_eq rfl rfl rfl)
  · exact .inl (.of_eq rfl rfl rfl)
  · extract_lets whole
    split
    · exact s.clearedWarm_done o
    · exact .inl (s.countClear_sameTick o false)
  · exact .inl (s.countClear_sameTick o false)

theorem State.takeResets_done (s : State) (rs : List (Option Chan × Tick × Byte × Request)) : TickDone s (s.takeResets rs) := by
  unfold State.takeResets
  refine foldl_invariant (p := TickDone s) (fun t r ht => ?_) rs (.inl (.refl s))
  extract_lets o did
  split
  · next hlock =>
    have hdid : TickDone s did.1 := by
      rcases ht with ht | ht
      · exact ht.done (t.qualified_done o r.2.1)
      · simp [ht.mode] at hlock
    split
    · exact hdid
    · exact hdid.of_sessBits rfl ⟨_, rfl⟩ rfl
  · exact ht.of_sessBits rfl ⟨_, rfl⟩ rfl

theorem State.countRetained_sameTick (s : State) (cs : List (Fin 9)) : SameTick s (s.countRetained cs) := by
  unfold State.countRetained
  extract_lets c
  have hcounted : SameTick s { s with aon := { s.aon with counters := c } } := .of_aon rfl rfl rfl
  exact .ite _ (.refl s) (hcounted.trans (State.appendRetService_sameTick _))

theorem State.effects_done (s : State) (v : Ev) : TickDone s (s.effects v) := by
  unfold State.effects
  extract_lets s1 _ _ _ s2 s3
  have hs1 : SameTick s s1 := (SameTick.of_eq (t := s.putRecs v.recs) (by simp) (by simp) (by simp)).trans (State.countRetained_sameTick _ _)
  have hs2 : SameTick s1 s2 := .of_eq rfl rfl rfl
  have hs3 : SameTick s2 s3 := by
    dsimp only [s3]
    split
    · exact .of_eq (by simp) (by simp) (by simp)
    · exact .refl s2
  exact (hs1.trans (hs2.trans (hs3.trans (s3.posts_sameTick _)))).done (State.takeResets_done _ _)

theorem TickDone.closeExhausted {s t : State} (h : TickDone s t) : TickDone s t.closeExhausted := by
  unfold State.closeExhausted
  refine foldl_invariant (p := TickDone s) (fun u ch hu => ?_) _ h
  split
  · exact hu.of_sessBits (by simp) ⟨_, u.desk_aon _⟩ (by simp)
  · exact hu

theorem TickDone.tickSources {s t : State} (h : TickDone s t) : TickDone s t.tickSources :=
  h.of_sessBits (by simp) ⟨t.aon.sessBits, by simp⟩ (by simp)

/-! ### The phases of a tick (R30-R35) -/

theorem State.phases_done (s : State) (seen : TickObs) (late : List Post) : TickDone s (s.phases seen late) := by
  unfold State.phases
  extract_lets obs members blocks echoes agrs rds first read claimed s1 _ _ s2 evaluate outs0 v s3 lead yields _ outs o s4 who s5
    checked _ _ s6 s7 s8 s9 s10 s11 s12 s13
  have h1 : SameTick s s1 := by
    have hreset (t : State) (agreed : Bool) : SameTick t (t.agreeReset agreed) := .of_eq (by simp) (by simp) (by simp)
    exact (s.pairAdopt_sameTick _).trans (hreset _ _)
  have h2 : SameTick s s2 := h1.trans (.of_eq rfl rfl rfl)
  have h3 : SameTick s2 s3 := s2.vote_sameTick obs v
  have hcond : SameTick s3 (s3.conditions obs members o.loc.k) := .of_fields rfl rfl rfl rfl rfl
  have h4 : SameTick s3 s4 := hcond.trans (State.tickFaults_sameTick _ obs o)
  have h5 : SameTick s4 s5 := .foldl (fun t l => .ite _ (.of_eq (by simp) (by simp) (by simp)) (.refl t)) _ s4
  have h6 : SameTick s5 s6 := .of_aon rfl rfl rfl
  have h7 : SameTick s6 s7 := by
    have hregs : SameTick s6 ((s6.chanRegs o).bankRegs obs o) := .of_eq (by simp) (by simp) (by simp)
    have hcounts (t : State) : SameTick t (t.tickCounts outs o) := .of_fields rfl rfl rfl rfl rfl
    have hmirror (t : State) : SameTick t ((t.mirrorTick who).galleryTick o.rd) := .of_eq (by simp) (by simp) (by simp)
    exact .ite _ (.refl s6) (hregs.trans ((hcounts _).trans (hmirror _)))
  have h8 : SameTick s7 s8 := s7.pairTick_sameTick _ _ _
  have h9 : SameTick s8 s9 := .ite _ (.of_eq (by simp) (by simp) (by simp)) (.refl s8)
  have h10 : SameTick s9 s10 := .of_eq (by simp [s10]) (by simp [s10]) (by simp [s10])
  have h11 : SameTick s10 s11 := by
    have hreq : SameTick s10 (if who = 0 then s10 else s10.switchReq o.ev) := .ite _ (.refl s10) (.of_eq (by simp) (by simp) (by simp))
    have hlog (t : State) : SameTick t t.writePair.flushLog := .of_eq (by simp) (by simp) (by simp)
    exact hreq.trans ((State.decideSwitch_sameTick _).trans ((State.sealAll_sameTick _ _ _).trans (hlog _)))
  have h12 : SameTick s11 s12 := s11.laneP5_sameTick obs _
  have h13 : SameTick s12 s13 := .of_eq (by simp [s13]) (by simp [s13]) (by simp [s13])
  have hall : SameTick s s13 :=
    h2.trans (h3.trans (h4.trans (h5.trans (h6.trans (h7.trans (h8.trans (h9.trans (h10.trans (h11.trans (h12.trans h13))))))))))
  split
  · exact .inl hall
  · exact ((hall.trans (s13.housekeep_sameTick obs o late read)).done (State.effects_done _ _)).closeExhausted

/-! ### The edge (R28, R38, R56) -/

theorem State.clearConds_sameTick (s : State) (o : ResetOrigin) (begun : Tick) : SameTick s (s.clearConds o begun).1 := by
  unfold State.clearConds
  extract_lets whole hold chans one s1
  have hs1 : SameTick s s1 := .of_eq (by simp [s1]) (by simp [s1]) (by simp [s1])
  exact .ite _ (hs1.trans (.of_ms rfl rfl rfl rfl)) hs1

theorem State.edgeClear_sameTick (s : State) : SameTick s s.edgeClear.1 := by
  unfold State.edgeClear
  refine foldl_invariant (p := fun acc : State × List Post => SameTick s acc.1) (fun acc e hacc => ?_) _ (SameTick.of_eq rfl rfl rfl)
  have hnext : SameTick s ((acc.1.clearConds e.1 e.2.1).1.countClear e.1 (acc.1.clearConds e.1 e.2.1).2) :=
    hacc.trans ((State.clearConds_sameTick _ _ _).trans (State.countClear_sameTick _ _ _))
  dsimp only
  split
  · exact hnext
  · exact hnext

@[simp] theorem State.galSilence_tbase (s : State) : s.galSilence.tim.tbase = s.tim.tbase := by
  unfold State.galSilence
  simp only [State.alarmNode_frame]
  split <;> rfl

theorem State.switchEdge_tbase (s : State) : s.switchEdge.tim.tbase = s.tim.tbase := by
  unfold State.switchEdge
  extract_lets n
  split
  · (repeat' split) <;> simp
  · split
    · split <;> simp
    · extract_lets held d
      (repeat' split) <;> simp

/-- What the edge sets: the next tick, its time, and the receive buffer of the tick before frozen. -/
theorem State.edge_effect (s : State) : s.edge.1.ms.tick = s.ms.tick + 1 ∧ s.edge.1.aon.timeNs = BitVec.ofNat 64 s.nextEdge ∧
    s.edge.1.buf.rxFrozen = s.buf.rxCur ∧ s.edge.1.buf.rxCur = [] ∧ (s.ms.mode.ticks → s.edge.1.ms.mode.ticks) := by
  obtain ⟨u, hu⟩ : ∃ u : State, u = s.edgeCopies.unlockPrevious.switchEdge := ⟨_, rfl⟩
  have hms : u.ms = s.ms := by rw [hu]; simp
  have haon : u.aon = s.aon := by rw [hu]; simp
  have hbuf : u.buf = s.buf := by rw [hu]; simp
  have hbase : u.tim.tbase = s.tim.tbase := by
    rw [hu, State.switchEdge_tbase]
    simp
  have hnext : u.nextEdge = s.nextEdge := by
    unfold State.nextEdge State.nowNs
    rw [hms, haon, hbase]
  unfold State.edge
  extract_lets s1 _ s2
  have hs2 : s2.ms.tick = s.ms.tick + 1 ∧ s2.ms.mode = s.ms.mode ∧ s2.aon.timeNs = BitVec.ofNat 64 s.nextEdge ∧ s2.buf = s.buf := by
    have hs1 : s1 = u.toEdge := congrArg State.toEdge hu.symm
    have e_ms : s1.ms = s.ms := (congrArg State.ms hs1).trans hms
    exact ⟨by rw [← e_ms], by rw [← e_ms], by rw [← hnext]; exact congrArg (fun x : State => x.aon.timeNs) hs1,
      (congrArg State.buf hs1).trans hbuf⟩
  obtain ⟨htick, hmode, htime, hcur⟩ := hs2
  have hnet : SameTick s2 s2.edgeNet.sendCycle :=
    SameTick.trans (t := s2.edgeNet) (.of_eq rfl rfl rfl) (.of_eq (by simp) (by simp) (by simp))
  generalize s2.edgeNet.sendCycle = v at hnet
  have hclear : SameTick v.edgeBuf v.edgeBuf.edgeMirror.edgeCounts.edgeClear.1 :=
    SameTick.trans (t := v.edgeBuf.edgeMirror.edgeCounts) (.of_eq (by simp) (by simp) (by simp)) (State.edgeClear_sameTick _)
  obtain ⟨hnclock, hnmode⟩ := hnet
  obtain ⟨hclock, hcmode⟩ := hclear
  simp only [State.clock, Prod.mk.injEq] at hclock hnclock
  obtain ⟨etick, etime, efrozen, ecur⟩ := hclock
  obtain ⟨ntick, ntime, -, ncur⟩ := hnclock
  refine ⟨etick.trans (ntick.trans htick), etime.trans (ntime.trans htime), efrozen.trans (ncur.trans (by rw [hcur])), ecur,
    fun h => hcmode (hnmode ?_)⟩
  rw [hmode]
  exact h

theorem State.runTick_effect (s : State) (obs : TickObs) (hmode : s.ms.mode.ticks) :
    (s.runTick obs).aon.timeNs = BitVec.ofNat 64 s.nextEdge ∧
      (((s.runTick obs).ms.tick = s.ms.tick + 1 ∧ (s.runTick obs).buf.rxFrozen = s.buf.rxCur ∧ (s.runTick obs).buf.rxCur = [] ∧
        (s.runTick obs).ms.mode.ticks) ∨
      ((s.runTick obs).ms.mode = .boot ∧ (s.runTick obs).aon.kind = 3 ∧ (s.runTick obs).aon.warmSrc = 1 ∧
        (s.runTick obs).aon.latch = false)) := by
  obtain ⟨u, hu⟩ : ∃ u : State, u = s.holdLog.edgeSupply obs := ⟨_, rfl⟩
  have hnext : u.nextEdge = s.nextEdge := by rw [hu]; rfl
  have hms : u.ms = s.ms := by rw [hu]; rfl
  have hbuf : u.buf = s.buf := by rw [hu]; rfl
  obtain ⟨etick, etime, efrozen, ecur, emode⟩ := u.edge_effect
  rw [hms, hbuf, hnext] at *
  have hdone : TickDone u.edge.1 (s.runTick obs) := by
    unfold State.runTick
    rw [← hu]
    extract_lets e s1 role s2
    have hs2 : SameTick s1 s2 := by
      have hrole : SameTick s1 s1.takeRole := by
        unfold State.takeRole
        split
        · exact .of_ms rfl rfl rfl rfl
        · exact .of_ms rfl rfl rfl rfl
        · exact .of_ms rfl rfl rfl rfl
        · exact .refl s1
      exact .ite _ (hrole.trans (.of_eq rfl rfl rfl)) (.refl s1)
    have hjoin : ¬ (s1.ms.mode == .join) = true := by
      intro h
      have hticks : s1.ms.mode.ticks := emode hmode
      rw [beq_iff_eq.mp h] at hticks
      simp [Mode.ticks] at hticks
    rw [if_neg hjoin]
    exact (hs2.done (s2.phases_done obs e.2)).tickSources
  rcases hdone with ⟨hclock, hticks⟩ | ⟨hboot, hkind, hsrc, hlatch, htime⟩
  · simp only [State.clock, Prod.mk.injEq] at hclock
    obtain ⟨ctick, ctime, cfrozen, ccur⟩ := hclock
    exact ⟨ctime.trans etime, .inl ⟨ctick.trans etick, cfrozen.trans efrozen, ccur.trans ecur, hticks (emode hmode)⟩⟩
  · exact ⟨htime.trans etime, .inr ⟨hboot, hkind, hsrc, hlatch⟩⟩

/-! ### A copy of the cycle-start frame that waited (R314, R332) -/

/-- A held copy is a sample of the tick, or its time cannot be reconciled and resets the module. -/
theorem State.takeHeld_effect {s : State} (hphase : s.pwr.phase = .normal) (hheld : s.ms.porHeld = false) :
    (s.net.heldCopy ≠ none ∧ s.takeHeld.ms.mode = .boot ∧ s.takeHeld.aon.kind = 3 ∧ s.takeHeld.aon.warmSrc = 2) ∨
    (s.takeHeld.tim.tbase = s.tim.tbase ∧ SameBut [.net, .tim, .sh, .log, .mail, .host] s s.takeHeld) := by
  unfold State.takeHeld
  split
  · next p rxNs body hcopy =>
    split
    · exact .inr ⟨rfl, .refl _ s⟩
    · unfold State.sample
      extract_lets theta rate _ _ s1 run
      have hs1 : SameBut [.net, .tim, .sh, .log, .mail, .host] s s1 := sameBut_of _ _ _ fun p => by cases p <;> simp [Part.agree, s1]
      split
      · obtain ⟨hmode, hkind, hsrc, -⟩ := State.timeWarm_effect (s := s1) hphase hheld
        exact .inl ⟨by rw [hcopy]; simp, hmode, hkind, hsrc⟩
      · obtain ⟨u, hu⟩ : ∃ u : State, u = { s1 with net := { s1.net with lockRun := run }, tim := { s1.tim with locked := run == 8 } } :=
          ⟨_, rfl⟩
        have hsu : SameBut [.net, .tim, .sh, .log, .mail, .host] s u :=
          hs1.trans (sameBut_of _ _ _ fun p => by cases p <;> simp [Part.agree, hu])
        have hguard := u.guard_guarded
        rw [← hu]
        refine .inr ⟨?_, hsu.trans hguard.same⟩
        rw [hguard.tim, hu]
  · exact .inr ⟨rfl, .refl _ s⟩

theorem State.clocked_eq {s : State} (hphase : s.pwr.phase = .normal) (hheld : s.ms.porHeld = false) (htus : s.ms.tUs ≠ 0) :
    s.clocked = (s.ms.mode != .boot && s.ms.mode != .prove) := by
  unfold State.clocked
  rw [hphase, hheld, bne_iff_ne.mpr htus]
  rfl

/-- Settles O21: the edge of a tick through its phases to the reset requests that it evaluates; JOIN unaligned; no clock. -/
theorem tickEdgeBeginsTheNextTick : Obligations.TickEdgeBeginsTheNextTick := by
  unfold Obligations.TickEdgeBeginsTheNextTick
  intro s obs
  refine ⟨fun hphase hheld htus hmode => ?_, fun hphase hheld htus hmode hnet => ?_, fun hmode => ?_⟩
  · have hclocked : s.clocked = true := by
      rcases hmode with h | h | h <;> simp [State.clocked_eq hphase hheld htus, h]
    have haligned : s.aligned = true := by
      rcases hmode with h | h | h <;> simp [State.aligned, h]
    have hexec : exec (.tickEdge obs) s =
        if !s.takeHeld.clocked then .next s.takeHeld else .next (s.takeHeld.runTick obs) := by
      show execTickEdge obs s = _
      unfold execTickEdge
      rw [if_neg (by simp [hclocked]), if_neg (by simp [haligned])]
    have hpending : s.takeHeld.pending = s.pending := by simp
    rcases State.takeHeld_effect hphase hheld with ⟨hcopy, hboot, hkind, hsrc⟩ | ⟨hbase, hsame⟩
    · exact ⟨s.takeHeld, hexec.trans (if_pos (by simp [State.clocked, hboot])), hpending, .inr ⟨hcopy, hboot, hkind, hsrc⟩⟩
    · have hms : s.takeHeld.ms = s.ms := hsame .ms (by simp)
      have haon : s.takeHeld.aon = s.aon := hsame .aon (by simp)
      have hbuf : s.takeHeld.buf = s.buf := hsame .buf (by simp)
      have hpwr : s.takeHeld.pwr = s.pwr := hsame .pwr (by simp)
      have hstill : s.takeHeld.clocked = true := by
        unfold State.clocked at hclocked ⊢
        rw [hms, hpwr]
        exact hclocked
      have hnext : s.takeHeld.nextEdge = s.nextEdge := by
        unfold State.nextEdge State.nowNs
        rw [hms, haon, hbase]
      obtain ⟨htime, hrest⟩ := s.takeHeld.runTick_effect obs (by rw [hms]; exact hmode)
      rw [hnext] at htime
      rw [hms, hbuf] at hrest
      exact ⟨_, hexec.trans (if_neg (by simp [hstill])), by simp, .inl ⟨htime, hrest⟩⟩
  · show execTickEdge obs s = _
    unfold execTickEdge
    rw [if_neg (by simp [State.clocked_eq hphase hheld htus, hmode]), if_pos (by rcases hnet with h | h <;> simp [State.aligned, hmode, h])]
    rfl
  · show execTickEdge obs s = _
    exact if_pos (by rcases hmode with h | h <;> simp [State.clocked, h])

end Sys2Proof.Machine
end
